-- ==== Sys2Proof/Word.lean ====
section
/-! DEFINITION. The word types of the KC-8840 model and the sparse table every numbered group of
units (registers, candidates, sequencers, ports ...) is held in. -/

namespace Sys2Proof

/-- A register word (R5). -/
abbrev Word := BitVec 32
/-- A byte of a packet, record or memory (R4). -/
abbrev Byte := BitVec 8
/-- A sequencer half word (R142). -/
abbrev Half := BitVec 16
/-- A 64-bit value: GNS, a DRAM address, LINK. -/
abbrev DWord := BitVec 64
/-- A 96-bit value: signed Q64.32 nanoseconds (R3). -/
abbrev TWord := BitVec 96
/-- A sequencer accumulator (R141). -/
abbrev AccWord := BitVec 40

/-- A table keyed by number. A key that is not listed reads as the default its reader gives, so a
group of units at reset is the empty table. -/
abbrev Tab (α : Type) := List (Nat × α)

/-- What the table holds at `k`, or `d` where it lists nothing. -/
def Tab.get {α : Type} : Tab α → Nat → α → α
  | [], _, d => d
  | (j, v) :: r, k, d => if j = k then v else Tab.get r k d

/-- The table with `v` at `k`; keys stay in rising order. -/
def Tab.set {α : Type} : Tab α → Nat → α → Tab α
  | [], k, v => [(k, v)]
  | (j, w) :: r, k, v =>
    if j = k then (k, v) :: r
    else if k < j then (k, v) :: (j, w) :: r
    else (j, w) :: Tab.set r k v

/-- Bits `hi` to `lo` of a number, as R2 writes a range. -/
def bits (n hi lo : Nat) : Nat := n / 2 ^ lo % 2 ^ (hi + 1 - lo)

/-- Bit `b` of a number is 1. -/
def bitOn (n b : Nat) : Bool := n / 2 ^ b % 2 = 1

/-- One bit of a status word. -/
def bit1 (b : Bool) (pos : Nat) : Nat := if b then 2 ^ pos else 0

/-- A count that stops at its largest value (R8's saturating counters). -/
def satAdd (limit n k : Nat) : Nat := min limit (n + k)

/-- A signed number read from the low `w` bits of `n`. -/
def sext (w n : Nat) : Int :=
  if n % 2 ^ w < 2 ^ (w - 1) then (n % 2 ^ w : Nat) else ((n % 2 ^ w : Nat) : Int) - (2 ^ w : Nat)

/-- Division that truncates toward zero. -/
def truncDiv (a b : Int) : Int := Int.tdiv a b

/-- Division that truncates toward minus infinity. -/
def floorDiv (a b : Int) : Int := Int.fdiv a b

/-- Division rounded up, for a positive divisor. -/
def ceilDiv (a b : Nat) : Nat := (a + b - 1) / b

/-- `x / 2^k` rounded half to even (R151). -/
def roundHalfEven (x : Int) (k : Nat) : Int :=
  let q := Int.fdiv x (2 ^ k : Nat)
  let r := x - q * (2 ^ k : Nat)
  if k > 0 ∧ (r > (2 ^ (k - 1) : Nat) ∨ (r = (2 ^ (k - 1) : Nat) ∧ q % 2 = 1)) then q + 1 else q

/-- A signed value held to `w` bits. -/
def satTo (w : Nat) (v : Int) : Int :=
  max (-(2 ^ (w - 1) : Nat)) (min ((2 ^ (w - 1) : Nat) - 1) v)

/-- A signed value lies in the signed `w`-bit range. -/
def inSigned (w : Nat) (v : Int) : Bool :=
  decide (-(2 ^ (w - 1) : Nat) ≤ v) && decide (v < (2 ^ (w - 1) : Nat))

/-- The low `w` bits of an integer. -/
def wrapTo (w : Nat) (v : Int) : BitVec w := BitVec.ofInt w v

/-- A word made of a number (its low 32 bits). -/
def w32 (n : Nat) : Word := BitVec.ofNat 32 n

/-- The little-endian bytes of an `n`-byte number (R4). -/
def bytesLE : Nat → Nat → List Byte
  | 0, _ => []
  | n + 1, v => BitVec.ofNat 8 v :: bytesLE n (v / 256)

/-- The big-endian bytes of an `n`-byte number. -/
def bytesBE (n v : Nat) : List Byte := (bytesLE n v).reverse

/-- The number that little-endian bytes spell. -/
def leNat : List Byte → Nat
  | [] => 0
  | b :: r => b.toNat + 256 * leNat r

/-- The number that big-endian bytes spell. -/
def beNat (l : List Byte) : Nat := leNat l.reverse

/-- The 32-bit words of a byte string, low byte first (R4). -/
def wordsOfBytes : List Byte → List Word
  | a :: b :: c :: d :: r => BitVec.ofNat 32 (leNat [a, b, c, d]) :: wordsOfBytes r
  | [] => []
  | l => [BitVec.ofNat 32 (leNat l)]

/-- The bytes of a list of words, low byte first (R4). -/
def bytesOfWords (l : List Word) : List Byte := l.flatMap fun w => bytesLE 4 w.toNat

/-- The `k` words of a wide value, low word first (R6, R7). -/
def wordsOf : Nat → Nat → List Word
  | 0, _ => []
  | k + 1, v => BitVec.ofNat 32 v :: wordsOf k (v / 2 ^ 32)

/-- The number that words spell, low word first. -/
def natOfWords : List Word → Nat
  | [] => 0
  | w :: r => w.toNat + 2 ^ 32 * natOfWords r

end Sys2Proof
end

