-- ==== Sys2Proof/Syntax.lean ====
section
/-! DEFINITION. The commands of the KC-8840: one constructor of `Instr` for each row of
spec/opcode_table.json. Their operands are typed, so a command names only units the device has. -/

namespace Sys2Proof

/-- Who makes an access: each holds one read latch of its own (R6). -/
inductive Requester where
  | host | sideband | warden
  | seq (n : Fin 160)
  deriving DecidableEq, Repr

/-- A register access width and place is judged under R5; the width is in bytes. -/
structure Access where
  size : Nat
  addr : Word
  deriving DecidableEq, Repr

/-- The boundaries at which class E fields take effect (R11), each with the unit it belongs to. -/
inductive Boundary where
  /-- The Gauge second. -/
  | second
  /-- The 125 µs row. -/
  | row
  /-- The GNSS latch edge (R135). -/
  | latch
  /-- The dump boundary of a tracking channel (R129). -/
  | dump (c : Fin 192)
  /-- A frame arriving at an Ethernet port (R196). -/
  | frame (p : Fin 8)
  /-- The next pulse of a PPSO (R99). -/
  | pulse (j : Fin 4)
  /-- A block of an AES3 port; `out` tells outputs from inputs (R259). -/
  | block (out : Bool) (p : Fin 16)
  /-- The end of the frame in progress on a sideband transport (chapter 16). -/
  | sideband
  deriving DecidableEq, Repr

/-- The calibrated units of R118. -/
inductive CalUnit where
  | tdc (c : Fin 24) (ipB : Bool)
  | eth (p : Fin 8) (rx : Bool)
  | stl (l : Fin 4) (rx : Bool)
  deriving DecidableEq, Repr

/-! ### Tabxo operands (R173, R175) -/

/-- The kind of an address register in format AX. -/
inductive AxKind where
  | x | m | l
  deriving DecidableEq, Repr

/-- An accumulator. -/
inductive Acc where
  | a0 | a1
  deriving DecidableEq, Repr

/-- The memory a descriptor names (R173). -/
inductive SMem where
  | D | C | P
  deriving DecidableEq, Repr

/-- The post-modify of a descriptor (R173). -/
inductive Mod where
  | keep
  | byM
  | byImm (imm : BitVec 8)
  deriving DecidableEq, Repr

/-- A memory operand descriptor (R173). -/
structure MD where
  mem : SMem
  x : Fin 8
  mod : Mod
  deriving DecidableEq, Repr

/-- The operand selectors of R150. -/
inductive HalfSel where
  | H | L | S24H | S24L
  deriving DecidableEq, Repr

/-- The multiplier mode: whether operand A and operand B are read unsigned (R184). -/
structure SMode where
  aUnsigned : Bool
  bUnsigned : Bool
  deriving DecidableEq, Repr

/-- The parallel load of R185: the P word at xXP goes to gGP, with post-modify by mXP if `byM`. -/
structure PLoad where
  gp : Fin 16
  xp : Fin 8
  byM : Bool
  deriving DecidableEq, Repr

/-- Format X: the memory form of a multiply (R184, R185). -/
structure MulMem where
  acc : Acc
  sm : SMode
  selA : HalfSel
  selB : HalfSel
  mda : MD
  mdb : MD
  pl : Option PLoad
  deriving DecidableEq, Repr

/-- Format XR: the register form of a multiply (R184). -/
structure MulReg where
  acc : Acc
  sm : SMode
  selA : HalfSel
  selB : HalfSel
  ga : Fin 16
  gb : Fin 16
  deriving DecidableEq, Repr

/-! ### Packets -/

/-- A PTP dataset as an Announce carries it (R222). -/
structure Dataset where
  prio1 : Byte
  cls : Byte
  acc : Byte
  oslv : Half
  prio2 : Byte
  clockId : DWord
  steps : Half
  timeSource : Byte
  deriving DecidableEq, Repr

/-- The PTP message types of R223 to R231. -/
inductive PtpKind where
  | sync | followUp | delayReq | delayResp | pdelayReq | pdelayResp | pdelayRespFollowUp | announce | signaling
  deriving DecidableEq, Repr

/-- The three grant types of a unicast session (R230). -/
inductive GrantKind where
  | announce | sync | delayResp
  deriving DecidableEq, Repr

/-- An AES3 subframe: the 24 audio bits with the auxiliary ones, the validity, user and channel status bits, and the parity bit (R256). -/
structure AesSub where
  audio : BitVec 24
  v : Bool
  u : Bool
  c : Bool
  p : Bool
  deriving DecidableEq, Repr

/-- One AES3 frame: whether its preamble is Z, and its subframes (R256). -/
structure Aes3Frame where
  z : Bool
  a : AesSub
  b : AesSub
  deriving DecidableEq, Repr

/-- The audio objects of R264. -/
inductive AudObj where
  | rxs (s : Fin 512)
  | txs (s : Fin 512)
  | aesi (p : Fin 16)
  | aeso (p : Fin 16)
  deriving DecidableEq, Repr

/-- A strip of the mix (R279, R283). -/
inductive Strip where
  | input (i : Fin 1024)
  | output (o : Fin 1024)
  deriving DecidableEq, Repr

/-- A partial sum as PSEND and PRECV carry it (R323). -/
structure Partial where
  link : Fin 4
  output : Fin 1024
  tag : Half
  words : List Word
  deriving DecidableEq, Repr

/-- A received pause frame (R200): PAUSE with its quanta, or PFC with its class vector and the quanta of the eight classes. -/
inductive PauseFrame where
  | pause (quanta : Half)
  | pfc (vec : Byte) (quanta : Vector Half 8)
  deriving DecidableEq, Repr

/-- A biquad of a strip (R282): one of the four of an input, or of the eight of an output. -/
inductive BiquadNo where
  | input (bq : Fin 4)
  | output (bq : Fin 8)
  deriving DecidableEq, Repr

/-- What a sync carries beside its words (R333): the images loaded, and the sequence numbers of the time service. -/
structure SyncData where
  imgs : List (Fin 160 × List Byte)
  seqs : List (Fin 512 × Half)
  deriving DecidableEq, Repr

/-- The widths of the PCIe link (R360). -/
inductive PcieWidth where
  | x1 | x2 | x4
  deriving DecidableEq, Repr

/-- The staged key parameters of R291. -/
inductive KeyParam where
  | attr
  | ctx
  | data (w : Fin 10)
  deriving DecidableEq, Repr

/-- A Stitch marker's fields (R314). -/
structure Marker where
  frame : BitVec 24
  role : BitVec 3
  ready : Bool
  advise : Bool
  sev : BitVec 3
  state : BitVec 2
  echo : BitVec 12
  ecode : BitVec 10
  /-- A step notice received since the last marker named this FRAME (R313, R316). -/
  noticed : Bool
  deriving DecidableEq, Repr

/-- A Stitch identity block with the millisecond marker's time and the twin identity (R314). -/
structure Identity where
  domain : Half
  devnum : BitVec 12
  hops : BitVec 6
  upv : Bool
  upstream : BitVec 12
  bound : Word
  pairid : Half
  unit : Bool
  gns : DWord
  deriving DecidableEq, Repr

/-- A word of configuration with its address. -/
structure AddrWord where
  addr : Word
  val : Word
  deriving DecidableEq, Repr

/-- What the peer of a twin sends of its TSV state (R331): a session entry with its grants, or the sequenceId counter of a message type, to
multicast or to a destination with its port identity and address. -/
inductive TwinUpdate where
  | session (n : Fin 4096) (words : List Word)
  | seqId (p : Fin 8) (k : PtpKind) (dest : Option (DWord × Half × Bool × BitVec 128)) (next : Half)
  deriving DecidableEq, Repr

/-- A DMA descriptor (R363). -/
structure Desc where
  haddr : DWord
  daddr : DWord
  len : BitVec 24
  op : BitVec 4
  irq : Bool
  port : Fin 8
  tc : Fin 8
  tsReq : Bool
  oneStep : Bool
  tag : Half
  deriving DecidableEq, Repr

/-- A sideband transport (R367). -/
inductive SbdPath where
  | i3c | i2c | uart
  deriving DecidableEq, Repr

/-- A symbol that a DRAM device no longer holds as it was written: the address of its codeword, its transfer and device (R371), and
which of its four bits differ. -/
structure SymErr where
  addr : DWord
  xfer : Fin 4
  dev : Fin 10
  flip : BitVec 4
  deriving DecidableEq, Repr

/-- The commands. The first operand of a gated write is the requester that makes it. An operand of type Unit says nothing: all that such a
row acts on stands in the state. -/
inductive Instr where
  /- Registers (R5 to R12, R59, R312). -/
  | registerWrite (r : Requester) (a : Access) (v : Word)
  | lowWordRead (r : Requester) (addr : Word)
  | wideWrite (r : Requester) (addr v : Word)
  | rcRead (r : Requester) (addr : Word)
  | epochBoundaryApply (b : Boundary)
  | auditRecordWrite
  | gateRelease
  | auditBusyTimeout
  | deferredRecord
  | logAck (r : Requester) (seq : Word) (link : DWord)
  | logTailRead (r : Requester)
  | logTail2Read (r : Requester)
  | wardenRestart (verifies : Bool)
  | gauSnapRead (r : Requester)
  /- The Gauge (R39 to R58). -/
  | heartbeatTimeout
  | holdoverMsTick
  | slewAmtWrite (r : Requester) (amt : DWord)
  | stepAtWrite (r : Requester) (at_ : DWord)
  | stepEdge
  | stepCancel (r : Requester)
  | witnessRelease
  | stepAck (r : Requester) (seq : Half)
  | holdExpiry
  | guardBreach
  | breachWitnessClose
  | guardWindowRestart
  | leapSecond
  /- Reference selection (R61 to R82). -/
  | candidateEnable (r : Requester) (k : Fin 31) (en : Bool)
  | candidateObservation (k : Fin 30) (_ : Unit)
  | candidateLoss (k : Fin 30)
  | selSecond
  | candidateQualify (k : Fin 30)
  | commitRequest
  | switchCommit
  | commitAuditTimeout
  | fselChange
  | hostsetWrite (r : Requester) (t : DWord)
  | hostsetQualify
  | post (n : Fin 16) (slot : Fin 32) (delta : TWord) (u bc : Word) (meas : DWord) (ln : Word)
  | disq (n : Fin 16) (slot : Fin 32)
  /- Holdover and outputs (R84 to R106). -/
  | hldSecond
  | atomPpsEdge
  | grpcSnapWrite (r : Requester)
  | grpcSnap
  | outputEnable (r : Requester) (i : Fin 20)
  | ppsPulse (j : Fin 4)
  | todMessage (j : Fin 2)
  | wclkRealignWrite (r : Requester) (j : Fin 2)
  | wclkRealign (j : Fin 2)
  | squelchRelease (i : Fin 20)
  /- Interval measurement (R107 to R121). -/
  | tdcEdge (src : Fin 64) (fall : Bool) (codes : Vector (Fin 640) 48)
  | tdcTimeout (c : Fin 24)
  | calInjection (u : CalUnit) (code : Fin 640) (_ : Unit)
  | calPassExpiry (u : CalUnit)
  | tableSwap (u : CalUnit)
  | tensionVisitEnd
  /- GNSS baseband (R122 to R140). -/
  | feClockLost (f : Fin 4)
  | feSecond (f : Fin 4) (_ _ : Unit)
  | spiTransaction (r : Requester) (tx : DWord)
  | spiDone (rx : DWord)
  | channelEnable (r : Requester) (c : Fin 192) (en : Bool)
  | start (n : Fin 16) (c : Fin 192) (codeNco carrNco : Word) (ph : BitVec 48) (scnt : DWord)
  | stop (n : Fin 16) (c : Fin 192)
  | channelTrack (c : Fin 192)
  | update (n : Fin 16) (c : Fin 192) (codeNco carrNco : Word)
  | dumpBoundary (c : Fin 192) (_ _ _ : Unit)
  | acqGo (r : Requester) (j : Fin 16)
  | acqCancel (r : Requester) (j : Fin 16)
  | acqJobDone (_ : Unit)
  | measurementLatch (_ : Unit)
  | swatchGo (r : Requester)
  | swatchStart (_ : Unit)
  | swatchEnd (_ _ : Unit)
  | swatchAbort (r : Requester)
  | setind (n : Fin 16) (b : Byte)
  | clrind (n : Fin 16) (b : Byte)
  | indicatorClear (b : Fin 4)
  /- Sequencers (R141 to R171). -/
  | seqRun (r : Requester) (n : Fin 160) (atRow unfence : Bool)
  | seqStart (n : Fin 160)
  | seqStop (r : Requester) (n : Fin 160)
  | unfence (r : Requester) (n : Fin 160)
  | watchdogExpiry (n : Fin 160)
  | schedEventDue (k : Fin 10)
  | imageLoad (r : Requester) (k : Fin 10) (mask : Half)
  | imageLoadDone (k : Fin 10)
  | seqmemWrite (r : Requester) (a : Access) (v : Word)
  /- Tabxo: control (R178). The first operand is the sequencer that executes. -/
  | nop (n : Fin 160)
  | wdk (n : Fin 160)
  | clrs (n : Fin 160)
  | ret (n : Fin 160)
  | rdid (n : Fin 160) (gd : Fin 16)
  | b (n : Fin 160) (tw : BitVec 12)
  | bcc (n : Fin 160) (cond : Fin 16) (tw : BitVec 12)
  | call (n : Fin 160) (tw : BitVec 12)
  | br (n : Fin 160) (ga : Fin 16)
  /- Tabxo: integer operations (R179). -/
  | add (n : Fin 160) (gd ga gb : Fin 16)
  | addc (n : Fin 160) (gd ga gb : Fin 16)
  | sub (n : Fin 160) (gd ga gb : Fin 16)
  | subb (n : Fin 160) (gd ga gb : Fin 16)
  | and (n : Fin 160) (gd ga gb : Fin 16)
  | or (n : Fin 160) (gd ga gb : Fin 16)
  | xor (n : Fin 160) (gd ga gb : Fin 16)
  | cmp (n : Fin 160) (ga gb : Fin 16)
  | tst (n : Fin 160) (ga gb : Fin 16)
  | min (n : Fin 160) (gd ga gb : Fin 16)
  | max (n : Fin 160) (gd ga gb : Fin 16)
  | shl (n : Fin 160) (gd ga gb : Fin 16)
  | shr (n : Fin 160) (gd ga gb : Fin 16)
  | sar (n : Fin 160) (gd ga gb : Fin 16)
  | mov (n : Fin 160) (gd ga : Fin 16)
  | neg (n : Fin 160) (gd ga : Fin 16)
  | abs (n : Fin 160) (gd ga : Fin 16)
  | not (n : Fin 160) (gd ga : Fin 16)
  | addi (n : Fin 160) (gd ga : Fin 16) (imm : Half)
  | andi (n : Fin 160) (gd ga : Fin 16) (imm : Half)
  | ori (n : Fin 160) (gd ga : Fin 16) (imm : Half)
  | xori (n : Fin 160) (gd ga : Fin 16) (imm : Half)
  | cmpi (n : Fin 160) (ga : Fin 16) (imm : Half)
  | shli (n : Fin 160) (gd ga : Fin 16) (k : BitVec 5)
  | shri (n : Fin 160) (gd ga : Fin 16) (k : BitVec 5)
  | sari (n : Fin 160) (gd ga : Fin 16) (k : BitVec 5)
  | ldi (n : Fin 160) (gd : Fin 16) (imm : Half)
  | lui (n : Fin 160) (gd : Fin 16) (imm : Half)
  | ldil (n : Fin 160) (gd : Fin 16) (imm : Word)
  /- Tabxo: address registers (R180). -/
  | ldx (n : Fin 160) (kind : AxKind) (k : Fin 8) (imm : Half)
  | mvta (n : Fin 160) (kind : AxKind) (k : Fin 8) (ga : Fin 16)
  | mvfa (n : Fin 160) (gd : Fin 16) (kind : AxKind) (k : Fin 8)
  | lea (n : Fin 160) (md : MD)
  /- Tabxo: loads, stores and accumulators (R181 to R185). -/
  | ldw (n : Fin 160) (gd : Fin 16) (md : MD)
  | ldh (n : Fin 160) (gd : Fin 16) (md : MD)
  | ldhu (n : Fin 160) (gd : Fin 16) (md : MD)
  | stw (n : Fin 160) (gb : Fin 16) (md : MD)
  | sth (n : Fin 160) (gb : Fin 16) (md : MD)
  | lda (n : Fin 160) (acc : Acc) (md : MD)
  | addm (n : Fin 160) (acc : Acc) (md : MD)
  | st16 (n : Fin 160) (md : MD) (acc : Acc) (k : Fin 32) (sat : Bool)
  | st32 (n : Fin 160) (md : MD) (acc : Acc) (k : Fin 32) (sat : Bool)
  | rda (n : Fin 160) (gd : Fin 16) (acc : Acc) (k : BitVec 6) (wide sat : Bool)
  | clr (n : Fin 160) (acc : Acc)
  | acmb (n : Fin 160)
  | mvga (n : Fin 160) (acc : Acc) (ga : Fin 16) (k : BitVec 6)
  | addga (n : Fin 160) (acc : Acc) (ga : Fin 16) (k : BitVec 6)
  | adda (n : Fin 160) (acc : Acc)
  | suba (n : Fin 160) (acc : Acc)
  | nega (n : Fin 160) (acc : Acc)
  | shla (n : Fin 160) (acc : Acc) (k : BitVec 6)
  | sara (n : Fin 160) (acc : Acc) (k : BitVec 6)
  | norm (n : Fin 160) (acc : Acc) (gd : Fin 16)
  | exp (n : Fin 160) (gd : Fin 16) (acc : Acc)
  | mac (n : Fin 160) (m : MulMem)
  | msu (n : Fin 160) (m : MulMem)
  | mpy (n : Fin 160) (m : MulMem)
  | macr (n : Fin 160) (m : MulReg)
  | msur (n : Fin 160) (m : MulReg)
  | mpyr (n : Fin 160) (m : MulReg)
  /- Tabxo: repeats (R186). -/
  | rpt (n : Fin 160) (cnt : Half)
  | rptReg (n : Fin 160) (ga : Fin 16)
  | rptb (n : Fin 160) (cnt : Half) (eofs : Byte)
  | rptbReg (n : Fin 160) (ga : Fin 16) (eofs : Byte)
  /- Tabxo: time, ports and the register port (R187 to R191). -/
  | grd (n : Fin 160) (gk : Fin 16)
  | waitt (n : Fin 160) (gk : Fin 16) (mask : Half)
  | sched (n : Fin 160) (port : Fin 16) (gk : Fin 16) (code : Half)
  | gadj (n : Fin 160) (gk : Fin 16) (f p : Bool)
  | gstep (n : Fin 160) (gk : Fin 16) (clr : Bool)
  | gbnd (n : Fin 160) (gk : Fin 16) (lock : Bool)
  | chsend (n : Fin 160) (port : Fin 16) (x : Fin 8) (inc : Bool)
  | chrecv (n : Fin 160) (port : Fin 16) (x : Fin 8) (inc : Bool)
  | mbsend (n : Fin 160) (ga : Fin 16) (x : Fin 8) (inc : Bool)
  | mbrecv (n : Fin 160) (x : Fin 8) (inc : Bool)
  | rdreg (n : Fin 160) (gd ga : Fin 16)
  | wrreg (n : Fin 160) (gb ga : Fin 16)
  /- Ethernet (R193 to R216). -/
  | linkDown (p : Fin 8)
  | linkUp (p : Fin 8)
  | frameReceive (p : Fin 8) (bytes : List Byte) (fcsOk : Bool) (code : Fin 640)
  | pauseRepeat (p : Fin 8)
  | pauseReceive (p : Fin 8) (pfc : Bool) (vec : Byte) (quanta : Vector Half 8) (fcsOk : Bool)
  | pauseExpiry (p : Fin 8) (c : Fin 8)
  | preemptVerify (p : Fin 8) (responded : Bool)
  | launchDecision (p : Fin 8)
  | txStampStore (p : Fin 8) (_ : Unit)
  | ethTxtsPop (r : Requester) (p : Fin 8)
  | rowCycleStart (p : Fin 8)
  | rowSwapRequest (r : Requester) (p : Fin 8)
  | slotStart (p : Fin 8)
  | rowLiveWrite (r : Requester) (p : Fin 8) (i : Fin 256) (gate : Bool) (v : Word)
  | ethMarker (p : Fin 8) (_ _ : Unit)
  /- Time service (R217 to R244). -/
  | syncInstant (p : Fin 8) (s : Option (Fin 4096))
  | announceInstant (p : Fin 8) (s : Option (Fin 4096))
  | delayReqInstant (p : Fin 8)
  | pdelayReqInstant (p : Fin 8)
  | followUpLaunch (p : Fin 8)
  | ptpMessageReceive (p : Fin 8) (_ : Unit)
  | ptpSecond
  | foreignMasterTimeout (p : Fin 8) (clockId : DWord) (portNo : Half)
  | unicastRequest (p : Fin 8) (_ : Unit)
  | unicastCancel (p : Fin 8) (_ : Unit)
  | grantExpiry (s : Fin 4096) (k : GrantKind)
  | unicastRenew (p : Fin 8) (u : Fin 4) (k : GrantKind)
  | unicastRetry (p : Fin 8) (u : Fin 4) (k : GrantKind)
  | ntpRequest (p : Fin 8) (_ : Unit)
  | ntsRequest (p : Fin 8) (_ : Unit)
  | mintRequest
  | ntsRotAtWrite (r : Requester) (at_ : DWord)
  | ntsRotation
  | ntsRetire (r : Requester)
  /- Audio and mix (R245 to R285, R323). -/
  | audStop (r : Requester)
  | rowStart
  | streamPacketReceive (p : Fin 8)
  | streamPacketLaunch (s : Fin 512)
  | aes3FrameReceive (p : Fin 16) (f : Aes3Frame)
  | aes3UnlockTimeout (p : Fin 16)
  | aes3AsrcLoss (p : Fin 16)
  | aes3AsrcRun (p : Fin 16)
  | aes3FrameSend (p : Fin 16)
  | outrow (n : Fin 160) (o : Fin 1024) (tag : Half) (samples : List Word)
  | stripDeadline
  | delayLineDeadline (o : Fin 1024)
  | zeroCrossingApply (obj : AudObj) (ch : Nat)
  | zcTimeout (obj : AudObj) (ch : Nat)
  | streamEnable (r : Requester) (obj : AudObj)
  | streamDisable (r : Requester) (obj : AudObj)
  | stopComplete (obj : AudObj)
  | triggerArm (r : Requester) (at_ : DWord)
  | triggerFire
  | nodeWrite (r : Requester) (node : Fin 1048576) (v : Word)
  | fetch (n : Fin 160)
  | mixRowUpdate
  | biquadCommit (r : Requester) (c : Fin 1024) (bq : BiquadNo) (a2 : Word)
  | meterBlockEnd
  | psend (n : Fin 160) (q : Partial)
  | partialSumSlot (received : List Partial)
  /- Keys, fuses and reports (R286 to R302). -/
  | keyParamWrite (r : Requester) (k : KeyParam) (v : Word)
  | keyGenerate (r : Requester) (slot : Fin 64)
  | keyImport (r : Requester) (slot : Fin 64)
  | keyUnwrap (r : Requester) (parent slot : Fin 64)
  | keyDerive (r : Requester) (parent slot : Fin 64)
  | keyInvalidate (r : Requester) (slot : Fin 64)
  | keyZeroize (r : Requester)
  | keySweep
  | tamperTrigger (src : Fin 4)
  | fuseArm (r : Requester) (v : Word)
  | fuseDebugClose (r : Requester)
  | fuseOwnerLock (r : Requester)
  | fuseOwnerKeyHash (r : Requester)
  | fuseRollback (r : Requester) (i : Fin 4) (v : BitVec 6)
  | fuseBlowDone
  | jtagSession
  | reportRequest (r : Requester) (q : Fin 16)
  | reportSigned (q : Fin 16)
  /- Stitch and twins (R313 to R337). -/
  | stlFrameStart (l : Fin 4)
  | markerReceive (l : Fin 4) (m : Marker) (ident : Identity) (code : Fin 640)
  | stlLockLoss (l : Fin 4)
  | rtjumpClear (l : Fin 4)
  | peersend (n : Fin 16) (l : Fin 4) (words : List Word)
  | twinEnable (r : Requester) (en : Bool)
  | pairTimeout
  | relinquishBlockReceive (l : Fin 4)
  | twinAliveEdge
  | relinqCommand (r : Requester)
  | mirrorWriteReceive (q : AddrWord) (apply : DWord)
  | mirrorApply
  | mirrorConfirmTimeout
  | twinSyncRequest
  | twinSyncApply (ws : List AddrWord) (d : SyncData)
  | twinStateUpdate (q : TwinUpdate)
  | twinSecond
  | rowDigestReceive (tag : Half) (digest : DWord)
  | handoverRequest (r : Requester)
  | handoverInstant
  | cmpVoteLow
  /- Faults, recorder and counters (R338 to R356). -/
  | faultAssert (src : Fin 32) (unit : Half)
  | faultInactive (src : Fin 32)
  | resume (r : Requester)
  | aliveToggle
  | injectGo (r : Requester) (dry : Bool) (src : BitVec 6) (unit : Half)
  | injectCancel (r : Requester)
  | injectExpiry
  | recorderCommit
  | recClrAll (r : Requester)
  | recClrCnt (r : Requester)
  | recSnap (r : Requester)
  | unitClr (r : Requester) (u : Fin 12)
  | unitMeasWrite (r : Requester) (u : Fin 12) (v : Word)
  | pmcCounterWrite (r : Requester) (i : Fin 1024) (v : Word)
  | sweepGo (r : Requester)
  | sweepPeriodic
  | sweepDone
  | instructionSample (n : Fin 160) (taken cache : Bool) (stall : Half) (delta : Word) (cause : Byte)
  /- Host, sideband and memory (R357 to R377). -/
  | topOwnerWrite (r : Requester) (v : Word)
  | dmaDoorbell (r : Requester) (q : Fin 16) (prod : Half)
  | dmaTx (q : Fin 16) (d : Desc) (frame : List Byte)
  | dmaRx (q : Fin 16) (d : Desc)
  | dmaCopyIn (q : Fin 16) (d : Desc) (data : List Byte)
  | dmaCopyOut (q : Fin 16) (d : Desc)
  | dmaBulkWr (q : Fin 16) (d : Desc) (data : List Word)
  | dmaBulkRd (q : Fin 16) (d : Desc)
  | dmaComplete (q : Fin 16)
  | mbxGo (r : Requester)
  | mbxResponse
  | mbxAck (r : Requester)
  | sidebandFrame (path : SbdPath) (bytes : List Byte)
  | uartFrameGap
  | read (seq : Byte) (addr : Word) (cnt : Nat)
  | write (seq : Byte) (addr : Word) (words : List Word)
  | info (seq : Byte)
  | configSave (seq : Byte) (img : Byte)
  | configSelect (seq : Byte) (img : Byte)
  | bindoff (seq : Byte) (zeroize : Bool)
  | setdasa (addr : BitVec 7)
  | entdaa (addr : BitVec 7)
  | rstdaa
  | setmwl (v : Half)
  | setmrl (v : Half)
  | getstatus
  | enec (events : Byte)
  | disec (events : Byte)
  | scrubPass (errs : List SymErr) (_ : Unit)
  | spareGo (r : Requester) (ch : Fin 2) (dev : BitVec 4)
  | spareCopyDone (ch : Fin 2)
  | starveLimit (q : Fin 16) (_ : Unit)
  /- Cast-on, power and the late rows (R381 to R390). -/
  | resetAssert
  | resetRelease (vbatLost : Bool)
  | huacheraRun (verified : Bool)
  | pwrgoodFall
  | pwrgoodRise (xo : Bool)
  | xoPresent
  | coreResetRelease (locked : Bool)
  | castGo (r : Requester)
  | gaugeStart
  | memTrainDone (ok0 ok1 : Bool)
  | memSelftestDone (ok : Bool)
  | topConfigSave (r : Requester) (img : Fin 4)
  | configSaveDone
  | topConfigSelect (r : Requester) (img : Fin 4) (none_ : Bool)
  | topBindoffGo (r : Requester) (zeroize : Bool)
  | bindoffDone
  | atomPpsTimeout
  | postLifetimeExpiry (k : Fin 30)
  | timeWaitDue (n : Fin 160)
  | tamperConditionEnd (src : Fin 4)
  | vbatLoss
  | aonSupplyRemoval
  | pcieLinkDown
  | pcieLinkUp (gen : Fin 5) (width : PcieWidth)
  | stlBadSyncHeaders (l : Fin 4)
  deriving DecidableEq, Repr

end Sys2Proof
end

