-- ==== Sys2Proof/Decode.lean ====
section
/-! DEFINITION. The table's word decoder. No row of spec/opcode_table.json gives bits, so no word spells a command; the words of the
Tabxo instructions (R172 to R192), which the sequencers fetch from their own P memory, are decoded in Machine/TabxoCode.lean. -/

namespace Sys2Proof

/-- The command that a word of the table's bits spells: none, since no row has bits. -/
def decodeTableWord (_nbits _w : Nat) : Option Instr := none

end Sys2Proof
end

