-- ==== Sys2Proof/Machine/Mem.lean ====
section
/-! DEFINITION. Addressed memories (sequencer P, C and D memory, external DRAM): the bytes that differ from 0,
in rising order of address. A byte that is not listed reads as 0. -/

namespace Sys2Proof.Machine

/-- The byte at an address. -/
def memGet : List Host.Cell → Nat → Byte
  | [], _ => 0
  | (k, v) :: r, a => if k = a then v else memGet r a

/-- The memory with byte `b` at `a`, in canonical form. -/
def memSet : List Host.Cell → Nat → Byte → List Host.Cell
  | [], a, b => if b = 0 then [] else [(a, b)]
  | (k, v) :: r, a, b =>
    if a < k then (if b = 0 then (k, v) :: r else (a, b) :: (k, v) :: r)
    else if a = k then (if b = 0 then r else (a, b) :: r)
    else (k, v) :: memSet r a b

/-- Bytes stored from an address on. -/
def memPut : List Host.Cell → Nat → List Byte → List Host.Cell
  | m, _, [] => m
  | m, a, b :: bs => memPut (memSet m a b) (a + 1) bs

/-- `n` bytes from an address on. -/
def memTake (m : List Host.Cell) (a : Nat) : Nat → List Byte
  | 0 => []
  | n + 1 => memGet m a :: memTake m (a + 1) n

/-- The little-endian word at an address (R4). -/
def memWord (m : List Host.Cell) (a : Nat) : Word := BitVec.ofNat 32 (leNat (memTake m a 4))

/-- The little-endian half at an address. -/
def memHalf (m : List Host.Cell) (a : Nat) : Half := BitVec.ofNat 16 (leNat (memTake m a 2))

/-- The memory with a word at an address. -/
def memPutWord (m : List Host.Cell) (a : Nat) (w : Word) : List Host.Cell := memPut m a (bytesLE 4 w.toNat)

/-- Every address listed is above `a`. -/
def memAbove (a : Nat) : List Host.Cell → Bool
  | [] => true
  | (k, v) :: r => decide (a < k) && decide (v ≠ 0) && memAbove k r

/-- The canonical form: addresses strictly rising, no entry 0. -/
def memWf : List Host.Cell → Bool
  | [] => true
  | (k, v) :: r => decide (v ≠ 0) && memAbove k r

end Sys2Proof.Machine
end

