-- ==== Sys2Proof/Machine/StAud.lean ====
section
/-! DEFINITION. State of audio (chapter 11) and of the mix fabric (chapter 12). Samples are signed numbers; a media index and
a row number count from the epoch of T_C. -/

namespace Sys2Proof.Machine

/-- A wait for a zero crossing (R263): object, channel, whether the channel starts, and k0 as an index at the object's
rate. -/
structure ZcWait where
  obj : AudObj
  ch : Nat
  on_ : Bool
  k0 : Nat
  deriving DecidableEq, Repr

/-- The content of the channels of an object: whether each is on, and the index from which that holds. -/
abbrev ChGate := Tab (Bool × Nat)

/-- A receive stream: STATE, its SSRC and the index of its first sample, the last sequence number of each leg, the samples by
media index (one value a channel), and the content of its channels. -/
structure Rxs where
  st : Nat
  ssrc : Option Nat
  first : Nat
  seqs : Tab Nat
  buf : Tab (List Int)
  gate : ChGate
  deriving DecidableEq, Repr

/-- A receive stream at reset. -/
def Rxs.reset : Rxs := ⟨0, none, 0, [], [], []⟩

/-- A transmit stream: STATE, its next sequence number, the first media row of its next packet, and the content of its
channels. -/
structure Txs where
  st : Nat
  seq : Nat
  next : Option Nat
  gate : ChGate
  deriving DecidableEq, Repr

/-- A transmit stream at reset. -/
def Txs.reset : Txs := ⟨0, 0, none, []⟩

/-- An AES3 input: STATE; consecutive frames in the window; local times of the last preamble and of the settling of its
rate; the rates measured in the last 10 ms with their local times; the samples before; the samples by index; the
content of its subframes; and the block in progress: its frames and its channel status and user bits by subframe. -/
structure AesIn where
  st : Nat
  run : Nat
  seen : Nat
  settle : Option Nat
  rates : List (Nat × Nat)
  lastA : Int
  lastB : Int
  buf : Tab (List Int)
  gate : ChGate
  frames : Option Nat
  cs : Tab Nat
  ub : Tab Nat
  deriving DecidableEq, Repr

/-- An AES3 input at reset. -/
def AesIn.reset : AesIn := ⟨0, 0, 0, none, [], 0, 0, [], [], none, [], []⟩

/-- An AES3 output: STATE, with 5 while it waits for the trigger; the index at which its frames begin and the index of
the last one; the content of its subframes; whether the line is held low. -/
structure AesOut where
  st : Nat
  start : Option Nat
  last : Option Nat
  gate : ChGate
  low : Bool
  deriving DecidableEq, Repr

/-- An AES3 output at reset: the line is low. -/
def AesOut.reset : AesOut := ⟨0, none, none, [], true⟩

/-- A media row (R260): the samples of each output, and the outputs that had no OUTROW. -/
structure MediaRow where
  outs : Tab (List Int)
  miss : List Nat
  deriving DecidableEq, Repr

/-- A strip: the history x[n−1], x[n−2], y[n−1], y[n−2] of its biquads and high-pass section (8), the on-die delay
line, newest first, the meter block so far: peak, sum of squares, samples; and METER as last updated. -/
structure StripSt where
  hist : Tab (Int × Int × Int × Int)
  line : List Int
  pk : Nat
  sq : Nat
  cnt : Nat
  met : Nat
  deriving DecidableEq, Repr

/-- A strip at reset. -/
def StripSt.reset : StripSt := ⟨[], [], 0, 0, 0, 0x80008000⟩

/-- Audio. `starts` are the objects whose start has not completed; `frozen` the inputs of the
row in progress after their strips and the quarters of them that the Skein has delivered; `rowMsgs` the OUTROW messages of that row by output; `stripRow` the row whose STRIP deadline has passed; `media` the latest media rows; `trigAt` the
instant of the start trigger. -/
structure Aud where
  rxs : Tab Rxs
  txs : Tab Txs
  aesi : Tab AesIn
  aeso : Tab AesOut
  waits : List ZcWait
  starts : List AudObj
  frozen : Option (List (List Int) × Nat)
  rowMsgs : Tab (List Int)
  stripRow : Option Int
  media : Tab MediaRow
  trigAt : Nat
  deriving DecidableEq, Repr

/-- Audio at reset. -/
def Aud.reset : Aud := ⟨[], [], [], [], [], [], none, [], none, [], 0⟩

/-- A running ramp (R274, R275): node, g0, g1, N, k, and whether the node stays active. -/
structure Ramp where
  node : Nat
  g0 : Int
  g1 : Int
  n : Nat
  k : Nat
  act : Bool
  deriving DecidableEq, Repr

/-- The mix. `waits` are the changes not yet started in their order, each the node with its written word; `plan` is the
row whose changes have been sent, with the new word in force of each changed node; `bqs` the biquads to
commit at the next row, by the address of their B0; strips are numbered inputs first, then outputs from 1,024; `metRows` the rows of
the meter block so far. -/
structure Mix where
  ramps : List Ramp
  waits : List (Nat × Nat)
  plan : Option (Int × List (Nat × Nat))
  bqs : List Nat
  strips : Tab StripSt
  metRows : Nat
  deriving DecidableEq, Repr

/-- The mix at reset. -/
def Mix.reset : Mix := ⟨[], [], none, [], [], 0⟩

end Sys2Proof.Machine
end

