-- ==== Sys2Proof/Machine/StBase.lean ====
section
/-! DEFINITION. State that every block shares: origins and refusal codes, the audit log and the write
gate, the read latches, the refusal logs of the two paths, and what leaves the device. -/

namespace Sys2Proof.Machine

/-- The origin of a change (R307). -/
inductive Origin where
  | host | sideband | warden | twin | hardware
  | seq (n : Nat)
  deriving DecidableEq, Repr

/-- The ORIGIN byte of a record (R307): 0x10 + i for TSi, 0x20 + j for MSj. -/
def Origin.code : Origin → Nat
  | .host => 0x00
  | .sideband => 0x01
  | .warden => 0x02
  | .twin => 0x03
  | .hardware => 0x04
  | .seq n => 0x10 + n

/-- The origin of a requester's changes. -/
def Origin.ofReq : Requester → Origin
  | .host => .host
  | .sideband => .sideband
  | .warden => .warden
  | .seq n => .seq n

/-- The refusal codes (R309). -/
inductive Code where
  | none | static | range | late | busy | owner | seqWperm | imageOnly | fenced | stale
  | refusedHeld | coreOff | unmapped | badtag | invalid | attr | unwrapFail | tamper | loadCheck
  | width | breach | auditBusy | auditFull | wardenDown
  deriving DecidableEq, Repr

/-- The value of a refusal code (R309). -/
def Code.num : Code → Nat
  | .none => 0
  | .static => 1
  | .range => 2
  | .late => 3
  | .busy => 4
  | .owner => 5
  | .seqWperm => 6
  | .imageOnly => 7
  | .fenced => 8
  | .stale => 9
  | .refusedHeld => 10
  | .coreOff => 11
  | .unmapped => 12
  | .badtag => 13
  | .invalid => 14
  | .attr => 15
  | .unwrapFail => 16
  | .tamper => 17
  | .loadCheck => 18
  | .width => 19
  | .breach => 20
  | .auditBusy => 32
  | .auditFull => 33
  | .wardenDown => 34

/-- A record of the audit log (R307). `cont` is the continuation of an extended record. -/
structure LogRec where
  gns : Nat
  addr : Nat
  old : Nat
  new : Nat
  kind : Nat
  applied : Bool
  rsv : Bool
  deferred : Bool
  origin : Nat
  code : Nat
  seq : Nat
  cont : Option (List Byte)
  link : Nat
  deriving DecidableEq, Repr

/-- The ring slots a record takes (R307). -/
def LogRec.slots (r : LogRec) : Nat := if r.cont.isSome then 2 else 1

/-- A gated change (R303). A register write names the register by its first address and carries the
whole value, so a wide write is one change (R7). -/
inductive Change where
  /-- A write of a mapped register. -/
  | reg (addr value : Nat)
  /-- A write that names no register: unmapped, or of a wrong width (R5, R31). -/
  | bad (addr value : Nat) (code : Code)
  /-- A word of sequencer memory (R165). -/
  | seqmem (addr value : Nat)
  /-- A bulk write; `tag` names the DMA queue that waits for it (R304). -/
  | bulk (addr : Nat) (data : List Word) (queue : Nat)
  /-- A selection commit (R81): transaction, candidate. -/
  | commit (txn cand : Nat)
  /-- A change of the frequency selection (R79): the new winner. -/
  | fsel (cand : Nat)
  /-- A step request of GSTEP (R60): sequencer, instant, amount, CLR. -/
  | gstep (n : Nat) (at_ : Nat) (amt : Int) (clr : Bool)
  /-- A bind-off command from the sideband (R389). -/
  | bindoff (zeroize : Bool)
  /-- A configuration select or save command (R388): slot, none for SELECT without a slot. -/
  | cfgSelect (img : Option Nat)
  | cfgSave (img : Nat)
  deriving DecidableEq, Repr

/-- A change in the write gate. `ownerOk` is the ownership test made at arrival (R358); `recorded` is the
sequence number of its record once that is written; `at_` is the arrival on the Warden clock; `gauge` the Gauge of the
submitting edge in 2^-32 ns, and `cand30` whether CAND30 was enabled at it (R72). -/
structure GateEntry where
  ch : Change
  org : Origin
  ownerOk : Bool
  at_ : Nat
  recorded : Option Nat
  /-- The apply instant A of a mirrored write (R332). -/
  apply : Option Nat
  gauge : Nat
  cand30 : Bool
  deriving DecidableEq, Repr

/-- The audit log and the write gate (chapter 13). `ring` holds the unacknowledged records oldest first;
`rsv` the entries of the reserved area in use. -/
structure Log where
  ring : List LogRec
  tail : Nat
  seq : Nat
  link : Nat
  rsv : Tab LogRec
  gapUnaud : Nat
  gapFull : Nat
  gate : List GateEntry
  /-- A configuration capture holds the gate (R388). -/
  held : Bool
  /-- Hardware changes made while Warden or the AON domain was down, to be recorded (R306). -/
  owed : List LogRec
  /-- The acknowledged records, newest first, which stay in their slots until new ones replace them. -/
  freed : List LogRec
  deriving DecidableEq, Repr

/-- A requester's read latch (R6). For the LOG window `b`, `j` and `used` are what R312 latches. -/
structure Latch where
  addr : Nat
  val : Nat
  b : Nat
  j : Nat
  used : Nat
  deriving DecidableEq, Repr

/-- HST_WERR or SBD_WERR (R359); COUNT is a read-cleared field. -/
structure WErr where
  code : Nat
  addr : Nat
  deriving DecidableEq, Repr

/-- The number of a requester among the latches. -/
def reqId : Requester → Nat
  | .host => 0
  | .sideband => 1
  | .warden => 2
  | .seq n => 3 + n.val

end Sys2Proof.Machine
end

