-- ==== Sys2Proof/Machine/StCtl.lean ====
section
/-! DEFINITION. State of the fault block, the recorder and the counters (chapter 15). -/

namespace Sys2Proof.Machine

/-- A fault source (R338 to R341): its condition, the local time of its last assertion, the severity
applied then, and what STAT reports. STICKY and COUNT are kept with the register fields. -/
structure FltSrc where
  cond : Bool
  last : Option Nat
  eff : Nat
  inj : Bool
  unit : Nat
  deriving DecidableEq, Repr

/-- A fault source at reset. -/
def FltSrc.reset : FltSrc := ⟨false, none, 0, false, 0⟩

/-- Fault injection (R346): STATE 0 IDLE, 1 ARMED, 2 FIRED, 3 EXPIRED. -/
structure Inj where
  state : Nat
  code : Nat
  src : Nat
  unit : Nat
  dry : Bool
  at_ : Nat
  deriving DecidableEq, Repr

/-- The fault block. `haltLatch` and the Warden fields are of the AON domain (R343, R344). -/
structure Flt where
  srcs : Tab FltSrc
  relinq : Bool
  halt : Bool
  haltLatch : Bool
  alive : Bool
  lastSrc : Nat
  lastUnit : Nat
  lastGns : Nat
  inj : Inj
  deriving DecidableEq, Repr

/-- Warden (R344): whether it runs, when FLT declared it down, and when it was last restarted. -/
structure Warden where
  up : Bool
  downAt : Option Nat
  restarted : Option Nat
  deriving DecidableEq, Repr

/-- FLT has declared Warden down (R35). -/
def Warden.down (w : Warden) : Bool := !w.up && w.downAt.isSome

/-- A histogram unit (R350); `any` tells whether it has a sample since it was cleared. -/
structure RecUnit where
  any : Bool
  min : Int
  max : Int
  minGns : Nat
  maxGns : Nat
  bins : Tab Nat
  deriving DecidableEq, Repr

/-- A histogram unit that has been cleared. -/
def RecUnit.clear : RecUnit := ⟨false, 0, 0, 0, 0, []⟩

/-- A recorder record (R351); `seq` is given when it is committed, `units` is bytes 64 to 1,983, and `mark` tells that its MARK
is written. -/
structure RecRecord where
  seq : Nat
  code : Nat
  arg : Nat
  gfr : Nat
  gns : Nat
  bound : Nat
  state : Nat
  level : Nat
  count : Nat
  supp : Nat
  units : List Byte
  mark : Bool
  deriving DecidableEq, Repr

/-- The recorder (R348 to R352): per code COUNT and the Gauge instant of the last committing trigger;
the units; the commit buffers, oldest first, of which the first is in progress; the slots; HEAD and the newest SEQ; and the
paths of the CLR_ALL that wait for the commit in progress. -/
structure Rec where
  count : Tab Nat
  lastTrig : Tab Nat
  units : Tab RecUnit
  bufs : List RecRecord
  slots : Tab RecRecord
  head : Nat
  seq : Nat
  clr : List Nat
  deriving DecidableEq, Repr

/-- A performance counter (R353). -/
structure PmcCnt where
  count : Nat
  ovf : Bool
  deriving DecidableEq, Repr

/-- A snapshot bank (R355). -/
structure PmcBank where
  seq : Nat
  gns : Nat
  gfr : Nat
  entries : Tab PmcCnt
  tailSeq : Nat
  deriving DecidableEq, Repr

/-- A snapshot bank at reset. -/
def PmcBank.reset : PmcBank := ⟨0, 0, 0, [], 0⟩

/-- A running sweep (R355): edge E0, first and last counter, its bank. -/
structure Sweep where
  e0 : Nat
  first : Nat
  last : Nat
  bank : Nat
  deriving DecidableEq, Repr

/-- The counters (R353 to R356). `sampLost` counts the samples lost since the last stored record. -/
structure Pmc where
  cnt : Tab PmcCnt
  sweep : Option Sweep
  lastBank : Nat
  sweepSeq : Nat
  banks : Tab PmcBank
  sampProd : Nat
  sampLost : Nat
  deriving DecidableEq, Repr

end Sys2Proof.Machine
end

