-- ==== Sys2Proof/Machine/StHst.lean ====
section
/-! DEFINITION. State of the host interface, the sideband and external memory (chapter 16), and of cast-on and the
configuration (chapter 17). -/

namespace Sys2Proof.Machine

/-- A DMA descriptor in progress (R363): its number in the queue, IRQ, and RESULT, CODE and RXLEN once it is done. -/
structure DmaFl where
  id : Nat
  irq : Bool
  result : Option (Nat × Nat × Nat)
  deriving DecidableEq, Repr

/-- A DMA queue: CONS, the descriptors taken and not completed, oldest first, and the number of the next one. -/
structure Dma where
  cons : Nat
  flight : List DmaFl
  next : Nat
  deriving DecidableEq, Repr

/-- A DMA queue at reset. -/
def Dma.reset : Dma := ⟨0, [], 0⟩

/-- The host interface: the PCIe link's SPEED and WIDTH while it is up; that it went down and has not come up again (R34); the words of HST_MBX_REQ; Warden's mailbox
queue, oldest first, and whether the operation of its head has begun; the response in HST_MBX_RSP; whether the last GO
was refused; the DMA queues. -/
structure Hst where
  pcie : Option (Nat × Nat)
  down : Bool
  req : Tab Nat
  mbx : List (List Byte)
  began : Bool
  rsp : Option (List Byte)
  busy : Bool
  dma : Tab Dma
  /-- The addresses of host reads that wait behind host writes (R361), oldest first. -/
  reads : List Nat
  deriving DecidableEq, Repr

/-- The host interface at reset. -/
def Hst.reset : Hst := ⟨none, false, [], [], false, none, false, [], []⟩

/-- A WRITE of the sideband in progress: SEQ, ADDR, the number of words, the index of the next one, the words not yet issued, and
whether a word is in the write gate (R369). -/
structure SbdWr where
  seq : Nat
  addr : Nat
  n : Nat
  i : Nat
  rest : List Nat
  busy : Bool
  deriving DecidableEq, Repr

/-- The sideband: Warden's queue of frames without their CRC, oldest first; the SEQ and CMD of a command that answers when its
operation ends; a WRITE in progress; a partial UART frame; the I3C dynamic address, maximum write and read lengths; and whether in-band
interrupts are enabled. -/
structure Sbd where
  queue : List (List Byte)
  owes : Option (Nat × Nat)
  wr : Option SbdWr
  uart : List Byte
  daddr : Option Nat
  mwl : Nat
  mrl : Nat
  ints : Bool
  deriving DecidableEq, Repr

/-- The sideband at reset. The maximum lengths are those of the longest frame. -/
def Sbd.reset : Sbd := ⟨[], none, none, [], none, 1030, 1030, true⟩

/-- A symbol in error (R371): the address of its codeword, its transfer b, its device d, and the bits in which it differs from what was
written. -/
structure CwErr where
  cw : Nat
  b : Nat
  d : Nat
  flip : Nat
  deriving DecidableEq, Repr

/-- A transaction of a requester (R374): when it was asked for, by channel the beats that it has left to issue and those it has issued,
and the local time at which it became pending. -/
structure MemTx where
  req : Nat
  at_ : Nat
  left : Tab Nat
  issued : Tab Nat
  since : Option Nat
  deriving DecidableEq, Repr

/-- A channel at the arbiter (R374, R375): the requester that holds it, that its transaction has no beats left on this channel, how much
of the beat in progress has passed, the beats of the current window, and by requester those it was granted there. -/
structure MemCh where
  holder : Option Nat
  ended : Bool
  phase : Nat
  win : Nat
  grants : Tab Nat
  deriving DecidableEq, Repr

/-- An idle channel at the start of a window. -/
def MemCh.reset : MemCh := ⟨none, false, 0, 0, []⟩

/-- External memory: the channels trained (bits), READY, a failure of training or self-test, the symbols in error, by channel the STATE of
the spare and the device it is for, by 16·channel + device the corrections of the present scrub pass, the transactions in the order of
their requests, and the channels at the arbiter. -/
structure MemS where
  trained : Nat
  ready : Bool
  failed : Bool
  errs : List CwErr
  spare : Tab Nat
  spareDev : Tab Nat
  passCorr : Tab Nat
  txs : List MemTx
  chans : Tab MemCh
  deriving DecidableEq, Repr

/-- External memory before training. -/
def MemS.reset : MemS := ⟨0, false, false, [], [], [], [], [], []⟩

/-- A configuration image (R387): its words by address, and SEQ_IMG of the sequencers that have one. -/
structure Img where
  words : List (Nat × Nat)
  seqs : List (Nat × List Byte)
  deriving DecidableEq, Repr

/-- Cast-on, power and configuration (chapter 17). `rstn` is RESET_N; `aon` the AON supply; `lock` that the HALT latch held when
this cast-on reached core reset release (R385); `go` that t_go is due; `haltMark`, `slots`, `sel` and `store` (the QSPI sequencer images)
are held without power; `save` is the capture in progress with its slot, `saveOrg` and `bindOrg` who is answered when a
save or bind-off ends; `copies` are Warden's copies of the sequencer
images in use; `csSt` and `csCode` are TOP_CONFIG's STATE and CODE, `bind` TOP_BINDOFF's STATE, `bindSeq` the sequence
number of the BINDOFF record. -/
structure Cast where
  rstn : Bool
  aon : Bool
  pwrgood : Bool
  xo : Bool
  st : Nat
  warm : Bool
  part : Bool
  img : Nat
  code : Nat
  lock : Bool
  go : Bool
  haltMark : Bool
  slots : Tab (Option Img)
  sel : Option Nat
  store : List (List Byte)
  save : Option (Nat × Img)
  saveOrg : Origin
  copies : List (List Byte)
  csSt : Nat
  csCode : Nat
  bind : Nat
  bindOrg : Origin
  bindSeq : Nat
  deriving DecidableEq, Repr

/-- Cast-on while the AON domain is held in reset; MRAM holds nothing. -/
def Cast.reset : Cast where
  rstn := false
  aon := true
  pwrgood := false
  xo := false
  st := 0
  warm := false
  part := false
  img := 0
  code := 0
  lock := false
  go := false
  haltMark := false
  slots := []
  sel := none
  store := []
  save := none
  saveOrg := .warden
  copies := []
  csSt := 0
  csCode := 0
  bind := 0
  bindOrg := .warden
  bindSeq := 0

end Sys2Proof.Machine
end

