-- ==== Sys2Proof/Machine/StKey.lean ====
section
/-! DEFINITION. State of the KEY block, the fuses and the attested reports (chapter 13). -/

namespace Sys2Proof.Machine

/-- A bank of a key slot (R286): KEY, ATTR and TAG. -/
structure KeyBank where
  key : List Byte
  attr : Nat
  tag : Nat
  deriving DecidableEq, Repr

/-- A bank of zeros. -/
def KeyBank.zero : KeyBank := ⟨[], 0, 0⟩

/-- A key slot (R286): the banks, the commit word, and whether the last check of its tag failed (R290). -/
structure KeySlot where
  b0 : KeyBank
  b1 : KeyBank
  commit : Nat
  bad : Bool
  deriving DecidableEq, Repr

/-- An EMPTY slot. -/
def KeySlot.empty : KeySlot := ⟨KeyBank.zero, KeyBank.zero, 0, false⟩

/-- The KEY block. `writer` is the requester (by number) that last wrote the staged parameters; `lanes` the slot and GEN each
lane's working key register holds; `conds` the tamper conditions that last; `zeroed` a zeroization since
cast-on. -/
structure Key where
  slots : Tab KeySlot
  attr : Nat
  ctx : Nat
  data : Tab Nat
  writer : Option Nat
  lanes : Tab (Nat × Nat)
  conds : List Nat
  count : Nat
  zeroed : Bool
  deriving DecidableEq, Repr

/-- The KEY block with empty slots. -/
def Key.reset : Key := ⟨[], 0, 0, [], none, [], [], 0, false⟩

/-- The fuses (R299) and a blow in progress: the fuse code and its value (R300); `armAt` is the instant of the arming
write on the Warden clock. -/
structure Fuses where
  debugClose : Bool
  ownerLock : Bool
  hashv : Bool
  hash : List Byte
  rollback : Tab Nat
  armAt : Option Nat
  staged : Tab Nat
  blow : Option (Nat × Nat)
  deriving DecidableEq, Repr

/-- Fuses as they come: none that the owner programs is blown. -/
def Fuses.reset : Fuses := ⟨false, false, false, [], [], none, [], none⟩

/-- A request slot for attested reports (R301): STATE, CODE, the nonce words, bytes 0 to 191 as captured, and the
signed report. -/
structure AttSlot where
  st : Nat
  code : Nat
  nonce : Tab Nat
  cap : List Byte
  rep : List Byte
  deriving DecidableEq, Repr

/-- A request slot at reset. -/
def AttSlot.reset : AttSlot := ⟨0, 0, [], [], []⟩

/-- The reports: the request slots, the report counter of MRAM, and a JTAG session since cast-on. -/
structure Att where
  slots : Tab AttSlot
  serial : Nat
  jtag : Bool
  deriving DecidableEq, Repr

end Sys2Proof.Machine
end

