-- ==== Sys2Proof/Machine/StMeas.lean ====
section
/-! DEFINITION. State of interval measurement (chapter 5) and of the satellite baseband (chapter 6). -/

namespace Sys2Proof.Machine

/-- A calibrated unit (R116 to R119). Tables are held as hits per code; none is the nominal table. `prev` is
the previous table with its generation; `pass` the pass in progress, which began at local time `passAt`;
`ready` a valid table that waits for its swap; `swapAt` the local time of the last swap. `live` and `stamped` are the coarse edges of the
last live edge that entered the lookahead delay and of the last one stamped, and `injAt` the local time of the last injection (R115). -/
structure CalU where
  gen : Nat
  tab : Option (Tab Nat)
  prev : Option (Nat × Option (Tab Nat))
  pass : Tab Nat
  hits : Nat
  passAt : Nat
  ready : Option (Tab Nat)
  swapAt : Option Nat
  live : Option Nat
  stamped : Option Nat
  injAt : Option Nat
  deriving DecidableEq, Repr

/-- A calibrated unit at cast-on. -/
def CalU.reset : CalU := ⟨0, none, none, [], 0, 0, none, none, none, none, none⟩

/-- A stamp: the Gauge bus values of its coarse edge, that edge on the local time, the interpolator's code,
which interpolator, and the generation (R107). -/
structure StampV where
  gfr : Nat
  gns : Nat
  bound : Nat
  state : Nat
  l : Nat
  code : Nat
  ipB : Bool
  gen : Nat
  deriving DecidableEq, Repr

/-- A record on its way to the destinations of a channel (R113, R114): its type, source, stamps, whether it is for a stop edge alone, and
whether it goes to the port and to the ring. -/
structure TdcRec where
  type : Nat
  src : Nat
  a : StampV
  b : Option StampV
  lone : Bool
  port : Bool
  ring : Bool
  deriving DecidableEq, Repr

/-- A TDC channel (R110 to R114). `nStart` and `nStop` are the prescalers, `turnB` whose turn it is in STAMP
mode, `start` and `stop` the stamps of the pair in hand, `rearm` the local time of the last re-arm edge, `seenA`
and `seenB` the last stamp of each interpolator, `lostP` and `lostR` the records lost since the last stored
one; `tmo` is the TIMEOUT of this arming; `fifo` holds the records that wait, and `drainAt` is the local time from which the next one may
leave. -/
structure TdcCh where
  nStart : Nat
  nStop : Nat
  turnB : Bool
  start : Option StampV
  stop : Option StampV
  rearm : Option Nat
  seenA : Option (Nat × Nat)
  seenB : Option (Nat × Nat)
  lostP : Nat
  lostR : Nat
  prod : Nat
  tmo : Nat
  fifo : List TdcRec
  drainAt : Nat
  deriving DecidableEq, Repr

/-- A TDC channel at reset. -/
def TdcCh.reset : TdcCh := ⟨0, 0, false, none, none, none, none, none, 0, 0, 0, 1000000000, [], 0⟩

/-- The TDC: the channels, the calibrated units by number (TDC 2c + ip from 0, ETH 2p + rx from 48, STL 2l + rx
from 64), the visit of the loopback channel: output, edges stamped, local time of its start; the channel of that visit; and the edges of the
device itself that are on their way to the channels: local time of their coarse edge, source, and whether they fall (R108, R109). -/
structure Tdc where
  chs : Tab TdcCh
  units : Tab CalU
  visit : Option (Nat × Nat × Nat)
  visitCh : Nat
  due : List (Nat × Nat × Bool)
  deriving DecidableEq, Repr

/-- A front-end port (R122, R123): STATE 0 OFF, 1 RUN, 2 LOST, 3 RATE; FE_SCNT, and at the last Gauge second; the mean power, and the sum
of the powers since that second with its number of samples; the sample whose coarse edge is the present edge, I in the high and Q in the low
four bits; the local time of the last clock edge; and that LOST was declared since. -/
structure Fe where
  st : Nat
  scnt : Nat
  secAt : Option Nat
  pow : Nat
  psum : Nat
  pcnt : Nat
  now : Option Nat
  lastAt : Nat
  gone : Bool
  deriving DecidableEq, Repr

/-- A front-end port at reset. -/
def Fe.reset : Fe := ⟨0, 0, none, 0, 0, 0, none, 0, false⟩

/-- The states of a tracking channel (CH_STAT.STATE). -/
inductive ChState where
  | stopped | armed | tracking | coast | lost
  deriving DecidableEq, Repr

/-- STATE of a channel. -/
def ChState.code : ChState → Nat
  | .stopped => 0
  | .armed => 1
  | .tracking => 2
  | .coast => 3
  | .lost => 4

/-- A tracking channel (R128 to R131). `cw` and `rw` are the code and carrier words in force since sample `s0`,
at which the code phase since the start was `ph0` (2^-32 chip, not reduced) and the carrier phase `car0` (2^-32
cycle); `at_` is START_SCNT while ARMED; `pend` the pending update; `upd` that an update applied at
the start of the dump; `epoch` is EPOCHS at the start of the dump, `acc` the ten accumulators, I and Q, and `sat` that one has saturated. -/
structure Chan where
  st : ChState
  late : Bool
  at_ : Nat
  s0 : Nat
  ph0 : Nat
  car0 : Int
  cw : Nat
  rw : Nat
  pend : Option (Nat × Nat)
  upd : Bool
  dcnt : Nat
  epoch : Nat
  acc : List (Int × Int)
  sat : Bool
  /-- At the latch before: the latch number, the sample, code and carrier phase. -/
  prev : Option (Nat × Nat × Nat × Int)
  deriving DecidableEq, Repr

/-- A tracking channel at reset. -/
def Chan.reset : Chan := ⟨.stopped, false, 0, 0, 0, 0, 0, 0, none, false, 0, 0, [], false, none⟩

/-- The Gauge bus values of a latch or due edge, with its local time, STEPPED and BIAS_SEQ (R137). -/
structure EdgeHead where
  gfr : Nat
  gns : Nat
  bound : Nat
  st : Nat
  stepped : Bool
  bias : Nat
  l : Nat
  deriving DecidableEq, Repr

/-- A latch whose latch samples have not all come (R136): its number and edge, by port the SCNT and SOFS of the samples that have, by channel
the entries, the ports still awaited, and the channels that CODECARR counts. -/
structure LatchRun where
  ln : Nat
  head : EdgeHead
  ports : Tab (Nat × Nat)
  entries : Tab (List Byte)
  waits : List Nat
  bad : Nat
  deriving DecidableEq, Repr

/-- A port's part of a swatch (R139): SCNT and SOFS of its first sample, the samples captured, and those not yet written. -/
structure SwPort where
  first : Option (Nat × Nat)
  n : Nat
  buf : List Byte
  deriving DecidableEq, Repr

/-- The part of a port before its first sample. -/
def SwPort.reset : SwPort := ⟨none, 0, []⟩

/-- A swatch as it was submitted (R139): FEMASK, AT, BASE and the KiB of one part; its due edge and the ports' parts once it captures; and
that a sample could not be written. -/
structure Swatch where
  mask : Nat
  at_ : Nat
  base : Nat
  part : Nat
  head : EdgeHead
  ports : Tab SwPort
  stuck : Bool
  deriving DecidableEq, Repr

/-- No swatch has been submitted. -/
def Swatch.reset : Swatch := ⟨0, 0, 0, 0, ⟨0, 0, 0, 0, false, 0, 0⟩, [], false⟩

/-- The running job (R133, R134): the local time of its start, the FE_SCNT of its first sample with the monitored channel's code phase there,
the samples it has, those of them not yet in DRAM, and the local time at which it had all. -/
structure AcqRun where
  since : Nat
  first : Option (Nat × Nat)
  n : Nat
  buf : List Byte
  full : Option Nat
  deriving DecidableEq, Repr

/-- The satellite baseband. `latches` holds LN, Gauge value and local time of the sixteen latest latches,
newest first (R136); `taken` the latch instants taken (R135); `latch` a latch in progress; `banks` the bytes of the two latch banks; `ind` the
hardware indicators with the local time at which the condition was last seen; `acqQ` the job slots in the order of their GO writes, the first
of them running as `acqRun`; `acq` the STAT of each slot; `spiEnd` the local time at which the SPI transaction has sent its last bit. -/
structure Gns where
  fes : Tab Fe
  chs : Tab Chan
  ln : Nat
  first : Bool
  latches : List (Nat × Nat × Nat)
  taken : List (Int × Int × Nat)
  latch : Option LatchRun
  banks : Tab (List Byte)
  acqQ : List Nat
  acqRun : Option AcqRun
  acq : Tab Nat
  swSt : Nat
  swKib : Nat
  sw : Swatch
  spiBusy : Bool
  spiEnd : Nat
  ind : Tab (Bool × Nat)
  biasSeq : Nat
  deriving DecidableEq, Repr

/-- The baseband at reset. -/
def Gns.reset : Gns where
  fes := []
  chs := []
  ln := 0
  first := true
  latches := []
  taken := []
  latch := none
  banks := []
  acqQ := []
  acqRun := none
  acq := []
  swSt := 0
  swKib := 0
  sw := Swatch.reset
  spiBusy := false
  spiEnd := 0
  ind := []
  biasSeq := 0

end Sys2Proof.Machine
end

