-- ==== Sys2Proof/Machine/StTime.lean ====
section
/-! DEFINITION. State of the time blocks: the Gauge (chapter 2), the reference selector (chapter 3), and
holdover and the outputs (chapter 4). -/

namespace Sys2Proof.Machine

/-- The Gauge states (R39). -/
inductive GState where
  | freeRun | locked | holdover
  deriving DecidableEq, Repr

/-- The state code of the Gauge bus (R39). -/
def GState.code : GState → Nat
  | .freeRun => 0
  | .locked => 1
  | .holdover => 2

/-- A scheduled step (R43): T, S in 2^-32 ns, CLR_SLEW, the sequencer that issued it, and the number it was held under, 0
where it was not (R47). -/
structure Sched where
  t : Nat
  amt : Int
  clr : Bool
  by_ : Option Nat
  num : Nat
  deriving DecidableEq, Repr

/-- A held correction (R47): a step or a slew, its amount in 2^-32 ns, its CLR_SLEW, the source
candidate with its independence group, its issuer, the T of the request, the local time of the hold, and its number. -/
structure Held where
  step : Bool
  amt : Int
  clr : Bool
  src : Option Nat
  grp : Nat
  by_ : Option Nat
  t : Nat
  at_ : Nat
  num : Nat
  deriving DecidableEq, Repr

/-- The Gauge (R36 to R58). `g` is the 104-bit accumulator in 2^-40 ns; `l` is the local time L in
G-clock edges; `tl` is the sum of the increments, in 2^-40 ns, which no step moves: the scale of the lane transmit clocks (R19);
`busB` and `busSt` are the BOUND and the state that the Gauge bus carries at the present edge (R14, R55); `rem` is REM in 2^-40 ns; `p` and `pRate` are the prediction and its rate, `fix` the FADJ
fixed at the last restart. -/
structure Gau where
  running : Bool
  l : Nat
  tl : Nat
  busB : Nat
  busSt : GState
  g : Nat
  /-- The accumulator at the edge before; none at the edge of the start. -/
  prev : Option Nat
  /-- The accumulator at the first edge since the start or the last step, and the ranges that it ran through before the
  steps so far. -/
  from_ : Nat
  runs : List (Nat × Nat)
  rem : Int
  fadj : Int
  st : GState
  cause : Nat
  bound : Nat
  bh : Nat
  n : Nat
  /-- The local time of the last GBND, or of the start of supervision (R39). -/
  hbAt : Nat
  /-- The sequencer that issued the last GBND (R39). -/
  lastBnd : Option Nat
  sched : Option Sched
  held : Option Held
  breach : Bool
  guardOn : Bool
  p : Int
  pRate : Int
  fix : Int
  stepSeq : Nat
  stepCode : Nat
  deriving DecidableEq, Repr

/-- The Gauge while the core is off and before it starts. -/
def Gau.reset : Gau where
  running := false
  l := 0
  tl := 0
  busB := 0xFFFFFFFF
  busSt := .freeRun
  g := 0
  prev := none
  from_ := 0
  runs := []
  rem := 0
  fadj := 0
  st := .freeRun
  cause := 0
  bound := 0xFFFFFFFF
  bh := 0
  n := 0
  hbAt := 0
  lastBnd := none
  sched := none
  held := none
  breach := false
  guardOn := false
  p := 0
  pRate := 0
  fix := 0
  stepSeq := 0
  stepCode := 0

/-- The candidate states (R71). -/
inductive CState where
  | off | nosig | wait | qual
  deriving DecidableEq, Repr

/-- STATE of a candidate (R71). -/
def CState.code : CState → Nat
  | .off => 0
  | .nosig => 1
  | .wait => 2
  | .qual => 3

/-- A held post (R74): Δ in 2^-32 ns, U and B_c in 1/16 ns, the measurement instant in 2^-32 ns. -/
structure Post where
  delta : Int
  u : Nat
  bc : Nat
  meas : Int
  ln : Nat
  deriving DecidableEq, Repr

/-- A candidate (R65 to R74). `obs` holds the pairs (e, τ) of the run, newest first, in 2^-32 ns, at most
two; `acc` counts the accepted ones at its head (R67); `seen` is
the local time of the last observation; `wtr` the local time at which the WTR timer
started, none while it is held at its full value; `hist` the
pairs (x, τ) of R68, newest first. -/
structure Cand where
  st : CState
  obs : List (Int × Int)
  acc : Nat
  seen : Option Nat
  wtr : Option Nat
  link : Bool
  ind : Bool
  hist : List (Int × Int)
  freq : Int
  tdev : Option Nat
  cause : Nat
  qualAt : Nat
  post : Option Post
  disputed : Bool
  /-- CAND30: a submitted write has been released while EN = 1, at this local time (R72). -/
  hostAt : Option Nat
  /-- Rising edges at the pin since the last observation (R61, DIV). -/
  edges : Nat
  deriving DecidableEq, Repr

/-- A candidate at reset. -/
def Cand.reset : Cand := ⟨.off, [], 0, none, none, false, false, [], 0, none, 0, 0, none, false, none, 0⟩

/-- The transaction in PREPARE (R80, R81): number, target, t_prep on L and on the Gauge (in 2^-32 ns, moved
by each step as the instants of the posts are), the ALIGN in force, and the local time of the commit's
request. -/
structure Txn where
  num : Nat
  target : Nat
  at_ : Nat
  gns : Int
  align : Nat
  req : Option Nat
  deriving DecidableEq, Repr

/-- The reference selector (chapter 3). -/
structure Sel where
  cands : Tab Cand
  sel : Option Nat
  fsel : Option Nat
  txn : Option Txn
  txnNum : Nat
  swFrom : Option Nat
  swTo : Nat
  swCode : Nat
  swDelta : Int
  swUnc : Nat
  swBnd : Nat
  /-- A change of the frequency selection waits in the write gate. -/
  fselPend : Option Nat
  deriving DecidableEq, Repr

/-- The reference selector at reset. -/
def Sel.reset : Sel := ⟨[], none, none, none, 0, none, 0, 0, 0, 0, 0, none⟩

/-- Holdover (R84 to R89). `hist` holds the mean FADJ of each recorded second with the ATOM_PH of that
second, newest first; `sum` is FADJ summed over the second so far, `whole` tells that the Gauge has been
LOCKED since the second began, and `phNow` is the ATOM_PH of the second so far. -/
structure Hld where
  hist : List (Int × Option Int)
  sum : Int
  whole : Bool
  phNow : Option Int
  ageing : Bool
  m : Nat
  age : Int
  ageSat : Bool
  frz : Int
  favg : Int
  atomPh : Int
  atomRef : Int
  atomRefV : Bool
  atomDev : Int
  atomAt : Option Nat
  /-- The models with a written value that waits for its Gauge second (R89). -/
  wrote : List Nat
  deriving DecidableEq, Repr

/-- Holdover at reset. -/
def Hld.reset : Hld := ⟨[], 0, false, none, false, 0, 0, false, 0, 0, 0, 0, false, 0, none, []⟩

/-- Spans of instants: first, last and distance of each, newest first. -/
abbrev Spans := List (Int × Int × Nat)

/-- The instant `n` belongs to a run. -/
def Spans.has (l : Spans) (n : Int) : Bool :=
  l.any fun r => decide (r.1 ≤ n ∧ n ≤ r.2.1) && (decide (r.1 = n) || decide (Int.emod (n - r.1) r.2.2 = 0))

/-- An instant that lies `per` after the last one prolongs its run. -/
def Spans.add (l : Spans) (n : Int) (per : Nat) : Spans :=
  match l with
  | (a, b, d) :: r => if d = per ∧ n = b + per then (a, n, d) :: r else (n, n, per) :: l
  | [] => [(n, n, per)]

/-- A ToD message that waits for its start bit (R100, R101): NEXT at its pulse, the local time at which it is due, the Gauge instant it
describes, and BOUND, class, accuracy and Gauge state of the pulse's edge. -/
structure TodMsg where
  next : Bool
  due : Nat
  inst : Nat
  bound : Nat
  cls : Nat
  acc : Nat
  st : Nat
  deriving DecidableEq, Repr

/-- An output (R96 to R106). `armed` is the local time of release of its EN = 1; `frame` is the next frame instant of a word clock;
`todDue` holds the ToD messages that wait for their start bit, oldest first. Of what is on the pin: `active` tells that it is
away from its squelch level; `half` is the last half cycle that a clock out of squelch has begun, even for a rising edge; `comp`
the COMP of its last rising edge or pulse; `last` the time of its last transition in 2^-40 ns of increments (`Gau.tl`); `moved` that a
step has moved the schedule since; `ran` the runs of pulse instants that a PPSO has emitted; `until_` the local time of the trailing
edge of the pulse in progress; `txAt` and `tx` the local time of the first start bit of the message in progress and the bits that
are still to come. -/
structure OutU where
  sq : Bool
  armed : Option Nat
  frame : Nat
  todDue : List TodMsg
  todSeq : Nat
  realign : Option Nat
  active : Bool
  half : Option Int
  comp : Int
  last : Int
  moved : Bool
  ran : Spans
  until_ : Option Nat
  txAt : Option Nat
  tx : List Bool
  deriving DecidableEq, Repr

/-- An output at reset: squelched (OUT_SQ_STAT). -/
def OutU.reset : OutU where
  sq := true
  armed := none
  frame := 0
  todDue := []
  todSeq := 0
  realign := none
  active := false
  half := none
  comp := 0
  last := 0
  moved := false
  ran := []
  until_ := none
  txAt := none
  tx := []

/-- A pulse, a cycle or a message is in progress (R105). -/
def OutU.busy (o : OutU) : Bool := o.half.isSome || o.until_.isSome || o.txAt.isSome

/-- The outputs (chapter 4): O_B and O_C in 2^-40 ns, whether group B has followed a step at the present edge, a requested snap with
the local time of its release, and the outputs by the index of R106. -/
structure Out where
  ob : Int
  oc : Int
  bJump : Bool
  /-- T_C at the edge before, in 2^-40 ns. -/
  ptc : Option Int
  /-- The local time at which the row in progress began (R22, R405). -/
  rowL : Nat
  snap : Option Nat
  outs : Tab OutU
  deriving DecidableEq, Repr

end Sys2Proof.Machine
end

