-- ==== Sys2Proof/Machine/StNet.lean ====
section
/-! DEFINITION. State of the Ethernet ports (chapter 9) and of the time service (chapter 10). -/

namespace Sys2Proof.Machine

/-- The quality values of one edge (R219): Gauge state, bus BOUND, GAU_UTC[18:16] and GAU_HO_N. -/
structure Qual where
  st : GState
  bound : Nat
  utc : Nat
  n : Nat
  deriving DecidableEq, Repr

/-- Where a UDP frame goes and comes from: MAC addresses, VLAN tags, whether over IPv6, IP addresses, and ports. -/
structure Net where
  dmac : Nat
  smac : Nat
  tags : List Byte
  v6 : Bool
  src : Nat
  dst : Nat
  sport : Nat
  dport : Nat
  deriving DecidableEq, Repr

/-- A PTP message that TSV sends (R224). `to_` is the address that it goes to and whether that is one of IPv6, none for multicast; `sec`,
`ns` and `corr` its timestamp and correctionField in 2^-16 ns; `forId` and `forPort` the port identity that it names; `dataset` that of an
Announce; `flags` its second flag octet; `tlv` the negotiation TLVs of a Signaling message; `bext` the bound extension TLV (R241, R242);
`sa` the association of an AUTHENTICATION TLV (R233). -/
structure PtpOut where
  kind : PtpKind
  to_ : Option (Bool × Nat)
  seqId : Nat
  twoStep : Bool
  sec : Nat
  ns : Nat
  corr : Int
  log : Nat
  forId : Nat
  forPort : Nat
  dataset : Option Dataset
  flags : Nat
  utc : Nat
  gmTimeBase : Nat
  gmPhase : Int
  tlv : List Byte
  bext : List Byte
  sa : Option Nat
  deriving DecidableEq, Repr

/-- What is sealed into an NTS response at its launch (R237): the server-to-client key of the lane, the nonce and the new
cookies. -/
structure NtsSeal where
  key : List Byte
  nonce : List Byte
  plain : List Byte
  deriving DecidableEq, Repr

/-- An NTP or NTS response (R236, R237). Until its launch `rx` is the receive instant in 2^-16 ns; `bext` tells that the bound field is
wanted; `nak` that it is an NTS NAK; `uid` is the echoed identifier and `toSeal` what an NTS response seals. -/
structure NtpOut where
  net : Net
  version : Nat
  poll : Nat
  origin : Nat
  rx : Int
  bext : Bool
  nak : Bool
  uid : List Byte
  toSeal : Option NtsSeal
  deriving DecidableEq, Repr

/-- What a port sends: a frame of bytes without FCS, what TSV forms at the launch, a stream packet, and a pause frame of the port's own
with its class (8 for PAUSE), its pause time and whether it is an XOFF. -/
inductive Payload where
  | raw (bytes : List Byte)
  | ptp (m : PtpOut)
  | ntp (m : NtpOut)
  | rtp (bytes : List Byte)
  | pause (c quanta : Nat) (xoff : Bool)
  deriving DecidableEq, Repr

/-- A frame submitted for transmission (chapter 9, Transmit selection): class, content, the bytes without FCS that a frame of TSV has from
its launch on, length with FCS, its requests, and the DMA queue and descriptor that wait for it. -/
structure TxFrame where
  tc : Nat
  pay : Payload
  line : List Byte
  len : Nat
  tsReq : Bool
  oneStep : Bool
  tag : Nat
  dma : Option (Nat × Nat)
  deriving DecidableEq, Repr

/-- A frame in transmission: line time (R19) at which the present fragment began, the bytes sent before it, line time of its end, whether it
goes through the preemptable MAC, whether it has been counted as a gate overrun, its stamp, and the Follow_Up that waits for it. -/
structure TxCur where
  f : TxFrame
  at_ : Nat
  before : Nat
  stop : Nat
  pre : Bool
  late : Bool
  stamp : Option StampV
  fup : Option TxFrame
  deriving DecidableEq, Repr

/-- A received frame in a queue: queue, the consumer named when it arrived, the stamp record ahead of it, its stamp, and the quality values and
T_C of the stamp's edge, its bytes with FCS, and whether and where it lies in DRAM. -/
structure RxFrame where
  q : Nat
  dest : Nat
  stamp : List Word
  ev : StampV
  qual : Qual
  tc : Int
  bytes : List Byte
  spilled : Bool
  spillAt : Nat
  deriving DecidableEq, Repr

/-- A port. `rx` holds the received frames in arrival order; `txq` the submitted ones in order, `ctl` the port's own pause frames; `cur`
the frame in transmission, `held` a preempted one; `stamps` the frames that have passed and whose TX record is to be stored; `pause` the
local time each priority's timer ends; `xoff` by priority (8 is PAUSE) 0 while no XOFF is in force, 1 while one waits to leave, t + 2 from
when the last left at local time t; `verify`, `tries` and `verifyAt` the verification of R202 with the local time of the last verify frame;
`slot`, `gate` and `hold` the latched slot; `act` CYCLE, BASE and NSLOT of the active table; `live` that an accepted write of ACTIVE has
not landed (R207); `fup` the Follow_Ups whose event messages have passed; `spillAt` the write position of each spill ring. -/
structure EthP where
  link : Bool
  rx : List RxFrame
  txq : List TxFrame
  ctl : List TxFrame
  cur : Option TxCur
  held : Option TxCur
  stamps : List (TxFrame × StampV)
  pause : Tab Nat
  xoff : Tab Nat
  verify : Nat
  tries : Nat
  verifyAt : Nat
  rowRun : Bool
  slot : Nat
  gate : Nat
  hold : Bool
  act : Nat × Nat × Nat
  live : Bool
  err : Nat
  bank : Bool
  land : Nat
  txts : List (List Word)
  lost : Nat
  loop : List Word
  markAt : Option Nat
  fup : List TxFrame
  spillAt : Tab Nat
  deriving DecidableEq, Repr

/-- A port at reset. -/
def EthP.reset : EthP where
  link := false
  rx := []
  txq := []
  ctl := []
  cur := none
  held := none
  stamps := []
  pause := []
  xoff := []
  verify := 0
  tries := 0
  verifyAt := 0
  rowRun := false
  slot := 0
  gate := 0xFF
  hold := false
  act := (125000, 0, 1)
  live := false
  err := 0
  bank := false
  land := 0
  txts := []
  lost := 0
  loop := []
  markAt := none
  fup := []
  spillAt := []

/-- A foreign master (R222): its identity and address, whether its last Announce came by unicast, its dataset, announce interval in ns, the
local times of its latest two Announces, newest first, and whether it has qualified. -/
structure Foreign where
  id : Nat
  port : Nat
  addr : Bool × Nat
  uc : Bool
  ds : Dataset
  per : Nat
  seen : List Nat
  qual : Bool
  deriving DecidableEq, Repr

/-- What the instance has asked of upstream master u (R231): the type, whether it holds the grant, since when at local time `at_`, with its
duration in s; or whether the request was denied, then. -/
structure ClientGrant where
  u : Nat
  kind : GrantKind
  held : Bool
  denied : Bool
  at_ : Nat
  dur : Nat
  deriving DecidableEq, Repr

/-- A two-step Sync that waits for its Follow_Up (R228): source, sequenceId, correction, stamp and the words of its record. -/
structure SyncWait where
  id : Nat
  port : Nat
  seqId : Nat
  corr : Int
  ev : StampV
  stamp : List Word
  deriving DecidableEq, Repr

/-- A PTP instance. `seqs` holds the next sequenceId by message type and destination (R224); `dreq` the sequenceIds of the Delay_Req sent and
not yet answered, with their stamp records; `pd` what is known of the peer delay exchange in hand: sequenceId, t1 record, t2 words, t4
record, correction; `answered` counts requests answered in the present second. -/
structure PtpI where
  st : Nat
  foreign : List Foreign
  parent : Option (Nat × Nat)
  gm : Nat
  seqs : Tab Nat
  wait : Option SyncWait
  dreq : Tab (List Word)
  pd : Option (Nat × List Word × List Word × List Word × Int)
  clients : List ClientGrant
  answered : Nat
  deriving DecidableEq, Repr

/-- An instance at reset. -/
def PtpI.reset : PtpI := ⟨0, [], none, 0, [], none, [], none, [], 0⟩

/-- A grant of a session: its period, a new period that its next instant takes, and the local time at which it ends (R230). -/
structure Grant where
  log : Nat
  next : Option Nat
  until_ : Nat
  deriving DecidableEq, Repr

/-- A session entry (R230). -/
structure Session where
  port : Nat
  id : Nat
  idPort : Nat
  v6 : Bool
  addr : Nat
  ann : Option Grant
  sync : Option Grant
  dresp : Option Grant
  deriving DecidableEq, Repr

/-- The time service. `cur` and `prev` are the master keys (R240), `rot` a scheduled rotation; `mint` the mint counter; `lock`
the last t_sec at which the Gauge was LOCKED (R236); `ntpAt` and `ntsAt` the local time in 1/6 ns, and `mintAt` that in ns, from which the
next NTP request, NTS request and mint request may begin (R244). -/
structure Tsv where
  inst : Tab PtpI
  sess : Tab Session
  gmTimeBase : Nat
  gmPhase : Int
  cur : Option Nat
  prev : Option Nat
  rot : Option Nat
  mint : Nat
  reqCons : Nat
  resProd : Nat
  lock : Nat
  ntpAt : Nat
  ntsAt : Nat
  mintAt : Nat
  deriving DecidableEq, Repr

/-- The time service at reset. -/
def Tsv.reset : Tsv := ⟨[], [], 0, 0, none, none, none, 0, 0, 0, 0, 0, 0, 0⟩

end Sys2Proof.Machine
end

