-- ==== Sys2Proof/Machine/StPair.lean ====
section
/-! DEFINITION. State of the Stitch links and of the twin (chapter 14). -/

namespace Sys2Proof.Machine

/-- The states of a link (R316). -/
inductive LState where
  | off | training | up | domain | duplicate
  deriving DecidableEq, Repr

/-- STAT.STATE of a link (R316). -/
def LState.code : LState → Nat
  | .off => 0
  | .training => 1
  | .up => 2
  | .domain => 3
  | .duplicate => 4

/-- The twin roles (R325). -/
inductive Role where
  | solo | pairing | standby | active | isolated | relinquished | compare
  deriving DecidableEq, Repr

/-- The code of a role (R325). -/
def Role.code : Role → Nat
  | .solo => 0
  | .pairing => 1
  | .standby => 2
  | .active => 3
  | .isolated => 4
  | .relinquished => 5
  | .compare => 6

/-- A link. `frame` is the FRAME of the last marker; the fields of the peer are those of its last marker and
identity block; `txs` holds the local times of the last own markers, newest first; `rx` the local time and code
of the latest peer marker; `rt` the last round trip in edges; `jumpAt` the local time of the last round-trip
jump; `said` the word last sent as LINKEV; `ms` the local time and Gauge values of the last own millisecond
marker; `ps` the partials accepted in the row, and `psN` how many. -/
structure Link where
  st : LState
  frame : Option Nat
  role : Nat
  ready : Bool
  advise : Bool
  sev : Nat
  gst : Nat
  dom : Nat
  devnum : Nat
  hops : Nat
  upv : Bool
  upstream : Nat
  bound : Nat
  pairid : Nat
  unit : Bool
  txs : List Nat
  rx : Option (Nat × Nat)
  rt : Option Nat
  jumpAt : Option Nat
  said : Nat
  ms : List Word
  ps : List (Nat × List Word)
  psN : Nat
  psRow : Nat
  deriving DecidableEq, Repr

/-- A link at reset. -/
def Link.reset : Link where
  st := .off
  frame := none
  role := 0
  ready := false
  advise := false
  sev := 0
  gst := 0
  dom := 0
  devnum := 0
  hops := 0
  upv := false
  upstream := 0
  bound := 0
  pairid := 0
  unit := false
  txs := []
  rx := none
  rt := none
  jumpAt := none
  said := 0
  ms := []
  ps := []
  psN := 0
  psRow := 0

/-- The twin (R324 to R337). `pairAt` is the local time of entry into PAIRING; `noneUp` the local time since which
no twin link has been UP; `shut` tells that the LINK condition of R326 holds against the twin candidates; `synced` that a
sync has completed, `wanted` that one is still to be requested; `t2` the local time of a takeover T2; `hoPend` the
local time from which the handover instant may come; `digRun`, `advRun` and `alignRun` count consecutive rows and seconds; `mirrored` the apply instants of own mirrored writes not yet confirmed;
`digest` the own digest of the last rows by tag. -/
structure Twin where
  role : Role
  roleAt : Nat
  pairAt : Nat
  noneUp : Nat
  shut : Bool
  peerReady : Bool
  ready : Bool
  advise : Bool
  diverged : Bool
  synced : Bool
  wanted : Bool
  t2 : Option Nat
  hoPend : Option Nat
  digRun : Nat
  advRun : Nat
  /-- Consecutive seconds of the second condition of R335. -/
  advRunB : Nat
  alignRun : Nat
  mirrored : List Nat
  digest : Tab Nat
  /-- The tag of the last digest received, and the SEQ_IMG of the peer's sequencers as the last sync brought them. -/
  lastTag : Option Nat
  peerImg : Tab (List Byte)
  deriving DecidableEq, Repr

/-- The twin at reset: SOLO. -/
def Twin.reset : Twin where
  role := .solo
  roleAt := 0
  pairAt := 0
  noneUp := 0
  shut := false
  peerReady := false
  ready := false
  advise := false
  diverged := false
  synced := false
  wanted := false
  t2 := none
  hoPend := none
  digRun := 0
  advRun := 0
  advRunB := 0
  alignRun := 0
  mirrored := []
  digest := []
  lastTag := none
  peerImg := []

end Sys2Proof.Machine
end

