-- ==== Sys2Proof/Machine/StSeq.lean ====
section
/-! DEFINITION. State of the sequencers and their clusters (chapter 7). -/

namespace Sys2Proof.Machine

/-- The states of a sequencer (SEQn_STAT.STATE). -/
inductive SState where
  | stopped | starting | running | waiting | fenced
  deriving DecidableEq, Repr

/-- STATE of a sequencer. -/
def SState.code : SState → Nat
  | .stopped => 0
  | .starting => 1
  | .running => 2
  | .waiting => 3
  | .fenced => 4

/-- A message (R159): TYPE, ARG and the payload words; LEN is their number. -/
structure Msg where
  type : Nat
  arg : Nat
  pay : List Word
  deriving DecidableEq, Repr

/-- A repeat level (R148): how often the block still runs, its first instruction and its end. -/
structure Rep where
  count : Nat
  first : Nat
  last : Nat
  deriving DecidableEq, Repr

/-- A posted event (R155): poster, port, ST40 instant, code. -/
structure Ev where
  n : Nat
  port : Nat
  t : Nat
  code : Nat
  deriving DecidableEq, Repr

/-- A sequencer. `start` holds, while STARTING, the local time of the release and whether a row is
awaited; `wait` the ST40 instant and the wake mask of a time wait; `kick` the local time from which the
watchdog counts, `missed` that its limit was missed since; `inbox` the messages by port, oldest first (14 is
the mailbox); `p`, `c` and `d` the memories; `calls` the call stack, `reps` the repeat levels, innermost
first; `rpt` the executions left to the instruction a repeat has in hand;
`stall` that a register write of its own has not ended (R158); `ext` the words of D memory last written from outside: Warden's time,
offset and value (R165). -/
structure Seq where
  st : SState
  trap : Nat
  pc : Nat
  z : Bool
  n : Bool
  v : Bool
  c : Bool
  s : Bool
  t : Bool
  g : Tab Word
  a0 : AccWord
  a1 : AccWord
  x : Tab Half
  m : Tab Half
  l : Tab Half
  calls : List Nat
  reps : List Rep
  rpt : Option Nat
  start : Option (Nat × Bool)
  wait : Option (Nat × Nat)
  kick : Nat
  missed : Bool
  inbox : Tab (List Msg)
  pMem : List Host.Cell
  cMem : List Host.Cell
  dMem : List Host.Cell
  img : List Byte
  stall : Bool
  ext : List (Nat × Nat × Word)
  deriving DecidableEq, Repr

/-- A sequencer at reset: STOPPED, with nothing in its memories. -/
def Seq.reset : Seq where
  st := .stopped
  trap := 0
  pc := 0
  z := false
  n := false
  v := false
  c := false
  s := false
  t := false
  g := []
  a0 := 0
  a1 := 0
  x := []
  m := []
  l := []
  calls := []
  reps := []
  rpt := none
  start := none
  wait := none
  kick := 0
  missed := false
  inbox := []
  pMem := []
  cMem := []
  dMem := []
  img := []
  stall := false
  ext := []

/-- A cluster: its pending events in the order they were posted, and its image load (R168): STATE, CODE,
and the targets while BUSY. -/
structure Clu where
  evs : List Ev
  load : Nat
  loadCode : Nat
  mask : Nat
  deriving DecidableEq, Repr

/-- A cluster at reset. -/
def Clu.reset : Clu := ⟨[], 0, 0, 0⟩

end Sys2Proof.Machine
end

