-- ==== Sys2Proof/Machine/State.lean ====
section
/-! DEFINITION. The state of the KC-8840, the faults and refusals of the model, and the state at reset. -/

namespace Sys2Proof.Machine

/-- The faults of the model: none. The spec names no condition at which the device as a whole stops; every command has a next state. -/
inductive Fault where
  deriving DecidableEq, Repr

/-- A refusal of the model. -/
inductive Refusal where
  /-- Raised by an arm of `exec` whose command has no meaning yet. Safe: nothing is claimed of it. -/
  | notModelled (mnemonic : String)
  deriving DecidableEq, Repr

/-- What leaves the device, as far as a rule names it. -/
inductive Sent where
  /-- An MSI-X vector (R362). -/
  | msix (v : Nat)
  /-- An in-band interrupt of the sideband (R367). -/
  | ibi (code : Nat)
  /-- A change of the ALIVE pin (R345). -/
  | alive (level : Bool)
  /-- A RELINQUISH block on a Stitch link (R328). -/
  | relinq (l : Nat)
  /-- The marker of a frame on a link: the frame number, bits [31:0] of R314. -/
  | marker (l frame word : Nat)
  /-- The identity block of a millisecond frame: DOMAIN, DEVNUM, HOPS, UPV, UPSTREAM, BOUND, PAIRID (R314). -/
  | ident (l dom devnum hops : Nat) (upv : Bool) (upstream bound pairid : Nat)
  /-- A step notice that names the frame of the next marker (R313). -/
  | stepNotice (l frame : Nat)
  /-- Words for the peer's TIME_TS (R318). -/
  | peerWords (l : Nat) (words : List Word)
  /-- A partial sum: link, output, row tag, partials (R323). -/
  | partialSum (l out tag : Nat) (words : List Word)
  /-- A mirrored write with its apply instant (R332). -/
  | mirror (addr value apply : Nat)
  /-- A request for a sync, and a sync with its apply instant: the registers, the images of clusters 1 to 9, each with the sequencer and its
IMG, and the sequence counters of the transmit streams (R333). -/
  | syncRequest
  | sync (regs : List (Nat × Nat)) (imgs : List (Nat × List Byte × List Host.Cell)) (seqs : List (Nat × Nat)) (apply : Nat)
  /-- What an ACTIVE twin sends at a change of its TSV state (R331): a session entry, none where it is free; a sequenceId counter of a port. -/
  | twinSession (n : Nat) (x : Option Session)
  | twinSeq (p key next : Nat)
  /-- A row digest with its row tag (R334). -/
  | digest (tag value : Nat)
  /-- The pulse of a PPSO (R99). -/
  | pps (j : Nat)
  /-- The level at the pin of the output with index i changes (R97, R99, R100, R102, R105), at a time of its scale in 1/64 ns; P of a
  differential pair; for a TOD the time is the local time. -/
  | pin (i : Nat) (level : Bool) (at_ : Int)
  /-- A time-of-day message (R101). -/
  | tod (j : Nat) (bytes : List Byte)
  /-- The first byte of a frame, or of the rest of a preempted one, passes the stamp point of a port (R198, R202). -/
  | frame (p : Nat) (f : TxFrame) (before : Nat)
  /-- A fragment ends: the frame is preempted after so many bytes (R202). -/
  | preempt (p bytes : Nat)
  /-- A pause frame: PAUSE (8) or the priorities of PFC with their quanta (R200). -/
  | pause (p : Nat) (quanta : Tab Nat)
  /-- A verify frame of preemption (R202). -/
  | verify (p : Nat)
  /-- A frame of an AES3 output (R259): Z preamble, samples, V, channel status, user and parity bits of A and B. -/
  | aes3 (p : Nat) (z : Bool) (a b : Nat) (v ca cb ua ub pa pb : Bool)
  /-- STATUS of a DMA descriptor (R363): RESULT, CODE, RXLEN. -/
  | dma (q result code rxlen : Nat)
  /-- Bytes written to host memory (R364). -/
  | hostData (q addr : Nat) (bytes : List Byte)
  /-- A response on the sideband (R368), without its CRC. -/
  | sbd (bytes : List Byte)
  /-- The GETSTATUS answer of the I3C target (R367). -/
  | i3cStatus (daddr : Option Nat)
  /-- A read completes with a word: the requester's number among the latches, the address, the word. -/
  | rdata (req addr word : Nat)
  /-- A transaction on FE_SPI (R125): CS, LEN, DIV and the bytes sent. -/
  | spi (cs len div tx : Nat)
  deriving DecidableEq, Repr

/-- The state. `regs` holds each writable register as last written and `force` as in force (R10, R11);
`hw` the read-cleared and write-1-to-clear fields and the status fields that hardware keeps; all three by the
register's first address, with the register's reset value where nothing is listed. `staged` holds the lower
words of wide values that wait for the highest word (R7), by requester and address. `sent` is the model's own
record of what left the device, newest first; `free` numbers the free values drawn so far; `wt` is the Warden
clock in ns; `fired` lists the time-driven events that have happened at the present G-clock edge, so that none
happens twice at one edge. -/
structure State where
  pending : List Instr
  sent : List Sent
  free : Nat
  wt : Nat
  fired : List Nat
  regs : Tab Nat
  force : Tab Nat
  hw : Tab Nat
  staged : Tab Word
  latches : Tab Latch
  hostErr : WErr
  sbdErr : WErr
  warden : Warden
  log : Log
  gau : Gau
  sel : Sel
  hld : Hld
  out : Out
  seqs : Tab Seq
  clus : Tab Clu
  flt : Flt
  rcd : Rec
  pmc : Pmc
  links : Tab Link
  twin : Twin
  tdc : Tdc
  gnb : Gns
  key : Key
  fuses : Fuses
  att : Att
  eth : Tab EthP
  tsv : Tsv
  aud : Aud
  mix : Mix
  hst : Hst
  sbd : Sbd
  mem : MemS
  cast_ : Cast
  /-- External memory (R371). -/
  dram : List Host.Cell
  /-- The core domain is powered (R20). -/
  coreOn : Bool
  deriving DecidableEq, Repr

/-- The state right after the AON domain powers up with RESET_N asserted. -/
def State.reset : State where
  pending := []
  sent := []
  free := 0
  wt := 0
  fired := []
  regs := []
  force := []
  hw := []
  staged := []
  latches := []
  hostErr := ⟨0, 0⟩
  sbdErr := ⟨0, 0⟩
  warden := ⟨false, none, none⟩
  log := ⟨[], 0, 0, 0, [], 0, 0, [], false, [], []⟩
  gau := Gau.reset
  sel := Sel.reset
  hld := Hld.reset
  out := ⟨0, 0, false, none, 0, none, []⟩
  seqs := []
  clus := []
  flt := ⟨[], false, false, false, false, 0, 0, 0, ⟨0, 0, 0, 0, false, 0⟩⟩
  rcd := ⟨[], [], [], [], [], 0, 0, []⟩
  pmc := ⟨[], none, 0, 0, [], 0, 0⟩
  links := []
  twin := Twin.reset
  tdc := ⟨[], [], none, 0, []⟩
  gnb := Gns.reset
  key := Key.reset
  fuses := Fuses.reset
  att := ⟨[], 0, false⟩
  eth := []
  tsv := Tsv.reset
  aud := Aud.reset
  mix := Mix.reset
  hst := Hst.reset
  sbd := Sbd.reset
  mem := MemS.reset
  cast_ := Cast.reset
  dram := []
  coreOn := false

end Sys2Proof.Machine
end

