-- ==== Sys2Proof/Machine/Flags.lean ====
section
/-! DEFINITION. The flags of a sequencer: every flag computation of chapter 8 (R177, R179, R182, R183, R150). -/

namespace Sys2Proof.Machine

/-- Z and N of a 32-bit result (R177). -/
def Seq.zn (q : Seq) (r : Word) : Seq := { q with z := decide (r = 0), n := r.msb }

/-- Z and N of a 40-bit result (R177). -/
def Seq.znAcc (q : Seq) (r : AccWord) : Seq := { q with z := decide (r = 0), n := r.msb }

/-- C and V of an addition with a carry in (R179). -/
def Seq.cvAdd (q : Seq) (a b : Word) (c : Bool) : Seq :=
  { q with
    c := decide (2 ^ 32 ≤ a.toNat + b.toNat + c.toNat)
    v := !inSigned 32 (a.toInt + b.toInt + c.toNat) }

/-- C and V of a subtraction with a borrow in: C is 1 when no borrow occurs (R179). -/
def Seq.cvSub (q : Seq) (a b : Word) (borrow : Bool) : Seq :=
  { q with
    c := decide (b.toNat + borrow.toNat ≤ a.toNat)
    v := !inSigned 32 (a.toInt - b.toInt - borrow.toNat) }

/-- C after a left shift: the last bit shifted out; a shift of 0 leaves it (R179). -/
def Seq.cShl (q : Seq) (a : Word) (k : Nat) : Seq :=
  if k = 0 then q else { q with c := bitOn a.toNat (32 - k) }

/-- C after a right shift: the last bit shifted out; a shift of 0 leaves it (R179). -/
def Seq.cShr (q : Seq) (a : Word) (k : Nat) : Seq :=
  if k = 0 then q else { q with c := bitOn a.toNat (k - 1) }

/-- V of an accumulator operation whose exact result is `r` (R183). -/
def Seq.vAcc (q : Seq) (r : Int) : Seq := { q with v := !inSigned 40 r }

/-- The flags of a store or read-out whose rounded quotient is `v`: S when it saturates, V otherwise (R182). -/
def Seq.storeFlags (q : Seq) (w : Nat) (v : Int) (sat : Bool) : Seq :=
  if inSigned w v then (if sat then q else { q with v := false })
  else if sat then { q with s := true } else { q with v := true }

/-- A condition of Bcc (R176). -/
def Seq.holds (q : Seq) : Nat → Bool
  | 0 => true
  | 1 => q.z
  | 2 => !q.z
  | 3 => q.n != q.v
  | 4 => q.n == q.v
  | 5 => q.z || (q.n != q.v)
  | 6 => !q.z && (q.n == q.v)
  | 7 => q.c
  | 8 => !q.c
  | 9 => q.n
  | 10 => !q.n
  | 11 => q.v
  | 12 => !q.v
  | 13 => q.s
  | 14 => q.t
  | _ => !q.t

end Sys2Proof.Machine
end

