-- ==== Sys2Proof/Machine/Operands.lean ====
section
/-! DEFINITION. The operands of Tabxo instructions (R143, R150, R173 to R175, R182, R184): registers, address
generation, memory operands, selectors, and the rounding of accumulators. -/

namespace Sys2Proof.Machine

/-- The trap codes (R166). -/
inductive Trap where
  | illegal | align | range | port | blockend | nest | stack | badmsg
  deriving DecidableEq, Repr

/-- The code of a trap (R166). -/
def Trap.code : Trap → Nat
  | .illegal => 1
  | .align => 2
  | .range => 3
  | .port => 4
  | .blockend => 5
  | .nest => 6
  | .stack => 7
  | .badmsg => 8

/-! ### Registers -/

/-- gk. -/
def Seq.gr (q : Seq) (k : Nat) : Word := q.g.get k 0
/-- gk takes a value. -/
def Seq.setG (q : Seq) (k : Nat) (v : Word) : Seq := { q with g := q.g.set k v }
/-- xk. -/
def Seq.xr (q : Seq) (k : Nat) : Half := q.x.get k 0
/-- xk takes a value. -/
def Seq.setX (q : Seq) (k : Nat) (v : Half) : Seq := { q with x := q.x.set k v }
/-- mk. -/
def Seq.mr (q : Seq) (k : Nat) : Half := q.m.get k 0
/-- lk. -/
def Seq.lr (q : Seq) (k : Nat) : Half := q.l.get k 0
/-- An accumulator. -/
def Seq.acc (q : Seq) : Acc → AccWord
  | .a0 => q.a0
  | .a1 => q.a1
/-- The accumulator that an instruction does not name. -/
def accOther : Acc → Acc
  | .a0 => .a1
  | .a1 => .a0
/-- An accumulator takes a value. -/
def Seq.setAcc (q : Seq) (a : Acc) (v : AccWord) : Seq :=
  match a with
  | .a0 => { q with a0 := v }
  | .a1 => { q with a1 := v }

/-- An address register takes a value (R180). -/
def Seq.setAx (q : Seq) (kind : AxKind) (k : Nat) (v : Half) : Seq :=
  match kind with
  | .x => { q with x := q.x.set k v }
  | .m => { q with m := q.m.set k v }
  | .l => { q with l := q.l.set k v }

/-- An address register in a g register: x and l zero-extended, m sign-extended (R180). -/
def Seq.axWord (q : Seq) (kind : AxKind) (k : Nat) : Word :=
  match kind with
  | .x => (q.xr k).zeroExtend 32
  | .m => (q.mr k).signExtend 32
  | .l => (q.lr k).zeroExtend 32

/-! ### Address generation (R143, R174) -/

/-- The size of the smallest power of two that is at least `n`. -/
def ceilPow2 (n : Nat) : Nat := if n ≤ 1 then 1 else 2 ^ (Nat.log2 (n - 1) + 1)

/-- An address `r` formed from address `x` and wrapped in the region of k (R143). -/
def Seq.wrapFrom (q : Seq) (k x : Nat) (r : Int) : Int :=
  let len : Int := (q.lr k).toNat
  if len = 0 then r
  else
    let size := ceilPow2 (q.lr k).toNat
    let start : Int := (x / size * size : Nat)
    if start + len ≤ r then r - len
    else if r < start then r + len
    else r

/-- A post-modified address `r` wrapped in the region of k (R143); an address register holds 16 bits. -/
def Seq.wrap (q : Seq) (k : Nat) (r : Int) : Half := wrapTo 16 (q.wrapFrom k (q.xr k).toNat r)

/-- xk is post-modified (R174). -/
def Seq.postMod (q : Seq) (k : Nat) : Mod → Seq
  | .keep => q
  | .byM => q.setX k (q.wrap k ((q.xr k).toNat + (q.mr k).toInt))
  | .byImm i => q.setX k (q.wrap k ((q.xr k).toNat + i.toInt))

/-- The descriptor post-modifies. -/
def modMoves : Mod → Bool
  | .keep => false
  | _ => true

/-- The size of a memory (R142). -/
def memSize : SMem → Nat
  | .D => 65536
  | .C => 32768
  | .P => 16384

/-- The memory a descriptor names. -/
def Seq.memOf (q : Seq) : SMem → List Host.Cell
  | .D => q.dMem
  | .C => q.cMem
  | .P => q.pMem

/-- A memory takes new contents; a program cannot write P memory (R142). -/
def Seq.setMem (q : Seq) (m : SMem) (c : List Host.Cell) : Seq :=
  match m with
  | .D => { q with dMem := c }
  | .C => { q with cMem := c }
  | .P => q

/-- The access of `w` bytes is misaligned. -/
def misaligned (ea w : Nat) : Bool := decide (ea % w ≠ 0)
/-- The access of `w` bytes lies beyond its memory. -/
def beyond (m : SMem) (ea w : Nat) : Bool := decide (memSize m < ea + w)

/-- The first trap among accesses (memory, address, width), ALIGN before RANGE (R192). -/
def accessTrap (l : List (SMem × Nat × Nat)) : Option Trap :=
  if l.any fun p => misaligned p.2.1 p.2.2 then some .align
  else if l.any fun p => beyond p.1 p.2.1 p.2.2 then some .range
  else none

/-- The address of a descriptor. -/
def Seq.ea (q : Seq) (md : MD) : Nat := (q.xr md.x).toNat
/-- A word operand. -/
def Seq.loadW (q : Seq) (md : MD) : Word := memWord (q.memOf md.mem) (q.ea md)
/-- A half operand. -/
def Seq.loadH (q : Seq) (md : MD) : Half := memHalf (q.memOf md.mem) (q.ea md)
/-- The trap of an access of `w` bytes through a descriptor. -/
def Seq.mdTrap (q : Seq) (md : MD) (w : Nat) : Option Trap := accessTrap [(md.mem, q.ea md, w)]

/-! ### Selectors and products (R150, R184) -/

/-- The 16 bits a selector takes from a word (R150). -/
def pickHalf : HalfSel → Word → Half
  | .H, w => BitVec.ofNat 16 (w.toNat / 2 ^ 16)
  | .L, w => BitVec.ofNat 16 w.toNat
  | .S24H, w => BitVec.ofNat 16 (w.toNat / 2 ^ 8)
  | .S24L, w => BitVec.ofNat 16 (w.toNat % 2 ^ 8)

/-- The bytes that a memory operand with this selector reads (R184). -/
def selWidth : HalfSel → Nat
  | .L => 2
  | _ => 4

/-- A 16-bit memory operand (R184). -/
def Seq.pickMem (q : Seq) (md : MD) : HalfSel → Half
  | .L => q.loadH md
  | sel => pickHalf sel (q.loadW md)

/-- A 16-bit operand read signed or unsigned. -/
def halfVal (unsigned : Bool) (h : Half) : Int := if unsigned then (h.toNat : Int) else h.toInt

/-- The exact product (R150). -/
def product (sm : SMode) (a b : Half) : Int := halfVal sm.aUnsigned a * halfVal sm.bUnsigned b

/-! ### Accumulators (R182, R183) -/

/-- The rounded value that a store or read-out forms from an accumulator (R151, R182). -/
def accRound (a : AccWord) (k : Nat) : Int := roundHalfEven a.toInt k

/-- The low bits or the nearest limit of a rounded value (R151). -/
def storeVal (w : Nat) (v : Int) (sat : Bool) : Int := if sat then satTo w v else v

/-- The redundant-sign count (R183). -/
def signRun (a : AccWord) : Nat → Nat
  | 0 => 0
  | k + 1 => if a.getLsbD k = a.msb then 1 + signRun a k else 0

/-- r of NORM and EXP (R183). -/
def redundant (a : AccWord) : Nat := signRun a 39

/-! ### Word sizes (R172) -/

/-- The words an instruction takes, from its first word (R172). -/
def wordCount (w : Nat) : Nat :=
  if bits w 31 24 = 0x32 then 2
  else if bits w 31 24 = 0x60 ∧ (bitOn w 1 ∨ bits w 10 9 = 2 ∨ bits w 3 2 = 2) then 2
  else 1

/-! ### PC and repeats (R147, R148) -/

/-- The repeat levels that a branch to `t` leaves active: a level whose range excludes the target ends with
every level inside it (R148). -/
def keepReps (t : Nat) : List Rep → List Rep
  | [] => []
  | r :: rs =>
    if (r :: rs).all fun x => decide (x.first ≤ t ∧ t ≤ x.last) then r :: rs else keepReps t rs

/-- A branch to `t` (R178, R148). -/
def Seq.jump (q : Seq) (t : Nat) : Seq := { q with pc := t % 2 ^ 14, reps := keepReps (t % 2 ^ 14) q.reps }

/-- PC goes on behind an instruction whose last word lies at `e`: to the start of a level that ends there and
still repeats, innermost first, else to the next word (R148). -/
def advanceFrom (e : Nat) : List Rep → Nat × List Rep
  | [] => ((e + 4) % 2 ^ 14, [])
  | r :: rs =>
    if r.last = e then
      if 1 < r.count then (r.first, { r with count := r.count - 1 } :: rs) else advanceFrom e rs
    else ((e + 4) % 2 ^ 14, r :: rs)

/-- PC goes on behind an instruction of `w` words at PC. -/
def Seq.advance (q : Seq) (w : Nat) : Seq :=
  let r := advanceFrom (q.pc + 4 * (w - 1)) q.reps
  { q with pc := r.1, reps := r.2 }

/-- The instruction in hand has executed: an RPT repeats it or PC goes on (R147). -/
def Seq.retire (q : Seq) (w : Nat) : Seq :=
  match q.rpt with
  | some (k + 2) => { q with rpt := some (k + 1) }
  | _ => { q with rpt := none }.advance w

end Sys2Proof.Machine
end

