-- ==== Sys2Proof/Config.lean ====
section
/-! DEFINITION. What the spec leaves open: the free values, and the standard functions the spec names but does
not define. Each is opaque, so no proof can rest on what it computes. -/

namespace Sys2Proof

/-- A fresh free value of the width asked for, by number (`State.free` counts them). -/
opaque Config.freeValue : Nat → Nat

/-- SHA-256 of a byte string (R310, R167, R304): 32 bytes. -/
opaque Config.sha256 : List Byte → List Byte

/-- The Huachera version of the image running (R406). -/
opaque Config.huachera : Word

/-- The ball-to-interpolator delay of TDC source s (R109), "Per device". -/
opaque Config.srcDly : Nat → Half

/-- ETH_PIN_DLY of port p and STL pin delays of link l, "Per device": RX then TX. -/
opaque Config.ethPinDly : Nat → Word
opaque Config.stlPinDly : Nat → Word

/-- PCS_LOCK, FEC_LOCK and AN_DONE of port p at a local time while the link is down (R194). -/
opaque Config.ethLocks : Nat → Nat → BitVec 3

/-- What the data pairs of front-end port f carry in the clock period of FEn_CLK whose coarse edge lies at a time of the Warden clock, with
the delays of FE_DESKEW (R122): pair k at the rising edge in bit 2k, at the falling edge in bit 2k + 1; none where no period begins there. -/
opaque Config.feSample : Nat → Nat → Nat → Option (BitVec 8)

/-- The mean power in 1/4 dB of so many samples with that sum of I² + Q² (chapter 6, FE POW): the reference level is not given. -/
opaque Config.fePower : Nat → Nat → Half

/-- The chip of the primary code of a SIG and PRN is −1 (R126): the codes are those of the systems' own documents. -/
opaque Config.primaryCode : Nat → Nat → Nat → Bool

/-- The carrier phasor of each of the 64 phases, and the part of a phase (in 2^-32 cycle) that is added before it is cut to 64 (R128). -/
opaque Config.phasor : Nat → Int × Int
opaque Config.phaseRound : Nat

/-- The power of a cell of an acquisition job (R133, R134): SIG, PRN, sample rate, IF in Hz, COH, NCOH, the samples, the code phase in 1/4
chip and twice the Doppler in Hz. -/
opaque Config.cellPower : Nat × Nat × Nat × Int × Nat × Nat → List Byte → Nat → Int → Word

/-- How many transactions of requester 3 may wait before a swatch sample cannot be written (R139). -/
opaque Config.swatchBacklog : Nat

/-- The single-bit errors that sequencer n's memories correct at a time of the Warden clock (R166). -/
opaque Config.seqCorr : Nat → Nat → Nat

/-- What no rule states of the IP headers that TSV and AUD send: ECN, identification, flags and fragment offset, flow label; and the DSCP
and the TTL of TSV's. -/
opaque Config.ipEcn : Nat
opaque Config.ipIdent : List Byte → Nat
opaque Config.ipFrag : Nat
opaque Config.ip6Flow : Nat
opaque Config.ipDscp : Nat
opaque Config.ipTtl : Nat

/-- The MAC address of the next hop from port p to a unicast address, IPv6 or not. -/
opaque Config.nextHop : Nat → Bool → Nat → Nat

/-- portNumber of the PTP instance of port p (R224). -/
opaque Config.ptpPortNo : Nat → Nat

/-- The last octet of a GRANT_UNICAST_TRANSMISSION TLV, renewalInvited. -/
opaque Config.ucRenewal : Nat

/-- The ICV of an ALG under a key over the bytes of a message ahead of it (R232); the initialisation vector of GMAC is formed from these
as IEEE 1588-2019 Annex P defines it. -/
opaque Config.icv : Nat → List Byte → List Byte → Nat

/-- The junction temperature, in 1/16 °C, at a local time. -/
opaque Config.temp : Nat → Half

/-- The level at the GPIO balls at a local time. -/
opaque Config.gpioIn : Nat → Half

/-- The identity public key ATT_DEVID_PUB, word w, "Per device". -/
opaque Config.devidPub : Nat → Word

/-- The leftmost 64 bits of AES-CMAC under the tag key over slot, bank, GEN, ATTR and KEY (R289). -/
opaque Config.keyTag : Nat → Nat → Nat → Nat → List Byte → DWord

/-- RFC 3394 unwrapping under a key: none where the integrity check fails (R291). -/
opaque Config.unwrap : List Byte → List Byte → Option (List Byte)

/-- The ECDSA P-256 signature of Warden's signing engine over a byte string: r then s (R302). -/
opaque Config.sign : List Byte → List Byte

/-- The dataset comparison of a profile (R222): the profile, the local priority of the port, the own clock's part in the
comparison (whether the first is the own dataset, the second is), and the two datasets; true where the first is better. -/
opaque Config.bmca : Nat → Nat → Bool → Bool → Dataset → Dataset → Bool

/-- Sealing with AEAD_AES_SIV_CMAC_256: key, nonce, associated data, plaintext; the synthetic IV and the ciphertext
(R237, R238). -/
opaque Config.sivSeal : List Byte → List Byte → List Byte → List Byte → List Byte

/-- Opening what `sivSeal` made; none where it fails. -/
opaque Config.sivOpen : List Byte → List Byte → List Byte → List Byte → Option (List Byte)

/-- The frame rate in Hz that an AES3 input measures from the local times of its preambles (R257): no rule states how. -/
opaque Config.aesRate : List Nat → Nat

/-- STATE of an AES3 output that waits for the common start trigger (R265), which no table states. -/
opaque Config.aesoWait : BitVec 3

/-- The ECDSA P-256 signature is valid (R168): public key, digest, signature. -/
opaque Config.sigOk : List Byte → List Byte → List Byte → Bool

end Sys2Proof
end

