-- ==== Sys2Proof/Machine/RegName.lean ====
section
/-! DEFINITION. The names of the registers, in the spec's own spelling; registers that a chapter
lists without their block prefix carry the name of their unit (FE, ACQ, SW, CH, CLU, ROWT for SHADOW, ROWA for
ACTIVE, PTP, RXS, TXS, AESI, AESO, DMA). -/

namespace Sys2Proof.Machine

/-- Every register of the register space of R29. -/
inductive RegName where
  | TOP_ID | TOP_OWNER | TOP_SEQ_WPERM | TOP_CAST | TOP_CONFIG | TOP_BINDOFF | TOP_TEMP
  | TOP_CFGIMG | TOP_GPIO_OUT | TOP_GPIO_IN
  | GAU_CTL | GAU_STATE | GAU_SNAP | GAU_INC | GAU_FADJ | GAU_SLEW_MAX | GAU_SLEW_AMT
  | GAU_SLEW_REM | GAU_STEP_AMT | GAU_STEP_AT | GAU_STEP_CTL | GAU_STEP_STAT | GAU_STEP_ACK
  | GAU_STEP_MIN | GAU_STEP_CONFIRM | GAU_STEP_AGREE | GAU_GUARD | GAU_GUARD_DEV | GAU_HB_MAX
  | GAU_BND_FLOOR | GAU_HO_N | GAU_HO_BH | GAU_CLASS_TH | GAU_CLASS_VAL | GAU_CLASS_CFG | GAU_UTC
  | GAU_LEAP_AT
  | SEL_CTL | SEL_FORCE | SEL_REVERT | SEL_AGREE | SEL_SPAN | SEL_STATUS | SEL_SW_STAT
  | SEL_SW_DELTA | SEL_SW_UNC | SEL_SW_BND | SEL_HOSTSET | SEL_HOSTSET_UNC | SEL_CFG | SEL_PER
  | SEL_DIV | SEL_FWIN | SEL_PJ | SEL_STATE | SEL_FREQ | SEL_TDEV | SEL_CNT | SEL_OFS | SEL_OFSU
  | SEL_OFSB | SEL_OFS_AGE
  | HLD_CTL | HLD_AVG | HLD_AGE | HLD_MODEL_FU | HLD_MODEL_AU | HLD_FRZ | HLD_FAVG | HLD_AGE_NOW
  | HLD_STAT | HLD_ATOM_PH | HLD_ATOM_REF | HLD_ATOM_DEV
  | OUT_GRPB | OUT_GRPB_MAXPULL | OUT_GRPC | OUT_GRPB_OFS | OUT_GRPC_OFS | OUT_APLL | OUT_SQ_STAT
  | OUT_CFG | OUT_P1 | OUT_P2 | OUT_OFFSET | OUT_OFFSET_FR | OUT_COMP | OUT_SQ_BND | OUT_SKIP
  | TDC_CTL | TDC_CAL | TDC_TEN | TDC_TEN_OUT | TDC_CAL_STAT | TDC_CAL_CANCEL | TDC_SRC_DLY
  | TDC_CFG | TDC_DIV | TDC_TIMEOUT | TDC_RING_BASE | TDC_RING_LEN | TDC_RING_PROD
  | TDC_RING_CONS | TDC_GEN | TDC_STAT | TDC_BANK_HEAD | TDC_BANK_E | TDC_BANK_TAIL
  | GNS_CTL | GNS_LATCH | GNS_LATCH_N | GNS_PAIR | GNS_SPI_CTL | GNS_SPI_TX | GNS_SPI_RX
  | GNS_IND_CTL | GNS_IND_TH | GNS_IND_DRIFT | GNS_IND_EN | GNS_IND_STAT | GNS_BIAS
  | GNS_BIAS_SEQ | GNS_SYS | FE_CFG | FE_FS | FE_IF | FE_STAT | FE_POW | FE_BASE | FE_DESKEW
  | FE_SCNT | ACQ_STAGE | ACQ_STAGE_LEN | ACQ_CFG | ACQ_DOP | ACQ_INT | ACQ_TS | ACQ_SWADDR
  | ACQ_RES_SCNT | ACQ_RES_CODE | ACQ_RES_DOP | ACQ_RES_PEAK | ACQ_RES_SECOND | ACQ_RES_NOISE
  | ACQ_STAT | SW_CTL | SW_AT | SW_BASE | SW_LEN | SW_STAT | CH_CFG | CH_SP | CH_MOFS
  | CH_CODE_NCO | CH_CARR_NCO | CH_START_PH | CH_START_SCNT | CH_STAT | CH_CODE_NOW | CH_CARR_NOW
  | GNS_LATCH_BANK
  | SEQ_CTL | SEQ_STAT | SEQ_WD | SEQ_ROLE | SEQ_ERR | SEQ_IMG | CLU_LOAD_ADDR | CLU_LOAD_CTL
  | CLU_LOAD_STAT | CLU_SPARE | CLU_SCHED | CLU_TDC_MAP
  | ETH_CFG | ETH_STAT | ETH_PAUSE | ETH_HIWM | ETH_LOWM | ETH_PAUSE_STAT | ETH_PREEMPT
  | ETH_PREEMPT_STAT | ETH_TX_COMP | ETH_TEN | ETH_GEN | ETH_PIN_DLY | ETH_ROW_CTL | ETH_ROW_STAT
  | ETH_ROW_LAND | ETH_TXTS | ETH_TXTS_STAT | ETH_DROP | ETH_RXDEF | ETH_DROP2 | ETH_LOOP
  | ETH_FLT_CTL | ETH_FLT_KEY | ETH_FLT_UDP | ETH_RXQ_CFG | ETH_RXQ_OCC | ETH_RXQ_DROP
  | ETH_RXQ_SPILL_BASE | ETH_RXQ_SPILL_LEN | ROWT_CYCLE | ROWT_BASE | ROWT_NSLOT | ROWT_OFS
  | ROWT_GATE | ETH_BANK_HEAD | ETH_BANK_E | ETH_BANK_TAIL | ROWA_CYCLE | ROWA_BASE | ROWA_NSLOT
  | ROWA_OFS | ROWA_GATE
  | TSV_CTL | TSV_CLOCKID | TSV_DS | TSV_QUAL | TSV_TRACE | TSV_MSG_STAT | TSV_CMAP_TH
  | TSV_CMAP_VAL | TSV_CMAP_CFG | TSV_UC_DUR | TSV_UC_MINLOG | TSV_UC_STAT | TSV_SA_CFG
  | TSV_SA_KEYID | TSV_SA_STAT | TSV_NTP_CTL | TSV_NTP_STRAT | TSV_NTP_REFID | TSV_NTP_PREC
  | TSV_NTP_RESP | TSV_NTP_NAK | TSV_NTP_DISC | TSV_BEXT | TSV_BEXT_NTP | TSV_NTS_KEY
  | TSV_NTS_NEXT | TSV_NTS_ROT_AT | TSV_MINT_REQ_BASE | TSV_MINT_RES_BASE | TSV_MINT_LEN
  | TSV_MINT_REQ_PROD | TSV_MINT_REQ_CONS | TSV_MINT_RES_PROD | TSV_MINT_RES_CONS | PTP_CFG
  | PTP_RATE | PTP_NET | PTP_AUTH | PTP_MAC | PTP_IPV4 | PTP_IPV6 | PTP_SYNC_OFS | PTP_RXCOMP
  | PTP_STAT | PTP_DISC | PTP_PARENT | PTP_GM | PTP_UCM | PTP_UCM_ADDR | TSV_SESSION
  | TSV_SESSION_ID | TSV_SESSION_PORT | TSV_SESSION_ADDR
  | AUD_CTL | AUD_DOM | AUD_ROW | AUD_ZC | AUD_STRIP | AUD_ASRC | AUD_RXNM | AUD_TRIG_CTL
  | AUD_TRIG_AT | AUD_TRIG_AESO | AUD_TRIG_TXS | AUD_IMAP | RXS_CFG | RXS_LEG | RXS_LEG_ADDR
  | RXS_RTP_OFS | RXS_SSRC | RXS_STAT | RXS_CNT0 | RXS_CNT1 | RXS_CNT2 | RXS_CNT3 | TXS_CFG
  | TXS_LEG | TXS_LEG_ADDR | TXS_FIRST | TXS_RTP_OFS | TXS_SSRC | TXS_LOFS | TXS_NET | TXS_STAT
  | AESI_CFG | AESI_STAT | AESI_RATE | AESI_CNT | AESI_CS_A | AESI_CS_B | AESI_UB_A | AESI_UB_B
  | AESO_CFG | AESO_STAT | AESO_CS_A | AESO_CS_B | AESO_UB_A | AESO_UB_B
  | MIX_NODE | MIX_CTL | MIX_MET | MIX_STAT | MIX_NODES | MIX_PROBE | MIX_PROBE_VAL | MIX_DLYLATE
  | MIX_STAT2 | MIX_ODL_BASE | MIX_ROLE | MIX_ICTL | MIX_IGAIN | MIX_ISTAT | MIX_IMETER | MIX_IBQ
  | MIX_OCTL | MIX_OGAIN | MIX_OSTAT | MIX_OMETER | MIX_OBQ | MIX_OMAP
  | KEY_CTL | KEY_OP | KEY_OP_ATTR | KEY_CTX | KEY_DATA | KEY_STAT | KEY_TAMPER | KEY_SLOT_STAT
  | KEY_SLOT_ATTR
  | LOG_STAT | LOG_TAIL | LOG_HEAD | LOG_TAIL2 | LOG_SEQ | LOG_LINK | LOG_ACK | LOG_WARN
  | LOG_GAPCNT | LOG_RSV_WIN | LOG_RING_WIN | ATT_NONCE | ATT_CTL | ATT_REPORT | ATT_FUSE
  | ATT_FUSE_ARM | ATT_FUSE_CMD | ATT_FUSE_STAT | ATT_FUSE_HASH | ATT_OWNER_HASH | ATT_DEVID_PUB
  | STL_CFG | STL_HOPS | STL_TWIN_CFG | STL_TWIN_TIME | STL_TWIN_LIM | STL_TWIN_MIRROR
  | STL_TWIN_CTL | STL_TWIN_STAT | STL_TWIN_ROLE_AT | STL_TWIN_DIG | STL_LCFG | STL_LSTAT
  | STL_PEER | STL_ASYM | STL_GEN | STL_PIN_DLY | STL_CNT | STL_PS | STL_BANK_HEAD | STL_BANK_E
  | STL_BANK_TAIL
  | FLT_CTL | FLT_STAT | FLT_LAST_GNS | FLT_INJ | FLT_INJ_STAT | FLT_SRC_CFG | FLT_SRC_STAT
  | FLT_SRC_CNT
  | REC_CTL | REC_STAT | REC_SEQ | REC_UNIT | REC_UNIT_LO | REC_UNIT_CLR | REC_CODE
  | REC_CODE_COUNT | REC_CODE_SUPP | REC_LIVE | REC_WIN
  | PMC_SWEEP | PMC_SWEEP_PER | PMC_SWEEP_STAT | PMC_SAMP_RING | PMC_SAMP_LEN | PMC_SAMP_PROD
  | PMC_SAMP_CONS | PMC_SAMP_LOST | PMC_SAMP | PMC_SAMP_PERIOD | PMC_CNT | PMC_BANK_HEAD
  | PMC_BANK_GNS | PMC_BANK_ENTRY | PMC_BANK_TAIL
  | HST_STAT | HST_WERR | HST_WERR_ADDR | HST_IRQ_STAT | HST_IRQ_MASK | HST_MBX_CTL
  | HST_MBX_STAT | HST_MBX_REQ | HST_MBX_RSP | HST_MSIX | HST_MSIX_PBA | DMA_CFG | DMA_RING_BASE
  | DMA_RING_LEN | DMA_PROD | DMA_CONS | DMA_STAT
  | MEM_CFG | MEM_STAT | MEM_SCRUB | MEM_UE_ADDR | MEM_UE_INFO | MEM_PROT | MEM_SPARE | MEM_CORR
  | MEM_REQ | MEM_STARVE | MEM_REQ_STAT
  | SBD_CFG | SBD_STAT | SBD_WERR | SBD_WERR_ADDR | SBD_IBI_MASK
  deriving DecidableEq

end Sys2Proof.Machine
end

