-- ==== Sys2Proof/Machine/RegMap.lean ====
section
/-! DEFINITION. The register map: for each register its place (R29 to R32 and the tables of the
chapters), its words, the boundary of its class E fields (R11), and its fields with access code (R8),
class (R10), reset value and permitted values (R403). -/

namespace Sys2Proof.Machine

/-- The access codes of R8. -/
inductive FAcc where
  | rw | ro | wo | w1c | rc
  deriving DecidableEq, Repr

/-- The classes of R10; `n` is a field without a class. -/
inductive FCls where
  | s | e | d | n
  deriving DecidableEq, Repr

/-- The values a field may be given (R403). -/
inductive FOk where
  | any
  | range (lo hi : Nat)
  | srange (lo hi : Int)
  | pow2 (lo hi : Nat)
  | align (k : Nat)
  | divides (n : Nat)
  | oneOf (l : List Nat)
  deriving DecidableEq, Repr

/-- The kinds of boundary a register's class E fields have. -/
inductive BKind where
  | none | second | row | latch | dump | frame | pulse | blockOut | node | biquad | sideband
  deriving DecidableEq, Repr

/-- A field of a register. -/
structure Field where
  hi : Nat
  lo : Nat
  acc : FAcc
  cls : FCls
  rst : Nat
  ok : FOk
  deriving DecidableEq, Repr

/-- Where a register lies: its first address, its words of 32 bits, the counts and strides of its
indices, and the boundary of its class E fields. -/
structure Geo where
  base : Nat
  words : Nat
  dims : List (Nat × Nat)
  bnd : BKind
  deriving DecidableEq, Repr

/-- A field software can write. -/
def fd (hi lo : Nat) (acc : FAcc) (cls : FCls) (rst : Nat) (ok : FOk := .any) : Field :=
  ⟨hi, lo, acc, cls, rst, ok⟩
/-- A read-only field. -/
def ro (hi lo : Nat) : Field := ⟨hi, lo, .ro, .n, 0, .any⟩
/-- A field a read clears. -/
def rc (hi lo : Nat) : Field := ⟨hi, lo, .rc, .n, 0, .any⟩
/-- A field that writing 1 clears. -/
def w1c (hi lo : Nat) : Field := ⟨hi, lo, .w1c, .n, 0, .any⟩

/-! ### Reset values that differ from unit to unit -/

/-- GAU_CLASS_THk (R56). -/
def classTh (k : Nat) : Nat := [16000, 1600, 16000, 160000, 0xFFFFFFFE].getD k 0
/-- GAU_CLASS_VALk.MASK (R56). -/
def classMask (k : Nat) : Nat := [2, 4, 4, 4, 4].getD k 0
/-- GAU_CLASS_VALk.CLASS (R56). -/
def classVal (k : Nat) : Nat := [6, 7, 140, 150, 160].getD k 0
/-- TYPE of candidate k (R61): 1 is TIME. -/
def candType (k : Nat) : Nat := if k < 9 then 0 else if k ≤ 17 then 1 else if k ≤ 25 then 0 else 1
/-- IGRP of candidate k (R61). -/
def candIgrp (k : Nat) : Nat :=
  if k < 9 then 0 else if k = 9 then 1 else if k ≤ 17 then 2 else if k ≤ 25 then 0
  else if k ≤ 29 then 3 else 0
/-- PER of candidate k (R61). -/
def candPer (k : Nat) : Nat :=
  if k < 8 then 1000000000 else if k = 8 then 1000000 else if k = 9 then 1000000000
  else if k ≤ 17 then 62500000 else if k ≤ 29 then 1000000 else 0
/-- DIV of candidate k. -/
def candDiv (k : Nat) : Nat := if k < 8 then 1 else if k = 8 then 10000 else 0
/-- The mix role of sequencer n at reset: j for MSj below 136, 0xFF otherwise. -/
def seqRole (n : Nat) : Nat := if 16 ≤ n ∧ n < 152 then n - 16 else 0xFF
/-- The default severity of fault source s (R338): 0 NOTE, 1 DEGRADE, 2 FENCE, 3 RELINQUISH,
4 HALT. -/
def fltSev (s : Nat) : Nat :=
  [3, 3, 3, 3, 3, 1, 1, 3, 1, 4, 1, 2, 2, 2, 0, 1,
   0, 1, 2, 3, 3, 2, 1, 1, 1, 1, 1, 0, 1, 1, 3, 1].getD s 0
/-- The minimum severity of fault source s (R338). -/
def fltMin (s : Nat) : Nat :=
  [3, 3, 3, 3, 1, 1, 0, 3, 0, 4, 1, 0, 0, 2, 0, 1,
   0, 0, 1, 2, 2, 1, 1, 0, 0, 0, 1, 0, 0, 0, 3, 1].getD s 0
/-- Fault source s has a fence action (R338). -/
def fltHasFence (s : Nat) : Bool := decide (s = 6 ∨ (11 ≤ s ∧ s ≤ 14) ∨ (16 ≤ s ∧ s ≤ 21))
/-- CODE.COMMIT of recorder code c (R348): 1 for every listed code. -/
def recCommit (c : Nat) : Nat :=
  if c ∈ [0x01, 0x02, 0x08, 0x09, 0x0A, 0x18, 0x20, 0x28, 0x29, 0x30, 0x31, 0x32, 0x3E, 0x3F, 0x40]
    ∨ (0x80 ≤ c ∧ c ≤ 0xBF) then 1 else 0
/-- MEM_REQr.PRI (R377). -/
def memPri (r : Nat) : Nat := [7, 6, 6, 4, 3, 5, 5, 2, 2, 1, 5, 1, 4, 4, 0, 0].getD r 0
/-- MEM_REQr.SHARE (R377). -/
def memShare (r : Nat) : Nat := [16, 16, 8, 8, 16, 16, 8, 32, 32, 4, 16, 4, 4, 32, 2, 0].getD r 0
/-- MEM_REQr.PREEMPT (R377). -/
def memPreempt (r : Nat) : Nat := if r < 3 then 1 else 0
/-- MEM_REQr.STARVE (R377). -/
def memStarve (r : Nat) : Nat :=
  [20, 50, 50, 100, 1000, 100, 100, 1000, 1000, 10000, 200, 10000, 200, 200, 65535, 65535].getD r 0

/-! ### The output registers, whose fields differ by kind: OUT for i below 12, PPSO for 12 to 15,
TOD for 16 and 17, WCLK for 18 and 19 (chapter 4) -/

/-- OUT_CFG. -/
def outCfgFields (i : Nat) : List Field :=
  let sq := if 12 ≤ i ∧ i < 18 then 1 else 0
  let common := [
    fd 31 31 .rw .d 0, -- EN
    fd 30 30 (if i < 12 then .rw else .ro) .s (if 12 ≤ i ∧ i < 18 then 1 else 0), -- GRPA
    fd 27 27 .rw .d sq, -- SQ_FREE
    fd 26 26 .rw .d sq] -- SQ_STBY
  common ++
    if i < 12 then [fd 29 28 .rw .s 0 (.range 0 2)] -- FMT
    else if i < 16 then [fd 25 25 .rw .s 0] -- POL
    else if i < 18 then [
      fd 24 24 .rw .e 0, -- NEXT
      fd 23 21 .rw .s 4, -- BAUD
      fd 16 15 .rw .s (i - 16)] -- SRC
    else [
      fd 20 18 .rw .s 2 (.range 0 6), -- RATE
      fd 17 17 .rw .s 0] -- MODE
/-- OUT_P1. -/
def outP1Fields (i : Nat) : List Field :=
  if i < 12 then [fd 31 0 .rw .s 10000000]
  else if i < 16 then [fd 31 0 .rw .s 1000000000]
  else if i < 18 then [fd 31 0 .rw .s 100 (.range 1 500)]
  else [fd 31 0 .rw .s 1 (.range 1 65535)]
/-- OUT_P2. -/
def outP2Fields (i : Nat) : List Field :=
  if i < 12 then [fd 31 0 .rw .s 1 (.range 1 65535)]
  else if i < 16 then [fd 31 0 .rw .e 100000000]
  else if i < 18 then []
  else [fd 31 0 .rw .s 25 (.range 1 65535)]
/-- OUT_OFFSET. -/
def outOffsetFields (i : Nat) : List Field :=
  if i < 12 then [fd 31 0 .rw .s 0] else if i < 16 then [fd 31 0 .rw .e 0] else []
/-- OUT_OFFSET_FR. -/
def outOffsetFrFields (i : Nat) : List Field :=
  if i < 12 then [fd 5 0 .rw .s 0] else if i < 16 then [fd 5 0 .rw .e 0] else []
/-- OUT_COMP. -/
def outCompFields (i : Nat) : List Field := if i < 16 ∨ 18 ≤ i then [fd 31 0 .rw .d 0] else []
/-- OUT_SQ_BND. -/
def outSqBndFields (i : Nat) : List Field := if i < 18 then [fd 31 0 .rw .d 0xFFFFFFFF] else []
/-- OUT_SKIP. -/
def outSkipFields (i : Nat) : List Field :=
  if 12 ≤ i ∧ i < 18 then [rc 31 16] else if 18 ≤ i then [fd 0 0 .wo .d 0] else []

/-! ### The map -/

/-- Where each register lies. -/
def RegName.geo : RegName → Geo
  | .TOP_ID => ⟨0x00000000, 1, [], .none⟩
  | .TOP_OWNER => ⟨0x00000010, 1, [], .none⟩
  | .TOP_SEQ_WPERM => ⟨0x00000040, 1, [(10, 4)], .none⟩
  | .TOP_CAST => ⟨0x00000080, 1, [], .none⟩
  | .TOP_CONFIG => ⟨0x00000084, 1, [], .none⟩
  | .TOP_BINDOFF => ⟨0x00000088, 1, [], .none⟩
  | .TOP_TEMP => ⟨0x0000008C, 1, [], .none⟩
  | .TOP_CFGIMG => ⟨0x00000090, 1, [(4, 4)], .none⟩
  | .TOP_GPIO_OUT => ⟨0x000000C0, 1, [], .none⟩
  | .TOP_GPIO_IN => ⟨0x000000C4, 1, [], .none⟩
  | .GAU_CTL => ⟨0x00100000, 1, [], .none⟩
  | .GAU_STATE => ⟨0x00100004, 1, [], .none⟩
  | .GAU_SNAP => ⟨0x00100010, 5, [], .none⟩
  | .GAU_INC => ⟨0x00100030, 2, [], .none⟩
  | .GAU_FADJ => ⟨0x00100038, 1, [], .none⟩
  | .GAU_SLEW_MAX => ⟨0x00100040, 1, [], .none⟩
  | .GAU_SLEW_AMT => ⟨0x00100048, 2, [], .none⟩
  | .GAU_SLEW_REM => ⟨0x00100050, 2, [], .none⟩
  | .GAU_STEP_AMT => ⟨0x00100060, 3, [], .none⟩
  | .GAU_STEP_AT => ⟨0x00100070, 2, [], .none⟩
  | .GAU_STEP_CTL => ⟨0x00100078, 1, [], .none⟩
  | .GAU_STEP_STAT => ⟨0x0010007C, 1, [], .none⟩
  | .GAU_STEP_ACK => ⟨0x00100080, 1, [], .none⟩
  | .GAU_STEP_MIN => ⟨0x00100090, 1, [], .none⟩
  | .GAU_STEP_CONFIRM => ⟨0x00100094, 1, [], .none⟩
  | .GAU_STEP_AGREE => ⟨0x00100098, 1, [], .none⟩
  | .GAU_GUARD => ⟨0x0010009C, 1, [], .none⟩
  | .GAU_GUARD_DEV => ⟨0x001000A0, 2, [], .none⟩
  | .GAU_HB_MAX => ⟨0x001000A8, 1, [], .none⟩
  | .GAU_BND_FLOOR => ⟨0x001000AC, 1, [], .none⟩
  | .GAU_HO_N => ⟨0x001000B0, 1, [], .none⟩
  | .GAU_HO_BH => ⟨0x001000B4, 1, [], .none⟩
  | .GAU_CLASS_TH => ⟨0x001000C0, 1, [(8, 8)], .second⟩
  | .GAU_CLASS_VAL => ⟨0x001000C4, 1, [(8, 8)], .second⟩
  | .GAU_CLASS_CFG => ⟨0x00100100, 1, [], .second⟩
  | .GAU_UTC => ⟨0x00100110, 1, [], .second⟩
  | .GAU_LEAP_AT => ⟨0x00100118, 2, [], .none⟩
  | .SEL_CTL => ⟨0x00180000, 1, [], .second⟩
  | .SEL_FORCE => ⟨0x00180004, 1, [], .none⟩
  | .SEL_REVERT => ⟨0x00180008, 1, [], .none⟩
  | .SEL_AGREE => ⟨0x0018000C, 1, [], .second⟩
  | .SEL_SPAN => ⟨0x00180010, 1, [], .second⟩
  | .SEL_STATUS => ⟨0x00180014, 1, [], .none⟩
  | .SEL_SW_STAT => ⟨0x00180018, 1, [], .none⟩
  | .SEL_SW_DELTA => ⟨0x00180020, 3, [], .none⟩
  | .SEL_SW_UNC => ⟨0x0018002C, 1, [], .none⟩
  | .SEL_SW_BND => ⟨0x00180030, 1, [], .none⟩
  | .SEL_HOSTSET => ⟨0x00180038, 2, [], .none⟩
  | .SEL_HOSTSET_UNC => ⟨0x00180040, 1, [], .none⟩
  | .SEL_CFG => ⟨0x00181000, 1, [(31, 0x40)], .second⟩
  | .SEL_PER => ⟨0x00181004, 1, [(31, 0x40)], .none⟩
  | .SEL_DIV => ⟨0x00181008, 1, [(31, 0x40)], .none⟩
  | .SEL_FWIN => ⟨0x0018100C, 1, [(31, 0x40)], .second⟩
  | .SEL_PJ => ⟨0x00181010, 1, [(31, 0x40)], .second⟩
  | .SEL_STATE => ⟨0x00181014, 1, [(31, 0x40)], .none⟩
  | .SEL_FREQ => ⟨0x00181018, 1, [(31, 0x40)], .none⟩
  | .SEL_TDEV => ⟨0x0018101C, 1, [(31, 0x40)], .none⟩
  | .SEL_CNT => ⟨0x00181020, 1, [(31, 0x40)], .none⟩
  | .SEL_OFS => ⟨0x00181028, 3, [(31, 0x40)], .none⟩
  | .SEL_OFSU => ⟨0x00181034, 1, [(31, 0x40)], .none⟩
  | .SEL_OFSB => ⟨0x00181038, 1, [(31, 0x40)], .none⟩
  | .SEL_OFS_AGE => ⟨0x0018103C, 1, [(31, 0x40)], .none⟩
  | .HLD_CTL => ⟨0x00200000, 1, [], .none⟩
  | .HLD_AVG => ⟨0x00200004, 1, [], .none⟩
  | .HLD_AGE => ⟨0x00200008, 1, [], .none⟩
  | .HLD_MODEL_FU => ⟨0x00200010, 1, [(2, 8)], .second⟩
  | .HLD_MODEL_AU => ⟨0x00200014, 1, [(2, 8)], .second⟩
  | .HLD_FRZ => ⟨0x00200020, 1, [], .none⟩
  | .HLD_FAVG => ⟨0x00200024, 1, [], .none⟩
  | .HLD_AGE_NOW => ⟨0x00200028, 1, [], .none⟩
  | .HLD_STAT => ⟨0x0020002C, 1, [], .none⟩
  | .HLD_ATOM_PH => ⟨0x00200030, 1, [], .none⟩
  | .HLD_ATOM_REF => ⟨0x00200034, 1, [], .none⟩
  | .HLD_ATOM_DEV => ⟨0x00200038, 1, [], .none⟩
  | .OUT_GRPB => ⟨0x00280000, 1, [], .none⟩
  | .OUT_GRPB_MAXPULL => ⟨0x00280004, 1, [], .none⟩
  | .OUT_GRPC => ⟨0x00280008, 1, [], .none⟩
  | .OUT_GRPB_OFS => ⟨0x00280010, 2, [], .none⟩
  | .OUT_GRPC_OFS => ⟨0x00280018, 2, [], .none⟩
  | .OUT_APLL => ⟨0x00280020, 1, [(2, 4)], .none⟩
  | .OUT_SQ_STAT => ⟨0x00280028, 1, [], .none⟩
  | .OUT_CFG => ⟨0x00281000, 1, [(20, 0x20)], .second⟩
  | .OUT_P1 => ⟨0x00281004, 1, [(20, 0x20)], .none⟩
  | .OUT_P2 => ⟨0x00281008, 1, [(20, 0x20)], .pulse⟩
  | .OUT_OFFSET => ⟨0x0028100C, 1, [(20, 0x20)], .second⟩
  | .OUT_OFFSET_FR => ⟨0x00281010, 1, [(20, 0x20)], .second⟩
  | .OUT_COMP => ⟨0x00281014, 1, [(20, 0x20)], .none⟩
  | .OUT_SQ_BND => ⟨0x00281018, 1, [(20, 0x20)], .none⟩
  | .OUT_SKIP => ⟨0x0028101C, 1, [(20, 0x20)], .none⟩
  | .TDC_CTL => ⟨0x00300000, 1, [], .none⟩
  | .TDC_CAL => ⟨0x00300004, 1, [], .second⟩
  | .TDC_TEN => ⟨0x00300008, 1, [], .none⟩
  | .TDC_TEN_OUT => ⟨0x0030000C, 1, [], .none⟩
  | .TDC_CAL_STAT => ⟨0x00300010, 1, [], .none⟩
  | .TDC_CAL_CANCEL => ⟨0x00300014, 1, [], .none⟩
  | .TDC_SRC_DLY => ⟨0x00300100, 1, [(64, 4)], .none⟩
  | .TDC_CFG => ⟨0x00301000, 1, [(24, 0x40)], .none⟩
  | .TDC_DIV => ⟨0x00301004, 1, [(24, 0x40)], .none⟩
  | .TDC_TIMEOUT => ⟨0x00301008, 1, [(24, 0x40)], .none⟩
  | .TDC_RING_BASE => ⟨0x00301010, 2, [(24, 0x40)], .none⟩
  | .TDC_RING_LEN => ⟨0x00301018, 1, [(24, 0x40)], .none⟩
  | .TDC_RING_PROD => ⟨0x0030101C, 1, [(24, 0x40)], .none⟩
  | .TDC_RING_CONS => ⟨0x00301020, 1, [(24, 0x40)], .none⟩
  | .TDC_GEN => ⟨0x00301024, 1, [(24, 0x40)], .none⟩
  | .TDC_STAT => ⟨0x00301028, 1, [(24, 0x40)], .none⟩
  | .TDC_BANK_HEAD => ⟨0x00310000, 1, [(48, 0x2000), (2, 0x1000)], .none⟩
  | .TDC_BANK_E => ⟨0x00310004, 1, [(48, 0x2000), (2, 0x1000), (640, 4)], .none⟩
  | .TDC_BANK_TAIL => ⟨0x00310A04, 1, [(48, 0x2000), (2, 0x1000)], .none⟩
  | .GNS_CTL => ⟨0x00400000, 1, [], .none⟩
  | .GNS_LATCH => ⟨0x00400004, 1, [], .none⟩
  | .GNS_LATCH_N => ⟨0x00400008, 1, [], .none⟩
  | .GNS_PAIR => ⟨0x00400010, 1, [(3, 4)], .none⟩
  | .GNS_SPI_CTL => ⟨0x00400020, 1, [], .none⟩
  | .GNS_SPI_TX => ⟨0x00400028, 2, [], .none⟩
  | .GNS_SPI_RX => ⟨0x00400030, 2, [], .none⟩
  | .GNS_IND_CTL => ⟨0x00400040, 1, [], .second⟩
  | .GNS_IND_TH => ⟨0x00400044, 1, [], .second⟩
  | .GNS_IND_DRIFT => ⟨0x00400048, 1, [], .second⟩
  | .GNS_IND_EN => ⟨0x0040004C, 1, [], .second⟩
  | .GNS_IND_STAT => ⟨0x00400050, 1, [], .none⟩
  | .GNS_BIAS => ⟨0x00400080, 1, [(13, 4)], .latch⟩
  | .GNS_BIAS_SEQ => ⟨0x004000C0, 1, [], .none⟩
  | .GNS_SYS => ⟨0x004000C4, 1, [], .latch⟩
  | .FE_CFG => ⟨0x00401000, 1, [(4, 0x100)], .none⟩
  | .FE_FS => ⟨0x00401004, 1, [(4, 0x100)], .none⟩
  | .FE_IF => ⟨0x00401008, 1, [(4, 0x100)], .none⟩
  | .FE_STAT => ⟨0x0040100C, 1, [(4, 0x100)], .none⟩
  | .FE_POW => ⟨0x00401010, 1, [(4, 0x100)], .none⟩
  | .FE_BASE => ⟨0x00401014, 1, [(4, 0x100)], .none⟩
  | .FE_DESKEW => ⟨0x00401018, 1, [(4, 0x100)], .none⟩
  | .FE_SCNT => ⟨0x00401020, 2, [(4, 0x100)], .none⟩
  | .ACQ_STAGE => ⟨0x00402000, 2, [], .none⟩
  | .ACQ_STAGE_LEN => ⟨0x00402008, 1, [], .none⟩
  | .ACQ_CFG => ⟨0x00402100, 1, [(16, 0x40)], .none⟩
  | .ACQ_DOP => ⟨0x00402104, 1, [(16, 0x40)], .none⟩
  | .ACQ_INT => ⟨0x00402108, 1, [(16, 0x40)], .none⟩
  | .ACQ_TS => ⟨0x0040210C, 1, [(16, 0x40)], .none⟩
  | .ACQ_SWADDR => ⟨0x00402110, 2, [(16, 0x40)], .none⟩
  | .ACQ_RES_SCNT => ⟨0x00402118, 2, [(16, 0x40)], .none⟩
  | .ACQ_RES_CODE => ⟨0x00402120, 1, [(16, 0x40)], .none⟩
  | .ACQ_RES_DOP => ⟨0x00402124, 1, [(16, 0x40)], .none⟩
  | .ACQ_RES_PEAK => ⟨0x00402128, 1, [(16, 0x40)], .none⟩
  | .ACQ_RES_SECOND => ⟨0x0040212C, 1, [(16, 0x40)], .none⟩
  | .ACQ_RES_NOISE => ⟨0x00402130, 1, [(16, 0x40)], .none⟩
  | .ACQ_STAT => ⟨0x00402134, 1, [(16, 0x40)], .none⟩
  | .SW_CTL => ⟨0x00403000, 1, [], .none⟩
  | .SW_AT => ⟨0x00403008, 2, [], .none⟩
  | .SW_BASE => ⟨0x00403010, 2, [], .none⟩
  | .SW_LEN => ⟨0x00403018, 1, [], .none⟩
  | .SW_STAT => ⟨0x0040301C, 1, [], .none⟩
  | .CH_CFG => ⟨0x00410000, 1, [(192, 0x80)], .none⟩
  | .CH_SP => ⟨0x00410004, 1, [(192, 0x80)], .dump⟩
  | .CH_MOFS => ⟨0x00410008, 1, [(192, 0x80)], .dump⟩
  | .CH_CODE_NCO => ⟨0x0041000C, 1, [(192, 0x80)], .none⟩
  | .CH_CARR_NCO => ⟨0x00410010, 1, [(192, 0x80)], .none⟩
  | .CH_START_PH => ⟨0x00410018, 2, [(192, 0x80)], .none⟩
  | .CH_START_SCNT => ⟨0x00410020, 2, [(192, 0x80)], .none⟩
  | .CH_STAT => ⟨0x00410028, 1, [(192, 0x80)], .none⟩
  | .CH_CODE_NOW => ⟨0x0041002C, 1, [(192, 0x80)], .none⟩
  | .CH_CARR_NOW => ⟨0x00410030, 1, [(192, 0x80)], .none⟩
  | .GNS_LATCH_BANK => ⟨0x00420000, 1, [(2, 0x2000), (1553, 4)], .none⟩
  | .SEQ_CTL => ⟨0x00800000, 1, [(160, 0x4000)], .none⟩
  | .SEQ_STAT => ⟨0x00800004, 1, [(160, 0x4000)], .none⟩
  | .SEQ_WD => ⟨0x00800008, 1, [(160, 0x4000)], .none⟩
  | .SEQ_ROLE => ⟨0x0080000C, 1, [(160, 0x4000)], .none⟩
  | .SEQ_ERR => ⟨0x00800010, 1, [(160, 0x4000)], .none⟩
  | .SEQ_IMG => ⟨0x00800020, 1, [(160, 0x4000), (8, 4)], .none⟩
  | .CLU_LOAD_ADDR => ⟨0x00A80000, 2, [(10, 0x1000)], .none⟩
  | .CLU_LOAD_CTL => ⟨0x00A80008, 1, [(10, 0x1000)], .none⟩
  | .CLU_LOAD_STAT => ⟨0x00A8000C, 1, [(10, 0x1000)], .none⟩
  | .CLU_SPARE => ⟨0x00A80010, 1, [(10, 0x1000)], .none⟩
  | .CLU_SCHED => ⟨0x00A80014, 1, [(10, 0x1000)], .none⟩
  | .CLU_TDC_MAP => ⟨0x00A80020, 1, [(3, 4)], .none⟩
  | .ETH_CFG => ⟨0x00C00000, 1, [(8, 0x10000)], .none⟩
  | .ETH_STAT => ⟨0x00C00004, 1, [(8, 0x10000)], .none⟩
  | .ETH_PAUSE => ⟨0x00C00008, 1, [(8, 0x10000)], .none⟩
  | .ETH_HIWM => ⟨0x00C0000C, 1, [(8, 0x10000)], .none⟩
  | .ETH_LOWM => ⟨0x00C00010, 1, [(8, 0x10000)], .none⟩
  | .ETH_PAUSE_STAT => ⟨0x00C00014, 1, [(8, 0x10000)], .none⟩
  | .ETH_PREEMPT => ⟨0x00C00018, 1, [(8, 0x10000)], .none⟩
  | .ETH_PREEMPT_STAT => ⟨0x00C0001C, 1, [(8, 0x10000)], .none⟩
  | .ETH_TX_COMP => ⟨0x00C00020, 1, [(8, 0x10000)], .none⟩
  | .ETH_TEN => ⟨0x00C00024, 1, [(8, 0x10000)], .none⟩
  | .ETH_GEN => ⟨0x00C00028, 1, [(8, 0x10000)], .none⟩
  | .ETH_PIN_DLY => ⟨0x00C0002C, 1, [(8, 0x10000)], .none⟩
  | .ETH_ROW_CTL => ⟨0x00C00030, 1, [(8, 0x10000)], .none⟩
  | .ETH_ROW_STAT => ⟨0x00C00034, 1, [(8, 0x10000)], .none⟩
  | .ETH_ROW_LAND => ⟨0x00C00038, 2, [(8, 0x10000)], .none⟩
  | .ETH_TXTS => ⟨0x00C00040, 8, [(8, 0x10000)], .none⟩
  | .ETH_TXTS_STAT => ⟨0x00C00060, 1, [(8, 0x10000)], .none⟩
  | .ETH_DROP => ⟨0x00C00064, 1, [(8, 0x10000)], .none⟩
  | .ETH_RXDEF => ⟨0x00C00068, 1, [(8, 0x10000)], .frame⟩
  | .ETH_DROP2 => ⟨0x00C0006C, 1, [(8, 0x10000)], .none⟩
  | .ETH_LOOP => ⟨0x00C00080, 8, [(8, 0x10000)], .none⟩
  | .ETH_FLT_CTL => ⟨0x00C01000, 1, [(8, 0x10000), (64, 0x10)], .frame⟩
  | .ETH_FLT_KEY => ⟨0x00C01004, 1, [(8, 0x10000), (64, 0x10)], .frame⟩
  | .ETH_FLT_UDP => ⟨0x00C01008, 1, [(8, 0x10000), (64, 0x10)], .frame⟩
  | .ETH_RXQ_CFG => ⟨0x00C02000, 1, [(8, 0x10000), (32, 0x20)], .frame⟩
  | .ETH_RXQ_OCC => ⟨0x00C02004, 1, [(8, 0x10000), (32, 0x20)], .none⟩
  | .ETH_RXQ_DROP => ⟨0x00C02008, 1, [(8, 0x10000), (32, 0x20)], .none⟩
  | .ETH_RXQ_SPILL_BASE => ⟨0x00C02010, 2, [(8, 0x10000), (32, 0x20)], .none⟩
  | .ETH_RXQ_SPILL_LEN => ⟨0x00C02018, 1, [(8, 0x10000), (32, 0x20)], .none⟩
  | .ROWT_CYCLE => ⟨0x00C04000, 1, [(8, 0x10000)], .none⟩
  | .ROWT_BASE => ⟨0x00C04004, 1, [(8, 0x10000)], .none⟩
  | .ROWT_NSLOT => ⟨0x00C04008, 1, [(8, 0x10000)], .none⟩
  | .ROWT_OFS => ⟨0x00C04100, 1, [(8, 0x10000), (256, 8)], .none⟩
  | .ROWT_GATE => ⟨0x00C04104, 1, [(8, 0x10000), (256, 8)], .none⟩
  | .ETH_BANK_HEAD => ⟨0x00C08000, 1, [(8, 0x10000), (4, 0x1000)], .none⟩
  | .ETH_BANK_E => ⟨0x00C08004, 1, [(8, 0x10000), (4, 0x1000), (640, 4)], .none⟩
  | .ETH_BANK_TAIL => ⟨0x00C08A04, 1, [(8, 0x10000), (4, 0x1000)], .none⟩
  | .ROWA_CYCLE => ⟨0x00C05000, 1, [(8, 0x10000)], .none⟩
  | .ROWA_BASE => ⟨0x00C05004, 1, [(8, 0x10000)], .none⟩
  | .ROWA_NSLOT => ⟨0x00C05008, 1, [(8, 0x10000)], .none⟩
  | .ROWA_OFS => ⟨0x00C05100, 1, [(8, 0x10000), (256, 8)], .none⟩
  | .ROWA_GATE => ⟨0x00C05104, 1, [(8, 0x10000), (256, 8)], .none⟩
  | .TSV_CTL => ⟨0x00D00000, 1, [], .none⟩
  | .TSV_CLOCKID => ⟨0x00D00008, 2, [], .none⟩
  | .TSV_DS => ⟨0x00D00010, 1, [], .second⟩
  | .TSV_QUAL => ⟨0x00D00014, 1, [], .second⟩
  | .TSV_TRACE => ⟨0x00D00018, 1, [], .none⟩
  | .TSV_MSG_STAT => ⟨0x00D0001C, 1, [], .none⟩
  | .TSV_CMAP_TH => ⟨0x00D00600, 1, [(3, 0x80), (8, 8)], .second⟩
  | .TSV_CMAP_VAL => ⟨0x00D00604, 1, [(3, 0x80), (8, 8)], .second⟩
  | .TSV_CMAP_CFG => ⟨0x00D00640, 1, [(3, 0x80)], .second⟩
  | .TSV_UC_DUR => ⟨0x00D00200, 1, [], .none⟩
  | .TSV_UC_MINLOG => ⟨0x00D00204, 1, [], .none⟩
  | .TSV_UC_STAT => ⟨0x00D00208, 1, [], .none⟩
  | .TSV_SA_CFG => ⟨0x00D00400, 1, [(16, 0x10)], .none⟩
  | .TSV_SA_KEYID => ⟨0x00D00404, 1, [(16, 0x10)], .none⟩
  | .TSV_SA_STAT => ⟨0x00D00408, 1, [(16, 0x10)], .none⟩
  | .TSV_NTP_CTL => ⟨0x00D00800, 1, [], .none⟩
  | .TSV_NTP_STRAT => ⟨0x00D00804, 1, [], .none⟩
  | .TSV_NTP_REFID => ⟨0x00D00808, 1, [], .none⟩
  | .TSV_NTP_PREC => ⟨0x00D0080C, 1, [], .none⟩
  | .TSV_NTP_RESP => ⟨0x00D00810, 1, [], .none⟩
  | .TSV_NTP_NAK => ⟨0x00D00814, 1, [], .none⟩
  | .TSV_NTP_DISC => ⟨0x00D00818, 1, [], .none⟩
  | .TSV_BEXT => ⟨0x00D00820, 1, [], .none⟩
  | .TSV_BEXT_NTP => ⟨0x00D00824, 1, [], .none⟩
  | .TSV_NTS_KEY => ⟨0x00D00840, 1, [], .none⟩
  | .TSV_NTS_NEXT => ⟨0x00D00844, 1, [], .none⟩
  | .TSV_NTS_ROT_AT => ⟨0x00D00848, 2, [], .none⟩
  | .TSV_MINT_REQ_BASE => ⟨0x00D00880, 2, [], .none⟩
  | .TSV_MINT_RES_BASE => ⟨0x00D00888, 2, [], .none⟩
  | .TSV_MINT_LEN => ⟨0x00D00890, 1, [], .none⟩
  | .TSV_MINT_REQ_PROD => ⟨0x00D00894, 1, [], .none⟩
  | .TSV_MINT_REQ_CONS => ⟨0x00D00898, 1, [], .none⟩
  | .TSV_MINT_RES_PROD => ⟨0x00D0089C, 1, [], .none⟩
  | .TSV_MINT_RES_CONS => ⟨0x00D008A0, 1, [], .none⟩
  | .PTP_CFG => ⟨0x00D01000, 1, [(8, 0x100)], .second⟩
  | .PTP_RATE => ⟨0x00D01004, 1, [(8, 0x100)], .second⟩
  | .PTP_NET => ⟨0x00D01008, 1, [(8, 0x100)], .none⟩
  | .PTP_AUTH => ⟨0x00D0100C, 1, [(8, 0x100)], .none⟩
  | .PTP_MAC => ⟨0x00D01010, 2, [(8, 0x100)], .none⟩
  | .PTP_IPV4 => ⟨0x00D01018, 1, [(8, 0x100)], .none⟩
  | .PTP_IPV6 => ⟨0x00D01020, 1, [(8, 0x100), (4, 4)], .none⟩
  | .PTP_SYNC_OFS => ⟨0x00D01030, 1, [(8, 0x100)], .second⟩
  | .PTP_RXCOMP => ⟨0x00D01034, 1, [(8, 0x100)], .none⟩
  | .PTP_STAT => ⟨0x00D01038, 1, [(8, 0x100)], .none⟩
  | .PTP_DISC => ⟨0x00D0103C, 1, [(8, 0x100)], .none⟩
  | .PTP_PARENT => ⟨0x00D01040, 2, [(8, 0x100)], .none⟩
  | .PTP_GM => ⟨0x00D01048, 2, [(8, 0x100)], .none⟩
  | .PTP_UCM => ⟨0x00D01080, 1, [(8, 0x100), (4, 0x20)], .none⟩
  | .PTP_UCM_ADDR => ⟨0x00D01084, 1, [(8, 0x100), (4, 0x20), (4, 4)], .none⟩
  | .TSV_SESSION => ⟨0x00D10000, 1, [(4096, 0x40), (3, 4)], .none⟩
  | .TSV_SESSION_ID => ⟨0x00D1000C, 2, [(4096, 0x40)], .none⟩
  | .TSV_SESSION_PORT => ⟨0x00D10014, 1, [(4096, 0x40)], .none⟩
  | .TSV_SESSION_ADDR => ⟨0x00D10018, 1, [(4096, 0x40), (4, 4)], .none⟩
  | .AUD_CTL => ⟨0x00E00000, 1, [], .none⟩
  | .AUD_DOM => ⟨0x00E00004, 1, [(2, 4)], .none⟩
  | .AUD_ROW => ⟨0x00E0000C, 1, [], .none⟩
  | .AUD_ZC => ⟨0x00E00010, 1, [], .none⟩
  | .AUD_STRIP => ⟨0x00E00014, 1, [], .none⟩
  | .AUD_ASRC => ⟨0x00E00018, 1, [], .none⟩
  | .AUD_RXNM => ⟨0x00E0001C, 1, [], .none⟩
  | .AUD_TRIG_CTL => ⟨0x00E00020, 1, [], .none⟩
  | .AUD_TRIG_AT => ⟨0x00E00028, 2, [], .none⟩
  | .AUD_TRIG_AESO => ⟨0x00E00030, 1, [], .none⟩
  | .AUD_TRIG_TXS => ⟨0x00E00040, 1, [(16, 4)], .none⟩
  | .AUD_IMAP => ⟨0x00E01000, 1, [(1024, 4)], .row⟩
  | .RXS_CFG => ⟨0x00E10000, 1, [(512, 0x40)], .none⟩
  | .RXS_LEG => ⟨0x00E10004, 1, [(512, 0x40), (2, 8)], .none⟩
  | .RXS_LEG_ADDR => ⟨0x00E10008, 1, [(512, 0x40), (2, 8)], .none⟩
  | .RXS_RTP_OFS => ⟨0x00E10014, 1, [(512, 0x40)], .none⟩
  | .RXS_SSRC => ⟨0x00E10018, 1, [(512, 0x40)], .none⟩
  | .RXS_STAT => ⟨0x00E1001C, 1, [(512, 0x40)], .none⟩
  | .RXS_CNT0 => ⟨0x00E10020, 1, [(512, 0x40)], .none⟩
  | .RXS_CNT1 => ⟨0x00E10024, 1, [(512, 0x40)], .none⟩
  | .RXS_CNT2 => ⟨0x00E10028, 1, [(512, 0x40)], .none⟩
  | .RXS_CNT3 => ⟨0x00E1002C, 1, [(512, 0x40)], .none⟩
  | .TXS_CFG => ⟨0x00E20000, 1, [(512, 0x40)], .none⟩
  | .TXS_LEG => ⟨0x00E20004, 1, [(512, 0x40), (2, 8)], .none⟩
  | .TXS_LEG_ADDR => ⟨0x00E20008, 1, [(512, 0x40), (2, 8)], .none⟩
  | .TXS_FIRST => ⟨0x00E20014, 1, [(512, 0x40)], .none⟩
  | .TXS_RTP_OFS => ⟨0x00E20018, 1, [(512, 0x40)], .none⟩
  | .TXS_SSRC => ⟨0x00E2001C, 1, [(512, 0x40)], .none⟩
  | .TXS_LOFS => ⟨0x00E20020, 1, [(512, 0x40)], .row⟩
  | .TXS_NET => ⟨0x00E20024, 1, [(512, 0x40)], .none⟩
  | .TXS_STAT => ⟨0x00E20028, 1, [(512, 0x40)], .none⟩
  | .AESI_CFG => ⟨0x00E30000, 1, [(16, 0x100)], .none⟩
  | .AESI_STAT => ⟨0x00E30004, 1, [(16, 0x100)], .none⟩
  | .AESI_RATE => ⟨0x00E30008, 1, [(16, 0x100)], .none⟩
  | .AESI_CNT => ⟨0x00E3000C, 1, [(16, 0x100)], .none⟩
  | .AESI_CS_A => ⟨0x00E30020, 1, [(16, 0x100), (6, 4)], .none⟩
  | .AESI_CS_B => ⟨0x00E30040, 1, [(16, 0x100), (6, 4)], .none⟩
  | .AESI_UB_A => ⟨0x00E30060, 1, [(16, 0x100), (6, 4)], .none⟩
  | .AESI_UB_B => ⟨0x00E30080, 1, [(16, 0x100), (6, 4)], .none⟩
  | .AESO_CFG => ⟨0x00E40000, 1, [(16, 0x100)], .none⟩
  | .AESO_STAT => ⟨0x00E40004, 1, [(16, 0x100)], .none⟩
  | .AESO_CS_A => ⟨0x00E40020, 1, [(16, 0x100), (6, 4)], .blockOut⟩
  | .AESO_CS_B => ⟨0x00E40040, 1, [(16, 0x100), (6, 4)], .blockOut⟩
  | .AESO_UB_A => ⟨0x00E40060, 1, [(16, 0x100), (6, 4)], .blockOut⟩
  | .AESO_UB_B => ⟨0x00E40080, 1, [(16, 0x100), (6, 4)], .blockOut⟩
  | .MIX_NODE => ⟨0x01000000, 1, [(1024, 0x1000), (1024, 4)], .node⟩
  | .MIX_CTL => ⟨0x01400000, 1, [], .none⟩
  | .MIX_MET => ⟨0x01400004, 1, [], .row⟩
  | .MIX_STAT => ⟨0x01400008, 1, [], .none⟩
  | .MIX_NODES => ⟨0x0140000C, 1, [], .none⟩
  | .MIX_PROBE => ⟨0x01400010, 1, [], .none⟩
  | .MIX_PROBE_VAL => ⟨0x01400014, 1, [], .none⟩
  | .MIX_DLYLATE => ⟨0x01400018, 1, [], .none⟩
  | .MIX_STAT2 => ⟨0x0140001C, 1, [], .none⟩
  | .MIX_ODL_BASE => ⟨0x01400020, 2, [], .none⟩
  | .MIX_ROLE => ⟨0x01400400, 1, [(136, 4)], .none⟩
  | .MIX_ICTL => ⟨0x01410000, 1, [(1024, 0x80)], .row⟩
  | .MIX_IGAIN => ⟨0x01410004, 1, [(1024, 0x80)], .row⟩
  | .MIX_ISTAT => ⟨0x01410008, 1, [(1024, 0x80)], .none⟩
  | .MIX_IMETER => ⟨0x0141000C, 1, [(1024, 0x80)], .none⟩
  | .MIX_IBQ => ⟨0x01410010, 1, [(1024, 0x80), (4, 0x14), (5, 4)], .biquad⟩
  | .MIX_OCTL => ⟨0x01430000, 1, [(1024, 0x100)], .row⟩
  | .MIX_OGAIN => ⟨0x01430004, 1, [(1024, 0x100)], .row⟩
  | .MIX_OSTAT => ⟨0x01430008, 1, [(1024, 0x100)], .none⟩
  | .MIX_OMETER => ⟨0x0143000C, 1, [(1024, 0x100)], .none⟩
  | .MIX_OBQ => ⟨0x01430010, 1, [(1024, 0x100), (8, 0x14), (5, 4)], .biquad⟩
  | .MIX_OMAP => ⟨0x01470000, 1, [(1024, 4)], .none⟩
  | .KEY_CTL => ⟨0x01800000, 1, [], .none⟩
  | .KEY_OP => ⟨0x01800004, 1, [], .none⟩
  | .KEY_OP_ATTR => ⟨0x01800008, 1, [], .none⟩
  | .KEY_CTX => ⟨0x0180000C, 1, [], .none⟩
  | .KEY_DATA => ⟨0x01800010, 1, [(10, 4)], .none⟩
  | .KEY_STAT => ⟨0x01800040, 1, [], .none⟩
  | .KEY_TAMPER => ⟨0x01800044, 1, [], .none⟩
  | .KEY_SLOT_STAT => ⟨0x01801000, 1, [(64, 0x10)], .none⟩
  | .KEY_SLOT_ATTR => ⟨0x01801004, 2, [(64, 0x10)], .none⟩
  | .LOG_STAT => ⟨0x01900000, 1, [], .none⟩
  | .LOG_TAIL => ⟨0x01900004, 1, [], .none⟩
  | .LOG_HEAD => ⟨0x01900008, 1, [], .none⟩
  | .LOG_TAIL2 => ⟨0x0190000C, 1, [], .none⟩
  | .LOG_SEQ => ⟨0x01900010, 2, [], .none⟩
  | .LOG_LINK => ⟨0x01900018, 2, [], .none⟩
  | .LOG_ACK => ⟨0x01900020, 3, [], .none⟩
  | .LOG_WARN => ⟨0x01900030, 1, [], .none⟩
  | .LOG_GAPCNT => ⟨0x01900034, 1, [], .none⟩
  | .LOG_RSV_WIN => ⟨0x0197F800, 1, [(64, 32), (8, 4)], .none⟩
  | .LOG_RING_WIN => ⟨0x01980000, 1, [(16384, 32), (8, 4)], .none⟩
  | .ATT_NONCE => ⟨0x01910000, 1, [(16, 0x200), (8, 4)], .none⟩
  | .ATT_CTL => ⟨0x01910020, 1, [(16, 0x200)], .none⟩
  | .ATT_REPORT => ⟨0x01910100, 1, [(16, 0x200), (64, 4)], .none⟩
  | .ATT_FUSE => ⟨0x01920000, 1, [], .none⟩
  | .ATT_FUSE_ARM => ⟨0x01920004, 1, [], .none⟩
  | .ATT_FUSE_CMD => ⟨0x01920008, 1, [], .none⟩
  | .ATT_FUSE_STAT => ⟨0x0192000C, 1, [], .none⟩
  | .ATT_FUSE_HASH => ⟨0x01920020, 1, [(8, 4)], .none⟩
  | .ATT_OWNER_HASH => ⟨0x01920040, 1, [(8, 4)], .none⟩
  | .ATT_DEVID_PUB => ⟨0x01920080, 1, [(16, 4)], .none⟩
  | .STL_CFG => ⟨0x01A00000, 1, [], .none⟩
  | .STL_HOPS => ⟨0x01A00004, 1, [], .none⟩
  | .STL_TWIN_CFG => ⟨0x01A00010, 1, [], .none⟩
  | .STL_TWIN_TIME => ⟨0x01A00014, 1, [], .none⟩
  | .STL_TWIN_LIM => ⟨0x01A00018, 1, [], .second⟩
  | .STL_TWIN_MIRROR => ⟨0x01A0001C, 1, [], .none⟩
  | .STL_TWIN_CTL => ⟨0x01A00020, 1, [], .none⟩
  | .STL_TWIN_STAT => ⟨0x01A00024, 1, [], .none⟩
  | .STL_TWIN_ROLE_AT => ⟨0x01A00028, 2, [], .none⟩
  | .STL_TWIN_DIG => ⟨0x01A00030, 1, [], .none⟩
  | .STL_LCFG => ⟨0x01A01000, 1, [(4, 0x100)], .none⟩
  | .STL_LSTAT => ⟨0x01A01004, 1, [(4, 0x100)], .none⟩
  | .STL_PEER => ⟨0x01A01008, 1, [(4, 0x100)], .none⟩
  | .STL_ASYM => ⟨0x01A0100C, 1, [(4, 0x100)], .none⟩
  | .STL_GEN => ⟨0x01A01010, 1, [(4, 0x100)], .none⟩
  | .STL_PIN_DLY => ⟨0x01A01014, 1, [(4, 0x100)], .none⟩
  | .STL_CNT => ⟨0x01A01018, 1, [(4, 0x100)], .none⟩
  | .STL_PS => ⟨0x01A0101C, 1, [(4, 0x100)], .none⟩
  | .STL_BANK_HEAD => ⟨0x01A10000, 1, [(4, 0x4000), (4, 0x1000)], .none⟩
  | .STL_BANK_E => ⟨0x01A10004, 1, [(4, 0x4000), (4, 0x1000), (640, 4)], .none⟩
  | .STL_BANK_TAIL => ⟨0x01A10A04, 1, [(4, 0x4000), (4, 0x1000)], .none⟩
  | .FLT_CTL => ⟨0x01B00000, 1, [], .none⟩
  | .FLT_STAT => ⟨0x01B00004, 1, [], .none⟩
  | .FLT_LAST_GNS => ⟨0x01B00008, 2, [], .none⟩
  | .FLT_INJ => ⟨0x01B00010, 1, [], .none⟩
  | .FLT_INJ_STAT => ⟨0x01B00014, 1, [], .none⟩
  | .FLT_SRC_CFG => ⟨0x01B01000, 1, [(64, 0x10)], .none⟩
  | .FLT_SRC_STAT => ⟨0x01B01004, 1, [(64, 0x10)], .none⟩
  | .FLT_SRC_CNT => ⟨0x01B01008, 1, [(64, 0x10)], .none⟩
  | .REC_CTL => ⟨0x01C00000, 1, [], .none⟩
  | .REC_STAT => ⟨0x01C00004, 1, [], .none⟩
  | .REC_SEQ => ⟨0x01C00008, 1, [], .none⟩
  | .REC_UNIT => ⟨0x01C00100, 1, [(12, 0x10)], .none⟩
  | .REC_UNIT_LO => ⟨0x01C00104, 1, [(12, 0x10)], .none⟩
  | .REC_UNIT_CLR => ⟨0x01C00108, 1, [(12, 0x10)], .none⟩
  | .REC_CODE => ⟨0x01C01000, 1, [(256, 0x10)], .none⟩
  | .REC_CODE_COUNT => ⟨0x01C01004, 2, [(256, 0x10)], .none⟩
  | .REC_CODE_SUPP => ⟨0x01C0100C, 1, [(256, 0x10)], .none⟩
  | .REC_LIVE => ⟨0x01C04000, 1, [(12, 0x100), (64, 4)], .none⟩
  | .REC_WIN => ⟨0x01C80000, 1, [(256, 0x800), (512, 4)], .none⟩
  | .PMC_SWEEP => ⟨0x01D00000, 1, [], .none⟩
  | .PMC_SWEEP_PER => ⟨0x01D00004, 1, [], .none⟩
  | .PMC_SWEEP_STAT => ⟨0x01D00008, 1, [], .none⟩
  | .PMC_SAMP_RING => ⟨0x01D00010, 2, [], .none⟩
  | .PMC_SAMP_LEN => ⟨0x01D00018, 1, [], .none⟩
  | .PMC_SAMP_PROD => ⟨0x01D0001C, 1, [], .none⟩
  | .PMC_SAMP_CONS => ⟨0x01D00020, 1, [], .none⟩
  | .PMC_SAMP_LOST => ⟨0x01D00024, 1, [], .none⟩
  | .PMC_SAMP => ⟨0x01D00100, 1, [(10, 0x10)], .none⟩
  | .PMC_SAMP_PERIOD => ⟨0x01D00104, 1, [(10, 0x10)], .none⟩
  | .PMC_CNT => ⟨0x01D01000, 1, [(1024, 4)], .none⟩
  | .PMC_BANK_HEAD => ⟨0x01D10000, 1, [(2, 0x4000), (2, 4)], .none⟩
  | .PMC_BANK_GNS => ⟨0x01D10008, 2, [(2, 0x4000)], .none⟩
  | .PMC_BANK_ENTRY => ⟨0x01D10010, 2, [(2, 0x4000), (1024, 8)], .none⟩
  | .PMC_BANK_TAIL => ⟨0x01D12010, 1, [(2, 0x4000)], .none⟩
  | .HST_STAT => ⟨0x01E00000, 1, [], .none⟩
  | .HST_WERR => ⟨0x01E00010, 1, [], .none⟩
  | .HST_WERR_ADDR => ⟨0x01E00014, 1, [], .none⟩
  | .HST_IRQ_STAT => ⟨0x01E00020, 1, [], .none⟩
  | .HST_IRQ_MASK => ⟨0x01E00024, 1, [], .none⟩
  | .HST_MBX_CTL => ⟨0x01E00030, 1, [], .none⟩
  | .HST_MBX_STAT => ⟨0x01E00034, 1, [], .none⟩
  | .HST_MBX_REQ => ⟨0x01E01000, 1, [(257, 4)], .none⟩
  | .HST_MBX_RSP => ⟨0x01E02000, 1, [(257, 4)], .none⟩
  | .HST_MSIX => ⟨0x01E08000, 1, [(21, 16), (4, 4)], .none⟩
  | .HST_MSIX_PBA => ⟨0x01E09000, 2, [], .none⟩
  | .DMA_CFG => ⟨0x01E04000, 1, [(16, 0x40)], .none⟩
  | .DMA_RING_BASE => ⟨0x01E04008, 2, [(16, 0x40)], .none⟩
  | .DMA_RING_LEN => ⟨0x01E04010, 1, [(16, 0x40)], .none⟩
  | .DMA_PROD => ⟨0x01E04014, 1, [(16, 0x40)], .none⟩
  | .DMA_CONS => ⟨0x01E04018, 1, [(16, 0x40)], .none⟩
  | .DMA_STAT => ⟨0x01E0401C, 1, [(16, 0x40)], .none⟩
  | .MEM_CFG => ⟨0x01F00000, 1, [], .none⟩
  | .MEM_STAT => ⟨0x01F00004, 1, [], .none⟩
  | .MEM_SCRUB => ⟨0x01F00008, 1, [], .none⟩
  | .MEM_UE_ADDR => ⟨0x01F00010, 2, [], .none⟩
  | .MEM_UE_INFO => ⟨0x01F00018, 1, [], .none⟩
  | .MEM_PROT => ⟨0x01F0001C, 1, [], .none⟩
  | .MEM_SPARE => ⟨0x01F00040, 1, [(2, 4)], .none⟩
  | .MEM_CORR => ⟨0x01F00080, 1, [(2, 0x40), (10, 4)], .none⟩
  | .MEM_REQ => ⟨0x01F00100, 1, [(16, 0x10)], .none⟩
  | .MEM_STARVE => ⟨0x01F00104, 1, [(16, 0x10)], .none⟩
  | .MEM_REQ_STAT => ⟨0x01F00108, 1, [(16, 0x10)], .none⟩
  | .SBD_CFG => ⟨0x01F80000, 1, [], .sideband⟩
  | .SBD_STAT => ⟨0x01F80004, 1, [], .none⟩
  | .SBD_WERR => ⟨0x01F80010, 1, [], .none⟩
  | .SBD_WERR_ADDR => ⟨0x01F80014, 1, [], .none⟩
  | .SBD_IBI_MASK => ⟨0x01F80018, 1, [], .none⟩

/-- The fields of each register; `i`, `j` and `l` are its indices. -/
def RegName.fields (r : RegName) (i j l : Nat) : List Field :=
  match r with
  | .TOP_ID => [ro 31 16, ro 15 8, ro 7 0]
  | .TOP_OWNER => [fd 21 0 .rw .d 0x100000] -- GRP
  | .TOP_SEQ_WPERM => [
      fd 19 19 .rw .s 0, -- GRP19
      fd 17 14 .rw .s (if i = 0 then 1 else 0), -- GRP14
      fd 11 8 .rw .s (if i = 0 then 2 else 0xC), -- GRP8
      fd 6 1 .rw .s (if i = 0 then 0x3F else 0)] -- GRP1
  | .TOP_CAST => [
      fd 31 31 .wo .d 0, -- GO
      ro 30 28,
      ro 27 27,
      ro 26 26,
      ro 25 24,
      ro 7 0]
  | .TOP_CONFIG => [
      fd 31 31 .wo .d 0, -- SAVE
      fd 30 30 .wo .d 0, -- SELECT
      fd 29 29 .wo .d 0, -- NONE
      fd 25 24 .rw .d 0, -- IMG
      ro 23 22,
      ro 21 21,
      ro 20 19,
      ro 9 9,
      ro 7 0]
  | .TOP_BINDOFF => [
      fd 31 31 .wo .d 0, -- GO
      fd 30 30 .wo .d 0, -- ZEROIZE
      ro 29 28]
  | .TOP_TEMP => [ro 15 0]
  | .TOP_CFGIMG => [ro 31 31, ro 22 16, ro 15 0]
  | .TOP_GPIO_OUT => [
      fd 31 16 .rw .d 0, -- OE
      fd 15 0 .rw .d 0] -- OUT
  | .TOP_GPIO_IN => [ro 15 0]
  | .GAU_CTL => [
      fd 8 8 .rw .s 1, -- GUARD_EN
      fd 4 4 .rw .d 1, -- SLEW_EN
      fd 0 0 .rw .s 1] -- HB_EN
  | .GAU_STATE => [
      rc 31 16, -- LOCK_REF
      ro 10 8,
      ro 4 4,
      ro 3 3,
      ro 2 2,
      ro 1 0]
  | .GAU_SNAP => [ro 129 128, ro 127 96, ro 95 32, ro 31 0]
  | .GAU_INC => [fd 47 0 .rw .d 0x010000000000] -- INC
  | .GAU_FADJ => [ro 31 0]
  | .GAU_SLEW_MAX => [fd 27 0 .rw .d 0x0010C6F8] -- RATE
  | .GAU_SLEW_AMT => [fd 63 0 .wo .d 0] -- AMT
  | .GAU_SLEW_REM => [ro 63 0]
  | .GAU_STEP_AMT => [fd 95 0 .rw .d 0] -- AMT
  | .GAU_STEP_AT => [fd 63 0 .rw .d 0] -- AT
  | .GAU_STEP_CTL => [
      fd 8 8 .wo .d 0, -- CANCEL
      fd 0 0 .rw .d 0] -- CLR_SLEW
  | .GAU_STEP_STAT => [ro 31 16, ro 7 0]
  | .GAU_STEP_ACK => [fd 15 0 .wo .d 0] -- SEQ
  | .GAU_STEP_MIN => [fd 15 0 .rw .s 2]
  | .GAU_STEP_CONFIRM => [fd 31 0 .rw .s 1000]
  | .GAU_STEP_AGREE => [fd 31 0 .rw .s 200]
  | .GAU_GUARD => [
      fd 27 16 .rw .s 60 (.range 1 3600), -- HOLD_MAX
      fd 15 0 .rw .s 1024 (.range 16 65535)] -- WIN
  | .GAU_GUARD_DEV => [ro 63 0]
  | .GAU_HB_MAX => [fd 13 0 .rw .s 1000 (.range 1 16000)] -- MS
  | .GAU_BND_FLOOR => [fd 31 0 .rw .d 0]
  | .GAU_HO_N => [ro 31 0]
  | .GAU_HO_BH => [ro 31 0]
  | .GAU_CLASS_TH => [fd 31 0 .rw .e (classTh i)]
  | .GAU_CLASS_VAL => [
      fd 10 8 .rw .e (classMask i), -- MASK
      fd 7 0 .rw .e (classVal i)] -- CLASS
  | .GAU_CLASS_CFG => [
      fd 15 8 .rw .e 0x17, -- ACC_FLOOR
      fd 7 0 .rw .e 248] -- DEF_CLASS
  | .GAU_UTC => [
      fd 18 18 .rw .e 0, -- LEAP59
      fd 17 17 .rw .e 0, -- LEAP61
      fd 16 16 .rw .e 0, -- VALID
      fd 15 0 .rw .e 0] -- OFFSET
  | .GAU_LEAP_AT => [fd 63 0 .rw .d 0]
  | .SEL_CTL => [
      fd 27 24 .rw .d 0, -- SERVO_TS
      fd 21 16 .rw .e 4 (.range 1 60), -- ALIGN
      fd 1 1 .rw .d 0, -- POL
      fd 0 0 .rw .d 0] -- EN
  | .SEL_FORCE => [
      fd 31 31 .rw .d 0, -- EN
      fd 4 0 .rw .d 0] -- SLOT
  | .SEL_REVERT => [
      fd 16 16 .rw .d 1, -- EN
      fd 15 0 .rw .d 0] -- HOLD
  | .SEL_AGREE => [fd 23 0 .rw .e 5498] -- FREQ
  | .SEL_SPAN => [
      fd 31 16 .rw .e 2000 (.range 100 60000), -- OFS_TTL
      fd 9 0 .rw .e 100 (.range 10 1000)] -- FSPAN
  | .SEL_STATUS => [ro 21 21, ro 20 16, ro 13 13, ro 12 8, ro 5 5, ro 4 0]
  | .SEL_SW_STAT => [ro 31 16, ro 15 15, ro 14 10, ro 9 5, ro 3 0]
  | .SEL_SW_DELTA => [ro 95 0]
  | .SEL_SW_UNC => [ro 31 0]
  | .SEL_SW_BND => [ro 31 0]
  | .SEL_HOSTSET => [fd 63 0 .rw .d 0] -- TIME
  | .SEL_HOSTSET_UNC => [fd 31 0 .rw .d 16000000]
  | .SEL_CFG => [
      fd 31 31 .rw .d 0, -- EN
      fd 30 30 .rw .d 0, -- LOCKOUT
      fd 29 29 (if i < 8 then .rw else .ro) .s (candType i), -- TYPE
      fd 27 24 .rw .e (candIgrp i), -- IGRP
      fd 23 20 .rw .d 15, -- RANK
      fd 19 10 .rw .e 30] -- WTR
  | .SEL_PER => [fd 31 0 (if i < 30 then .rw else .ro) .s (candPer i) (.range 125000 1000000000)]
  | .SEL_DIV => [fd 31 0 (if i < 9 then .rw else .ro) .s (candDiv i) (.range 1 4294967295)]
  | .SEL_FWIN => [fd 31 0 .rw .e 5057753]
  | .SEL_PJ => [fd 31 0 .rw .e 50 (.range 2 4294967295)]
  | .SEL_STATE => [ro 31 20, ro 19 16, ro 14 8, ro 1 0]
  | .SEL_FREQ => [ro 31 0]
  | .SEL_TDEV => [ro 31 0]
  | .SEL_CNT => [
      rc 31 16, -- MISS
      rc 15 0] -- DISQ
  | .SEL_OFS => [ro 95 0]
  | .SEL_OFSU => [ro 31 0]
  | .SEL_OFSB => [ro 31 0]
  | .SEL_OFS_AGE => [ro 15 0]
  | .HLD_CTL => [
      fd 8 8 .rw .d 0, -- AGE_FSEL
      fd 0 0 .rw .d 1] -- FRZ_SRC
  | .HLD_AVG => [
      fd 25 16 .rw .d 100 (.range 1 1023), -- LEN
      fd 9 0 .rw .d 10] -- LAG
  | .HLD_AGE => [fd 31 0 .rw .d 0] -- RATE
  | .HLD_MODEL_FU => [fd 31 0 .rw .e 1407374884]
  | .HLD_MODEL_AU => [fd 31 0 .rw .e 0]
  | .HLD_FRZ => [ro 31 0]
  | .HLD_FAVG => [ro 31 0]
  | .HLD_AGE_NOW => [ro 31 0]
  | .HLD_STAT => [
      ro 31 16,
      ro 4 4,
      ro 3 3,
      ro 2 2,
      ro 1 1,
      w1c 0 0] -- FOLD_SAT
  | .HLD_ATOM_PH => [ro 31 0]
  | .HLD_ATOM_REF => [ro 31 0]
  | .HLD_ATOM_DEV => [ro 31 0]
  | .OUT_GRPB => [
      fd 31 31 .rw .d 0, -- POL
      fd 15 0 .rw .d 10] -- SLOPE
  | .OUT_GRPB_MAXPULL => [fd 31 0 .rw .d 1000000]
  | .OUT_GRPC => [
      fd 31 31 .wo .d 0, -- SNAP
      fd 16 0 .rw .d 1000] -- SLOPE
  | .OUT_GRPB_OFS => [ro 63 0]
  | .OUT_GRPC_OFS => [ro 63 0]
  | .OUT_APLL => [fd 23 0 .rw .s 10000000 (.range 10000000 12500000)] -- FVCO
  | .OUT_SQ_STAT => [ro 19 0]
  | .OUT_CFG => outCfgFields i
  | .OUT_P1 => outP1Fields i
  | .OUT_P2 => outP2Fields i
  | .OUT_OFFSET => outOffsetFields i
  | .OUT_OFFSET_FR => outOffsetFrFields i
  | .OUT_COMP => outCompFields i
  | .OUT_SQ_BND => outSqBndFields i
  | .OUT_SKIP => outSkipFields i
  | .TDC_CTL => [
      fd 3 3 .rw .d 1, -- TEN_STL
      fd 2 2 .rw .d 1, -- TEN_ETH
      fd 1 1 .rw .d 1] -- TEN_LBK
  | .TDC_CAL => [
      fd 31 16 .rw .e 1000 (.range 100 60000), -- MIN_INT
      fd 15 0 .rw .d 60 (.range 1 3600)] -- PASS_MAX
  | .TDC_TEN => [
      fd 28 24 .rw .s 23 (.range 0 23), -- LBK_CH
      fd 23 16 .rw .d 16 (.range 1 255), -- EDGES
      fd 15 0 .rw .d 2000 (.range 1 65535)] -- DWELL
  | .TDC_TEN_OUT => [fd 17 0 .rw .d 0x3FFFF] -- MASK
  | .TDC_CAL_STAT => [
      rc 31 16, -- FAIL
      rc 15 0] -- EXPIRED
  | .TDC_CAL_CANCEL => [rc 31 0]
  | .TDC_SRC_DLY => [ro 15 0]
  | .TDC_CFG => [
      fd 31 31 .rw .d 0, -- EN
      fd 30 30 .rw .s 0, -- MODE
      fd 29 29 .rw .s 0, -- START_FALL
      fd 28 28 .rw .s 0, -- STOP_FALL
      fd 27 26 .rw .s 0 (.range 0 2), -- DEST
      fd 21 16 .rw .s 63, -- START_SRC
      fd 13 8 .rw .s 63] -- STOP_SRC
  | .TDC_DIV => [fd 23 0 .rw .s 1 (.range 1 16777215)]
  | .TDC_TIMEOUT => [fd 31 0 .rw .d 1000000000 (.range 1000 2000000000)]
  | .TDC_RING_BASE => [fd 63 0 .rw .s 0 (.align 32)]
  | .TDC_RING_LEN => [fd 20 0 .rw .s 4096 (.pow2 256 1048576)]
  | .TDC_RING_PROD => [ro 19 0]
  | .TDC_RING_CONS => [fd 19 0 .rw .d 0]
  | .TDC_GEN => [ro 31 16, ro 15 0]
  | .TDC_STAT => [
      rc 31 16, -- LOST
      rc 15 0] -- DEAD
  | .TDC_BANK_HEAD => [ro 16 16, ro 15 0]
  | .TDC_BANK_E => [ro 20 0]
  | .TDC_BANK_TAIL => [ro 16 16, ro 15 0]
  | .GNS_CTL => [
      fd 31 31 .rw .d 0, -- EN
      fd 17 16 .rw .s 0 (.range 0 2), -- MODE
      fd 11 8 .rw .s 0] -- LATCH_TS
  | .GNS_LATCH => [fd 9 0 .rw .s 1000 (.divides 1000)] -- PER
  | .GNS_LATCH_N => [ro 31 0]
  | .GNS_PAIR => [fd 31 0 .rw .s 0]
  | .GNS_SPI_CTL => [
      ro 31 31,
      w1c 30 30, -- DONE
      fd 25 24 .rw .d 0, -- CS
      fd 19 16 .rw .d 1 (.range 1 8), -- LEN
      fd 7 0 .rw .d 19] -- DIV
  | .GNS_SPI_TX => [fd 63 0 .rw .d 0]
  | .GNS_SPI_RX => [ro 63 0]
  | .GNS_IND_CTL => [
      fd 31 24 .rw .e 3 (.range 1 192), -- CC_N
      fd 23 16 .rw .e 8, -- PEAK_TH
      fd 15 0 .rw .e 60] -- HOLD
  | .GNS_IND_TH => [
      fd 31 16 .rw .e 10, -- CC_TH
      fd 15 0 .rw .e 24] -- POW_TH
  | .GNS_IND_DRIFT => [fd 23 0 .rw .e 1100] -- TH
  | .GNS_IND_EN => [fd 15 0 .rw .e 0xFF0F] -- MASK
  | .GNS_IND_STAT => [
      w1c 15 8, -- PROG
      ro 3 0]
  | .GNS_BIAS => [fd 31 0 .rw .e 0]
  | .GNS_BIAS_SEQ => [ro 15 0]
  | .GNS_SYS => [fd 3 0 .rw .e 0] -- BCAST
  | .FE_CFG => [
      fd 31 31 .rw .d 0, -- EN
      fd 30 30 .rw .s 0, -- BAND
      fd 29 28 .rw .s 0 (.range 0 2), -- FMT
      fd 27 27 .rw .s 0] -- SWAP
  | .FE_FS => [fd 26 0 .rw .s 81840000 (.range 2046000 81840000)]
  | .FE_IF => [fd 31 0 .rw .s 0]
  | .FE_STAT => [
      ro 31 30,
      rc 15 0] -- LOSS
  | .FE_POW => [ro 15 0]
  | .FE_BASE => [fd 15 0 .rw .d 0xFFFF]
  | .FE_DESKEW => [fd 19 0 .rw .s 0]
  | .FE_SCNT => [ro 63 0]
  | .ACQ_STAGE => [fd 63 0 .rw .s 0 (.align 4096)]
  | .ACQ_STAGE_LEN => [fd 23 0 .rw .s 0]
  | .ACQ_CFG => [
      fd 31 31 .wo .d 0, -- GO
      fd 30 30 .wo .d 0, -- CANCEL
      fd 29 29 .rw .d 0, -- MON
      fd 28 28 .rw .d 0, -- SRC
      fd 27 26 .rw .d 0, -- FE
      fd 23 20 .rw .d 0 (.range 0 12), -- SIG
      fd 15 8 .rw .d 1, -- PRN
      fd 7 0 .rw .d 0] -- MONCH
  | .ACQ_DOP => [
      fd 31 16 .rw .d 0, -- CENTRE
      fd 15 8 .rw .d 41 (.range 1 255), -- BINS
      fd 7 0 .rw .d 20 (.range 1 255)] -- BINW
  | .ACQ_INT => [
      fd 15 8 .rw .d 8 (.range 1 64), -- NCOH
      fd 7 0 .rw .d 1 (.range 1 10)] -- COH
  | .ACQ_TS => [fd 3 0 .rw .d 0]
  | .ACQ_SWADDR => [fd 63 0 .rw .d 0]
  | .ACQ_RES_SCNT => [ro 63 0]
  | .ACQ_RES_CODE => [ro 31 0]
  | .ACQ_RES_DOP => [ro 31 0]
  | .ACQ_RES_PEAK => [ro 31 0]
  | .ACQ_RES_SECOND => [ro 31 0]
  | .ACQ_RES_NOISE => [ro 31 0]
  | .ACQ_STAT => [ro 2 0]
  | .SW_CTL => [
      fd 31 31 .wo .d 0, -- GO
      fd 30 30 .wo .d 0, -- ABORT
      fd 3 0 .rw .d 0] -- FEMASK
  | .SW_AT => [fd 63 0 .rw .d 0]
  | .SW_BASE => [fd 63 0 .rw .d 0 (.align 4096)]
  | .SW_LEN => [fd 23 0 .rw .d 0]
  | .SW_STAT => [ro 31 29, ro 23 0]
  | .CH_CFG => [
      fd 31 31 .rw .d 0, -- EN
      fd 29 28 .rw .s 0, -- FE
      fd 27 24 .rw .s 0 (.range 0 12), -- SIG
      fd 23 16 .rw .s 1, -- PRN
      fd 12 8 .rw .s 1, -- DUMP
      fd 3 0 .rw .s 0] -- TS
  | .CH_SP => [
      fd 31 24 .rw .e 32 (.range 1 128), -- VEL
      fd 6 0 .rw .e 8 (.range 1 64)] -- EL
  | .CH_MOFS => [fd 31 0 .rw .e 0x180CF4E8]
  | .CH_CODE_NCO => [fd 31 0 .rw .s 0]
  | .CH_CARR_NCO => [fd 31 0 .rw .s 0]
  | .CH_START_PH => [fd 47 0 .rw .s 0]
  | .CH_START_SCNT => [fd 63 0 .rw .s 0]
  | .CH_STAT => [
      ro 31 29,
      ro 28 28,
      rc 23 16, -- DROP
      rc 15 8, -- FOREIGN
      rc 7 0] -- SAT
  | .CH_CODE_NOW => [ro 31 0]
  | .CH_CARR_NOW => [ro 31 0]
  | .GNS_LATCH_BANK => [ro 31 0]
  | .SEQ_CTL => [
      fd 31 31 .rw .d 0, -- RUN
      fd 30 30 .rw .d 0, -- AT_ROW
      fd 29 29 .wo .d 0, -- UNFENCE
      fd 15 0 .rw .s 0] -- ENTRY
  | .SEQ_STAT => [ro 31 29, ro 23 20, ro 15 0]
  | .SEQ_WD => [
      fd 31 30 .rw .s 0 (.range 0 2), -- MODE
      fd 15 0 .rw .s 1000] -- LIM
  | .SEQ_ROLE => [fd 7 0 (if i < 16 then .ro else .rw) .s (seqRole i)]
  | .SEQ_ERR => [
      rc 31 16, -- CORR
      rc 15 0] -- DROP
  | .SEQ_IMG => [ro 31 0]
  | .CLU_LOAD_ADDR => [fd 63 0 .rw .d 0 (.align 64)]
  | .CLU_LOAD_CTL => [
      fd 31 31 .wo .d 0, -- GO
      fd 15 0 .rw .d 0] -- MASK
  | .CLU_LOAD_STAT => [ro 31 30, ro 7 0]
  | .CLU_SPARE => [fd 15 0 (if i = 0 then .ro else .rw) .d (if i = 9 then 0xFF00 else 0)]
  | .CLU_SCHED => [
      rc 31 16, -- FULL
      ro 6 0]
  | .CLU_TDC_MAP => [fd 31 0 .rw .d 0]
  | .ETH_CFG => [
      fd 31 31 .rw .d 0, -- EN
      fd 30 28 .rw .s 0 (.range 0 6), -- MODE
      fd 27 26 .rw .s 2 (.range 0 2), -- FEC
      fd 25 25 .rw .s 0, -- AN
      fd 13 0 .rw .s 1522 (.range 64 9216)] -- MAXLEN
  | .ETH_STAT => [
      ro 31 31,
      ro 30 30,
      ro 29 29,
      ro 28 28,
      rc 15 0] -- DOWN
  | .ETH_PAUSE => [
      fd 31 31 .rw .d 1, -- RX_EN
      fd 30 29 .rw .d 0 (.range 0 2), -- TX_MODE
      fd 23 16 .rw .d 0, -- PFC_EN
      fd 15 0 .rw .d 0xFFFF] -- QUANTA
  | .ETH_HIWM => [fd 13 0 .rw .d 7680]
  | .ETH_LOWM => [fd 13 0 .rw .d 6144]
  | .ETH_PAUSE_STAT => [
      ro 31 24,
      ro 23 23,
      rc 15 0] -- RXCNT
  | .ETH_PREEMPT => [
      fd 31 31 .rw .d 0, -- EN
      fd 30 30 .rw .d 0, -- VERIFY_DIS
      fd 29 28 .rw .d 0, -- ADDFRAG
      fd 23 16 .rw .d 0xFF, -- EXPRESS
      fd 7 0 .rw .d 10 (.range 1 128)] -- VERIFY_TIME
  | .ETH_PREEMPT_STAT => [
      ro 31 29,
      rc 15 0] -- FRAG
  | .ETH_TX_COMP => [fd 31 0 .rw .d 0]
  | .ETH_TEN => [fd 31 16 .rw .d 100 (.range 1 60000)] -- MARK_INT
  | .ETH_GEN => [ro 31 16, ro 15 0]
  | .ETH_PIN_DLY => [ro 31 16, ro 15 0]
  | .ETH_ROW_CTL => [
      fd 31 31 .rw .d 0, -- EN
      fd 30 30 .rw .s 0, -- TSCALE
      fd 29 29 .rw .d 0, -- SWAP
      fd 28 28 .rw .d 0] -- LIVEW
  | .ETH_ROW_STAT => [
      ro 31 31,
      ro 30 28,
      ro 23 16,
      rc 15 0] -- OVERRUN
  | .ETH_ROW_LAND => [ro 63 0]
  | .ETH_TXTS => [ro 255 0]
  | .ETH_TXTS_STAT => [
      rc 31 16, -- OVF
      ro 10 0]
  | .ETH_DROP => [
      rc 31 16, -- FCS
      rc 15 0] -- LEN
  | .ETH_RXDEF => [fd 4 0 .rw .e 0] -- QUEUE
  | .ETH_DROP2 => [
      rc 31 16, -- TX
      rc 15 8, -- ONESTEP
      rc 7 0] -- CTL
  | .ETH_LOOP => [ro 255 0]
  | .ETH_FLT_CTL => [
      fd 31 31 .rw .e 0, -- EN
      fd 30 26 .rw .e 0, -- MATCH
      fd 4 0 .rw .e 0] -- QUEUE
  | .ETH_FLT_KEY => [
      fd 31 16 .rw .e 0, -- ETYPE
      fd 15 13 .rw .e 0, -- PCP
      fd 11 0 .rw .e 0] -- VID
  | .ETH_FLT_UDP => [fd 15 0 .rw .e 0] -- DPORT
  | .ETH_RXQ_CFG => [
      fd 31 30 .rw .e (if j = 0 then 1 else 0), -- DEST
      fd 29 27 .rw .e 0, -- PRI
      fd 26 26 .rw .s 0, -- SPILL
      fd 19 16 .rw .e 0, -- IDX
      fd 13 0 .rw .d 8192] -- MAX
  | .ETH_RXQ_OCC => [ro 13 0]
  | .ETH_RXQ_DROP => [rc 31 16]
  | .ETH_RXQ_SPILL_BASE => [fd 63 0 .rw .s 0 (.align 4096)]
  | .ETH_RXQ_SPILL_LEN => [fd 23 0 .rw .s 0]
  | .ROWT_CYCLE => [fd 29 0 .rw .d 125000]
  | .ROWT_BASE => [fd 29 0 .rw .d 0]
  | .ROWT_NSLOT => [fd 8 0 .rw .d 1]
  | .ROWT_OFS => [fd 29 0 .rw .d 0]
  | .ROWT_GATE => [
      fd 8 8 .rw .d 0, -- HOLD
      fd 7 0 .rw .d (if j = 0 then 0xFF else 0)] -- GATE
  | .ETH_BANK_HEAD => [ro 16 16, ro 15 0]
  | .ETH_BANK_E => [ro 20 0]
  | .ETH_BANK_TAIL => [ro 16 16, ro 15 0]
  | .ROWA_CYCLE => [ro 29 0]
  | .ROWA_BASE => [ro 29 0]
  | .ROWA_NSLOT => [ro 8 0]
  | .ROWA_OFS => [fd 29 0 .rw .d 0]
  | .ROWA_GATE => [
      fd 8 8 .rw .d 0, -- HOLD
      fd 7 0 .rw .d (if j = 0 then 0xFF else 0)] -- GATE
  | .TSV_CTL => [
      fd 31 31 .rw .d 0, -- EN
      fd 30 30 .rw .d 0, -- STBY_NTP
      fd 27 24 .rw .d 0, -- MSG_TS
      fd 22 20 .rw .d 7, -- EVT_TC
      fd 18 16 .rw .d 6, -- GEN_TC
      fd 14 12 .rw .d 5, -- NTP_TC
      fd 7 0 .rw .d 0x3F] -- NTS_LANES
  | .TSV_CLOCKID => [fd 63 0 .rw .s 0]
  | .TSV_DS => [
      fd 31 24 .rw .e 128, -- PRIO1
      fd 23 16 .rw .e 128, -- PRIO2
      fd 15 8 .rw .e 0xA0] -- TSRC
  | .TSV_QUAL => [fd 15 0 .rw .e 0xFFFF] -- OSLV
  | .TSV_TRACE => [fd 31 0 .rw .d 16000]
  | .TSV_MSG_STAT => [rc 15 0] -- DROP
  | .TSV_CMAP_TH => [fd 31 0 .rw .e 0]
  | .TSV_CMAP_VAL => [
      fd 10 8 .rw .e 0, -- MASK
      fd 7 0 .rw .e 0] -- CLASS
  | .TSV_CMAP_CFG => [fd 7 0 .rw .e 248] -- DEF_CLASS
  | .TSV_UC_DUR => [fd 15 0 .rw .d 300 (.range 10 65535)] -- MAX
  | .TSV_UC_MINLOG => [
      fd 23 16 .rw .d 0xFD, -- ANN
      fd 15 8 .rw .d 0xF9 (.srange (-7) 4), -- SYNC
      fd 7 0 .rw .d 0xF9 (.srange (-7) 4)] -- DRESP
  | .TSV_UC_STAT => [
      rc 31 16, -- DENIED
      ro 12 0]
  | .TSV_SA_CFG => [
      fd 31 31 .rw .d 0, -- EN
      fd 30 28 .rw .s 0 (.range 0 4), -- ALG
      fd 23 16 .rw .s 0, -- SPP
      fd 5 0 .rw .s 0] -- SLOT
  | .TSV_SA_KEYID => [fd 31 0 .rw .s 0]
  | .TSV_SA_STAT => [
      rc 31 16, -- FAIL
      rc 15 0] -- KEYERR
  | .TSV_NTP_CTL => [
      fd 31 31 .rw .d 0, -- EN
      fd 30 30 .rw .d 0, -- NTS_EN
      fd 29 29 .rw .d 1, -- PLAIN
      fd 3 0 .rw .d 8 (.range 1 8)] -- MAXCK
  | .TSV_NTP_STRAT => [fd 31 0 .rw .d 160000]
  | .TSV_NTP_REFID => [fd 31 0 .rw .d 0x474E5353]
  | .TSV_NTP_PREC => [fd 7 0 .rw .d 0xE3]
  | .TSV_NTP_RESP => [rc 31 0]
  | .TSV_NTP_NAK => [rc 31 0]
  | .TSV_NTP_DISC => [rc 31 0]
  | .TSV_BEXT => [fd 23 0 .rw .d 0] -- ORGID
  | .TSV_BEXT_NTP => [fd 15 0 .rw .d 0xF0B1] -- TYPE
  | .TSV_NTS_KEY => [
      fd 31 31 .wo .d 0, -- RETIRE
      ro 15 15,
      ro 13 8,
      ro 7 7,
      ro 5 0]
  | .TSV_NTS_NEXT => [fd 5 0 .rw .d 0] -- SLOT
  | .TSV_NTS_ROT_AT => [fd 63 0 .rw .d 0]
  | .TSV_MINT_REQ_BASE => [fd 63 0 .rw .s 0 (.align 4096)]
  | .TSV_MINT_RES_BASE => [fd 63 0 .rw .s 0 (.align 4096)]
  | .TSV_MINT_LEN => [fd 16 0 .rw .s 256 (.pow2 16 65536)]
  | .TSV_MINT_REQ_PROD => [fd 15 0 .rw .d 0]
  | .TSV_MINT_REQ_CONS => [ro 15 0]
  | .TSV_MINT_RES_PROD => [ro 15 0]
  | .TSV_MINT_RES_CONS => [fd 15 0 .rw .d 0]
  | .PTP_CFG => [
      fd 31 31 .rw .d 0, -- EN
      fd 30 28 .rw .s 0, -- PROFILE
      fd 27 26 .rw .s 0 (.range 0 2), -- ROLE
      fd 25 25 .rw .s 0, -- TWO_STEP
      fd 24 24 .rw .d 0, -- MC_EN
      fd 23 23 .rw .d 0, -- UC_EN
      fd 22 22 .rw .d 0, -- ASCAP
      fd 21 20 .rw .e 0, -- CMAP
      fd 19 19 .rw .d 0, -- BEXT_ANN
      fd 18 18 .rw .d 0, -- BEXT_SYNC
      fd 17 17 .rw .d 0, -- BEXT_DRESP
      fd 15 8 .rw .s 0, -- DOMAIN
      fd 7 0 .rw .e 128] -- LOCALPRIO
  | .PTP_RATE => [
      fd 31 24 .rw .e 0, -- LOG_SYNC
      fd 23 16 .rw .e 1, -- LOG_ANN
      fd 15 8 .rw .e 0, -- LOG_DREQ
      fd 7 0 .rw .e 0] -- LOG_PDELAY
  | .PTP_NET => [
      fd 31 30 .rw .s 0 (.range 0 2), -- TRANSPORT
      fd 29 29 .rw .s 0, -- L2DST
      fd 28 28 .rw .s 0, -- TAGGED
      fd 27 25 .rw .s 0, -- PCP
      fd 23 12 .rw .s 0] -- VID
  | .PTP_AUTH => [
      fd 31 31 .rw .d 0, -- EN
      fd 27 24 .rw .d 0, -- TX_SA
      fd 15 0 .rw .d 0] -- RX_SAMASK
  | .PTP_MAC => [fd 47 0 .rw .s 0]
  | .PTP_IPV4 => [fd 31 0 .rw .s 0]
  | .PTP_IPV6 => [fd 31 0 .rw .s 0]
  | .PTP_SYNC_OFS => [fd 29 0 .rw .e 0]
  | .PTP_RXCOMP => [fd 31 0 .rw .d 0]
  | .PTP_STAT => [
      ro 31 29,
      rc 15 0] -- AUTHFAIL
  | .PTP_DISC => [
      rc 31 16, -- DOMAIN
      rc 15 0] -- NOGRANT
  | .PTP_PARENT => [ro 63 0]
  | .PTP_GM => [ro 63 0]
  | .PTP_UCM => [
      fd 31 31 .rw .d 0, -- EN
      fd 30 30 .rw .s 0] -- V6
  | .PTP_UCM_ADDR => [fd 31 0 .rw .s 0]
  | .TSV_SESSION => [ro 31 0]
  | .TSV_SESSION_ID => [ro 63 0]
  | .TSV_SESSION_PORT => [ro 15 0]
  | .TSV_SESSION_ADDR => [ro 31 0]
  | .AUD_CTL => [
      fd 31 31 .rw .d 0, -- EN
      fd 18 16 .rw .s 2 (.oneOf [2, 4]), -- MIXRATE
      fd 6 0 .rw .d 20 (.range 1 100)] -- ZC_TIMEOUT
  | .AUD_DOM => [fd 2 0 .rw .s 2 (.range 0 6)] -- RATE
  | .AUD_ROW => [ro 31 0]
  | .AUD_ZC => [rc 31 16] -- TIMEOUT
  | .AUD_STRIP => [
      rc 31 16, -- MISS
      rc 15 0] -- STALE
  | .AUD_ASRC => [ro 6 0]
  | .AUD_RXNM => [rc 31 0]
  | .AUD_TRIG_CTL => [
      fd 31 31 .rw .d 0, -- ZC
      ro 1 0]
  | .AUD_TRIG_AT => [fd 63 0 .rw .d 0]
  | .AUD_TRIG_AESO => [fd 15 0 .rw .d 0]
  | .AUD_TRIG_TXS => [fd 31 0 .rw .d 0]
  | .AUD_IMAP => [
      fd 31 30 .rw .e 0 (.range 0 2), -- KIND
      fd 24 16 .rw .e 0, -- IDX
      fd 5 0 .rw .e 0] -- CH
  | .RXS_CFG => [
      fd 31 31 .rw .d 0, -- EN
      fd 30 29 .rw .s 0 (.range 0 2), -- DOM
      fd 28 28 .rw .s 1, -- ENC
      fd 27 27 .rw .s 0, -- PTIME
      fd 22 16 .rw .s 2, -- NCH
      fd 12 8 .rw .s 2 (.range 1 16), -- B
      fd 6 0 .rw .s 97] -- PTYPE
  | .RXS_LEG => [
      fd 31 31 .rw .s 0, -- EN
      fd 30 28 .rw .s 0, -- PORT
      fd 15 0 .rw .s 5004] -- DPORT
  | .RXS_LEG_ADDR => [fd 31 0 .rw .s 0]
  | .RXS_RTP_OFS => [fd 31 0 .rw .s 0]
  | .RXS_SSRC => [ro 31 0]
  | .RXS_STAT => [ro 31 30, ro 29 29]
  | .RXS_CNT0 => [
      rc 31 16, -- MISSING
      rc 15 0] -- EARLY
  | .RXS_CNT1 => [
      rc 31 16, -- LATE0
      rc 15 0] -- LATE1
  | .RXS_CNT2 => [
      rc 31 16, -- LOST0
      rc 15 0] -- LOST1
  | .RXS_CNT3 => [rc 15 0] -- FOREIGN
  | .TXS_CFG => [
      fd 31 31 .rw .d 0, -- EN
      fd 30 29 .rw .s 0 (.range 0 2), -- DOM
      fd 28 28 .rw .s 1, -- ENC
      fd 27 27 .rw .s 0, -- PTIME
      fd 26 26 .rw .s 0, -- TRIG
      fd 25 25 .rw .d 1, -- WH_MISS
      fd 22 16 .rw .s 2, -- NCH
      fd 15 13 .rw .s 6, -- TC
      fd 6 0 .rw .s 97] -- PTYPE
  | .TXS_LEG => [
      fd 31 31 .rw .s 0, -- EN
      fd 30 28 .rw .s 0, -- PORT
      fd 15 0 .rw .s 5004] -- DPORT
  | .TXS_LEG_ADDR => [fd 31 0 .rw .s 0]
  | .TXS_FIRST => [fd 9 0 .rw .s 0]
  | .TXS_RTP_OFS => [fd 31 0 .rw .s 0]
  | .TXS_SSRC => [fd 31 0 .rw .s 0]
  | .TXS_LOFS => [fd 6 0 .rw .e 0 (.range 0 100)]
  | .TXS_NET => [
      fd 28 28 .rw .s 0, -- TAGGED
      fd 27 25 .rw .s 0, -- PCP
      fd 23 12 .rw .s 0, -- VID
      fd 11 6 .rw .s 34, -- DSCP
      fd 5 0 .rw .s 32 (.range 1 63)] -- TTL
  | .TXS_STAT => [
      ro 31 30,
      rc 15 0] -- WITHHELD
  | .AESI_CFG => [
      fd 31 31 .rw .d 0, -- EN
      fd 30 29 .rw .s 0 (.range 0 2), -- DOM
      fd 28 28 .rw .s 0, -- PATH
      fd 27 27 .rw .d 0] -- VMUTE
  | .AESI_STAT => [ro 31 29, ro 15 0]
  | .AESI_RATE => [ro 17 0]
  | .AESI_CNT => [
      rc 31 16, -- PARITY
      rc 15 8, -- CRC
      rc 7 0] -- UNLOCK
  | .AESI_CS_A => [ro 31 0]
  | .AESI_CS_B => [ro 31 0]
  | .AESI_UB_A => [ro 31 0]
  | .AESI_UB_B => [ro 31 0]
  | .AESO_CFG => [
      fd 31 31 .rw .d 0, -- EN
      fd 30 29 .rw .s 0 (.range 0 2), -- DOM
      fd 26 26 .rw .s 0, -- TRIG
      fd 25 25 .rw .d 0, -- V
      fd 24 24 .rw .d 1, -- CRCC_EN
      fd 23 23 .rw .d 1, -- SQ_STBY
      fd 9 0 .rw .s (2 * i)] -- SRC
  | .AESO_STAT => [ro 31 29]
  | .AESO_CS_A => [fd 31 0 .rw .e 0]
  | .AESO_CS_B => [fd 31 0 .rw .e 0]
  | .AESO_UB_A => [fd 31 0 .rw .e 0]
  | .AESO_UB_B => [fd 31 0 .rw .e 0]
  | .MIX_NODE => [
      fd 17 17 .rw .e 0, -- CUT
      fd 16 16 .rw .e 1, -- ACT
      fd 15 0 .rw .e 0] -- GAIN
  | .MIX_CTL => [fd 16 0 .rw .d 400 (.range 4 80000)] -- RAMP
  | .MIX_MET => [fd 12 0 .rw .e 800 (.range 1 8000)] -- ROWS
  | .MIX_STAT => [ro 31 15, ro 14 0]
  | .MIX_NODES => [ro 20 0]
  | .MIX_PROBE => [fd 19 0 .rw .d 0] -- NODE
  | .MIX_PROBE_VAL => [ro 16 16, ro 15 0]
  | .MIX_DLYLATE => [rc 31 0]
  | .MIX_STAT2 => [ro 16 0]
  | .MIX_ODL_BASE => [fd 63 0 .rw .s 0 (.align 4096)]
  | .MIX_ROLE => [ro 31 28, ro 13 0]
  | .MIX_ICTL => [
      fd 31 31 .rw .e 0, -- HPF_EN
      fd 27 16 .rw .e 0, -- IDLY
      fd 8 0 .rw .e 80 (.range 10 400)] -- FC
  | .MIX_IGAIN => [fd 31 0 .rw .e 0x10000000]
  | .MIX_ISTAT => [
      w1c 31 31, -- CLIP
      w1c 29 29] -- SAT
  | .MIX_IMETER => [ro 31 16, ro 15 0]
  | .MIX_IBQ => [fd 31 0 .rw .e (if l = 0 then 0x10000000 else 0)]
  | .MIX_OCTL => [
      fd 30 30 .rw .e 1, -- SAT
      fd 15 0 .rw .e 0] -- ODLY
  | .MIX_OGAIN => [fd 31 0 .rw .e 0x10000000]
  | .MIX_OSTAT => [
      w1c 31 31, -- CLIP
      w1c 30 30, -- WRAP
      w1c 29 29] -- SAT
  | .MIX_OMETER => [ro 31 16, ro 15 0]
  | .MIX_OBQ => [fd 31 0 .rw .e (if l = 0 then 0x10000000 else 0)]
  | .MIX_OMAP => [fd 7 0 .rw .s (i / 8)] -- ROLE
  | .KEY_CTL => [fd 0 0 .rw .d 1] -- IMPORT_EN
  | .KEY_OP => [
      fd 31 31 .wo .d 0, -- GO
      fd 26 24 .wo .d 0, -- OP
      fd 21 16 .wo .d 0, -- PARENT
      fd 13 8 .wo .d 0] -- SLOT
  | .KEY_OP_ATTR => [
      fd 11 8 .wo .d 0, -- USE
      fd 3 0 .wo .d 0] -- TYPE
  | .KEY_CTX => [fd 31 0 .wo .d 0]
  | .KEY_DATA => [fd 31 0 .wo .d 0]
  | .KEY_STAT => [ro 31 30, ro 7 0]
  | .KEY_TAMPER => [
      ro 31 24,
      rc 20 16, -- CAUSE
      w1c 8 8, -- VBAT_LOST
      fd 3 1 .rw .d 0] -- EN
  | .KEY_SLOT_STAT => [ro 31 30, ro 29 29, ro 24 24, ro 23 0]
  | .KEY_SLOT_ATTR => [ro 63 0]
  | .LOG_STAT => [ro 31 31, ro 30 24, ro 16 0]
  | .LOG_TAIL => [ro 14 0]
  | .LOG_HEAD => [ro 14 0]
  | .LOG_TAIL2 => [ro 14 0]
  | .LOG_SEQ => [ro 63 0]
  | .LOG_LINK => [ro 63 0]
  | .LOG_ACK => [
      fd 95 32 .rw .d 0, -- LINK
      fd 31 0 .rw .d 0] -- SEQ
  | .LOG_WARN => [fd 16 0 .rw .d 28672]
  | .LOG_GAPCNT => [ro 31 16, ro 15 0]
  | .LOG_RSV_WIN => [ro 31 0]
  | .LOG_RING_WIN => [ro 31 0]
  | .ATT_NONCE => [fd 31 0 .wo .d 0]
  | .ATT_CTL => [
      fd 31 31 .wo .d 0, -- GO
      ro 30 28,
      ro 7 0]
  | .ATT_REPORT => [ro 31 0]
  | .ATT_FUSE => [ro 31 31, ro 30 30, ro 29 29, ro 23 0]
  | .ATT_FUSE_ARM => [fd 31 0 .wo .d 0]
  | .ATT_FUSE_CMD => [
      fd 31 31 .wo .d 0, -- GO
      fd 18 16 .wo .d 0, -- FUSE
      fd 5 0 .wo .d 0] -- VALUE
  | .ATT_FUSE_STAT => [ro 31 30, ro 7 0]
  | .ATT_FUSE_HASH => [fd 31 0 .wo .d 0]
  | .ATT_OWNER_HASH => [ro 31 0]
  | .ATT_DEVID_PUB => [ro 31 0]
  | .STL_CFG => [
      fd 31 16 .rw .s 0, -- DOMAIN
      fd 11 0 .rw .s 0] -- DEVNUM
  | .STL_HOPS => [ro 21 16, ro 12 12, ro 11 0]
  | .STL_TWIN_CFG => [
      fd 31 31 .rw .d 0, -- EN
      fd 30 30 .rw .s 0, -- MODE
      fd 29 29 .rw .s 0, -- UNIT
      fd 28 28 .rw .s 1, -- ALIVE_EN
      fd 27 27 .rw .d 0, -- AUTO_HO
      fd 19 16 .rw .s 0, -- LINKMASK
      fd 15 0 .rw .s 0] -- PAIRID
  | .STL_TWIN_TIME => [
      fd 31 16 .rw .d 600 (.range 510 10000), -- ALIVE_TO
      fd 15 0 .rw .d 10 (.range 1 3600)] -- PAIR_TO
  | .STL_TWIN_LIM => [
      fd 31 16 .rw .e 150 (.range 20 65535), -- ALIGN
      fd 15 8 .rw .d 8 (.range 1 255), -- DIG_N
      fd 7 0 .rw .d 60 (.range 1 255)] -- ADV_HOLD
  | .STL_TWIN_MIRROR => [fd 21 0 .rw .s 0x0E80] -- GRP
  | .STL_TWIN_CTL => [
      fd 31 31 .wo .d 0, -- HANDOVER
      fd 30 30 .wo .d 0] -- RELINQ
  | .STL_TWIN_STAT => [
      ro 31 29,
      ro 28 26,
      ro 25 25,
      ro 24 24,
      ro 23 23,
      ro 22 22,
      ro 21 21,
      ro 20 20,
      rc 15 0] -- TAKES
  | .STL_TWIN_ROLE_AT => [ro 63 0]
  | .STL_TWIN_DIG => [rc 31 16] -- MISMATCH
  | .STL_LCFG => [
      fd 31 31 .rw .d 0, -- EN
      fd 30 30 .rw .d 0, -- PS_EN
      fd 27 24 .rw .d 0] -- TIME_TS
  | .STL_LSTAT => [ro 31 29, ro 27 16, ro 13 8]
  | .STL_PEER => [ro 31 16, ro 11 0]
  | .STL_ASYM => [fd 31 0 .rw .d 0]
  | .STL_GEN => [ro 31 16, ro 15 0]
  | .STL_PIN_DLY => [ro 31 16, ro 15 0]
  | .STL_CNT => [
      rc 31 16, -- DOWN
      rc 15 8, -- RTJUMP
      rc 7 0] -- MSGDROP
  | .STL_PS => [
      rc 31 16, -- LATE
      rc 15 0] -- NOROLE
  | .STL_BANK_HEAD => [ro 16 16, ro 15 0]
  | .STL_BANK_E => [ro 20 0]
  | .STL_BANK_TAIL => [ro 16 16, ro 15 0]
  | .FLT_CTL => [
      fd 31 31 .rw .d 1, -- ALIVE_EN
      fd 30 30 .wo .d 0] -- RESUME
  | .FLT_STAT => [ro 31 29, ro 28 28, ro 27 27, ro 26 26, ro 21 16, ro 15 0]
  | .FLT_LAST_GNS => [ro 63 0]
  | .FLT_INJ => [
      fd 31 31 .wo .d 0, -- GO
      fd 30 30 .rw .d 1, -- DRY
      fd 29 29 .wo .d 0, -- CANCEL
      fd 21 16 .rw .d 0, -- SRC
      fd 15 0 .rw .d 0] -- UNIT
  | .FLT_INJ_STAT => [ro 31 30, ro 7 0]
  | .FLT_SRC_CFG => [
      fd 31 31 .rw .d 1, -- IRQ
      ro 6 4,
      fd 2 0 .rw .d (fltSev i)] -- SEV
  | .FLT_SRC_STAT => [
      ro 31 31,
      w1c 30 30, -- STICKY
      ro 29 29,
      ro 15 0]
  | .FLT_SRC_CNT => [rc 15 0] -- COUNT
  | .REC_CTL => [
      fd 31 31 .wo .d 0, -- CLR_ALL
      fd 30 30 .wo .d 0, -- CLR_CNT
      fd 29 29 .wo .d 0] -- SNAP
  | .REC_STAT => [
      ro 31 24,
      ro 23 16,
      rc 15 0] -- QFULL
  | .REC_SEQ => [ro 31 0]
  | .REC_UNIT => [
      fd 31 24 .rw .d 0, -- MEAS
      fd 20 16 .rw .d 0, -- SHIFT
      fd 15 0 .rw .d 0] -- ARG
  | .REC_UNIT_LO => [fd 31 0 .rw .d 0]
  | .REC_UNIT_CLR => [fd 31 31 .wo .d 0] -- CLR
  | .REC_CODE => [
      fd 31 31 .rw .d (recCommit i), -- COMMIT
      fd 15 0 .rw .d 1000] -- MININT
  | .REC_CODE_COUNT => [ro 47 0]
  | .REC_CODE_SUPP => [rc 15 0]
  | .REC_LIVE => [ro 31 0]
  | .REC_WIN => [ro 31 0]
  | .PMC_SWEEP => [
      fd 31 31 .wo .d 0, -- GO
      fd 25 16 .rw .d 1023, -- LAST
      fd 9 0 .rw .d 0] -- FIRST
  | .PMC_SWEEP_PER => [fd 15 0 .rw .d 0]
  | .PMC_SWEEP_STAT => [
      ro 31 31,
      ro 30 30,
      rc 15 0] -- SKIP
  | .PMC_SAMP_RING => [fd 63 0 .rw .s 0 (.align 32)]
  | .PMC_SAMP_LEN => [fd 20 0 .rw .s 4096 (.pow2 256 1048576)]
  | .PMC_SAMP_PROD => [ro 19 0]
  | .PMC_SAMP_CONS => [fd 19 0 .rw .d 0]
  | .PMC_SAMP_LOST => [rc 31 0]
  | .PMC_SAMP => [
      fd 31 31 .rw .d 0, -- EN
      fd 30 30 .rw .d 0, -- JIT
      fd 15 0 .rw .d 0] -- MASK
  | .PMC_SAMP_PERIOD => [fd 23 0 .rw .d 65536 (.range 1024 16777215)]
  | .PMC_CNT => [
      fd 31 31 .rw .d 0, -- EN
      fd 30 30 .wo .d 0, -- CLR
      fd 7 0 .rw .d 0] -- SEL
  | .PMC_BANK_HEAD => [ro 31 0]
  | .PMC_BANK_GNS => [ro 63 0]
  | .PMC_BANK_ENTRY => [ro 63 63, ro 47 0]
  | .PMC_BANK_TAIL => [ro 31 0]
  | .HST_STAT => [ro 31 31, ro 19 16, ro 2 0]
  | .HST_WERR => [
      ro 31 24,
      rc 15 0] -- COUNT
  | .HST_WERR_ADDR => [ro 31 0]
  | .HST_IRQ_STAT => [w1c 20 0]
  | .HST_IRQ_MASK => [fd 20 0 .rw .d 0]
  | .HST_MBX_CTL => [
      fd 31 31 .wo .d 0, -- GO
      fd 30 30 .wo .d 0] -- ACK
  | .HST_MBX_STAT => [ro 31 30, ro 2 0]
  | .HST_MBX_REQ => [fd 31 0 .wo .d 0]
  | .HST_MBX_RSP => [ro 31 0]
  | .HST_MSIX => [fd 31 0 .rw .n (if j = 3 then 1 else 0)]
  | .HST_MSIX_PBA => [ro 20 0]
  | .DMA_CFG => [
      fd 31 31 .rw .d 0, -- EN
      fd 30 28 .rw .s 0 (.range 0 3)] -- KIND
  | .DMA_RING_BASE => [fd 63 0 .rw .s 0 (.align 32)]
  | .DMA_RING_LEN => [fd 16 0 .rw .s 256 (.pow2 16 65536)]
  | .DMA_PROD => [fd 15 0 .rw .d 0]
  | .DMA_CONS => [ro 15 0]
  | .DMA_STAT => [
      rc 31 16, -- SMALL
      rc 15 0] -- ERR
  | .MEM_CFG => [
      fd 31 31 .rw .s 1, -- SPEED
      fd 29 28 .rw .s 1 (.range 0 1), -- DENS
      fd 7 4 .rw .s 0 (.range 0 4), -- SIZE1
      fd 3 0 .rw .s 4 (.range 0 4)] -- SIZE0
  | .MEM_STAT => [ro 31 31, ro 1 0]
  | .MEM_SCRUB => [
      fd 31 31 .rw .d 1, -- WB
      fd 7 0 .rw .d 24 (.range 1 168)] -- PERIOD
  | .MEM_UE_ADDR => [ro 63 0]
  | .MEM_UE_INFO => [
      w1c 31 31, -- VALID
      ro 19 16,
      rc 15 0] -- COUNT
  | .MEM_PROT => [rc 31 0]
  | .MEM_SPARE => [
      fd 31 31 .wo .d 0, -- GO
      fd 30 30 .rw .d 1, -- AUTO
      ro 29 28,
      fd 19 16 .rw .d 0 (.range 0 8), -- DEV
      fd 15 0 .rw .d 4096] -- TH
  | .MEM_CORR => [rc 31 0]
  | .MEM_REQ => [
      fd 31 31 .rw .d (memPreempt i), -- PREEMPT
      fd 26 24 .rw .d (memPri i), -- PRI
      fd 7 0 .rw .d (memShare i)] -- SHARE
  | .MEM_STARVE => [fd 15 0 .rw .d (memStarve i) (.range 1 65535)]
  | .MEM_REQ_STAT => [
      w1c 31 31, -- STARVED
      rc 15 0] -- MAXWAIT
  | .SBD_CFG => [
      fd 31 31 .rw .e 1, -- UART_EN
      fd 26 24 .rw .e 0 (.range 0 6), -- BAUD
      fd 22 16 .rw .e 0x5C, -- SADDR
      fd 3 0 .rw .e 0] -- INST
  | .SBD_STAT => [
      ro 31 31,
      ro 30 24,
      rc 15 8, -- CRC
      rc 7 0] -- BUSY
  | .SBD_WERR => [
      ro 31 24,
      rc 15 0] -- COUNT
  | .SBD_WERR_ADDR => [ro 31 0]
  | .SBD_IBI_MASK => [fd 3 0 .rw .d 0]

/-- The registers of group TOP. -/
def RegName.allTop : List RegName := [
  .TOP_ID, .TOP_OWNER, .TOP_SEQ_WPERM, .TOP_CAST, .TOP_CONFIG, .TOP_BINDOFF, .TOP_TEMP,
  .TOP_CFGIMG, .TOP_GPIO_OUT, .TOP_GPIO_IN]

/-- The registers of group GAU. -/
def RegName.allGau : List RegName := [
  .GAU_CTL, .GAU_STATE, .GAU_SNAP, .GAU_INC, .GAU_FADJ, .GAU_SLEW_MAX, .GAU_SLEW_AMT,
  .GAU_SLEW_REM, .GAU_STEP_AMT, .GAU_STEP_AT, .GAU_STEP_CTL, .GAU_STEP_STAT, .GAU_STEP_ACK,
  .GAU_STEP_MIN, .GAU_STEP_CONFIRM, .GAU_STEP_AGREE, .GAU_GUARD, .GAU_GUARD_DEV, .GAU_HB_MAX,
  .GAU_BND_FLOOR, .GAU_HO_N, .GAU_HO_BH, .GAU_CLASS_TH, .GAU_CLASS_VAL, .GAU_CLASS_CFG,
  .GAU_UTC, .GAU_LEAP_AT]

/-- The registers of group SEL. -/
def RegName.allSel : List RegName := [
  .SEL_CTL, .SEL_FORCE, .SEL_REVERT, .SEL_AGREE, .SEL_SPAN, .SEL_STATUS, .SEL_SW_STAT,
  .SEL_SW_DELTA, .SEL_SW_UNC, .SEL_SW_BND, .SEL_HOSTSET, .SEL_HOSTSET_UNC, .SEL_CFG, .SEL_PER,
  .SEL_DIV, .SEL_FWIN, .SEL_PJ, .SEL_STATE, .SEL_FREQ, .SEL_TDEV, .SEL_CNT, .SEL_OFS, .SEL_OFSU,
  .SEL_OFSB, .SEL_OFS_AGE]

/-- The registers of group HLD. -/
def RegName.allHld : List RegName := [
  .HLD_CTL, .HLD_AVG, .HLD_AGE, .HLD_MODEL_FU, .HLD_MODEL_AU, .HLD_FRZ, .HLD_FAVG, .HLD_AGE_NOW,
  .HLD_STAT, .HLD_ATOM_PH, .HLD_ATOM_REF, .HLD_ATOM_DEV]

/-- The registers of group OUT. -/
def RegName.allOut : List RegName := [
  .OUT_GRPB, .OUT_GRPB_MAXPULL, .OUT_GRPC, .OUT_GRPB_OFS, .OUT_GRPC_OFS, .OUT_APLL,
  .OUT_SQ_STAT, .OUT_CFG, .OUT_P1, .OUT_P2, .OUT_OFFSET, .OUT_OFFSET_FR, .OUT_COMP, .OUT_SQ_BND,
  .OUT_SKIP]

/-- The registers of group TDC. -/
def RegName.allTdc : List RegName := [
  .TDC_CTL, .TDC_CAL, .TDC_TEN, .TDC_TEN_OUT, .TDC_CAL_STAT, .TDC_CAL_CANCEL, .TDC_SRC_DLY,
  .TDC_CFG, .TDC_DIV, .TDC_TIMEOUT, .TDC_RING_BASE, .TDC_RING_LEN, .TDC_RING_PROD,
  .TDC_RING_CONS, .TDC_GEN, .TDC_STAT, .TDC_BANK_HEAD, .TDC_BANK_E, .TDC_BANK_TAIL]

/-- The registers of group GNS. -/
def RegName.allGns : List RegName := [
  .GNS_CTL, .GNS_LATCH, .GNS_LATCH_N, .GNS_PAIR, .GNS_SPI_CTL, .GNS_SPI_TX, .GNS_SPI_RX,
  .GNS_IND_CTL, .GNS_IND_TH, .GNS_IND_DRIFT, .GNS_IND_EN, .GNS_IND_STAT, .GNS_BIAS,
  .GNS_BIAS_SEQ, .GNS_SYS, .FE_CFG, .FE_FS, .FE_IF, .FE_STAT, .FE_POW, .FE_BASE, .FE_DESKEW,
  .FE_SCNT, .ACQ_STAGE, .ACQ_STAGE_LEN, .ACQ_CFG, .ACQ_DOP, .ACQ_INT, .ACQ_TS, .ACQ_SWADDR,
  .ACQ_RES_SCNT, .ACQ_RES_CODE, .ACQ_RES_DOP, .ACQ_RES_PEAK, .ACQ_RES_SECOND, .ACQ_RES_NOISE,
  .ACQ_STAT, .SW_CTL, .SW_AT, .SW_BASE, .SW_LEN, .SW_STAT, .CH_CFG, .CH_SP, .CH_MOFS,
  .CH_CODE_NCO, .CH_CARR_NCO, .CH_START_PH, .CH_START_SCNT, .CH_STAT, .CH_CODE_NOW,
  .CH_CARR_NOW, .GNS_LATCH_BANK]

/-- The registers of group SEQ. -/
def RegName.allSeq : List RegName := [
  .SEQ_CTL, .SEQ_STAT, .SEQ_WD, .SEQ_ROLE, .SEQ_ERR, .SEQ_IMG, .CLU_LOAD_ADDR, .CLU_LOAD_CTL,
  .CLU_LOAD_STAT, .CLU_SPARE, .CLU_SCHED, .CLU_TDC_MAP]

/-- The registers of group ETH. -/
def RegName.allEth : List RegName := [
  .ETH_CFG, .ETH_STAT, .ETH_PAUSE, .ETH_HIWM, .ETH_LOWM, .ETH_PAUSE_STAT, .ETH_PREEMPT,
  .ETH_PREEMPT_STAT, .ETH_TX_COMP, .ETH_TEN, .ETH_GEN, .ETH_PIN_DLY, .ETH_ROW_CTL,
  .ETH_ROW_STAT, .ETH_ROW_LAND, .ETH_TXTS, .ETH_TXTS_STAT, .ETH_DROP, .ETH_RXDEF, .ETH_DROP2,
  .ETH_LOOP, .ETH_FLT_CTL, .ETH_FLT_KEY, .ETH_FLT_UDP, .ETH_RXQ_CFG, .ETH_RXQ_OCC,
  .ETH_RXQ_DROP, .ETH_RXQ_SPILL_BASE, .ETH_RXQ_SPILL_LEN, .ROWT_CYCLE, .ROWT_BASE, .ROWT_NSLOT,
  .ROWT_OFS, .ROWT_GATE, .ETH_BANK_HEAD, .ETH_BANK_E, .ETH_BANK_TAIL, .ROWA_CYCLE, .ROWA_BASE,
  .ROWA_NSLOT, .ROWA_OFS, .ROWA_GATE]

/-- The registers of group TSV. -/
def RegName.allTsv : List RegName := [
  .TSV_CTL, .TSV_CLOCKID, .TSV_DS, .TSV_QUAL, .TSV_TRACE, .TSV_MSG_STAT, .TSV_CMAP_TH,
  .TSV_CMAP_VAL, .TSV_CMAP_CFG, .TSV_UC_DUR, .TSV_UC_MINLOG, .TSV_UC_STAT, .TSV_SA_CFG,
  .TSV_SA_KEYID, .TSV_SA_STAT, .TSV_NTP_CTL, .TSV_NTP_STRAT, .TSV_NTP_REFID, .TSV_NTP_PREC,
  .TSV_NTP_RESP, .TSV_NTP_NAK, .TSV_NTP_DISC, .TSV_BEXT, .TSV_BEXT_NTP, .TSV_NTS_KEY,
  .TSV_NTS_NEXT, .TSV_NTS_ROT_AT, .TSV_MINT_REQ_BASE, .TSV_MINT_RES_BASE, .TSV_MINT_LEN,
  .TSV_MINT_REQ_PROD, .TSV_MINT_REQ_CONS, .TSV_MINT_RES_PROD, .TSV_MINT_RES_CONS, .PTP_CFG,
  .PTP_RATE, .PTP_NET, .PTP_AUTH, .PTP_MAC, .PTP_IPV4, .PTP_IPV6, .PTP_SYNC_OFS, .PTP_RXCOMP,
  .PTP_STAT, .PTP_DISC, .PTP_PARENT, .PTP_GM, .PTP_UCM, .PTP_UCM_ADDR, .TSV_SESSION,
  .TSV_SESSION_ID, .TSV_SESSION_PORT, .TSV_SESSION_ADDR]

/-- The registers of group AUD. -/
def RegName.allAud : List RegName := [
  .AUD_CTL, .AUD_DOM, .AUD_ROW, .AUD_ZC, .AUD_STRIP, .AUD_ASRC, .AUD_RXNM, .AUD_TRIG_CTL,
  .AUD_TRIG_AT, .AUD_TRIG_AESO, .AUD_TRIG_TXS, .AUD_IMAP, .RXS_CFG, .RXS_LEG, .RXS_LEG_ADDR,
  .RXS_RTP_OFS, .RXS_SSRC, .RXS_STAT, .RXS_CNT0, .RXS_CNT1, .RXS_CNT2, .RXS_CNT3, .TXS_CFG,
  .TXS_LEG, .TXS_LEG_ADDR, .TXS_FIRST, .TXS_RTP_OFS, .TXS_SSRC, .TXS_LOFS, .TXS_NET, .TXS_STAT,
  .AESI_CFG, .AESI_STAT, .AESI_RATE, .AESI_CNT, .AESI_CS_A, .AESI_CS_B, .AESI_UB_A, .AESI_UB_B,
  .AESO_CFG, .AESO_STAT, .AESO_CS_A, .AESO_CS_B, .AESO_UB_A, .AESO_UB_B]

/-- The registers of group MIX. -/
def RegName.allMix : List RegName := [
  .MIX_NODE, .MIX_CTL, .MIX_MET, .MIX_STAT, .MIX_NODES, .MIX_PROBE, .MIX_PROBE_VAL,
  .MIX_DLYLATE, .MIX_STAT2, .MIX_ODL_BASE, .MIX_ROLE, .MIX_ICTL, .MIX_IGAIN, .MIX_ISTAT,
  .MIX_IMETER, .MIX_IBQ, .MIX_OCTL, .MIX_OGAIN, .MIX_OSTAT, .MIX_OMETER, .MIX_OBQ, .MIX_OMAP]

/-- The registers of group KEY. -/
def RegName.allKey : List RegName := [
  .KEY_CTL, .KEY_OP, .KEY_OP_ATTR, .KEY_CTX, .KEY_DATA, .KEY_STAT, .KEY_TAMPER, .KEY_SLOT_STAT,
  .KEY_SLOT_ATTR]

/-- The registers of group LOG. -/
def RegName.allLog : List RegName := [
  .LOG_STAT, .LOG_TAIL, .LOG_HEAD, .LOG_TAIL2, .LOG_SEQ, .LOG_LINK, .LOG_ACK, .LOG_WARN,
  .LOG_GAPCNT, .LOG_RSV_WIN, .LOG_RING_WIN, .ATT_NONCE, .ATT_CTL, .ATT_REPORT, .ATT_FUSE,
  .ATT_FUSE_ARM, .ATT_FUSE_CMD, .ATT_FUSE_STAT, .ATT_FUSE_HASH, .ATT_OWNER_HASH, .ATT_DEVID_PUB]

/-- The registers of group STL. -/
def RegName.allStl : List RegName := [
  .STL_CFG, .STL_HOPS, .STL_TWIN_CFG, .STL_TWIN_TIME, .STL_TWIN_LIM, .STL_TWIN_MIRROR,
  .STL_TWIN_CTL, .STL_TWIN_STAT, .STL_TWIN_ROLE_AT, .STL_TWIN_DIG, .STL_LCFG, .STL_LSTAT,
  .STL_PEER, .STL_ASYM, .STL_GEN, .STL_PIN_DLY, .STL_CNT, .STL_PS, .STL_BANK_HEAD, .STL_BANK_E,
  .STL_BANK_TAIL]

/-- The registers of group FLT. -/
def RegName.allFlt : List RegName := [
  .FLT_CTL, .FLT_STAT, .FLT_LAST_GNS, .FLT_INJ, .FLT_INJ_STAT, .FLT_SRC_CFG, .FLT_SRC_STAT,
  .FLT_SRC_CNT]

/-- The registers of group REC. -/
def RegName.allRec : List RegName := [
  .REC_CTL, .REC_STAT, .REC_SEQ, .REC_UNIT, .REC_UNIT_LO, .REC_UNIT_CLR, .REC_CODE,
  .REC_CODE_COUNT, .REC_CODE_SUPP, .REC_LIVE, .REC_WIN]

/-- The registers of group PMC. -/
def RegName.allPmc : List RegName := [
  .PMC_SWEEP, .PMC_SWEEP_PER, .PMC_SWEEP_STAT, .PMC_SAMP_RING, .PMC_SAMP_LEN, .PMC_SAMP_PROD,
  .PMC_SAMP_CONS, .PMC_SAMP_LOST, .PMC_SAMP, .PMC_SAMP_PERIOD, .PMC_CNT, .PMC_BANK_HEAD,
  .PMC_BANK_GNS, .PMC_BANK_ENTRY, .PMC_BANK_TAIL]

/-- The registers of group HST. -/
def RegName.allHst : List RegName := [
  .HST_STAT, .HST_WERR, .HST_WERR_ADDR, .HST_IRQ_STAT, .HST_IRQ_MASK, .HST_MBX_CTL,
  .HST_MBX_STAT, .HST_MBX_REQ, .HST_MBX_RSP, .HST_MSIX, .HST_MSIX_PBA, .DMA_CFG, .DMA_RING_BASE,
  .DMA_RING_LEN, .DMA_PROD, .DMA_CONS, .DMA_STAT]

/-- The registers of group MEM. -/
def RegName.allMem : List RegName := [
  .MEM_CFG, .MEM_STAT, .MEM_SCRUB, .MEM_UE_ADDR, .MEM_UE_INFO, .MEM_PROT, .MEM_SPARE, .MEM_CORR,
  .MEM_REQ, .MEM_STARVE, .MEM_REQ_STAT]

/-- The registers of group SBD. -/
def RegName.allSbd : List RegName := [
  .SBD_CFG, .SBD_STAT, .SBD_WERR, .SBD_WERR_ADDR, .SBD_IBI_MASK]


/-- The groups of R29 by index: first address, last address. -/
def groupRange : List (Nat × Nat) := [
  (0x00000000, 0x000FFFFF), (0x00100000, 0x0017FFFF), (0x00180000, 0x001FFFFF),
  (0x00200000, 0x0027FFFF), (0x00280000, 0x002FFFFF), (0x00300000, 0x003FFFFF),
  (0x00400000, 0x007FFFFF), (0x00800000, 0x00BFFFFF), (0x00C00000, 0x00CFFFFF),
  (0x00D00000, 0x00DFFFFF), (0x00E00000, 0x00FFFFFF), (0x01000000, 0x017FFFFF),
  (0x01800000, 0x018FFFFF), (0x01900000, 0x019FFFFF), (0x01A00000, 0x01AFFFFF),
  (0x01B00000, 0x01BFFFFF), (0x01C00000, 0x01CFFFFF), (0x01D00000, 0x01DFFFFF),
  (0x01E00000, 0x01EFFFFF), (0x01F00000, 0x01F7FFFF), (0x01F80000, 0x01FFFFFF),
  (0x02000000, 0x033FFFFF)]

/-- The index of the first range that holds the address. -/
def findRange (a : Nat) : Nat → List (Nat × Nat) → Option Nat
  | _, [] => none
  | g, (lo, hi) :: r => if lo ≤ a ∧ a ≤ hi then some g else findRange a (g + 1) r

/-- The register group of an address (R29); none where unmapped. -/
def groupOf (a : Nat) : Option Nat := findRange a 0 groupRange

/-- The groups of the AON domain: TOP, LOG and ATT, REC, SBD (R20, R29). -/
def aonGroup (g : Nat) : Bool := decide (g = 0 ∨ g = 13 ∨ g = 16 ∨ g = 20)

/-- The registers of a group. -/
def RegName.ofGroup (g : Nat) : List RegName :=
  [allTop, allGau, allSel, allHld, allOut, allTdc, allGns, allSeq, allEth, allTsv, allAud, allMix,
    allKey, allLog, allStl, allFlt, allRec, allPmc, allHst, allMem, allSbd].getD g []

/-- The offset split by counts and strides: the indices and what is left. -/
def splitDims : List (Nat × Nat) → Nat → Option (List Nat × Nat)
  | [], off => some ([], off)
  | (n, st) :: r, off =>
    if off / st < n then (splitDims r (off % st)).map fun p => (off / st :: p.1, p.2) else none

/-- A register of the map with its indices, and the word of it that an address names. -/
structure RegAt where
  reg : RegName
  i : Nat
  j : Nat
  l : Nat
  word : Nat
  deriving DecidableEq

/-- The register at an address, if this is the one. -/
def RegName.match? (r : RegName) (a : Nat) : Option RegAt :=
  if a < r.geo.base then none
  else match splitDims r.geo.dims (a - r.geo.base) with
    | none => none
    | some (ix, rest) =>
      if rest < 4 * r.geo.words then
        some ⟨r, ix.getD 0 0, ix.getD 1 0, ix.getD 2 0, rest / 4⟩
      else none

/-- The first register of the list that the address lies in. -/
def firstReg (a : Nat) : List RegName → Option RegAt
  | [] => none
  | r :: rs => match r.match? a with
    | some x => some x
    | none => firstReg a rs

/-- The register that an address names (R31: none is unmapped). -/
def lookupReg (a : Nat) : Option RegAt :=
  match groupOf a with
  | none => none
  | some g => firstReg a (RegName.ofGroup g)

/-- The first address of register `r` with indices `i`, `j`, `l`. -/
def RegName.addr (r : RegName) (i : Nat := 0) (j : Nat := 0) (l : Nat := 0) : Nat :=
  let st := fun k => ((r.geo.dims.getD k (0, 0)).2 : Nat)
  r.geo.base + i * st 0 + j * st 1 + l * st 2

/-- What a field holds at reset, in its place. -/
def Field.resetIn (f : Field) : Nat := if f.acc = .rw ∨ f.acc = .ro then f.rst * 2 ^ f.lo else 0

/-- The reset value of a register. -/
def RegName.reset (r : RegName) (i : Nat := 0) (j : Nat := 0) (l : Nat := 0) : Nat :=
  ((r.fields i j l).map Field.resetIn).sum

/-- The bits of a field. -/
def Field.get (f : Field) (v : Nat) : Nat := bits v f.hi f.lo

/-- `v` with the bits of the field replaced by those of `w`. -/
def Field.put (f : Field) (v w : Nat) : Nat :=
  v - f.get v * 2 ^ f.lo + f.get w * 2 ^ f.lo

/-- The value with every field that meets `p` taken from `w`. -/
def putFields (p : Field → Bool) (fs : List Field) (v w : Nat) : Nat :=
  fs.foldl (fun acc f => if p f then f.put acc w else acc) v

/-- The field may be given this value (R403). -/
def FOk.allows (k : FOk) (width v : Nat) : Bool :=
  match k with
  | .any => true
  | .range lo hi => decide (lo ≤ v ∧ v ≤ hi)
  | .srange lo hi => decide (lo ≤ sext width v ∧ sext width v ≤ hi)
  | .pow2 lo hi => decide (lo ≤ v ∧ v ≤ hi ∧ 2 ^ Nat.log2 v = v)
  | .align n => decide (v % n = 0)
  | .divides n => decide (v ≠ 0 ∧ n % v = 0)
  | .oneOf l => decide (v ∈ l)

/-- Every writable field of the register takes a permitted value from `w`. -/
def fieldsAllow (fs : List Field) (w : Nat) : Bool :=
  fs.all fun f => f.acc ≠ .rw || f.ok.allows (f.hi + 1 - f.lo) (f.get w)

end Sys2Proof.Machine
end

