-- ==== Sys2Proof/Machine/Ops.lean ====
section
/-! DEFINITION. The named operations over the state that every block uses: registers and their fields, units
by number, the Gauge bus, interrupts, counters, and messages to sequencers. -/

namespace Sys2Proof.Machine

/-! ### Registers -/

/-- The value in force of a register. -/
def State.inForce (s : State) (r : RegName) (i : Nat := 0) (j : Nat := 0) (l : Nat := 0) : Nat :=
  s.force.get (r.addr i j l) (r.reset i j l)

/-- The value last written to a register, or its reset value (R8). -/
def State.lastOf (s : State) (r : RegName) (i : Nat := 0) (j : Nat := 0) (l : Nat := 0) : Nat :=
  s.regs.get (r.addr i j l) (r.reset i j l)

/-- Bits `hi` to `lo` of the value in force. -/
def State.fl (s : State) (r : RegName) (hi lo : Nat) (i : Nat := 0) (j : Nat := 0) (l : Nat := 0) : Nat :=
  bits (s.inForce r i j l) hi lo

/-- Bit `b` of the value in force is 1. -/
def State.on (s : State) (r : RegName) (b : Nat) (i : Nat := 0) (j : Nat := 0) (l : Nat := 0) : Bool :=
  bitOn (s.inForce r i j l) b

/-- `v` with bits `hi` to `lo` replaced by `w`. -/
def putBits (v hi lo w : Nat) : Nat :=
  v - bits v hi lo * 2 ^ lo + w % 2 ^ (hi + 1 - lo) * 2 ^ lo

/-- A register takes a value, at once and in force. -/
def State.setReg (s : State) (r : RegName) (v : Nat) (i : Nat := 0) (j : Nat := 0) (l : Nat := 0) : State :=
  { s with regs := s.regs.set (r.addr i j l) v, force := s.force.set (r.addr i j l) v }

/-- Hardware gives a field of a writable register a value. -/
def State.setFl (s : State) (r : RegName) (hi lo w : Nat) (i : Nat := 0) (j : Nat := 0) (l : Nat := 0) :
    State :=
  { s with
    regs := s.regs.set (r.addr i j l) (putBits (s.lastOf r i j l) hi lo w)
    force := s.force.set (r.addr i j l) (putBits (s.inForce r i j l) hi lo w) }

/-- What hardware keeps of a register. -/
def State.hwOf (s : State) (r : RegName) (i : Nat := 0) (j : Nat := 0) (l : Nat := 0) : Nat :=
  s.hw.get (r.addr i j l) 0

/-- Hardware sets bits `hi` to `lo` of what it keeps of a register. -/
def State.setHw (s : State) (r : RegName) (hi lo w : Nat) (i : Nat := 0) (j : Nat := 0) (l : Nat := 0) :
    State :=
  { s with hw := s.hw.set (r.addr i j l) (putBits (s.hwOf r i j l) hi lo w) }

/-- A saturating count in bits `hi` to `lo` takes `k` more events. -/
def State.bump (s : State) (r : RegName) (hi lo : Nat) (k : Nat := 1) (i : Nat := 0) (j : Nat := 0)
    (l : Nat := 0) : State :=
  s.setHw r hi lo (satAdd (2 ^ (hi + 1 - lo) - 1) (bits (s.hwOf r i j l) hi lo) k) i j l

/-! ### Units by number -/

/-- Sequencer n. -/
def State.sq (s : State) (n : Nat) : Seq := s.seqs.get n Seq.reset
/-- Sequencer n becomes `q`. -/
def State.setSq (s : State) (n : Nat) (q : Seq) : State := { s with seqs := s.seqs.set n q }
/-- Cluster k. -/
def State.clu (s : State) (k : Nat) : Clu := s.clus.get k Clu.reset
/-- Cluster k becomes `c`. -/
def State.setClu (s : State) (k : Nat) (c : Clu) : State := { s with clus := s.clus.set k c }
/-- Candidate k. -/
def State.cand (s : State) (k : Nat) : Cand := s.sel.cands.get k Cand.reset
/-- Candidate k becomes `c`. -/
def State.setCand (s : State) (k : Nat) (c : Cand) : State :=
  { s with sel := { s.sel with cands := s.sel.cands.set k c } }
/-- The output with index i. -/
def State.outU (s : State) (i : Nat) : OutU := s.out.outs.get i OutU.reset
/-- The output with index i becomes `o`. -/
def State.setOutU (s : State) (i : Nat) (o : OutU) : State :=
  { s with out := { s.out with outs := s.out.outs.set i o } }
/-- Fault source k. -/
def State.fsrc (s : State) (k : Nat) : FltSrc := s.flt.srcs.get k FltSrc.reset
/-- Fault source k becomes `f`. -/
def State.setFsrc (s : State) (k : Nat) (f : FltSrc) : State :=
  { s with flt := { s.flt with srcs := s.flt.srcs.set k f } }

/-- The cluster of a sequencer (R25). -/
def cluOf (n : Nat) : Nat := n / 16

/-- The device sends. -/
def State.send (s : State) (x : Sent) : State := { s with sent := x :: s.sent }

/-- The next free value, reduced to `w` bits, and the state that has drawn it. -/
def State.draw (s : State) (w : Nat) : Nat × State :=
  (Config.freeValue s.free % 2 ^ w, { s with free := s.free + 1 })

/-! ### Units of chapters 5, 6 and 14 by number -/

/-- TDC channel c. -/
def State.tdcCh (s : State) (c : Nat) : TdcCh := s.tdc.chs.get c TdcCh.reset
/-- TDC channel c becomes `x`. -/
def State.setTdcCh (s : State) (c : Nat) (x : TdcCh) : State :=
  { s with tdc := { s.tdc with chs := s.tdc.chs.set c x } }
/-- Calibrated unit u. -/
def State.calU (s : State) (u : Nat) : CalU := s.tdc.units.get u CalU.reset
/-- Calibrated unit u becomes `x`. -/
def State.setCalU (s : State) (u : Nat) (x : CalU) : State :=
  { s with tdc := { s.tdc with units := s.tdc.units.set u x } }
/-- Front-end port f. -/
def State.fe (s : State) (f : Nat) : Fe := s.gnb.fes.get f Fe.reset
/-- Front-end port f becomes `x`. -/
def State.setFe (s : State) (f : Nat) (x : Fe) : State := { s with gnb := { s.gnb with fes := s.gnb.fes.set f x } }
/-- Tracking channel c. -/
def State.chan (s : State) (c : Nat) : Chan := s.gnb.chs.get c Chan.reset
/-- Tracking channel c becomes `x`. -/
def State.setChan (s : State) (c : Nat) (x : Chan) : State :=
  { s with gnb := { s.gnb with chs := s.gnb.chs.set c x } }
/-- Stitch link l. -/
def State.link (s : State) (l : Nat) : Link := s.links.get l Link.reset
/-- Stitch link l becomes `x`. -/
def State.setLink (s : State) (l : Nat) (x : Link) : State := { s with links := s.links.set l x }

/-! ### The twin in selection and squelch (R104, R325, R326) -/

/-- The device is the standby of a twin, as R104 and R259 mean it (R325). -/
def State.standby (s : State) : Bool :=
  match s.twin.role with
  | .pairing | .standby | .isolated => true
  | _ => false

/-- Link l is a twin link (R324). -/
def State.twinLink (s : State) (l : Nat) : Bool := bitOn (s.fl .STL_TWIN_CFG 19 16) l

/-- The peer of link l belongs to the pair (R327). -/
def State.paired (s : State) (l : Nat) : Bool :=
  decide ((s.link l).pairid = s.fl .STL_TWIN_CFG 15 0) && ((s.link l).unit != s.on .STL_TWIN_CFG 29)

/-- Link l is a twin link that is UP (R327). -/
def State.twinUp (s : State) (l : Nat) : Bool :=
  s.twinLink l && decide ((s.link l).st = .up) && s.paired l

/-- The lowest twin link that is UP. -/
def State.twinFirst (s : State) : Option Nat := (List.range 4).find? s.twinUp

/-! ### The Gauge bus (R13, R36, R51) -/

/-- GNS. -/
def State.gns (s : State) : Nat := s.gau.g / 2 ^ 40 % 2 ^ 64
/-- GFR. -/
def State.gfr (s : State) : Nat := s.gau.g / 2 ^ 8 % 2 ^ 32
/-- The Gauge in 2^-32 ns: GNS and GFR. -/
def State.g32 (s : State) : Nat := s.gau.g / 2 ^ 8 % 2 ^ 96
/-- The BOUND on the Gauge bus (R14, R55). -/
def State.busBound (s : State) : Nat := s.gau.busB
/-- The state on the Gauge bus (R14, R39). -/
def State.busSt (s : State) : GState := s.gau.busSt
/-- The Gauge drives its BOUND, not below GAU_BND_FLOOR, and its state on the bus (R14, R55). What the recorder captured at this very
edge carries them too. -/
def State.latchBus (s : State) : State :=
  let b := max s.gau.bound (s.inForce .GAU_BND_FLOOR)
  { s with
    gau := { s.gau with busB := b, busSt := s.gau.st }
    rcd := { s.rcd with bufs := s.rcd.bufs.map fun r =>
      if r.gns = s.gns ∧ r.gfr = s.gfr then { r with bound := b, state := s.gau.st.code } else r } }
/-- ST40 (R51). -/
def State.st40 (s : State) : Nat := s.gns % 2 ^ 40
/-- An ST40 instant is due (R51). -/
def State.due40 (s : State) (t : Nat) : Bool :=
  s.gau.running && decide ((s.st40 + 2 ^ 40 - t % 2 ^ 40) % 2 ^ 40 < 2 ^ 39)
/-- The present edge is a step edge (R43). -/
def State.stepped (s : State) : Bool := decide (s.gau.from_ = s.gau.g) && s.gau.prev.isSome
/-- The present edge is the first at or after a Gauge instant with GNS mod `per` = 0. At the edge of the
start every grid is due (R51). -/
def State.atPeriod (s : State) (per : Nat) : Bool :=
  s.gau.running && match s.gau.prev with
    | none => true
    | some p => decide (p / 2 ^ 40 / per < s.gau.g / 2 ^ 40 / per) || (decide (s.gau.g < p) && !s.stepped)
/-- The present edge is a t_sec. -/
def State.atSec (s : State) : Bool := s.atPeriod 1000000000
/-- The present edge is a Gauge millisecond. -/
def State.atMs (s : State) : Bool := s.atPeriod 1000000
/-- The Gauge ran through the instant of `n` ns before a backward step, so what fired then does not fire again (R52). -/
def State.ranBefore (s : State) (n : Int) : Bool :=
  s.gau.runs.any fun r => decide ((r.1 : Int) ≤ n * 2 ^ 40 ∧ n * 2 ^ 40 ≤ r.2)
/-- The last Gauge instant with GNS mod `per` = 0. -/
def State.lastGrid (s : State) (per : Nat) : Int := (s.gns / per * per : Nat)
/-- T_C at the present edge, in 2^-40 ns (R91). -/
def State.tc (s : State) : Int := s.gau.g - s.out.oc
/-- The event has not yet happened at this edge. -/
def State.fresh (s : State) (key : Nat) : Bool := !s.fired.contains key
/-- The event happens at this edge. -/
def State.fire (s : State) (key : Nat) : State := { s with fired := key :: s.fired }

/-! ### Interrupts (R362, R367) and counters (R353) -/

/-- An event of MSI-X vector v (R362). -/
def State.irq (s : State) (v : Nat) : State :=
  if s.coreOn then
    let s1 := s.setHw .HST_IRQ_STAT v v 1
    if bitOn (s.inForce .HST_IRQ_MASK) v then s1 else s1.send (.msix v)
  else s

/-- An in-band interrupt, subject to SBD_IBI_MASK and DISEC (R367). -/
def State.ibi (s : State) (c : Nat) : State :=
  if bitOn (s.inForce .SBD_IBI_MASK) (c - 1) || !s.sbd.ints then s else s.send (.ibi c)

/-- Counter i counts `k` occurrences. -/
def State.pmcOne (s : State) (i k : Nat) : State :=
  let c := s.pmc.cnt.get i ⟨0, false⟩
  let n := c.count + k
  { s with pmc := { s.pmc with cnt := s.pmc.cnt.set i ⟨n % 2 ^ 48, c.ovf || decide (2 ^ 48 ≤ n)⟩ } }

/-- The counters `lo` to `hi` that a write has enabled for event `sel` (R353, R354). -/
def State.pmcHits (s : State) (lo hi sel : Nat) : List Nat :=
  s.force.filterMap fun (a, v) =>
    let i := (a - RegName.PMC_CNT.geo.base) / 4
    if RegName.PMC_CNT.geo.base ≤ a ∧ lo ≤ i ∧ i ≤ hi ∧ i < 1024 ∧ bitOn v 31 ∧ bits v 7 0 = sel
    then some i else none

/-- `k` occurrences of event `sel` of the block with counters `lo` to `hi` (R354). -/
def State.pmcEv (s : State) (lo hi sel : Nat) (k : Nat := 1) : State :=
  (s.pmcHits lo hi sel).foldl (fun t i => t.pmcOne i k) s

/-- An event of the time blocks: event number and object. -/
def State.pmcTime (s : State) (ev obj : Nat) (k : Nat := 1) : State := s.pmcEv 0 63 (ev * 32 + obj % 32) k
/-- An event of sequencer n. -/
def State.pmcSeq (s : State) (n ev : Nat) (k : Nat := 1) : State :=
  s.pmcEv (128 + 64 * cluOf n) (191 + 64 * cluOf n) (n % 16 * 16 + ev) k
/-- An event of port p. -/
def State.pmcEth (s : State) (p ev : Nat) (k : Nat := 1) : State :=
  s.pmcEv (768 + 16 * p) (783 + 16 * p) ev k

/-! ### Faults as the recorder and the bus see them (R341) -/

/-- A source is active (R341). -/
def State.srcActive (s : State) (k : Nat) : Bool :=
  (s.fsrc k).cond || match (s.fsrc k).last with
    | none => false
    | some t => decide (s.gau.l < t + 1000000000)

/-- AUD, ETH and STL are stopped as in HALT: in HALT, and from a bind-off on (R343, R389). -/
def State.quiet (s : State) : Bool := s.flt.halt || decide (s.cast_.bind ≠ 0)

/-- FLT_STAT.LEVEL (R341). -/
def State.level (s : State) : Nat :=
  if s.flt.halt then 4
  else if s.flt.relinq then 3
  else ((List.range 32).filter s.srcActive).foldl (fun m k => max m (s.fsrc k).eff) 0

/-! ### The recorder (R348 to R351) -/

/-- The bytes of unit u as R351 lays them out. -/
def State.unitBytes (s : State) (u : Nat) : List Byte :=
  let h := s.rcd.units.get u RecUnit.clear
  bytesLE 4 (s.inForce .REC_UNIT u) ++ bytesLE 4 (s.inForce .REC_UNIT_LO u)
    ++ bytesLE 4 (wrapTo 32 h.min).toNat ++ bytesLE 4 (wrapTo 32 h.max).toNat
    ++ bytesLE 8 h.minGns ++ bytesLE 8 h.maxGns
    ++ (List.range 32).flatMap fun b => bytesLE 4 (h.bins.get b 0)

/-- A recorder event (R348, R349). -/
def State.recEvent (s : State) (code arg : Nat) : State :=
  let cnt := (s.rcd.count.get code 0 + 1) % 2 ^ 48
  let s1 := { s with rcd := { s.rcd with count := s.rcd.count.set code cnt } }
  let cfg := s.inForce .REC_CODE code
  let minint := bits cfg 15 0
  let rested : Bool := match s.rcd.lastTrig.get code 0 with
    | 0 => true
    | t => decide (t - 1 + minint * 1000000 ≤ s.gns)
  if bitOn cfg 31 ∧ (minint = 0 ∨ rested) then
    if s1.rcd.bufs.length < 4 then
      let r : RecRecord := {
        seq := 0, code := code, arg := arg % 2 ^ 32, gfr := s.gfr, gns := s.gns, bound := s.busBound,
        state := s.busSt.code, level := s.level, count := cnt,
        supp := s1.hwOf .REC_CODE_SUPP code, units := (List.range 12).flatMap s.unitBytes, mark := false }
      { s1 with
        rcd := { s1.rcd with
          bufs := s1.rcd.bufs ++ [r]
          lastTrig := s1.rcd.lastTrig.set code (s.gns + 1) }
        hw := s1.hw.set (RegName.REC_CODE_SUPP.addr code) 0 }
    else (s1.bump .REC_CODE_SUPP 15 0 1 code).bump .REC_STAT 15 0
  else s1.bump .REC_CODE_SUPP 15 0 1 code

/-- One histogram unit takes a sample (R350). -/
def takeSample (h : RecUnit) (v : Int) (lo : Int) (shift gns : Nat) : RecUnit :=
  let w := satTo 32 v
  let b := (max 0 (min 31 (Int.fdiv (w - lo) (2 ^ shift : Nat)))).toNat
  let isMin := !h.any || decide (w < h.min)
  let isMax := !h.any || decide (h.max < w)
  { any := true
    min := if isMin then w else h.min
    max := if isMax then w else h.max
    minGns := if isMin then gns else h.minGns
    maxGns := if isMax then gns else h.maxGns
    bins := h.bins.set b (satAdd 0xFFFFFFFF (h.bins.get b 0) 1) }

/-- The units that watch measure `meas` for object `arg` sample `v` (R350); no unit samples while the core
is off. -/
def State.sample (s : State) (meas arg : Nat) (v : Int) : State :=
  if s.coreOn then
    (List.range 12).foldl (fun t u =>
      let cfg := t.inForce .REC_UNIT u
      if bits cfg 31 24 = meas ∧ bits cfg 15 0 = arg then
        let h := takeSample (t.rcd.units.get u RecUnit.clear) v (sext 32 (t.inForce .REC_UNIT_LO u))
          (bits cfg 20 16) t.gns
        { t with rcd := { t.rcd with units := t.rcd.units.set u h } }
      else t) s
  else s

/-! ### Messages to sequencers (R159, R160) -/

/-- The words a list of messages takes. -/
def inboxWords (l : List Msg) : Nat := (l.map fun m => 1 + m.pay.length).sum

/-- The size of an inbox (R160). -/
def inboxCap (port : Nat) : Nat := if port = 14 then 256 else 512

/-- There is room for the message in the inbox of sequencer n. -/
def State.room (s : State) (n port : Nat) (m : Msg) : Bool :=
  decide (inboxWords ((s.sq n).inbox.get port []) + 1 + m.pay.length ≤ inboxCap port)

/-- Sequencer n takes messages. -/
def State.listens (s : State) (n : Nat) : Bool :=
  match (s.sq n).st with
  | .stopped | .fenced => false
  | _ => true

/-- A waiting sequencer resumes behind its WAITT with T as given (R154). -/
def wakeSeq (q : Seq) (t : Bool) : Seq := { q with st := .running, wait := none, pc := (q.pc + 4) % 2 ^ 14, t := t }

/-- An arriving message ends a wait whose mask names its port (R154). -/
def State.wakeFor (s : State) (n port : Nat) : State :=
  match (s.sq n).wait with
  | none => s
  | some (t, mask) => if bitOn mask port then s.setSq n (wakeSeq (s.sq n) (s.due40 t)) else s

/-- A message goes to an inbox of sequencer n (R160). While the inbox is full it waits at the hub, in order,
behind the messages the inbox holds. -/
def State.deliver (s : State) (n port : Nat) (m : Msg) : State :=
  if s.listens n then
    let q := s.sq n
    ((s.setSq n { q with inbox := q.inbox.set port (q.inbox.get port [] ++ [m]) }).wakeFor n port).pmcSeq n 9
  else s.bump .SEQ_ERR 15 0 1 n

/-- A STEPRES message to the sequencer that issued a request, if one did (R156, R161). -/
def State.stepRes (s : State) (by_ : Option Nat) (code seq t : Nat) : State :=
  match by_ with
  | none => s
  | some n => s.deliver n 0 ⟨0x08, code, w32 seq :: wordsOf 2 t⟩

/-! ### What waits for an answer (R363, R368, R390) -/

/-- DMA queue q. -/
def State.dq (s : State) (q : Nat) : Dma := s.hst.dma.get q Dma.reset
/-- DMA queue q becomes `x`. -/
def State.setDq (s : State) (q : Nat) (x : Dma) : State := { s with hst := { s.hst with dma := s.hst.dma.set q x } }

/-- A descriptor in progress gets its result (R363). -/
def State.dmaResult (s : State) (q id : Nat) (r : Nat × Nat × Nat) : State :=
  let x := s.dq q
  s.setDq q { x with flight := x.flight.map fun f =>
    if f.id = id ∧ f.result.isNone then { f with result := some r } else f }

/-- A response: SEQ, STATUS, LEN and payload (R368). -/
def sbdResponse (seq status : Nat) (pay : List Byte) : List Byte :=
  bytesLE 1 seq ++ bytesLE 1 status ++ bytesLE 2 pay.length ++ pay

/-- A response goes out; a controller on I3C is told (R367). -/
def State.sbdSend (s : State) (seq status : Nat) (pay : List Byte) : State :=
  (s.send (.sbd (sbdResponse seq status pay))).ibi 1

/-- The request at the head of Warden's mailbox queue is answered: the response appears with vector 16 (R365). -/
def State.mbxAnswer (s : State) (status : Nat) (pay : List Byte) : State :=
  match s.hst.mbx with
  | [] => s
  | h :: r => ({ s with hst := { s.hst with
      mbx := r, began := false, rsp := some (sbdResponse (leNat (h.take 1)) status pay) } } : State).irq 16

/-- The command that waits for the end of its operation is answered on the path it came by (R365, R390): STATUS 0 OK, 4
REFUSED. -/
def State.sbdEnds (s : State) (org : Origin) (cmd status : Nat) (pay : List Byte) : State :=
  match org with
  | .sideband => match s.sbd.owes with
    | some (q, c) =>
      if c = cmd then ({ s with sbd := { s.sbd with owes := none } } : State).sbdSend q status pay else s
    | none => s
  | .host => if s.hst.began then s.mbxAnswer status pay else s
  | _ => s

end Sys2Proof.Machine
end

