-- ==== Sys2Proof/Machine/Gauge.lean ====
section
/-! DEFINITION. The Gauge and holdover (chapters 2 and 4, R36 to R60, R84 to R89): its arithmetic, its states,
slew and step, the step guard, BOUND and what is derived from it. -/

namespace Sys2Proof.Machine

/-! ### Arithmetic (R37, R38, R43) -/

/-- SLEW_MAX in force, held to its limits (GAU_SLEW_MAX). -/
def State.slewMax (s : State) : Nat := max 1100 (min 219902326 (s.inForce .GAU_SLEW_MAX))

/-- What one edge consumes of a remainder (R37). -/
def State.slewPart (s : State) (rem : Int) : Int :=
  if s.on .GAU_CTL 4 then
    if rem < 0 then -(min rem.natAbs s.slewMax : Nat) else (min rem.natAbs s.slewMax : Nat)
  else 0

/-- The increment of an edge with slew part `sl` (R37). -/
def State.incOf (s : State) (sl : Int) : Int := (s.inForce .GAU_INC : Int) + s.gau.fadj + s.hld.age + sl

/-- The range of FADJ and of INC about 2^40 (R38). -/
def fadjMax : Int := 549755814

/-- The operand of a frequency change is in range (R38). -/
def fadjOk (f : Int) : Bool := decide (-fadjMax ≤ f ∧ f ≤ fadjMax)

/-- GAU_INC accepts the value (R38). -/
def incOk (v : Nat) : Bool := fadjOk ((v : Int) - (2 ^ 40 : Nat))

/-- An amount in 2^-32 ns in units of 2^-40 ns. -/
def fine (a : Int) : Int := a * 256

/-- The 104-bit accumulator `g` moved by `d` (R36, R37). -/
def accOfSum (g : Nat) (d : Int) : Nat := ((g : Int) + d).toNat % 2 ^ 104

/-- The REM that step `d` starts its edge with (R43). -/
def State.stepRem (s : State) (d : Sched) : Int := if d.clr then 0 else s.gau.rem

/-- The next edge is the step edge of the scheduled step (R43). -/
def State.stepNext (s : State) : Bool :=
  match s.gau.sched with
  | none => false
  | some d => decide (d.t ≤ (accOfSum s.gau.g (s.incOf (s.slewPart (s.stepRem d)))) / 2 ^ 40)

/-! ### Quality values (R55 to R57) -/

/-- The first class table entry that meets the state and the BOUND (R56). -/
def classFrom (s : State) : Nat → Nat → Nat
  | 0, _ => s.fl .GAU_CLASS_CFG 7 0
  | f + 1, k =>
    if bitOn (s.fl .GAU_CLASS_VAL 10 8 k) s.busSt.code ∧ s.busBound ≤ s.inForce .GAU_CLASS_TH k then
      s.fl .GAU_CLASS_VAL 7 0 k
    else classFrom s f (k + 1)

/-- clockClass (R56), from the BOUND and the state of the Gauge bus. -/
def State.clockClass (s : State) : Nat := classFrom s 8 0

/-- The table of R57: the largest BOUND of each row and its value. -/
def accTable : List (Nat × Nat) := [
  (0, 0x17), (1, 0x1B), (4, 0x1C), (16, 0x1D), (40, 0x1E), (160, 0x1F), (400, 0x20), (1600, 0x21),
  (4000, 0x22), (16000, 0x23), (40000, 0x24), (160000, 0x25), (400000, 0x26), (1600000, 0x27),
  (4000000, 0x28), (16000000, 0x29), (40000000, 0x2A), (160000000, 0x2B), (400000000, 0x2C),
  (1600000000, 0x2D), (4000000000, 0x2E), (0xFFFFFFFE, 0x2F)]

/-- The value of R57's table for a BOUND. -/
def accOf (b : Nat) : List (Nat × Nat) → Nat
  | [] => 0xFE
  | (m, v) :: r => if b ≤ m then v else accOf b r

/-- clockAccuracy (R57). -/
def State.clockAcc (s : State) : Nat :=
  match accOf s.busBound accTable with
  | 0xFE => 0xFE
  | v => max v (s.fl .GAU_CLASS_CFG 15 8)

/-! ### Published offsets (R74) and witnesses (R48) -/

/-- The candidate's type is TIME (R61). -/
def State.isTime (s : State) (k : Nat) : Bool :=
  if k < 8 then s.on .SEL_CFG 29 k else decide (candType k = 1 ∧ k < 31)

/-- The candidate is of type FREQ. -/
def State.isFreq (s : State) (k : Nat) : Bool := decide (k < 31) && !s.isTime k

/-- The candidate's independence group (R63). -/
def State.igrp (s : State) (k : Nat) : Nat := s.fl .SEL_CFG 27 24 k

/-- The post of candidate k is published: POSTV (R74, R72). -/
def State.published (s : State) (k : Nat) : Bool :=
  decide ((s.cand k).st = .qual) && match (s.cand k).post with
    | none => false
    | some p => decide (k = 30)
        || decide ((s.g32 : Int) - p.meas ≤ (s.fl .SEL_SPAN 31 16 * 1000000 * 2 ^ 32 : Nat))

/-- The published offset of candidate k. -/
def State.offset (s : State) (k : Nat) : Int := ((s.cand k).post.map Post.delta).getD 0

/-- Candidate k is a witness for a source candidate and its group (R48, R63). With no source candidate every
group but 0 differs from it. -/
def State.witness (s : State) (src : Option Nat) (grp k : Nat) : Bool :=
  s.isTime k && s.published k && decide (s.igrp k ≠ 0) && match src with
    | none => true
    | some c => decide (k ≠ c ∧ s.igrp k ≠ grp)

/-- A witness agrees with an amount in 2^-32 ns (R48, R50). -/
def State.agrees (s : State) (src : Option Nat) (grp : Nat) (amt : Int) : Bool :=
  (List.range 31).any fun k => s.witness src grp k
    && decide ((s.offset k - amt).natAbs ≤ s.inForce .GAU_STEP_AGREE * 2 ^ 32)

/-- The source candidate of a correction: the selected one, or the target of a transaction (R48). DESIGN CHOICE: where there are both,
it is the selected one, which the spec's "or" leaves open (log 121). -/
def State.source (s : State) : Option Nat :=
  match s.sel.sel with
  | some k => some k
  | none => s.sel.txn.map Txn.target

/-- The group of a source candidate. -/
def State.sourceGrp (s : State) : Nat := (s.source.map s.igrp).getD 0

/-! ### The guard (R46 to R50) -/

/-- The guard keeps its prediction (R46). -/
def State.guarded (s : State) : Bool :=
  s.gau.guardOn && s.on .GAU_CTL 8 && decide (s.gau.st ≠ .freeRun)

/-- D, in 2^-40 ns. -/
def State.dev (s : State) : Int := s.gau.g - s.gau.p

/-- The amount of the scheduled step, in 2^-40 ns. -/
def State.schedAmt (s : State) : Int := (s.gau.sched.map fun d => fine d.amt).getD 0

/-- O, in 2^-40 ns (R46). -/
def State.outstanding (s : State) : Int := s.gau.rem + s.schedAmt

/-- STEP_CONFIRM in 2^-40 ns. -/
def State.confirm (s : State) : Nat := s.inForce .GAU_STEP_CONFIRM * 2 ^ 40

/-- The window restarts (R46). -/
def State.restart (s : State) : State :=
  { s with gau := { s.gau with
    guardOn := true
    p := s.gau.g + s.outstanding
    pRate := (s.inForce .GAU_INC : Int) + s.gau.fadj
    fix := s.gau.fadj } }

/-- The status of a request (GAU_STEP_STAT.CODE), reported to its issuer with the number it was held under, if it was
(R156, R161). -/
def State.status (s : State) (by_ : Option Nat) (code t : Nat) (num : Nat := 0) : State :=
  ({ s with gau := { s.gau with stepCode := code } } : State).stepRes by_ code num t

/-- The scheduled step, if any, is taken off with a status. -/
def State.dropSched (s : State) (code : Nat) : State :=
  match s.gau.sched with
  | none => s
  | some d => ({ s with gau := { s.gau with sched := none } } : State).status d.by_ code d.t d.num

/-- The held correction, if any, is taken off with a status. -/
def State.dropHeld (s : State) (code : Nat) : State :=
  match s.gau.held with
  | none => s
  | some h => ({ s with gau := { s.gau with held := none } } : State).status h.by_ code h.t h.num

/-- The limit of REM (R41). -/
def remMax : Nat := 2 ^ 71 - 1

/-- A step is scheduled; it replaces one scheduled before (R45). -/
def State.schedule (s : State) (d : Sched) : State :=
  let s1 := s.dropSched 12
  ({ s1 with gau := { s1.gau with sched := some d } } : State).status d.by_ 1 d.t d.num

/-- The first Gauge millisecond at least 2 µs ahead (R48). -/
def State.releaseT (s : State) : Nat := ceilDiv (s.gns + 2000 + (if s.gau.g % 2 ^ 40 = 0 then 0 else 1)) 1000000 * 1000000

/-- A held correction is released (R48) with a status. -/
def State.releaseHeld (s : State) (code : Nat) : State :=
  match s.gau.held with
  | none => s
  | some h =>
    let s0 : State := { s with gau := { s.gau with held := none } }
    if h.step then
      let s1 := s0.dropSched 12
      let s2 : State := { s1 with gau := { s1.gau with sched := some ⟨s.releaseT, h.amt, h.clr, h.by_, h.num⟩ } }
      (s2.status h.by_ code s.releaseT h.num).restart
    else if (s.gau.rem + fine h.amt).natAbs > remMax then s0.status h.by_ 9 h.t h.num
    else
      let s1 : State := { s0 with gau := { s0.gau with rem := s0.gau.rem + fine h.amt } }
      (s1.status h.by_ code h.t h.num).restart

/-- The witness test of a held correction, made at every edge (R48). -/
def State.witnessTest (s : State) : State :=
  match s.gau.held with
  | none => s
  | some h => if s.agrees h.src h.grp h.amt then s.releaseHeld 5 else s

/-- A correction is held (R47); a witness that already agrees releases it at once (R48). -/
def State.hold (s : State) (step : Bool) (amt : Int) (clr : Bool) (by_ : Option Nat) (t : Nat) : State :=
  let h : Held := ⟨step, amt, clr, s.source, s.sourceGrp, by_, t, s.gau.l, (s.gau.stepSeq + 1) % 2 ^ 16⟩
  let s1 : State :=
    { s with gau := { s.gau with held := some h, stepSeq := h.num } }
  (s1.status by_ 4 t h.num).witnessTest

/-- The guard holds a correction of `amt` with outstanding correction `o` (R47). -/
def State.guardHolds (s : State) (o amt : Int) : Bool :=
  s.guarded && decide ((s.dev + o + fine amt).natAbs > s.confirm)

/-- A slew request that is not refused: held or added to REM (R41, R47). -/
def State.takeSlew (s : State) (amt : Int) (by_ : Option Nat) (t : Nat) : State :=
  if s.guardHolds s.outstanding amt then s.hold false amt false by_ t
  else ({ s with gau := { s.gau with rem := s.gau.rem + fine amt } } : State).status by_ 3 t

/-- The refusal of a slew request, if any (R41, R42). -/
def State.judgeSlew (s : State) (amt : Int) : Code :=
  if s.gau.breach then .breach
  else if s.gau.held.isSome then .refusedHeld
  else if (s.gau.rem + fine amt).natAbs > remMax then .range
  else .none

/-- The status a refused request takes (GAU_STEP_STAT.CODE). -/
def statusOfCode : Code → Nat
  | .late => 8
  | .range => 9
  | .refusedHeld => 10
  | .breach => 14
  | .auditBusy | .auditFull | .wardenDown => 15
  | _ => 9

/-- |S| ≤ STEP_MIN: the request is slewed (R44). -/
def State.smallStep (s : State) (amt : Int) : Bool := decide (amt.natAbs ≤ s.inForce .GAU_STEP_MIN * 2 ^ 32)

/-- The refusal of a step request, if any, in the order of R42's table, and for a small one that of the slew request that it is taken
as (R44). DESIGN CHOICE: the stepped Gauge of the RANGE test is T + S; by what part of an increment the step edge will lie past T is not
known at the release (log 122). -/
def State.judgeStep (s : State) (t : Nat) (amt : Int) : Code :=
  if ((t * 2 ^ 40 : Nat) : Int) - s.gau.g < (2000 * 2 ^ 40 : Nat) then .late
  else if ((t * 2 ^ 40 : Nat) : Int) - s.gau.g > (16000000000 * 2 ^ 40 : Nat) then .range
  else if ((t * 2 ^ 32 : Nat) : Int) + amt < 0 ∨ ((t * 2 ^ 32 : Nat) : Int) + amt > (2 ^ 96 : Nat) then .range
  else if s.gau.held.isSome then .refusedHeld
  else if s.gau.breach then .breach
  else if s.smallStep amt then s.judgeSlew amt
  else .none

/-- An accepted step request: slewed, held or scheduled (R44, R45, R47). DESIGN CHOICE: a small one, which R44 takes as a slew request,
leaves a scheduled step in place (log 123). -/
def State.takeStep (s : State) (t : Nat) (amt : Int) (clr : Bool) (by_ : Option Nat) : State :=
  if s.smallStep amt then s.takeSlew amt by_ t
  else if s.guardHolds (if clr then 0 else s.gau.rem) amt then s.hold true amt clr by_ t
  else s.schedule ⟨t, amt, clr, by_, 0⟩

/-! ### Holdover (R84 to R89) -/

/-- The seconds that R84 averages: none where it takes FADJ. -/
def State.frozenSecs (s : State) : List (Int × Option Int) :=
  let n := s.hld.hist.length
  let lag := s.fl .HLD_AVG 9 0
  if s.fl .HLD_CTL 0 0 = 0 ∨ n ≤ lag then [] else (s.hld.hist.drop lag).take (s.fl .HLD_AVG 25 16)

/-- F_z (R84). -/
def State.frozen (s : State) : Int :=
  match s.frozenSecs with
  | [] => s.gau.fadj
  | l => truncDiv (l.map Prod.fst).sum l.length

/-- ATOM_PPS is present (R87). -/
def State.atomV (s : State) : Bool :=
  match s.hld.atomAt with
  | none => false
  | some t => decide (s.gau.l ≤ t + 1500000000)

/-- HLD_ATOM_REF is latched at entry, or marked invalid (R87). -/
def State.latchAtom (s : State) : State :=
  match s.frozenSecs with
  | [] =>
    { s with hld := { s.hld with
      atomRef := if s.atomV then s.hld.atomPh else s.hld.atomRef
      atomRefV := s.atomV } }
  | l =>
    if l.all fun p => p.2.isSome then
      { s with hld := { s.hld with
        atomRef := truncDiv (l.filterMap Prod.snd).sum l.length
        atomRefV := true } }
    else { s with hld := { s.hld with atomRefV := false } }

/-- Ageing may run in HOLDOVER (R85). -/
def State.ageable (s : State) : Bool := s.sel.fsel.isNone || s.on .HLD_CTL 8

/-- Ageing starts: m is 0 (R85). -/
def State.ageStart (s : State) : State :=
  if s.hld.ageing then s else { s with hld := { s.hld with ageing := true, m := 0, age := 0, ageSat := false } }

/-- Ageing stops: AGE is folded into FADJ (R86). -/
def State.ageFold (s : State) : State :=
  if s.hld.ageing then
    let f := s.gau.fadj + s.hld.age
    let s1 : State := { s with
      gau := { s.gau with fadj := max (-fadjMax) (min fadjMax f) }
      hld := { s.hld with ageing := false, m := 0, age := 0, ageSat := false } }
    if fadjOk f then s1 else s1.setHw .HLD_STAT 0 0 1
  else s

/-- Ageing starts or stops as R85 and R86 say after a change of the frequency selection or of AGE_FSEL. -/
def State.ageCheck (s : State) : State :=
  if s.gau.st = .holdover then if s.ageable then s.ageStart else s.ageFold else s

/-- The limit of AGE (R85). -/
def ageMax : Int := 109951163

/-- AGE is computed again (R85). -/
def State.ageUpdate (s : State) (m : Nat) : State :=
  let a := truncDiv (sext 32 (s.inForce .HLD_AGE) * m) 921600000
  { s with hld := { s.hld with
    m := m
    age := max (-ageMax) (min ageMax a)
    ageSat := decide (a < -ageMax ∨ ageMax < a) } }

/-- The model in force (R88). -/
def State.model (s : State) : Nat := if s.sel.fsel.isSome then 1 else 0

/-- G(n) in 1/16 ns (R54). -/
def growth (fu au n : Nat) : Nat :=
  ceilDiv (fu * n * 10 ^ 6 * 2 ^ 4 * 9 + au * n * n * 20) (9 * 2 ^ 48)

/-- BOUND in HOLDOVER (R54). -/
def State.hoBound (s : State) : Nat :=
  if s.gau.n = 2 ^ 32 - 1 then 0xFFFFFFFF
  else min 0xFFFFFFFF (s.gau.bh
    + growth (s.inForce .HLD_MODEL_FU s.model) (s.inForce .HLD_MODEL_AU s.model) s.gau.n)

/-- The model is rebased (R89). -/
def State.rebase (s : State) : State :=
  if s.gau.st = .holdover then { s with gau := { s.gau with bh := s.gau.bound, n := 0 } } else s

/-- The effects of a change of the frequency selection on holdover (R85, R86, R89). -/
def State.fselEffects (old : Option Nat) (s : State) : State :=
  (if old.isSome = s.sel.fsel.isSome then s else s.rebase).ageCheck

/-! ### Gauge states (R39, R40, R53, R54) -/

/-- The recorder event of a Gauge state change (R348); the bus shows the new state from the next latch on. -/
def State.stateEvent (s : State) : State :=
  s.recEvent 0x01 (s.gau.st.code + (if s.gau.st = .holdover then s.gau.cause else 0) * 4)

/-- Entry into HOLDOVER with a cause (R40, R84, R50). -/
def State.enterHoldover (s : State) (cause : Nat) : State :=
  let f := if cause = 5 then s.gau.fix else s.frozen
  let s1 := s.latchAtom
  let s2 : State := { s1 with
    gau := { s1.gau with
      st := .holdover, cause := cause, fadj := f, bh := s1.gau.bound, n := 0
      rem := if cause = 2 ∨ cause = 3 then 0 else s1.gau.rem }
    hld := { s1.hld with frz := f, whole := false } }
  let s3 := if cause = 2 ∨ cause = 3 then s2.dropSched 13 else s2
  (if s3.ageable then s3.ageStart else s3).stateEvent

/-- A qualified time-bearing candidate is selected (R39). -/
def State.timeSelected (s : State) : Bool :=
  match s.sel.sel with
  | none => false
  | some k => s.isTime k && decide ((s.cand k).st = .qual)

/-- Entry into LOCKED with BOUND b (R39, R53, R46, R86). -/
def State.enterLocked (s : State) (b : Nat) : State :=
  let s1 := s.ageFold
  let s2 : State := { s1 with
    gau := { s1.gau with st := .locked, bound := b }
    hld := { s1.hld with hist := [], sum := 0, whole := false } }
  (if s.gau.st = .freeRun then s2.restart else s2).stateEvent

/-- A GBND of sequencer n (R39, R53, R54). DESIGN CHOICE: LOCK_REF stays at 0xFFFF once it has reached it (log 120). -/
def State.gbnd (s : State) (n b : Nat) (lock : Bool) : State :=
  let s1 : State := { s with gau := { s.gau with hbAt := s.gau.l, lastBnd := some n } }
  match s.gau.st, lock with
  | .freeRun, false => s1
  | .locked, true => { s1 with gau := { s1.gau with bound := b } }
  | .locked, false => ({ s1 with gau := { s1.gau with bound := b } } : State).enterHoldover 4
  | st, l =>
    if l ∧ s.timeSelected ∧ ¬ s.gau.breach then s1.enterLocked b
    else
      let s2 := if l then s1.bump .GAU_STATE 31 16 else s1
      if st = .holdover ∧ s.gau.bound < b then
        { s2 with gau := { s2.gau with bh := s.gau.bh + (b - s.gau.bound), bound := b } }
      else s2

/-- SEL reports no selected, qualified, time-bearing candidate: LOCKED ends with cause 1 (R39). -/
def State.noRef (s : State) : State :=
  if s.gau.st = .locked ∧ ¬ s.timeSelected then s.enterHoldover 1 else s

/-- The sequencer that issued the last GBND is fenced (R39). -/
def State.servoFenced (s : State) (n : Nat) : State :=
  if s.gau.st = .locked ∧ s.gau.lastBnd = some n then s.enterHoldover 3 else s

/-- |D + O| exceeds STEP_CONFIRM while no correction is held but one that this edge has held (R50). -/
def State.breachNow (s : State) : Bool :=
  s.guarded && s.gau.held.all (fun h => decide (h.at_ = s.gau.l)) && !s.gau.breach
    && decide ((s.dev + s.outstanding).natAbs > s.confirm)

/-- A breach closes with a status (R50). -/
def State.closeBreach (s : State) (code : Nat) : State :=
  ({ s with gau := { s.gau with breach := false, stepCode := code } } : State).restart

/-- GAU_GUARD_DEV: D while the guard keeps it, else 0 (R46). -/
def State.guardDev (s : State) : Int := if s.guarded then s.dev else 0

/-- The guard's window restart at a t_sec is due (R46). -/
def State.windowDue (s : State) : Bool :=
  s.guarded && s.atSec && decide (s.gns / 1000000000 % s.fl .GAU_GUARD 15 0 = 0)
    && s.gau.held.isNone && !s.gau.breach

/-! ### The G-clock edge (R37, R46, R92) -/

/-- A magnitude moves toward 0 by at most `r`. -/
def pull (o : Int) (r : Nat) : Int :=
  if o < 0 then o + (min o.natAbs r : Nat) else o - (min o.natAbs r : Nat)

/-- rB and rC (R92). -/
def State.rateB (s : State) : Nat := max 1 (s.fl .OUT_GRPB 15 0) * 2 ^ 40 / 10 ^ 9
def State.rateC (s : State) : Nat := max 1 (min 100000 (s.fl .OUT_GRPC 16 0)) * 2 ^ 40 / 10 ^ 9

/-- The Gauge, the local time, the lane scale, the prediction and FADJ's sum advance by one edge with slew part `sl`; `rem`
is what REM holds at its start (R19, R37, R46). -/
def State.advance (s : State) (rem sl : Int) : State :=
  { s with
    gau := { s.gau with
      l := s.gau.l + 1
      tl := s.gau.tl + (s.incOf sl).toNat
      prev := some s.gau.g
      g := accOfSum s.gau.g (s.incOf sl)
      rem := rem - sl
      p := s.gau.p + s.gau.pRate + s.hld.age }
    hld := { s.hld with sum := s.hld.sum + s.gau.fadj }
    out := { s.out with ptc := some s.tc, bJump := false }
    fired := [] }

/-- The pulls of O_B and O_C at an edge (R92). -/
def State.pulls (s : State) : State :=
  { s with out := { s.out with ob := pull s.out.ob s.rateB, oc := pull s.out.oc s.rateC } }

end Sys2Proof.Machine
end

