-- ==== Sys2Proof/Machine/AuditLog.lean ====
section
/-! DEFINITION. The audit log (R305 to R312): records, the chain of LINKs, the ring, the reserved area, and
the GAP record. -/

namespace Sys2Proof.Machine

/-- Bytes 0 to 23 of a record (R307). -/
def recHead (r : LogRec) : List Byte :=
  bytesLE 8 r.gns ++ bytesLE 4 r.addr ++ bytesLE 4 r.old ++ bytesLE 4 r.new
    ++ bytesLE 4 (r.kind % 16 * 2 ^ 28 + bit1 r.applied 27 + bit1 r.cont.isSome 26 + bit1 r.rsv 25
        + bit1 r.deferred 24 + r.origin % 256 * 2 ^ 16 + r.code % 256 * 2 ^ 8 + r.seq % 256)

/-- The 32 bytes of a record's first slot (R307). -/
def recBytes (r : LogRec) : List Byte := recHead r ++ bytesLE 8 r.link

/-- LINK_n (R310). -/
def linkOf (prev : Nat) (r : LogRec) : Nat :=
  leNat ((Config.sha256 (bytesLE 8 prev ++ recHead r ++ r.cont.getD [])).take 8)

/-- A record before it has its number and LINK. -/
def State.mkRec (s : State) (kind addr old new : Nat) (org : Origin) (code : Code) (deferred : Bool := false)
    (cont : Option (List Byte) := none) : LogRec :=
  { gns := s.gns, addr := addr % 2 ^ 32, old := old % 2 ^ 32, new := new % 2 ^ 32, kind := kind
    applied := decide (code = .none), rsv := false, deferred := deferred, origin := org.code
    code := code.num, seq := 0, cont := cont, link := 0 }

/-- LOG_STAT.USED (R311). -/
def State.logUsed (s : State) : Nat := (s.log.ring.map LogRec.slots).sum

/-- The slots of the ring (R311). -/
def ringSlots : Nat := 32768

/-- A record takes the next number and LINK (R310). -/
def State.numbered (s : State) (r : LogRec) : LogRec :=
  let r1 := { r with seq := s.log.seq + 1 }
  { r1 with link := linkOf s.log.link r1 }

/-- A record is written into the ring; LOG_WARN is raised while USED is at least the threshold (R311). -/
def State.place (s : State) (r : LogRec) : State :=
  let r1 := s.numbered r
  let s1 : State :=
    { s with log := { s.log with ring := s.log.ring ++ [r1], seq := r1.seq, link := r1.link } }
  if s1.inForce .LOG_WARN ≤ s1.logUsed then (s1.irq 18).ibi 3 else s1

/-- A GAP record is due (R305). -/
def State.gapDue (s : State) : Bool := decide (s.log.gapUnaud ≠ 0 ∨ s.log.gapFull ≠ 0)

/-- The GAP record is written and the counts clear (R305). -/
def State.placeGap (s : State) : State :=
  if s.gapDue then
    let s1 := s.place (s.mkRec 8 0 s.log.gapUnaud s.log.gapFull .warden .none)
    { s1 with log := { s1.log with gapUnaud := 0, gapFull := 0 } }
  else s

/-- The record has room in the ring together with a GAP record that must precede it (R305, R311). -/
def State.logRoom (s : State) (slots : Nat) : Bool :=
  decide (s.logUsed + slots + (if s.gapDue then 1 else 0) ≤ ringSlots)

/-- One more AUDIT_FULL refusal or dropped record (R305). -/
def State.countFull (s : State) : State :=
  { s with log := { s.log with gapFull := satAdd 0xFFFF s.log.gapFull 1 } }

/-- The record of an ordinary change: written, or the change is refused with AUDIT_FULL (R311). -/
def State.recordNormal (s : State) (r : LogRec) : Option State :=
  if s.logRoom r.slots then some (s.placeGap.place r) else none

/-- The lowest entry of the reserved area that is not in use. -/
def freeRsv (t : Tab LogRec) : Option Nat :=
  (List.range 64).find? fun e => !(t.any fun p => p.1 == e)

/-- The record of a LOG_ACK, RELINQUISH, ZEROIZE or bind-off: in the ring, else in the reserved area, else
counted (R311). A record in the reserved area has one slot. -/
def State.recordExempt (s : State) (r : LogRec) : State :=
  match s.recordNormal r with
  | some t => t
  | none => match freeRsv s.log.rsv with
    | some e =>
      let r1 := s.numbered { r with rsv := true, cont := none }
      { s with log := { s.log with rsv := s.log.rsv.set e r1, seq := r1.seq, link := r1.link } }
    | none => s.countFull

/-- A record made after its change (R306, R404): dropped and counted where it finds no room; owed while
Warden is down. -/
def State.recordDeferred (s : State) (r : LogRec) : State :=
  if s.warden.up then
    match s.recordNormal { r with gns := s.gns } with
    | some t => t
    | none => s.countFull
  else { s with log := { s.log with owed := s.log.owed ++ [r] } }

/-- Warden writes a GAP record that no record waits to follow (R305). -/
def State.gapAlone (s : State) : State :=
  if s.warden.up ∧ s.gapDue ∧ s.logUsed < ringSlots ∧ s.log.gate = [] then s.placeGap else s

/-- What Warden records when it starts: the GAP record if one is due, then the changes it owes (R306). -/
def State.recordOwed (s : State) : State :=
  let s1 := if s.gapDue ∧ s.logUsed < ringSlots then s.placeGap else s
  let l := s1.log.owed
  l.foldl (fun t r => t.recordDeferred r) { s1 with log := { s1.log with owed := [] } }

/-- The record that LOG_ACK names (R312). -/
def State.ackNamed (s : State) (seq link : Nat) : Option LogRec :=
  (s.log.ring ++ s.log.rsv.map Prod.snd).find? fun r => r.seq % 2 ^ 32 == seq && r.link == link

/-- LOG_HEAD: the next slot written (R311). -/
def State.logHead (s : State) : Nat := (s.log.tail + s.logUsed) % ringSlots

/-- The 32 bytes of slot `k` counted from the oldest unacknowledged record. -/
def slotBytes : List LogRec → Nat → List Byte
  | [], _ => []
  | r :: _, 0 => recBytes r
  | r :: rs, k + 1 =>
    match r.cont with
    | none => slotBytes rs k
    | some c => match k with
      | 0 => c
      | k' + 1 => slotBytes rs k'

end Sys2Proof.Machine
end

