-- ==== Sys2Proof/Machine/Select.lean ====
section
/-! DEFINITION. The reference selector (chapter 3, R61 to R82): observations, qualification, offsets,
selection and the switch transaction. -/

namespace Sys2Proof.Machine

/-! ### Eligibility and winners (R75 to R77) -/

/-- RANK of candidate k. -/
def State.rank (s : State) (k : Nat) : Nat := s.fl .SEL_CFG 23 20 k

/-- The candidate is locked out: by software, or as a twin candidate of an ACTIVE device (R75, R326). -/
def State.lockedOut (s : State) (k : Nat) : Bool :=
  s.on .SEL_CFG 30 k || (decide (s.twin.role = .active ∧ 26 ≤ k ∧ k < 30) && s.twinLink (k - 26))

/-- The candidate is in QUAL and not locked out, while SEL may select (R75). DEDUCED: with SEL_CTL.EN = 0 no candidate is eligible, so a
transaction in PREPARE ends then with ABANDON_LOST, as it does where no candidate is eligible (R80, log 124). -/
def State.inPlay (s : State) (k : Nat) : Bool :=
  s.on .SEL_CTL 0 && decide ((s.cand k).st = .qual) && !s.lockedOut k

/-- Eligible for time selection (R75). -/
def State.eligT (s : State) (k : Nat) : Bool := s.isTime k && s.inPlay k

/-- Eligible for frequency selection (R75). -/
def State.eligF (s : State) (k : Nat) : Bool := s.isFreq k && s.inPlay k

/-- The forced candidate of R76: the one SEL_FORCE names, or, while the device is STANDBY or PAIRING, that of
its lowest twin link that is UP; SEL_FORCE then has no effect (R326). -/
def State.forced (s : State) : Option Nat :=
  match s.twin.role, s.twinFirst with
  | .standby, some l | .pairing, some l => some (26 + l)
  | _, _ => if s.on .SEL_FORCE 31 then some (s.fl .SEL_FORCE 4 0) else none

/-- The candidate has been in QUAL for REVERT.HOLD seconds and selection is revertive (R77). -/
def State.mayRevert (s : State) (k : Nat) : Bool :=
  s.on .SEL_REVERT 16 && decide ((s.cand k).qualAt + s.fl .SEL_REVERT 15 0 * 1000000000 ≤ s.gau.l)

/-- The candidate is left out of the determination while `cur` is selected (R77). -/
def State.leftOut (s : State) (cur forced : Option Nat) (k : Nat) : Bool :=
  match cur with
  | none => false
  | some c => decide (forced ≠ some k) && decide (s.rank k < s.rank c) && !s.mayRevert k

/-- Candidate `a` goes before `b` by keys 2 to 5 of R76, with the incumbent `inc`. -/
def State.before (s : State) (inc : Option Nat) (a b : Nat) : Bool :=
  if s.rank a ≠ s.rank b then decide (s.rank a < s.rank b)
  else if inc = some a then true
  else if inc = some b then false
  else
    let ta := ((s.cand a).tdev.getD (2 ^ 32))
    let tb := ((s.cand b).tdev.getD (2 ^ 32))
    if ta ≠ tb then decide (ta < tb) else decide (a < b)

/-- The first of a list by R76's keys. -/
def State.best (s : State) (inc : Option Nat) : List Nat → Option Nat
  | [] => none
  | k :: ks => match s.best inc ks with
    | none => some k
    | some b => if s.before inc k b then some k else some b

/-- The time winner (R76, R77). -/
def State.winnerT (s : State) : Option Nat :=
  let inc := match s.sel.sel with
    | some k => some k
    | none => s.sel.txn.map Txn.target
  let f := s.forced
  let l := (List.range 31).filter fun k => s.eligT k && !s.leftOut s.sel.sel f k
  match f with
  | some k => if l.contains k then some k else s.best inc l
  | none => s.best inc l

/-- The frequency winner (R76, R77). DEDUCED: SEL_FORCE is a key of the time selection only, so no candidate of type FREQ is the forced
one that R77 exempts (log 125). -/
def State.winnerF (s : State) : Option Nat :=
  s.best s.sel.fsel ((List.range 31).filter fun k => s.eligF k && !s.leftOut s.sel.fsel none k)

/-! ### Transactions (R79 to R81) -/

/-- SERVO_TS. -/
def State.servoTs (s : State) : Nat := s.fl .SEL_CTL 27 24

/-- FROM with FROMV in bit 5 (R308, R161). -/
def fromWord (o : Option Nat) : Nat := match o with
  | none => 0
  | some k => 32 + k

/-- A transaction takes its outcome (R80, R81). -/
def State.outcome (s : State) (t : Txn) (code : Nat) : State :=
  ({ s with sel := { s.sel with txn := none, swCode := code } } : State).recEvent 0x0A (t.num + code * 2 ^ 16)

/-- The transaction in PREPARE, if any, is abandoned (R80). -/
def State.abandon (s : State) : State :=
  match s.sel.txn with
  | none => s
  | some t => s.outcome t (if s.eligT t.target then 3 else 4)

/-- A transaction starts with target `w`; SERVO_TS gets a PREPARE record (R80, R161). -/
def State.prepare (s : State) (w : Nat) : State :=
  let num := (s.sel.txnNum + 1) % 2 ^ 16
  let t : Txn := ⟨num, w, s.gau.l, ((s.gns * 2 ^ 32 : Nat) : Int), s.fl .SEL_CTL 21 16, none⟩
  let s1 : State := { s with sel := { s.sel with
    txn := some t, txnNum := num, swFrom := s.sel.sel, swTo := w, swCode := 1 } }
  s1.deliver s.servoTs 1 ⟨0x18, w, w32 num :: wordsOf 2 s.gns⟩

/-- DISPUTED of every candidate of the type whose selection changes clears: the time selection's, or with `freq` the frequency
selection's (R78). -/
def State.clearDisputes (s : State) (freq : Bool) : State :=
  { s with sel := { s.sel with cands := s.sel.cands.map fun p =>
      (p.1, { p.2 with disputed := p.2.disputed && (s.isTime p.1 == freq) }) } }

/-- A SELECT record's ADDR: candidate, 1 for frequency, and the kind of change (R308). -/
def selectAddr (k : Nat) (freq : Bool) (kind : Nat) : Nat := k + bit1 freq 8 + kind * 2 ^ 12

/-- A selected candidate that is no longer eligible is deselected at once (R79). -/
def State.deselect (s : State) : State :=
  match s.sel.sel with
  | none => s
  | some k =>
    if s.eligT k then s
    else
      let s1 : State := { s with sel := { s.sel with sel := none } }
      ((s1.clearDisputes false).recordDeferred
        (s.mkRec 5 (selectAddr k false 1) (fromWord (some k)) 0 .hardware .none true)).noRef

/-- The loss of the frequency selection takes effect at once (R79). -/
def State.deselectF (s : State) : State :=
  match s.sel.fsel with
  | none => s
  | some k =>
    if s.eligF k then s
    else
      let s1 : State := { s with sel := { s.sel with fsel := none } }
      ((s1.clearDisputes true).recordDeferred
        (s.mkRec 5 (selectAddr k true 3) (fromWord (some k)) 0 .hardware .none true)).fselEffects s.sel.fsel

/-- A change as it arrives at the write gate. -/
def State.entry (s : State) (ch : Change) (org : Origin) (ownerOk : Bool := true) : GateEntry where
  ch := ch
  org := org
  ownerOk := ownerOk
  at_ := s.wt
  recorded := none
  apply := none
  gauge := s.g32
  cand30 := decide ((s.cand 30).st ≠ .off)

/-- A change waits in the write gate. -/
def State.enqueue (s : State) (ch : Change) (org : Origin) : State :=
  { s with log := { s.log with gate := s.log.gate ++ [s.entry ch org] } }

/-- A change of the frequency winner is submitted to the write gate (R79); while Warden is down it is refused there (R35). -/
def State.requestF (s : State) : State :=
  match s.winnerF with
  | none => s
  | some w =>
    if s.sel.fsel = some w ∨ s.sel.fselPend = some w then s
    else if s.warden.down then { s with log := { s.log with gapUnaud := satAdd 0xFFFF s.log.gapUnaud 1 } }
    else ({ s with sel := { s.sel with fselPend := some w } } : State).enqueue (.fsel w) .hardware

/-- The time winner is compared with the selection and the target: where it differs from both, the transaction in PREPARE is abandoned
and one with the winner as its target starts; where no candidate is eligible the transaction is abandoned (R80). -/
def State.requestT (s : State) : State :=
  match s.winnerT with
  | none => s.abandon
  | some w =>
    if s.sel.sel = some w ∨ s.sel.txn.map Txn.target = some w then s else s.abandon.prepare w

/-- SEL determines the winners again, with the deselections first (R79, R82). An outcome after which SEL determines again only at the
next t_sec (R79, R81) is followed by no determination of its own. -/
def State.determine (s : State) : State := s.deselect.deselectF.requestF.requestT

/-- A post of the target measured at or after t_prep is published; for CAND30 its offset is (R81). -/
def State.postReady (s : State) (t : Txn) : Bool :=
  s.published t.target && match (s.cand t.target).post with
    | none => false
    | some p => decide (t.target = 30) || decide (t.gns ≤ p.meas)

/-- The commit (R81). -/
def State.commitSel (s : State) (t : Txn) : State :=
  let p := (s.cand t.target).post.getD ⟨0, 0, 0, 0, 0⟩
  let s1 : State := { s with sel := { s.sel with
    sel := some t.target, swDelta := p.delta, swUnc := p.u, swBnd := p.bc } }
  let s2 := (s1.clearDisputes false).outcome t 2
  let m : Msg := ⟨0x19, t.target, w32 t.num :: w32 (fromWord s.sel.sel) :: w32 (s.fl .SEL_CTL 1 1)
    :: wordsOf 3 (wrapTo 96 p.delta).toNat ++ [w32 p.u, w32 p.bc]⟩
  (s2.deliver s.servoTs 1 m).determine

/-- What the release of a commit would be refused with: STALE where the transaction is over or its commit
edge abandons it (R81). -/
def State.judgeCommit (s : State) (num : Nat) : Code :=
  match s.sel.txn with
  | none => .stale
  | some t =>
    if t.num = num ∧ s.eligT t.target ∧ s.winnerT = some t.target ∧ s.postReady t then .none else .stale

/-- The commit edge: the outcome of R81 for transaction `num`. -/
def State.commitEdge (s : State) (num : Nat) : State :=
  match s.sel.txn with
  | none => s
  | some t =>
    if t.num ≠ num then s
    else if ¬ s.eligT t.target then (s.outcome t 4)
    else if s.winnerT ≠ some t.target then (s.outcome t 3).determine
    else if ¬ s.postReady t then s.outcome t 5
    else s.commitSel t

/-- The release of a change of the frequency selection (R79). -/
def State.judgeFsel (s : State) (k : Nat) : Code := if s.winnerF = some k then .none else .stale

/-- The frequency selection changes (R79, R85 to R89). -/
def State.takeFsel (s : State) (k : Nat) : State :=
  let s1 : State := { s with sel := { s.sel with fsel := some k, fselPend := none } }
  ((s1.clearDisputes true).fselEffects s.sel.fsel).determine

/-! ### Candidate states (R70, R71) -/

/-- The recorder event of an entry into or out of QUAL (R71, R348). -/
def State.qualEvent (s : State) (k : Nat) (entered : Bool) (cause : Nat) : State :=
  s.recEvent 0x08 (k + bit1 entered 8 + cause * 2 ^ 12)

/-- An external condition holds the candidate (R70). -/
def Cand.barred (c : Cand) : Bool := c.link || c.ind

/-- A candidate in WAIT or QUAL is disqualified; `obs` is the run that stays (R71). -/
def State.disqualify (s : State) (k cause : Nat) (dest : CState) (obs : List (Int × Int)) : State :=
  let c := s.cand k
  match c.st with
  | .wait | .qual =>
    let c1 : Cand := { c with
      st := dest, cause := cause, hist := [], freq := 0, tdev := none, disputed := false
      obs := obs, acc := 0
      wtr := if c.barred then none else some s.gau.l }
    let s1 := ((s.setCand k c1).bump .SEL_CNT 15 0 1 k).pmcTime 4 k
    if c.st = .qual then s1.qualEvent k false cause else s1
  | _ => s

/-- A disqualification, with the determination that follows it (R71, R79). -/
def State.disq (s : State) (k cause : Nat) : State :=
  (s.disqualify k cause .wait (s.cand k).obs).determine

/-- A LINK condition (cause 5) or an INDICATOR condition (cause 7) starts or ends (R70). -/
def State.external (s : State) (k : Nat) (link on : Bool) : State :=
  let c := s.cand k
  let was := if link then c.link else c.ind
  if was = on then s
  else
    let c1 : Cand := if link then { c with link := on } else { c with ind := on }
    if on then (s.setCand k c1).disq k (if link then 5 else 7)
    else if c1.barred then s.setCand k c1
    else s.setCand k { c1 with wtr := some s.gau.l }

/-- A write of EN to a candidate (R71, R72). -/
def State.candEnable (s : State) (k : Nat) (en : Bool) : State :=
  let c := s.cand k
  if en then
    if c.st = .off then (s.setCand k { c with st := .nosig, obs := [], acc := 0, seen := none }).determine else s
  else
    let s1 := s.disqualify k 8 .off []
    (s1.setCand k { s1.cand k with
      st := .off, obs := [], acc := 0, seen := none, hist := [], hostAt := none }).determine

/-! ### Observations (R65 to R67) -/

/-- The intervals missed plus one that an interval of `d` counts for (R66); none is a period violation. -/
def intervals (per d : Nat) : Option Nat :=
  if 7 * per ≤ 8 * d ∧ 8 * d ≤ 9 * per then some 1
  else if 15 * per ≤ 8 * d ∧ 8 * d ≤ 17 * per then some 2
  else if 23 * per ≤ 8 * d ∧ d ≤ 3 * per then some 3
  else none

/-- The phase residual of R67 as a fraction: numerator and (positive) denominator, in 2^-32 ns. -/
def residual (x t : Int) (p1 p2 : Int × Int) : Int × Int :=
  let x1 := p1.1 - p1.2
  let x2 := p2.1 - p2.2
  ((x - x1) * (p1.2 - p2.2) - (x1 - x2) * (t - p1.2), p1.2 - p2.2)

/-- A first observation: the WTR timer starts (R71). -/
def State.firstObs (s : State) (k : Nat) (e t : Int) (seen : Nat) : State :=
  let c := s.cand k
  (s.setCand k { c with
    st := .wait, obs := [(e, t)], acc := 1, seen := some seen
    wtr := if c.barred then none else some s.gau.l }).determine

/-- An observation of candidate k at local time `e`, whose own time is `tau` where the reference gives one,
in 2^-32 ns (R65 to R67). One whose time is not after that of the one before is a phase jump whatever its interval. -/
def State.observe (s : State) (k : Nat) (e : Nat) (tau : Option Int) : State :=
  let c := s.cand k
  let e32 : Int := ((e * 2 ^ 32 : Nat) : Int)
  let s0 := s.pmcTime 3 k
  match c.st with
  | .off => s
  | .nosig => s0.firstObs k e32 (tau.getD 0) e
  | _ =>
    match c.obs, c.seen with
    | p1 :: rest, some seen =>
      let per := s.inForce .SEL_PER k
      let d := e - seen
      if 3 * per < d then
        ((s0.disqualify k 1 .nosig []).firstObs k e32 (tau.getD 0) e)
      else
        let bad (cause : Nat) (t : Int) (u : State) : State :=
          let u1 := u.disqualify k cause .wait [(e32, t)]
          (u1.setCand k { u1.cand k with seen := some e }).determine
        if tau.any fun t => decide (t ≤ p1.2) then bad 3 (tau.getD 0) s0
        else match intervals per d with
        | none => bad 2 (tau.getD p1.2) s0
        | some n =>
          let t := tau.getD (p1.2 + (n * per * 2 ^ 32 : Nat))
          let s1 := s0.bump .SEL_CNT 31 16 (n - 1) k
          let jump := bad 3 t
          let keep (u : State) : State :=
            u.setCand k { u.cand k with obs := [(e32, t), p1], acc := min 2 (c.acc + 1), seen := some e }
          match rest with
            | [] => keep s1
            | p2 :: _ =>
              if c.acc < 2 then keep s1
              else
                let r := residual (e32 - t) t p1 p2
                let s2 := s1.sample 3 k (truncDiv r.1 (r.2 * (2 ^ 32 : Nat)))
                if r.1.natAbs > s.inForce .SEL_PJ k * 2 ^ 32 * r.2.natAbs then jump s2 else keep s2
    | _, _ => s0.firstObs k e32 (tau.getD 0) e

/-- The candidate's observations carry the reference's own time: GNSS, PTP and Stitch (R65). -/
def ownTime (k : Nat) : Bool := decide ((9 ≤ k ∧ k < 18) ∨ (26 ≤ k ∧ k < 30))

/-- The event number of an observation of candidate k at an edge. -/
def obsKey (k : Nat) : Nat := 0x60 + k

/-- An observation at the present edge, once for each candidate and edge; `tau` is the reference's own time in 2^-32 ns. An edge or mark
candidate has none of its own (R65). -/
def State.observeNow (s : State) (k : Nat) (tau : Option Int) : State :=
  if s.fresh (obsKey k) then (s.fire (obsKey k)).observe k s.gau.l (if ownTime k then tau else none) else s

/-- The candidate that observes the rising edges or marks of a crossbar source (R61, R108). -/
def edgeCand (src : Nat) : Option Nat :=
  if src < 9 then some src else if 40 ≤ src ∧ src < 48 then some (src - 22) else none

/-- An observation of an edge or mark candidate: its count of edges begins again (R61). -/
def State.edgeObs (s : State) (k : Nat) : State := (s.setCand k { s.cand k with edges := 0 }).observeNow k none

/-- A rising edge or mark of candidate k: every DIV-th one is an observation (R61). -/
def State.candEdge (s : State) (k : Nat) : State :=
  if (s.cand k).edges + 1 < s.inForce .SEL_DIV k then s.setCand k { s.cand k with edges := (s.cand k).edges + 1 } else s.edgeObs k

/-- The candidate has had no observation for more than 3·PER (R66). -/
def State.lost (s : State) (k : Nat) : Bool :=
  match (s.cand k).st, (s.cand k).seen with
  | .wait, some t | .qual, some t => decide (t + 3 * s.inForce .SEL_PER k < s.gau.l)
  | _, _ => false

/-! ### The Gauge second (R68, R69, R78) -/

/-- The span h in seconds (R68). -/
def State.span (s : State) (k : Nat) : Nat := min ((s.cand k).hist.length - 1) (s.fl .SEL_SPAN 9 0)

/-- FVALID (R68). -/
def State.fvalid (s : State) (k : Nat) : Bool := decide (10 ≤ s.span k)

/-- FREQ from the newest pair and the oldest usable one, truncated toward zero (R68). -/
def freqOf (hist : List (Int × Int)) (h : Nat) : Int :=
  match hist, hist[h]? with
  | (xn, tn) :: _, some (xo, t0) => truncDiv (-(xn - xo) * (2 ^ 40 : Nat)) (tn - t0)
  | _, _ => 0

/-- One inner sum of the TDEV estimator over 100 terms, on phases oldest first. -/
def tdevTerm (xs : List Int) : Int :=
  (List.zipWith3 (fun a b c => c - 2 * b + a) (xs.take 100) ((xs.drop 100).take 100) ((xs.drop 200).take 100)).sum

/-- The squares of the inner sums, and their number. -/
def tdevSum : List Int → Nat → Int × Nat
  | [], _ => (0, 0)
  | x :: xs, n =>
    if n < 300 then (0, 0)
    else
      let r := tdevSum xs (n - 1)
      let t := tdevTerm (x :: xs)
      (r.1 + t * t, r.2 + 1)

/-- TDEV at 100 s in ps, truncated; unknown below 300 entries (R69). -/
def tdevOf (hist : List (Int × Int)) : Option Nat :=
  if hist.length < 300 then none
  else
    let r := tdevSum (hist.reverse.map Prod.fst) hist.length
    some (min 0xFFFFFFFE (Nat.sqrt (r.1.natAbs * 10 ^ 6 / (60000 * r.2)) / 2 ^ 32))

/-- One candidate at a t_sec: history, FREQ and TDEV, then the frequency test (R68, R69). -/
def State.candSecond (s : State) (k : Nat) : State :=
  let c := s.cand k
  match c.st, c.obs with
  | .wait, p :: _ | .qual, p :: _ =>
    if c.acc = 0 then s
    else
      let hist := ((p.1 - p.2, p.2) :: c.hist).take 1024
      let s1 := s.setCand k { c with hist := hist }
      let f := if s1.fvalid k then freqOf hist (s1.span k) else 0
      let s2 := s1.setCand k { c with hist := hist, freq := f, tdev := tdevOf hist }
      if s2.fvalid k ∧ f.natAbs > s.inForce .SEL_FWIN k then s2.disqualify k 4 .wait c.obs else s2
  | _, _ => s

/-- A history spans the full FSPAN (R78). -/
def State.fullSpan (s : State) (k : Nat) : Bool := decide (s.fl .SEL_SPAN 9 0 < (s.cand k).hist.length)

/-- The dispute test of candidate k against the selected one of its type (R78). -/
def State.disputeOne (s : State) (cur : Nat) (k : Nat) : State :=
  let c := s.cand k
  let diff := decide ((c.freq - (s.cand cur).freq).natAbs > s.fl .SEL_AGREE 23 0)
  if s.fullSpan k && s.fullSpan cur then
    if diff then
      if c.disputed then s else (s.setCand k { c with disputed := true }).recEvent 0x09 k
    else s.setCand k { c with disputed := false }
  else s

/-- The dispute tests of a t_sec (R78). -/
def State.disputes (s : State) : State :=
  let s1 := match s.sel.sel with
    | none => s
    | some c => ((List.range 31).filter fun k => k ≠ c && s.eligT k && s.rank k == s.rank c).foldl
        (fun t k => t.disputeOne c k) s
  match s.sel.fsel with
  | none => s1
  | some c => ((List.range 31).filter fun k => k ≠ c && s.eligF k && s.rank k == s.rank c).foldl
      (fun t k => t.disputeOne c k) s1

/-- The WTR timer has run WTR seconds (R71). -/
def State.wtrRun (s : State) (k : Nat) : Bool :=
  match (s.cand k).wtr with
  | none => false
  | some t => decide (t + s.fl .SEL_CFG 19 10 k * 1000000000 ≤ s.gau.l)

/-- At this t_sec the candidate meets every condition of QUAL (R71). -/
def State.qualifies (s : State) (k : Nat) : Bool :=
  decide ((s.cand k).st = .wait) && s.wtrRun k && s.fvalid k && !(s.cand k).barred
    && decide ((s.cand k).freq.natAbs ≤ s.inForce .SEL_FWIN k)

/-- The candidate enters QUAL (R71). -/
def State.enterQual (s : State) (k : Nat) : State :=
  (((s.setCand k { s.cand k with st := .qual, qualAt := s.gau.l }).qualEvent k true 0)).determine

/-! ### Posts (R72 to R74) -/

/-- A post is held (R74). -/
def State.holdPost (s : State) (k : Nat) (p : Post) : State :=
  (s.setCand k { s.cand k with post := some p }).sample 4 k (truncDiv (p.delta * 1000) (2 ^ 32 : Nat))

/-- At a step of `amt` every held Δ and every measurement instant moves (R74), that of a write of SEL_HOSTSET in the write gate too
(R72); the t_prep of a transaction moves with them, so that a step makes no old post a new one (R81, DEDUCED). -/
def State.stepPosts (s : State) (amt : Int) : State :=
  { s with
    log := { s.log with gate := s.log.gate.map fun e => { e with gauge := ((e.gauge : Int) + amt).toNat } }
    sel := { s.sel with
    txn := s.sel.txn.map fun t => { t with gns := t.gns + amt }
    cands := s.sel.cands.map fun q =>
      (q.1, { q.2 with post := q.2.post.map fun p => { p with delta := p.delta - amt, meas := p.meas + amt } }) } }

/-- The release of a write of SEL_HOSTSET: `gauge` is the Gauge of its submitting edge, and `en` tells that CAND30 was enabled at it
(R72, R74). A write that was submitted while EN = 1 has no effect once EN is 0. -/
def State.hostset (s : State) (t gauge : Nat) (en : Bool) : State :=
  let c := s.cand 30
  if ¬ en ∨ c.st = .off then s
  else
    let p : Post := ⟨((t * 2 ^ 32 : Nat) : Int) - gauge, s.inForce .SEL_HOSTSET_UNC, 0, gauge, 0⟩
    s.setCand 30 { c with post := some p, hostAt := some (c.hostAt.getD s.gau.l) }

/-- The published state of a candidate: OFS_AGE in ms (R74). -/
def State.ofsAge (s : State) (k : Nat) : Nat :=
  match (s.cand k).post with
  | none => 0xFFFF
  | some p => min 0xFFFF (((s.g32 : Int) - p.meas).toNat / (1000000 * 2 ^ 32))

end Sys2Proof.Machine
end

