-- ==== Sys2Proof/Machine/Refuse.lean ====
section
/-! DEFINITION. What a refusal does on its path and to the block it was meant for (R402, R359, R305, R42). -/

namespace Sys2Proof.Machine

/-- A refusal is logged on the path it came by (R359); a sequencer's is logged in neither (R402). -/
def State.werr (s : State) (org : Origin) (addr : Nat) (c : Code) : State :=
  match org with
  | .host => ((({ s with hostErr := ⟨c.num, addr⟩ } : State).bump .HST_WERR 15 0).irq 20).pmcEv 1016 1023 2
  | .sideband => (({ s with sbdErr := ⟨c.num, addr⟩ } : State).bump .SBD_WERR 15 0).ibi 4
  | _ => s

/-- The address of a change, as HST_WERR_ADDR and a record's ADDR show it. -/
def Change.addr : Change → Nat
  | .reg a _ | .bad a _ _ | .seqmem a _ | .bulk a _ _ => a
  | .bindoff _ => RegName.TOP_BINDOFF.addr
  | .cfgSelect _ | .cfgSave _ => RegName.TOP_CONFIG.addr
  | _ => 0

/-- A register write of a sequencer ends: C tells whether it was applied, and the sequencer goes on (R158). -/
def State.wrDone (s : State) (n : Nat) (c : Bool) : State :=
  if (s.sq n).stall then s.setSq n ({ s.sq n with c := c, stall := false }.retire 1) else s

/-- The status an operation register takes: STATE in [31:30] and CODE in [7:0]. -/
def State.opStatus (s : State) (r : RegName) (st : Nat) (c : Code) : State :=
  (s.setHw r 31 30 st).setHw r 7 0 c.num

/-- The staged parameters are cleared (R291). -/
def State.clearStaged (s : State) : State :=
  { s with key := { s.key with attr := 0, ctx := 0, data := [], writer := none } }

/-- STATE and CODE after a refusal: those of a save in progress stay. -/
def State.configRefused (s : State) (c : Code) : State :=
  if s.cast_.csSt = 1 then s else { s with cast_ := { s.cast_ with csSt := 3, csCode := c.num } }

/-- Every descriptor of a queue that waits for a bulk write ends with this RESULT and CODE (R364). -/
def State.bulkDone (s : State) (q result code : Nat) : State :=
  ((s.dq q).flight.filter fun f => f.result.isNone).foldl (fun t f => t.dmaResult q f.id (result, code, 0)) s

/-- A refused key operation (R291). -/
def State.keyRefused (s : State) (c : Code) : State := (s.opStatus .KEY_STAT 3 c).clearStaged

/-- A refused start by a write of CH_CFG (R130). -/
def State.chanRefused (s : State) (a : Nat) (c : Code) : State :=
  match c, RegName.CH_CFG.match? a with
  | .late, some x => s.setChan x.i { s.chan x.i with late := true }
  | _, _ => s

/-- What a refused register write tells its block. -/
def State.regRefused (s : State) (a v : Nat) (c : Code) : State :=
  if a = RegName.GAU_STEP_AT.addr ∨ a = RegName.GAU_SLEW_AMT.addr then
    match c with
    | .late | .range | .refusedHeld | .breach | .auditBusy | .auditFull | .wardenDown =>
      s.status none (statusOfCode c) 0
    | _ => s
  else if a = RegName.KEY_OP.addr then (if bitOn v 31 then s.keyRefused c else s)
  else if a = RegName.ATT_FUSE_CMD.addr then (if bitOn v 31 then s.opStatus .ATT_FUSE_STAT 3 c else s)
  else if a = RegName.FLT_INJ.addr then (if bitOn v 31 then s.setHw .FLT_INJ_STAT 7 0 c.num else s)
  else if a = RegName.TOP_CONFIG.addr then (if bitOn v 31 ∨ bitOn v 30 then s.configRefused c else s)
  else s.chanRefused a c

/-- A word of a sideband WRITE is refused: the command ends (R369). -/
def State.sbdWordRefused (s : State) (c : Code) : State :=
  match s.sbd.wr with
  | none => s
  | some w =>
    if w.busy then
      ({ s with sbd := { s.sbd with wr := none } } : State).sbdSend w.seq 4 (bytesLE 2 w.i ++ bytesLE 1 c.num)
    else s

/-- What a refusal tells the origin of a change. -/
def State.originTold (s : State) (org : Origin) (c : Code) : State :=
  match org with
  | .seq n => s.wrDone n false
  | .sideband => s.sbdWordRefused c
  | _ => s

/-- What a refusal tells the origin and the block of a change. -/
def State.tellRefused (s : State) (ch : Change) (org : Origin) (c : Code) : State :=
  match ch with
  | .reg a v => (s.originTold org c).regRefused a v c
  | .bad _ _ _ | .seqmem _ _ => s.originTold org c
  | .bulk _ _ q => s.bulkDone q 1 c.num
  | .gstep n t _ _ => s.status (some n) (statusOfCode c) t
  | .commit num _ => match s.sel.txn with
    | some t => if t.num = num then s.outcome t 6 else s
    | none => s
  | .fsel k => if s.sel.fselPend = some k then { s with sel := { s.sel with fselPend := none } } else s
  | .cfgSave _ => (s.configRefused c).sbdEnds org 0x10 4 (bytesLE 1 c.num)
  | .cfgSelect _ => (s.configRefused c).sbdEnds org 0x11 4 (bytesLE 1 c.num)
  | .bindoff _ => s.sbdEnds org 0x12 4 (bytesLE 1 c.num)

/-- A change is refused without a record (R305, R35); a mirrored write that is not audited leaves the standby DIVERGED (R332). -/
def State.refuseUnrecorded (s : State) (e : GateEntry) (c : Code) : State :=
  let s1 := match c with
    | .auditFull => s.countFull
    | _ => { s with log := { s.log with gapUnaud := satAdd 0xFFFF s.log.gapUnaud 1 } }
  let s2 := (s1.werr e.org e.ch.addr c).tellRefused e.ch e.org c
  if e.org = .twin then { s2 with twin := { s2.twin with diverged := true } } else s2

/-- The change is a ZEROIZE operation (R298). -/
def Change.isZeroize : Change → Bool
  | .reg a v => decide (a = RegName.KEY_OP.addr) && bitOn v 31 && decide (bits v 26 24 = 6)
  | _ => false

/-- FLT declares Warden down: the changes whose records are not written are refused (R35), and no sideband command is
answered any more (R34). A ZEROIZE waits on, since it takes effect without a record (R298). -/
def State.wardenDown (s : State) : State :=
  let gone (e : GateEntry) : Bool := e.recorded.isNone && !e.ch.isZeroize
  let s1 : State := { s with
    warden := { s.warden with up := false, downAt := some s.wt }
    sbd := { s.sbd with wr := none, owes := none }
    log := { s.log with gate := s.log.gate.filter fun e => !gone e } }
  (s.log.gate.filter gone).foldl (fun t e => t.refuseUnrecorded e .wardenDown) s1

end Sys2Proof.Machine
end

