-- ==== Sys2Proof/Machine/Faults.lean ====
section
/-! DEFINITION. Fault collection and the actions of the severities (chapter 15, R338 to R345), with fencing
and the spares of chapter 7 (R169, R170), the squelch of chapter 4 (R104) and the roles of a twin (R325, R326). -/

namespace Sys2Proof.Machine

/-! ### Squelch (R104) -/

/-- An output's squelch condition holds (R104). -/
def State.squelchCond (s : State) (i : Nat) : Bool :=
  s.flt.relinq || s.flt.halt || !s.on .OUT_CFG 31 i
    || (s.on .OUT_CFG 27 i && decide (s.busSt = .freeRun))
    || (s.on .OUT_CFG 26 i && s.standby)
    || (decide (i < 18) && decide (s.inForce .OUT_SQ_BND i < s.busBound))

/-- The condition of an output with that of the PPSO a TOD names (R104). -/
def State.squelchFull (s : State) (i : Nat) : Bool :=
  s.squelchCond i
    || (decide (16 ≤ i ∧ i < 18) && (s.outU (12 + s.fl .OUT_CFG 16 15 i)).sq)

/-- The time of output i's scale (R91) at the present edge, in 2^-40 ns; a TOD has the local time. -/
def State.outTime (s : State) (i : Nat) : Int :=
  if i < 12 then (s.gau.g : Int) - (if s.on .OUT_CFG 30 i then 0 else s.out.ob)
  else if i < 16 then s.gau.g
  else if i < 18 then ((s.gau.l * 2 ^ 40 : Nat) : Int)
  else s.tc

/-- The level at the pin of an output that is away from its squelch level, or at it (R105). -/
def State.pinLevel (s : State) (i : Nat) (active : Bool) : Bool :=
  if 12 ≤ i ∧ i < 16 then active != s.on .OUT_CFG 25 i
  else if 16 ≤ i ∧ i < 18 then !active
  else active

/-- A TDC channel takes source `src`: as its start or stop source, or because Tension visits that output (R108, R120). -/
def State.srcTaken (s : State) (src : Nat) : Bool :=
  ((List.range 24).any fun c => decide (s.fl .TDC_CFG 21 16 c = src ∨ s.fl .TDC_CFG 13 8 c = src))
    || (match s.tdc.visit with
      | some v => decide (18 + v.1 = src)
      | none => false)

/-- An edge of the device itself sets out for the TDC, `d` (in 2^-40 ns) before the present edge; it arrives SRC_DLY after its launch
(R108, R109). -/
def State.launchEdge (s : State) (src : Nat) (fall : Bool) (d : Int) : State :=
  if s.srcTaken src then
    let at_ := (s.gau.l : Int) - Int.fdiv (d - (Config.srcDly src).toNat * 2 ^ 30) (2 ^ 40)
    { s with tdc := { s.tdc with due := s.tdc.due ++ [(at_.toNat, src, fall)] } }
  else s

/-- The crossbar source that is the loopback of output i's pin (R108); a TOD has none. -/
def loopSrc (i : Nat) : Option Nat := if i < 16 then some (18 + i) else if 18 ≤ i then some (16 + i) else none

/-- An edge of output i's pin goes to the crossbar. -/
def State.loopEdge (s : State) (i : Nat) (level : Bool) (d : Int) : State :=
  match loopSrc i with
  | some src => s.launchEdge src (!level) d
  | none => s

/-- Output i becomes `o` and its pin takes a level at a time of its scale in 2^-40 ns. -/
def State.setPin (s : State) (i : Nat) (o : OutU) (active : Bool) (at_ : Int) : State :=
  if o.active = active then s.setOutU i o
  else ((s.setOutU i { o with active := active, last := (s.gau.tl : Int) - (s.outTime i - at_) }).loopEdge i (s.pinLevel i active)
    (s.outTime i - at_)).send (.pin i (s.pinLevel i active) (Int.fdiv at_ (2 ^ 34)))

/-- A pulse, phase or message in progress is cut (R105). -/
def State.cutOut (s : State) (i : Nat) : State :=
  s.setPin i { s.outU i with sq := true, half := none, until_ := none, txAt := none, tx := [] } false (s.outTime i)

/-- One output enters squelch while a condition holds: at once for RELINQUISH and HALT, else when what is in progress has finished
(R105). -/
def State.squelchOne (s : State) (i : Nat) : State :=
  if s.flt.relinq ∨ s.flt.halt then s.cutOut i
  else if s.squelchFull i ∧ ¬ (s.outU i).busy then s.setOutU i { s.outU i with sq := true }
  else s

/-- Every output enters squelch where a condition holds (R104). -/
def State.squelch (s : State) : State := (List.range 20).foldl State.squelchOne s

/-! ### Twin roles (R325 to R329) -/

/-- The LINK condition of every twin candidate starts or ends (R326). -/
def State.twinLinkCond (s : State) (on : Bool) : State :=
  (List.range 4).foldl (fun t l => if t.twinLink l then t.external (26 + l) true on else t) s

/-- The twin takes a role (R325, R326). -/
def State.setRole (s : State) (r : Role) : State :=
  if s.twin.role = r then s
  else
    let t : Twin := { s.twin with
      role := r, roleAt := s.gns, ready := false
      pairAt := if r = .pairing then s.gau.l else s.twin.pairAt
      noneUp := if r = .pairing then s.gau.l else s.twin.noneUp
      synced := if r = .pairing then false else s.twin.synced
      wanted := decide (r = .pairing) || (decide (r = .standby) && !s.twin.synced)
      shut := decide (r = .active) || (s.twin.shut && decide (r ≠ .solo)) }
    let s1 : State := { s with twin := t }
    let s2 := if r = .active then s1.twinLinkCond true else s1
    (s2.squelch).determine

/-- A takeover: T1 or T2 (R329). -/
def State.takeover (s : State) (how : Nat) : State :=
  if s.twin.role = .pairing ∧ s.gau.st = .freeRun then s
  else
    let s1 := if s.twin.hoPend.isSome then
        ({ s with twin := { s.twin with hoPend := none } } : State).recEvent 0x32 0 else s
    let s2 := ((s1.setRole .active).bump .STL_TWIN_STAT 15 0).recEvent 0x30 how
    if how = 2 ∧ s.on .STL_TWIN_CFG 28 then { s2 with twin := { s2.twin with t2 := some s.gau.l } } else s2

/-! ### Sequencers: stop, fence, spares (R163, R169, R170) -/

/-- The pending events of a sequencer are discarded (R155). -/
def State.dropEvents (s : State) (n : Nat) : State :=
  let c := s.clu (cluOf n)
  s.setClu (cluOf n) { c with evs := c.evs.filter fun e => e.n ≠ n }

/-- A sequencer stops; `st` is STOPPED or FENCED (R163, R169). -/
def State.haltSeq (s : State) (n : Nat) (st : SState) : State :=
  (s.setSq n { s.sq n with st := st, wait := none, start := none, stall := false }).dropEvents n

/-- What a fenced sequencer can be replaced by: the lowest eligible spare (R170). -/
def State.spareFor (s : State) (n : Nat) : Option Nat :=
  ((List.range 144).map (· + 16)).find? fun k =>
    bitOn (s.inForce .CLU_SPARE (cluOf k)) (k % 16) && decide ((s.sq k).st = .stopped)
      && decide ((s.sq k).img = (s.sq n).img)

/-- A sequencer is started: its state is cleared and it waits in STARTING (R163). -/
def State.startSeq (s : State) (n : Nat) (atRow : Bool) : State :=
  let q := s.sq n
  s.setSq n { Seq.reset with
    st := .starting, start := some (s.gau.l, atRow), kick := s.gau.l
    pMem := q.pMem, cMem := q.cMem, dMem := q.dMem, img := q.img }

/-- A cluster 0 sequencer is fenced: GAU and its tracking channels (R39, R131). -/
def State.tsFenced (s : State) (n : Nat) : State :=
  (List.range 192).foldl (fun t c =>
    if t.fl .CH_CFG 3 0 c = n ∧ ((t.chan c).st = .tracking ∨ (t.chan c).st = .armed) then
      t.setChan c { t.chan c with st := .coast, pend := none }
    else t) (s.servoFenced n)

/-- A spare takes the role of a fenced mix sequencer, or the role stays unserved; the second part tells that
SEQ_NOSPARE asserts, with the role (R170). -/
def State.spare (s : State) (n : Nat) : State × Option Nat :=
  let role := s.fl .SEQ_ROLE 7 0 n
  if n < 16 ∨ 136 ≤ role then (s, none)
  else match s.spareFor n with
    | none => (s, some role)
    | some k =>
      let s1 := (s.setFl .SEQ_ROLE 7 0 role k).setFl .SEQ_ROLE 7 0 0xFF n
      let s2 := s1.setFl .CLU_SPARE (k % 16) (k % 16) 0 (cluOf k)
      let s3 := (s2.startSeq k true).setFl .SEQ_CTL 31 30 3 k
      (s3.recEvent 0x18 (n + k * 2 ^ 8 + role * 2 ^ 16), none)

/-- A sequencer is fenced (R169, R170). -/
def State.fenceSeq (s : State) (n : Nat) : State × Option Nat :=
  let s1 := (s.haltSeq n .fenced).setFl .SEQ_CTL 31 31 0 n
  let s2 := s1.setSq n { s1.sq n with inbox := [] }
  if n < 16 then (s2.tsFenced n, none) else s2.spare n

/-! ### LINK of an Ethernet port (R70, R194) -/

/-- Port p. -/
def State.ep (s : State) (p : Nat) : EthP := s.eth.get p EthP.reset
/-- Port p becomes `x`. -/
def State.setEp (s : State) (p : Nat) (x : EthP) : State := { s with eth := s.eth.set p x }

/-- The LINK condition of the port's PTP and SyncE candidates (R70). -/
def State.ethCheck (s : State) (p : Nat) : State :=
  (s.external (10 + p) true (!(s.ep p).link)).external (18 + p) true (!(s.ep p).link)

/-- VERIFY of a port whose preemption is set anew (R202): INITIAL where it is to be verified. -/
def State.verifyInit (s : State) (p : Nat) : Nat := (s.on .ETH_PREEMPT 31 p && !s.on .ETH_PREEMPT 30 p).toNat

/-- LINK of a port changes (R194). -/
def State.setLinkUp (s : State) (p : Nat) (up : Bool) : State :=
  if (s.ep p).link = up then s
  else
    let s1 := (s.setEp p { s.ep p with link := up, verify := s.verifyInit p, tries := 0 }).ethCheck p
    if up then s1 else s1.bump .ETH_STAT 15 0 1 p

/-! ### Severities (R340 to R343) -/

/-- The outputs of a fence action: those of APLL-Ox (R90). -/
def State.apllOutputs (s : State) (x : Nat) : State :=
  (List.range 6).foldl (fun t k => t.setFl .OUT_CFG 31 31 0 (6 * x + k)) s

/-- The fence action of a source; the second part is the role SEQ_NOSPARE names (R338). -/
def State.fenceAction (s : State) (src unit : Nat) : State × Option Nat :=
  match src with
  | 6 => ((s.apllOutputs unit).squelch, none)
  | 11 | 12 | 13 | 14 => s.fenceSeq unit
  | 16 => (s.setFl .TDC_CFG 31 31 0 unit, none)
  | 17 => ((s.setFl .FE_CFG 31 31 0 unit).setFe unit { s.fe unit with st := 0 }, none)
  | 18 | 19 => ((s.setFl .ETH_CFG 31 31 0 unit).setLinkUp unit false, none)
  | 20 => (s.setFl .TSV_CTL 31 31 0, none)
  | 21 => ((s.setFl .OUT_CFG 31 31 0 unit).squelch, none)
  | _ => (s, none)

/-- The RELINQUISH block goes out on every link that is UP (R328). -/
def State.sendRelinq (s : State) : State :=
  (List.range 4).foldl (fun t l => if (t.link l).st = .up then t.send (.relinq l) else t) s

/-- The device enters RELINQUISH (R342, R328). -/
def State.enterRelinq (s : State) : State :=
  if s.flt.relinq then s
  else
    let s1 := ({ s with flt := { s.flt with relinq := true } } : State).sendRelinq
    (if s1.twin.role = .solo ∨ s1.twin.role = .compare then
      { s1 with twin := { s1.twin with role := .relinquished, roleAt := s.gns } }
     else s1.setRole .relinquished).squelch

/-- Every sequencer stops as under RUN = 0; none is fenced (R343). -/
def State.stopSeqs (s : State) : State :=
  (List.range 160).foldl (fun t n =>
    match (t.sq n).st with
    | .stopped | .fenced => t
    | _ => t.haltSeq n .stopped) s

/-- The device enters HALT (R343): beyond RELINQUISH, the sequencers stop. While Warden runs it writes the HALT mark
(R384). -/
def State.enterHalt (s : State) : State :=
  let s1 := s.enterRelinq
  let s2 : State := { s1 with
    flt := { s1.flt with halt := true, haltLatch := true }
    cast_ := { s1.cast_ with haltMark := s1.cast_.haltMark || s1.warden.up } }
  s2.stopSeqs.squelch

/-- The severity that FLT applies to an assertion: NOTE for one injected with DRY (R347). -/
def State.severity (s : State) (src : Nat) (inj : Bool) : Nat :=
  if inj ∧ s.flt.inj.dry then 0 else s.fl .FLT_SRC_CFG 2 0 src

/-- What FLT records of an assertion (R340). -/
def State.faultRecord (s : State) (src unit : Nat) (inj : Bool) : State :=
  let sev := s.severity src inj
  let s1 := (s.bump .FLT_SRC_CNT 15 0 1 src).setHw .FLT_SRC_STAT 30 30 1 src
  let s2 := s1.setFsrc src { s.fsrc src with last := some s.gau.l, eff := sev, inj := inj, unit := unit }
  let s3 : State := { s2 with flt := { s2.flt with lastSrc := src, lastUnit := unit, lastGns := s.gns } }
  let s4 := s3.recEvent (0x80 + src) (unit % 2 ^ 16 + sev * 2 ^ 16 + bit1 inj 19)
  if s.on .FLT_SRC_CFG 31 src then (s4.irq 17).ibi 2 else s4

/-- The consequence of RELINQUISH by a fault: entered, and recorded afterwards (R342, R306). -/
def State.faultRelinq (s : State) (src : Nat) : State :=
  if s.flt.relinq then s
  else s.enterRelinq.recordDeferred (s.mkRec 9 0 1 src .hardware .none true)

/-- The action of a severity at or above RELINQUISH, or none (R340). -/
def State.faultDevice (s : State) (src sev : Nat) : State :=
  if sev = 3 then s.faultRelinq src
  else if sev = 4 then
    (if s.flt.relinq then s
     else s.recordDeferred (s.mkRec 9 0 1 src .hardware .none true)).enterHalt
  else s

/-- One assertion of a source, without what its fence action raises in turn (R340). -/
def State.fault1 (s : State) (src unit : Nat) (inj : Bool) : State × Option Nat :=
  let sev := s.severity src inj
  let s1 := s.faultRecord src unit inj
  if sev = 2 ∧ fltHasFence src then
    let r := s1.fenceAction src unit
    (r.1.recEvent 0x40 src, r.2)
  else (s1.faultDevice src sev, none)

/-- A fault source asserts (R340). A fence that leaves a role unserved raises SEQ_NOSPARE (R170). -/
def State.fault (s : State) (src unit : Nat) (inj : Bool := false) : State :=
  match s.fault1 src unit inj with
  | (s1, none) => s1
  | (s1, some role) => (s1.fault1 15 role false).1

/-- FLT_STAT.STATE of the injection is FIRED when the armed checker reports (R346). -/
def State.injected (s : State) (src unit : Nat) : Bool :=
  decide (s.flt.inj.state = 1 ∧ s.flt.inj.src = src ∧ s.flt.inj.unit = unit)

end Sys2Proof.Machine
end

