-- ==== Sys2Proof/Machine/Dram.lean ====
section
/-! DEFINITION. External memory as its requesters see it (R33, R304, R370 to R376): codewords, ranges, and the arbiter. Every access names
the requester that makes it. -/

namespace Sys2Proof.Machine

/-! ### Reports of a checker (R346) -/

/-- A report of the armed checker is the injected one. -/
def State.reported (s : State) (src unit : Nat) : State :=
  if s.injected src unit then { s with flt := { s.flt with inj := { s.flt.inj with state := 2 } } } else s

/-! ### Addresses (R370) -/

/-- Bytes of a channel by its SIZE code (R370). -/
def sizeBytes (code : Nat) : Nat := [0, 2, 4, 8, 16].getD code 0 * 2 ^ 30

/-- The addressable bytes of DRAM (R370). -/
def State.memSize (s : State) : Nat := sizeBytes (s.fl .MEM_CFG 3 0) + sizeBytes (s.fl .MEM_CFG 7 4)

/-- The channel that holds an address (R370). -/
def State.memChan (s : State) (a : Nat) : Nat :=
  if s.fl .MEM_CFG 3 0 = s.fl .MEM_CFG 7 4 then a / 256 % 2 else if a < sizeBytes (s.fl .MEM_CFG 3 0) then 0 else 1

/-- A range touches the staging area at the top of DRAM (R304, R372). -/
def State.staged_ (s : State) (addr len : Nat) : Bool := decide (s.memSize < addr + len + 16777216)

/-- An access of requester `r` to a range is refused: only requester 10, Warden, may address the staging area (R372). -/
def State.memBars (s : State) (r addr len : Nat) : Bool := decide (r ≠ 10) && s.staged_ addr len

/-- A counter event of a requester of DRAM (R354). -/
def State.pmcMem (s : State) (r ev : Nat) (k : Nat := 1) : State := s.pmcEv 1000 1015 (r % 16 * 16 + ev) k

/-! ### The arbiter (R374 to R376) -/

/-- Channel c at the arbiter. -/
def State.memCh (s : State) (c : Nat) : MemCh := s.mem.chans.get c MemCh.reset
/-- Channel c becomes `x`. -/
def State.setMemCh (s : State) (c : Nat) (x : MemCh) : State := { s with mem := { s.mem with chans := s.mem.chans.set c x } }

/-- The beats of 64 bytes that a range from `a` up to `e` has on channel c. -/
def State.beatsOn (s : State) (c a e : Nat) : Nat :=
  ((List.range ((e + 63) / 64 - a / 64)).filter fun i => s.memChan ((a / 64 + i) * 64) = c).length

/-- The head transaction of a requester's queue among the 256 in flight (R370, R374). -/
def State.headTx (s : State) (r : Nat) : Option MemTx := (s.mem.txs.take 256).find? fun x => x.req = r

/-- Every head of a queue that was not pending becomes so. -/
def State.settleTxs (s : State) : State :=
  let go : List MemTx × List Nat → MemTx → List MemTx × List Nat := fun a x =>
    (a.1 ++ [if a.2.contains x.req ∨ 256 ≤ a.1.length then x else { x with since := some (x.since.getD s.gau.l) }], x.req :: a.2)
  { s with mem := { s.mem with txs := (s.mem.txs.foldl go ([], [])).1 } }

/-- Requester `r` asks for a range: one transaction for each block of 4 KiB that it touches (R370). -/
def State.memPost (s : State) (r addr len : Nat) : State :=
  if len = 0 ∨ s.mem.failed then s
  else
    let e := addr + len
    { s with mem := { s.mem with txs := s.mem.txs ++
      (List.range ((e + 4095) / 4096 - addr / 4096)).map fun i =>
        let lo := max addr ((addr / 4096 + i) * 4096)
        let hi := min e ((addr / 4096 + i + 1) * 4096)
        { req := r, at_ := s.gau.l, left := Tab.set (Tab.set [] 0 (s.beatsOn 0 lo hi)) 1 (s.beatsOn 1 lo hi), issued := [], since := none } } }

/-- Requester r is pending on channel c (R374). -/
def State.memPends (s : State) (c r : Nat) : Bool :=
  match s.headTx r with
  | some x => decide (x.left.get c 0 ≠ 0)
  | none => false

/-- The age of a requester's head transaction in G-clock edges (R374). -/
def State.memAge (s : State) (r : Nat) : Nat :=
  match s.headTx r with
  | some x => s.gau.l - x.since.getD s.gau.l
  | none => 0

/-- Requester r is under share on channel c (R374). -/
def State.underShare (s : State) (c r : Nat) : Bool := decide ((s.memCh c).grants.get r 0 < 4 * s.fl .MEM_REQ 7 0 r)

/-- Requester a wins over requester b on channel c: the first key that separates them (R374). -/
def State.memBeats (s : State) (c a b : Nat) : Bool :=
  if s.underShare c a ≠ s.underShare c b then s.underShare c a
  else if s.fl .MEM_REQ 26 24 a ≠ s.fl .MEM_REQ 26 24 b then decide (s.fl .MEM_REQ 26 24 b < s.fl .MEM_REQ 26 24 a)
  else if s.memAge a ≠ s.memAge b then decide (s.memAge b < s.memAge a)
  else decide (a < b)

/-- The winner among requesters (R374). -/
def State.memWinner (s : State) (c : Nat) (rs : List Nat) : Option Nat :=
  rs.foldl (fun w r => match w with
    | none => some r
    | some v => some (if s.memBeats c r v then r else v)) none

/-- The requesters between which a decision of channel c chooses: all that are pending, or, while the holder's transaction goes on, the
holder and those that may preempt it (R374, R375). -/
def State.memField (s : State) (c : Nat) : List Nat :=
  let pend := (List.range 16).filter (s.memPends c)
  match (s.memCh c).holder with
  | some h => if (s.memCh c).ended then pend else pend.filter fun r => decide (r = h) || s.on .MEM_REQ 31 r
  | none => pend

/-- Where the holder's transaction has issued its last beat on channel c, and none goes on on the other channel, it has completed
(R350, R374). -/
def State.finishTx (s : State) (c : Nat) : State :=
  match (s.memCh c).holder with
  | none => s
  | some r =>
    match s.headTx r with
    | none => s
    | some x =>
      let o := s.memCh (1 - c)
      if (s.memCh c).ended ∧ x.left.get 0 0 = 0 ∧ x.left.get 1 0 = 0 ∧ ¬ (o.holder = some r ∧ o.ended = true) then
        ((({ s with mem := { s.mem with txs := s.mem.txs.eraseIdx (s.mem.txs.findIdx fun z => z.req = r) } } : State).settleTxs).pmcMem r 0).sample
          9 r ((s.gau.l - x.at_ : Nat) : Int)
      else s

/-- The head transaction of requester r issues a beat on channel c (R374). -/
def State.issueBeat (s : State) (c r : Nat) : State :=
  match s.headTx r with
  | none => s
  | some x =>
    let y : MemTx := { x with left := x.left.set c (x.left.get c 0 - 1), issued := x.issued.set c (x.issued.get c 0 + 1) }
    let h := s.memCh c
    let g := if h.win % 1024 = 0 then [] else h.grants
    let s1 := (s.setMemCh c { h with
      holder := some r, ended := decide (y.left.get c 0 = 0), win := (h.win + 1) % 1024
      grants := Tab.set g r (Tab.get g r 0 + 1) }).pmcMem r 1
    let i := s.mem.txs.findIdx fun z => z.req = r
    { s1 with mem := { s1.mem with txs := s1.mem.txs.set i y } }

/-- A decision of channel c (R374, R375): the winner is granted a beat; a holder that loses the channel keeps its age and its count. -/
def State.memDecide (s : State) (c : Nat) : State :=
  match s.memWinner c (s.memField c) with
  | none => s.setMemCh c { s.memCh c with holder := none, ended := false, phase := 0 }
  | some r =>
    let s1 := match (s.memCh c).holder with
      | some h => if h ≠ r ∧ (s.memCh c).ended = false then s.pmcMem h 3 else s
      | none => s
    s1.issueBeat c r

/-- One G-clock edge of channel c: a beat of sixteen transfers takes 20/7 ns at DDR5-5600 and 10/3 ns at DDR5-4800; a decision falls at
each beat boundary, and at once where the channel is idle. -/
def State.memEdge (s : State) (c : Nat) : State :=
  let h := s.memCh c
  let d := if s.on .MEM_CFG 31 then (7, 20) else (3, 10)
  if h.holder.isNone then s.memDecide c
  else if h.phase + d.1 < d.2 then s.setMemCh c { h with phase := h.phase + d.1 }
  else
    let s1 := (s.setMemCh c { h with phase := h.phase + d.1 - d.2 }).finishTx c
    s1.memDecide c

/-- Requester r waits: it is pending on a channel that it does not hold. -/
def State.memWaits (s : State) (r : Nat) : Bool :=
  (List.range 2).any fun c => s.memPends c r && decide ((s.memCh c).holder ≠ some r)

/-- The wait of a requester goes into MAXWAIT (R376). -/
def State.waitEdge (s : State) (r : Nat) : State :=
  if s.memWaits r then
    let w := min 0xFFFF (s.memAge r / 1000)
    (if bits (s.hwOf .MEM_REQ_STAT r) 15 0 < w then s.setHw .MEM_REQ_STAT 15 0 w r else s).pmcMem r 2
  else s

/-- The arbiter at one G-clock edge. Until READY the transactions wait (R382). -/
def State.arbiter (s : State) : State :=
  if s.mem.txs = [] ∧ s.mem.chans.all (fun p => p.2.holder.isNone) then s
  else
    let s0 := s.settleTxs
    let s1 := if s.mem.ready then (s0.memEdge 0).memEdge 1 else s0
    (List.range 16).foldl State.waitEdge s1

/-! ### Codewords (R371 to R373) -/

/-- The device of channel c that stands at device position d of a codeword: the spare once its copy is done (R371, R373). -/
def State.devAt (s : State) (c d : Nat) : Nat :=
  if s.mem.spare.get c 0 = 2 ∧ s.mem.spareDev.get c 0 = d then 9 else d

/-- The errors that a read of a codeword meets: those of the devices at its nine positions. -/
def State.cwErrs (s : State) (cw : Nat) : List CwErr :=
  s.mem.errs.filter fun e => decide (e.cw = cw) && (List.range 9).any fun d => s.devAt (s.memChan cw) d = e.d

/-- The codewords of a range that hold an error. -/
def State.badCws (s : State) (addr len : Nat) : List Nat :=
  ((s.mem.errs.map CwErr.cw).filter fun a => decide (addr < a + 16 ∧ a < addr + len)).dedup

/-- A symbol is found in error. -/
def State.addErr (s : State) (e : SymErr) : State :=
  let cw := e.addr.toNat / 16 * 16
  let same : CwErr → Bool := fun x => decide (x.cw = cw ∧ x.b = e.xfer ∧ x.d = e.dev)
  let f := (match s.mem.errs.find? same with
    | some x => x.flip
    | none => 0) ^^^ e.flip.toNat
  let rest := s.mem.errs.filter fun x => !same x
  { s with mem := { s.mem with errs := if f = 0 then rest else rest ++ [⟨cw, e.xfer, e.dev, f⟩] } }

/-- A read of requester r met an uncorrectable codeword at `addr` (R372). -/
def State.memUe (s : State) (r addr : Nat) : State :=
  let s1 := if bitOn (s.hwOf .MEM_UE_INFO) 31 then s
    else ((s.setHw .MEM_UE_ADDR 63 0 addr).setHw .MEM_UE_INFO 31 31 1).setHw .MEM_UE_INFO 19 16 r
  let s2 := (s1.bump .MEM_UE_INFO 15 0).pmcMem r 5
  ((s2.reported 24 r).fault 24 r (s2.injected 24 r)).irq 19

/-- A copy to the spare of channel c starts (R373). -/
def State.startSpare (s : State) (c : Nat) : State :=
  { s with mem := { s.mem with spare := s.mem.spare.set c 1, spareDev := s.mem.spareDev.set c (s.fl .MEM_SPARE 19 16 c) } }

/-- A symbol of device d of channel c was corrected (R372); with AUTO = 1 the TH-th of one scrub pass starts a copy (R373). -/
def State.corrected (s : State) (r c d : Nat) : State :=
  let n := s.mem.passCorr.get (16 * c + d) 0 + 1
  let s1 := (({ s with mem := { s.mem with passCorr := s.mem.passCorr.set (16 * c + d) n } } : State).bump .MEM_CORR 31 0 1 c d).pmcMem r 4
  if s1.on .MEM_SPARE 30 c ∧ s1.fl .MEM_SPARE 15 0 c ≤ n ∧ d ≤ 8 ∧ s1.mem.spare.get c 0 = 0 then
    (s1.setFl .MEM_SPARE 19 16 d c).startSpare c
  else s1

/-- What the code makes of a codeword: one symbol is corrected, two are detected; of more the code promises nothing, and a free value
decides whether they are detected. -/
def State.cwDetects (s : State) (cw : Nat) : Bool × State :=
  match (s.cwErrs cw).length with
  | 0 | 1 => (false, s)
  | 2 => (true, s)
  | _ => (bitOn (s.draw 1).1 0, (s.draw 1).2)

/-- The code reads a codeword for requester r: whether it is poisoned, and the state after the correction or the report. `wb`: a corrected
codeword is written back (R372, R373). -/
def State.readCw (s : State) (r : Nat) (wb : Bool) (cw : Nat) : Bool × State :=
  match s.cwErrs cw with
  | [] => (false, s)
  | [e] =>
    let s1 := s.corrected r (s.memChan cw) e.d
    (false, if wb then { s1 with mem := { s1.mem with errs := s1.mem.errs.filter fun x => x ≠ e } } else s1)
  | _ =>
    let x := s.cwDetects cw
    (x.1, if x.1 then x.2.memUe r cw else x.2)

/-- The bits in which a byte of a codeword, as its devices hold it, differs from what was written: symbol 9b + d carries the data bits
4(8b + d) to 4(8b + d) + 3 (R371). -/
def flipOf (es : List CwErr) (i : Nat) : Nat :=
  (es.filter fun e => decide (e.d ≤ 7 ∧ (8 * e.b + e.d) / 2 = i)).foldl (fun a e => a ^^^ (e.flip * 16 ^ ((8 * e.b + e.d) % 2))) 0

/-- The bytes of a range as they are delivered: what was written, or, of a codeword that the code does not put right, what its devices
hold. -/
def State.rawBytes (s : State) (addr len : Nat) : List Byte :=
  (List.range len).map fun i =>
    let a := addr + i
    let es := s.cwErrs (a / 16 * 16)
    let y := memGet s.dram a
    if es.length ≤ 1 then y else y ^^^ BitVec.ofNat 8 (flipOf (es.map fun e =>
      if e.d = 9 then { e with d := s.mem.spareDev.get (s.memChan a) 0 } else e) (a % 16))

/-- Requester r reads codewords: whether one is poisoned, and the state after them. -/
def State.readCws (s : State) (r : Nat) (wb : Bool) (cws : List Nat) : Bool × State :=
  cws.foldl (fun (a : Bool × State) cw => let x := a.2.readCw r wb cw; (a.1 || x.1, x.2)) (false, s)

/-! ### Reads and writes -/

/-- A read of a range by requester `r`: its bytes, whether it is poisoned, and the state with what it raises. One of the staging area is
refused, counted, and returns zeros (R372). -/
def State.memRead (s : State) (r addr len : Nat) : List Byte × Bool × State :=
  if s.memBars r addr len then (List.replicate len 0, false, s.bump .MEM_PROT 31 0)
  else if s.mem.failed then (memTake s.dram addr len, true, s.memUe r addr)
  else
    let x := (s.memPost r addr len).readCws r (s.on .MEM_SCRUB 31) (s.badCws addr len)
    (if s.mem.errs = [] then memTake s.dram addr len else s.rawBytes addr len, x)

/-- The codewords that a range covers in part: its first and its last. -/
def edgeCws (addr len : Nat) : List Nat :=
  ([addr / 16 * 16].filter fun _ => decide (addr % 16 ≠ 0)) ++ ([(addr + len) / 16 * 16].filter fun _ => decide ((addr + len) % 16 ≠ 0))

/-- A write of a range by requester `r`: whether it was discarded, and the state after it. Every write covers whole codewords (R370): of a
codeword that it covers in part the rest is read first, and where that is poisoned the write is discarded. A write clears the errors of its
codewords, in the spare too (R372, R373). One of the staging area is refused and counted; with failed memory it is discarded (R382). -/
def State.memPutBy (s : State) (r addr : Nat) (data : List Byte) : Bool × State :=
  if data = [] then (false, s)
  else if s.memBars r addr data.length then (false, s.bump .MEM_PROT 31 0)
  else if s.mem.failed then (false, s)
  else
    let x := (s.memPost r addr data.length).readCws r (s.on .MEM_SCRUB 31) (edgeCws addr data.length)
    if x.1 then x
    else (false, { x.2 with
      dram := memPut x.2.dram addr data
      mem := { x.2.mem with errs := x.2.mem.errs.filter fun e => decide (e.cw + 16 ≤ addr ∨ addr + data.length ≤ e.cw) } })

/-- A write of a range by requester `r`. -/
def State.memWrite (s : State) (r addr : Nat) (data : List Byte) : State := (s.memPutBy r addr data).2

end Sys2Proof.Machine
end

