-- ==== Sys2Proof/Machine/RegOps.lean ====
section
/-! DEFINITION. The boundaries at which class E fields take effect (R11). -/

namespace Sys2Proof.Machine

/-- The class E fields of a register take effect at this boundary. -/
def atBoundary : Boundary → RegAt → Bool
  | .second, x => x.reg.geo.bnd == .second
  | .row, x => x.reg.geo.bnd == .row
  | .latch, x => x.reg.geo.bnd == .latch
  | .dump c, x => x.reg.geo.bnd == .dump && x.i == c.val
  | .frame p, x => x.reg.geo.bnd == .frame && x.i == p.val
  | .pulse j, x => x.reg.geo.bnd == .pulse && x.i == 12 + j.val
  | .block out p, x => x.reg.geo.bnd == .blockOut && out && x.i == p.val
  | .sideband, x => x.reg.geo.bnd == .sideband

/-- The field is of class E. -/
def Field.isE (f : Field) : Bool := f.cls == .e

/-- One register takes its written class E values. -/
def State.applyReg (s : State) (a v : Nat) (x : RegAt) : State :=
  let fs := x.reg.fields x.i x.j x.l
  { s with force := s.force.set a (putFields Field.isE fs (s.force.get a (x.reg.reset x.i x.j x.l)) v) }

/-- The registers that have a written value at this boundary. -/
def State.waitingE (s : State) (b : Boundary) : List (Nat × Nat × RegAt) :=
  s.regs.filterMap fun p => match lookupReg p.1 with
    | some x => if atBoundary b x then some (p.1, p.2, x) else none
    | none => none

/-- At a boundary the last written class E values take effect (R11). -/
def State.applyE (s : State) (b : Boundary) : State :=
  (s.waitingE b).foldl (fun t p => t.applyReg p.1 p.2.1 p.2.2) s

/-- A write to the model in force that takes effect at its Gauge second rebases it (R89). -/
def State.modelWritten (s : State) : State :=
  let s1 : State := { s with hld := { s.hld with wrote := [] } }
  if s.hld.wrote.contains s.model then s1.rebase else s1

/-- A boundary with what follows from it (R11, R89). -/
def State.boundary (s : State) (b : Boundary) : State :=
  match b with
  | .second => (s.applyE b).modelWritten
  | _ => s.applyE b

end Sys2Proof.Machine
end

