-- ==== Sys2Proof/Machine/SeqCore.lean ====
section
/-! DEFINITION. How a sequencer goes through its instructions: traps, the order of trap conditions, the advance of
PC with repeats, starts and stops, the watchdog, events and memory (chapter 7). -/

namespace Sys2Proof.Machine

/-- The outcome of a command. -/
abbrev Res := Host.Outcome State Fault Refusal

/-! ### Traps (R166, R192) -/

/-- A sequencer traps: it stops before the instruction takes effect (R166). -/
def State.trap (s : State) (n : Nat) (t : Trap) : State :=
  let s1 := (s.setSq n { s.sq n with trap := t.code }).pmcSeq n 14
  (s1.haltSeq n .stopped).fault 11 n

/-- What an instruction is to the rules on repeats: a branch, RPT, RPTB or WAITT must not end a block (R148);
these and the port, mailbox and time instructions must not be repeated (R147); a CALL must lie in no level. -/
inductive IClass where
  | plain | noRepeat | noEnd | call
  deriving DecidableEq, Repr

/-- The first trap condition that the place of an instruction meets: BLOCKEND, then NEST (R192). -/
def Seq.placeTrap (q : Seq) (cls : IClass) (words : Nat) : Option Trap :=
  if (q.reps.any fun r => decide (r.last = q.pc)) && (cls == .noEnd || decide (words = 2)) then some .blockend
  else if cls = .call ∧ q.reps ≠ [] then some .blockend
  else if cls ≠ .plain ∧ q.rpt.isSome then some .nest
  else none

/-- A sequencer is running its instructions: none while a register write stalls it (R158). -/
def State.runs (s : State) (n : Nat) : Bool := decide ((s.sq n).st = .running) && !(s.sq n).stall

/-- Sequencer n executes an instruction of `words` words: nothing while it does not run, a trap where it meets
one, in the order ILLEGAL, place, `bad`, and otherwise the effect `f` on the whole state (R166, R192). -/
def State.issue (s : State) (n : Nat) (words : Nat) (cls : IClass) (illegal : Bool) (bad : Option Trap)
    (f : State → State) : State :=
  if s.runs n then
    if illegal then s.trap n .illegal
    else match (s.sq n).placeTrap cls words with
      | some t => s.trap n t
      | none => match bad with
        | some t => s.trap n t
        | none => (f s).pmcSeq n 2
  else s

/-- An instruction that changes only its own sequencer and goes on to the next. -/
def State.alu (s : State) (n : Nat) (f : Seq → Seq) (words : Nat := 1) : State :=
  s.issue n words .plain false none fun t => t.setSq n ((f (t.sq n)).retire words)

/-- A plain instruction with memory operands: `bad` is its trap. -/
def State.memOp (s : State) (n : Nat) (words : Nat) (illegal : Bool) (bad : Option Trap) (f : Seq → Seq) : State :=
  s.issue n words .plain illegal bad fun t => t.setSq n ((f (t.sq n)).retire words)

/-- A branch, whose target `f` gives with the state it leaves (R146, R178). -/
def State.branch (s : State) (n : Nat) (cls : IClass) (bad : Option Trap) (f : Seq → Seq) : State :=
  s.issue n 1 cls false bad fun t => (t.setSq n (f (t.sq n))).pmcSeq n 4

/-! ### Starting, stopping and the watchdog (R163, R164) -/

/-- The sequencer starts at ENTRY (R163). A row that starts at this edge is supervised, one in progress is not (R164). -/
def State.beginSeq (s : State) (n : Nat) : State :=
  let q := s.sq n
  s.setSq n { q with
    st := .running, start := none, pc := s.fl .SEQ_CTL 15 0 n, missed := false
    kick := if s.fl .SEQ_WD 31 30 n = 2 then s.gau.l - 1 else s.gau.l }

/-- The multiples of `per` ns that T_C has passed. -/
def rowIdx (tc : Int) (per : Nat) : Int := Int.fdiv tc (per * 2 ^ 40 : Nat)

/-- T_C reaches a multiple of `per` ns, which divides a second, at this edge; a move of T_C by whole seconds
is none (R92), since it moves the T_C of the edge before too. -/
def State.tcEdge (s : State) (per : Nat) : Bool :=
  s.gau.running && match s.out.ptc with
    | none => true
    | some p => decide (rowIdx p per ≠ rowIdx s.tc per)

/-- The rate of a WCLK rate code in Hz (R102). -/
def fsOf (code : Nat) : Nat := [32000, 44100, 48000, 88200, 96000, 176400, 192000].getD code 48000

/-- A row starts at this edge: T_C reaches a multiple of 125 µs (R22). -/
def State.rowEdge (s : State) : Bool := s.tcEdge 125000

/-- t_row of the row in progress, on T_C in 2^-40 ns. -/
def State.rowBase (s : State) : Int := Int.fdiv s.tc (125000 * 2 ^ 40) * (125000 * 2 ^ 40)

/-- T_C since the start of the row in progress, in ns. -/
def State.rowNs (s : State) : Nat := ((s.tc - s.rowBase) / 2 ^ 40).toNat

/-- The number of the row in progress (R22). -/
def State.rowNum (s : State) : Int := Int.fdiv s.tc (125000 * 2 ^ 40)

/-- The start of a STARTING sequencer is due: within 1 µs, or at the first t_row at least 2 µs after release
(R163). -/
def State.startDue (s : State) (n : Nat) : Bool :=
  match (s.sq n).st, (s.sq n).start with
  | .starting, some (_, false) => true
  | .starting, some (l, true) => s.rowEdge && decide (l + 2000 ≤ s.gau.l)
  | _, _ => false

/-- The image load of cluster k names the sequencer (R168). -/
def State.loading (s : State) (n : Nat) : Bool :=
  decide ((s.clu (cluOf n)).load = 1) && bitOn (s.clu (cluOf n)).mask (n % 16)

/-- The refusal of a write of SEQ_CTL (R163, R168, R171). -/
def State.judgeSeqCtl (s : State) (n : Nat) (run : Bool) : Code :=
  match (s.sq n).st with
  | .fenced => if run then .fenced else .none
  | _ => if run ∧ s.loading n then .busy else .none

/-- The sequencer's memories are cleared and it becomes STOPPED (R171). -/
def State.unfenceSeq (s : State) (n : Nat) : State :=
  (s.setSq n { s.sq n with st := .stopped, pMem := [], cMem := [], dMem := [], img := [] }).setFl .SEQ_ROLE 7 0 0xFF n

/-- A released write of SEQ_CTL (R163, R171); `old` is the state before it. -/
def State.takeSeqCtl (s : State) (n : Nat) (run atRow unfence : Bool) : State :=
  match (s.sq n).st with
  | .stopped => if run then s.startSeq n atRow else s
  | .fenced => if unfence then s.unfenceSeq n else s
  | _ => if run then s else s.haltSeq n .stopped

/-- A WDK is missed at this edge (R164): in INTERVAL mode LIM µs after the last, in ROW mode LIM µs of local time (R405) after the start of
a row that has had none. -/
def State.wdMissed (s : State) (n : Nat) : Bool :=
  let q := s.sq n
  let lim := s.fl .SEQ_WD 15 0 n
  (decide (q.st = .running) || decide (q.st = .waiting)) && !q.missed &&
  match s.fl .SEQ_WD 31 30 n with
  | 1 => decide (q.kick + lim * 1000 ≤ s.gau.l)
  | 2 =>
    decide (q.kick < s.out.rowL ∧ s.out.rowL + lim * 1000 ≤ s.gau.l)
  | _ => false

/-- A kick of the watchdog (R164). -/
def State.kick (s : State) (n : Nat) : State :=
  let q := s.sq n
  let s1 := (s.setSq n { q with kick := s.gau.l, missed := false }).pmcSeq n 12
  if s.fl .SEQ_WD 31 30 n = 2 then
    s1.sample 7 n (Int.fdiv (s.rowBase + (s.fl .SEQ_WD 15 0 n * 1000 * 2 ^ 40 : Nat) - s.tc) (2 ^ 40))
  else s1

/-! ### Events (R155) -/

/-- The first pending event of a list that is due. -/
def State.firstDue (s : State) : List Ev → Option Ev
  | [] => none
  | e :: es => if s.due40 e.t then some e else s.firstDue es

/-- An event is delivered: to SELF as a TIMER message; no block's chapter states another event (R155). -/
def State.eventDue (s : State) (k : Nat) : State :=
  match s.firstDue (s.clu k).evs with
  | none => s
  | some e =>
    let s1 := s.setClu k { s.clu k with evs := (s.clu k).evs.erase e }
    if e.port = 15 then s1.deliver e.n 15 ⟨0x0F, e.code, wordsOf 2 e.t⟩ else s1

/-! ### Image loads (R167, R168) -/

/-- Bytes `a` to `a + n` of an image. -/
def sub (b : List Byte) (a n : Nat) : List Byte := (b.drop a).take n

/-- The failure code of an image, by the checks of R168 up to RUNNING; 0 where all pass. -/
def State.imageCheck (s : State) (k mask : Nat) (img : List Byte) (sigOk : Bool) (ownerHash : List Byte)
    (ownerLock : Bool) (rollback : Nat → Nat) : Nat :=
  let pl := leNat (sub img 8 4)
  let cl := leNat (sub img 12 4)
  let dl := leNat (sub img 16 4)
  let entry := leNat (sub img 20 2)
  let target := leNat (sub img 6 1)
  let signed := bitOn (leNat (sub img 7 1)) 0
  let body := sub img 256 (pl + cl + dl)
  if sub img 0 4 ≠ [0x54, 0x42, 0x58, 0x4F] ∨ leNat (sub img 4 2) ≠ 1 ∨ pl > 16384 ∨ cl > 32768 ∨ dl > 65536
      ∨ pl % 4 ≠ 0 ∨ cl % 4 ≠ 0 ∨ dl % 4 ≠ 0 ∨ entry % 4 ≠ 0 ∨ pl ≤ entry ∨ 3 < leNat (sub img 22 1) then 1
  else if 2 < target ∨ (target = 1 ∧ k ≠ 0) ∨ (target = 2 ∧ k = 0) then 2
  else if sub img 32 32 ≠ Config.sha256 (sub img 0 32 ++ body) then 3
  else if (ownerLock ∧ ¬ (signed ∧ Config.sha256 (sub img 64 64) = ownerHash ∧ sigOk))
      ∨ (¬ ownerLock ∧ signed ∧ ¬ sigOk) then 4
  else if leNat (sub img 24 4) < rollback (leNat (sub img 22 1)) then 5
  else if (List.range 16).any fun i => bitOn mask i && decide ((s.sq (16 * k + i)).st ≠ .stopped) then 6
  else 0

/-- The memories, SEQ_IMG and ENTRY of one target (R168). -/
def State.loadOne (s : State) (n : Nat) (img : List Byte) : State :=
  let pl := leNat (sub img 8 4)
  let cl := leNat (sub img 12 4)
  let dl := leNat (sub img 16 4)
  (s.setSq n { s.sq n with
    pMem := memPut [] 0 (sub img 256 pl)
    cMem := memPut [] 0 (sub img (256 + pl) cl)
    dMem := memPut [] 0 (sub img (256 + pl + cl) dl)
    img := sub img 32 32 }).setFl .SEQ_CTL 15 0 (leNat (sub img 20 2)) n

/-- Every target of a load (R168). -/
def State.loadAll (s : State) (k mask : Nat) (img : List Byte) : State :=
  (List.range 16).foldl (fun t i => if bitOn mask i then t.loadOne (16 * k + i) img else t) s

end Sys2Proof.Machine
end

