-- ==== Sys2Proof/Machine/Keys.lean ====
section
/-! DEFINITION. Key slots, the crypto lanes, tamper, the fuses and the attested reports (chapter 13, R286 to
R302). -/

namespace Sys2Proof.Machine

/-! ### Slots (R286 to R290, R294) -/

/-- Slot n. -/
def State.kslot (s : State) (n : Nat) : KeySlot := s.key.slots.get n KeySlot.empty
/-- Slot n becomes `k`. -/
def State.setKslot (s : State) (n : Nat) (k : KeySlot) : State :=
  { s with key := { s.key with slots := s.key.slots.set n k } }

/-- GEN of a commit word. -/
def KeySlot.gen (k : KeySlot) : Nat := bits k.commit 23 0
/-- BANK of a commit word. -/
def KeySlot.bank (k : KeySlot) : Nat := bits k.commit 24 24
/-- The bank in force. -/
def KeySlot.cur (k : KeySlot) : KeyBank := if k.bank = 1 then k.b1 else k.b0
/-- A commit word made of its low half (R286). -/
def commitWord (w : Nat) : Nat := (2 ^ 32 - 1 - w % 2 ^ 32) * 2 ^ 32 + w % 2 ^ 32
/-- A commit word is corrupt (R287). -/
def KeySlot.corrupt (k : KeySlot) : Bool := decide (k.commit ≠ 0 ∧ commitWord (bits k.commit 31 0) ≠ k.commit)
/-- The tag of the bank in force is right (R289). -/
def KeySlot.tagOk (k : KeySlot) (n : Nat) : Bool :=
  decide (k.cur.tag = (Config.keyTag n k.bank k.gen k.cur.attr k.cur.key).toNat)

/-- The state of a slot and ANC (R290, R294): 0 EMPTY, 1 VALID, 2 INVALID, 3 BADTAG. A key has at most five
generations (R288), which bounds the check of the ancestors. -/
def State.slotState (s : State) : Nat → Nat → Nat × Bool
  | 0, _ => (2, true)
  | f + 1, n =>
    let k := s.kslot n
    if k.commit = 0 then (0, false)
    else if k.corrupt then (3, false)
    else if bitOn k.commit 25 then (2, false)
    else if k.bad || !k.tagOk n then (3, false)
    else if bitOn k.cur.attr 23 then
      let p := bits k.cur.attr 21 16
      if (s.slotState f p).1 = 1 ∧ (s.kslot p).gen = bits k.cur.attr 47 24 then (1, false) else (2, true)
    else (1, false)

/-- STATE of a slot (R290). -/
def State.kst (s : State) (n : Nat) : Nat := (s.slotState 6 n).1

/-- The tag of a slot is checked; a failure sets BADTAG and raises KEY_BADTAG (R290). -/
def State.checkSlot (s : State) (n : Nat) : State :=
  let k := s.kslot n
  if k.commit ≠ 0 ∧ (k.corrupt ∨ (¬ bitOn k.commit 25 ∧ ¬ k.tagOk n)) then
    (s.setKslot n { k with bad := true }).fault 25 n
  else s

/-- Slot t derives from slot p, at any depth (R294). -/
def State.descends (s : State) (p : Nat) : Nat → Nat → Bool
  | 0, _ => false
  | f + 1, t =>
    let a := (s.kslot t).cur.attr
    bitOn a 23 && (decide (bits a 21 16 = p) || s.descends p f (bits a 21 16))

/-! ### HMAC-SHA256 (R293) -/

/-- Each byte combined with a pad byte. -/
def xorPad (k : List Byte) (p : Byte) : List Byte := (k ++ List.replicate (64 - k.length) 0).map (· ^^^ p)

/-- HMAC with SHA-256, for keys of at most 64 bytes. -/
def hmac (k m : List Byte) : List Byte :=
  Config.sha256 (xorPad k 0x5C ++ Config.sha256 (xorPad k 0x36 ++ m))

/-- "KC8840-DERIVE" in ASCII. -/
def deriveLabel : List Byte := [0x4B, 0x43, 0x38, 0x38, 0x34, 0x30, 0x2D, 0x44, 0x45, 0x52, 0x49, 0x56, 0x45]

/-- The input of the counter-mode KDF (R293). -/
def deriveInput (slot attr ctx : Nat) : List Byte :=
  bytesBE 4 1 ++ deriveLabel ++ [0] ++ bytesBE 1 slot ++ bytesBE 8 attr ++ bytesBE 4 ctx ++ bytesBE 4 0x100

/-- KEY as a slot keeps it: 32 bytes, of which TYPE 1 uses the first 16 (R288). -/
def fitKey (typ : Nat) (k : List Byte) : List Byte :=
  let l := (k ++ List.replicate 32 0).take 32
  if typ = 1 then l.take 16 ++ List.replicate 16 0 else l

/-! ### Operations (R291 to R293) -/

/-- The combination of TYPE and USE is permitted (R288). -/
def typeUseOk (typ use : Nat) : Bool :=
  decide (use ≠ 0)
    && (!bitOn use 0 || decide (typ = 1 ∨ typ = 2 ∨ typ = 3))
    && (!bitOn use 1 || decide (typ = 4))
    && (!bitOn use 2 || decide (typ = 3 ∨ typ = 5))
    && (!bitOn use 3 || decide (typ = 2))

/-- TYPE and USE as staged. -/
def State.opType (s : State) : Nat := bits s.key.attr 3 0
/-- USE as staged. -/
def State.opUse (s : State) : Nat := bits s.key.attr 11 8

/-- The bytes of the staged KEY_DATA words (R291). -/
def State.keyData (s : State) (n : Nat) : List Byte := (List.range n).flatMap fun w => bytesLE 4 (s.key.data.get w 0)

/-- What every operation that writes a key is judged for: TYPE and USE, then the limit of GEN (R287, R288). -/
def State.judgeNewKey (s : State) (slot : Nat) : Code :=
  if ¬ typeUseOk s.opType s.opUse then .attr
  else if 0xFFFFFF ≤ (s.kslot slot).gen then .range
  else .none

/-- The parent is VALID and has the use. -/
def State.judgeParent (s : State) (p useBit : Nat) : Code :=
  if s.kst p = 3 then .badtag
  else if s.kst p ≠ 1 then .invalid
  else if ¬ bitOn (s.kslot p).cur.attr (8 + useBit) then .attr
  else .none

/-- The judgement of a key operation (R291): KEY_OP as written. -/
def State.judgeKey (s : State) (v : Nat) : Code :=
  let op := bits v 26 24
  let p := bits v 21 16
  let slot := bits v 13 8
  if bits (s.hwOf .KEY_STAT) 31 30 = 1 then .busy
  else if op = 6 then .none
  else if op = 0 ∨ op = 7 then .range
  else if s.key.conds ≠ [] then .tamper
  else match op with
    | 1 => s.judgeNewKey slot
    | 2 => if ¬ s.on .KEY_CTL 0 then .attr else s.judgeNewKey slot
    | 3 =>
      match s.judgeParent p 3 with
      | .none =>
        (match Config.unwrap (s.kslot p).cur.key (s.keyData 10) with
         | none => .unwrapFail
         | some _ => s.judgeNewKey slot)
      | c => c
    | 4 =>
      match s.judgeParent p 2 with
      | .none =>
        if 4 ≤ bits (s.kslot p).cur.attr 51 48 ∨ slot = p ∨ s.descends slot 6 p then .range
        else s.judgeNewKey slot
      | c => c
    | _ => if s.kst slot = 0 then .invalid else if 0xFFFFFF ≤ (s.kslot slot).gen then .range else .none

/-- A lane that holds slot n or a descendant of it clears its register (R296). -/
def State.clearLanes (s : State) (n : Nat) : State :=
  { s with key := { s.key with lanes := s.key.lanes.filter fun l => l.2.1 ≠ n ∧ ¬ s.descends n 6 l.2.1 } }

/-- The commit word that an operation writes (R292). -/
def State.newCommit (s : State) (op slot : Nat) : Nat :=
  let k := s.kslot slot
  if op = 5 then k.bank * 2 ^ 24 + 2 ^ 25 + (k.gen + 1)
  else (if k.commit = 0 then 0 else 1 - k.bank) * 2 ^ 24 + (k.gen + 1)

/-- The new key takes effect at the commit write (R292, R296). -/
def State.commitKey (s : State) (slot attr : Nat) (key : List Byte) : State :=
  let k := s.kslot slot
  let w := s.newCommit 1 slot
  let new := bits w 24 24
  let b : KeyBank := ⟨key, attr, (Config.keyTag slot new (bits w 23 0) attr key).toNat⟩
  let k1 : KeySlot := if new = 1 then { k with b1 := b } else { k with b0 := b }
  (s.clearLanes slot).setKslot slot { k1 with commit := commitWord w, bad := false }

/-- ATTR of a root key. -/
def State.rootAttr (s : State) : Nat := s.opUse * 2 ^ 8 + s.opType

/-- ATTR of a key derived from slot p (R293). -/
def State.childAttr (s : State) (p : Nat) : Nat :=
  let k := s.kslot p
  (bits k.cur.attr 51 48 + 1) * 2 ^ 48 + k.gen * 2 ^ 24 + 2 ^ 23 + p * 2 ^ 16 + s.rootAttr

/-- Zeroization by trigger bit `src` (R298). -/
def State.zeroize (s : State) (src : Nat) : State :=
  let s1 : State := { s with key := { s.key with
    slots := [], data := [], lanes := [], count := satAdd 255 s.key.count 1, zeroed := true } }
  let s2 := s1.setHw .KEY_TAMPER (16 + src) (16 + src) 1
  if s.coreOn then s2.fault 26 0 else s2

/-- Operation `v` on its slot, without what ends it. -/
def State.runKeyOp (s : State) (v : Nat) : State :=
  let p := bits v 21 16
  let slot := bits v 13 8
  match bits v 26 24 with
  | 1 =>
    let r := s.draw 256
    r.2.commitKey slot s.rootAttr (fitKey s.opType (bytesLE 32 r.1))
  | 2 => s.commitKey slot s.rootAttr (fitKey s.opType (s.keyData 8))
  | 3 =>
    match Config.unwrap (s.kslot p).cur.key (s.keyData 10) with
    | some k => s.commitKey slot s.rootAttr (fitKey s.opType k)
    | none => s
  | 4 =>
    let a := s.childAttr p
    s.commitKey slot a (fitKey s.opType (hmac (s.kslot p).cur.key (deriveInput slot a s.key.ctx)))
  | 5 =>
    let w := s.newCommit 5 slot
    (s.clearLanes slot).setKslot slot ⟨KeyBank.zero, KeyBank.zero, commitWord w, false⟩
  | _ => s.zeroize 4

/-- A released key operation: the tag of a slot that is read is checked first (R290). -/
def State.checkRead (s : State) (v : Nat) : State :=
  if bits v 26 24 = 3 ∨ bits v 26 24 = 4 then s.checkSlot (bits v 21 16) else s

/-- A key operation completes (R291). -/
def State.doneKey (s : State) (v : Nat) : State :=
  let s1 := (s.runKeyOp v).clearStaged
  (s1.setHw .KEY_STAT 31 30 2).setHw .KEY_STAT 7 0 0

/-- A write of a staged key parameter (R291). -/
def State.keyParam (s : State) (r : Requester) (k : KeyParam) (v : Nat) : State :=
  let s0 := if s.key.writer = none ∨ s.key.writer = some (reqId r) then s else s.clearStaged
  let q := { s0.key with writer := some (reqId r) }
  match k with
  | .attr => { s0 with key := { q with attr := putBits (putBits 0 11 8 (bits v 11 8)) 3 0 (bits v 3 0) } }
  | .ctx => { s0 with key := { q with ctx := v } }
  | .data w => { s0 with key := { q with data := q.data.set w.val v } }

/-! ### Lanes (R295) -/

/-- TYPE fits the algorithm: use bit 0 PTP_AUTH with `typ` TYPE needed, use bit 1 NTS_MASTER. -/
def State.laneLoads (s : State) (slot use typ : Nat) : Bool :=
  decide (s.kst slot = 1) && bitOn (s.kslot slot).cur.attr (8 + use) && decide (bits (s.kslot slot).cur.attr 3 0 = typ)

/-- An operation on a lane: the key it runs under, or none where the load fails (R295). -/
def State.laneKey (s : State) (lane slot use typ : Nat) : Option (List Byte) × State :=
  let h := (slot, (s.kslot slot).gen)
  if s.key.lanes.any fun l => l.1 == lane && l.2 == h then (some (s.kslot slot).cur.key, s)
  else
    let s1 := s.checkSlot slot
    if s1.laneLoads slot use typ then
      (some (s.kslot slot).cur.key, { s1 with key := { s1.key with lanes := s1.key.lanes.set lane h } })
    else (none, s1)

/-! ### Fuses (R299, R300) -/

/-- The bytes of the staged hash. -/
def State.stagedHash (s : State) : List Byte := (List.range 8).flatMap fun w => bytesLE 4 (s.fuses.staged.get w 0)

/-- A staged hash has a 0 where a fuse is blown. -/
def missesBlown (old new : List Byte) : Bool := (old.zip new).any fun p => (p.1 &&& ~~~p.2) != 0

/-- The judgement of a fuse command (R300): ATT_FUSE_CMD as written. -/
def State.judgeFuse (s : State) (v : Nat) : Code :=
  let fresh : Bool := match s.fuses.armAt with
    | some t => decide (s.wt ≤ t + 1000000)
    | none => false
  if s.fuses.blow.isSome then .busy
  else if !fresh then .stale
  else match bits v 18 16 with
    | 0 => if s.fuses.debugClose then .range else .none
    | 1 => if s.fuses.ownerLock ∨ ¬ s.fuses.hashv then .range else .none
    | 2 =>
      if s.fuses.hashv ∨ s.fuses.ownerLock ∨ (s.stagedHash.all (· == 0)) ∨ missesBlown s.fuses.hash s.stagedHash then
        .range
      else .none
    | 3 => .range
    | f => if bits v 5 0 ≤ s.fuses.rollback.get (f - 4) 0 then .range else .none

/-- The value of a fuse before a command (R308). -/
def State.fuseOld (s : State) (f : Nat) : Nat :=
  match f with
  | 0 => s.fuses.debugClose.toNat
  | 1 => s.fuses.ownerLock.toNat
  | 2 => s.fuses.hashv.toNat
  | _ => s.fuses.rollback.get (f - 4) 0

/-- The value after a command (R308). -/
def fuseNew (v : Nat) : Nat := if bits v 18 16 < 4 then 1 else bits v 5 0

/-- A released fuse command: the blow is under way (R300). -/
def State.startBlow (s : State) (v : Nat) : State :=
  let s1 : State := { s with fuses := { s.fuses with blow := some (bits v 18 16, fuseNew v), armAt := none } }
  (s1.setHw .ATT_FUSE_STAT 31 30 1).setHw .ATT_FUSE_STAT 7 0 0

/-- The blow completes (R299, R300). -/
def State.blown (s : State) (f v : Nat) : State :=
  let q := { s.fuses with blow := none }
  let q1 : Fuses := match f with
    | 0 => { q with debugClose := true }
    | 1 => { q with ownerLock := true }
    | 2 => { q with hashv := true, hash := s.stagedHash }
    | _ => { q with rollback := q.rollback.set (f - 4) v }
  ({ s with fuses := q1 } : State).setHw .ATT_FUSE_STAT 31 30 2

/-- A write of ATT_FUSE_ARM: the arming value, or any other (R300). -/
def State.armFuse (s : State) (v : Nat) : State :=
  { s with fuses := { s.fuses with armAt := if v = 0x46555345 then some s.wt else none } }

/-! ### Reports (R301, R302) -/

/-- Request slot q. -/
def State.attSlot (s : State) (q : Nat) : AttSlot := s.att.slots.get q AttSlot.reset
/-- Request slot q becomes `x`. -/
def State.setAttSlot (s : State) (q : Nat) (x : AttSlot) : State :=
  { s with att := { s.att with slots := s.att.slots.set q x } }

/-- A candidate number with its valid bit: [4:0] and [5]. -/
def candField (o : Option Nat) : Nat := match o with
  | some k => k + 32
  | none => 0

/-- The words of ATT_DEVID_PUB as bytes (R302). -/
def devidBytes : List Byte := (List.range 16).flatMap fun w => bytesLE 4 (Config.devidPub w).toNat

/-- Bytes 0 to 191 of a report, captured at one edge (R302). -/
def State.reportBody (s : State) (nonce : List Byte) (serial : Nat) : List Byte :=
  let flags := bit1 s.fuses.debugClose 0 + bit1 s.fuses.ownerLock 1 + bit1 (s.on .KEY_CTL 0) 2 + bit1 s.att.jtag 3
    + bit1 s.key.zeroed 4
  let status := s.busSt.code + s.gau.cause % 8 * 4 + s.twin.role.code * 32 + candField s.sel.sel * 2 ^ 8
    + candField s.sel.fsel * 2 ^ 16 + s.clockClass % 256 * 2 ^ 24
  let quality := s.clockAcc % 256 + s.fl .GAU_UTC 15 0 * 2 ^ 16
  [0x4B, 0x43, 0x41, 0x54] ++ bytesLE 2 1 ++ bytesLE 2 flags ++ bytesLE 8 serial ++ nonce
    ++ bytesLE 4 s.gfr ++ bytesLE 8 s.gns ++ bytesLE 4 s.busBound ++ bytesLE 4 status ++ bytesLE 4 quality
    ++ bytesLE 4 s.gau.n ++ bytesLE 4 0x88400100 ++ bytesLE 8 s.log.seq ++ bytesLE 8 s.log.link
    ++ ((s.sq s.servoTs).img ++ List.replicate 32 0).take 32 ++ (List.range 4).flatMap (fun i => bytesLE 4 (s.fuses.rollback.get i 0))
    ++ bytesLE 4 Config.huachera.toNat ++ List.replicate 12 0 ++ Config.sha256 devidBytes

/-- GO of a request slot (R301). -/
def State.attGo (s : State) (q : Nat) : State :=
  let x := s.attSlot q
  if x.st = 1 then s
  else if ¬ s.warden.up then s.setAttSlot q { x with st := 3, code := Code.wardenDown.num }
  else if ¬ s.coreOn then s.setAttSlot q { x with st := 3, code := Code.coreOff.num }
  else
    let nonce := (List.range 8).flatMap fun w => bytesLE 4 (x.nonce.get w 0)
    let s1 : State := { s with att := { s.att with serial := s.att.serial + 1 } }
    s1.setAttSlot q { x with st := 1, code := 0, cap := s.reportBody nonce (s.att.serial + 1), rep := [] }

/-- The code that refuses a GO (R301). -/
def State.attRefuses (s : State) (q : Nat) : Code :=
  if (s.attSlot q).st = 1 then .busy else if ¬ s.warden.up then .wardenDown
  else if ¬ s.coreOn then .coreOff else .none

/-! ### The commands that no gate holds -/


/-- KEY_SWEEP (R290). -/
def execKeySweep (s : State) : Res :=
  .next (if s.atSec ∧ s.fresh 0x24 ∧ s.coreOn then (List.range 64).foldl State.checkSlot (s.fire 0x24) else s)

/-- A tamper source acts (R297). -/
def State.tamperOn (s : State) (src : Nat) : Bool := decide (src = 0) || s.on .KEY_TAMPER src

/-- TAMPER_TRIGGER (R297, R298, R306). -/
def execTamperTrigger (src : Fin 4) (s : State) : Res :=
  .next (if s.tamperOn src then
    let s1 : State := { s with key := { s.key with conds := src.val :: s.key.conds.filter (· ≠ src.val) } }
    let s2 := s1.zeroize src
    s2.recordDeferred (s2.mkRec 10 (bits (s2.hwOf .KEY_TAMPER) 20 16) s2.key.count 0 .hardware .none true)
  else s)

/-- TAMPER_CONDITION_END (R291). -/
def execTamperConditionEnd (src : Fin 4) (s : State) : Res :=
  .next { s with key := { s.key with conds := s.key.conds.filter (· ≠ src.val) } }

/-- FUSE_BLOW_DONE (R300). -/
def execFuseBlowDone (s : State) : Res :=
  .next (match s.fuses.blow with
    | some (f, v) => s.blown f v
    | none => s)

/-- JTAG_SESSION (R299, R306). -/
def execJtagSession (s : State) : Res :=
  .next (if s.fuses.debugClose then s
    else
      let s1 : State := { s with att := { s.att with jtag := true } }
      s1.recordDeferred (s1.mkRec 13 0 0 0 .hardware .none true))

/-- REPORT_SIGNED (R301, R302). -/
def execReportSigned (q : Fin 16) (s : State) : Res :=
  let x := s.attSlot q
  .next (if x.st = 1 ∧ s.warden.up then s.setAttSlot q { x with st := 2, rep := x.cap ++ Config.sign x.cap } else s)

/-- VBAT_LOSS: the slots and KEY_TAMPER.EN are lost (R297, R298). -/
def execVbatLoss (s : State) : Res :=
  .next (({ s with key := { s.key with slots := [], lanes := [] } } : State).setFl .KEY_TAMPER 3 1 0)

end Sys2Proof.Machine
end

