-- ==== Sys2Proof/Machine/Net.lean ====
section
/-! DEFINITION. The bytes of frames: what the parser of R195 finds, the IP and UDP frames that TSV and AUD send (R214, R221, R253), and the
fields of received PTP messages, NTP requests and RTP packets (chapters 9 to 11). The layouts are those of the standards that the spec names;
frames to send are without FCS, received ones with it. -/

namespace Sys2Proof.Machine

/-! ### Parsing (R195) -/

/-- Byte `i` of a frame. -/
def fb (l : List Byte) (i : Nat) : Nat := (l.getD i 0).toNat
/-- The big-endian 16 bits at `i`. -/
def fh (l : List Byte) (i : Nat) : Nat := fb l i * 256 + fb l (i + 1)
/-- The big-endian number of `n` bytes at `i`. -/
def fn (l : List Byte) (i n : Nat) : Nat := beNat (sub l i n)

/-- What the parser finds (R195): PCP and VID of the outer tag, EtherType, the place behind it, the UDP header with whether
it is over IPv6, and the group bit. -/
structure Parsed where
  pcp : Nat
  vid : Nat
  etype : Nat
  off : Nat
  udp : Option (Nat × Bool)
  mcast : Bool
  deriving DecidableEq, Repr

/-- A VLAN tag starts at `i`. -/
def isTag (l : List Byte) (i : Nat) : Bool := decide (fh l i = 0x8100 ∨ fh l i = 0x88A8)

/-- Where the EtherType lies. -/
def typeAt (l : List Byte) : Nat := if isTag l 12 then (if isTag l 16 then 20 else 16) else 12

/-- The parse of a frame (R195). -/
def parseFrame (l : List Byte) : Parsed :=
  let t := typeAt l
  let e := fh l t
  let o := t + 2
  { pcp := if isTag l 12 then fh l 14 / 2 ^ 13 else 0
    vid := if isTag l 12 then fh l 14 % 2 ^ 12 else 0
    etype := e
    off := o
    udp := if e = 0x0800 ∧ fb l (o + 9) = 17 then some (o + fb l o % 16 * 4, false)
      else if e = 0x86DD ∧ fb l (o + 6) = 17 then some (o + 40, true) else none
    mcast := decide (fb l 0 % 2 = 1) }

/-- The UDP destination port of a frame. -/
def Parsed.dport (x : Parsed) (l : List Byte) : Option Nat := x.udp.map fun u => fh l (u.1 + 2)

/-- The payload of the UDP header at `u`, by its length field. -/
def udpPay (l : List Byte) (u : Nat) : List Byte := sub l (u + 8) (fh l (u + 4) - 8)

/-- Where the PTP header of a frame lies (R213). -/
def ptpAt (l : List Byte) : Option Nat :=
  let x := parseFrame l
  if x.etype = 0x88F7 then some x.off
  else match x.udp with
    | some (u, _) => if fh l (u + 2) = 319 then some (u + 8) else none
    | none => none

/-- The PAUSE or PFC frame that a frame is (R200; MAC control of IEEE 802.3). -/
def pauseIn (l : List Byte) : Option PauseFrame :=
  if fh l 12 ≠ 0x8808 then none
  else match fh l 14 with
    | 0x0001 => some (.pause (BitVec.ofNat 16 (fh l 16)))
    | 0x0101 => some (.pfc (l.getD 17 0) (Vector.ofFn fun c : Fin 8 => BitVec.ofNat 16 (fh l (18 + 2 * c.val))))
    | _ => none

/-! ### Checksums (R214) -/

/-- The bytes of a frame from `i` on are replaced. -/
def splice (l : List Byte) (i : Nat) (w : List Byte) : List Byte := l.take i ++ w ++ l.drop (i + w.length)

/-- A one's-complement sum folded to 16 bits. -/
def fold16 (n : Nat) : Nat := let m := n % 65536 + n / 65536; m % 65536 + m / 65536

/-- The checksum after the words `old` have become `new` (RFC 1624, R214). -/
def updateSum (hc : Nat) (old new : List Nat) : Nat :=
  65535 - fold16 (fold16 ((65535 - hc) + (old.map fun m => 65535 - m).sum + new.sum))

/-- The 16-bit words of a part of a frame. -/
def words16 (l : List Byte) (i n : Nat) : List Nat := (List.range n).map fun k => fh l (i + 2 * k)

/-- The one's-complement sum of the 16-bit words of some bytes. -/
def onesSum (l : List Byte) : Nat := fold16 (fold16 (words16 l 0 ((l.length + 1) / 2)).sum)

/-- The frame with seconds, nanoseconds and correction written at PTP header `h` (R213), and its UDP checksum updated
(R214). -/
def insertTime (l : List Byte) (h sec ns frac : Nat) : List Byte :=
  let corr := (beNat (sub l (h + 8) 8) + frac) % 2 ^ 64
  let l1 := splice (splice l (h + 8) (bytesBE 8 corr)) (h + 34) (bytesBE 6 sec ++ bytesBE 4 ns)
  match (parseFrame l).udp with
  | none => l1
  | some (u, v6) =>
    let hc := fh l (u + 6)
    if hc = 0 ∧ ¬ v6 then l1
    else
      let n := updateSum hc (words16 l (h + 8) 4 ++ words16 l (h + 34) 5) (words16 l1 (h + 8) 4 ++ words16 l1 (h + 34) 5)
      splice l1 (u + 6) (bytesBE 2 (if n = 0 ∧ v6 then 0xFFFF else n))

/-- The pseudo header of a UDP datagram of `n` bytes. -/
def pseudoHead (v6 : Bool) (src dst n : Nat) : List Byte :=
  if v6 then bytesBE 16 src ++ bytesBE 16 dst ++ bytesBE 4 n ++ bytesBE 4 17
  else bytesBE 4 src ++ bytesBE 4 dst ++ bytesBE 2 17 ++ bytesBE 2 n

/-- The UDP checksum of a received frame is right, or none is there (R250). -/
def udpSumOk (l : List Byte) : Bool :=
  let x := parseFrame l
  match x.udp with
  | none => true
  | some (u, v6) =>
    let n := fh l (u + 4)
    let a := if v6 then fn l (x.off + 8) 16 else fn l (x.off + 12) 4
    let b := if v6 then fn l (x.off + 24) 16 else fn l (x.off + 16) 4
    decide (fh l (u + 6) = 0) || decide (onesSum (pseudoHead v6 a b n ++ sub l u n) = 65535)

/-! ### Frames that the device builds (R221, R253) -/

/-- The number of an address from the words of a register: an IPv4 address is the first word; word w of an IPv6 address holds bytes 4w to
4w + 3, the first in bits 7 to 0 (R4; chapter 10, Registers). -/
def addrOf (v6 : Bool) (w : List Word) : Nat :=
  if v6 then beNat (bytesOfWords (w.take 4)) else (w.getD 0 0).toNat

/-- Word `j` of an address in its registers. -/
def addrWord (v6 : Bool) (a j : Nat) : Nat :=
  if v6 then leNat (sub (bytesBE 16 a) (4 * j) 4) else if j = 0 then a else 0

/-- A VLAN tag where `on`. -/
def vlanTag (on : Bool) (pcp vid : Nat) : List Byte := if on then bytesBE 2 0x8100 ++ bytesBE 2 (pcp * 2 ^ 13 + vid) else []

/-- The MAC address of an IP multicast group. -/
def groupMac (v6 : Bool) (addr : Nat) : Nat := if v6 then 0x333300000000 + addr % 2 ^ 32 else 0x01005E000000 + addr % 2 ^ 23

/-- The least frame, without FCS. -/
def padFrame (l : List Byte) : List Byte := l ++ List.replicate (60 - l.length) 0

/-- A frame of Ethernet. -/
def ethFrame (dmac smac : Nat) (tags : List Byte) (etype : Nat) (pay : List Byte) : List Byte :=
  padFrame (bytesBE 6 dmac ++ bytesBE 6 smac ++ tags ++ bytesBE 2 etype ++ pay)

/-- A UDP datagram, with a checksum where `sum`. -/
def udpBytes (n : Net) (sum : Bool) (pay : List Byte) : List Byte :=
  let len := 8 + pay.length
  let head (c : Nat) : List Byte := bytesBE 2 n.sport ++ bytesBE 2 n.dport ++ bytesBE 2 len ++ bytesBE 2 c
  let c := 65535 - onesSum (pseudoHead n.v6 n.src n.dst len ++ head 0 ++ pay)
  head (if ¬ sum then 0 else if c = 0 then 0xFFFF else c) ++ pay

/-- An IP header over `pay`. What no rule states of it (identification, flags, flow label, ECN) are values of the configuration. -/
def ipHead (n : Net) (dscp ttl : Nat) (pay : List Byte) : List Byte :=
  let tos := dscp * 4 + Config.ipEcn % 4
  if n.v6 then
    bytesBE 4 (6 * 2 ^ 28 + tos * 2 ^ 20 + Config.ip6Flow % 2 ^ 20) ++ bytesBE 2 pay.length ++ bytesBE 1 17 ++ bytesBE 1 ttl
      ++ bytesBE 16 n.src ++ bytesBE 16 n.dst
  else
    let head (c : Nat) : List Byte :=
      bytesBE 1 0x45 ++ bytesBE 1 tos ++ bytesBE 2 (20 + pay.length) ++ bytesBE 2 (Config.ipIdent pay) ++ bytesBE 2 Config.ipFrag
        ++ bytesBE 1 ttl ++ bytesBE 1 17 ++ bytesBE 2 c ++ bytesBE 4 n.src ++ bytesBE 4 n.dst
    head (65535 - onesSum (head 0))

/-- A UDP frame. -/
def udpFrame (n : Net) (dscp ttl : Nat) (sum : Bool) (pay : List Byte) : List Byte :=
  let u := udpBytes n sum pay
  ethFrame n.dmac n.smac n.tags (if n.v6 then 0x86DD else 0x0800) (ipHead n dscp ttl u ++ u)

/-- The addresses of an answer to a UDP frame: those of the frame the other way round, with its tags. -/
def netBack (l : List Byte) : Net :=
  let x := parseFrame l
  let u := (x.udp.map Prod.fst).getD 0
  let v6 := (x.udp.map Prod.snd).getD false
  { dmac := fn l 6 6, smac := fn l 0 6, tags := sub l 12 (typeAt l - 12), v6 := v6
    src := if v6 then fn l (x.off + 24) 16 else fn l (x.off + 16) 4
    dst := if v6 then fn l (x.off + 8) 16 else fn l (x.off + 12) 4
    sport := fh l (u + 2), dport := fh l u }

/-! ### What is delivered to TSV -/

/-- The messages that the commands of TSV take from its receive queues. -/
inductive TsvKind where
  | ptp | request | cancel | ntp | nts
  deriving DecidableEq, Repr

/-- TLVs one after the other: type and value. -/
def tlvList : Nat → List Byte → List (Nat × List Byte)
  | 0, _ => []
  | f + 1, l => if l.length < 4 ∨ l.length < 4 + fh l 2 then [] else (fh l 0, sub l 4 (fh l 2)) :: tlvList f (l.drop (4 + fh l 2))

/-- The kind of a PTP messageType. -/
def ptpKindOf (t : Nat) : Option PtpKind :=
  match t with
  | 0 => some .sync
  | 1 => some .delayReq
  | 2 => some .pdelayReq
  | 3 => some .pdelayResp
  | 8 => some .followUp
  | 9 => some .delayResp
  | 10 => some .pdelayRespFollowUp
  | 11 => some .announce
  | 12 => some .signaling
  | _ => none

/-- The messageType of a kind. -/
def ptpTypeOf : PtpKind → Nat
  | .sync => 0
  | .delayReq => 1
  | .pdelayReq => 2
  | .pdelayResp => 3
  | .followUp => 8
  | .delayResp => 9
  | .pdelayRespFollowUp => 10
  | .announce => 11
  | .signaling => 12

/-- The bytes of a message ahead of its TLVs. -/
def ptpFixed : PtpKind → Nat
  | .sync | .followUp | .delayReq | .signaling => 44
  | .announce => 64
  | _ => 54

/-- A received PTP message: over UDP or not, over IPv6, its source address (the MAC address where not over UDP), whether it came by unicast,
its bytes from the PTP header on, and the frame that brought it. -/
structure PtpIn where
  udp : Bool
  v6 : Bool
  addr : Nat
  uc : Bool
  msg : List Byte
  f : RxFrame

/-- The PTP message of a frame (R195, R221). -/
def ptpIn (f : RxFrame) : Option PtpIn :=
  let l := f.bytes
  let x := parseFrame l
  if x.etype = 0x88F7 then some ⟨false, false, fn l 6 6, !x.mcast, sub l x.off (fh l (x.off + 2)), f⟩
  else match x.udp with
    | some (u, v6) =>
      if fh l (u + 2) = 319 ∨ fh l (u + 2) = 320 then
        some ⟨true, v6, if v6 then fn l (x.off + 8) 16 else fn l (x.off + 12) 4, !x.mcast, sub (udpPay l u) 0 (fh l (u + 10)), f⟩
      else none
    | none => none

/-- Its kind: none where the messageType is another, or the message is shorter than its kind or than its messageLength. -/
def PtpIn.kind (m : PtpIn) : Option PtpKind :=
  match ptpKindOf (fb m.msg 0 % 16) with
  | some k => if ptpFixed k ≤ m.msg.length ∧ m.msg.length = fh m.msg 2 then some k else none
  | none => none

/-- Source port identity, sequenceId, logMessageInterval and correctionField. -/
def PtpIn.srcId (m : PtpIn) : Nat := fn m.msg 20 8
def PtpIn.srcPort (m : PtpIn) : Nat := fh m.msg 28
def PtpIn.seqId (m : PtpIn) : Nat := fh m.msg 30
def PtpIn.log (m : PtpIn) : Nat := fb m.msg 33
def PtpIn.corr (m : PtpIn) : Int := sext 64 (fn m.msg 8 8)
/-- twoStepFlag. -/
def PtpIn.twoStep (m : PtpIn) : Bool := bitOn (fb m.msg 6) 1
/-- The timestamp at offset 34. -/
def PtpIn.sec (m : PtpIn) : Nat := fn m.msg 34 6
def PtpIn.ns (m : PtpIn) : Nat := fn m.msg 40 4

/-- The TLVs of a message. -/
def PtpIn.tlvs (m : PtpIn) : List (Nat × List Byte) :=
  match m.kind with
  | some k => tlvList m.msg.length (m.msg.drop (ptpFixed k))
  | none => []

/-- The dataset of an Announce (R222). -/
def PtpIn.dataset (m : PtpIn) : Dataset where
  prio1 := m.msg.getD 47 0
  cls := m.msg.getD 48 0
  acc := m.msg.getD 49 0
  oslv := BitVec.ofNat 16 (fh m.msg 50)
  prio2 := m.msg.getD 52 0
  clockId := BitVec.ofNat 64 (fn m.msg 53 8)
  steps := BitVec.ofNat 16 (fh m.msg 61)
  timeSource := m.msg.getD 63 0

/-- cumulativeScaledRateOffset of an AS2020 Follow_Up: 0 without the Follow_Up information TLV (R225, R228). -/
def PtpIn.csro (m : PtpIn) : Nat :=
  match m.tlvs.find? fun t => decide (t.1 = 3 ∧ fn t.2 0 6 = 0x0080C2000001) with
  | some t => fn t.2 6 4
  | none => 0

/-- The AUTHENTICATION TLV, the last one of a message (R233). -/
def PtpIn.auth (m : PtpIn) : Option (List Byte) :=
  match m.tlvs.getLast? with
  | some t => if t.1 = 0x8009 then some t.2 else none
  | none => none

/-- The type that a negotiation TLV names (R229): none for a type that is never granted. -/
def grantOf (b : Nat) : Option GrantKind :=
  match b / 16 with
  | 11 => some .announce
  | 0 => some .sync
  | 9 => some .delayResp
  | _ => none

/-- The messageType of a grant type. -/
def grantType : GrantKind → Nat
  | .announce => 11
  | .sync => 0
  | .delayResp => 9

/-- The fields of an NTP packet from offset `o` on: offset, type and body. -/
def ntpFieldsFrom : Nat → Nat → List Byte → List (Nat × Nat × List Byte)
  | 0, _, _ => []
  | k + 1, o, l =>
    if l.length < 4 ∨ fh l 2 < 4 ∨ l.length < fh l 2 then []
    else (o, fh l 0, sub l 4 (fh l 2 - 4)) :: ntpFieldsFrom k (o + fh l 2) (l.drop (fh l 2))

/-- The extension fields of an NTP packet. -/
def ntpExts (m : List Byte) : List (Nat × Nat × List Byte) := ntpFieldsFrom m.length 48 (m.drop 48)

/-- The NTP packet of a frame: the UDP payload for port 123 (R235). -/
def ntpIn (f : RxFrame) : Option (List Byte) :=
  match (parseFrame f.bytes).udp with
  | some (u, _) => if fh f.bytes (u + 2) = 123 then some (udpPay f.bytes u) else none
  | none => none

/-- The kind of a frame for TSV. -/
def tsvKind (f : RxFrame) : Option TsvKind :=
  match ntpIn f with
  | some m => some (if (ntpExts m).any fun x => decide (x.2.1 = 0x0204) then .nts else .ntp)
  | none => match ptpIn f with
    | none => none
    | some m => match m.kind with
      | some .signaling => match m.tlvs.head? with
        | some t => some (if t.1 = 4 then .request else if t.1 = 6 then .cancel else .ptp)
        | none => some .ptp
      | _ => some .ptp

/-! ### RTP packets (R250) -/

/-- The place of the RTP header of a frame: that of its IPv4 UDP payload. -/
def rtpAt (l : List Byte) : Option Nat :=
  match (parseFrame l).udp with
  | some (u, false) => some (u + 8)
  | _ => none

/-- The bytes of an RTP header: with its contributing sources and extension. -/
def rtpHead (r : List Byte) : Nat :=
  let n := 12 + 4 * (fb r 0 % 16)
  if bitOn (fb r 0) 4 then n + 4 + 4 * fh r (n + 2) else n

/-- The payload of an RTP packet, without padding. -/
def rtpPay (r : List Byte) : List Byte :=
  let p := r.drop (rtpHead r)
  if bitOn (fb r 0) 5 then p.take (p.length - fb r (r.length - 1)) else p

end Sys2Proof.Machine
end

