-- ==== Sys2Proof/Machine/Tdc.lean ====
section
/-! DEFINITION. Interval measurement and background calibration (chapter 5, R107 to R121). -/

namespace Sys2Proof.Machine

/-! ### Calibrated units (R115 to R119) -/

/-- The number of a calibrated unit. -/
def calIdx : CalUnit → Nat
  | .tdc c ipB => 2 * c.val + ipB.toNat
  | .eth p rx => 48 + 2 * p.val + rx.toNat
  | .stl l rx => 64 + 2 * l.val + rx.toNat

/-- The unit that TDC_CAL_FAIL names for a calibrated unit: its channel, port or link. DESIGN CHOICE for ports and links (log 133): R338 gives
the source one channel per unit only, so the fence of R116 acts on the channel of the same number. -/
def calObj : CalUnit → Nat
  | .tdc c _ => c.val
  | .eth p _ => p.val
  | .stl l _ => l.val

/-- Tension holds the unit's generation and table (R121). -/
def State.calFrozen (s : State) : CalUnit → Bool
  | .tdc _ _ => false
  | .eth _ _ => !s.on .TDC_CTL 2
  | .stl _ _ => !s.on .TDC_CTL 3

/-- The hits of code `c` in a table; the nominal one has 2,048 in each of 512 codes (R118). -/
def tabHits (t : Option (Tab Nat)) (c : Nat) : Nat :=
  match t with
  | none => if c < 512 then 2048 else 0
  | some h => h.get c 0

/-- E[c]: the hits of codes 0 to c (R116). -/
def tabE (t : Option (Tab Nat)) (c : Nat) : Nat := ((List.range (c + 1)).map (tabHits t)).sum

/-- The length of the run of codes with hits from code 0 on. -/
def runLen (h : Tab Nat) : Nat := ((List.range 640).takeWhile fun c => h.get c 0 ≠ 0).length

/-- A pass is valid (R116). -/
def passValid (h : Tab Nat) : Bool :=
  let r := runLen h
  decide (448 ≤ r ∧ r ≤ 576) && (List.range 640).all fun c => decide (h.get c 0 ≤ 16384 ∧ (h.get c 0 = 0 ∨ c < r))

/-- A new pass begins at this edge. -/
def State.newPass (s : State) (u : Nat) : State :=
  s.setCalU u { s.calU u with pass := [], hits := 0, passAt := s.gau.l }

/-- A pass that holds its hits is tested (R116). -/
def State.testPass (s : State) (u : CalUnit) : State :=
  let x := s.calU (calIdx u)
  if passValid x.pass then s.setCalU (calIdx u) { x with ready := some x.pass }
  else ((s.newPass (calIdx u)).bump .TDC_CAL_STAT 31 16).fault 16 (calObj u)

/-- An injection into a unit (R115, R116). A unit whose table waits for its swap collects no hits (R117). -/
def State.inject (s : State) (u : CalUnit) (code : Nat) : State :=
  let x := s.calU (calIdx u)
  let s0 := match u with
    | .tdc c _ => s.pmcTime 2 c
    | _ => s
  if s.calFrozen u ∨ x.ready.isSome then s0
  else
    let s1 := s0.setCalU (calIdx u) { x with pass := x.pass.set code (x.pass.get code 0 + 1), hits := x.hits + 1 }
    if x.hits + 1 < 2 ^ 20 then s1 else s1.testPass u

/-- The swap of a unit is due: a table is ready and MIN_INT has passed since the last swap (R118). -/
def State.swapDue (s : State) (u : CalUnit) : Bool :=
  let x := s.calU (calIdx u)
  x.ready.isSome && !s.calFrozen u && match x.swapAt with
    | none => true
    | some t => decide (t + s.fl .TDC_CAL 31 16 * 1000000 ≤ s.gau.l)

/-- A ready table becomes the active table (R118). -/
def State.swapTable (s : State) (u : CalUnit) : State :=
  let x := s.calU (calIdx u)
  s.setCalU (calIdx u)
    { gen := if x.gen = 65535 then 1 else x.gen + 1, tab := x.ready, prev := some (x.gen, x.tab), pass := []
      hits := 0, passAt := s.gau.l, ready := none, swapAt := some s.gau.l, live := x.live, stamped := x.stamped, injAt := x.injAt }

/-- An injection into unit u at the present edge would collide: a live edge is in its lookahead delay of four G-clock periods, or it has
stamped one within the three periods after (R115). -/
def State.collides (s : State) (u : Nat) : Bool :=
  let near (n : Nat) (t : Option Nat) : Bool := t.any fun l => decide (s.gau.l < l + n)
  near 4 (s.calU u).live || near 7 (s.calU u).stamped

/-- A live edge with the present coarse edge enters the lookahead delay of unit u. -/
def State.enterDelay (s : State) (u : Nat) : State := s.setCalU u { s.calU u with live := some s.gau.l }

/-- Unit u stamps the live edge of the present coarse edge. -/
def State.markStamp (s : State) (u : Nat) : State :=
  s.setCalU u { s.calU u with live := some s.gau.l, stamped := some s.gau.l }

/-! ### Stamps and records (R107, R113, R114) -/

/-- A stamp whose coarse edge is the present edge (R107, R209). -/
def State.stampNow (s : State) (code : Nat) (ipB : Bool) (unit : Nat) : StampV :=
  { gfr := s.gfr, gns := s.gns, bound := s.busBound, state := s.busSt.code, l := s.gau.l, code := code, ipB := ipB
    gen := (s.calU unit).gen }

/-- The channel belongs to Tension (R120). -/
def State.isLbk (s : State) (c : Nat) : Bool :=
  (decide (c = s.fl .TDC_TEN 28 24) && s.on .TDC_CTL 1) || (decide (c = s.tdc.visitCh) && s.tdc.visit.isSome)

/-- The words of a record; `lost` is its GAP and LOST (R113). -/
def recordWords (type c src : Nat) (a : StampV) (b : Option StampV) (lone : Bool) (lost : Nat) : List Word :=
  let edges : Int := match b with
    | none => 0
    | some x => (x.l : Int) - a.l
  let bcode := (b.map StampV.code).getD 0
  let order := b.isSome && (decide (edges < 0) || (decide (edges = 0) && decide (a.code < bcode)))
  let same := b.isSome && decide (edges = 0) && decide (bcode = a.code)
  [ w32 (type * 2 ^ 28 + c * 2 ^ 23 + bit1 a.ipB 22 + bit1 (decide (lost ≠ 0)) 19 + bit1 order 18 + bit1 same 17
      + bit1 lone 16 + min lost 0xFFFF),
    w32 a.gfr ] ++ wordsOf 2 a.gns ++
  [ w32 a.bound, wrapTo 32 edges,
    w32 (a.state * 2 ^ 30 + src * 2 ^ 24 + bcode * 2 ^ 10 + a.code),
    w32 (a.gen * 2 ^ 16 + (b.map StampV.gen).getD 0) ]

/-- A record goes to the channel port of cluster 0, or is lost there (R114). A sequencer that takes no messages stores none. -/
def State.emitPort (s : State) (c : Nat) (w : Nat → List Word) : State :=
  let x := s.tdcCh c
  let n := s.fl .CLU_TDC_MAP (4 * (c % 8) + 3) (4 * (c % 8)) (c / 8)
  let m : Msg := ⟨0x20, c, w x.lostP⟩
  if ¬ s.listens n then s.deliver n 2 m
  else if ¬ s.room n 2 m then
    ((s.setTdcCh c { x with lostP := x.lostP + 1 }).bump .TDC_STAT 31 16 1 c).pmcTime 1 c
  else (s.setTdcCh c { x with lostP := 0 }).deliver n 2 m

/-- A record goes to the channel's ring in DRAM, or is lost there (R114). -/
def State.emitRing (s : State) (c : Nat) (w : Nat → List Word) : State :=
  let x := s.tdcCh c
  let len := s.fl .TDC_RING_LEN 20 0 c
  if (x.prod + 1) % len = s.fl .TDC_RING_CONS 19 0 c then
    ((s.setTdcCh c { x with lostR := x.lostR + 1 }).bump .TDC_STAT 31 16 1 c).pmcTime 1 c
  else
    (s.setTdcCh c { x with lostR := 0, prod := (x.prod + 1) % len }).memWrite 12 (s.inForce .TDC_RING_BASE c + 32 * x.prod)
      (bytesOfWords (w x.lostR))

/-- A record goes from the FIFO to its destinations (R114). -/
def State.storeRec (s : State) (c : Nat) (r : TdcRec) : State :=
  let w := recordWords r.type c r.src r.a r.b r.lone
  let s1 := if r.port then s.emitPort c w else s
  if r.ring then s1.emitRing c w else s1

/-- The oldest record of channel c leaves its FIFO, where 40 ns have passed since the one before: 25 M records per second (R110). -/
def State.drainRec (s : State) (c : Nat) : State :=
  let x := s.tdcCh c
  match x.fifo with
  | [] => s
  | r :: rest =>
    if x.drainAt ≤ s.gau.l then (s.setTdcCh c { x with fifo := rest, drainAt := s.gau.l + 40 }).storeRec c r else s

/-- A record of channel c goes to its FIFO; one that finds it full is lost at every destination (R114, R120). -/
def State.emit (s : State) (c type src : Nat) (a : StampV) (b : Option StampV) (lone : Bool) : State :=
  let x := s.tdcCh c
  let port := s.isLbk c || decide (s.fl .TDC_CFG 27 26 c ≠ 1)
  let ring := !s.isLbk c && decide (s.fl .TDC_CFG 27 26 c ≠ 0)
  if 256 ≤ x.fifo.length then
    ((s.setTdcCh c { x with lostP := x.lostP + port.toNat, lostR := x.lostR + ring.toNat }).bump .TDC_STAT 31 16
      (port.toNat + ring.toNat) c).pmcTime 1 c
  else (s.setTdcCh c { x with fifo := x.fifo ++ [⟨type, src, a, b, lone, port, ring⟩] }).drainRec c

/-! ### Edges (R107, R110, R111, R120) -/

/-- The interpolator still ignores edges: less than 3 ns have passed since its last stamp (R107). -/
def inDead (seen : Option (Nat × Nat)) (l code : Nat) : Bool :=
  match seen with
  | none => false
  | some (l0, c0) => decide (l < l0 + 3 ∨ (l = l0 + 3 ∧ c0 < code))

/-- One interpolator's last stamp. -/
def TdcCh.seen (x : TdcCh) (b : Bool) : Option (Nat × Nat) := if b then x.seenB else x.seenA

/-- An interpolator has stamped. -/
def TdcCh.mark (x : TdcCh) (b : Bool) (l code : Nat) : TdcCh :=
  if b then { x with seenB := some (l, code) } else { x with seenA := some (l, code) }

/-- The channel arms again at edge `l` (R111, R112). -/
def State.rearm (s : State) (c l : Nat) : State :=
  s.setTdcCh c { s.tdcCh c with
    nStart := 0, nStop := 0, start := none, stop := none, rearm := some l, tmo := s.inForce .TDC_TIMEOUT c }

/-- A channel is armed afresh by EN = 1. -/
def State.armTdc (s : State) (c : Nat) : State :=
  s.setTdcCh c { s.tdcCh c with
    nStart := 0, nStop := 0, turnB := false, start := none, stop := none, rearm := none
    tmo := s.inForce .TDC_TIMEOUT c }

/-- An edge of the start source in STAMP mode, or of the loopback channel, and whether it was stamped (R110, R120). DESIGN CHOICE: an
interpolator that ignores the DIV-th edge in its dead time keeps its turn, and the count of DIV begins again (log 131). -/
def State.stampEdge (s : State) (c div type src code : Nat) : Bool × State :=
  let x := s.tdcCh c
  if x.nStart + 1 < div then (false, s.setTdcCh c { x with nStart := x.nStart + 1 })
  else if inDead (x.seen x.turnB) s.gau.l code then
    (false, (s.setTdcCh c { x with nStart := 0 }).bump .TDC_STAT 15 0 1 c)
  else
    let u := 2 * c + x.turnB.toNat
    let a := s.stampNow code x.turnB u
    let s1 := (s.setTdcCh c { x.mark x.turnB s.gau.l code with nStart := 0, turnB := !x.turnB }).markStamp u
    (true, (s1.pmcTime 0 c).emit c type src a none false)

/-- An INTERVAL record is emitted when both edges are stamped (R111). -/
def State.closePair (s : State) (c : Nat) : State :=
  let x := s.tdcCh c
  match x.start, x.stop with
  | some a, some b =>
    (s.rearm c (max a.l b.l + 1)).emit c 2 (s.fl .TDC_CFG 21 16 c) a (some b) false
  | _, _ => s

/-- An edge in INTERVAL mode (R111): the prescalers count the selected edges after the re-arm edge, and of the DIV-th ones the
interpolator ignores those in its dead time. -/
def State.pairEdge (s : State) (c : Nat) (stop : Bool) (code : Nat) : State :=
  let x := s.tdcCh c
  let div := s.fl .TDC_DIV 23 0 c
  let have_ := if stop then x.stop.isSome else x.start.isSome
  let cnt := if stop then x.nStop else x.nStart
  let early : Bool := x.rearm.any fun r => decide (s.gau.l ≤ r)
  let count (n : Nat) : TdcCh := if stop then { x with nStop := n } else { x with nStart := n }
  if early ∨ have_ then s
  else if cnt + 1 < div then s.setTdcCh c (count (cnt + 1))
  else if inDead (x.seen stop) s.gau.l code then (s.setTdcCh c (count 0)).bump .TDC_STAT 15 0 1 c
  else
    let u := 2 * c + stop.toNat
    let a := s.stampNow code stop u
    let y := x.mark stop s.gau.l code
    (((s.setTdcCh c (if stop then { y with stop := some a } else { y with start := some a })).markStamp u).pmcTime 0 c).closePair c

/-- The output that the loopback channel visits. -/
def State.visiting (s : State) : Option Nat := s.tdc.visit.map fun v => v.1

/-- The selected edge of a source, rising or falling, is the start (or stop) edge of channel c (R108, R110, R120): the channel that
Tension holds takes the loopback of the output in visit. -/
def State.feeds (s : State) (c : Nat) (stop : Bool) (src : Nat) (fall : Bool) : Bool :=
  if stop then
    decide (s.fl .TDC_CFG 13 8 c = src) && (s.on .TDC_CFG 28 c == fall) && s.on .TDC_CFG 30 c && !s.isLbk c
  else
    (s.on .TDC_CFG 29 c == fall)
      && (if s.isLbk c then decide (s.visiting = some (src - 18) ∧ 18 ≤ src) else decide (s.fl .TDC_CFG 21 16 c = src))

/-- A start or stop edge of channel c goes through the lookahead delay to its interpolator (R107, R110, R111, R120). In STAMP mode both
interpolators take turns at the start source. -/
def State.tdcEdgeOp (s : State) (c : Nat) (stop : Bool) (code : Nat) : State :=
  let lbk := s.isLbk c
  let pair := s.on .TDC_CFG 30 c && !lbk
  let s0 := if pair then s.enterDelay (2 * c + stop.toNat) else (s.enterDelay (2 * c)).enterDelay (2 * c + 1)
  if lbk then
    match s.tdc.visit with
    | some (o, k, t) =>
      let r := s0.stampEdge c 1 4 (18 + o) code
      if r.1 then { r.2 with tdc := { r.2.tdc with visit := some (o, k + 1, t) } } else r.2
    | none => s0
  else if ¬ s.on .TDC_CFG 31 c then s0
  else if pair then s0.pairEdge c stop code
  else (s0.stampEdge c (s.fl .TDC_DIV 23 0 c) 1 (s.fl .TDC_CFG 21 16 c) code).2

/-- What an edge of a source does at channel c: `codes k` is what interpolator k would read. -/
def State.feedCh (codes : Nat → Nat) (src : Nat) (fall : Bool) (s : State) (c : Nat) : State :=
  let ip := if s.on .TDC_CFG 30 c ∧ ¬ s.isLbk c then 0 else (s.tdcCh c).turnB.toNat
  let s1 := if s.feeds c false src fall then s.tdcEdgeOp c false (codes (2 * c + ip)) else s
  if s.feeds c true src fall then s1.tdcEdgeOp c true (codes (2 * c + 1)) else s1

/-- An edge of a crossbar source reaches every channel that it feeds (R108): sources 49 to 63 have no edges, and HALT has stopped the
TDC (R343). -/
def State.srcEdge (s : State) (src : Nat) (fall : Bool) (codes : Nat → Nat) : State :=
  if s.flt.halt ∨ 49 ≤ src then s else (List.range 24).foldl (State.feedCh codes src fall) s

/-- An edge of the device itself arrives: what each interpolator reads is a free value. -/
def State.ownEdge (s : State) (src : Nat) (fall : Bool) : State :=
  ({ s with free := s.free + 48 } : State).srcEdge src fall fun k => Config.freeValue (s.free + k) % 640

/-- The edges of the device itself that have their coarse edge here (R108, R109). -/
def State.ownEdges (s : State) : State :=
  let d := s.tdc.due.partition fun e => decide (e.1 ≤ s.gau.l)
  d.1.foldl (fun t e => t.ownEdge e.2.1 e.2.2) { s with tdc := { s.tdc with due := d.2 } }

/-- GTICK is launched at each Gauge instant with GNS mod 10^6 = 0 (R108). -/
def State.launchGtick (s : State) : State := if s.atMs then s.launchEdge 48 false 0 else s

/-- The records of every channel that may leave their FIFOs at the present edge. -/
def State.drainRecs (s : State) : State := (s.tdc.chs.map fun p => p.1).foldl State.drainRec s

/-- The single stamp of a pair, and whether it is of the stop source (R112). -/
def TdcCh.lone (x : TdcCh) : Option (StampV × Bool) :=
  match x.start, x.stop with
  | some a, none => some (a, false)
  | none, some b => some (b, true)
  | _, _ => none

/-- The partner of a stamped edge has not come within TIMEOUT (R112). -/
def State.tdcLate (s : State) (c : Nat) : Bool :=
  s.on .TDC_CFG 31 c && s.on .TDC_CFG 30 c && !s.flt.halt && !s.isLbk c && match (s.tdcCh c).lone with
    | none => false
    | some (a, _) => decide (a.l + (s.tdcCh c).tmo ≤ s.gau.l)

/-! ### The Tension scheduler (R120) -/

/-- The output index (R106) of a bit of TDC_TEN_OUT. -/
def lbkOut (b : Nat) : Nat := if b < 16 then b else b + 2

/-- Tension may visit the output. -/
def State.visitable (s : State) (b : Nat) : Bool :=
  bitOn (s.inForce .TDC_TEN_OUT) b && s.on .OUT_CFG 31 (lbkOut b) && !(s.outU (lbkOut b)).sq

/-- The next output after `b`, in ascending order and round again. -/
def State.nextVisit (s : State) (b : Option Nat) : Option Nat :=
  let l := (List.range 18).filter s.visitable
  match b with
  | none => l.head?
  | some k => match l.find? fun x => decide (k < x) with
    | some x => some x
    | none => l.head?

/-- The visit in progress is over, or none is in progress while Tension holds the channel (R120). -/
def State.visitOver (s : State) : Bool :=
  match s.tdc.visit with
  | none => s.on .TDC_CTL 1
  | some (_, k, t) =>
    decide (s.fl .TDC_TEN 23 16 ≤ k ∨ t + s.fl .TDC_TEN 15 0 * 1000000 ≤ s.gau.l)

/-- The visit ends: the next output, or the channel goes back to the user with EN = 0 (R120). -/
def State.endVisit (s : State) : State :=
  if s.on .TDC_CTL 1 then
    { s with tdc := { s.tdc with
      visit := (s.nextVisit s.visiting).map fun b => (b, 0, s.gau.l), visitCh := s.fl .TDC_TEN 28 24 } }
  else
    ({ s with tdc := { s.tdc with visit := none } } : State).setFl .TDC_CFG 31 31 0 s.tdc.visitCh

/-- TEN_LBK = 0 is written: with no visit in progress the channel goes back to the user at once, with EN = 0 (R120). -/
def State.lbkOff (s : State) : State :=
  if s.tdc.visit.isSome then s else s.setFl .TDC_CFG 31 31 0 (s.fl .TDC_TEN 28 24)

/-! ### The commands -/

/-- SEL sees the edge of a source that is a candidate's (R61). -/
def State.selEdge (s : State) (src : Nat) (fall : Bool) : State :=
  match edgeCand src with
  | some k => if fall then s else s.candEdge k
  | none => s

/-- TDC_EDGE (R107, R108): an edge of a crossbar source whose coarse edge is the present one; `codes` are what the interpolators 2c + ip
read where it reaches them. -/
def execTdcEdge (src : Fin 64) (fall : Bool) (codes : Vector (Fin 640) 48) (s : State) : Res :=
  .next ((s.srcEdge src fall fun k => (codes.toList.getD k 0).val).selEdge src fall)

/-- TDC_TIMEOUT (R112). -/
def execTdcTimeout (c : Fin 24) (s : State) : Res :=
  .next (if s.tdcLate c then
    match (s.tdcCh c).lone with
    | none => s
    | some (a, lone) => (s.rearm c s.gau.l).emit c 3 (s.fl .TDC_CFG 21 16 c) a none lone
  else s)

/-- CAL_INJECTION (R115, R116): the noise source of a unit is about to fire; it fires at most once in 40 ns. -/
def execCalInjection (u : CalUnit) (code : Fin 640) (_ : Unit) (s : State) : Res :=
  let x := s.calU (calIdx u)
  .next (if s.flt.halt ∨ x.injAt.any (fun t => decide (s.gau.l < t + 40)) then s
    else if s.collides (calIdx u) then s.bump .TDC_CAL_CANCEL 31 0
    else (s.setCalU (calIdx u) { x with injAt := some s.gau.l }).inject u code)

/-- CAL_PASS_EXPIRY (R116). -/
def execCalPassExpiry (u : CalUnit) (s : State) : Res :=
  let x := s.calU (calIdx u)
  .next (if x.ready.isNone ∧ x.passAt + s.fl .TDC_CAL 15 0 * 1000000000 ≤ s.gau.l then
    (s.newPass (calIdx u)).bump .TDC_CAL_STAT 15 0 else s)

/-- TABLE_SWAP (R118). -/
def execTableSwap (u : CalUnit) (s : State) : Res := .next (if s.swapDue u then s.swapTable u else s)

/-- TENSION_VISIT_END (R120). -/
def execTensionVisitEnd (s : State) : Res := .next (if s.visitOver ∧ ¬ s.flt.halt then s.endVisit else s)

end Sys2Proof.Machine
end

