-- ==== Sys2Proof/Machine/Stitch.lean ====
section
/-! DEFINITION. Stitch links, time domains and twins (chapter 14, R313 to R337). -/

namespace Sys2Proof.Machine

/-- A stamp record (R210): `type` 1 TX, 2 RX, 3 LOOP; `w20` holds bytes 20 to 23. -/
def stampWords (type port : Nat) (gap : Bool) (tc queue lost w20 : Nat) (a : StampV) : List Word :=
  [ w32 (type * 2 ^ 28 + port * 2 ^ 25 + bit1 gap 24 + tc * 2 ^ 21 + queue * 2 ^ 16 + min lost 0xFFFF), w32 a.gfr ]
    ++ wordsOf 2 a.gns ++ [ w32 a.bound, w32 w20, w32 (a.state * 2 ^ 30 + a.code), w32 (a.gen * 2 ^ 16) ]

/-- The frame numbers of a link (R313). -/
def frameMod : Nat := 15625000

/-- An event of a link for the counters (R354). -/
def State.pmcStl (s : State) (l ev : Nat) (k : Nat := 1) : State := s.pmcEv 984 999 (l * 64 + ev) k

/-! ### Time domain (R321) -/

/-- The link whose candidate is selected for time. -/
def State.selLink (s : State) : Option Nat :=
  match s.sel.sel with
  | some k => if 26 ≤ k ∧ k < 30 then some (k - 26) else none
  | none => none

/-- HOPS of this device (R321). -/
def State.hops (s : State) : Nat :=
  match s.selLink with
  | none => 0
  | some l => (s.link l).hops + 1

/-- UPSTREAM of this device, where it is valid (R321). -/
def State.upstream (s : State) : Option Nat := s.selLink.map fun l => (s.link l).devnum

/-- DEVNUM. -/
def State.devnum (s : State) : Nat := s.fl .STL_CFG 11 0

/-! ### The LINK condition of a Stitch candidate (R70, R316, R319, R321, R326) -/

/-- CAND26 + l has the LINK condition. -/
def State.stlCond (s : State) (l : Nat) : Bool :=
  let x := s.link l
  decide (x.st ≠ .up) || x.jumpAt.isSome || decide (32 ≤ x.hops) || (x.upv && decide (x.upstream = s.devnum))
    || (s.twin.shut && s.twinLink l)

/-- The candidate follows the condition. -/
def State.stlCheck (s : State) (l : Nat) : State := s.external (26 + l) true (s.stlCond l)

/-! ### Messages to the timing program (R318) -/

/-- A message of STL to the TS of the link; where its inbox is full it is discarded and counted (R318). -/
def State.stlMsg (s : State) (l : Nat) (m : Msg) : State :=
  let n := s.fl .STL_LCFG 27 24 l
  if s.listens n ∧ ¬ s.room n 5 m then (s.bump .STL_CNT 7 0 1 l).pmcStl l 3 else s.deliver n 5 m

/-- The word of LINKEV (R318). -/
def State.linkWord (s : State) (l : Nat) : Nat :=
  let x := s.link l
  x.st.code * 2 ^ 29 + x.role * 2 ^ 26 + bit1 x.ready 25 + bit1 x.jumpAt.isSome 24

/-- LINKEV is sent at every change of its fields (R318). -/
def State.linkSay (s : State) (l : Nat) : State :=
  let w := s.linkWord l
  if w = (s.link l).said then s
  else (s.setLink l { s.link l with said := w }).stlMsg l ⟨0x53, l, [w32 w]⟩

/-! ### Twin role decisions (R326, R327, R329) -/

/-- The role that the peer reports on the first twin link that is UP. -/
def State.peerRole (s : State) : Option Nat := s.twinFirst.map fun l => (s.link l).role

/-- The pair is formed: a twin link is UP and its peer is STANDBY (R326). -/
def State.pairFormed (s : State) : Bool := s.peerRole == some 2

/-- A role decision of the table of R327. -/
def State.twinDecide1 (s : State) : State :=
  match s.twin.role, s.peerRole with
  | .pairing, some 3 | .pairing, some 0 => if s.twin.synced then s.setRole .standby else s
  | .pairing, some 1 => if s.on .STL_TWIN_CFG 29 then s else s.setRole .active
  | .active, some 3 => if s.on .STL_TWIN_CFG 29 then s.setRole .pairing else s
  | .isolated, some _ => s.setRole .pairing
  | _, _ => s

/-- A twin decides its role (R327), and the LINK condition of a new ACTIVE ends once the pair is formed (R326). -/
def State.twinDecide (s : State) : State :=
  if s.on .STL_TWIN_CFG 31 ∧ ¬ s.flt.relinq ∧ s.twin.role ≠ .compare then
    let s0 : State := if s.twinFirst.isSome then { s with twin := { s.twin with noneUp := s.gau.l } } else s
    let s1 := s0.twinDecide1
    if s1.twin.shut ∧ s1.pairFormed then
      let s2 : State := { s1 with twin := { s1.twin with shut := false } }
      (List.range 4).foldl (fun t l => t.stlCheck l) s2
    else s1
  else s

/-- The takeover that a lost last twin link brings (R329). -/
def State.takeoverT2 (s : State) (peerActive : Bool) : State :=
  match s.twin.role with
  | .standby | .pairing => if peerActive ∧ s.twinFirst.isNone then s.takeover 2 else s
  | _ => s

/-- A planned handover is cancelled (R336). -/
def State.cancelHandover (s : State) : State :=
  if s.twin.hoPend.isSome then ({ s with twin := { s.twin with hoPend := none } } : State).recEvent 0x32 0 else s

/-- UP of a link ends (R316, R329). -/
def State.linkEnd (s : State) (l : Nat) : State :=
  let x := s.link l
  let wasTwin := s.twinUp l
  let s1 := ((s.setLink l { x with st := .training, frame := none }).bump .STL_CNT 31 16 1 l).fault 27 l
  let s2 := (s1.stlCheck l).linkSay l
  (if wasTwin then s2.takeoverT2 (decide (x.role = 3)) else s2).twinDecide

/-! ### Frames and markers (R313 to R319) -/

/-- FRAME of the present instant (R313). -/
def State.frameNow (s : State) : Nat := s.gns / 1600 % frameMod

/-- The word [31:0] of the marker that a link sends now (R314). -/
def State.markerWord (s : State) (l : Nat) : Nat :=
  let echo := match (s.link l).rx with
    | none => 0
    | some (t, c) => (s.gau.l - t) % 4096 * 2 ^ 10 + c
  s.twin.role.code * 2 ^ 29 + bit1 s.twin.ready 28 + bit1 s.twin.advise 27 + s.level * 2 ^ 24 + s.busSt.code * 2 ^ 22 + echo

/-- A frame starts on a link; the stamp of its marker has a code that no rule fixes (R313, R314, R317). -/
def State.frameStart (s : State) (l : Nat) : State :=
  let s1 := s.send (.marker l s.frameNow (s.markerWord l))
  let s2 := (s1.setLink l { s1.link l with txs := (s.gau.l :: (s1.link l).txs).take 4 }).markStamp (64 + 2 * l)
  if s.frameNow % 625 = 0 then
    let d := s2.draw 10
    let a := s.stampNow (d.1 % 640) false (64 + 2 * l)
    let s3 := d.2.setLink l { d.2.link l with ms := stampWords 1 l false 0 0 0 0 a }
    s3.send (.ident l (s.fl .STL_CFG 31 16) s.devnum s.hops s.upstream.isSome (s.upstream.getD 0) s.busBound
      (s.fl .STL_TWIN_CFG 15 0))
  else s2

/-- The round trip that a marker with this ECHO shows: from the newest own marker that it can echo (R319). -/
def roundTrip (now echo : Nat) : List Nat → Option Nat
  | [] => none
  | t :: ts => if t + echo ≤ now then some (now - t - echo) else roundTrip now echo ts

/-- The round trip is checked against that of the frame before (R319). -/
def State.checkTrip (s : State) (l echo : Nat) : State :=
  let x := s.link l
  match roundTrip s.gau.l echo x.txs with
  | none => s
  | some r =>
    let s1 := (s.setLink l { x with rt := some r }).sample 10 l r
    match x.rt with
    | none => s1
    | some r0 =>
      if 2 ≤ ((r : Int) - r0).natAbs then
        ((s1.setLink l { s1.link l with jumpAt := some s.gau.l }).bump .STL_CNT 15 8 1 l).pmcStl l 6
      else s1

/-- The state that an identity block gives a link (R316). -/
def State.identState (s : State) (i : Identity) : LState :=
  if i.domain.toNat ≠ s.fl .STL_CFG 31 16 then .domain
  else if i.devnum.toNat = s.devnum then .duplicate
  else .up

/-- An identity block is taken; STAMPS follows, and the millisecond marker is the observation of CAND26 + l (R314, R316, R318). -/
def State.takeIdent (s : State) (l : Nat) (m : Marker) (i : Identity) (code : Nat) : State :=
  let x := s.link l
  let st := s.identState i
  let s0 := if x.st = .up ∧ st ≠ .up then s.linkEnd l else s
  let s1 := s0.setLink l { s0.link l with
    st := st, dom := i.domain.toNat, devnum := i.devnum.toNat, hops := i.hops.toNat, upv := i.upv
    upstream := i.upstream.toNat, bound := i.bound.toNat, pairid := i.pairid.toNat, unit := i.unit }
  let a := s1.stampNow code true (64 + 2 * l + 1)
  let word := m.role.toNat * 2 ^ 29 + bit1 m.ready 28 + m.state.toNat * 2 ^ 22 + i.hops.toNat
  (s1.stlMsg l ⟨0x50, l, wordsOf 2 i.gns.toNat ++ [i.bound, w32 word] ++ (if x.ms = [] then wordsOf 8 0 else x.ms)
    ++ stampWords 2 l false 0 0 0 0 a⟩).observeNow (26 + l) (some ((i.gns.toNat * 2 ^ 32 : Nat) : Int))

/-- The marker follows the one before, or a step notice named it (R316). -/
def markerFollows (x : Link) (m : Marker) : Bool :=
  m.noticed || match x.frame with
    | none => true
    | some f => decide (m.frame.toNat = (f + 1) % frameMod)

/-- The marker's own fields are taken (R314). -/
def State.takeMarker (s : State) (l : Nat) (m : Marker) (code : Nat) : State :=
  s.setLink l { s.link l with
    frame := some m.frame.toNat, role := m.role.toNat, ready := m.ready, advise := m.advise, sev := m.sev.toNat
    gst := m.state.toNat, rx := some (s.gau.l, code) }

/-- READY of the peer reaches the twin, and a pending handover falls with it (R332, R336). -/
def State.takePeerReady (s : State) (l : Nat) : State :=
  if s.twinUp l then
    let s1 : State := { s with twin := { s.twin with peerReady := (s.link l).ready } }
    if (s.link l).ready then s1 else s1.cancelHandover
  else s

/-- A peer marker (R314, R316 to R319, R321, R327). -/
def State.markerOp (s : State) (l : Nat) (m : Marker) (i : Option Identity) (code : Nat) : State :=
  let s0 := (s.pmcStl l 0).markStamp (64 + 2 * l + 1)
  let s1 := if (s.link l).st = .up ∧ ¬ markerFollows (s.link l) m then s0.linkEnd l else s0
  let s2 := (s1.takeMarker l m code).checkTrip l m.echo.toNat
  let s3 := match i with
    | none => s2
    | some x => s2.takeIdent l m x code
  (((s3.takePeerReady l).stlCheck l).linkSay l).twinDecide

/-! ### Partial sums (R323) -/

/-- The words of a partial: 6 at 48 kHz, 12 at 96 kHz (R323). -/
def State.psLen (s : State) : Nat := if s.fl .AUD_CTL 18 16 = 4 then 12 else 6

/-- A PSEND of row tag `tag` is accepted after the row of its tag has ended (R323). -/
def State.psLate (s : State) (tag : Nat) : Bool :=
  let d := ((s.rowNum - tag) % 65536).toNat
  decide (1 ≤ d ∧ d < 32768)

/-- A PSEND that the hub accepts in the row in progress (R323). -/
def State.psendOp (s : State) (l out tag : Nat) (words : List Word) : State :=
  let x := s.link l
  let row := s.rowNum.toNat
  let n := if x.psRow = row then x.psN else 0
  if x.st ≠ .up ∨ ¬ s.on .STL_LCFG 30 l ∨ s.psLate tag ∨ 1024 ≤ n then (s.bump .STL_PS 31 16 1 l).pmcStl l 5
  else s.setLink l { x with psN := n + 1, psRow := row, ps := x.ps ++ [(row * 2 ^ 26 + out * 2 ^ 16 + tag, words)] }

/-- The partials of earlier rows cross a link; those of one that is UP no more are discarded as late (R323). -/
def State.crossLink (s : State) (l : Nat) : State :=
  let x := s.link l
  let row := s.rowNum.toNat
  let go := x.ps.filter fun p => decide (p.1 / 2 ^ 26 < row)
  let s1 := s.setLink l { x with ps := x.ps.filter fun p => decide (¬ (p.1 / 2 ^ 26 < row)) }
  if x.st = .up then go.foldl (fun t p => (t.send (.partialSum l (p.1 / 2 ^ 16 % 1024) (p.1 % 2 ^ 16) p.2)).pmcStl l 4) s1
  else (s1.bump .STL_PS 31 16 go.length l).pmcStl l 5 go.length

/-- The partial-sum slot of the row in progress (R277, R315). -/
def State.psSlot (s : State) : Bool := decide (8000 ≤ s.rowNs ∧ s.rowNs < 28000)

/-- The sequencer whose role holds an output under MIX_OMAP (R323, R270). -/
def State.roleSeq (s : State) (out : Nat) : Option Nat :=
  ((List.range 144).map (· + 16)).find? fun n => decide (s.fl .SEQ_ROLE 7 0 n = s.fl .MIX_OMAP 7 0 out)
    && decide (s.fl .SEQ_ROLE 7 0 n ≠ 0xFF)

/-- A partial received on a link is delivered as a PRECV (R323). -/
def State.precv (s : State) (q : Partial) : State :=
  let l := q.link.val
  if (s.link l).st ≠ .up ∨ ¬ s.on .STL_LCFG 30 l then s
  else match s.roleSeq q.output with
    | none => s.bump .STL_PS 15 0 1 l
    | some n => s.deliver n 3 ⟨0x71, l * 2 ^ 10 + q.output.val, w32 q.tag.toNat :: q.words⟩

/-! ### Mirroring and sync (R331 to R333) -/

/-- Group g of R29 is mirrored (STL_TWIN_MIRROR.GRP). -/
def State.mirrored (s : State) (g : Nat) : Bool := bitOn (s.inForce .STL_TWIN_MIRROR) g

/-- The first t_row at least `d` ns ahead, as a Gauge instant rounded down to whole ns. -/
def State.rowAfter (s : State) (d : Nat) : Nat :=
  let t := s.tc + (d * 2 ^ 40 : Nat)
  let row := -Int.fdiv (-t) (125000 * 2 ^ 40) * (125000 * 2 ^ 40)
  Int.toNat (Int.fdiv (row + s.out.oc) (2 ^ 40))

/-- The registers of the mirrored groups as last written, which an ACTIVE device sends in a sync (R333). -/
def State.syncRegs (s : State) : List (Nat × Nat) :=
  s.regs.filter fun p => match groupOf p.1 with
    | some g => s.mirrored g
    | none => false

/-- The images of clusters 1 to 9, each with its sequencer and IMG (R331, R333). -/
def State.syncImgs (s : State) : List (Nat × List Byte × List Host.Cell) :=
  (s.seqs.filter fun e => decide (16 ≤ e.1)).map fun e => (e.1, e.2.img, e.2.pMem)

/-- The sequence counters of the transmit streams (R331, R333). -/
def State.syncSeqs (s : State) : List (Nat × Nat) := s.aud.txs.map fun e => (e.1, e.2.seq)

/-- The sequence counter of a transmit stream is the peer's (R331). -/
def State.takeSeq (s : State) (q : Fin 512 × Half) : State :=
  { s with aud := { s.aud with txs := s.aud.txs.set q.1 { s.aud.txs.get q.1 Txs.reset with seq := q.2.toNat } } }

/-- A sync word takes effect: the RW fields of the register, those of class E from their boundary on (R9, R11), and RUN of a mix
sequencer (R333). -/
def State.syncWord (s : State) (q : AddrWord) : State :=
  match lookupReg q.addr.toNat with
  | none => s
  | some x =>
    let a := x.reg.addr x.i x.j x.l
    let old := s.regs.get a (x.reg.reset x.i x.j x.l)
    let v := putBits old (32 * x.word + 31) (32 * x.word) q.val.toNat
    let fs := x.reg.fields x.i x.j x.l
    let s1 : State := { s with
      regs := s.regs.set a (putFields (fun f => f.acc == .rw) fs old v)
      force := s.force.set a (putFields (fun f => f.acc == .rw && !f.isE) fs (s.force.get a (x.reg.reset x.i x.j x.l)) v) }
    if x.reg = .SEQ_CTL ∧ 16 ≤ x.i ∧ bitOn v 31 ∧ (s.sq x.i).st = .stopped then s1.startSeq x.i true else s1

/-- A sync word lies in a mirrored group. -/
def State.syncable (s : State) (q : AddrWord) : Bool :=
  match groupOf q.addr.toNat with
  | some g => s.mirrored g
  | none => false

/-- A sync is audited as one BULK record with origin TWIN and applied (R333). -/
def State.syncApply (s : State) (ws : List AddrWord) (imgs : List (Fin 160 × List Byte)) (seqs : List (Fin 512 × Half)) : State :=
  let bytes := ws.flatMap fun q => bytesLE 4 q.addr.toNat ++ bytesLE 4 q.val.toNat
  let r := s.mkRec 2 0 bytes.length 0 .twin .none false (some (Config.sha256 bytes))
  match (if s.warden.up then s.recordNormal r else none) with
  | none => { s with twin := { s.twin with diverged := true } }
  | some s1 =>
    let s2 := imgs.foldl (fun t p =>
      if 16 ≤ p.1.val ∧ (t.sq p.1).st = .stopped then t.loadOne p.1 p.2 else t) s1
    let s3 := seqs.foldl State.takeSeq ((ws.filter s.syncable).foldl State.syncWord s2)
    { s3 with twin := { s3.twin with
      synced := true, wanted := false, diverged := false, digRun := 0
      peerImg := imgs.map fun p => (p.1.val, sub p.2 32 32) } }

/-! ### The twin's second (R333 to R336) -/

/-- The Gauge is LOCKED to a twin candidate (R333). -/
def State.lockedTwin (s : State) : Option Nat :=
  match s.selLink with
  | some l => if s.gau.st = .locked ∧ s.twinUp l then some (26 + l) else none
  | none => none

/-- |held Δ| + U ≤ ALIGN, in 2^-32 ns times 1,000 (R333). -/
def State.aligned (s : State) : Bool :=
  match s.lockedTwin with
  | none => false
  | some k => match (s.cand k).post with
    | none => false
    | some p => decide (p.delta.natAbs * 1000 + p.u * 1000 * 2 ^ 28 ≤ s.fl .STL_TWIN_LIM 31 16 * 2 ^ 32)

/-- Every running sequencer of clusters 1 to 9 has the image of the peer's (R333). -/
def State.imagesEqual (s : State) : Bool :=
  (List.range 144).all fun i =>
    match (s.sq (i + 16)).st with
    | .running | .waiting => decide ((s.sq (i + 16)).img = s.twin.peerImg.get (i + 16) [])
    | _ => true

/-- READY at a t_sec (R333). -/
def State.readyNow (s : State) : Bool :=
  decide (s.twin.role = .standby) && s.twin.synced && s.aligned && s.imagesEqual && !s.twin.diverged

/-- The alignment test of a STANDBY at a t_sec (R334). -/
def State.alignTest (s : State) : State :=
  if s.twin.role = .standby ∧ ¬ s.aligned then
    let n := s.twin.alignRun + 1
    let s1 : State := { s with twin := { s.twin with alignRun := n } }
    if n = 10 then s1.fault 29 0 else s1
  else { s with twin := { s.twin with alignRun := 0 } }

/-- The two conditions of ADVISE (R335). -/
def State.adviseConds (s : State) : Bool × Bool :=
  match s.twinFirst with
  | none => (false, false)
  | some l =>
    (decide ((s.link l).sev = 1),
     decide ((s.link l).gst = 2) && (List.range 26 ++ [30]).any fun k => s.eligT k)

/-- ADVISE at a t_sec (R335). -/
def State.adviseTest (s : State) : State :=
  let c := if s.twin.role = .standby then s.adviseConds else (false, false)
  let a := if c.1 then s.twin.advRun + 1 else 0
  let b := if c.2 then s.twin.advRunB + 1 else 0
  let hold := s.fl .STL_TWIN_LIM 7 0
  let adv := if c.1 ∨ c.2 then s.twin.advise || decide (hold ≤ a ∨ hold ≤ b) else false
  let s1 : State := { s with twin := { s.twin with advRun := a, advRunB := b, advise := adv } }
  if adv = s.twin.advise then s1 else s1.recEvent 0x31 adv.toNat

/-- The value of a HANDOVER command (R336). -/
def handoverBit : Nat := 2 ^ 31

/-- AUTO_HO asks for a handover (R336). -/
def State.autoHandover (s : State) : State :=
  match s.twinFirst with
  | none => s
  | some l =>
    if s.twin.role = .active ∧ s.on .STL_TWIN_CFG 27 ∧ (s.link l).advise ∧ (s.link l).ready ∧ s.twin.hoPend.isNone
        ∧ s.warden.up then
      s.enqueue (.reg (RegName.STL_TWIN_CTL.addr) handoverBit) .hardware
    else s

/-- A t_sec of the twin (R333 to R336). -/
def State.twinSecondOp (s : State) : State :=
  let s1 := s.alignTest.adviseTest
  ({ s1 with twin := { s1.twin with ready := s1.readyNow } } : State).autoHandover

/-- The rows whose digests are missing between the last one received and `tag`. -/
def State.missingRows (s : State) (tag : Nat) : Nat :=
  match s.twin.lastTag with
  | none => 0
  | some t => (tag + 2 ^ 16 - t - 1) % 2 ^ 16

/-- A number of consecutive differing rows is reached (R334). -/
def State.digestBad (s : State) (k : Nat) : State :=
  let n := s.twin.digRun + k
  let s1 := ({ s with twin := { s.twin with digRun := n } } : State).bump .STL_TWIN_DIG 31 16 k
  if s.fl .STL_TWIN_LIM 15 8 ≤ n ∧ ¬ s.twin.diverged then
    ({ s1 with twin := { s1.twin with diverged := true, ready := false } } : State).fault 28 0
  else s1

/-- A STANDBY compares a row digest (R334). -/
def State.digestOp (s : State) (tag digest : Nat) : State :=
  let miss := s.missingRows tag
  let s0 := if miss = 0 then s else s.digestBad miss
  let s1 : State := { s0 with twin := { s0.twin with lastTag := some tag } }
  if s.twin.digest.get tag (2 ^ 64) = digest then { s1 with twin := { s1.twin with digRun := 0 } }
  else s1.digestBad 1

/-- A released HANDOVER (R336): the local time from which the handover instant may come, 10 ms after the release (R405). -/
def State.takeHandover (s : State) : State := { s with twin := { s.twin with hoPend := some (s.gau.l + 10000000) } }

/-- The present edge is the handover instant: the first t_sec at least 10 ms after the release (R336). -/
def State.handoverDue (s : State) : Bool := s.atSec && s.twin.hoPend.any fun h => decide (h ≤ s.gau.l)

/-- The device relinquishes by command (R328). -/
def State.relinqCmd (s : State) : State := s.enterRelinq

/-- A released write of STL_TWIN_CFG (R327, R337). -/
def State.takeTwinCfg (s : State) (was : Bool) : State :=
  let en := s.on .STL_TWIN_CFG 31
  if s.flt.relinq then s
  else if en ∧ ¬ was then
    if s.on .STL_TWIN_CFG 30 then s.setRole .compare else (s.setRole .pairing).twinDecide
  else if ¬ en then
    let s1 : State := { s with twin := { s.twin with shut := false, hoPend := none, synced := false } }
    (List.range 4).foldl (fun t l => t.stlCheck l) (s1.setRole .solo)
  else s

/-! ### The commands -/

/-- A link is enabled and its receiver runs. -/
def State.linkOn (s : State) (l : Nat) : Bool := s.on .STL_LCFG 31 l && s.coreOn

/-- The frame instant lies at least 5.12 ns behind the last step (R313). -/
def State.afterNotice (s : State) : Bool :=
  s.gau.runs.isEmpty || decide ((s.gau.from_ : Int) * 100 + 512 * 2 ^ 40 ≤ s.lastGrid 1600 * 2 ^ 40 * 100)

/-- STL_FRAME_START (R313): once at each instant at which a frame starts. -/
def execStlFrameStart (l : Fin 4) (s : State) : Res :=
  .next (if s.linkOn l ∧ ¬ s.quiet ∧ s.atPeriod 1600 ∧ s.afterNotice ∧ s.fresh (0x200 + l.val) then
    (s.fire (0x200 + l.val)).frameStart l else s)

/-- MARKER_RECEIVE (R314): block 1 of a millisecond frame is the identity block `ident`; another frame has none. -/
def execMarkerReceive (l : Fin 4) (m : Marker) (ident : Identity) (code : Fin 640) (s : State) : Res :=
  .next (if s.linkOn l then s.markerOp l m (if m.frame.toNat % 625 = 0 then some ident else none) code else s)

/-- A loss of block lock (R316). -/
def State.lockLoss (s : State) (l : Nat) : State :=
  if s.linkOn l then
    match (s.link l).st with
    | .up => s.linkEnd l
    | .off => s
    | _ => (s.setLink l { s.link l with st := .training, frame := none }).linkSay l
  else s

/-- STL_LOCK_LOSS (R316). -/
def execStlLockLoss (l : Fin 4) (s : State) : Res := .next (s.lockLoss l)

/-- STL_BAD_SYNC_HEADERS (R316): 64 consecutive blocks with a bad sync header end UP. -/
def execStlBadSyncHeaders (l : Fin 4) (s : State) : Res :=
  .next (if s.linkOn l ∧ (s.link l).st = .up then (s.pmcStl l 1 64).linkEnd l else s)

/-- RTJUMP_CLEAR (R319): 1 s has passed without another jump. -/
def execRtjumpClear (l : Fin 4) (s : State) : Res :=
  .next (match (s.link l).jumpAt with
    | none => s
    | some t =>
      if t + 1000000000 ≤ s.gau.l then ((s.setLink l { s.link l with jumpAt := none }).stlCheck l).linkSay l else s)

/-- PEERSEND (R318). -/
def State.peersendOp (s : State) (l : Nat) (words : List Word) : State :=
  if (s.link l).st = .up ∧ ¬ s.quiet then (s.send (.peerWords l words)).pmcStl l 2
  else (s.bump .STL_CNT 7 0 1 l).pmcStl l 3

/-- PEERSEND by sequencer n: 1 to 31 words, any other LEN is wrong for its TYPE (R159, R318). -/
def execPeersend (n : Fin 16) (l : Fin 4) (words : List Word) (s : State) : Res :=
  .next (if ¬ s.runs n then s
    else if words = [] ∨ 31 < words.length then s.trap n .badmsg
    else s.peersendOp l words)

/-- PSEND by sequencer n (R323): a LEN that does not fit the mix rate is a bad message (R159). -/
def execPsend (n : Fin 160) (q : Partial) (s : State) : Res :=
  .next (if ¬ s.runs n then s
    else if n.val < 16 then s.trap n .port
    else if q.words.length ≠ s.psLen then s.trap n .badmsg
    else s.psendOp q.link q.output q.tag.toNat q.words)

/-- PARTIAL_SUM_SLOT (R323): in the slot of a row the partials cross their links, and those of the peers are delivered. -/
def execPartialSumSlot (received : List Partial) (s : State) : Res :=
  .next (received.foldl State.precv (if s.psSlot then (List.range 4).foldl State.crossLink s else s))

/-- PAIR_TIMEOUT (R327). -/
def execPairTimeout (s : State) : Res :=
  .next (if s.twin.role = .pairing ∧ s.twinFirst.isNone
      ∧ max s.twin.pairAt s.twin.noneUp + s.fl .STL_TWIN_TIME 15 0 * 1000000000 ≤ s.gau.l then s.setRole .active
    else s)

/-- RELINQUISH_BLOCK_RECEIVE: takeover T1 (R329). -/
def execRelinquishBlockReceive (l : Fin 4) (s : State) : Res :=
  .next (if s.twinUp l ∧ (s.link l).role = 3 ∧ (s.twin.role = .standby ∨ s.twin.role = .pairing) then s.takeover 1 else s)

/-- TWIN_ALIVE_EDGE: from 10 µs to ALIVE_TO after a takeover T2 the device becomes ISOLATED (R329). -/
def execTwinAliveEdge (s : State) : Res :=
  .next (match s.twin.t2 with
    | none => s
    | some t =>
      if s.twin.role = .active ∧ t + 10000 ≤ s.gau.l ∧ s.gau.l ≤ t + s.fl .STL_TWIN_TIME 31 16 * 1000 then
        ({ s with twin := { s.twin with t2 := none } } : State).setRole .isolated
      else s)

/-- MIRROR_CONFIRM_TIMEOUT: no confirmation by A − 20 µs (R332). -/
def execMirrorConfirmTimeout (s : State) : Res :=
  .next (if s.twin.mirrored.any fun a => decide (a ≤ s.gns + 20000) then
    { s with twin := { s.twin with
      peerReady := false, mirrored := s.twin.mirrored.filter fun a => decide (¬ a ≤ s.gns + 20000) } }
  else s)

/-- TWIN_SYNC_REQUEST (R333): a PAIRING or STANDBY device asks for a sync; an ACTIVE one stages and sends it. -/
def execTwinSyncRequest (s : State) : Res :=
  .next (match s.twin.role with
    | .pairing | .standby =>
      if s.twin.synced then s else ({ s with twin := { s.twin with wanted := false } } : State).send .syncRequest
    | .active => s.send (.sync s.syncRegs s.syncImgs s.syncSeqs (s.rowAfter 250000))
    | _ => s)

/-- TWIN_SYNC_APPLY (R333). -/
def execTwinSyncApply (ws : List AddrWord) (d : SyncData) (s : State) : Res :=
  .next (match s.twin.role with
    | .pairing | .standby => (s.syncApply ws d.imgs d.seqs).twinDecide
    | _ => s)

/-- TWIN_SECOND (R333 to R336). -/
def execTwinSecond (s : State) : Res :=
  .next (if s.atSec ∧ s.fresh 0x210 ∧ s.on .STL_TWIN_CFG 31 then (s.fire 0x210).twinSecondOp else s)

/-- ROW_DIGEST_RECEIVE (R334). -/
def execRowDigestReceive (tag : Half) (digest : DWord) (s : State) : Res :=
  .next (if s.twin.role = .standby then s.digestOp tag.toNat digest.toNat else s)

/-- HANDOVER_INSTANT (R336): at H the active device becomes STANDBY, and its READY peer ACTIVE. -/
def execHandoverInstant (s : State) : Res :=
  .next (match s.twin.role, s.twin.hoPend with
    | .active, some _ =>
      if s.handoverDue then
        ({ s with twin := { s.twin with hoPend := none, synced := false } } : State).setRole .standby
      else s
    | .standby, _ => if s.atSec ∧ s.twin.ready ∧ s.peerRole = some 3 then s.setRole .active else s
    | _, _ => s)

/-- CMP_VOTE_LOW (R337): obeyed in COMPARE. -/
def execCmpVoteLow (s : State) : Res := .next (if s.twin.role = .compare then s.fault 30 0 else s)

end Sys2Proof.Machine
end

