-- ==== Sys2Proof/Machine/TsvFill.lean ====
section
/-! DEFINITION. What TSV writes into a message at its launch edge, and the frame that carries it (chapter 10: R217 to R221, R224, R225, R232,
R233, R236, R237, R241, R242). -/

namespace Sys2Proof.Machine

/-- The PTP instance of port p. -/
def State.inst (s : State) (p : Nat) : PtpI := s.tsv.inst.get p PtpI.reset
/-- The instance of port p becomes `x`. -/
def State.setInst (s : State) (p : Nat) (x : PtpI) : State := { s with tsv := { s.tsv with inst := s.tsv.inst.set p x } }

/-- An event of TSV for the counters (R354). -/
def State.pmcTsv (s : State) (ev : Nat) (k : Nat := 1) : State := s.pmcEv 896 927 ev k

/-- PROFILE of an instance (R221). -/
def State.profile (s : State) (p : Nat) : Nat := s.fl .PTP_CFG 30 28 p

/-- TSV runs (R343, TSV_CTL). -/
def State.tsvOn (s : State) : Bool := s.coreOn && !s.flt.halt && s.on .TSV_CTL 31
/-- The instance of port p is enabled (R222). -/
def State.ptpOn (s : State) (p : Nat) : Bool := s.tsvOn && s.on .PTP_CFG 31 p

/-! ### Quality (R219, R220) -/

/-- The first entry of TSV_CMAPm that meets the state and the BOUND (R220). -/
def cmapFrom (s : State) (m : Nat) : Nat → Nat → Nat
  | 0, _ => s.fl .TSV_CMAP_CFG 7 0 (m - 1)
  | f + 1, k =>
    if bitOn (s.fl .TSV_CMAP_VAL 10 8 (m - 1) k) s.busSt.code ∧ s.busBound ≤ s.inForce .TSV_CMAP_TH (m - 1) k then
      s.fl .TSV_CMAP_VAL 7 0 (m - 1) k
    else cmapFrom s m f (k + 1)

/-- clockClass of an instance (R220). -/
def State.instClass (s : State) (p : Nat) : Nat :=
  match s.fl .PTP_CFG 21 20 p with
  | 0 => s.clockClass
  | m => cmapFrom s m 8 0

/-- The own dataset (R222). -/
def State.ownDataset (s : State) (p : Nat) : Dataset where
  prio1 := BitVec.ofNat 8 (if s.profile p = 1 ∨ s.profile p = 2 then 128 else s.fl .TSV_DS 31 24)
  cls := BitVec.ofNat 8 (s.instClass p)
  acc := BitVec.ofNat 8 s.clockAcc
  oslv := BitVec.ofNat 16 (s.inForce .TSV_QUAL)
  prio2 := BitVec.ofNat 8 (s.fl .TSV_DS 23 16)
  clockId := BitVec.ofNat 64 (s.inForce .TSV_CLOCKID)
  steps := 0
  timeSource := BitVec.ofNat 8 (s.fl .TSV_DS 15 8)

/-- The flags of an Announce (R224): [0] leap61, [1] leap59, [2] currentUtcOffsetValid, [3] ptpTimescale, [4]
timeTraceable, [5] frequencyTraceable. -/
def State.annFlags (s : State) : Nat :=
  bit1 (s.on .GAU_UTC 17) 0 + bit1 (s.on .GAU_UTC 18) 1 + bit1 (s.on .GAU_UTC 16) 2 + 8
    + bit1 (decide (s.busSt ≠ .freeRun ∧ s.busBound ≤ s.inForce .TSV_TRACE)) 4
    + bit1 (decide (s.busSt = .locked) || s.sel.fsel.isSome) 5

/-- The quality values of the present edge (R219). -/
def State.qualNow (s : State) : Qual := ⟨s.busSt, s.busBound, s.fl .GAU_UTC 18 16, s.gau.n⟩

/-- The state as the quality values `q` of another edge show it (R219). -/
def State.withQual (s : State) (q : Qual) : State :=
  ({ s with gau := { s.gau with busSt := q.st, busB := q.bound, n := q.n } } : State).setFl .GAU_UTC 18 16 q.utc

/-- The bound extension data with clockClass `cls` (R241). -/
def State.bextData (s : State) (cls : Nat) : List Byte :=
  bytesBE 1 1 ++ bytesBE 1 (s.busSt.code * 64 + bit1 (s.on .GAU_UTC 17) 5 + bit1 (s.on .GAU_UTC 18) 4
      + bit1 (s.on .GAU_UTC 16) 3)
    ++ bytesBE 1 cls ++ bytesBE 1 s.clockAcc ++ bytesBE 4 s.busBound
    ++ bytesBE 4 (if s.busSt = .holdover then s.gau.n else 0)

/-- The bound extension TLV of a PTP message while the bit of PTP_CFG is set: tlvType 0x8000, length 18, organizationId, subtype 1 and
the data (R242). -/
def State.ptpBext (s : State) (p b : Nat) : List Byte :=
  if s.on .PTP_CFG b p then
    bytesBE 2 0x8000 ++ bytesBE 2 18 ++ bytesBE 3 (s.inForce .TSV_BEXT) ++ bytesBE 3 1 ++ s.bextData (s.instClass p)
  else []

/-! ### The content of PTP messages (R217, R224, R225) -/

/-- Seconds, nanoseconds and the fraction in 2^-16 ns of an instant in 2^-16 ns. -/
def splitTime (v : Int) : Nat × Nat × Nat :=
  let whole := Int.fdiv v 65536
  ((Int.fdiv whole (10 ^ 9)).toNat % 2 ^ 48, (Int.fmod whole (10 ^ 9)).toNat, (Int.fmod v 65536).toNat)

/-- A PTP message at its launch, and the Follow_Up that it leaves behind; `v` is V (R213). -/
def State.fillPtp (s : State) (p : Nat) (m : PtpOut) (v : Int) : PtpOut × Option PtpOut :=
  let t := splitTime v
  match m.kind with
  | .sync =>
    if m.twoStep then
      (m, some { m with
        kind := .followUp, twoStep := false, sec := t.1, ns := t.2.1, corr := t.2.2
        gmTimeBase := s.tsv.gmTimeBase, gmPhase := s.tsv.gmPhase, bext := s.ptpBext p 18 })
    else ({ m with sec := t.1, ns := t.2.1, corr := t.2.2, bext := s.ptpBext p 18 }, none)
  | .announce =>
    ({ m with dataset := some (s.ownDataset p), flags := s.annFlags, utc := s.fl .GAU_UTC 15 0, bext := s.ptpBext p 19 }, none)
  | .pdelayResp =>
    (m, some { m with kind := .pdelayRespFollowUp, twoStep := false, sec := t.1, ns := t.2.1, corr := t.2.2 })
  | _ => (m, none)

/-! ### PTP messages on the line (R221, R224, R225, R232, R233) -/

/-- controlField of a kind (IEEE 1588-2019). -/
def ptpControl : PtpKind → Nat
  | .sync => 0
  | .delayReq => 1
  | .followUp => 2
  | .delayResp => 3
  | _ => 5

/-- The header of a message of `len` bytes: versionPTP 2, minorVersionPTP 1, majorSdoId 1 for AS2020 and 0 otherwise (R221). -/
def State.ptpHead (s : State) (p : Nat) (m : PtpOut) (len : Nat) : List Byte :=
  bytesBE 1 ((if s.profile p = 3 then 16 else 0) + ptpTypeOf m.kind) ++ bytesBE 1 0x12 ++ bytesBE 2 len
    ++ bytesBE 1 (s.fl .PTP_CFG 15 8 p) ++ bytesBE 1 0 ++ bytesBE 1 (bit1 m.twoStep 1 + bit1 m.to_.isSome 2) ++ bytesBE 1 m.flags
    ++ bytesBE 8 (wrapTo 64 m.corr).toNat ++ bytesBE 4 0 ++ bytesBE 8 (s.inForce .TSV_CLOCKID) ++ bytesBE 2 (Config.ptpPortNo p)
    ++ bytesBE 2 m.seqId ++ bytesBE 1 (ptpControl m.kind) ++ bytesBE 1 m.log

/-- The dataset part of an Announce. -/
def datasetBytes (d : Dataset) : List Byte :=
  [d.prio1, d.cls, d.acc] ++ bytesBE 2 d.oslv.toNat ++ [d.prio2] ++ bytesBE 8 d.clockId.toNat ++ bytesBE 2 d.steps.toNat ++ [d.timeSource]

/-- What follows the header (R224). -/
def ptpBody (m : PtpOut) : List Byte :=
  let ts := bytesBE 6 m.sec ++ bytesBE 4 m.ns
  let id := bytesBE 8 m.forId ++ bytesBE 2 m.forPort
  match m.kind with
  | .sync | .followUp | .delayReq => ts
  | .pdelayReq => ts ++ List.replicate 10 0
  | .delayResp | .pdelayResp | .pdelayRespFollowUp => ts ++ id
  | .announce => ts ++ bytesBE 2 m.utc ++ bytesBE 1 0 ++ (m.dataset.map datasetBytes).getD (List.replicate 17 0)
  | .signaling => id ++ m.tlv

/-- The Follow_Up information TLV of AS2020 (R225). -/
def infoTlv (m : PtpOut) : List Byte :=
  bytesBE 2 3 ++ bytesBE 2 28 ++ bytesBE 6 0x0080C2000001 ++ bytesBE 4 0 ++ bytesBE 2 m.gmTimeBase
    ++ bytesBE 12 (wrapTo 96 m.gmPhase).toNat ++ bytesBE 4 0

/-- The AUTHENTICATION TLV of association `a` up to its ICV (R232, R233). -/
def State.authHead (s : State) (a : Nat) : List Byte :=
  bytesBE 2 0x8009 ++ bytesBE 2 22 ++ bytesBE 1 (s.fl .TSV_SA_CFG 23 16 a) ++ bytesBE 1 0 ++ bytesBE 4 (s.inForce .TSV_SA_KEYID a)

/-- The ICV under association `a` with its key over the bytes of a message (R232). -/
def State.icvOf (s : State) (a : Nat) (key msg : List Byte) : List Byte := bytesBE 16 (Config.icv (s.fl .TSV_SA_CFG 30 28 a) key msg)

/-- A whole PTP message; `key` is that of its association. -/
def State.ptpBytes (s : State) (p : Nat) (m : PtpOut) (key : List Byte) : List Byte :=
  let rest := ptpBody m ++ (if m.kind = .followUp ∧ s.profile p = 3 then infoTlv m else []) ++ m.bext
  match m.sa with
  | none => s.ptpHead p m (34 + rest.length) ++ rest
  | some a =>
    let b := s.ptpHead p m (34 + rest.length + 26) ++ rest ++ s.authHead a
    b ++ s.icvOf a key b

/-- Event messages (R221). -/
def eventKind : PtpKind → Bool
  | .sync | .delayReq | .pdelayReq | .pdelayResp => true
  | _ => false

/-- The VLAN tag of an instance (PTP_NET). -/
def State.ptpTags (s : State) (p : Nat) : List Byte := vlanTag (s.on .PTP_NET 28 p) (s.fl .PTP_NET 27 25 p) (s.fl .PTP_NET 23 12 p)

/-- The destination MAC address of an L2 message: by multicast that of L2DST, fixed for AS2020 (R221). -/
def State.l2Dst (s : State) (p : Nat) : Nat :=
  if s.profile p = 3 ∨ s.on .PTP_NET 29 p then 0x0180C200000E else 0x011B19000000

/-- The addresses of a UDP message of an instance (R221). -/
def State.ptpNet (s : State) (p : Nat) (m : PtpOut) : Net :=
  let v6 : Bool := match m.to_ with
    | some a => a.1
    | none => decide (s.fl .PTP_NET 31 30 p = 2)
  let group := if v6 then 0xFF0E * 2 ^ 112 + 0x181 else 0xE0000181
  let port := if eventKind m.kind then 319 else 320
  { dmac := match m.to_ with
      | some a => Config.nextHop p a.1 a.2 % 2 ^ 48
      | none => groupMac v6 group
    smac := s.inForce .PTP_MAC p % 2 ^ 48, tags := s.ptpTags p, v6 := v6
    src := if v6 then addrOf true ((List.range 4).map fun j => w32 (s.inForce .PTP_IPV6 p j)) else s.inForce .PTP_IPV4 p
    dst := (m.to_.map Prod.snd).getD group, sport := port, dport := port }

/-- The frame of a PTP message (R221). -/
def State.ptpLine (s : State) (p : Nat) (m : PtpOut) (key : List Byte) : List Byte :=
  let b := s.ptpBytes p m key
  if s.fl .PTP_NET 31 30 p = 0 then
    ethFrame ((m.to_.map Prod.snd).getD (s.l2Dst p)) (s.inForce .PTP_MAC p) (s.ptpTags p) 0x88F7 b
  else udpFrame (s.ptpNet p m) Config.ipDscp Config.ipTtl true b

/-- A frame of TSV or of a port itself. -/
def tsvFrame (tc : Nat) (pay : Payload) (n : Nat) : TxFrame := ⟨tc, pay, [], n + 4, false, false, 0, none⟩

/-- The frame that a PTP message is submitted as: event messages use EVT_TC, the others GEN_TC; those whose transmit record TSV keeps are
stamped (R209, R228). -/
def State.ptpFrame (s : State) (p : Nat) (m : PtpOut) : TxFrame :=
  let m1 := (s.fillPtp p m 0).1
  { tsvFrame (if eventKind m.kind then s.fl .TSV_CTL 22 20 else s.fl .TSV_CTL 18 16) (.ptp m) (s.ptpLine p m1 []).length with
    tsReq := decide (m.kind = .delayReq ∨ m.kind = .pdelayReq)
    oneStep := decide (m.kind = .sync) && !m.twoStep }

/-- The transmit record of a Delay_Req or Pdelay_Req reaches its instance (R228). -/
def State.tsvStamp (s : State) (p : Nat) (m : PtpOut) (w : List Word) : State :=
  match m.kind with
  | .delayReq => s.setInst p { s.inst p with dreq := (s.inst p).dreq.set m.seqId w }
  | .pdelayReq => s.setInst p { s.inst p with pd := some (m.seqId, w, [], [], 0) }
  | _ => s

/-! ### NTP responses (R236, R237) -/

/-- An instant in 2^-16 ns as NTP writes it (R236): 64 bits. -/
def State.ntpTime (s : State) (v : Int) : Nat :=
  let sec := Int.fdiv v (65536 * 10 ^ 9)
  let sub := Int.fmod v (65536 * 10 ^ 9)
  let frac := Int.fdiv (sub * 2 ^ 33 + 65536 * 10 ^ 9) (65536 * 10 ^ 9 * 2)
  (wrapTo 64 ((sec - sext 16 (s.fl .GAU_UTC 15 0) + 2208988800) * 2 ^ 32 + frac)).toNat

/-- The root dispersion of a BOUND (R236). -/
def rootDisp (b : Nat) : Nat := min 0xFFFFFFFF (ceilDiv (b * 65536) (16 * 10 ^ 9))

/-- LI (R236). -/
def State.ntpLeap (s : State) : Nat :=
  if s.busSt = .freeRun ∨ ¬ s.on .GAU_UTC 16 then 3
  else if s.on .GAU_UTC 17 then 1 else if s.on .GAU_UTC 18 then 2 else 0

/-- The 48 bytes of the NTP header of a response whose V is `v` (R236): those of an NTS NAK have stratum 0 and reference ID "NTSN". -/
def State.ntpHead (s : State) (m : NtpOut) (v : Int) : List Byte :=
  let stratum := if m.nak then 0 else if s.busBound ≤ s.inForce .TSV_NTP_STRAT ∧ s.busSt ≠ .freeRun then 1 else 16
  bytesBE 1 (s.ntpLeap * 64 + m.version * 8 + 4) ++ bytesBE 1 stratum ++ bytesBE 1 m.poll ++ bytesBE 1 (s.fl .TSV_NTP_PREC 7 0)
    ++ bytesBE 4 0 ++ bytesBE 4 (rootDisp s.busBound) ++ bytesBE 4 (if m.nak then 0x4E54534E else s.inForce .TSV_NTP_REFID)
    ++ bytesBE 8 (if s.tsv.lock = 0 then 0 else s.ntpTime ((s.tsv.lock : Int) * 65536)) ++ bytesBE 8 m.origin
    ++ bytesBE 8 (s.ntpTime m.rx) ++ bytesBE 8 (s.ntpTime v)

/-- An NTP extension field: type, length and body, padded to whole words. -/
def extField (type : Nat) (body : List Byte) : List Byte :=
  let n := ceilDiv body.length 4 * 4
  bytesBE 2 type ++ bytesBE 2 (n + 4) ++ body ++ List.replicate (n - body.length) 0

/-- The extension fields ahead of the authenticator (R237, R242). -/
def State.ntpFields (s : State) (m : NtpOut) : List Byte :=
  (if m.uid = [] then [] else extField 0x0104 m.uid)
    ++ (if m.bext then extField (s.inForce .TSV_BEXT_NTP) (s.bextData s.clockClass) else [])

/-- The synthetic IV of 16 bytes and the ciphertext, as long as the plaintext (R237, R238). -/
def sivBox (key nonce ad plain : List Byte) : List Byte :=
  let c := Config.sivSeal key nonce ad plain
  (List.range (16 + plain.length)).map fun i => c.getD i 0

/-- The authenticator of an NTS response over what stands before it (R237). -/
def ntsAuth (k : NtsSeal) (ad : List Byte) : List Byte :=
  let c := sivBox k.key k.nonce ad k.plain
  extField 0x0404 (bytesBE 2 k.nonce.length ++ bytesBE 2 c.length ++ k.nonce ++ c)

/-- The UDP payload of an NTP response whose V is `v` (R236, R237). -/
def State.ntpBytes (s : State) (m : NtpOut) (v : Int) : List Byte :=
  let b := s.ntpHead m v ++ s.ntpFields m
  match m.toSeal with
  | none => b
  | some k => b ++ ntsAuth k b

/-- The frame of an NTP response. -/
def State.ntpLine (s : State) (m : NtpOut) (v : Int) : List Byte := udpFrame m.net Config.ipDscp Config.ipTtl true (s.ntpBytes m v)

/-! ### Keys of authentication (R233, R234, R295) -/

/-- TYPE that an association's algorithm needs (R295). -/
def algType (alg : Nat) : Nat := [3, 1, 2, 1, 2].getD alg 0

/-- The lane that serves PTP authentication: the lowest that NTS_LANES leaves (R234). -/
def State.authLane (s : State) : Nat := ((List.range 8).find? fun l => !bitOn (s.fl .TSV_CTL 7 0) l).getD 7
/-- The lane that serves a request of NTS or minting: the lowest of NTS_LANES. -/
def State.ntsLane (s : State) : Nat := ((List.range 8).find? fun l => bitOn (s.fl .TSV_CTL 7 0) l).getD 0

/-- A lane operation, with its load counted (R295, R354). -/
def State.laneOp (s : State) (lane slot use typ : Nat) : Option (List Byte) × State :=
  let r := s.laneKey lane slot use typ
  (r.1, if r.2.key.lanes = s.key.lanes then r.2 else r.2.pmcTsv 9)

/-- The key of association a, or its KEYERR counted (R234). -/
def State.saKey (s : State) (a : Nat) : Option (List Byte) × State :=
  let r := s.laneOp s.authLane (s.fl .TSV_SA_CFG 5 0 a) 0 (algType (s.fl .TSV_SA_CFG 30 28 a))
  match r.1 with
  | some k => (some k, r.2)
  | none => (none, r.2.bump .TSV_SA_STAT 15 0 1 a)

/-! ### At the launch -/

/-- A frame has its bytes. -/
def TxFrame.withLine (f : TxFrame) (pay : Payload) (l : List Byte) : TxFrame := { f with pay := pay, line := l, len := l.length + 4 }

/-- A frame of TSV or AUD at its launch, V being `v`, and the Follow_Up it leaves behind: none where its association has no key (R234). -/
def State.fillFrame (s : State) (p : Nat) (f : TxFrame) (v : Int) : Option (TxFrame × Option PtpOut) × State :=
  match f.pay with
  | .ptp m =>
    let r := s.fillPtp p m v
    match m.sa with
    | none => (some (f.withLine (.ptp r.1) (s.ptpLine p r.1 []), r.2), s)
    | some a =>
      let k := s.saKey a
      (k.1.map fun key => (f.withLine (.ptp r.1) (s.ptpLine p r.1 key), r.2), k.2)
  | .ntp m => (some (f.withLine f.pay (s.ntpLine m v), none), s)
  | .rtp b => (some (f.withLine f.pay b, none), s)
  | _ => (some (f, none), s)

/-- The device may launch this frame: no PTP or NTP packet in RELINQUISH (R342), and of a standby only Pdelay_Resp with its
Follow_Up, and NTP while STBY_NTP = 1 (R243). -/
def State.mayLaunch (s : State) (pay : Payload) : Bool :=
  match pay with
  | .ptp m => !s.flt.relinq && (!s.standby || decide (m.kind = .pdelayResp ∨ m.kind = .pdelayRespFollowUp))
  | .ntp _ => !s.flt.relinq && (!s.standby || s.on .TSV_CTL 30)
  | .rtp _ => !s.flt.relinq
  | _ => true

end Sys2Proof.Machine
end

