-- ==== Sys2Proof/Machine/Eth.lean ====
section
/-! DEFINITION. The Ethernet ports (chapter 9, R193 to R216). The lanes send at the rate of the Gauge (R19), so a
duration on the line counts ns of line time. -/

namespace Sys2Proof.Machine

/-- The port is enabled and the device is not in HALT (R343). -/
def State.portOn (s : State) (p : Nat) : Bool :=
  s.on .ETH_CFG 31 p && decide (s.fl .ETH_CFG 30 28 p ≠ 0) && !s.quiet && s.coreOn

/-- The MAC rate of a port in Gb/s, that is in bits a ns (R193). -/
def State.portRate (s : State) (p : Nat) : Nat := [1, 1, 10, 25, 50, 100, 400, 1].getD (s.fl .ETH_CFG 30 28 p) 1

/-- The ns that `n` bits take on a port. -/
def State.bitsNs (s : State) (p n : Nat) : Nat := ceilDiv n (s.portRate p)

/-- Line time in ns: that of the transmit clocks, which no step moves (R19). -/
def State.lineNs (s : State) : Nat := s.gau.tl / 2 ^ 40

/-! ### DMA descriptors that wait for a frame -/

/-- A frame's descriptor, if it has one, gets RESULT `r`. -/
def State.frameResult (s : State) (f : TxFrame) (r : Nat) : State :=
  match f.dma with
  | none => s
  | some (q, id) => s.dmaResult q id (r, 0, 0)

/-! ### Receive (R195 to R197) -/

/-- Filter e of port p takes the frame (R196). -/
def State.filterHits (s : State) (p : Nat) (x : Parsed) (dport : Option Nat) (e : Nat) : Bool :=
  let m := s.inForce .ETH_FLT_CTL p e
  let k := s.inForce .ETH_FLT_KEY p e
  bitOn m 31 && (!bitOn m 30 || decide (x.etype = bits k 31 16)) && (!bitOn m 29 || decide (x.vid = bits k 11 0))
    && (!bitOn m 28 || decide (x.pcp = bits k 15 13)) && (!bitOn m 27 || dport == some (s.fl .ETH_FLT_UDP 15 0 p e))
    && (!bitOn m 26 || x.mcast)

/-- The receive queue of a frame (R196). -/
def State.queueOf (s : State) (p : Nat) (x : Parsed) (dport : Option Nat) : Nat :=
  match (List.range 64).find? (s.filterHits p x dport) with
  | some e => s.fl .ETH_FLT_CTL 4 0 p e
  | none => s.fl .ETH_RXDEF 4 0 p

/-- Units of 256 bytes. -/
def units (n : Nat) : Nat := ceilDiv n 256

/-- The on-chip occupancy of the frames that meet `sel` (R197). -/
def EthP.occ (x : EthP) (sel : RxFrame → Bool) : Nat :=
  ((x.rx.filter fun f => !f.spilled && sel f).map fun f => units f.bytes.length).sum

/-- The bytes that the spilled frames of a queue take in its ring. -/
def EthP.spillBytes (x : EthP) (q : Nat) : Nat :=
  ((x.rx.filter fun f => f.spilled && decide (f.q = q)).map fun f => 32 + f.bytes.length).sum

/-- Frame priority p's occupancy for PFC (R199). -/
def State.prioOcc (s : State) (p c : Nat) : Nat := (s.ep p).occ fun f => decide (s.fl .ETH_RXQ_CFG 29 27 p f.q = c)

/-! ### Pause frames sent (R199) -/

/-- The classes of pause frames that the port sends: 8 is PAUSE (R199). -/
def State.pauseClasses (s : State) (p : Nat) : List Nat :=
  match s.fl .ETH_PAUSE 30 29 p with
  | 1 => [8]
  | 2 => (List.range 8).filter fun c => s.on .ETH_PAUSE (16 + c) p
  | _ => []

/-- A pause frame of the port's own waits for the launch decision (R198). -/
def State.queuePause (s : State) (p c quanta : Nat) (xoff : Bool) : State :=
  let x := s.ep p
  s.setEp p { x with
    ctl := x.ctl ++ [tsvFrame 7 (.pause c quanta xoff) 60], xoff := x.xoff.set c (if xoff then 1 else 0) }

/-- An XOFF for a priority is in force. -/
def EthP.xoffOn (x : EthP) (c : Nat) : Bool := decide (x.xoff.get c 0 ≠ 0)

/-- A priority's thresholds are tested: `occ` is the larger of its own occupancy and the total (R199). -/
def State.pauseTest (s : State) (p c occ : Nat) : State :=
  if !(s.ep p).xoffOn c && decide (s.inForce .ETH_HIWM p ≤ occ) then s.queuePause p c (s.fl .ETH_PAUSE 15 0 p) true
  else if (s.ep p).xoffOn c && decide (occ ≤ s.inForce .ETH_LOWM p) then s.queuePause p c 0 false
  else s

/-- The pause thresholds of a port are tested: no XOFF is in force for a class that the port sends no pause frames for (R199). -/
def State.pauseCheck (s : State) (p : Nat) : State :=
  let total := (s.ep p).occ fun _ => true
  let live := s.pauseClasses p
  let s1 := s.setEp p { s.ep p with xoff := (s.ep p).xoff.filter fun e => live.contains e.1 }
  if (s.ep p).link then live.foldl (fun t c => t.pauseTest p c (if c = 8 then total else max (t.prioOcc p c) total)) s1 else s1

/-- A received frame is discarded by its queue. -/
def State.rxDrop (s : State) (p q : Nat) : State := (s.bump .ETH_RXQ_DROP 31 16 1 p q).pmcEth p 4

/-- A frame goes to the ring of its queue in DRAM (R197): records and frames in a row from SPILL_BASE, from the start
again where one would pass the end. -/
def State.spillFrame (s : State) (p : Nat) (f : RxFrame) : State :=
  let x := s.ep p
  let len := s.fl .ETH_RXQ_SPILL_LEN 23 0 p f.q * 1024
  let n := 32 + f.bytes.length
  if len < x.spillBytes f.q + n then s.rxDrop p f.q
  else
    let at_ := x.spillAt.get f.q 0
    let w := if len < at_ + n then 0 else at_
    let s1 := s.setEp p { x with rx := x.rx ++ [{ f with spilled := true, spillAt := s.inForce .ETH_RXQ_SPILL_BASE p f.q + w }], spillAt := x.spillAt.set f.q (w + n) }
    (s1.memWrite 13 (s.inForce .ETH_RXQ_SPILL_BASE p f.q + w) (bytesOfWords f.stamp ++ f.bytes)).pmcEth p 13

/-- A frame for the host is stored, spilled or discarded (R197). -/
def State.storeFrame (s : State) (p : Nat) (f : RxFrame) : State :=
  let x := s.ep p
  let n := units f.bytes.length
  let fits := decide (x.occ (fun g => decide (g.q = f.q)) + n ≤ s.fl .ETH_RXQ_CFG 13 0 p f.q)
    && decide (x.occ (fun _ => true) + n ≤ 8192)
  if s.on .ETH_RXQ_CFG 26 p f.q && ((x.rx.any fun g => g.spilled && decide (g.q = f.q)) || !fits) then s.spillFrame p f
  else if fits then (s.setEp p { x with rx := x.rx ++ [f] }).pauseCheck p
  else s.rxDrop p f.q

/-- The stamp of a frame or block at a port, whose coarse edge is the present one (R209). -/
def State.ethStamp (s : State) (p code : Nat) (rx : Bool) : StampV := s.stampNow code rx (48 + 2 * p + rx.toNat)

/-- A frame for queue q is handed to its consumer, unless the queue discards it (R197): DROP, or a host queue that is no RX queue. -/
def State.handFrame (s : State) (p q : Nat) (x : Parsed) (bytes : List Byte) (v : StampV) : State :=
  let f : RxFrame :=
    ⟨q, s.fl .ETH_RXQ_CFG 31 30 p q, stampWords 2 p false x.pcp q 0 bytes.length v, v, s.qualNow, s.tc, bytes, false, 0⟩
  if f.dest = 0 then s.pmcEth p 4
  else if f.dest = 1 ∧ s.fl .DMA_CFG 30 28 (s.fl .ETH_RXQ_CFG 19 16 p q) ≠ 2 then s.rxDrop p q
  else s.storeFrame p f

/-- A frame leaves the buffers of port p; pause thresholds are tested (R199). -/
def State.rxLeave (s : State) (p : Nat) (f : RxFrame) : State :=
  (s.setEp p { s.ep p with rx := (s.ep p).rx.erase f }).pauseCheck p

/-- The oldest frame of a receive queue of port p for consumer `dest` that meets `sel`: in each queue only the first one waits to be taken. -/
def State.rxFirst (s : State) (p dest : Nat) (sel : RxFrame → Bool) : Option RxFrame :=
  (s.ep p).rx.find? fun f => decide (f.dest = dest) && decide ((s.ep p).rx.find? (fun g => decide (g.q = f.q)) = some f) && sel f

/-- A consumer takes a frame: whether it may use it, and the state without the frame. A spilled one is read back from DRAM, and is
discarded where its read is poisoned (R197, R372). -/
def State.rxTake (s : State) (p : Nat) (f : RxFrame) : Bool × State :=
  if f.spilled then
    let r := s.memRead 13 f.spillAt (32 + f.bytes.length)
    if r.2.1 then (false, (r.2.2.rxLeave p f).rxDrop p f.q) else (true, r.2.2.rxLeave p f)
  else (true, s.rxLeave p f)

/-! ### Pause received (R200, R201) -/

/-- Priority c is paused (R201). -/
def State.paused (s : State) (p c : Nat) : Bool := decide (s.gau.l < (s.ep p).pause.get c 0)

/-- The pause timer of a priority is loaded by a frame that ends in `d` ns; a quanta of 0 releases at once (R200). -/
def State.loadPause (s : State) (p c quanta d : Nat) : State :=
  let x := s.ep p
  s.setEp p { x with pause := x.pause.set c (s.gau.l + if quanta = 0 then 0 else d + s.bitsNs p (quanta * 512)) }

/-- The quanta that a pause frame has for class c, where it names the class. -/
def pauseQuanta (k : PauseFrame) (c : Nat) : Option Nat :=
  match k with
  | .pause q => some q.toNat
  | .pfc vec qs => if bitOn vec.toNat c then some (qs.toList.getD c 0).toNat else none

/-- A PFC frame acts only on the classes that PFC_EN enables (R200). -/
def State.pauseActs (s : State) (p : Nat) (k : PauseFrame) (c : Nat) : Bool :=
  match k with
  | .pause _ => true
  | .pfc _ _ => s.on .ETH_PAUSE (16 + c) p

/-- A received PAUSE or PFC frame that ends in `d` ns (R200). -/
def State.pauseOp (s : State) (p : Nat) (k : PauseFrame) (d : Nat) : State :=
  if ¬ s.on .ETH_PAUSE 31 p then s.bump .ETH_DROP2 7 0 1 p
  else
    let s1 := (List.range 8).foldl (fun t c => match pauseQuanta k c with
      | some q => if s.pauseActs p k c then t.loadPause p c q d else t
      | none => t) s
    (s1.bump .ETH_PAUSE_STAT 15 0 1 p).pmcEth p 5

/-- A received frame with its FCS (R195 to R197, R200, R209). -/
def State.receiveFrame (s : State) (p : Nat) (bytes : List Byte) (fcsOk : Bool) (code : Nat) : State :=
  let s0 := (((s.boundary (.frame ⟨p % 8, Nat.mod_lt _ (by decide)⟩)).markStamp (49 + 2 * p)).pmcEth p 0).pmcEth p 1 bytes.length
  if ¬ fcsOk then (s0.bump .ETH_DROP 31 16 1 p).pmcEth p 4
  else if s.fl .ETH_CFG 13 0 p < bytes.length then (s0.bump .ETH_DROP 15 0 1 p).pmcEth p 4
  else match pauseIn bytes with
  | some k => s0.pauseOp p k (s.bitsNs p (8 * bytes.length))
  | none =>
    let x := parseFrame bytes
    s0.handFrame p (s0.queueOf p x (x.dport bytes)) x bytes (s0.ethStamp p code true)

/-! ### The Row table (R203 to R208) -/

/-- The time scale of a table, in 2^-40 ns, now and at the edge before (R203). -/
def State.rowScale (s : State) (p : Nat) : Int := if s.on .ETH_ROW_CTL 30 p then s.tc else s.gau.g
/-- The scale at the edge before. -/
def State.rowScaleWas (s : State) (p : Nat) : Option Int :=
  if s.on .ETH_ROW_CTL 30 p then s.out.ptc else s.gau.prev.map Int.ofNat

/-- T: the scale in whole ns. -/
def State.rowT (s : State) (p : Nat) : Int := Int.fdiv (s.rowScale p) (2 ^ 40)

/-- A cycle of length `cycle` from `base` starts at this edge. -/
def State.cycleAt (s : State) (p cycle base : Nat) : Bool :=
  let k (t : Int) : Int := Int.fdiv (t - (base * 2 ^ 40 : Nat)) (cycle * 2 ^ 40 : Nat)
  s.gau.running && match s.rowScaleWas p with
    | none => true
    | some w => decide (k w ≠ k (s.rowScale p))

/-- OFS of slot i of the table in force. -/
def State.slotOfs (s : State) (p i : Nat) : Nat := s.inForce .ROWA_OFS p i

/-- The position in the cycle. -/
def State.rowPos (s : State) (p : Nat) : Nat :=
  let a := (s.ep p).act
  (Int.fmod (s.rowT p - a.2.1) (max a.1 1)).toNat

/-- The slot that holds the position. -/
def State.slotAt (s : State) (p : Nat) : Nat :=
  let n := (s.ep p).act.2.2
  ((List.range n).filter fun i => decide (s.slotOfs p i ≤ s.rowPos p)).getLast?.getD 0

/-- A table of R204 is valid. -/
def tableValid (cycle base n : Nat) (ofs : Nat → Nat) : Bool :=
  decide (1000 ≤ cycle ∧ cycle ≤ 10 ^ 9 ∧ 10 ^ 9 % cycle = 0 ∧ base < cycle ∧ 1 ≤ n ∧ n ≤ 256 ∧ ofs 0 = 0 ∧ ofs (n - 1) < cycle)
    && (List.range (n - 1)).all fun i => decide (ofs i < ofs (i + 1))

/-- The shadow is valid. -/
def State.shadowValid (s : State) (p : Nat) : Bool :=
  tableValid (s.inForce .ROWT_CYCLE p) (s.inForce .ROWT_BASE p) (s.inForce .ROWT_NSLOT p) (fun i => s.inForce .ROWT_OFS p i)

/-- Entry i of the two copies changes places (R206). -/
def State.swapEntry (s : State) (p i : Nat) : State :=
  let o := s.inForce .ROWT_OFS p i
  let g := s.inForce .ROWT_GATE p i
  let s1 := (s.setReg .ROWT_OFS (s.lastOf .ROWA_OFS p i) p i).setReg .ROWT_GATE (s.lastOf .ROWA_GATE p i) p i
  (s1.setReg .ROWA_OFS o p i).setReg .ROWA_GATE g p i

/-- The copies exchange roles (R206). -/
def State.swapTables (s : State) (p : Nat) : State :=
  let x := s.ep p
  let new := (s.inForce .ROWT_CYCLE p, s.inForce .ROWT_BASE p, s.inForce .ROWT_NSLOT p)
  let s1 := ((s.setReg .ROWT_CYCLE x.act.1 p).setReg .ROWT_BASE x.act.2.1 p).setReg .ROWT_NSLOT x.act.2.2 p
  let s2 := (List.range 256).foldl (fun t i => t.swapEntry p i) s1
  (s2.setEp p { x with act := new, bank := !x.bank, err := 0, land := (s.rowT p).toNat }).setFl .ETH_ROW_CTL 29 29 0 p

/-- The entries of ACTIVE whose written value is not in force. -/
def State.liveWaits (s : State) (p : Nat) : List Nat :=
  (List.range 256).filter fun i =>
    s.lastOf .ROWA_OFS p i != s.inForce .ROWA_OFS p i || s.lastOf .ROWA_GATE p i != s.inForce .ROWA_GATE p i

/-- Live writes land (R207). -/
def State.landWrites (s : State) (p : Nat) : State :=
  if (s.ep p).live then
    let s1 := (s.liveWaits p).foldl (fun t i =>
      (t.setReg .ROWA_OFS (t.lastOf .ROWA_OFS p i) p i).setReg .ROWA_GATE (t.lastOf .ROWA_GATE p i) p i) s
    s1.setEp p { s1.ep p with live := false, land := (s.rowT p).toNat }
  else s

/-- Frame `c`, of which a part passes now, is counted once if its gate is closed; the port's own pause frames have none (R198, R205). -/
def State.countLate (s : State) (p : Nat) (c : TxCur) : State :=
  let gated : Bool := match c.f.pay with
    | .pause _ _ _ => false
    | _ => true
  if gated ∧ ¬ c.late ∧ ¬ bitOn (s.ep p).gate c.f.tc ∧ s.on .ETH_ROW_CTL 31 p ∧ (s.ep p).rowRun then
    ((s.setEp p { s.ep p with cur := some { c with late := true } }).bump .ETH_ROW_STAT 15 0 1 p).pmcEth p 12
  else s

/-- A frame in transmission whose gate is now closed (R205). -/
def State.overrunCheck (s : State) (p : Nat) : State :=
  match (s.ep p).cur with
  | none => s
  | some c => if c.stop ≤ s.lineNs then s else s.countLate p c

/-- Slot i starts: live writes land and its entry is latched (R205, R207). -/
def State.startSlot (s : State) (p i : Nat) : State :=
  let s1 := s.landWrites p
  let v := s1.inForce .ROWA_GATE p i
  (s1.setEp p { s1.ep p with slot := i, gate := bits v 7 0, hold := bitOn v 8 }).overrunCheck p

/-- A swap is requested and the shadow's cycle starts at this edge (R206). -/
def State.swapDueRow (s : State) (p : Nat) : Bool :=
  s.on .ETH_ROW_CTL 29 p && (decide (s.inForce .ROWT_CYCLE p = 0)
    || s.cycleAt p (s.inForce .ROWT_CYCLE p) (s.inForce .ROWT_BASE p))

/-- The swap test (R206). -/
def State.trySwap (s : State) (p : Nat) : State :=
  if s.swapDueRow p then
    if s.shadowValid p then s.swapTables p
    else (s.setEp p { s.ep p with err := 1 }).setFl .ETH_ROW_CTL 29 29 0 p
  else s

/-- A cycle start of the table in force (R203). -/
def State.cycleStart (s : State) (p : Nat) : State :=
  let a := (s.ep p).act
  if s.on .ETH_ROW_CTL 31 p ∧ s.cycleAt p a.1 a.2.1 then
    (s.setEp p { s.ep p with rowRun := true }).startSlot p (s.slotAt p)
  else s

/-- Gate c is open (R203, R205). -/
def State.gateOpen (s : State) (p c : Nat) : Bool :=
  !s.on .ETH_ROW_CTL 31 p || !(s.ep p).rowRun || bitOn (s.ep p).gate c

/-- HOLD of the slot in force. -/
def State.holding (s : State) (p : Nat) : Bool := s.on .ETH_ROW_CTL 31 p && (s.ep p).rowRun && (s.ep p).hold

/-- ns until gate c next closes, within the present cycle and slot 0 of the next one (R205). -/
def State.closesIn (s : State) (p c : Nat) : Option Nat :=
  let a := (s.ep p).act
  let pos := s.rowPos p
  let shut (i : Nat) : Bool := !bitOn (s.inForce .ROWA_GATE p i) c
  match (List.range a.2.2).find? fun i => decide ((s.ep p).slot < i) && shut i with
  | some i => some (s.slotOfs p i - pos)
  | none => if shut 0 then some (a.1 - pos) else none

/-- The fit rule for `n` bytes of class c (R205). -/
def State.fits (s : State) (p c n : Nat) : Bool :=
  !s.on .ETH_ROW_CTL 31 p || !(s.ep p).rowRun || match s.closesIn p c with
    | none => true
    | some d => decide (s.bitsNs p ((8 + n) * 8) ≤ d)

/-! ### Transmit (R198, R202) -/

/-- Preemption is active (R202). -/
def State.preempting (s : State) (p : Nat) : Bool :=
  s.on .ETH_PREEMPT 31 p && (s.on .ETH_PREEMPT 30 p || decide ((s.ep p).verify = 3))

/-- Class c goes through the express MAC (R202). -/
def State.express (s : State) (p c : Nat) : Bool := !s.preempting p || s.on .ETH_PREEMPT (16 + c) p

/-- The head frame of class c may be launched (R198, R202, R205). -/
def State.launchable (s : State) (p c : Nat) (f : TxFrame) : Bool :=
  !s.paused p c && s.gateOpen p c && (if s.express p c then s.fits p c f.len else !s.holding p)

/-- The head frame of a class. -/
def EthP.head (x : EthP) (c : Nat) : Option TxFrame := x.txq.find? fun f => decide (f.tc = c)

/-- The classes, highest first, whose head frame may be launched. -/
def State.ready (s : State) (p : Nat) : List TxFrame :=
  ([7, 6, 5, 4, 3, 2, 1, 0] : List Nat).filterMap fun c => match (s.ep p).head c with
    | some f => if s.launchable p c f then some f else none
    | none => none

/-- A frame is submitted to a port (R194, R198). -/
def State.submitFrame (s : State) (p : Nat) (f : TxFrame) : State :=
  let x := s.ep p
  if x.link ∧ s.portOn p then s.setEp p { x with txq := x.txq ++ [f] }
  else (s.bump .ETH_DROP2 31 16 1 p).frameResult f 3

/-- The frame in transmission is stamped where it carries TS_REQ, is a one-step frame, or is the source of a Follow_Up (R209): once its first
bit after the SFD has passed. The interpolator code is a free value. -/
def State.stampCur (s : State) (p : Nat) : State :=
  match (s.ep p).cur with
  | none => s
  | some c =>
    if c.stamp.isNone ∧ (c.f.tsReq ∨ c.f.oneStep ∨ c.fup.isSome) ∧ c.at_ + s.bitsNs p 64 ≤ s.lineNs then
      let d := s.draw 32
      (d.2.setEp p { d.2.ep p with cur := some { c with stamp := some (s.ethStamp p (d.1 % 640) false) } }).markStamp (48 + 2 * p)
    else s

/-- The frame in transmission has ended (R364): its stamp waits to be stored (R215; one-step frames do not use the FIFO, R213), and the
Follow_Up that waits for it may go (R225). -/
def State.txDone (s0 : State) (p : Nat) : State :=
  let s := s0.stampCur p
  let x := s.ep p
  match x.cur with
  | none => s
  | some c =>
    if s.lineNs < c.stop then s
    else
      let mine : List (TxFrame × StampV) := match c.stamp with
        | some v => if c.f.tsReq ∧ ¬ c.f.oneStep then [(c.f, v)] else []
        | none => []
      (((s.setEp p { x with cur := none, stamps := x.stamps ++ mine, fup := x.fup ++ c.fup.toList }).pmcEth p 2).pmcEth p 3
        c.f.len).frameResult c.f 0

/-! ### One-step insertion (R213, R214) -/

/-- V in 2^-16 ns for a launch at this edge: the fixed latency of the path and the frame's alignment are not stated, so
their sum is a free value (R213). -/
def State.predict (s : State) (p : Nat) : Int × State :=
  let d := s.draw 32
  ((s.gau.g / 2 ^ 24 : Nat) + (d.1 : Int) + sext 32 (s.inForce .ETH_TX_COMP p), d.2)

/-- One-step insertion into a payload: none where no PTP header is found (R213, R214). -/
def insertPay (pay : Payload) (v : Int) : Option Payload :=
  let whole := Int.fdiv v 65536
  let frac := (Int.fmod v 65536).toNat
  let sec := (Int.fdiv whole (10 ^ 9)).toNat % 2 ^ 48
  let ns := (Int.fmod whole (10 ^ 9)).toNat
  match pay with
  | .raw l => (ptpAt l).map fun h => .raw (insertTime l h sec ns frac)
  | _ => none

/-- A one-step frame is discarded (R214). -/
def State.oneStepDrop (s : State) (p : Nat) (f : TxFrame) : State := (s.bump .ETH_DROP2 15 8 1 p).frameResult f 3

/-- A frame begins (R198): its first preamble byte passes the stamp point at this edge; `fup` is the Follow_Up that waits for it. -/
def State.beginFrame (s : State) (p : Nat) (f : TxFrame) (fup : Option TxFrame) : State :=
  (s.setEp p { s.ep p with
    cur := some ⟨f, s.lineNs, 0, s.lineNs + s.bitsNs p ((8 + f.len) * 8), !s.express p f.tc, false, none, fup⟩ }).send (.frame p f 0)

/-- A frame that TSV or AUD built is launched: its content is that of the launch edge (R217, R219, R225). One without a usable key is
discarded (R234). -/
def State.launchBuilt (s : State) (p : Nat) (f : TxFrame) : State :=
  if s.mayLaunch f.pay then
    let v := s.predict p
    let r := v.2.fillFrame p f v.1
    match r.1 with
    | none => r.2
    | some (g, m) =>
      let s1 := r.2.beginFrame p g (m.map (r.2.ptpFrame p))
      if f.oneStep then s1.pmcEth p 8 else s1
  else s

/-- The chosen frame leaves its queue and is launched, with its insertion (R198, R213). -/
def State.launch (s : State) (p : Nat) (f : TxFrame) : State :=
  let x := s.ep p
  let s0 := s.setEp p { x with txq := x.txq.erase f }
  if f.oneStep ∧ (2048 < f.len ∨ (s.preempting p ∧ ¬ s.express p f.tc)) then s0.oneStepDrop p f
  else match f.pay with
    | .raw _ =>
      if f.oneStep then
        let v := s0.predict p
        match insertPay f.pay v.1 with
        | none => s0.oneStepDrop p f
        | some pay => (v.2.beginFrame p { f with pay := pay } none).pmcEth p 8
      else s0.beginFrame p f none
    | _ => s0.launchBuilt p f

/-- A pause frame of the port's own leaves, unless the port sends none of its class any more (R198, R199). -/
def State.launchCtl (s : State) (p : Nat) (f : TxFrame) (r : List TxFrame) : State :=
  let x := s.ep p
  let s0 := s.setEp p { x with ctl := r }
  match f.pay with
  | .pause c quanta xoff =>
    if (s.pauseClasses p).contains c then
      let t := (s0.setEp p { s0.ep p with
        xoff := if xoff ∧ x.xoffOn c then x.xoff.set c (s.gau.l + 2) else x.xoff
        cur := some ⟨f, s.lineNs, 0, s.lineNs + s.bitsNs p ((8 + f.len) * 8), false, false, none, none⟩ }).send (.pause p [(c, quanta)])
      if xoff then t.pmcEth p 6 else t
    else s0
  | _ => s0

/-- Bytes of the present fragment that have passed the stamp point. -/
def State.fragSent (s : State) (p : Nat) (c : TxCur) : Nat := (s.lineNs - c.at_) * s.portRate p / 8 - 8

/-- The frame in transmission is at a fragment boundary: the fragment so far, the last four bytes of which are its mCRC, and what remains of
the frame with its FCS are long enough (R202). -/
def State.atFragment (s : State) (p : Nat) (c : TxCur) : Bool :=
  let n := s.fragSent p c
  c.pre && s.preempting p && decide (64 * (1 + s.fl .ETH_PREEMPT 29 28 p) ≤ n ∧ c.before + (n - 4) + 64 ≤ c.f.len)

/-- The frame in transmission stops at the boundary: its remainder is held (R201, R202, R205). -/
def State.cutFrame (s : State) (p : Nat) (c : TxCur) : State :=
  let n := c.before + (s.fragSent p c - 4)
  ((s.setEp p { s.ep p with cur := none, held := some { c with before := n } }).send (.preempt p n)).pmcEth p 7

/-- The held remainder goes on (R202); a closed gate does not stop it, but counts (R205). -/
def State.continueFrame (s : State) (p : Nat) (h : TxCur) : State :=
  let c : TxCur := { h with at_ := s.lineNs, stop := s.lineNs + s.bitsNs p ((8 + (h.f.len - h.before)) * 8) }
  let s1 := ((s.setEp p { s.ep p with held := none, cur := some c }).send (.frame p c.f c.before)).bump .ETH_PREEMPT_STAT 15 0 1 p
  s1.countLate p c

/-- The transmitter is free: a pause frame of its own, an express frame, else the held remainder, else a preemptable frame (R198, R202). -/
def State.choose (s : State) (p : Nat) : State :=
  match (s.ep p).ctl with
  | f :: r => s.launchCtl p f r
  | [] =>
    let r := s.ready p
    match (s.ep p).held with
    | none => match r with
      | [] => s
      | f :: _ => s.launch p f
    | some h =>
      match r.filter fun g => s.express p g.tc with
      | g :: _ => s.launch p g
      | [] => if s.paused p h.f.tc ∨ s.holding p then s else s.continueFrame p h

/-- A launch decision (R198). -/
def State.decide_ (s : State) (p : Nat) : State :=
  let s1 := s.txDone p
  match (s1.ep p).cur with
  | none => if (s1.ep p).link ∧ s1.portOn p then s1.choose p else s1
  | some c =>
    if s1.atFragment p c then
      if (s1.ep p).ctl ≠ [] ∨ (s1.ready p).any fun g => s1.express p g.tc then (s1.cutFrame p c).choose p
      else if s1.paused p c.f.tc ∨ s1.holding p then s1.cutFrame p c
      else s1
    else s1

/-! ### Stamps sent (R215, R216) -/

/-- The TX record of the oldest frame that has passed and awaits one (R215): a Delay_Req or Pdelay_Req of TSV has its own (R228). -/
def State.storeStamp (s : State) (p : Nat) : State :=
  let x := s.ep p
  match x.stamps with
  | [] => s
  | (f, v) :: r => match f.pay with
   | .ptp m => (s.setEp p { x with stamps := r }).tsvStamp p m (stampWords 1 p false f.tc 0 0 f.len v)
   | _ =>
    if x.txts.length < 1024 then
      let w := stampWords 1 p (decide (x.lost ≠ 0)) f.tc 0 x.lost (f.tag * 2 ^ 16 + f.len) v
      ((s.setEp p { x with stamps := r, txts := x.txts ++ [w], lost := 0 }).pmcEth p 9).sample 6 p (x.txts.length + 1)
    else ((s.setEp p { x with stamps := r, lost := x.lost + 1 }).bump .ETH_TXTS_STAT 31 16 1 p).pmcEth p 10

/-- A requester's latch takes a register's value (R6). -/
def State.setLatch (s : State) (r : Requester) (addr val : Nat) : State :=
  { s with latches := s.latches.set (reqId r) ⟨addr, val, 0, 0, 0⟩ }

/-- A word-0 read of ETH_TXTS (R216). -/
def State.popStamp (s : State) (r : Requester) (p : Nat) : State :=
  let x := s.ep p
  match x.txts with
  | [] => s.setLatch r (RegName.ETH_TXTS.addr p) 0
  | w :: ws => (s.setEp p { x with txts := ws }).setLatch r (RegName.ETH_TXTS.addr p) (natOfWords w)

/-! ### The commands -/

/-- LINK_DOWN (R194). -/
def execLinkDown (p : Fin 8) (s : State) : Res := .next (s.setLinkUp p false)

/-- LINK_UP (R194). -/
def execLinkUp (p : Fin 8) (s : State) : Res := .next (if s.portOn p then s.setLinkUp p true else s)

/-- FRAME_RECEIVE (R195 to R197). -/
def execFrameReceive (p : Fin 8) (bytes : List Byte) (fcsOk : Bool) (code : Fin 640) (s : State) : Res :=
  .next (if (s.ep p).link ∧ s.portOn p then s.receiveFrame p bytes fcsOk code else s)

/-- PAUSE_REPEAT (R199): an XOFF in force is repeated QUANTA × 256 bit times after the last one that left. -/
def execPauseRepeat (p : Fin 8) (s : State) : Res :=
  .next ((s.pauseClasses p).foldl (fun t c =>
    let x := (t.ep p).xoff.get c 0
    if (t.ep p).link ∧ t.portOn p ∧ 2 ≤ x ∧ x - 2 + t.bitsNs p (t.fl .ETH_PAUSE 15 0 p * 256) ≤ t.gau.l then
      t.queuePause p c (t.fl .ETH_PAUSE 15 0 p) true else t) (s.pauseCheck p))

/-- PAUSE_RECEIVE (R200). -/
def execPauseReceive (p : Fin 8) (pfc : Bool) (vec : Byte) (quanta : Vector Half 8) (fcsOk : Bool) (s : State) : Res :=
  .next (if ¬ ((s.ep p).link ∧ s.portOn p) then s
    else if fcsOk then s.pauseOp p (if pfc then .pfc vec quanta else .pause quanta[0]) 0
    else (s.bump .ETH_DROP 31 16 1 p).pmcEth p 4)

/-- PAUSE_EXPIRY (R200, R201). -/
def execPauseExpiry (p c : Fin 8) (s : State) : Res :=
  .next (if s.paused p c then s else s.setEp p { s.ep p with pause := (s.ep p).pause.set c 0 })

/-- A verify frame is sent (R202). -/
def State.sendVerify (s : State) (p : Nat) (n : Nat) : State :=
  (s.setEp p { s.ep p with verify := 2, tries := n, verifyAt := s.gau.l }).send (.verify p)

/-- Preemption verification (R202): the first verify frame, a response, or the end of VERIFY_TIME without one. -/
def State.verifyStep (s : State) (p : Nat) (responded : Bool) : State :=
  let x := s.ep p
  match x.verify with
  | 1 => if responded then s else s.sendVerify p 1
  | 2 =>
    if responded then s.setEp p { x with verify := 3 }
    else if s.gau.l < x.verifyAt + s.fl .ETH_PREEMPT 7 0 p * 1000000 then s
    else if x.tries < 3 then s.sendVerify p (x.tries + 1)
    else s.setEp p { x with verify := 4 }
  | _ => s

/-- PREEMPT_VERIFY (R202). -/
def execPreemptVerify (p : Fin 8) (responded : Bool) (s : State) : Res :=
  .next (if (s.ep p).link ∧ s.portOn p then s.verifyStep p responded else s)

/-- LAUNCH_DECISION (R198). -/
def execLaunchDecision (p : Fin 8) (s : State) : Res := .next (s.decide_ p)

/-- TX_STAMP_STORE (R215). -/
def execTxStampStore (p : Fin 8) (_ : Unit) (s : State) : Res := .next (s.storeStamp p)

/-- ROW_CYCLE_START (R203, R206): once at an edge. -/
def execRowCycleStart (p : Fin 8) (s : State) : Res :=
  .next (if s.fresh (0x400 + p.val) then ((s.fire (0x400 + p.val)).trySwap p).cycleStart p else s)

/-- SLOT_START (R205). -/
def execSlotStart (p : Fin 8) (s : State) : Res :=
  .next (if s.on .ETH_ROW_CTL 31 p ∧ (s.ep p).rowRun ∧ s.slotAt p ≠ (s.ep p).slot then s.startSlot p (s.slotAt p) else s)

/-- ETH_MARKER (R211): with the first idle block from MARK_INT after the marker before. The interpolator code, and the distance of the predicted from the stamped instant,
are free values. -/
def execEthMarker (p : Fin 8) (_ _ : Unit) (s : State) : Res :=
  let due : Bool := match (s.ep p).markAt with
    | none => true
    | some t => decide (t + s.fl .ETH_TEN 31 16 p * 1000000 ≤ s.gau.l)
  let c := s.draw 32
  let d := c.2.draw 32
  .next (if s.portOn p ∧ due ∧ (s.ep p).cur.isNone then
    ((d.2.setEp p { d.2.ep p with
      markAt := some s.gau.l, loop := stampWords 3 p false 0 0 0 d.1 (s.ethStamp p (c.1 % 640) false) }).markStamp (48 + 2 * p)).pmcEth p 11
  else s)

end Sys2Proof.Machine
end

