-- ==== Sys2Proof/Machine/Tsv.lean ====
section
/-! DEFINITION. The time service: PTP instances, unicast sessions, authentication, NTP, NTS, minting and the master keys
(chapter 10). -/

namespace Sys2Proof.Machine

/-! ### Instants (R51, R223, R230) -/

/-- 2^LOG s in ns, LOG a signed byte. -/
def logNs (b : Nat) : Nat :=
  let l := sext 8 b
  if 0 ≤ l then 2 ^ l.toNat * 10 ^ 9 else 10 ^ 9 / 2 ^ (-l).toNat

/-- The last Gauge instant with GNS mod `per` = `ofs`. -/
def State.lastPhase (s : State) (per ofs : Nat) : Int := Int.fdiv ((s.gns : Int) - ofs) per * per + ofs

/-- The present edge is the first at or after a Gauge instant with GNS mod `per` = `ofs`, for the first time (R51, R52). -/
def State.atPhase (s : State) (per ofs : Nat) : Bool :=
  s.gau.running && decide (per ≠ 0) && !s.ranBefore (s.lastPhase per ofs) && match s.gau.prev with
    | none => decide (Int.fmod ((s.gns : Int) - ofs) per = 0)
    | some q => decide (Int.fdiv ((q / 2 ^ 40 : Nat) - (ofs : Int)) per < Int.fdiv ((s.gns : Int) - ofs) per)

/-- The periods of an instance: LOG_SYNC, LOG_ANN, LOG_DREQ, LOG_PDELAY. -/
def State.logOf (s : State) (p k : Nat) : Nat := s.fl .PTP_RATE (31 - 8 * k) (24 - 8 * k) p

/-- PTP_SYNC_OFS. -/
def State.syncOfs (s : State) (p : Nat) : Nat := s.fl .PTP_SYNC_OFS 29 0 p

/-- The phase of entry n's messages at a period (R230). -/
def State.sessOfs (s : State) (p n log : Nat) : Nat := (s.syncOfs p + n * logNs log / 4096) % logNs log

/-! ### Sending (R224, R228, R233) -/

/-- A frame of TSV is submitted unless it may not leave (R243). -/
def State.tsvSubmit (s : State) (p : Nat) (f : TxFrame) : State := if s.mayLaunch f.pay then s.submitFrame p f else s

/-- The association under which the instance sends (R233). -/
def State.txSa (s : State) (p : Nat) : Option Nat :=
  if s.on .PTP_AUTH 31 p then some (s.fl .PTP_AUTH 27 24 p) else none

/-- A PTP message with nothing in it but what every message has. -/
def State.ptpMsg (s : State) (p : Nat) (k : PtpKind) (seq log : Nat) : PtpOut where
  kind := k
  to_ := none
  seqId := seq
  twoStep := decide (k = .pdelayResp)
  sec := 0
  ns := 0
  corr := 0
  log := log
  forId := 0
  forPort := 0
  dataset := none
  flags := 0
  utc := 0
  gmTimeBase := 0
  gmPhase := 0
  tlv := []
  bext := []
  sa := s.txSa p

/-- A PTP message goes out. -/
def State.sendPtp (s : State) (p : Nat) (m : PtpOut) : State := s.tsvSubmit p (s.ptpFrame p m)

/-- The number of a message type among the sequence numbers (R224). -/
def kindNum : PtpKind → Nat
  | .sync => 0
  | .followUp => 1
  | .delayReq => 2
  | .delayResp => 3
  | .pdelayReq => 4
  | .pdelayResp => 5
  | .pdelayRespFollowUp => 6
  | .announce => 7
  | .signaling => 8

/-- The number of a unicast destination among the sequence numbers: its port identity and address; 0 is multicast (R224). -/
def destKey (id port : Nat) (v6 : Bool) (addr : Nat) : Nat := 1 + addr + bit1 v6 128 + port * 2 ^ 129 + id * 2 ^ 145

/-- The destination of a session. -/
def Session.key (x : Session) : Nat := destKey x.id x.idPort x.v6 x.addr

/-- The number of a sequenceId counter: of a message type to a destination (R224). -/
def seqKey (k : PtpKind) (dest : Nat) : Nat := kindNum k + 16 * dest

/-- An ACTIVE twin sends a change of its TSV state to its peer (R331). -/
def State.twinSay (s : State) (x : Sent) : State := if s.twin.role = .active then s.send x else s

/-- The next sequenceId of a type to a destination, and the state that has used it (R224). -/
def State.nextSeq (s : State) (p : Nat) (k : PtpKind) (dest : Nat) : Nat × State :=
  let x := s.inst p
  let n := x.seqs.get (seqKey k dest) 0
  let m := (n + 1) % 65536
  (n, (s.setInst p { x with seqs := x.seqs.set (seqKey k dest) m }).twinSay (.twinSeq p (seqKey k dest) m))

/-- A message to the sequencer that TSV_CTL.MSG_TS names (R228). -/
def State.tsvSay (s : State) (type p : Nat) (pay : List Word) : State :=
  let n := s.fl .TSV_CTL 27 24
  let m : Msg := ⟨type, p, pay⟩
  if s.listens n ∧ ¬ s.room n 4 m then s.bump .TSV_MSG_STAT 15 0 else s.deliver n 4 m

/-- A Signaling message with negotiation TLVs goes to a port identity at an address (R229, R231, R233). -/
def State.sendUc (s : State) (p id port : Nat) (to_ : Bool × Nat) (tlv : List Byte) : State :=
  let r := s.nextSeq p .signaling (destKey id port to_.1 to_.2)
  r.2.sendPtp p { r.2.ptpMsg p .signaling r.1 0x7F with to_ := some to_, forId := id, forPort := port, tlv := tlv }

/-- REQUEST_UNICAST_TRANSMISSION, GRANT_UNICAST_TRANSMISSION, CANCEL_UNICAST_TRANSMISSION and ACKNOWLEDGE_CANCEL (R229); `t` is the octet of
the messageType. -/
def requestTlv (t log dur : Nat) : List Byte := bytesBE 2 4 ++ bytesBE 2 6 ++ bytesBE 1 t ++ bytesBE 1 log ++ bytesBE 4 dur
def grantTlv (t log dur : Nat) : List Byte :=
  bytesBE 2 5 ++ bytesBE 2 8 ++ bytesBE 1 t ++ bytesBE 1 log ++ bytesBE 4 dur ++ bytesBE 1 0 ++ bytesBE 1 Config.ucRenewal
def cancelTlv (t : Nat) : List Byte := bytesBE 2 6 ++ bytesBE 2 2 ++ bytesBE 1 t ++ bytesBE 1 0
def ackTlv (t : Nat) : List Byte := bytesBE 2 7 ++ bytesBE 2 2 ++ bytesBE 1 t ++ bytesBE 1 0

/-! ### Sessions (R229, R230) -/

/-- The grant of a session by type. -/
def Session.grant (x : Session) : GrantKind → Option Grant
  | .announce => x.ann
  | .sync => x.sync
  | .delayResp => x.dresp
/-- The grant of a type becomes `g`. -/
def Session.setGrant (x : Session) (k : GrantKind) (g : Option Grant) : Session :=
  match k with
  | .announce => { x with ann := g }
  | .sync => { x with sync := g }
  | .delayResp => { x with dresp := g }

/-- Entry n of the session table, if it is in use. -/
def State.sess (s : State) (n : Nat) : Option Session := (s.tsv.sess.find? fun e => e.1 == n).map Prod.snd

/-- Entry n becomes `x`; an entry whose last grant has ended is freed (R230). -/
def State.putSess (s : State) (n : Nat) (x : Session) : State :=
  let none_ : Bool := x.ann.isNone && x.sync.isNone && x.dresp.isNone
  let t := if none_ then s.tsv.sess.filter (fun e => e.1 ≠ n) else s.tsv.sess.set n x
  ({ s with tsv := { s.tsv with sess := t } } : State).twinSay (.twinSession n (if none_ then none else some x))

/-- The entry of an identity (R230). -/
def State.findSess (s : State) (p id port : Nat) (v6 : Bool) (addr : Nat) : Option Nat :=
  (s.tsv.sess.find? fun e =>
    decide (e.2.port = p ∧ e.2.id = id ∧ e.2.idPort = port ∧ e.2.v6 = v6 ∧ e.2.addr = addr)).map Prod.fst

/-- The lowest free entry among those from `n` on, with `f` left to try. -/
def freeFrom (t : Tab Session) : Nat → Nat → Option Nat
  | 0, _ => none
  | f + 1, n => match t with
    | [] => some n
    | e :: r => if e.1 = n then freeFrom r f (n + 1) else some n

/-- The lowest free entry of the session table. -/
def State.freeSess (s : State) : Option Nat := freeFrom s.tsv.sess 4096 0

/-- The grants of a session that run, for the CANCELs of R230. -/
def Session.kinds (x : Session) : List GrantKind :=
  [GrantKind.announce, .sync, .delayResp].filter fun k => (x.grant k).isSome

/-- The instance has left MASTER: its grants are cancelled and its entries freed (R230). -/
def State.cancelAll (s : State) (p : Nat) : State :=
  let mine := s.tsv.sess.filter fun e => e.2.port = p
  let s1 := mine.foldl (fun t e =>
    e.2.kinds.foldl (fun u k => u.sendUc p e.2.id e.2.idPort (e.2.v6, e.2.addr) (cancelTlv (grantType k * 16))) t) s
  { s1 with tsv := { s1.tsv with sess := s1.tsv.sess.filter fun e => e.2.port ≠ p } }

/-! ### Deciding the state (R222) -/

/-- The best qualified foreign master. -/
def State.erbest (s : State) (p : Nat) : Option Foreign :=
  ((s.inst p).foreign.filter Foreign.qual).foldl (fun b f => match b with
    | none => some f
    | some g => if Config.bmca (s.profile p) (s.fl .PTP_CFG 7 0 p) false false f.ds g.ds then some f else some g) none

/-- The own dataset is better than that of `f`. -/
def State.ownBetter (s : State) (p : Nat) (f : Foreign) : Bool :=
  Config.bmca (s.profile p) (s.fl .PTP_CFG 7 0 p) true false (s.ownDataset p) f.ds

/-- The state that R222 gives an instance: 0 DISABLED, 1 LISTENING, 2 MASTER, 3 SLAVE, 4 PASSIVE. -/
def State.ptpState (s : State) (p : Nat) : Nat :=
  let role := s.fl .PTP_CFG 27 26 p
  if ¬ s.ptpOn p then 0
  else if s.standby then 1
  else match s.erbest p with
    | none => if role = 2 then 1 else 2
    | some f =>
      if s.ownBetter p f then (if role = 2 then 1 else 2) else if role = 1 then 4 else 3

/-- The words of a PARENT message (R228). -/
def parentWords (st : Nat) (f : Option Foreign) : List Word :=
  match f with
  | none => w32 st :: List.replicate 7 0
  | some f =>
    [w32 st] ++ wordsOf 2 f.id ++ [w32 f.port] ++ wordsOf 2 f.ds.clockId.toNat
      ++ [w32 (f.ds.cls.toNat * 2 ^ 24 + f.ds.acc.toNat * 2 ^ 16 + f.ds.oslv.toNat),
          w32 (f.ds.steps.toNat * 2 ^ 16 + f.ds.timeSource.toNat)]

/-- PTP_PARENT or PTP_GM changes (R222): a recorder event, a PARENT message, and the LINK condition of R70. -/
def State.parentChange (s : State) (p st : Nat) (f : Option Foreign) : State :=
  (((s.recEvent 0x20 p).tsvSay 0x43 p (parentWords st f)).external (10 + p) true true).ethCheck p

/-- An instance decides its state (R222, R230). -/
def State.decideInst (s : State) (p : Nat) : State :=
  let st := s.ptpState p
  let x := s.inst p
  let f := if st = 3 then s.erbest p else none
  let parent := f.map fun f => (f.id, f.port)
  let gm := (f.map fun f => f.ds.clockId.toNat).getD 0
  let s1 := s.setInst p { x with st := st, parent := parent, gm := gm }
  let s2 := if x.st = 2 ∧ st ≠ 2 then s1.cancelAll p else s1
  if x.parent = parent ∧ x.gm = gm then s2 else s2.parentChange p st f

/-- Every instance decides its state. -/
def State.decideAll (s : State) : State := (List.range 8).foldl State.decideInst s

/-! ### Sync, Announce and requests at their instants (R223) -/

/-- A Sync goes to a destination: multicast, or the address of a session (R223, R225). -/
def State.sendSync (s : State) (p : Nat) (to_ : Option (Bool × Nat)) (seq log : Nat) : State :=
  (s.sendPtp p { s.ptpMsg p .sync seq log with
    to_ := to_, twoStep := s.on .PTP_CFG 25 p || decide (s.profile p = 3) }).pmcTsv 0

/-- An Announce goes to a destination (R223, R224). -/
def State.sendAnn (s : State) (p : Nat) (to_ : Option (Bool × Nat)) (seq log : Nat) : State :=
  (s.sendPtp p { s.ptpMsg p .announce seq log with to_ := to_ }).pmcTsv 1

/-- The instance is MASTER and may send. -/
def State.masterOn (s : State) (p : Nat) : Bool := s.ptpOn p && decide ((s.inst p).st = 2) && !s.standby

/-- The instant of a multicast message by its place in PTP_RATE. -/
def State.mcastOp (s : State) (p k : Nat) (kind : PtpKind) (send : State → Nat → Nat → State) : State :=
  let log := s.logOf p k
  if s.masterOn p ∧ s.on .PTP_CFG 24 p ∧ s.atPhase (logNs log) (s.syncOfs p % logNs log)
      ∧ s.fresh (0x1000 + 16 * p + k) then
    let r := (s.fire (0x1000 + 16 * p + k)).nextSeq p kind 0
    send r.2 r.1 log
  else s

/-- The instant of a session's message, from which a new period of its grant holds (R230). -/
def State.ucastOp (s : State) (p n : Nat) (g : GrantKind) (kind : PtpKind) (key : Nat)
    (send : State → Option (Bool × Nat) → Nat → Nat → State) : State :=
  match s.sess n with
  | none => s
  | some x => match x.grant g with
    | none => s
    | some gr =>
      if x.port = p ∧ s.masterOn p ∧ s.gau.l < gr.until_ ∧ s.atPhase (logNs gr.log) (s.sessOfs p n gr.log) ∧ s.fresh key then
        let log := gr.next.getD gr.log
        let r := ((s.fire key).putSess n (x.setGrant g (some { gr with log := log, next := none }))).nextSeq p kind x.key
        send r.2 (some (x.v6, x.addr)) r.1 log
      else s

/-! ### Authentication of what arrives (R227, R232, R234) -/

/-- The association an AUTHENTICATION TLV names by SPP and keyID. -/
def State.saOf (s : State) (p : Nat) (t : List Byte) : Option Nat :=
  (List.range 16).find? fun a =>
    s.on .TSV_SA_CFG 31 a && decide (s.fl .TSV_SA_CFG 23 16 a = fb t 0 ∧ s.inForce .TSV_SA_KEYID a = fn t 2 4)
      && bitOn (s.fl .PTP_AUTH 15 0 p) a

/-- A failed authentication is counted (R234). -/
def State.authFail (s : State) (p : Nat) (a : Option Nat) : State :=
  let s1 := (s.bump .PTP_STAT 15 0 1 p).pmcTsv 8
  match a with
  | some a => s1.bump .TSV_SA_STAT 31 16 1 a
  | none => s1

/-- An AUTHENTICATION TLV is one of immediate processing without a disclosed key, and its ICV is right (R232). -/
def State.authOk (s : State) (a : Nat) (key msg t : List Byte) : Bool :=
  decide (t.length = 22 ∧ fb t 1 = 0 ∧ t.drop 6 = s.icvOf a key (msg.take (msg.length - 16)))

/-- The checks of R234: passed or not, and what they count. -/
def State.authCheck (s : State) (p : Nat) (m : PtpIn) : Bool × State :=
  if ¬ s.on .PTP_AUTH 31 p then (true, s)
  else match m.auth with
    | none => (false, s.authFail p none)
    | some t => match s.saOf p t with
      | none => (false, s.authFail p none)
      | some a =>
        let r := s.saKey a
        match r.1 with
        | none => (false, r.2)
        | some key => if s.authOk a key m.msg t then (true, r.2) else (false, r.2.authFail p (some a))

/-! ### Messages received (R226 to R228) -/

/-- The receive instant t of R218 of a stamp, in 2^-16 ns rounded down. -/
def State.rxTime (s : State) (p : Nat) (v : StampV) : Int :=
  Int.fdiv (((v.gns * 2 ^ 32 + v.gfr : Nat) : Int) - (2 * v.code + 1) * 2 ^ 22 - sext 32 (s.inForce .PTP_RXCOMP p) * 2 ^ 16) (2 ^ 16)

/-- A Sync of Erbest is an observation of the port's candidate: e is the local time of the stamp, τ the origin timestamp with the whole
nanoseconds of the correction (R61, R65). -/
def State.syncObs (s : State) (p : Nat) (v : StampV) (sec ns : Nat) (corr : Int) : State :=
  s.observe (10 + p) v.l (some ((((sec * 10 ^ 9 + ns : Nat) : Int) + Int.fdiv corr 65536) * 2 ^ 32))

/-- The words of a SYNC message (R228). -/
def syncWords (seq sec ns : Nat) (corr : Int) (csro : Word) (rec_ : List Word) : List Word :=
  [w32 seq] ++ wordsOf 2 sec ++ [w32 ns] ++ wordsOf 2 (wrapTo 64 corr).toNat ++ [csro] ++ rec_

/-- A Sync (R228): it ends the wait for the Follow_Up of the one before. -/
def State.takeSync (s : State) (p : Nat) (m : PtpIn) : State :=
  let x := s.inst p
  if x.st = 3 ∧ x.parent = some (m.srcId, m.srcPort) then
    if m.twoStep then s.setInst p { x with wait := some ⟨m.srcId, m.srcPort, m.seqId, m.corr, m.f.ev, m.f.stamp⟩ }
    else
      ((s.setInst p { x with wait := none }).syncObs p m.f.ev m.sec m.ns m.corr).tsvSay 0x40 p
        (syncWords m.seqId m.sec m.ns m.corr 0 m.f.stamp)
  else s

/-- A Follow_Up (R228). -/
def State.takeFup (s : State) (p : Nat) (m : PtpIn) : State :=
  let x := s.inst p
  match x.wait with
  | none => s
  | some w =>
    if w.id = m.srcId ∧ w.port = m.srcPort ∧ w.seqId = m.seqId ∧ x.st = 3 then
      ((s.setInst p { x with wait := none }).syncObs p w.ev m.sec m.ns (w.corr + m.corr)).tsvSay 0x40 p
        (syncWords w.seqId m.sec m.ns (w.corr + m.corr) (w32 (if s.profile p = 3 then m.csro else 0)) w.stamp)
    else s

/-- One more request is answered, or the capacity of R244 is used up. -/
def State.answer (s : State) (p : Nat) : Option State :=
  let x := s.inst p
  if x.answered < 16384 then some (s.setInst p { x with answered := x.answered + 1 }) else none

/-- A discarded Delay_Req (R226). -/
def State.noGrant (s : State) (p : Nat) : State := s.bump .PTP_DISC 15 0 1 p

/-- The Delay_Resp to a Delay_Req: its quality values are those of the edge of the receive stamp (R218, R219, R226). -/
def State.sendDresp (s : State) (p : Nat) (m : PtpIn) (to_ : Option (Bool × Nat)) (log : Nat) : State :=
  match s.answer p with
  | none => s.noGrant p
  | some s1 =>
    let t := splitTime (s.rxTime p m.f.ev)
    (s1.sendPtp p { s1.ptpMsg p .delayResp m.seqId log with
      to_ := to_, sec := t.1, ns := t.2.1, corr := m.corr - t.2.2
      forId := m.srcId, forPort := m.srcPort, bext := (s.withQual m.f.qual).ptpBext p 17 }).pmcTsv 2

/-- A Delay_Req (R226). -/
def State.takeDreq (s : State) (p : Nat) (m : PtpIn) : State :=
  if s.masterOn p ∧ s.profile p ≠ 3 then
    if m.uc then
      match s.findSess p m.srcId m.srcPort m.v6 m.addr with
      | none => s.noGrant p
      | some n => match (s.sess n).bind Session.dresp with
        | some g => if s.gau.l < g.until_ then s.sendDresp p m (some (m.v6, m.addr)) g.log else s.noGrant p
        | none => s.noGrant p
    else if s.on .PTP_CFG 24 p then s.sendDresp p m none (s.logOf p 2)
    else s.noGrant p
  else s.noGrant p

/-- requestingPortIdentity is the instance's own. -/
def State.forUs (s : State) (p : Nat) (m : PtpIn) : Bool :=
  decide (fn m.msg 44 8 = s.inForce .TSV_CLOCKID ∧ fh m.msg 52 = Config.ptpPortNo p % 2 ^ 16)

/-- A Delay_Resp that matches a Delay_Req of the instance (R228). -/
def State.takeDresp (s : State) (p : Nat) (m : PtpIn) : State :=
  let x := s.inst p
  match x.dreq.find? fun e => e.1 == m.seqId with
  | none => s
  | some (n, w) =>
    if s.forUs p m then
      (s.setInst p { x with dreq := x.dreq.filter fun e => e.1 ≠ n }).tsvSay 0x41 p
        ([w32 n] ++ wordsOf 2 m.sec ++ [w32 m.ns] ++ wordsOf 2 (wrapTo 64 m.corr).toNat ++ w)
    else s

/-- A Pdelay_Req (R218, R226): answered by an AS2020 instance in every state. -/
def State.takePdreq (s : State) (p : Nat) (m : PtpIn) : State :=
  if s.profile p = 3 then
    match s.answer p with
    | none => s.noGrant p
    | some s1 =>
      let t := splitTime (s.rxTime p m.f.ev)
      s1.sendPtp p { s1.ptpMsg p .pdelayResp m.seqId (s.logOf p 3) with
        sec := t.1, ns := t.2.1, corr := t.2.2, forId := m.srcId, forPort := m.srcPort }
  else s

/-- A Pdelay_Resp (R228). -/
def State.takePdresp (s : State) (p : Nat) (m : PtpIn) : State :=
  let x := s.inst p
  match x.pd with
  | none => s
  | some (n, t1, _, _, _) =>
    if s.forUs p m ∧ n = m.seqId then s.setInst p { x with pd := some (n, t1, wordsOf 2 m.sec ++ [w32 m.ns], m.f.stamp, m.corr) }
    else s

/-- A Pdelay_Resp_Follow_Up (R228). -/
def State.takePdfup (s : State) (p : Nat) (m : PtpIn) : State :=
  let x := s.inst p
  match x.pd with
  | none => s
  | some (n, t1, t2, t4, c) =>
    if s.forUs p m ∧ n = m.seqId ∧ t4 ≠ [] then
      (s.setInst p { x with pd := none }).tsvSay 0x42 p
        ([w32 n] ++ t1 ++ t2 ++ wordsOf 2 m.sec ++ [w32 m.ns] ++ wordsOf 2 (wrapTo 64 (c + m.corr)).toNat ++ t4)
    else s

/-- An accepted Announce of a foreign master (R222): it qualifies with the second within 4 of its intervals. -/
def State.takeAnn (s : State) (p : Nat) (m : PtpIn) : State :=
  let x := s.inst p
  let per := logNs m.log
  let old := x.foreign.find? fun f => decide (f.id = m.srcId ∧ f.port = m.srcPort)
  let seen := (old.map Foreign.seen).getD []
  let qual : Bool := (old.map Foreign.qual).getD false || match seen with
    | t :: _ => decide (s.gau.l ≤ t + 4 * per)
    | [] => false
  let f : Foreign := ⟨m.srcId, m.srcPort, (m.v6, m.addr), m.uc, m.dataset, per, s.gau.l :: seen.take 1, qual⟩
  (s.setInst p { x with foreign := (x.foreign.filter fun g => ¬ (g.id = m.srcId ∧ g.port = m.srcPort)) ++ [f] }).decideInst p

/-! ### Unicast negotiation (R229 to R231) -/

/-- The least period of a type (TSV_UC_MINLOG). -/
def State.minLog (s : State) (k : GrantKind) : Int :=
  sext 8 (match k with
    | .announce => s.fl .TSV_UC_MINLOG 23 16
    | .sync => s.fl .TSV_UC_MINLOG 15 8
    | .delayResp => s.fl .TSV_UC_MINLOG 7 0)

/-- A request is denied (R229). -/
def State.deny (s : State) (p : Nat) (m : PtpIn) (t : List Byte) : State :=
  (s.bump .TSV_UC_STAT 31 16).sendUc p m.srcId m.srcPort (m.v6, m.addr) (grantTlv (fb t 0) (fb t 1) 0)

/-- A grant of type k is made or renewed in entry n: a new period of a grant that runs waits for its next instant (R229, R230). -/
def State.giveGrant (s : State) (p n : Nat) (x : Session) (k : GrantKind) (t : List Byte) : State :=
  let log := fb t 1
  let dur := min (fn t 2 4) (s.fl .TSV_UC_DUR 15 0)
  let g : Grant := match x.grant k with
    | none => ⟨log, none, s.gau.l + dur * 10 ^ 9⟩
    | some g => ⟨g.log, if log = g.log then none else some log, s.gau.l + dur * 10 ^ 9⟩
  (s.putSess n (x.setGrant k (some g))).sendUc p x.id x.idPort (x.v6, x.addr) (grantTlv (fb t 0) log dur)

/-- A request of a grant (R229, R230). -/
def State.ucRequestOp (s : State) (p : Nat) (m : PtpIn) (t : List Byte) : State :=
  match grantOf (fb t 0) with
  | none => s.deny p m t
  | some k =>
    if ¬ s.masterOn p ∨ sext 8 (fb t 1) < s.minLog k then s.deny p m t
    else match s.findSess p m.srcId m.srcPort m.v6 m.addr with
      | some n => match s.sess n with
        | some x => s.giveGrant p n x k t
        | none => s
      | none => match s.freeSess with
        | some n => s.giveGrant p n ⟨p, m.srcId, m.srcPort, m.v6, m.addr, none, none, none⟩ k t
        | none => s.deny p m t

/-- A CANCEL (R229): the grant ends, and is acknowledged. -/
def State.ucCancelOp (s : State) (p : Nat) (m : PtpIn) (t : List Byte) : State :=
  if s.masterOn p then
    let s1 := match grantOf (fb t 0), s.findSess p m.srcId m.srcPort m.v6 m.addr with
      | some k, some n => match s.sess n with
        | some x => s.putSess n (x.setGrant k none)
        | none => s
      | _, _ => s
    s1.sendUc p m.srcId m.srcPort (m.v6, m.addr) (ackTlv (fb t 0))
  else s

/-- The address of upstream master u (R231). -/
def State.ucmAddr (s : State) (p u : Nat) : Bool × Nat :=
  let v6 := s.on .PTP_UCM 30 p u
  (v6, addrOf v6 ((List.range 4).map fun j => w32 (s.inForce .PTP_UCM_ADDR p u j)))

/-- What the instance has asked of upstream master u becomes `g`. -/
def State.setClient (s : State) (p u : Nat) (k : GrantKind) (g : Option ClientGrant) : State :=
  let x := s.inst p
  s.setInst p { x with clients := (x.clients.filter fun c => ¬ (c.u = u ∧ c.kind = k)) ++ g.toList }

/-- A GRANT or a denial from an upstream master (R231). -/
def State.ucGrantOp (s : State) (p : Nat) (m : PtpIn) (t : List Byte) : State :=
  match grantOf (fb t 0), (List.range 4).find? fun u => s.on .PTP_UCM 31 p u && decide (s.ucmAddr p u = (m.v6, m.addr)) with
  | some k, some u =>
    if (s.inst p).clients.any fun c => decide (c.u = u ∧ c.kind = k) then
      s.setClient p u k (some ⟨u, k, decide (fn t 2 4 ≠ 0), decide (fn t 2 4 = 0), s.gau.l, fn t 2 4⟩)
    else s
  | _, _ => s

/-- A TLV of a Signaling message that is accepted (R229, R231). -/
def State.ucOp (p : Nat) (m : PtpIn) (s : State) (t : Nat × List Byte) : State :=
  if ¬ s.on .PTP_CFG 23 p ∨ s.standby then s
  else match t.1 with
    | 4 => s.ucRequestOp p m t.2
    | 5 => s.ucGrantOp p m t.2
    | 6 => s.ucCancelOp p m t.2
    | _ => s

/-- The message passes R227 but for its authentication. -/
def State.ptpMatches (s : State) (p : Nat) (m : PtpIn) : Bool :=
  let transport : Bool := match s.fl .PTP_NET 31 30 p with
    | 0 => !m.udp
    | 1 => m.udp && !m.v6
    | 2 => m.udp && m.v6
    | _ => false
  decide (fb m.msg 1 % 16 = 2 ∧ fb m.msg 4 = s.fl .PTP_CFG 15 8 p ∧ fb m.msg 0 / 16 = (if s.profile p = 3 then 1 else 0)) && transport

/-- An accepted PTP message is handled by its type (R222, R226, R228, R229). -/
def State.ptpHandle (s : State) (p : Nat) (m : PtpIn) : State :=
  match m.kind with
  | none => s
  | some .sync => s.takeSync p m
  | some .followUp => s.takeFup p m
  | some .delayReq => s.takeDreq p m
  | some .delayResp => s.takeDresp p m
  | some .pdelayReq => s.takePdreq p m
  | some .pdelayResp => s.takePdresp p m
  | some .pdelayRespFollowUp => s.takePdfup p m
  | some .announce => s.takeAnn p m
  | some .signaling => m.tlvs.foldl (State.ucOp p m) s

/-- A received PTP message (R227). -/
def State.ptpReceive (s : State) (p : Nat) (m : PtpIn) : State :=
  if ¬ s.ptpOn p then s
  else if m.srcId = s.inForce .TSV_CLOCKID then s
  else if ¬ s.ptpMatches p m then s.bump .PTP_DISC 31 16 1 p
  else
    let r := s.authCheck p m
    if r.1 then r.2.ptpHandle p m else r.2

/-- TSV takes the oldest message of a kind from the receive queues of port p, and handles it by `f`; while TSV is stopped it discards it
(R197, R244). -/
def State.tsvTake (s : State) (p : Nat) (k : TsvKind) (f : RxFrame → State → State) : State :=
  match s.rxFirst p 2 fun g => decide (tsvKind g = some k) with
  | none => s
  | some g =>
    let r := s.rxTake p g
    if r.1 ∧ s.tsvOn then f g r.2 else r.2

/-- A PTP message is taken. -/
def State.ptpTake (s : State) (p : Nat) (k : TsvKind) : State :=
  s.tsvTake p k fun g t => match ptpIn g with
    | some m => t.ptpReceive p m
    | none => t

/-- Frames for TSV that are no message of its are discarded. -/
def State.tsvDiscard (s : State) (p : Nat) : State :=
  match s.rxFirst p 2 fun g => decide (tsvKind g = none) with
  | none => s
  | some g => (s.rxTake p g).2

/-! ### As client (R231) -/

/-- The instance as client may ask upstream master u for a grant of type k (R231): Sync and Delay_Resp only of Erbest. -/
def State.mayAsk (s : State) (p u : Nat) (k : GrantKind) : Bool :=
  s.ptpOn p && !s.standby && s.on .PTP_CFG 23 p && s.on .PTP_UCM 31 p u
    && (decide (k = .announce) || (s.erbest p).any fun f => decide (f.addr = s.ucmAddr p u))

/-- A client request goes to upstream master u, to whichever port identity it has (R231). -/
def State.ask (s : State) (p u : Nat) (k : GrantKind) (held : Bool) : State :=
  let log := s.logOf p (match k with
    | .announce => 1
    | .sync => 0
    | .delayResp => 2)
  let dur := s.fl .TSV_UC_DUR 15 0
  (s.setClient p u k (some ⟨u, k, held, false, s.gau.l, dur⟩)).sendUc p (2 ^ 64 - 1) (2 ^ 16 - 1) (s.ucmAddr p u)
    (requestTlv (grantType k * 16) log dur)

/-- The client grant from upstream master u of type k. -/
def State.clientOf (s : State) (p u : Nat) (k : GrantKind) : Option ClientGrant :=
  (s.inst p).clients.find? fun c => decide (c.u = u ∧ c.kind = k)

/-! ### NTP and NTS (R235 to R237, R242) -/

/-- TSV answers NTP (R235, R243). -/
def State.ntpOn (s : State) : Bool := s.tsvOn && s.on .TSV_NTP_CTL 31

/-- A discarded request (R235, R237). -/
def State.ntpDrop (s : State) : State := (s.bump .TSV_NTP_DISC 31 0).pmcTsv 6

/-- The request may be answered as a request of NTP (R235, R243). -/
def State.ntpTakes (s : State) (m : List Byte) : Bool :=
  let v := fb m 0 / 8 % 8
  decide (48 ≤ m.length ∧ (v = 3 ∨ v = 4) ∧ fb m 0 % 8 = 3) && (!s.standby || s.on .TSV_CTL 30)

/-- The request carries the bound extension field with a body of 12 zero bytes (R242). -/
def State.wantsBound (s : State) (m : List Byte) : Bool :=
  (ntpExts m).any fun x => decide (x.2.1 = s.inForce .TSV_BEXT_NTP ∧ x.2.2 = List.replicate 12 0)

/-- A response before its launch. -/
def State.ntpReply (s : State) (p : Nat) (f : RxFrame) (m : List Byte) : NtpOut where
  net := netBack f.bytes
  version := fb m 0 / 8 % 8
  poll := fb m 2
  origin := fn m 40 8
  rx := s.rxTime p f.ev
  bext := s.wantsBound m
  nak := false
  uid := []
  toSeal := none

/-- A response goes out. -/
def State.sendNtp (s : State) (p : Nat) (m : NtpOut) : State :=
  s.tsvSubmit p (tsvFrame (s.fl .TSV_CTL 14 12) (.ntp m) (s.ntpLine m 0).length)

/-- The bytes of a bound field in a response (R242). -/
def boundLen (b : Bool) : Nat := if b then 16 else 0

/-- An NTS NAK (R237). -/
def State.ntsNak (s : State) (p : Nat) (f : RxFrame) (m uid : List Byte) : State :=
  ((s.bump .TSV_NTP_NAK 31 0).pmcTsv 5).sendNtp p { s.ntpReply p f m with nak := true, uid := uid, bext := false }

/-- A cookie (R238) of an AEAD and two keys under master slot `slot`: its bytes, and the state that has made it. -/
def State.makeCookie (s : State) (slot : Nat) (master keys : List Byte) : List Byte × State :=
  let d := s.draw 64
  let nonce := bytesBE 8 s.tsv.mint ++ bytesBE 8 d.1
  let keyid := bytesBE 4 (slot * 2 ^ 24 + (s.kslot slot).gen)
  let t : State := { d.2 with tsv := { d.2.tsv with mint := (s.tsv.mint + 1) % 2 ^ 64 } }
  (keyid ++ nonce ++ sivBox master nonce keyid (bytesBE 2 15 ++ bytesBE 2 0 ++ keys), t.pmcTsv 7)

/-- n cookies. -/
def State.makeCookies (s : State) (slot : Nat) (master keys : List Byte) : Nat → List (List Byte) × State
  | 0 => ([], s)
  | n + 1 =>
    let c := s.makeCookie slot master keys
    let r := c.2.makeCookies slot master keys n
    (c.1 :: r.1, r.2)

/-- The plaintext of a cookie that names an accepted master key (R237, R238, R240), or none, and the state after the
lane's work. -/
def State.openCookie (s : State) (c : List Byte) : Option (List Byte) × State :=
  let slot := fb c 0
  let gen := beNat (sub c 1 3)
  if c.length = 104 ∧ (s.tsv.cur = some slot ∨ s.tsv.prev = some slot) ∧ gen = (s.kslot slot).gen then
    let r := s.laneOp s.ntsLane slot 1 4
    match r.1 with
    | none => (none, r.2)
    | some k =>
      match Config.sivOpen k (sub c 4 16) (c.take 4) (c.drop 20) with
      | some t => if beNat (t.take 2) = 15 then (some t, r.2) else (none, r.2)
      | none => (none, r.2)
  else (none, s)

/-- The UDP payload of a response with n cookies (R237). -/
def ntsLen (uid : List Byte) (b : Bool) (n : Nat) : Nat :=
  48 + (extField 0x0104 uid).length + boundLen b + 8 + 16 + 16 + 108 * n

/-- The number of cookies in a response (R237): at most MAXCK, and no longer than the request. -/
def State.ntsCookies (s : State) (m uid : List Byte) (holders : Nat) : Nat :=
  let want := min (1 + holders) (s.fl .TSV_NTP_CTL 3 0)
  ((List.range (want + 1)).filter fun n => ntsLen uid (s.wantsBound m) n ≤ m.length).foldl max 0

/-- The response to a verified request (R237). -/
def State.ntsReply (s : State) (p : Nat) (f : RxFrame) (m uid plain : List Byte) (cookies : Nat) : State :=
  let keys := sub plain 4 64
  let d := s.draw 128
  let lane := d.2.laneOp s.ntsLane (s.tsv.cur.getD 0) 1 4
  let made : List (List Byte) × State := match s.tsv.cur, lane.1 with
    | some n, some k => lane.2.makeCookies n k keys cookies
    | _, _ => ([], lane.2)
  ((made.2.bump .TSV_NTP_RESP 31 0).pmcTsv 4).sendNtp p
    { s.ntpReply p f m with
      uid := uid, toSeal := some ⟨keys.drop 32, bytesBE 16 d.1, made.1.flatMap fun c => extField 0x0204 c⟩ }

/-- An NTS request: its identifier, its cookie, the number of its placeholders, and its authenticator with the place where it begins; what
follows that is ignored (R237). -/
structure NtsIn where
  uid : List Byte
  cookie : List Byte
  holders : Nat
  auth : List Byte
  at_ : Nat

/-- The parse of step 1 (R237). -/
def ntsIn (m : List Byte) : Option NtsIn :=
  let x := ntpExts m
  let before := x.takeWhile fun e => decide (e.2.1 ≠ 0x0404)
  let ofType (t : Nat) : List (List Byte) := (before.filter fun e => decide (e.2.1 = t)).map fun e => e.2.2
  match ofType 0x0104, ofType 0x0204, x.find? fun e => decide (e.2.1 = 0x0404) with
  | [u], [c], some a => if 32 ≤ u.length then some ⟨u, c, (ofType 0x0304).length, a.2.2, a.1⟩ else none
  | _, _, _ => none

/-- The lanes that serve NTS (R234). -/
def State.ntsLanes (s : State) : Nat := ((List.range 8).filter fun l => bitOn (s.fl .TSV_CTL 7 0) l).length

/-- The lanes are busy with NTS for so many cookies: 4 Mpps a lane, at most 24 Mpps, in 1/6 ns (R244). -/
def State.ntsBusy (s : State) (n : Nat) : State :=
  { s with tsv := { s.tsv with ntsAt := (if s.tsv.ntsAt + 6 ≤ 6 * s.gau.l then 6 * s.gau.l else s.tsv.ntsAt) + max 1 n * (1500 / max 1 (min 6 s.ntsLanes)) } }

/-- An NTS request (R237): parse, open, verify, respond. -/
def State.ntsOp (s0 : State) (p : Nat) (f : RxFrame) (m : List Byte) : State :=
  let s := s0.ntsBusy 1
  if ¬ s.ntpTakes m ∨ ¬ s.on .TSV_NTP_CTL 30 then s.ntpDrop
  else match ntsIn m with
    | none => s.ntpDrop
    | some q =>
      let r := s.openCookie q.cookie
      match r.1 with
      | none => r.2.ntsNak p f m q.uid
      | some t =>
        let nonce := sub q.auth 4 (fh q.auth 0)
        let box := sub q.auth (4 + ceilDiv (fh q.auth 0) 4 * 4) (fh q.auth 2)
        match Config.sivOpen (sub t 4 32) nonce (m.take q.at_) box with
        | none => r.2.ntpDrop
        | some _ =>
          let n := s.ntsCookies m q.uid q.holders
          ({ r.2 with tsv := { r.2.tsv with ntsAt := (s0.ntsBusy n).tsv.ntsAt } } : State).ntsReply p f m q.uid t n

/-! ### Minting (R239) -/

/-- The entries of a mint ring. -/
def State.mintLen (s : State) : Nat := s.fl .TSV_MINT_LEN 16 0

/-- A mint request waits and the result ring has room (R239). -/
def State.mintReady (s : State) : Bool :=
  s.tsvOn && s.on .TSV_NTP_CTL 30 && decide (s.tsv.mintAt ≤ s.gau.l ∧ 0 < s.ntsLanes) && decide (s.tsv.reqCons ≠ s.fl .TSV_MINT_REQ_PROD 15 0)
    && decide ((s.tsv.resProd + 65536 - s.fl .TSV_MINT_RES_CONS 15 0) % 65536 < min s.mintLen 65535)

/-- A result entry is written, and both rings advance (R239). -/
def State.mintDone (s : State) (tag : List Byte) (status : Nat) (cookies : List (List Byte)) : State :=
  let a := s.inForce .TSV_MINT_RES_BASE + 1024 * (s.tsv.resProd % s.mintLen)
  ({ s with tsv := { s.tsv with reqCons := (s.tsv.reqCons + 1) % 65536, resProd := (s.tsv.resProd + 1) % 65536 } } : State).memWrite 5 a
    (tag ++ bytesLE 4 status ++ cookies.flatten)

/-- An entry of the request ring is served (R239): at most 1,000,000 cookies a second, which take NTS capacity (R244). -/
def State.mintEntry (s : State) (e : List Byte) : State :=
  let tag := e.take 4
  let n := fb e 6
  if leNat (sub e 4 2) ≠ 15 then s.mintDone tag 1 []
  else if n = 0 ∨ 8 < n then s.mintDone tag 2 []
  else match s.tsv.cur with
    | none => s.mintDone tag 3 []
    | some slot =>
      let r := s.laneOp s.ntsLane slot 1 4
      match r.1 with
      | none => r.2.mintDone tag 3 []
      | some k =>
        let c := r.2.makeCookies slot k (sub e 8 64) n
        let t : State := (c.2.ntsBusy n)
        ({ t with tsv := { t.tsv with mintAt := s.gau.l + 1000 * n } } : State).mintDone tag 0 c.1

/-- A mint request (R239). The data of a poisoned read is discarded (R372): the request is passed over. -/
def State.mintOp (s : State) : State :=
  let rd := s.memRead 5 (s.inForce .TSV_MINT_REQ_BASE + 128 * (s.tsv.reqCons % s.mintLen)) 128
  if rd.2.1 then { rd.2.2 with tsv := { s.tsv with reqCons := (s.tsv.reqCons + 1) % 65536 } } else rd.2.2.mintEntry rd.1

/-! ### The commands -/

/-- SYNC_INSTANT (R223, R230). -/
def execSyncInstant (p : Fin 8) (n : Option (Fin 4096)) (s : State) : Res :=
  .next (match n with
    | none => s.mcastOp p 0 .sync fun t q l => t.sendSync p none q l
    | some n => s.ucastOp p n .sync .sync (0x10000 + n) fun t a q l => t.sendSync p a q l)

/-- ANNOUNCE_INSTANT (R223, R230). -/
def execAnnounceInstant (p : Fin 8) (n : Option (Fin 4096)) (s : State) : Res :=
  .next (match n with
    | none => s.mcastOp p 1 .announce fun t q l => t.sendAnn p none q l
    | some n => s.ucastOp p n .announce .announce (0x20000 + n) fun t a q l => t.sendAnn p a q l)

/-- DELAY_REQ_INSTANT (R223): to Erbest, by unicast where its Announces come by unicast. -/
def execDelayReqInstant (p : Fin 8) (s : State) : Res :=
  let log := s.logOf p 2
  let per := logNs log
  .next (if s.ptpOn p ∧ ¬ s.standby ∧ (s.inst p).st = 3 ∧ s.profile p ≠ 3
      ∧ s.atPhase per ((s.syncOfs p + per / 2) % per) ∧ s.fresh (0x1002 + 16 * p) then
    let to_ := (s.erbest p).bind fun f => if f.uc then some f else none
    let r := (s.fire (0x1002 + 16 * p)).nextSeq p .delayReq ((to_.map fun f => destKey f.id f.port f.addr.1 f.addr.2).getD 0)
    r.2.sendPtp p { r.2.ptpMsg p .delayReq r.1 log with to_ := to_.map Foreign.addr }
  else s)

/-- PDELAY_REQ_INSTANT (R223). -/
def execPdelayReqInstant (p : Fin 8) (s : State) : Res :=
  let log := s.logOf p 3
  .next (if s.ptpOn p ∧ ¬ s.standby ∧ s.profile p = 3
      ∧ s.atPhase (logNs log) (s.syncOfs p % logNs log) ∧ s.fresh (0x1003 + 16 * p) then
    let r := (s.fire (0x1003 + 16 * p)).nextSeq p .pdelayReq 0
    r.2.sendPtp p (r.2.ptpMsg p .pdelayReq r.1 log)
  else s)

/-- FOLLOW_UP_LAUNCH (R225): the oldest Follow_Up whose event message has passed becomes the next frame of its class. -/
def execFollowUpLaunch (p : Fin 8) (s : State) : Res :=
  let s1 := s.txDone p
  let x := s1.ep p
  .next (match x.fup with
    | [] => s1
    | f :: r =>
      if s1.mayLaunch f.pay then s1.setEp p { x with fup := r, txq := f :: x.txq } else s1.setEp p { x with fup := r })

/-- PTP_MESSAGE_RECEIVE (R227): TSV takes the oldest PTP message from the receive queues of the port. -/
def execPtpMessageReceive (p : Fin 8) (_ : Unit) (s : State) : Res := .next (s.ptpTake p .ptp)

/-- PTP_SECOND (R222, R236). -/
def execPtpSecond (s : State) : Res :=
  .next (if s.atSec ∧ s.fresh 0x25 then
    let s0 := s.fire 0x25
    let s1 : State := { s0 with tsv := { s0.tsv with lock := if s.gau.st = .locked then s.gns else s0.tsv.lock } }
    if s.tsvOn then
      (List.range 8).foldl (fun t p => t.setInst p { t.inst p with answered := 0 }) s1.decideAll
    else s1
  else s)

/-- FOREIGN_MASTER_TIMEOUT (R222). -/
def execForeignMasterTimeout (p : Fin 8) (clockId : DWord) (portNo : Half) (s : State) : Res :=
  let x := s.inst p
  .next (s.setInst p { x with foreign := x.foreign.filter fun f =>
    ¬ (f.id = clockId.toNat ∧ f.port = portNo.toNat ∧ (f.seen.headD 0) + 3 * f.per ≤ s.gau.l) })

/-- UNICAST_REQUEST (R229): TSV takes the oldest Signaling message that begins with a request. -/
def execUnicastRequest (p : Fin 8) (_ : Unit) (s : State) : Res := .next (s.ptpTake p .request)

/-- UNICAST_CANCEL (R229): TSV takes the oldest Signaling message that begins with a CANCEL. -/
def execUnicastCancel (p : Fin 8) (_ : Unit) (s : State) : Res := .next (s.ptpTake p .cancel)

/-- GRANT_EXPIRY (R230). -/
def execGrantExpiry (n : Fin 4096) (k : GrantKind) (s : State) : Res :=
  .next (match s.sess n with
    | none => s
    | some x => match x.grant k with
      | none => s
      | some g => if g.until_ ≤ s.gau.l then s.putSess n (x.setGrant k none) else s)

/-- UNICAST_RENEW (R231): the first request, and each renewal when half of the duration of a grant has passed. A grant that the instance may
not ask for any more is forgotten. -/
def execUnicastRenew (p : Fin 8) (u : Fin 4) (k : GrantKind) (s : State) : Res :=
  .next (match s.clientOf p u k with
    | none => if s.mayAsk p u k then s.ask p u k false else s
    | some c =>
      if ¬ s.mayAsk p u k then s.setClient p u k none
      else if c.held ∧ c.at_ + c.dur * 500000000 ≤ s.gau.l then s.ask p u k true
      else s)

/-- UNICAST_RETRY (R231): a denied request, 2^LOG_ANN s after the denial. -/
def execUnicastRetry (p : Fin 8) (u : Fin 4) (k : GrantKind) (s : State) : Res :=
  let due : Bool := (s.clientOf p u k).any fun c => c.denied && decide (c.at_ + logNs (s.logOf p 1) ≤ s.gau.l)
  .next (if s.mayAsk p u k ∧ due then s.ask p u k false else s)

/-- An NTP request (R235, R236). -/
def State.ntpOp (s : State) (p : Nat) (f : RxFrame) (m : List Byte) : State :=
  if ¬ s.ntpOn ∨ s.flt.relinq then s
  else if s.ntpTakes m ∧ s.on .TSV_NTP_CTL 29 then ((s.bump .TSV_NTP_RESP 31 0).pmcTsv 3).sendNtp p (s.ntpReply p f m)
  else s.ntpDrop

/-- NTP_REQUEST (R235, R236): TSV takes the oldest plain NTP request from the receive queues of the port, at most 24 million a second
(R244). -/
def execNtpRequest (p : Fin 8) (_ : Unit) (s : State) : Res :=
  .next (if s.tsv.ntpAt ≤ 6 * s.gau.l then
    s.tsvTake p .ntp fun f t =>
      let t1 : State := { t with tsv := { t.tsv with
        ntpAt := (if t.tsv.ntpAt + 6 ≤ 6 * t.gau.l then 6 * t.gau.l else t.tsv.ntpAt) + 250 } }
      t1.ntpOp p f ((ntpIn f).getD [])
  else s)

/-- NTS_REQUEST (R237): TSV takes the oldest NTS request from the receive queues of the port, as its lanes have capacity (R244). -/
def execNtsRequest (p : Fin 8) (_ : Unit) (s : State) : Res :=
  .next (if s.tsv.ntsAt ≤ 6 * s.gau.l ∧ (0 < s.ntsLanes ∨ ¬ s.tsvOn) then
    s.tsvTake p .nts fun f t =>
      if ¬ t.ntpOn ∨ t.flt.relinq then t else t.ntsOp p f ((ntpIn f).getD [])
  else s)

/-- MINT_REQUEST (R239). -/
def execMintRequest (s : State) : Res := .next (if s.mintReady then s.mintOp else s)

/-- NTS_ROTATION (R240). -/
def execNtsRotation (s : State) : Res :=
  .next (match s.tsv.rot with
    | none => s
    | some t =>
      if s.tsvOn ∧ s.gau.running ∧ t ≤ s.gns then
        { s with tsv := { s.tsv with rot := none, prev := s.tsv.cur, cur := some (s.fl .TSV_NTS_NEXT 5 0) } }
      else s)

/-- A session entry from its words (chapter 10, Registers). -/
def sessionOf (s : State) (w : List Word) : Session :=
  let g := fun k => (w.getD k 0).toNat
  let grant := fun (b hi lo rem : Nat) => if bitOn (g 0) b then some (⟨bits (g 0) hi lo, none, s.gau.l + rem * 10 ^ 9⟩ : Grant) else none
  { port := bits (g 0) 30 28, id := g 3 + g 4 * 2 ^ 32, idPort := bits (g 5) 15 0, v6 := bitOn (g 0) 27
    addr := addrOf (bitOn (g 0) 27) (w.drop 6)
    ann := grant 26 23 16 (bits (g 1) 31 16), sync := grant 25 15 8 (bits (g 1) 15 0)
    dresp := grant 24 7 0 (bits (g 2) 15 0) }

/-- A session entry or a sequenceId counter of the peer (R331). -/
def State.takeTwinUpdate (s : State) (q : TwinUpdate) : State :=
  match q with
  | .session n w =>
    if bitOn (w.getD 0 0).toNat 31 then s.putSess n (sessionOf s w)
    else { s with tsv := { s.tsv with sess := s.tsv.sess.filter fun e => e.1 ≠ n.val } }
  | .seqId p k dest next =>
    let d := (dest.map fun a => destKey a.1.toNat a.2.1.toNat a.2.2.1 a.2.2.2.toNat).getD 0
    s.setInst p { s.inst p with seqs := (s.inst p).seqs.set (seqKey k d) next.toNat }

/-- TWIN_STATE_UPDATE (R331). -/
def execTwinStateUpdate (q : TwinUpdate) (s : State) : Res := .next (if s.standby then s.takeTwinUpdate q else s)

end Sys2Proof.Machine
end

