-- ==== Sys2Proof/Machine/MixFab.lean ====
section
/-! DEFINITION. The mix fabric: nodes, roles and ramps, strips and meters (chapter 12). -/

namespace Sys2Proof.Machine

/-- An event of the mix for the counters (R354). -/
def State.pmcMix (s : State) (ev : Nat) (k : Nat := 1) : State := s.pmcEv 960 975 ev k

/-- Samples in a row at the mix rate (R245). -/
def State.rowLen (s : State) : Nat := if s.fl .AUD_CTL 18 16 = 4 then 12 else 6

/-! ### Nodes and roles (R268 to R270) -/

/-- The address of node n = 1,024·o + i. -/
def nodeAddr (n : Nat) : Nat := RegName.MIX_NODE.geo.base + 4 * n
/-- A node word at reset: ACT = 1, gain 0. -/
def nodeReset : Nat := 0x10000
/-- The node word in force: GAIN and ACT. -/
def State.node (s : State) (n : Nat) : Nat := s.force.get (nodeAddr n) nodeReset
/-- The gain of a node word, signed Q2.14. -/
def nodeGain (w : Nat) : Int := sext 16 (bits w 15 0)
/-- ACT of a node word. -/
def nodeAct (w : Nat) : Bool := bitOn w 16
/-- The node word of a gain in force. -/
def nodeWord (g : Int) (act : Bool) : Nat := (wrapTo 16 g).toNat + bit1 act 16

/-- The role that computes output o. -/
def State.roleOf (s : State) (o : Nat) : Nat := s.fl .MIX_OMAP 7 0 o
/-- The outputs of a role in ascending order (R272). -/
def State.roleOuts (s : State) (r : Nat) : List Nat := (List.range 1024).filter fun o => s.roleOf o = r
/-- The position of an output among those of its role. -/
def State.slotOf (s : State) (o : Nat) : Nat := ((List.range o).filter fun x => s.roleOf x = s.roleOf o).length

/-- The nodes that are written inactive, as node numbers (R270). -/
def State.inactive (s : State) : List Nat :=
  s.regs.filterMap fun (a, v) =>
    if nodeAddr 0 ≤ a ∧ a < nodeAddr 1048576 ∧ ¬ nodeAct v then some ((a - nodeAddr 0) / 4) else none

/-- MIX_NODES: the active nodes in total (R270). -/
def State.nodesTotal (s : State) : Nat := 1048576 - s.inactive.length
/-- The active nodes of a role (R270). -/
def State.roleNodes (s : State) (r : Nat) : Nat :=
  1024 * (s.roleOuts r).length - (s.inactive.filter fun n => s.roleOf (n / 1024) = r).length

/-- The limits of R270 for a rate code: nodes of a role and in total. -/
def nodeLimits (rate : Nat) : Nat × Nat := if rate = 4 then (4864, 655360) else (8192, 1048576)

/-- The counts of the written nodes keep the limits of a rate code (R270). -/
def State.budgetOk (s : State) (rate : Nat) : Bool :=
  let l := nodeLimits rate
  decide (s.nodesTotal ≤ l.2) && (List.range 136).all fun r => decide (s.roleNodes r ≤ l.1)

/-! ### Ramps (R274, R275) -/

/-- A released node write waits for its row; it replaces a waiting change of the node in its place (R275). -/
def State.nodeWritten (s : State) (n v : Nat) : State :=
  let w := s.mix.waits
  { s with mix := { s.mix with
      waits := if w.any fun x => x.1 == n then w.map fun x => if x.1 == n then (n, v) else x else w ++ [(n, v)] } }

/-- The gain of a ramp at its k-th row (R274). -/
def Ramp.gain (r : Ramp) (k : Nat) : Int := r.g0 + truncDiv ((r.g1 - r.g0) * k) r.n

/-- A plan for a row: the ramps that run in it, the nodes that change with their words, the changes that still wait, and
how many ramps and cuts it starts. -/
structure Plan where
  ramps : List Ramp
  ups : List (Nat × Nat)
  waits : List (Nat × Nat)
  ramped : Nat
  cut : Nat
  deriving DecidableEq, Repr

/-- The word of a ramp at its row k: the node turns inactive at the row of g_N (R274). -/
def Ramp.word (r : Ramp) (k : Nat) : Nat := nodeWord (r.gain k) (if k = r.n then r.act else true)

/-- A running ramp goes on by a row; one that has reached its row N ends. -/
def State.planRamp (s : State) (p : Plan) (r : Ramp) : Plan :=
  if r.n ≤ r.k then p
  else
    let r1 := { r with k := r.k + 1 }
    let w := r1.word r1.k
    { p with
      ramps := p.ramps ++ [r1]
      ups := if w = s.node r.node then p.ups else p.ups ++ [(r.node, w)] }

/-- The role of a node. -/
def State.nodeRole (s : State) (n : Nat) : Nat := s.roleOf (n / 1024)

/-- A waiting change starts in this row, or waits on (R274, R275). -/
def State.planChange (s : State) (p : Plan) (c : Nat × Nat) : Plan :=
  let n := c.1
  let cur := s.node n
  let g1 := if nodeAct c.2 then nodeGain c.2 else 0
  let p0 : Plan := { p with
    ramps := p.ramps.filter fun r => r.node ≠ n, ups := p.ups.filter fun u => u.1 ≠ n }
  let role := s.nodeRole n
  let upd := (p0.ups.filter fun u => s.nodeRole u.1 = role).length
  if g1 = nodeGain cur ∧ nodeAct c.2 = nodeAct cur then p0
  else if bitOn c.2 17 then
    if upd < 1024 then { p0 with ups := p0.ups ++ [(n, nodeWord g1 (nodeAct c.2))], cut := p0.cut + 1 }
    else { p with waits := p.waits ++ [c] }
  else
    let r : Ramp := ⟨n, nodeGain cur, g1, s.fl .MIX_CTL 16 0, 1, nodeAct c.2⟩
    let w := r.word 1
    if p0.ramps.length < 65536 ∧ (p0.ramps.filter fun x => s.nodeRole x.node = role).length < 1024 ∧ upd < 1024 then
      { p0 with
        ramps := p0.ramps ++ [r]
        ups := if w = cur then p0.ups else p0.ups ++ [(n, w)]
        ramped := p0.ramped + 1 }
    else { p with waits := p.waits ++ [c] }

/-- The plan of a row that has none. -/
def State.planNew (s : State) (row : Int) : State :=
  let p0 := s.mix.ramps.foldl s.planRamp ⟨[], [], [], 0, 0⟩
  let p := s.mix.waits.foldl s.planChange p0
  let s1 : State := { s with mix := { s.mix with ramps := p.ramps, waits := p.waits, plan := some (row, p.ups) } }
  ((s1.pmcMix 0 p.ramped).pmcMix 1 p.cut).pmcMix 2 p.waits.length

/-- The changes of row `row` are decided, once (R273, R275). -/
def State.planRow (s : State) (row : Int) : State :=
  match s.mix.plan with
  | some (r, _) => if r = row then s else s.planNew row
  | none => s.planNew row

/-- The planned changes are in force from their row (R274). -/
def State.applyPlan (s : State) : State :=
  let s1 := s.planRow s.rowNum
  let ups := (s1.mix.plan.map Prod.snd).getD []
  { s1 with
    force := ups.foldl (fun f u => f.set (nodeAddr u.1) u.2) s1.force
    mix := { s1.mix with plan := none } }

/-! ### Messages to the mix sequencers (R272, R273) -/

/-- A list in pieces of at most `n`, with fuel `f`. -/
def chunks {α : Type} (n : Nat) : Nat → List α → List (List α)
  | 0, _ => []
  | f + 1, l => if l = [] then [] else l.take n :: chunks n f (l.drop n)

/-- An UPD word (R272). -/
def State.updWord (s : State) (u : Nat × Nat) : Word :=
  w32 (bits u.2 15 0 * 2 ^ 16 + bit1 (nodeAct u.2) 15 + s.slotOf (u.1 / 1024) % 8 * 2 ^ 10 + u.1 % 1024)

/-- The UPD messages and the GEND of a row go to one sequencer (R273). -/
def State.sendUpds (s : State) (row : Nat) (ups : List (Nat × Nat)) (n : Nat) : State :=
  let role := s.fl .SEQ_ROLE 7 0 n
  if role < 136 ∧ ((s.sq n).st = .running ∨ (s.sq n).st = .waiting) then
    let mine := (ups.filter fun u => s.nodeRole u.1 = role).map s.updWord
    let s1 := (chunks 31 mine.length mine).foldl (fun t w => t.deliver n 1 ⟨0x66, row, w⟩) s
    (s1.deliver n 1 ⟨0x67, row, [w32 mine.length]⟩).pmcMix 3 mine.length
  else s

/-- A GAINS message (R272): the ACT bits, then the gains two to a word. -/
def State.gainWords (s : State) (o k : Nat) : List Word :=
  let w := fun i => s.node (1024 * o + 32 * k + i)
  w32 (((List.range 32).map fun b => bit1 (nodeAct (w b)) b).sum)
    :: (List.range 16).map fun j => w32 (bits (w (2 * j)) 15 0 + bits (w (2 * j + 1)) 15 0 * 2 ^ 16)

/-- The answer to a FETCH of sequencer n (R272). -/
def State.fetchOp (s : State) (n : Nat) : State :=
  let role := s.fl .SEQ_ROLE 7 0 n
  let outs := if role < 136 then s.roleOuts role else []
  let slots := (List.range 8).map fun i => match outs[i]? with
    | some o => w32 (2 ^ 31 + o)
    | none => 0
  let s1 := s.deliver n 1 ⟨0x64, 0, slots⟩
  let s2 := ((List.range 8).zip outs).foldl (fun t x =>
    (List.range 32).foldl (fun u k => u.deliver n 1 ⟨0x65, x.1 * 2 ^ 8 + k, s.gainWords x.2 k⟩) t) s1
  s2.deliver n 1 ⟨0x67, (s.rowNum % 65536).toNat, [w32 (2 ^ 31)]⟩

/-! ### Strips (R279 to R283) -/

/-- A strip: inputs are numbered from 0, outputs from 1,024. -/
def State.strip (s : State) (k : Nat) : StripSt := s.mix.strips.get k StripSt.reset
/-- Strip k becomes `x`. -/
def State.setStrip (s : State) (k : Nat) (x : StripSt) : State :=
  { s with mix := { s.mix with strips := s.mix.strips.set k x } }

/-- What a strip's samples pass through: the strip, the samples so far, and what it has flagged. -/
structure Pass where
  st : StripSt
  xs : List Int
  clip : Bool
  wrap : Bool
  sat : Bool
  deriving DecidableEq, Repr

/-- A value times a Q4.28 factor, rounded half to even (R279, R283). -/
def q428 (x c : Int) : Int := roundHalfEven (x * c) 28

/-- One sample through a biquad: history, output and saturation (R280). -/
def biquad (c : List Int) (h : Int × Int × Int × Int) (x : Int) : (Int × Int × Int × Int) × Int × Bool :=
  let v := fun i => c.getD i 0
  let acc := v 0 * x + v 1 * h.1 + v 2 * h.2.1 - v 3 * h.2.2.1 - v 4 * h.2.2.2
  let y := roundHalfEven acc 28
  ((x, h.1, satTo 32 y, h.2.2.1), satTo 32 y, !inSigned 32 y)

/-- Samples through section `b` of a strip. -/
def Pass.section (p : Pass) (b : Nat) (c : List Int) : Pass :=
  let r := p.xs.foldl (fun (a : (Int × Int × Int × Int) × List Int × Bool) x =>
    let y := biquad c a.1 x
    (y.1, a.2.1 ++ [y.2.1], a.2.2 || y.2.2)) (p.st.hist.get b (0, 0, 0, 0), [], false)
  { p with st := { p.st with hist := p.st.hist.set b r.1 }, xs := r.2.1, sat := p.sat || r.2.2 }

/-- The unit of the fixed-point numbers in which R281 is computed. -/
def hpOne : Nat := 2 ^ 120
/-- π in that unit. -/
def hpPi : Nat := 4175892906503776358826876457663557747
/-- sin and cos of x by their series: term, sum of the odd and of the even powers, next index, fuel. -/
def sinCos (x : Int) : Nat → Int → Int → Int → Nat → Int × Int
  | 0, _, sn, cs, _ => (sn, cs)
  | f + 1, t, sn, cs, k =>
    let t1 := truncDiv (t * x) ((hpOne : Int) * k)
    if k % 4 = 1 then sinCos x f t1 (sn + t1) cs (k + 1)
    else if k % 4 = 2 then sinCos x f t1 sn (cs - t1) (k + 1)
    else if k % 4 = 3 then sinCos x f t1 (sn - t1) cs (k + 1)
    else sinCos x f t1 sn (cs + t1) (k + 1)

/-- The coefficients B0, B1, B2, A1, A2 of the high-pass section (R281). -/
def hpCoefs (fc fs : Nat) : List Int :=
  let one : Int := hpOne
  let r := sinCos ((hpPi * fc / fs : Nat) : Int) 24 one 0 one 1
  let k := r.1 * one / r.2
  let r2k := (Nat.sqrt (2 * hpOne * hpOne) : Int) * k / one
  let kk := k * k / one
  let d := one + r2k + kk
  let q := fun (num : Int) => Int.fdiv (num * 2 ^ 29 + d) (2 * d)
  [q one, q (-2 * one), q one, q (2 * (kk - one)), q (one - r2k + kk)]

/-- Conversion to 24 bits (R279, R283). -/
def Pass.conv (p : Pass) (saturate : Bool) : Pass :=
  let bad := p.xs.any fun x => !inSigned 24 x
  if saturate then { p with xs := p.xs.map (satTo 24), clip := p.clip || bad }
  else { p with xs := p.xs.map fun x => (wrapTo 24 x).toInt, wrap := p.wrap || bad }

/-- The on-die delay line of an input strip (R279). -/
def Pass.delay (p : Pass) (d : Nat) : Pass :=
  let r := p.xs.foldl (fun (a : List Int × List Int) x =>
    let l := (x :: a.1).take 4096
    (l, a.2 ++ [l.getD d 0])) (p.st.line, [])
  { p with st := { p.st with line := r.1 }, xs := r.2 }

/-- Samples counted into the meter block (R284). -/
def StripSt.meter (x : StripSt) (xs : List Int) : StripSt :=
  { x with
    pk := xs.foldl (fun m v => max m v.natAbs) x.pk
    sq := x.sq + (xs.map fun v => v.natAbs * v.natAbs).sum
    cnt := x.cnt + xs.length }

/-- The coefficients in force of a biquad. -/
def State.bqCoefs (s : State) (r : RegName) (k b : Nat) : List Int :=
  (List.range 5).map fun w => sext 32 (s.inForce r k b w)

/-- What a strip flagged goes to its STAT; biquad saturations are counted (R279, R280, R283). -/
def State.stripFlags (s : State) (r : RegName) (k : Nat) (p : Pass) : State :=
  let s1 := if p.clip then s.setHw r 31 31 1 k else s
  let s2 := if p.wrap then s1.setHw r 30 30 1 k else s1
  if p.sat then (s2.setHw r 29 29 1 k).pmcMix 4 else s2

/-- The row of input i through its strip (R279): what the Skein carries. -/
def State.runInput (s : State) (i : Nat) (xs : List Int) : List Int × State :=
  let trim := sext 32 (s.inForce .MIX_IGAIN i)
  let p0 : Pass := ⟨s.strip i, xs.map fun x => q428 x trim, false, false, false⟩
  let fs := if s.rowLen = 12 then 96000 else 48000
  let p1 := if s.on .MIX_ICTL 31 i then p0.section 8 (hpCoefs (s.fl .MIX_ICTL 8 0 i) fs) else p0
  let p2 := (List.range 4).foldl (fun p b => p.section b (s.bqCoefs .MIX_IBQ i b)) p1
  let p3 := (p2.conv true).delay (s.fl .MIX_ICTL 27 16 i)
  (p3.xs, (s.setStrip i (p3.st.meter p3.xs)).stripFlags .MIX_ISTAT i p3)

/-- The row of output o through its strip up to step 3 of R283. -/
def State.runOutput (s : State) (o : Nat) (xs : List Int) : List Int × State :=
  let p0 : Pass := ⟨s.strip (1024 + o), xs, false, false, false⟩
  let p1 := (List.range 8).foldl (fun p b => p.section b (s.bqCoefs .MIX_OBQ o b)) p0
  let gain := sext 32 (s.inForce .MIX_OGAIN o)
  let p2 := { p1 with xs := p1.xs.map fun x => q428 x gain }.conv (s.on .MIX_OCTL 30 o)
  (p2.xs, (s.setStrip (1024 + o) p2.st).stripFlags .MIX_OSTAT o p2)

/-- The word of output o's delay line for media index n (R283). -/
def State.odlAddr (s : State) (o n : Nat) : Nat := s.inForce .MIX_ODL_BASE + 0x40000 * o + 4 * (n % 65536)

/-- The parts, as first word and number of words, in which `len` words of a delay line of 65,536 words lie from index n on. -/
def lineParts (n len : Nat) : List (Nat × Nat) :=
  let a := n % 65536
  if a + len ≤ 65536 then [(a, len)] else [(a, 65536 - a), (0, a + len - 65536)]

/-- Samples of output o's delay line from index n on, as requester 0 reads them: 0 for those that a poisoned codeword affects (R372). -/
def State.readLine (s : State) (o n len : Nat) : List Int × State :=
  (lineParts n len).foldl (fun a p =>
    let at_ := s.odlAddr o p.1
    let r := a.2.memRead 0 at_ (4 * p.2)
    (a.1 ++ (List.range p.2).map fun i =>
      if r.2.1 ∧ (s.mem.failed ∨ 2 ≤ (s.cwErrs ((at_ + 4 * i) / 16 * 16)).length) then 0
      else (BitVec.ofNat 32 (leNat (sub r.1 (4 * i) 4))).toInt, r.2.2)) ([], s)

/-- Samples are written to output o's delay line from index n on, by requester 0. -/
def State.writeLine (s : State) (o n : Nat) (xs : List Int) : State :=
  ((lineParts n xs.length).foldl (fun (a : List Int × State) p =>
    (a.1.drop p.2, a.2.memWrite 0 (s.odlAddr o p.1) (bytesOfWords ((a.1.take p.2).map (wrapTo 32))))) (xs, s)).2

/-- The output delay (R283): each sample is written, and the one ODLY samples before is read. -/
def State.delayOutput (s : State) (o n : Nat) (xs : List Int) : List Int × State :=
  let d := s.fl .MIX_OCTL 15 0 o
  let r := s.readLine o (n + 65536 - d) xs.length
  ((List.range xs.length).map fun j => if d ≤ j then (wrapTo 32 (xs.getD (j - d) 0)).toInt else r.1.getD j 0, r.2.writeLine o n xs)

/-! ### Meters (R284) -/

/-- The least j with `base`·10^j ≥ `lim`, from `j` on with fuel `f`. -/
def leastPow (lim : Nat) : Nat → Nat → Nat → Nat
  | 0, _, j => j
  | f + 1, v, j => if lim ≤ v then j else leastPow lim f (v * 10) (j + 1)

/-- PEAK in 0.25 dB units: floor(80·log10(pk / 2^23)) (R284). -/
def peakOf (pk : Nat) : Nat :=
  if pk = 0 then 0x8000 else (wrapTo 16 (-(leastPow (2 ^ 1840) 600 (pk ^ 80) 0 : Int))).toNat

/-- RMS: floor(40·log10(ms / 2^46)), with ms the sum of squares over the samples (R284). -/
def rmsOf (sq cnt : Nat) : Nat :=
  if sq = 0 then 0x8000
  else (wrapTo 16 (-(leastPow ((cnt * 2 ^ 46) ^ 40) 1000 (sq ^ 40) 0 : Int))).toNat

/-- A meter block ends in a strip. -/
def StripSt.endBlock (x : StripSt) : StripSt :=
  { x with met := peakOf x.pk * 2 ^ 16 + rmsOf x.sq x.cnt, pk := 0, sq := 0, cnt := 0 }

/-- A meter block ends (R284). -/
def State.endMeters (s : State) : State :=
  ({ s with mix := { s.mix with
    metRows := 0, strips := s.mix.strips.map fun p => (p.1, p.2.endBlock) } } : State).pmcMix 5

/-- The biquads whose A2 has been written take their coefficients (R282). -/
def State.commitBqs (s : State) : State :=
  { s with
    force := s.mix.bqs.foldl (fun f a =>
      (List.range 5).foldl (fun g w => g.set (a + 4 * w) (s.regs.get (a + 4 * w) (if w = 0 then 0x10000000 else 0))) f) s.force
    mix := { s.mix with bqs := [] } }

/-- A biquad is written in full: it commits at the next row (R282). `a` is the address of its B0. -/
def State.bqWritten (s : State) (a : Nat) : State :=
  { s with mix := { s.mix with bqs := if a ∈ s.mix.bqs then s.mix.bqs else s.mix.bqs ++ [a] } }

/-! ### The commands -/

/-- FETCH (R272). -/
def execFetch (n : Fin 160) (s : State) : Res :=
  .next (if ¬ s.runs n then s else if n.val < 16 then s.trap n .port else s.fetchOp n)

/-- MIX_ROW_UPDATE (R273): between 15 µs and 2 µs before the next row. -/
def execMixRowUpdate (s : State) : Res :=
  let row := s.rowNum + 1
  let planned : Bool := match s.mix.plan with
    | some (r, _) => decide (r = row)
    | none => false
  .next (if s.coreOn ∧ s.gau.running ∧ 110000 ≤ s.rowNs ∧ s.rowNs < 123000 ∧ planned = false then
    let s1 := s.planRow row
    let ups := (s1.mix.plan.map Prod.snd).getD []
    ((List.range 144).map (· + 16)).foldl (fun t n => t.sendUpds (row % 65536).toNat ups n) s1
  else s)

/-- METER_BLOCK_END (R284). -/
def execMeterBlockEnd (s : State) : Res :=
  .next (if s.coreOn ∧ s.fl .MIX_MET 12 0 ≤ s.mix.metRows then s.endMeters else s)

end Sys2Proof.Machine
end

