-- ==== Sys2Proof/Machine/Audio.lean ====
section
/-! DEFINITION. Audio streams, AES3 ports and the row (chapter 11). -/

namespace Sys2Proof.Machine

/-- An event of AUD for the counters (R354). -/
def State.pmcAud (s : State) (ev : Nat) (k : Nat := 1) : State := s.pmcEv 928 959 ev k

/-- AUD runs (R246, R343). -/
def State.audOn (s : State) : Bool := s.coreOn && s.gau.running && !s.quiet && s.on .AUD_CTL 31

/-! ### Objects -/

/-- A receive stream. -/
def State.rxs (s : State) (i : Nat) : Rxs := s.aud.rxs.get i Rxs.reset
/-- The receive stream becomes `x`. -/
def State.setRxs (s : State) (i : Nat) (x : Rxs) : State := { s with aud := { s.aud with rxs := s.aud.rxs.set i x } }
/-- A transmit stream. -/
def State.txs (s : State) (i : Nat) : Txs := s.aud.txs.get i Txs.reset
/-- The transmit stream becomes `x`. -/
def State.setTxs (s : State) (i : Nat) (x : Txs) : State := { s with aud := { s.aud with txs := s.aud.txs.set i x } }
/-- An AES3 input. -/
def State.aesi (s : State) (p : Nat) : AesIn := s.aud.aesi.get p AesIn.reset
/-- The AES3 input becomes `x`. -/
def State.setAesi (s : State) (p : Nat) (x : AesIn) : State := { s with aud := { s.aud with aesi := s.aud.aesi.set p x } }
/-- An AES3 output. -/
def State.aeso (s : State) (p : Nat) : AesOut := s.aud.aeso.get p AesOut.reset
/-- The AES3 output becomes `x`. -/
def State.setAeso (s : State) (p : Nat) (x : AesOut) : State := { s with aud := { s.aud with aeso := s.aud.aeso.set p x } }

/-- CFG in force of an object. -/
def State.objCfg (s : State) : AudObj → Nat
  | .rxs i => s.inForce .RXS_CFG i
  | .txs i => s.inForce .TXS_CFG i
  | .aesi p => s.inForce .AESI_CFG p
  | .aeso p => s.inForce .AESO_CFG p

/-- The state of an object. -/
def State.objSt (s : State) : AudObj → Nat
  | .rxs i => (s.rxs i).st
  | .txs i => (s.txs i).st
  | .aesi p => (s.aesi p).st
  | .aeso p => (s.aeso p).st

/-- An object takes a state. -/
def State.setObjSt (s : State) (o : AudObj) (st : Nat) : State :=
  match o with
  | .rxs i => s.setRxs i { s.rxs i with st := st }
  | .txs i => s.setTxs i { s.txs i with st := st }
  | .aesi p => s.setAesi p { s.aesi p with st := st }
  | .aeso p => s.setAeso p { s.aeso p with st := st }

/-- STATE of an object while its stop is not complete (R264). -/
def stopping : AudObj → Nat
  | .rxs _ => 3
  | .txs _ => 3
  | .aesi _ => 4
  | .aeso _ => 4

/-- The content of an object's channels. -/
def State.objGate (s : State) : AudObj → ChGate
  | .rxs i => (s.rxs i).gate
  | .txs i => (s.txs i).gate
  | .aesi p => (s.aesi p).gate
  | .aeso p => (s.aeso p).gate

/-- The content of an object's channels becomes `g`. -/
def State.setGate (s : State) (o : AudObj) (g : ChGate) : State :=
  match o with
  | .rxs i => s.setRxs i { s.rxs i with gate := g }
  | .txs i => s.setTxs i { s.txs i with gate := g }
  | .aesi p => s.setAesi p { s.aesi p with gate := g }
  | .aeso p => s.setAeso p { s.aeso p with gate := g }

/-- The channels of an object: NCH of a stream, the two subframes of a port. -/
def State.objChs (s : State) : AudObj → Nat
  | .rxs i => s.fl .RXS_CFG 22 16 i
  | .txs i => s.fl .TXS_CFG 22 16 i
  | .aesi _ => 2
  | .aeso _ => 2

/-- Kind and index of an object as recorder event 0x29 carries them. -/
def objArg : AudObj → Nat
  | .rxs i => i.val * 2 ^ 16
  | .txs i => 1 + i.val * 2 ^ 16
  | .aesi p => 2 + p.val * 2 ^ 16
  | .aeso p => 3 + p.val * 2 ^ 16

/-! ### Rates and media time (R245, R247, R248) -/

/-- The mix rate. -/
def State.mixFs (s : State) : Nat := fsOf (s.fl .AUD_CTL 18 16)
/-- The rate of domain `d` (R247). -/
def State.domFs (s : State) (d : Nat) : Nat := if d = 0 then s.mixFs else fsOf (s.fl .AUD_DOM 2 0 (d - 1))
/-- The rate of an object. -/
def State.objFs (s : State) (o : AudObj) : Nat := s.domFs (bits (s.objCfg o) 30 29)

/-- The paths of R248. -/
inductive APath where
  | direct | bridge | asrc
  deriving DecidableEq, Repr

/-- The path between a rate and the mix rate (R248). -/
def pathOf (mix fs : Nat) : APath :=
  if fs = mix then .direct
  else if (mix = 48000 ∧ fs = 96000) ∨ (mix = 96000 ∧ fs = 48000) then .bridge
  else .asrc

/-- The path of an object whose CFG is `cfg` (R248). -/
def State.pathCfg (s : State) (o : AudObj) (cfg : Nat) : APath :=
  let p := pathOf s.mixFs (s.domFs (bits cfg 30 29))
  match o with
  | .aesi _ => if bitOn cfg 28 then .asrc else p
  | _ => p

/-- The path of an object. -/
def State.objPath (s : State) (o : AudObj) : APath := s.pathCfg o (s.objCfg o)

/-- The AES3 ports. -/
def aesPorts : List AudObj := (List.finRange 16).map AudObj.aesi ++ (List.finRange 16).map AudObj.aeso

/-- The added latency of a path, in samples at the mix rate (R248). -/
def State.pathDelay (s : State) (o : AudObj) : Nat :=
  match s.objPath o with
  | .direct => 0
  | .bridge => 16 * s.mixFs / 48000
  | .asrc => 24

/-- AUD_ASRC.USED: two channels for each AES3 port on the ASRC path that is not off (R248). -/
def State.asrcUsed (s : State) : Nat :=
  2 * (aesPorts.filter fun o => decide (s.objSt o ≠ 0) && decide (s.objPath o = .asrc)).length

/-- The media index of a rate at the present edge (R245). -/
def State.mediaNow (s : State) (fs : Nat) : Int := Int.fdiv (s.tc * fs) (10 ^ 9 * 2 ^ 40)

/-- The first index of row `r` at a rate. -/
def rowFirst (fs : Nat) (r : Int) : Nat := (-(Int.fdiv (-(r * fs)) 8000)).toNat

/-- The row of an index at a rate. -/
def rowOfIdx (fs : Nat) (n : Int) : Int := Int.fdiv (n * 8000) fs

/-! ### Zero crossings (R263) -/

/-- A channel has content at index `n`. -/
def ChGate.open_ (g : ChGate) (ch n : Nat) : Bool :=
  let x := Tab.get g ch (false, 0)
  if x.1 then decide (x.2 ≤ n) else decide (n < x.2)

/-- A change of a channel waits from `k0` on, in place of a wait it already has; a channel that is as asked waits no
more. -/
def State.addWait (s : State) (o : AudObj) (ch : Nat) (on : Bool) (k0 : Nat) : State :=
  let w := s.aud.waits.filter fun x => !(x.obj == o && x.ch == ch)
  let cur := (Tab.get (s.objGate o) ch (false, 0)).1
  { s with aud := { s.aud with waits := if cur = on then w else w ++ [⟨o, ch, on, k0⟩] } }

/-- Every channel of an object waits. -/
def State.waitAll (s : State) (o : AudObj) (on : Bool) (k0 : Nat) : State :=
  (List.range (s.objChs o)).foldl (fun t ch => t.addWait o ch on k0) s

/-- The object has waiting channels. -/
def State.waiting (s : State) (o : AudObj) : Bool := s.aud.waits.any fun x => x.obj == o

/-- The output of a channel of a transmit stream or AES3 output (R253, R259). -/
def State.outOf (s : State) (o : AudObj) (ch : Nat) : Nat :=
  match o with
  | .txs i => s.fl .TXS_FIRST 9 0 i + ch
  | .aeso p => s.fl .AESO_CFG 9 0 p + ch
  | _ => ch

/-- Sample `n`, at the mix rate, of an output. -/
def State.outSample (s : State) (o n : Nat) : Int :=
  let m := s.aud.media.get (n / s.rowLen) ⟨[], []⟩
  (m.outs.get o []).getD (n % s.rowLen) 0

/-- The signal that a wait is tested on (R263). Converted outputs are tested on the mix sample of the same instant, the added latency
before (R248). -/
def State.signal (s : State) (o : AudObj) (ch n : Nat) : Int :=
  match o with
  | .rxs i => ((s.rxs i).buf.get n []).getD ch 0
  | .aesi p => ((s.aesi p).buf.get n []).getD ch 0
  | _ => s.outSample (s.outOf o ch) (n * s.mixFs / s.objFs o - s.pathDelay o)

/-- The end of the rows of an object whose samples are known: those of the next processing row, or the media rows whose
content is fixed (R260). -/
def State.knownTo (s : State) (o : AudObj) : Nat :=
  match o with
  | .rxs i => rowFirst (s.objFs o) (s.rowNum - s.fl .RXS_CFG 12 8 i + 1)
  | .aesi _ => rowFirst (s.objFs o) (s.rowNum + 1)
  | _ => rowFirst (s.objFs o) (s.rowNum + (if s.aud.stripRow = some s.rowNum then 2 else 1))

/-- A sample is a zero crossing (R263). -/
def crossing (prev v : Int) : Bool := decide (v = 0) || decide (v < 0 ∧ 0 < prev) || decide (0 < v ∧ prev < 0)

/-- The first crossing of a waiting channel, before index `hi` (R263). -/
def State.firstCross (s : State) (w : ZcWait) (hi : Nat) : Option Nat :=
  ((List.range (hi - w.k0)).map (· + w.k0)).find? fun n =>
    crossing (s.signal w.obj w.ch (n - 1)) (s.signal w.obj w.ch n)

/-- The index at which a wait times out (R263). -/
def State.zcLimit (s : State) (w : ZcWait) : Nat := w.k0 + s.fl .AUD_CTL 6 0 * s.objFs w.obj / 1000

/-- The wait of a channel. -/
def State.waitOf (s : State) (o : AudObj) (ch : Nat) : Option ZcWait :=
  s.aud.waits.find? fun x => x.obj == o && x.ch == ch

/-- A waiting change applies at index `n`. -/
def State.applyWait (s : State) (w : ZcWait) (n : Nat) : State :=
  let s1 := s.setGate w.obj (Tab.set (s.objGate w.obj) w.ch (w.on_, n))
  { s1 with aud := { s1.aud with waits := s1.aud.waits.erase w } }

/-- Every channel of an object has content from index `n` on. -/
def State.openAll (s : State) (o : AudObj) (n : Nat) : State :=
  (List.range (s.objChs o)).foldl (fun t ch => t.setGate o (Tab.set (t.objGate o) ch (true, n))) s

/-! ### Starting and stopping (R264) -/

/-- The first row that starts at least 2 µs from now. -/
def State.firstRow (s : State) : Int := -(Int.fdiv (-(s.tc + 2000 * 2 ^ 40)) (125000 * 2 ^ 40))

/-- An object's start is not complete. -/
def State.startPending (s : State) (o : AudObj) : State :=
  { s with aud := { s.aud with starts := s.aud.starts.erase o ++ [o] } }

/-- A transmit stream or AES3 output starts with row `r`; its content starts at once or waits (R264, R265). -/
def State.startOut (s : State) (o : AudObj) (r : Int) (zc : Bool) : State :=
  let n := rowFirst (s.objFs o) r
  let s1 := match o with
    | .txs i => s.setTxs i { s.txs i with st := 2, next := some r.toNat }
    | .aeso p => s.setAeso p { s.aeso p with st := 3, start := some n, last := none }
    | _ => s
  (if zc then s1.waitAll o true n else s1.openAll o n).startPending o

/-- An object is started (R264). -/
def State.startObj (s : State) (o : AudObj) : State :=
  match o with
  | .rxs i => (s.setRxs i { Rxs.reset with st := 1 }).startPending o
  | .aesi p => (s.setAesi p { AesIn.reset with st := 1, seen := s.gau.l }).startPending o
  | .txs i =>
    if s.on .TXS_CFG 26 i then s.setTxs i { s.txs i with st := 1, next := none }
    else s.startOut o s.firstRow true
  | .aeso p =>
    if s.on .AESO_CFG 26 p then s.setAeso p { s.aeso p with st := 5, start := none }
    else s.startOut o s.firstRow true

/-- k0 of a change of an object made now (R263). -/
def State.kNow (s : State) (o : AudObj) : Nat :=
  match o with
  | .rxs i => rowFirst (s.objFs o) (s.rowNum - s.fl .RXS_CFG 12 8 i)
  | .aesi _ => rowFirst (s.objFs o) s.rowNum
  | _ => rowFirst (s.objFs o) (s.rowNum + 1)

/-- An object begins to stop (R264). -/
def State.stopObj (s : State) (o : AudObj) : State :=
  if s.objSt o = 0 then s
  else
    let s1 : State := { s with aud := { s.aud with starts := s.aud.starts.erase o } }
    (s1.setObjSt o (stopping o)).waitAll o false (s.kNow o)

/-- An object is off: its line is low, its content gone (R264, R246). -/
def State.offObj (s : State) (o : AudObj) : State :=
  let s1 : State := { s with aud := { s.aud with
    waits := s.aud.waits.filter fun x => !(x.obj == o), starts := s.aud.starts.erase o } }
  match o with
  | .rxs i => s1.setRxs i Rxs.reset
  | .txs i => s1.setTxs i { s.txs i with st := 0, gate := [] }
  | .aesi p => s1.setAesi p AesIn.reset
  | .aeso p => s1.setAeso p AesOut.reset

/-- Every object. -/
def audObjs : List AudObj :=
  (List.finRange 512).map AudObj.rxs ++ (List.finRange 512).map AudObj.txs ++ aesPorts

/-- AUD stops: everything at once (R246). -/
def State.audStopAll (s : State) : State :=
  let s1 := audObjs.foldl (fun t o => if t.objSt o = 0 then t else (t.offObj o).recEvent 0x29 (objArg o)) s
  { s1 with aud := { s1.aud with
    waits := [], starts := [], rowMsgs := [], stripRow := none, media := []
    txs := s1.aud.txs.map fun x => (x.1, { x.2 with next := none }) } }

/-- AUD starts: each object with EN = 1 starts. -/
def State.audStartAll (s : State) : State :=
  audObjs.foldl (fun t o => if bitOn (t.objCfg o) 31 then t.startObj o else t) s

/-- The refusal of EN = 1 of an object with configuration `cfg` (R247, R248, R250, R264). -/
def State.judgeStart (s : State) (o : AudObj) (cfg : Nat) : Code :=
  let fs := s.domFs (bits cfg 30 29)
  let nch := bits cfg 22 16
  let stream : Bool := decide (fs = 48000 ∨ fs = 96000) && decide (1 ≤ nch) && decide (nch ≤ if fs = 48000 then 64 else 32)
  if s.objSt o = stopping o then .busy
  else match o with
    | .rxs _ => if stream ∧ (bitOn cfg 27 → 9 ≤ bits cfg 12 8) then .none else .range
    | .txs _ => if stream then .none else .range
    | _ => if s.pathCfg o cfg = .asrc ∧ s.objSt o = 0 ∧ 64 < s.asrcUsed + 2 then .range else .none

/-- An object whose start completes with its channels has come to RUN or LOCKED (R264). -/
def State.entered (s : State) (o : AudObj) : Bool :=
  match o with
  | .rxs i => decide ((s.rxs i).st = 2)
  | .aesi p => decide ((s.aesi p).st = 3)
  | _ => true

/-- STOP_COMPLETE of an object: its stop or its start has no channel left that waits (R264). -/
def State.completeObj (s : State) (o : AudObj) : State :=
  if s.waiting o then s
  else if s.objSt o = stopping o then (s.offObj o).recEvent 0x29 (objArg o)
  else if s.aud.starts.contains o ∧ s.entered o then
    ({ s with aud := { s.aud with starts := s.aud.starts.erase o } } : State).recEvent 0x29 (objArg o + 2 ^ 31)
  else s

/-! ### The trigger (R265) -/

/-- The refusal of an AT (R265, R51). -/
def State.judgeTrig (s : State) (at_ : Nat) : Code :=
  let d : Int := (at_ : Int) - Int.fdiv s.tc (2 ^ 40)
  if at_ % 125000 ≠ 0 ∨ d < -549755813887 ∨ 549755813888 < d then .range else .none

/-- The trigger is armed, or it is too late (R265). -/
def State.armTrig (s : State) (at_ : Nat) : State :=
  if s.tc + 125000 * 2 ^ 40 ≤ (at_ : Int) * 2 ^ 40 then
    ({ s with aud := { s.aud with trigAt := at_ } } : State).setHw .AUD_TRIG_CTL 1 0 1
  else s.setHw .AUD_TRIG_CTL 1 0 3

/-- An object that the trigger starts (R265). -/
def State.trigHits (s : State) (o : AudObj) : Bool :=
  match o with
  | .txs i => decide ((s.txs i).st = 1) && s.on .TXS_CFG 31 i && s.on .TXS_CFG 26 i && s.on .AUD_TRIG_TXS (i % 32) (i / 32)
  | .aeso p => decide ((s.aeso p).st = 5) && s.on .AESO_CFG 31 p && s.on .AESO_CFG 26 p && s.on .AUD_TRIG_AESO p
  | _ => false

/-- The trigger fires (R265). -/
def State.fireTrig (s : State) : State :=
  (audObjs.filter s.trigHits).foldl
    (fun t o => t.startOut o (s.aud.trigAt / 125000 : Nat) (s.on .AUD_TRIG_CTL 31)) (s.setHw .AUD_TRIG_CTL 1 0 2)

/-! ### Receive streams (R250 to R252) -/

/-- Samples of one packet time. -/
def packetLen (fs : Nat) (ms : Bool) : Nat := if ms then fs / 1000 else fs / 8000

/-- The legs whose port and addresses a packet meets (R250): `l` the bytes of its frame, `r` where its RTP header lies. -/
def State.legHits (s : State) (p : Nat) (l : List Byte) (r : Nat) : List (Nat × Nat) :=
  (List.range 512).flatMap fun i =>
    if (s.rxs i).st = 0 then [] else (List.range 2).filterMap fun k =>
      if s.on .RXS_LEG 31 i k ∧ s.fl .RXS_LEG 30 28 i k = p ∧ s.inForce .RXS_LEG_ADDR i k = fn l ((parseFrame l).off + 16) 4
          ∧ s.fl .RXS_LEG 15 0 i k = fh l (r - 6) then some (i, k) else none

/-- The tests of R250 that follow the address tests, of an RTP packet. -/
def State.packetOk (s : State) (i : Nat) (r : List Byte) : Bool :=
  let fs := s.domFs (s.fl .RXS_CFG 30 29 i)
  decide (12 ≤ r.length) && decide (fb r 0 / 64 = 2) && decide (fb r 1 % 128 = s.fl .RXS_CFG 6 0 i)
    && decide ((rtpPay r).length = s.fl .RXS_CFG 22 16 i * (2 + s.fl .RXS_CFG 28 28 i) * packetLen fs (s.on .RXS_CFG 27 i))
    && match (s.rxs i).ssrc with
      | none => true
      | some v => decide (v = fn r 8 4)

/-- The media index of a packet's first sample (R251). -/
def State.packetIdx (s : State) (i : Nat) (r : List Byte) : Int :=
  let cur := s.mediaNow (s.domFs (s.fl .RXS_CFG 30 29 i))
  cur + (wrapTo 32 ((fn r 4 4 : Int) - s.inForce .RXS_RTP_OFS i - cur)).toInt

/-- A leg takes a sequence number: the gap before it counts as lost (R252). -/
def State.legSeq (s : State) (i k seq : Nat) : State :=
  let x := s.rxs i
  let s1 := s.setRxs i { x with seqs := x.seqs.set k (seq + 1) }
  match x.seqs.get k 0 with
  | 0 => s1
  | l + 1 =>
    let gap := (seq + 65535 - l) % 65536
    if gap < 32768 then s1.bump .RXS_CNT2 (31 - 16 * k) (16 - 16 * k) gap i else s1

/-- The samples of an RTP payload: an L16 sample fills the upper bits (R249). -/
def rtpSamples (l24 : Bool) (pay : List Byte) : List Int :=
  if l24 then (List.range (pay.length / 3)).map fun k => sext 24 (fn pay (3 * k) 3)
  else (List.range (pay.length / 2)).map fun k => sext 16 (fh pay (2 * k)) * 256

/-- The samples of a packet are placed by index; an index that is filled stays (R252). -/
def State.placeRtp (s : State) (i : Nat) (n : Int) (r : List Byte) : State :=
  let nch := s.fl .RXS_CFG 22 16 i
  let len := packetLen (s.domFs (s.fl .RXS_CFG 30 29 i)) (s.on .RXS_CFG 27 i)
  let x := s.rxs i
  let vals := rtpSamples (s.on .RXS_CFG 28 i) (rtpPay r)
  let idx : List (Nat × Nat) := (List.range len).map fun j => (j, (n + j).toNat)
  let dup := idx.filter fun a => decide (x.buf.get a.2 [] ≠ [])
  let buf := idx.foldl (fun b a => if x.buf.get a.2 [] ≠ [] then b else b.set a.2 ((vals.drop (a.1 * nch)).take nch)) x.buf
  (s.setRxs i { x with buf := buf }).pmcAud 3 dup.length

/-- An accepted packet is classified (R251); `t` is T_C, in 2^-40 ns, when its last byte has passed the stamp point. -/
def State.classify (s : State) (i k : Nat) (t : Int) (r : List Byte) : State :=
  let n := s.packetIdx i r
  let p := rowOfIdx (s.domFs (s.fl .RXS_CFG 30 29 i)) n + s.fl .RXS_CFG 12 8 i + 1
  if (p * 125000 - 5000) * 2 ^ 40 < t then (s.bump .RXS_CNT1 (31 - 16 * k) (16 - 16 * k) 1 i).pmcAud 1
  else if s.rowNum + s.fl .RXS_CFG 12 8 i + 1 < p then (s.bump .RXS_CNT0 15 0 1 i).pmcAud 2
  else s.placeRtp i n r

/-- A waiting stream runs from its first accepted packet: each channel waits for its crossing (R264). -/
def State.beginRxs (s : State) (i : Fin 512) (r : List Byte) : State :=
  if (s.rxs i).st = 1 then
    let fs := s.objFs (.rxs i)
    let n := rowFirst fs (rowOfIdx fs (s.packetIdx i r))
    (s.setRxs i { s.rxs i with st := 2, first := n }).waitAll (.rxs i) true n
  else s

/-- A packet on a leg of a stream (R250). -/
def State.legPacket (s : State) (i : Fin 512) (k : Nat) (t : Int) (r : List Byte) : State :=
  if s.packetOk i r then
    let s1 := (s.setRxs i { s.rxs i with ssrc := some (fn r 8 4) }).pmcAud 0
    ((s1.legSeq i k (fh r 2)).beginRxs i r).classify i k t r
  else s.bump .RXS_CNT3 15 0 1 i

/-- A frame that port p has delivered to AUD (R250). -/
def State.rtpIn (s : State) (p : Nat) (f : RxFrame) : State :=
  let l := f.bytes
  match rtpAt l with
  | none => s.bump .AUD_RXNM 31 0
  | some h =>
    let hits := s.legHits p l h
    let t := f.tc + (s.bitsNs p (8 * l.length) : Int) * 2 ^ 40
    if hits = [] then s.bump .AUD_RXNM 31 0
    else if udpSumOk l then
      hits.foldl (fun t0 x => t0.legPacket ⟨x.1 % 512, Nat.mod_lt _ (by decide)⟩ x.2 t (udpPay l (h - 8))) s
    else s

/-- The oldest frame that waits for AUD at port p is taken (R250). -/
def State.audTake (s : State) (p : Nat) : State :=
  match s.rxFirst p 3 fun _ => true with
  | none => s
  | some f =>
    let r := s.rxTake p f
    if r.1 ∧ r.2.audOn then r.2.rtpIn p f else r.2

/-! ### Transmit streams (R253 to R255) -/

/-- An L16 stream carries the value rounded to 16 bits (R283). -/
def txSample (l24 : Bool) (v : Int) : Nat :=
  if l24 then (wrapTo 24 v).toNat else (wrapTo 16 (satTo 16 (roundHalfEven v 8))).toNat

/-- Sample `n` at the rate of the object, of a channel of a transmit stream or AES3 output. What a converter makes of the
outputs no rule states: a free value, 0 where the mix samples up to twice the added latency before are 0 (R248). -/
def State.outValue (s : State) (o : AudObj) (ch n : Nat) : Int × State :=
  if (s.objGate o).open_ ch n then
    match s.objPath o with
    | .direct => (s.outSample (s.outOf o ch) n, s)
    | _ =>
      if (List.range (2 * s.pathDelay o + 1)).any fun j => decide (s.outSample (s.outOf o ch) (n * s.mixFs / s.objFs o - j) ≠ 0) then
        let d := s.draw 24; ((BitVec.ofNat 24 d.1).toInt, d.2)
      else (0, s)
  else (0, s)

/-- Values of a list of samples, drawn in order. -/
def State.outValues (s : State) (o : AudObj) : List (Nat × Nat) → List Int × State
  | [] => ([], s)
  | x :: r =>
    let v := s.outValue o x.1 x.2
    let w := v.2.outValues o r
    (v.1 :: w.1, w.2)

/-- Rows of one packet. -/
def State.txRows (s : State) (i : Nat) : Nat := if s.on .TXS_CFG 27 i then 8 else 1

/-- A packet of the stream is due: t_row(m + k) + LOFS has come (R254). -/
def State.txDue (s : State) (i m : Nat) : Bool :=
  decide (((m + s.txRows i) * 125000 + s.inForce .TXS_LOFS i * 1000 : Int) * 2 ^ 40 ≤ s.tc)

/-- A row of the packet lacked the OUTROW of an output it carries (R255). -/
def State.txMissed (s : State) (i m : Nat) : Bool :=
  (List.range (s.txRows i)).any fun r =>
    (s.aud.media.get (m + r) ⟨[], []⟩).miss.any fun o =>
      decide (s.fl .TXS_FIRST 9 0 i ≤ o) && decide (o < s.fl .TXS_FIRST 9 0 i + s.fl .TXS_CFG 22 16 i)

/-- The packet is withheld (R255). -/
def State.withheld (s : State) (i m : Nat) : Bool :=
  decide ((s.txs i).st < 2) || s.flt.relinq || s.flt.halt || (s.on .TXS_CFG 25 i && s.txMissed i m)

/-- The RTP packet of a stream (R253): sequence number, timestamp and payload. -/
def State.rtpBytes (s : State) (i seq ts : Nat) (pay : List Byte) : List Byte :=
  bytesBE 1 0x80 ++ bytesBE 1 (s.fl .TXS_CFG 6 0 i) ++ bytesBE 2 seq ++ bytesBE 4 ts ++ bytesBE 4 (s.inForce .TXS_SSRC i) ++ pay

/-- The addresses of leg k of a stream (R253). -/
def State.rtpNet (s : State) (i k : Nat) : Net :=
  let q := s.fl .TXS_LEG 30 28 i k
  let a := s.inForce .TXS_LEG_ADDR i k
  { dmac := groupMac false a, smac := s.inForce .PTP_MAC q % 2 ^ 48
    tags := vlanTag (s.on .TXS_NET 28 i) (s.fl .TXS_NET 27 25 i) (s.fl .TXS_NET 23 12 i), v6 := false
    src := s.inForce .PTP_IPV4 q, dst := a, sport := s.fl .TXS_LEG 15 0 i k, dport := s.fl .TXS_LEG 15 0 i k }

/-- A unit of a twin sends only leg UNIT of every stream (R332). -/
def State.ownLeg (s : State) (k : Nat) : Bool :=
  match s.twin.role with
  | .solo | .compare => true
  | _ => decide (s.fl .STL_TWIN_CFG 29 29 = k)

/-- The packet goes to both legs (R253, R254). -/
def State.sendRtp (s : State) (i : Fin 512) (m : Nat) : State :=
  let o : AudObj := .txs i
  let fs := s.objFs o
  let n0 := rowFirst fs m
  let len := packetLen fs (s.on .TXS_CFG 27 i)
  let v := s.outValues o ((List.range len).flatMap fun j =>
    (List.range (s.fl .TXS_CFG 22 16 i)).map fun c => (c, n0 + j))
  let ts := (n0 + s.inForce .TXS_RTP_OFS i) % 2 ^ 32
  let r := s.rtpBytes i (s.txs i).seq ts
    (v.1.flatMap fun x => bytesBE (2 + s.fl .TXS_CFG 28 28 i) (txSample (s.on .TXS_CFG 28 i) x))
  (List.range 2).foldl (fun t k =>
    if t.on .TXS_LEG 31 i k ∧ t.ownLeg k then
      let b := udpFrame (s.rtpNet i k) (s.fl .TXS_NET 11 6 i) (s.fl .TXS_NET 5 0 i) false r
      t.submitFrame (t.fl .TXS_LEG 30 28 i k) (tsvFrame (t.fl .TXS_CFG 15 13 i) (.rtp b) b.length)
    else t) v.2

/-- A launch instant of a stream: sent or withheld, and the sequence number advances (R254, R255). -/
def State.launchRtp (s : State) (i : Fin 512) (m : Nat) : State :=
  let s1 := if s.withheld i m then (s.bump .TXS_STAT 15 0 1 i).pmcAud 5 else (s.sendRtp i m).pmcAud 4
  s1.setTxs i { s1.txs i with seq := ((s1.txs i).seq + 1) % 65536, next := some (m + s.txRows i) }

/-! ### AES3 inputs (R256 to R258) -/

/-- An AES3 input loses its signal or lock: its subframes mute at their crossings (R258). -/
def State.aesLost (s : State) (p : Fin 16) (st : Nat) : State :=
  let s1 := (s.setAesi p { s.aesi p with st := st, run := 0 }).bump .AESI_CNT 7 0 1 p
  s1.waitAll (.aesi p) false (s1.kNow (.aesi p))

/-- It is locked or running: its subframes start at their crossings (R258). -/
def State.aesRun (s : State) (p : Fin 16) : State :=
  (s.setAesi p { s.aesi p with st := 3 }).waitAll (.aesi p) true (s.kNow (.aesi p))

/-- Its signal is lost where it had one, and it waits for another. -/
def State.aesGone (s : State) (p : Fin 16) : State :=
  match (s.aesi p).st with
  | 3 => s.aesLost p 1
  | 2 => s.setAesi p { s.aesi p with st := 1, run := 0, settle := none, rates := [] }
  | _ => s

/-- The 32-bit words of the bits of a block. -/
def State.latchBits (s : State) (r : RegName) (p v : Nat) : State :=
  (List.range 6).foldl (fun t w => t.setHw r 31 0 (v / 2 ^ (32 * w)) p w) s

/-- One more bit of the CRCC of AES3. PRESUMED (log 56): AES3, which the spec names, has x^8 + x^4 + x^3 + x^2 + 1, ones at first, and the
bits in the order in which they are sent. -/
def aesCrccBit (c : Nat) (b : Bool) : Nat := if c.testBit 0 ^^ b then Nat.xor (c / 2) 0xB8 else c / 2

/-- The CRCC of a channel status block: of its bits before byte 23 (R256, R259). -/
def aesCrcc (v : Nat) : Nat := (List.range 184).foldl (fun c i => aesCrccBit c (bitOn v i)) 0xFF

/-- A channel status block is of the professional format and its CRCC is wrong (R256). -/
def crccBad (v : Nat) : Bool := bitOn v 0 && decide (v / 2 ^ 184 % 256 ≠ aesCrcc v)

/-- A block of 192 frames ends (R256): that of either subframe being wrong, none is latched. -/
def State.endBlock (s : State) (p : Nat) : State :=
  let x := s.aesi p
  let s1 := s.setAesi p { x with frames := none }
  if crccBad (x.cs.get 0 0) || crccBad (x.cs.get 1 0) then s1.bump .AESI_CNT 15 8 1 p
  else
    let s2 := (((s1.latchBits .AESI_CS_A p (x.cs.get 0 0)).latchBits .AESI_CS_B p (x.cs.get 1 0)).latchBits
      .AESI_UB_A p (x.ub.get 0 0)).latchBits .AESI_UB_B p (x.ub.get 1 0)
    s2.setHw .AESI_STAT 15 0 (bits (s2.hwOf .AESI_STAT p) 15 0 + 1) p

/-- The bits of a frame go into the block in progress (R256). -/
def State.blockFrame (s : State) (p : Nat) (f : Aes3Frame) : State :=
  let x0 := s.aesi p
  let x := if f.z then { x0 with frames := some 0, cs := [], ub := [] } else x0
  match x.frames with
  | none => s
  | some i =>
    let s1 := s.setAesi p { x with
      frames := some (i + 1)
      cs := (x.cs.set 0 (x.cs.get 0 0 + bit1 f.a.c i)).set 1 (x.cs.get 1 0 + bit1 f.b.c i)
      ub := (x.ub.set 0 (x.ub.get 0 0 + bit1 f.a.u i)).set 1 (x.ub.get 1 0 + bit1 f.b.u i) }
    if i = 191 then s1.endBlock p else s1

/-- Even parity over the sample and its V, user and status bits. -/
def aesParity (a : Nat) (v u c : Bool) : Bool :=
  ((List.range 24).map fun b => (bitOn a b).toNat).sum % 2 + v.toNat + u.toNat + c.toNat |>.testBit 0

/-- A subframe has a parity error (R256). -/
def subBad (x : AesSub) : Bool := decide (aesParity x.audio.toNat x.v x.u x.c ≠ x.p)

/-- The value of a subframe after `last` (R256): on a parity error the one before, 0 for V = 1 with VMUTE. -/
def subValue (mute : Bool) (last : Int) (x : AesSub) : Int := if subBad x then last else if x.v ∧ mute then 0 else x.audio.toInt

/-- The index of the sample instant nearest to the present edge at a rate, and whether it lies within 0.375 of a sample period (R257). -/
def State.nearest (s : State) (fs : Nat) : Nat × Bool :=
  let one : Int := 10 ^ 9 * 2 ^ 40
  let x := s.tc * fs
  let n := Int.fdiv (2 * x + one) (2 * one)
  (n.toNat, decide (8 * (x - n * one).natAbs ≤ 3 * one.toNat))

/-- The samples of a frame (R256, R257): at 44.1 kHz and its kin the index is the first one at or after the frame's end. -/
def State.aesSamples (s : State) (p : Nat) (f : Aes3Frame) : State :=
  let x := s.aesi p
  let mute := s.on .AESI_CFG 27 p
  let a := subValue mute x.lastA f.a
  let b := subValue mute x.lastB f.b
  let fs := s.domFs (s.fl .AESI_CFG 30 29 p)
  let n := (s.nearest fs).1 + ceilDiv fs 48000
  (s.setAesi p { x with lastA := a, lastB := b, buf := x.buf.set n [a, b], seen := s.gau.l }).bump .AESI_CNT 31 16
    ((subBad f.a).toNat + (subBad f.b).toNat) p

/-- Two rates differ by more than 1 %. -/
def rateMoved (a b : Nat) : Bool := decide (b < 100 * (max a b - min a b))

/-- The measured rate at a frame: RATE, recorder event 0x28, and settling (R257, R258). -/
def State.aesRate (s : State) (p : Nat) : State :=
  let x := s.aesi p
  let rate := Config.aesRate (x.rates.map Prod.snd ++ [s.gau.l]) % 2 ^ 18
  let old := bits (s.hwOf .AESI_RATE p) 17 0
  let s1 := if rateMoved rate old ∧ old ≠ 0 then s.recEvent 0x28 p else s
  let keep := x.rates.filter fun r => decide (s.gau.l < r.2 + 10000000)
  let steady := keep.all fun r => !rateMoved rate r.1
  let good := decide (31680 ≤ rate ∧ rate ≤ 193920)
  (s1.setHw .AESI_RATE 17 0 rate p).setAesi p { x with
    rates := keep ++ [(rate, s.gau.l)]
    settle := if good ∧ steady then some (x.settle.getD s.gau.l) else none }

/-- Lock on the LOCKED path (R257). -/
def State.aesLock (s : State) (p : Fin 16) : State :=
  let x := s.aesi p
  if (s.nearest (s.objFs (.aesi p))).2 then
    let s1 := s.setAesi p { x with run := x.run + 1 }
    if x.st = 2 ∧ 48 ≤ x.run + 1 then s1.aesRun p else s1
  else if x.st = 3 then s.aesLost p 2
  else s.setAesi p { x with run := 0 }

/-- Loss on the ASRC path by a move of the rate (R257). -/
def State.aesTrack (s : State) (p : Fin 16) : State :=
  if (s.aesi p).st = 3 ∧ (s.aesi p).settle = none then s.aesLost p 2 else s

/-- A frame of an AES3 input (R256 to R258). -/
def State.aesFrame (s : State) (p : Fin 16) (f : Aes3Frame) : State :=
  let s0 := if (s.aesi p).st = 1 then s.setAesi p { s.aesi p with st := 2 } else s
  let s1 := ((s0.aesSamples p f).blockFrame p f).aesRate p
  if s.on .AESI_CFG 28 p then s1.aesTrack p else s1.aesLock p

/-! ### AES3 outputs (R259) -/

/-- The condition that holds the line of a running output low (R259). -/
def State.aesHeld (s : State) (p : Nat) : Bool := s.flt.relinq || s.flt.halt || (s.on .AESO_CFG 23 p && s.standby)

/-- The 192 channel status or user bits in force. -/
def State.aesBits (s : State) (r : RegName) (p : Nat) : Nat :=
  natOfWords ((List.range 6).map fun w => w32 (s.inForce r p w))

/-- Channel status as sent: byte 23 is the CRCC where R259 says so. -/
def State.aesStatus (s : State) (r : RegName) (p : Nat) : Nat :=
  let v := s.aesBits r p
  if s.on .AESO_CFG 24 p ∧ bitOn v 0 then
    v % 2 ^ 184 + aesCrcc v * 2 ^ 184
  else v

/-- The frame of index `m` is sent (R259). -/
def State.sendAes (s : State) (p : Fin 16) (m k : Nat) : State :=
  let o : AudObj := .aeso p
  let va := s.outValue o 0 m
  let vb := va.2.outValue o 1 m
  let t := vb.2
  let a := (wrapTo 24 va.1).toNat
  let b := (wrapTo 24 vb.1).toNat
  let v := t.on .AESO_CFG 25 p
  let ca := bitOn (t.aesStatus .AESO_CS_A p) k
  let cb := bitOn (t.aesStatus .AESO_CS_B p) k
  let ua := bitOn (t.aesBits .AESO_UB_A p) k
  let ub := bitOn (t.aesBits .AESO_UB_B p) k
  t.send (.aes3 p (decide (k = 0)) a b v ca cb ua ub (aesParity a v ua ca) (aesParity b v ub cb))

/-- The sample instant of index `m` at an output whose first frame has index `n0`. -/
def State.aesInstant (s : State) (p : Fin 16) (m n0 : Nat) : State :=
  let k := (m - n0) % 192
  let s1 := if k = 0 then s.boundary (.block true p) else s
  let low := s1.aesHeld p || ((s.aeso p).low && decide (k ≠ 0))
  let s2 := s1.setAeso p { s.aeso p with last := some m, low := low }
  if low then s2 else s2.sendAes p m k

/-! ### The row (R249, R260 to R262, R271) -/

/-- A mix-rate sample `n` of a channel of an object: direct samples by index. What a converter makes no rule states: a free value from what
lies up to twice the added latency before, 0 where all of that is 0 (R248). -/
def State.inValue (s : State) (o : AudObj) (ch n : Nat) : Int × State :=
  let k (m : Nat) : Nat := m * s.objFs o / s.mixFs
  match s.objPath o with
  | .direct => (if (s.objGate o).open_ ch (k n) then s.signal o ch (k n) else 0, s)
  | _ =>
    if (List.range (2 * s.pathDelay o + 1)).any fun j => (s.objGate o).open_ ch (k (n - j)) then
      let d := s.draw 24; ((BitVec.ofNat 24 d.1).toInt, d.2)
    else (0, s)

/-- Samples from mix index `n` on. -/
def State.inValues (s : State) (o : AudObj) (ch n : Nat) : Nat → List Int × State
  | 0 => ([], s)
  | k + 1 =>
    let v := s.inValue o ch n
    let w := v.2.inValues o ch (n + 1) k
    (v.1 :: w.1, w.2)

/-- The samples of mix input `i` in processing row `p` (R249, R260). -/
def State.inputRow (s : State) (p : Int) (i : Nat) : List Int × State :=
  let m := s.inForce .AUD_IMAP i
  let idx := bits m 24 16
  let ch := bits m 5 0
  let len := s.rowLen
  let zero := List.replicate len (0 : Int)
  if ¬ s.audOn then (zero, s)
  else match bits m 31 30 with
    | 1 =>
      let j : Fin 512 := ⟨idx % 512, Nat.mod_lt _ (by decide)⟩
      if (s.rxs j).st < 2 ∨ s.objChs (.rxs j) ≤ ch then (zero, s)
      else s.inValues (.rxs j) ch (rowFirst s.mixFs (p - s.fl .RXS_CFG 12 8 idx - 1)) len
    | 2 =>
      let j : Fin 16 := ⟨idx % 16, Nat.mod_lt _ (by decide)⟩
      if (s.aesi j).st < 2 ∨ 2 ≤ ch then (zero, s)
      else s.inValues (.aesi j) ch (rowFirst s.mixFs (p - 1)) len
    | _ => (zero, s)

/-- Input `i` goes through its strip; what the Skein carries is added to `a.1`, sample by sample. -/
def skeinInput (p : Int) (a : List (List Int) × State) (i : Nat) : List (List Int) × State :=
  let v := a.2.inputRow p i
  let r := v.2.runInput i v.1
  (a.1 ++ [r.1], r.2)

/-- D memory with quarter `q` of a row of `len` samples: sample j of input i at 4·(1,024·j + i) (R271). -/
def skeinD (rows : List (List Int)) (len q : Nat) (d : List Host.Cell) : List Host.Cell :=
  let mine := (rows.drop (256 * q)).take 256
  (List.range len).foldl (fun m j => memPut m (4 * (1024 * j + 256 * q)) (mine.flatMap fun r => bytesLE 4 (wrapTo 32 (r.getD j 0)).toNat)) d

/-- The Skein writes quarter `q` to every mix sequencer that is not FENCED (R271). -/
def State.skein (s : State) (rows : List (List Int)) (q : Nat) : State :=
  ((List.range 144).map (· + 16)).foldl (fun t n =>
    if (t.sq n).st = .fenced then t else t.setSq n { t.sq n with dMem := skeinD rows s.rowLen q (t.sq n).dMem }) s

/-- Quarter `q` of the row in progress is due in every ring (R260, R270, R271). -/
def State.quarterDue (s : State) (q : Nat) : Bool := decide ((q + 1) * (if s.rowLen = 12 then 3500 else 2000) ≤ s.rowNs)

/-- The Skein delivers the next quarter of the frozen row once it is due. -/
def State.skeinNext (s : State) : State :=
  match s.aud.frozen with
  | some (rows, q) =>
    if s.quarterDue q then
      ({ s with aud := { s.aud with frozen := if q = 3 then none else some (rows, q + 1) } } : State).skein rows q
    else s
  | none => s

/-- A running stream whose input row has an index that no packet filled counts it once (R252). -/
def State.missingRow (s : State) (p : Int) (i : Nat) : State :=
  let x := s.rxs i
  let fs := s.domFs (s.fl .RXS_CFG 30 29 i)
  let n0 := rowFirst fs (p - s.fl .RXS_CFG 12 8 i - 1)
  if x.st < 2 then s
  else
    let miss := (List.range (fs / 8000)).any fun j => decide (x.first ≤ n0 + j) && decide (x.buf.get (n0 + j) [] = [])
    let s1 := s.setRxs i { x with buf := x.buf.filter fun b => decide (n0 ≤ b.1 + 1) }
    if miss then s1.bump .RXS_CNT0 31 16 1 i else s1

/-- An AES3 input drops the samples behind the rows in use. -/
def State.aesPrune (s : State) (p : Int) (i : Nat) : State :=
  let n0 := rowFirst (s.domFs (s.fl .AESI_CFG 30 29 i)) (p - 1)
  s.setAesi i { s.aesi i with buf := (s.aesi i).buf.filter fun b => decide (n0 ≤ b.1 + 1) }

/-- The metering of media row `p`, whose samples go out from now on (R284). -/
def State.meterOuts (s : State) (p : Int) : State :=
  let m := s.aud.media.get p.toNat ⟨[], []⟩
  let s1 := m.outs.foldl (fun t o => t.setStrip (1024 + o.1) ((t.strip (1024 + o.1)).meter o.2)) s
  { s1 with mix := { s1.mix with metRows := s1.mix.metRows + 1 } }

/-- The receive occupancy of every port is sampled (R350). -/
def State.sampleRx (s : State) : State :=
  (List.range 8).foldl (fun t p => t.sample 5 p ((t.ep p).occ fun _ => true)) s

/-- The input row of processing row `p` is frozen and goes through the input strips; the Skein delivers it from now on (R260, R271, R279). -/
def State.freeze (s : State) (p : Int) : State :=
  let r := (List.range 1024).foldl (skeinInput p) ([], s)
  { r.2 with aud := { r.2.aud with frozen := some (r.1, 0) } }

/-- A row starts (R22, R260): changes bound to the row apply, and its input row is frozen. -/
def State.startRow (s : State) : State :=
  let p := s.rowNum
  let s1 := (((s.boundary .row).commitBqs.applyPlan).sampleRx).meterOuts p
  let s2 := if s1.audOn then (s1.aud.rxs.map Prod.fst).foldl (fun t i => t.missingRow p i) s1 else s1
  let s3 := s2.freeze p
  let s4 := if s3.audOn then (s3.aud.aesi.map Prod.fst).foldl (fun t i => t.aesPrune p i) s3 else s3
  { s4 with aud := { s4.aud with rowMsgs := [] } }

/-- An OUTROW message (R261, R262). -/
def State.outrowOp (s : State) (o tag : Nat) (samples : List Int) : State :=
  if ¬ s.audOn then s
  else if tag ≠ (s.rowNum % 65536).toNat ∨ s.aud.stripRow = some s.rowNum ∨ 110000 ≤ s.rowNs then s.bump .AUD_STRIP 15 0
  else (({ s with aud := { s.aud with rowMsgs := s.aud.rowMsgs.set o samples } } : State).pmcAud 7).sample 8 0 s.rowNs

/-- One bit of the CRC-64 of R334. -/
def crc64Bit (c : Nat) : Nat :=
  if bitOn c 63 then Nat.xor (c * 2 % 2 ^ 64) 0x42F0E1EBA9EA3693 else c * 2
/-- The CRC-64 of R334 over one more byte. -/
def crc64Byte (c : Nat) (b : Byte) : Nat :=
  (List.range 8).foldl (fun x _ => crc64Bit x) (Nat.xor c (b.toNat * 2 ^ 56))
/-- The CRC-64 of R334. -/
def crc64 (l : List Byte) : Nat := l.foldl crc64Byte 0

/-- The digest of an output row (R334). -/
def rowDigest (rows : List (List Int)) : Nat :=
  crc64 (rows.flatMap fun r => r.flatMap fun x => bytesLE 4 (wrapTo 32 x).toNat)

/-- A twin sends the digest of its row and keeps it for comparison (R334). -/
def State.sendDigest (s : State) (rows : List (List Int)) : State :=
  if s.fl .STL_TWIN_CFG 31 30 = 0 then s
  else
    let tag := (s.rowNum % 65536).toNat
    let d := rowDigest rows
    let keep := (s.twin.digest.filter fun x => decide ((tag + 65536 - x.1) % 65536 < 64))
    ({ s with twin := { s.twin with digest := Tab.set keep tag d } } : State).send (.digest tag d)

/-- Output `o` in the strips: its missing row, its samples after step 3 and after the delay (R262, R283). -/
structure OutAcc where
  rows : List (List Int)
  outs : Tab (List Int)
  miss : List Nat
  s : State

/-- One output of the row goes through its strip (R262, R283). -/
def stripOut (a : OutAcc) (o : Nat) : OutAcc :=
  let len := a.s.rowLen
  let none_ : Bool := (a.s.aud.rowMsgs.get o []).isEmpty
  let xs := if none_ ∨ a.s.roleOf o = 0xFF then List.replicate len (0 : Int) else a.s.aud.rowMsgs.get o []
  let s0 := if none_ ∧ a.s.roleOf o ≠ 0xFF then (a.s.bump .AUD_STRIP 31 16).pmcAud 8 else a.s
  let r := s0.runOutput o xs
  let n := rowFirst a.s.mixFs (a.s.rowNum + 1)
  let d := r.2.delayOutput o n r.1
  { rows := a.rows ++ [r.1], outs := a.outs ++ [(o, d.1)], miss := if none_ then a.miss ++ [o] else a.miss, s := d.2 }

/-- The STRIP deadline: the row's content is fixed and the strips write the next media row (R260, R262, R283). -/
def State.stripRow (s : State) : State :=
  let p := s.rowNum
  let a := (List.range 1024).foldl stripOut ⟨[], [], [], s⟩
  let s1 := a.s.sendDigest a.rows
  let media := (s1.aud.media.filter fun m => decide (p ≤ m.1 + 16))
  { s1 with aud := { s1.aud with
    stripRow := some p, media := Tab.set media (p + 1).toNat ⟨a.outs, a.miss⟩ } }

/-! ### The commands -/

/-- ROW_START (R22, R260): once at an edge. -/
def execRowStart (s : State) : Res :=
  .next (if s.coreOn ∧ s.rowEdge ∧ s.fresh 0x300 then (s.fire 0x300).startRow else s)

/-- STREAM_PACKET_RECEIVE (R250 to R252). -/
def execStreamPacketReceive (p : Fin 8) (s : State) : Res := .next (s.audTake p)

/-- STREAM_PACKET_LAUNCH (R254, R255). -/
def execStreamPacketLaunch (i : Fin 512) (s : State) : Res :=
  .next (match (s.txs i).next with
    | some m => if s.audOn ∧ s.txDue i m then s.launchRtp i m else s
    | none => s)

/-- AES3_FRAME_RECEIVE (R256 to R258). -/
def execAes3FrameReceive (p : Fin 16) (f : Aes3Frame) (s : State) : Res :=
  .next (if s.audOn ∧ (s.aesi p).st ≠ 0 then s.aesFrame p f else s)

/-- AES3_UNLOCK_TIMEOUT (R257): 4 frame periods without a preamble, on the LOCKED path. -/
def execAes3UnlockTimeout (p : Fin 16) (s : State) : Res :=
  .next (if s.audOn ∧ ¬ s.on .AESI_CFG 28 p ∧ 4 * 10 ^ 9 ≤ (s.gau.l - (s.aesi p).seen) * s.objFs (.aesi p) then s.aesGone p else s)

/-- AES3_ASRC_LOSS (R257): 100 µs without a preamble. -/
def execAes3AsrcLoss (p : Fin 16) (s : State) : Res :=
  .next (if s.audOn ∧ s.on .AESI_CFG 28 p ∧ (s.aesi p).seen + 100000 ≤ s.gau.l then s.aesGone p else s)

/-- AES3_ASRC_RUN (R257): 50 ms after the rate settled. -/
def execAes3AsrcRun (p : Fin 16) (s : State) : Res :=
  let settled : Bool := match (s.aesi p).settle with
    | some t => decide (t + 50000000 ≤ s.gau.l)
    | none => false
  .next (if s.audOn ∧ s.on .AESI_CFG 28 p ∧ (s.aesi p).st = 2 ∧ settled then s.aesRun p else s)

/-- AES3_FRAME_SEND (R259): at the sample instant of the next index. -/
def execAes3FrameSend (p : Fin 16) (s : State) : Res :=
  let m := (s.mediaNow (s.objFs (.aeso p))).toNat
  .next (match (s.aeso p).start with
    | some n0 =>
      if s.audOn ∧ ((s.aeso p).st = 3 ∨ (s.aeso p).st = 4) ∧ n0 ≤ m ∧ (s.aeso p).last ≠ some m then s.aesInstant p m n0 else s
    | none => s)

/-- OUTROW (R261): row tag and samples of an output, from a mix sequencer. -/
def execOutrow (n : Fin 160) (o : Fin 1024) (tag : Half) (samples : List Word) (s : State) : Res :=
  .next (if ¬ s.runs n then s
    else if n.val < 16 then s.trap n .port
    else if samples.length ≠ s.rowLen then s.trap n .badmsg
    else s.outrowOp o tag.toNat (samples.map BitVec.toInt))

/-- STRIP_DEADLINE (R262): once in a row. -/
def execStripDeadline (s : State) : Res :=
  .next (if s.audOn ∧ 110000 ≤ s.rowNs ∧ s.aud.stripRow ≠ some s.rowNum then s.stripRow else s)

/-- DELAY_LINE_DEADLINE (R283): the read of the output's delay line has not completed. -/
def execDelayLineDeadline (o : Fin 1024) (s : State) : Res :=
  let m := (s.rowNum + 1).toNat
  .next (if s.audOn ∧ 122000 ≤ s.rowNs ∧ s.aud.stripRow = some s.rowNum ∧ s.fresh (0x30000 + o.val) then
    let x := s.aud.media.get m ⟨[], []⟩
    let s1 := s.fire (0x30000 + o.val)
    ({ s1 with aud := { s1.aud with
      media := s1.aud.media.set m { x with outs := x.outs.set o (List.replicate s.rowLen (0 : Int)) } } } : State).bump
        .MIX_DLYLATE 31 0
  else s)

/-- ZERO_CROSSING_APPLY (R263). -/
def execZeroCrossingApply (obj : AudObj) (ch : Nat) (s : State) : Res :=
  .next (match s.waitOf obj ch with
    | none => s
    | some w => match s.firstCross w (min (s.zcLimit w) (s.knownTo obj)) with
      | some n => s.applyWait w n
      | none => s)

/-- ZC_TIMEOUT (R263): no crossing by k0 + ZC_TIMEOUT × fs. -/
def execZcTimeout (obj : AudObj) (ch : Nat) (s : State) : Res :=
  .next (match s.waitOf obj ch with
    | none => s
    | some w =>
      if s.zcLimit w < s.knownTo obj ∧ s.firstCross w (s.zcLimit w) = none then
        ((s.applyWait w (s.zcLimit w)).bump .AUD_ZC 31 16).pmcAud 6
      else s)

/-- STOP_COMPLETE (R264). -/
def execStopComplete (obj : AudObj) (s : State) : Res := .next (s.completeObj obj)

/-- TRIGGER_FIRE (R265). -/
def execTriggerFire (s : State) : Res :=
  .next (if s.audOn ∧ bits (s.hwOf .AUD_TRIG_CTL) 1 0 = 1 ∧ (s.aud.trigAt : Int) * 2 ^ 40 ≤ s.tc then s.fireTrig else s)

end Sys2Proof.Machine
end

