-- ==== Sys2Proof/Machine/Supervise.lean ====
section
/-! DEFINITION. Faults, ALIVE, injection, the recorder and the counters as commands bring them (chapter 15). -/

namespace Sys2Proof.Machine

/-! ### Sources (R338 to R342) -/

/-- A source has a unit of this number (R338). -/
def hasUnit (src unit : Nat) : Bool :=
  match src with
  | 6 => decide (unit < 3)
  | 11 | 12 | 13 | 14 => decide (unit < 160)
  | 15 => decide (unit < 136)
  | 16 => decide (unit < 24)
  | 17 => decide (unit < 4)
  | 18 | 19 => decide (unit < 8)
  | 21 => decide (unit < 20)
  | 22 => decide (unit < 1024)
  | 24 => decide (unit < 16)
  | 25 => decide (unit < 64)
  | 27 => decide (unit < 4)
  | _ => decide (unit = 0)

/-- The sources whose condition lasts until it is said to end (R338, R341). -/
def lasting (src : Nat) : Bool := [0, 1, 4, 5, 6, 7, 8, 9].contains src

/-- What a source's own chapter states beside the severity: a node of the output served as ACT = 0 (R338), a BADTAG slot
(R290), Warden down (R35), XO lost (R382); the loss of XO, of APLL-G or of the Gauge stops the Gauge and all that it times (R34). Which node word failed the command does not say: a free value. -/
def State.ownEffect (s : State) (src unit : Nat) : State :=
  match src with
  | 0 => { s with gau := { s.gau with running := false }, cast_ := { s.cast_ with xo := false } }
  | 1 | 2 => { s with gau := { s.gau with running := false } }
  | 10 => if s.warden.downAt.isNone then s.wardenDown else s
  | 22 =>
    let d := s.draw 10
    let n := 1024 * unit + d.1
    { d.2 with force := d.2.force.set (nodeAddr n) (putBits (s.node n) 16 16 0) }
  | 25 => s.setKslot unit { s.kslot unit with bad := true }
  | _ => s

/-- A source asserts for a unit it has; a report of the armed checker is the injected one, and with DRY it has no
consequence but the record (R340, R346, R347). -/
def State.assert (s : State) (src unit : Nat) : State :=
  let inj := s.injected src unit
  let s1 : State := if inj then { s with flt := { s.flt with inj := { s.flt.inj with state := 2 } } } else s
  let s2 := if inj ∧ s.flt.inj.dry then s1 else s1.ownEffect src unit
  let s3 := s2.fault src unit inj
  if lasting src then s3.setFsrc src { s3.fsrc src with cond := true } else s3

/-- The refusal of a RESUME: a source is active that was applied at RELINQUISH or HALT (R342). -/
def State.judgeResume (s : State) : Code :=
  if (List.range 32).any fun k => s.srcActive k && decide (3 ≤ (s.fsrc k).eff) then .busy else .none

/-- A released RESUME (R342, R327). -/
def State.takeResume (s : State) : State :=
  if s.flt.relinq ∧ ¬ s.flt.halt then
    ({ s with flt := { s.flt with relinq := false } } : State).takeTwinCfg false
  else s

/-! ### Injection (R346) -/

/-- The sources that an injection can name (R346). -/
def injectable : List Nat := [2, 3, 13, 18, 19, 20, 21, 22, 23, 24, 25]

/-- The refusal of a GO (R346). -/
def State.judgeInject (s : State) (src unit : Nat) : Code :=
  if s.flt.inj.state = 1 then .busy
  else if injectable.contains src && hasUnit src unit then .none else .range

/-- A released write of FLT_INJ (R346). -/
def State.takeInject (s : State) (v : Nat) : State :=
  let s1 := if bitOn v 29 ∧ s.flt.inj.state = 1 then
      ({ s with flt := { s.flt with inj := { s.flt.inj with state := 0 } } } : State) else s
  if bitOn v 31 then
    ({ s1 with flt := { s1.flt with
      inj := ⟨1, 0, bits v 21 16, bits v 15 0, bitOn v 30, s1.gau.l⟩ } } : State).setHw .FLT_INJ_STAT 7 0 0
  else s1

/-! ### The recorder (R349 to R352) -/

/-- Every MARK and every unit is zeroed, and code 0x3E is raised; `path` is 0 for the host and 1 for the sideband (R352). -/
def State.clearRecs (s : State) (path : Nat) : State :=
  ({ s with rcd := { s.rcd with
    slots := s.rcd.slots.map fun p => (p.1, { p.2 with mark := false }), units := [] } } : State).recEvent 0x3E path

/-- CLR_ALL takes effect when the commit in progress ends (R352). -/
def State.clrAll (s : State) (path : Nat) : State :=
  if s.rcd.bufs = [] then s.clearRecs path
  else { s with rcd := { s.rcd with clr := s.rcd.clr ++ [path] } }

/-- The oldest commit buffer goes to the slot at HEAD, and what waited for its end happens (R349, R352). -/
def State.commitRec (s : State) : State :=
  match s.rcd.bufs with
  | [] => s
  | r :: rs =>
    let q := s.rcd.seq % (2 ^ 32 - 1) + 1
    let s1 : State := { s with rcd := { s.rcd with
      bufs := rs, slots := s.rcd.slots.set s.rcd.head { r with seq := q, mark := true }
      head := (s.rcd.head + 1) % 256, seq := q, clr := [] } }
    s.rcd.clr.foldl State.clearRecs s1

/-- CLR_CNT (R352). -/
def State.clrCnt (s : State) : State :=
  { s with
    rcd := { s.rcd with count := [] }
    hw := (List.range 256).foldl (fun h c => h.set (RegName.REC_CODE_SUPP.addr c) 0) s.hw }

/-- A unit is cleared (R350). -/
def State.clrUnit (s : State) (u : Nat) : State :=
  { s with rcd := { s.rcd with units := s.rcd.units.set u RecUnit.clear } }

/-! ### Counters and sweeps (R353 to R355) -/

/-- A released write of PMC_CNTi clears the counter with CLR (R353). -/
def State.takePmc (s : State) (i v : Nat) : State :=
  if bitOn v 30 then { s with pmc := { s.pmc with cnt := s.pmc.cnt.set i ⟨0, false⟩ } } else s

/-- The largest event number of counter i's block, and whether a SEL is in its list (R354). -/
def selOk (i sel : Nat) : Bool :=
  if i < 64 then
    let o := sel % 32
    match sel / 32 with
    | 0 | 1 | 2 => decide (o < 24)
    | 3 | 4 => decide (o < 32)
    | 5 | 6 => decide (o = 0)
    | _ => decide (o < 20)
  else if i < 128 then decide (sel ≤ 6)
  else if i < 768 then decide (sel % 16 ≤ 14)
  else if i < 896 then decide (sel ≤ 13)
  else if i < 928 then decide (sel ≤ 9)
  else if i < 960 then decide (sel ≤ 8)
  else if i < 976 then decide (sel ≤ 5)
  else if i < 984 then decide (sel ≤ 3)
  else if i < 1000 then decide (sel % 64 ≤ 6)
  else if i < 1016 then decide (sel % 16 ≤ 5)
  else decide (sel ≤ 5)

/-- A counter of a sweep is captured (R355). -/
def State.capture (s : State) (w : Sweep) (i : Nat) : State :=
  let b := s.pmc.banks.get w.bank PmcBank.reset
  { s with pmc := { s.pmc with
    banks := s.pmc.banks.set w.bank { b with entries := b.entries.set i (s.pmc.cnt.get i ⟨0, false⟩) } } }

/-- The captures that the running sweep takes at the present edge, before the events of the edge (R355). -/
def State.sweepEdge (s : State) : State :=
  match s.pmc.sweep with
  | none => s
  | some w =>
    let d := s.gau.l - w.e0
    if d % 2 = 0 ∧ w.first + d / 2 ≤ w.last then s.capture w (w.first + d / 2) else s

/-- A sweep starts at the present edge (R355). -/
def State.startSweep (s : State) : State :=
  let w : Sweep := ⟨s.gau.l, s.fl .PMC_SWEEP 9 0, s.fl .PMC_SWEEP 25 16, if s.pmc.sweepSeq = 0 then 0 else 1 - s.pmc.lastBank⟩
  let q := (s.pmc.sweepSeq + 1) % 2 ^ 32
  let b : PmcBank := ⟨q, s.gns, s.gfr, [], (s.pmc.banks.get w.bank PmcBank.reset).tailSeq⟩
  ({ s with pmc := { s.pmc with sweep := some w, sweepSeq := q, banks := s.pmc.banks.set w.bank b } } : State).sweepEdge

/-- The sweep has taken its last capture: the tail SEQ is written (R355). -/
def State.endSweep (s : State) (w : Sweep) : State :=
  let b := s.pmc.banks.get w.bank PmcBank.reset
  { s with pmc := { s.pmc with
    sweep := none, lastBank := w.bank, banks := s.pmc.banks.set w.bank { b with tailSeq := b.seq } } }

/-! ### Instruction samples (R356) -/

/-- The 32 bytes of a sample record (R356). -/
def State.sampleBytes (s : State) (n : Nat) (taken cache : Bool) (stall delta cause : Nat) : List Byte :=
  let q := s.sq n
  bytesLE 4 (n * 2 ^ 24 + bit1 (decide (s.pmc.sampLost ≠ 0)) 23 + min 3 q.reps.length * 2 ^ 21 + bit1 cache 20
      + bit1 taken 19 + min 0xFFFF s.pmc.sampLost)
    ++ bytesLE 4 s.gfr ++ bytesLE 8 s.gns ++ bytesLE 4 (memWord q.pMem q.pc).toNat ++ bytesLE 2 q.pc
    ++ bytesLE 2 stall ++ bytesLE 4 delta ++ bytesLE 1 cause ++ bytesLE 3 0

/-- A sample goes to the ring, or is lost (R356). -/
def State.takeInsSample (s : State) (rec_ : List Byte) : State :=
  let len := max 1 (s.inForce .PMC_SAMP_LEN)
  let prod := s.pmc.sampProd % len
  if (prod + 1) % len = s.inForce .PMC_SAMP_CONS then
    ({ s with pmc := { s.pmc with sampLost := s.pmc.sampLost + 1 } } : State).bump .PMC_SAMP_LOST 31 0
  else
    ({ s with pmc := { s.pmc with sampProd := (prod + 1) % len, sampLost := 0 } } : State).memWrite 11
      (s.inForce .PMC_SAMP_RING + 32 * prod) rec_

/-! ### The commands -/

/-- FAULT_ASSERT (R340). A source asserts only for a unit it has (R338). -/
def execFaultAssert (src : Fin 32) (unit : Half) (s : State) : Res :=
  .next (if s.coreOn ∧ hasUnit src unit.toNat then s.assert src unit.toNat else s)

/-- FAULT_INACTIVE (R341): the condition has ended; the source stays active for 1 s of L after its last assertion. -/
def execFaultInactive (src : Fin 32) (s : State) : Res := .next (s.setFsrc src { s.fsrc src with cond := false })

/-- ALIVE_TOGGLE (R345): once at an edge. -/
def execAliveToggle (s : State) : Res :=
  .next (if s.coreOn ∧ s.on .FLT_CTL 31 ∧ ¬ s.flt.relinq ∧ ¬ s.flt.halt ∧ s.atPeriod 500000
      ∧ ¬ s.ranBefore (s.lastGrid 500000) ∧ s.fresh 0x26 then
    (({ s with flt := { s.flt with alive := !s.flt.alive } } : State).fire 0x26).send (.alive (!s.flt.alive))
  else s)

/-- INJECT_EXPIRY (R346). -/
def execInjectExpiry (s : State) : Res :=
  .next (if s.flt.inj.state = 1 ∧ s.flt.inj.at_ + 1000000000 ≤ s.gau.l then
    { s with flt := { s.flt with inj := { s.flt.inj with state := 3 } } }
  else s)

/-- RECORDER_COMMIT (R349). -/
def execRecorderCommit (s : State) : Res := .next s.commitRec

/-- SWEEP_PERIODIC (R355): once at an edge. -/
def execSweepPeriodic (s : State) : Res :=
  let per := s.fl .PMC_SWEEP_PER 15 0
  .next (if s.coreOn ∧ per ≠ 0 ∧ s.atPeriod (per * 1000000) ∧ s.fresh 0x27 then
    let s1 := s.fire 0x27
    if s.pmc.sweep.isSome then s1.bump .PMC_SWEEP_STAT 15 0 else s1.startSweep
  else s)

/-- SWEEP_DONE (R355). -/
def execSweepDone (s : State) : Res :=
  .next (match s.pmc.sweep with
    | none => s
    | some w => if w.e0 + 2 * (w.last - w.first) ≤ s.gau.l then s.endSweep w else s)

/-- INSTRUCTION_SAMPLE (R356). -/
def execInstructionSample (n : Fin 160) (taken cache : Bool) (stall : Half) (delta : Word) (cause : Byte) (s : State) : Res :=
  .next (if s.runs n ∧ s.on .PMC_SAMP 31 (cluOf n) ∧ s.on .PMC_SAMP (n % 16) (cluOf n) then
    s.takeInsSample (s.sampleBytes n taken cache stall.toNat delta.toNat cause.toNat)
  else s)

end Sys2Proof.Machine
end

