-- ==== Sys2Proof/Machine/Gnss.lean ====
section
/-! DEFINITION. The satellite navigation baseband (chapter 6, R122 to R140). -/

namespace Sys2Proof.Machine

/-! ### Signals and pairs (R126, R127) -/

/-- A signal component: it lies in L5, carrier and chip rate in Hz, chips and milliseconds of its primary code. -/
structure Signal where
  l5 : Bool
  carrier : Nat
  rate : Nat
  chips : Nat
  ms : Nat
  deriving DecidableEq, Repr

/-- The components by SIG (R126). -/
def gnssSignal (sig : Nat) : Signal :=
  match sig with
  | 0 => ⟨false, 1575420000, 1023000, 1023, 1⟩
  | 1 | 2 | 9 | 10 => ⟨false, 1575420000, 1023000, 10230, 10⟩
  | 5 | 6 => ⟨false, 1575420000, 1023000, 4092, 4⟩
  | _ => ⟨true, 1176450000, 10230000, 10230, 1⟩

/-- The system of a SIG and PRN: 0 GPS, 1 Galileo, 2 BeiDou, 3 QZSS, which uses the GPS codes with PRN 193 to 202 (R126). -/
def sigSystem (sig prn : Nat) : Nat :=
  if sig ≤ 4 then (if 193 ≤ prn ∧ prn ≤ 202 then 3 else 0) else if sig ≤ 8 then 1 else 2

/-- The replica of a SIG is BOC(1,1), not BPSK (R126). -/
def isBoc (sig : Nat) : Bool := [1, 2, 5, 6, 9, 10].contains sig

/-- The code replica of a SIG and PRN at a phase in 2^-32 chip: +1 or −1; BOC(1,1) changes its sign in the second half of a chip (R126). -/
def codeReplica (sig prn ph : Nat) : Int :=
  let flip := Config.primaryCode sig prn (ph / 2 ^ 32) != (isBoc sig && bitOn ph 31)
  if flip then -1 else 1

/-- Channel c is one of a pair (R127). -/
def State.isPair (s : State) (c : Nat) : Bool :=
  match s.fl .GNS_CTL 17 16 with
  | 1 => true
  | 2 => bitOn (s.inForce .GNS_PAIR (c / 2 / 32)) (c / 2 % 32)
  | _ => false

/-- The channels that start and stop with c: c, or both of its pair. -/
def State.mates (s : State) (c : Nat) : List Nat := if s.isPair c then [c / 2 * 2, c / 2 * 2 + 1] else [c]

/-- The port, SIG and PRN of a channel. -/
def State.chFe (s : State) (c : Nat) : Nat := s.fl .CH_CFG 29 28 c
/-- The SIG of a channel. -/
def State.chSig (s : State) (c : Nat) : Nat := s.fl .CH_CFG 27 24 c
/-- The PRN of a channel. -/
def State.chPrn (s : State) (c : Nat) : Nat := s.fl .CH_CFG 23 16 c
/-- The sample rate of a channel's port. -/
def State.chFs (s : State) (c : Nat) : Nat := s.inForce .FE_FS (s.chFe c)

/-- A channel keeps the rules of R128 and R129. -/
def State.chanOk (s : State) (c : Nat) : Bool :=
  let g := gnssSignal (s.chSig c)
  decide (2 * g.rate ≤ s.chFs c) && decide (1 ≤ s.fl .CH_CFG 12 8 c ∧ s.fl .CH_CFG 12 8 c ≤ 20)
    && decide (s.fl .CH_CFG 12 8 c * g.ms ≤ 20)

/-- A pair keeps the rules of R127. -/
def State.pairOk (s : State) (a b : Nat) : Bool :=
  !s.on .FE_CFG 30 (s.chFe a) && !(gnssSignal (s.chSig a)).l5 && s.on .FE_CFG 30 (s.chFe b) && (gnssSignal (s.chSig b)).l5
    && decide (sigSystem (s.chSig a) (s.chPrn a) = sigSystem (s.chSig b) (s.chPrn b) ∧ s.chPrn a = s.chPrn b)

/-- The refusal of a start (R127 to R130). -/
def State.judgeChan (s : State) (c scnt : Nat) : Code :=
  if s.isPair c ∧ c % 2 = 1 then .range
  else if s.isPair c ∧ ¬ (s.pairOk c (c + 1) ∧ s.chanOk (c + 1)) then .range
  else if ¬ s.chanOk c then .range
  else if 10000 * (scnt - (s.fe (s.chFe c)).scnt) < s.chFs c then .late
  else .none

/-! ### Tracking channels (R128 to R132) -/

/-- A channel is armed with its start values (R130). -/
def State.armChan (s : State) (c cw rw ph scnt : Nat) : State :=
  s.setChan c { Chan.reset with
    st := .armed, at_ := scnt, s0 := scnt, ph0 := ph, cw := cw, rw := rw, prev := (s.chan c).prev }

/-- The carrier word of the second channel of a pair: its IF plus the first one's Doppler scaled to L5, in cycles
per sample, in units of 2^-32; its last bit is a free value, since the rule names no rounding (R127). -/
def State.mateWord (s : State) (a b rw : Nat) : Nat × State :=
  let dop : Int := sext 32 rw * s.chFs a - sext 32 (s.inForce .FE_IF (s.chFe a)) * (2 ^ 32 : Nat)
  let num : Int := sext 32 (s.inForce .FE_IF (s.chFe b)) * (2 ^ 32 : Nat) * 157542 + dop * 117645
  let d := s.draw 1
  ((wrapTo 32 (floorDiv num (157542 * s.chFs b : Nat) + d.1)).toNat, d.2)

/-- A start that is not refused: the channel and the second one of its pair are armed (R127, R130). -/
def State.startChan (s : State) (c cw rw ph scnt : Nat) : State :=
  let s1 := s.armChan c cw rw ph scnt
  if s.isPair c then
    let m := s1.mateWord c (c + 1) rw
    let ph2 := ph * 10 % (10230 * 2 ^ 32)
    m.2.armChan (c + 1) (s.inForce .CH_CODE_NCO (c + 1)) m.1 ph2 scnt
  else s1

/-- A start with the values of a START message or of the registers: armed, or LATE, or refused (R130). -/
def State.tryStart (s : State) (c cw rw ph scnt : Nat) : State :=
  match s.judgeChan c scnt with
  | .none => s.startChan c cw rw ph scnt
  | .late => s.setChan c { s.chan c with late := true }
  | _ => s

/-- A start by the registers of a channel. -/
def State.startByRegs (s : State) (c : Nat) : State :=
  s.tryStart c (s.inForce .CH_CODE_NCO c) (s.inForce .CH_CARR_NCO c) (s.fl .CH_START_PH 47 0 c)
    (s.inForce .CH_START_SCNT c)

/-- Every channel of a list takes a state. -/
def State.moveChans (s : State) (l : List Nat) (st : ChState) : State :=
  l.foldl (fun t c => if (t.chan c).st = .stopped then t
    else t.setChan c { t.chan c with st := st, pend := none }) s

/-- A channel is stopped, with the other of its pair (R127, R130). -/
def State.stopChan (s : State) (c : Nat) : State := s.moveChans (s.mates c) .stopped

/-- A START message is taken by a channel that is STOPPED, in COAST or LOST (R123, R130, R131). -/
def State.startMsg (s : State) (c cw rw ph scnt : Nat) : State :=
  match (s.chan c).st with
  | .armed | .tracking => s
  | _ => if s.on .GNS_CTL 31 ∧ ¬ s.flt.halt then s.tryStart c cw rw ph scnt else s

/-- An UPDATE message from sequencer n (R131). -/
def State.updateMsg (s : State) (n c cw rw : Nat) : State :=
  if n ≠ s.fl .CH_CFG 3 0 c then s.bump .CH_STAT 15 8 1 c
  else match (s.chan c).st with
    | .armed | .tracking => s.setChan c { s.chan c with pend := some (cw, rw) }
    | _ => s

/-- The code phase of a channel at a sample, from its start on, in 2^-32 chip. -/
def Chan.phaseAt (x : Chan) (n : Nat) : Nat := x.ph0 + x.cw * (n - x.s0)
/-- The carrier phase at a sample, in 2^-32 cycle. -/
def Chan.carrAt (x : Chan) (n : Nat) : Int := x.car0 + sext 32 x.rw * ((n : Int) - x.s0)

/-- The primary code of a channel in 2^-32 chip. -/
def State.codeLen (s : State) (c : Nat) : Nat := (gnssSignal (s.chSig c)).chips * 2 ^ 32

/-- EPOCHS at a sample (R132). -/
def State.epochsAt (s : State) (c n : Nat) : Nat := (s.chan c).phaseAt n / s.codeLen c

/-- The pending update applies at sample n (R131). -/
def Chan.takeUpdate (x : Chan) (n : Nat) : Chan :=
  match x.pend with
  | none => { x with upd := false }
  | some (cw, rw) => { x with
      s0 := n, ph0 := x.phaseAt n, car0 := x.carrAt n, cw := cw, rw := rw, pend := none, upd := true }

/-- The words of a dump record (R132). -/
def State.dumpWords (s : State) (c n : Nat) (corr : List Word) (sat : Bool) : List Word :=
  let x := s.chan c
  [ w32 (c * 2 ^ 24 + s.chSig c * 2 ^ 20 + bit1 sat 19 + bit1 x.upd 18 + x.dcnt % 2 ^ 16), w32 (s.epochsAt c n) ]
    ++ wordsOf 2 n ++ wordsOf 2 (wrapTo 64 (x.carrAt n)).toNat ++ corr

/-- The messages of an inbox that fit, and those that still wait at the hub (R160). -/
def splitInbox (cap : Nat) : Nat → List Msg → List Msg × List Msg
  | _, [] => ([], [])
  | used, m :: ms =>
    if used + 1 + m.pay.length ≤ cap then
      let r := splitInbox cap (used + 1 + m.pay.length) ms
      (m :: r.1, r.2)
    else ([], m :: ms)

/-- A dump record that its port has not accepted within one dump period is dropped (R129). -/
def State.dropDump (s : State) (n c : Nat) : State :=
  let r := splitInbox (inboxCap 3) 0 ((s.sq n).inbox.get 3 [])
  if r.2.any fun m => decide (m.type = 0x38 ∧ m.arg = c) then
    let keep := r.2.filter fun m => decide (¬ (m.type = 0x38 ∧ m.arg = c))
    ((s.setSq n { s.sq n with inbox := (s.sq n).inbox.set 3 (r.1 ++ keep) }).bump .CH_STAT 23 16 1 c).pmcEv 64 127 1
  else s

/-! ### Samples and correlators (R122, R128, R129) -/

/-- A 4-bit value of a front end as two's complement, by FMT: two's complement, sign and magnitude, or offset binary (R122). -/
def fmtValue (fmt v : Nat) : Int :=
  match fmt with
  | 1 => if bitOn v 3 then -((v % 8 : Nat) : Int) else (v % 8 : Nat)
  | 2 => (v % 16 : Nat) - 8
  | _ => sext 4 v

/-- A sample from the eight bits of a clock period (R122), after FMT and SWAP: I in the high four bits and Q in the low, as two's
complement. -/
def feAssemble (fmt : Nat) (swap : Bool) (b : BitVec 8) : Nat :=
  let nib (k : Nat) : Nat := bit1 (b.getLsbD (2 * k)) 3 + bit1 (b.getLsbD (2 * k + 1)) 2 + bit1 (b.getLsbD (2 * k + 2)) 1
    + bit1 (b.getLsbD (2 * k + 3)) 0
  let as4 (v : Nat) : Nat := (wrapTo 4 (fmtValue fmt v)).toNat
  let i := as4 (nib 0)
  let q := as4 (nib 2)
  if swap then q * 16 + i else i * 16 + q

/-- I and Q of a sample. -/
def sampleI (y : Nat) : Int := sext 4 (y / 16)
/-- Q of a sample. -/
def sampleQ (y : Nat) : Int := sext 4 y

/-- The offsets from P of the ten correlators of channel c, in the order of the dump record, in 2^-32 chip (R128, R132). -/
def State.corrOffsets (s : State) (c : Nat) : List Int :=
  let q : Int := 2 ^ 26
  let vel : Int := s.fl .CH_SP 31 24 c
  let el : Int := s.fl .CH_SP 6 0 c
  let m (k : Nat) : Int := sext 8 (s.fl .CH_MOFS (8 * k + 7) (8 * k) c)
  [-vel * q, -el * q, 0, el * q, vel * q, m 0 * q, m 1 * q, m 2 * q, m 3 * q,
    (((gnssSignal (s.chSig c)).chips / 2 * 2 ^ 32 : Nat) : Int)]

/-- A 32-bit signed accumulator saturates (R129). -/
def sat32 (v : Int) : Int := max (-(2 ^ 31)) (min (2 ^ 31 - 1) v)

/-- A sample without its carrier: it is multiplied by the conjugate of the phasor of its carrier phase (R128). -/
def wiped (y : Nat) (carr : Int) : Int × Int :=
  let k := (Int.emod (carr + Config.phaseRound) (2 ^ 32)).toNat / 2 ^ 26
  let c := (Config.phasor k).1
  let d := (Config.phasor k).2
  (sampleI y * c + sampleQ y * d, sampleQ y * c - sampleI y * d)

/-- The accumulators of channel c after sample `y` of number n (R128, R129). -/
def State.correlate (s : State) (c n y : Nat) : State :=
  let x := s.chan c
  let w := wiped y (x.carrAt n)
  let acc := (List.range 10).map fun k =>
    let r := codeReplica (s.chSig c) (s.chPrn c)
      (Int.emod ((x.phaseAt n : Int) + (s.corrOffsets c).getD k 0) (s.codeLen c)).toNat
    let a := x.acc.getD k (0, 0)
    (a.1 + r * w.1, a.2 + r * w.2)
  let sat := acc.any fun a => decide (sat32 a.1 ≠ a.1 ∨ sat32 a.2 ≠ a.2)
  s.setChan c { x with acc := acc.map fun a => (sat32 a.1, sat32 a.2), sat := x.sat || sat }

/-- The words of the correlators in a dump record: I then Q of each (R132). -/
def corrWords (acc : List (Int × Int)) : List Word :=
  (List.range 10).flatMap fun k => [wrapTo 32 (acc.getD k (0, 0)).1, wrapTo 32 (acc.getD k (0, 0)).2]

/-- The listed channels on port f. -/
def State.chansOn (s : State) (f : Nat) : List Nat := (s.gnb.chs.map fun p => p.1).filter fun c => decide (s.chFe c = f)

/-- The channel's port has a sample at the present edge. -/
def State.sampled (s : State) (c : Nat) : Bool := (s.fe (s.chFe c)).now.isSome
/-- The number of the last sample of the channel's port. -/
def State.chScnt (s : State) (c : Nat) : Nat := (s.fe (s.chFe c)).scnt

/-- The channel starts with the present sample (R130). -/
def State.trackDue (s : State) (c : Nat) : Bool :=
  decide ((s.chan c).st = .armed) && s.sampled c && decide (s.chScnt c = (s.chan c).at_)

/-- The present sample is the first of the channel's next dump period (R129). -/
def State.dumpDue (s : State) (c : Nat) : Bool :=
  decide ((s.chan c).st = .tracking ∨ (s.chan c).st = .coast) && s.sampled c
    && decide ((s.chan c).epoch + s.fl .CH_CFG 12 8 c ≤ s.epochsAt c (s.chScnt c))

/-- The end of a dump period of a channel, whose next one begins with the present sample (R129, R131). -/
def State.dumpOp (s : State) (c : Nat) : State :=
  let x := s.chan c
  let n := s.chScnt c
  let s0 := s.boundary (.dump ⟨c % 192, Nat.mod_lt _ (by decide)⟩)
  let s1 := if x.sat then s0.bump .CH_STAT 7 0 1 c else s0
  let y : Chan := { x.takeUpdate n with epoch := s.epochsAt c n, acc := [], sat := false }
  match x.st with
  | .tracking =>
    let ts := s.fl .CH_CFG 3 0 c
    let s2 := ((s1.dropDump ts c).deliver ts 3 ⟨0x38, c, s.dumpWords c n (corrWords x.acc) x.sat⟩).pmcEv 64 127 0
    let s3 := s2.setChan c { y with dcnt := x.dcnt + 1 }
    if x.pend.isSome then s3.pmcEv 64 127 2 else s3
  | _ => s1.setChan c y

/-- The samples of the present edge go into the accumulators of their channels. -/
def State.accumulate (s : State) : State :=
  (List.range 4).foldl (fun t f => match (t.fe f).now with
    | none => t
    | some y => ((t.chansOn f).filter fun c => decide ((t.chan c).st = .tracking ∨ (t.chan c).st = .coast)).foldl
        (fun u c => u.correlate c (t.fe f).scnt y) t) s

/-! ### Indicators (R140) -/

/-- GNS_IND_STAT.HW. -/
def State.indHw (s : State) : Nat :=
  ((List.range 4).map fun b => bit1 (s.gnb.ind.get b (false, 0)).1 b).sum

/-- GNS_IND_STAT. -/
def State.indStat (s : State) : Nat := bits (s.hwOf .GNS_IND_STAT) 15 8 * 2 ^ 8 + s.indHw

/-- The INDICATOR condition of CAND9 follows the indicators (R140). -/
def State.indCheck (s : State) : State :=
  s.external 9 false (decide (s.indStat &&& s.inForce .GNS_IND_EN ≠ 0))

/-- A hardware indicator's condition is present (R140). -/
def State.indSet (s : State) (b : Nat) : State :=
  ({ s with gnb := { s.gnb with ind := s.gnb.ind.set b (true, s.gau.l) } } : State).indCheck

/-- The DRIFT test at a t_sec (R140). -/
def State.driftTest (s : State) : State :=
  match s.sel.fsel with
  | none => s
  | some f =>
    if s.fvalid f ∧ s.fvalid 9 ∧ ((s.cand f).freq - (s.cand 9).freq).natAbs > s.fl .GNS_IND_DRIFT 23 0 then s.indSet 3
    else s

/-! ### Front-end ports (R123) -/

/-- The channels on a port. -/
def State.onPort (s : State) (f : Nat) : List Nat :=
  (List.range 192).filter fun c => decide (s.chFe c = f ∧ (s.chan c).st ≠ .stopped)

/-- A port declares LOST (2) or RATE (3) (R123, R127). -/
def State.feDeclare (s : State) (f st : Nat) : State :=
  let l := (s.onPort f).flatMap s.mates
  (((s.setFe f { s.fe f with st := st }).moveChans l .lost).bump .FE_STAT 15 0 1 f).fault 17 f

/-- The port is enabled and the block is not held stopped (R343). -/
def State.feOn (s : State) (f : Nat) : Bool := s.on .FE_CFG 31 f && !s.flt.halt

/-- The clock of every enabled port at the present edge (R122 to R124): a sample is counted, and TDC source 36 + f has its edge. -/
def State.feArrive (s : State) : State :=
  (List.range 4).foldl (fun t f =>
    if t.feOn f then
      let x := t.fe f
      match Config.feSample f t.wt (t.inForce .FE_DESKEW f) with
      | none => if x.now.isNone then t else t.setFe f { x with now := none }
      | some b =>
        let y := feAssemble (t.fl .FE_CFG 29 28 f) (t.on .FE_CFG 27 f) b
        let u := t.setFe f { x with
          scnt := (x.scnt + 1) % 2 ^ 64, now := some y, lastAt := t.gau.l, gone := false, pcnt := x.pcnt + 1
          psum := x.psum + (sampleI y * sampleI y + sampleQ y * sampleQ y).toNat }
        if u.srcTaken (36 + f) then { u with tdc := { u.tdc with due := u.tdc.due ++ [(u.gau.l, 36 + f, false)] } } else u
    else t) s

/-- No clock edge has come for 1 µs, which is not yet declared (R123). -/
def State.clockGone (s : State) (f : Nat) : Bool := !(s.fe f).gone && decide ((s.fe f).lastAt + 1000 ≤ s.gau.l)

/-- The rate test of a port at a Gauge second (R123). -/
def State.rateTest (s : State) (f cnt : Nat) : State :=
  let fs : Int := s.inForce .FE_FS f
  if fs < (((cnt : Int) - fs).natAbs * 10000 : Nat) then s.feDeclare f 3 else s.setFe f { s.fe f with st := 1 }

/-- A port at a Gauge second (R123, R140). -/
def State.feSecondOp (s : State) (f : Nat) : State :=
  let x := s.fe f
  let pow := (Config.fePower x.psum x.pcnt).toNat
  let s1 := s.setFe f { x with secAt := some x.scnt, pow := pow, psum := 0, pcnt := 0 }
  let s2 := match x.secAt with
    | none => s1
    | some p => s1.rateTest f ((x.scnt + 2 ^ 64 - p) % 2 ^ 64)
  let s3 := s2.sample 13 f pow
  let base := s3.fl .FE_BASE 15 0 f
  if (s3.fe f).st = 1 ∧ base ≠ 0xFFFF ∧ base + s3.fl .GNS_IND_TH 15 0 < pow then s3.indSet 0 else s3

/-! ### Acquisition (R133, R134) -/

/-- The SIG of a job: that of the monitored channel with MON = 1 (R134). -/
def State.jobSig (s : State) (j : Nat) : Nat :=
  if s.on .ACQ_CFG 29 j then s.chSig (s.fl .ACQ_CFG 7 0 j) else s.fl .ACQ_CFG 23 20 j
/-- The PRN of a job: that of the monitored channel with MON = 1 (R134). -/
def State.jobPrn (s : State) (j : Nat) : Nat :=
  if s.on .ACQ_CFG 29 j then s.chPrn (s.fl .ACQ_CFG 7 0 j) else s.fl .ACQ_CFG 15 8 j
/-- The port of a LIVE job. -/
def State.jobFe (s : State) (j : Nat) : Nat := s.fl .ACQ_CFG 27 26 j
/-- The samples of a job: COH × NCOH ms, rounded up (R133). -/
def State.jobNeed (s : State) (j : Nat) : Nat :=
  ceilDiv (s.inForce .FE_FS (s.jobFe j) * s.fl .ACQ_INT 7 0 j * s.fl .ACQ_INT 15 8 j) 1000

/-- The staging a LIVE job needs, in KiB: its samples at one byte each, rounded up (R133). -/
def State.jobKib (s : State) (j : Nat) : Nat := if s.on .ACQ_CFG 28 j then 0 else ceilDiv (s.jobNeed j) 1024

/-- The refusal of a GO to a job slot (R133, R134). -/
def State.judgeAcq (s : State) (j : Nat) : Code :=
  if s.gnb.acq.get j 0 = 1 ∨ s.gnb.acq.get j 0 = 2 then .busy
  else if s.fl .ACQ_INT 7 0 j % (gnssSignal (s.jobSig j)).ms ≠ 0 then .range
  else if s.fl .ACQ_STAGE_LEN 23 0 < s.jobKib j then .range
  else .none

/-- A job slot takes a status. -/
def State.setAcq (s : State) (j st : Nat) : State := { s with gnb := { s.gnb with acq := s.gnb.acq.set j st } }

/-- The job at the head of the queue runs (R134). -/
def State.runAcq (s : State) : State :=
  match s.gnb.acqQ, s.gnb.acqRun with
  | j :: _, none =>
    let s1 := s.setAcq j 2
    { s1 with gnb := { s1.gnb with acqRun := some ⟨s.gau.l, none, 0, [], none⟩ } }
  | _, _ => s

/-- A job is queued (R134). -/
def State.queueAcq (s : State) (j : Nat) : State :=
  let s1 := s.setAcq j 1
  ({ s1 with gnb := { s1.gnb with acqQ := s1.gnb.acqQ ++ [j] } } : State).runAcq

/-- A job leaves the queue with a status, and the next one runs. -/
def State.leaveAcq (s : State) (j st : Nat) : State :=
  let s1 := s.setAcq j st
  ({ s1 with gnb := { s1.gnb with
    acqQ := s1.gnb.acqQ.erase j
    acqRun := if s.gnb.acqQ.head? = some j then none else s1.gnb.acqRun } } : State).runAcq

/-- A queued or running job ends as CANCELLED (R134). -/
def State.cancelAcq (s : State) (j : Nat) : State := if s.gnb.acqQ.contains j then s.leaveAcq j 4 else s

/-- A sample goes to the running LIVE job; the engine copies them to the staging area in blocks of 64 bytes (R33, R133). -/
def State.acqSample (s : State) : State :=
  match s.gnb.acqQ, s.gnb.acqRun with
  | j :: _, some r =>
    let f := s.jobFe j
    match (s.fe f).now with
    | none => s
    | some y =>
      if s.on .ACQ_CFG 28 j ∨ s.jobNeed j ≤ r.n then s
      else
        let c := s.fl .ACQ_CFG 7 0 j
        let n := (s.fe f).scnt
        let buf := r.buf ++ [BitVec.ofNat 8 y]
        let done := decide (s.jobNeed j ≤ r.n + 1)
        let out := done || decide (64 ≤ buf.length)
        let s1 := if out then s.memWrite 4 (s.inForce .ACQ_STAGE + (r.n + 1 - buf.length)) buf else s
        let r1 : AcqRun := { r with
          first := some (r.first.getD (n, (s.chan c).phaseAt n % s.codeLen c)), n := r.n + 1
          buf := if out then [] else buf, full := if done then some s.gau.l else none }
        { s1 with gnb := { s1.gnb with acqRun := some r1 } }
  | _, _ => s

/-- A cell of the search (R133): code phase in 1/4 chip, twice the Doppler in Hz, power. -/
structure AcqCell where
  code : Nat
  dop2 : Int
  pw : Nat
  deriving DecidableEq, Repr

/-- The grid of job j over its samples (R133). -/
def State.acqCells (s : State) (j : Nat) (xs : List Byte) : List AcqCell :=
  let bins := s.fl .ACQ_DOP 15 8 j
  let step : Int := s.fl .ACQ_DOP 7 0 j * 25
  (List.range bins).flatMap fun i =>
    let d2 := 2 * sext 16 (s.fl .ACQ_DOP 31 16 j) + (2 * (i : Int) - (bins - 1)) * step
    (List.range (4 * (gnssSignal (s.jobSig j)).chips)).map fun q =>
      ⟨q, d2, (Config.cellPower (s.jobSig j, s.jobPrn j, s.inForce .FE_FS (s.jobFe j), sext 32 (s.inForce .FE_IF (s.jobFe j)),
        s.fl .ACQ_INT 7 0 j, s.fl .ACQ_INT 15 8 j) xs q d2).toNat⟩

/-- The best cell of a list: the first of those with the greatest power. -/
def bestCell : List AcqCell → Option AcqCell
  | [] => none
  | x :: r => match bestCell r with
    | none => some x
    | some y => some (if x.pw < y.pw then y else x)

/-- The distance of two code phases of a code of `len`, both in 2^-32 chip, the short way round. -/
def codeDist (len a b : Nat) : Nat := min ((a + len - b) % len) ((b + len - a) % len)

/-- What a job reports: code phase, twice the Doppler, peak, second and the sum of all powers with its number (R134). A monitor job looks for
the peak within 1.5 chips of `mon`, the monitored channel's code phase. -/
def acqReport (len : Nat) (cells : List AcqCell) (mon : Option Nat) : Option (AcqCell × Nat × Nat × Nat) :=
  let near (a : Nat) (x : AcqCell) : Bool := decide (codeDist len (x.code * 2 ^ 30) a ≤ 3 * 2 ^ 31)
  let field := match mon with
    | some ph => cells.filter (near ph)
    | none => cells
  (bestCell field).map fun b =>
    (b, ((bestCell (cells.filter fun x => !near (b.code * 2 ^ 30) x)).map AcqCell.pw).getD 0, (cells.map AcqCell.pw).sum, cells.length)

/-- The nanoseconds that the engine needs for the cells of job j, at 4 × 10^9 cells per second (R133). -/
def State.acqEval (s : State) (j : Nat) : Nat :=
  (gnssSignal (s.jobSig j)).chips * s.fl .ACQ_DOP 15 8 j * s.fl .ACQ_INT 7 0 j * s.fl .ACQ_INT 15 8 j

/-- The local time from which the running job may be done, its setup of at most 50 µs left out; none while its samples are awaited. -/
def State.acqReady (s : State) : Option Nat :=
  match s.gnb.acqQ, s.gnb.acqRun with
  | j :: _, some r => (if s.on .ACQ_CFG 28 j then some r.since else r.full).map fun t => t + s.acqEval j
  | _, _ => none

/-- The FE_SCNT of the first sample of a SWATCH job, where SWADDR is a part of the last swatch: else a free value. -/
def State.swadrScnt (s : State) (a : Nat) : Nat × State :=
  let w := s.gnb.sw
  let fs := (List.range 4).filter fun f => bitOn w.mask f
  match ((List.range fs.length).find? fun k => w.base + 4096 + k * w.part * 1024 = a) with
  | some k => match (w.ports.get (fs.getD k 0) SwPort.reset).first with
    | some x => (x.1, s)
    | none => s.draw 64
  | none => s.draw 64

/-- The running job completes with its results (R134, R140); one whose samples come back poisoned ends in ERROR (R372). The roundings of
RES_DOP and RES_NOISE are not given: each is one of the two integers next to the value. -/
def State.acqDone (s : State) : State :=
  match s.gnb.acqQ, s.gnb.acqRun with
  | j :: _, some r =>
    let sw := s.on .ACQ_CFG 28 j
    let rd := s.memRead 4 (if sw then s.inForce .ACQ_SWADDR j else s.inForce .ACQ_STAGE) (s.jobNeed j)
    let c := s.fl .ACQ_CFG 7 0 j
    let f : (Nat × Nat) × State := match r.first with
      | some x => (x, rd.2.2)
      | none =>
        let n := rd.2.2.swadrScnt (s.inForce .ACQ_SWADDR j)
        ((n.1, (s.chan c).phaseAt n.1 % s.codeLen c), n.2)
    let tell (t : State) (st : Nat) : State := (t.leaveAcq j st).deliver (s.fl .ACQ_TS 3 0 j) 3 ⟨0x3A, j, [w32 st]⟩
    let mon := s.on .ACQ_CFG 29 j
    if rd.2.1 then tell f.2 5
    else match acqReport ((gnssSignal (s.jobSig j)).chips * 2 ^ 32) (s.acqCells j rd.1) (if mon then some f.1.2 else none) with
      | none => tell f.2 5
      | some (b, second, sum, num) =>
        let u := f.2.draw 1
        let v := u.2.draw 1
        let dop := floorDiv (b.dop2 + u.1) 2
        let noise := if sum % num = 0 then sum / num else sum / num + v.1
        let s1 := (((((v.2.setHw .ACQ_RES_SCNT 63 0 f.1.1 j).setHw .ACQ_RES_CODE 31 0 b.code j).setHw
          .ACQ_RES_DOP 31 0 (wrapTo 32 dop).toNat j).setHw .ACQ_RES_PEAK 31 0 b.pw j).setHw .ACQ_RES_SECOND 31 0
          second j).setHw .ACQ_RES_NOISE 31 0 noise j
        let s2 := tell s1 3
        if mon ∧ b.pw * s.fl .GNS_IND_CTL 23 16 ≤ second * 16 then s2.indSet 1 else s2
  | _, _ => s

/-! ### The measurement latch (R135 to R138) -/

/-- A Gauge instant with GNS mod (PER × 10^6) = 0 that was not taken before is passed at this edge (R135, R51). -/
def State.latchDue (s : State) : Bool :=
  let per := s.fl .GNS_LATCH 9 0 * 1000000
  s.on .GNS_CTL 31 && !s.flt.halt && s.atPeriod per
    && !(s.gnb.taken.any fun r => decide (r.1 ≤ s.lastGrid per ∧ s.lastGrid per ≤ r.2.1)
      && decide (Int.emod (s.lastGrid per - r.1) r.2.2 = 0))

/-- The latch instants that the present edge takes: the one that it passes, or all that a forward step carries the Gauge past (R135). -/
def State.taking (s : State) : List (Int × Int × Nat) :=
  let per := s.fl .GNS_LATCH 9 0 * 1000000
  let b := s.lastGrid per
  match s.gau.prev with
  | some p =>
    if s.stepped ∧ p < s.gau.g then (((p / 2 ^ 40 / per + 1) * per : Nat), b, per) :: s.gnb.taken
    else match s.gnb.taken with
      | (x, y, d) :: r => if d = per ∧ b = y + per then (x, b, d) :: r else (b, b, per) :: s.gnb.taken
      | [] => [(b, b, per)]
  | none => (b, b, per) :: s.gnb.taken

/-- Port f is running (R123). -/
def State.feRuns (s : State) (f : Nat) : Bool := decide ((s.fe f).st = 1) && s.feOn f

/-- The SCNT, VALID and SOFS of a port in a latch or swatch header, with its sample where there is one (R137). -/
def portBytes (valid : Bool) (x : Option (Nat × Nat)) : List Byte :=
  bytesLE 6 (x.getD (0, 0)).1 ++ bytesLE 2 (bit1 valid 15 + (x.getD (0, 0)).2 % 2 ^ 15)

/-- The channel's latch entry is valid (R136). -/
def State.chValid (s : State) (c : Nat) : Bool :=
  decide ((s.chan c).st = .tracking ∨ (s.chan c).st = .coast) && s.feRuns (s.chFe c)

/-- The entry of channel c in a latch bank, at sample n of its port (R137). -/
def State.entryBytes (s : State) (n c : Nat) (valid : Bool) : List Byte :=
  let x := s.chan c
  let ph := x.phaseAt n % s.codeLen c
  if valid then
    bytesLE 4 (2 ^ 31 + bit1 (decide (x.st = .coast)) 30 + bit1 (s.isPair c) 29 + s.chFe c * 2 ^ 27
        + s.chPrn c * 2 ^ 16 + s.chSig c * 2 ^ 12)
      ++ bytesLE 4 ph ++ bytesLE 2 (ph / 2 ^ 32) ++ bytesLE 2 0 ++ bytesLE 4 (s.epochsAt c n)
      ++ bytesLE 8 (wrapTo 64 (x.carrAt n)).toNat ++ bytesLE 4 x.rw ++ bytesLE 4 x.cw
  else
    bytesLE 4 (bit1 (s.isPair c) 29 + s.chFe c * 2 ^ 27 + s.chPrn c * 2 ^ 16 + s.chSig c * 2 ^ 12) ++ bytesLE 28 0

/-- The values of the present edge (R137). -/
def State.edgeHead (s : State) (stepped : Bool) : EdgeHead :=
  ⟨s.gfr, s.gns, s.busBound, s.busSt.code, stepped, s.gnb.biasSeq % 2 ^ 16, s.gau.l⟩

/-- Bytes 0 to 23 of a latch bank or swatch header with number `ln` (R137, R139). -/
def headBytes (ln : Nat) (h : EdgeHead) : List Byte :=
  bytesLE 4 ln ++ bytesLE 4 h.gfr ++ bytesLE 8 h.gns ++ bytesLE 4 h.bound
    ++ bytesLE 4 (h.st * 2 ^ 30 + bit1 h.stepped 29 + h.bias)

/-- The code-carrier difference of a channel between two latches exceeds CC_TH (R140). Over `d` samples, both
changes are taken as time with the common denominator FS × rate × carrier. -/
def State.codeCarr (s : State) (c n n0 : Nat) (code code0 : Nat) (car car0 : Int) : Bool :=
  let g := gnssSignal (s.chSig c)
  let fs : Int := s.chFs c
  let d : Int := (n : Int) - n0
  let ifr : Int := sext 32 (s.inForce .FE_IF (s.chFe c))
  let x : Int := (((code : Int) - code0) * fs - d * g.rate * (2 ^ 32 : Nat)) * g.carrier
  let y : Int := ((car - car0) * fs - d * ifr * (2 ^ 32 : Nat)) * g.rate
  decide (s.fl .GNS_IND_TH 31 16 * (fs.natAbs * g.rate * g.carrier * 2 ^ 32) < (x - y).natAbs * 10 ^ 9)

/-- A channel's values at its latch sample n are kept for the next latch; the second part tells that CODECARR counts it. -/
def State.keepLatch (s : State) (ln n c : Nat) : State × Bool :=
  let x := s.chan c
  let bad : Bool := match x.prev with
    | some (k, n0, p0, r0) => decide ((k + 1) % 2 ^ 32 = ln) && s.codeCarr c n n0 (x.phaseAt n) p0 (x.carrAt n) r0
    | none => false
  (s.setChan c { x with prev := some (ln, n, x.phaseAt n, x.carrAt n) }, bad)

/-- A bias or GNS_SYS takes a new value at a latch (R138). -/
def State.biasStep (s : State) : State :=
  let s1 := s.boundary .latch
  let changed : Bool := (List.range 13).any (fun k => s1.inForce .GNS_BIAS k != s.inForce .GNS_BIAS k)
    || s1.inForce .GNS_SYS != s.inForce .GNS_SYS
  if changed then { s1 with gnb := { s1.gnb with biasSeq := (s1.gnb.biasSeq + 1) % 2 ^ 16 } } else s1

/-- The latch sample of a channel (R136). -/
def State.latchChan (n : Nat) (s : State) (c : Nat) : State :=
  match s.gnb.latch with
  | none => s
  | some r =>
    if s.chValid c then
      let e := s.entryBytes n c true
      let k := s.keepLatch r.ln n c
      { k.1 with gnb := { k.1.gnb with latch := some { r with entries := r.entries.set c e, bad := r.bad + k.2.toNat } } }
    else if (s.chan c).prev.isSome then s.setChan c { s.chan c with prev := none } else s

/-- Port f in a latch in progress: its latch sample, or that it runs no longer (R123, R136). -/
def State.latchPort (s : State) (f : Nat) : State :=
  match s.gnb.latch with
  | none => s
  | some r =>
    if ¬ r.waits.contains f then s
    else if ¬ s.feRuns f then { s with gnb := { s.gnb with latch := some { r with waits := r.waits.erase f } } }
    else if (s.fe f).now.isNone then s
    else
      let n := (s.fe f).scnt
      let r1 : LatchRun := { r with waits := r.waits.erase f, ports := r.ports.set f (n % 2 ^ 48, s.gau.l - r.head.l) }
      (s.chansOn f).foldl (State.latchChan n) { s with gnb := { s.gnb with latch := some r1 } }

/-- The bytes of a latch bank (R137). -/
def State.bankBytes (s : State) (r : LatchRun) : List Byte :=
  headBytes r.ln r.head ++ ((List.range 4).flatMap fun f =>
      portBytes (r.ports.find? fun p => p.1 == f).isSome ((r.ports.find? fun p => p.1 == f).map fun p => p.2))
    ++ bytesLE 8 0 ++ ((List.range 192).flatMap fun c => match r.entries.find? fun p => p.1 == c with
      | some p => p.2
      | none => s.entryBytes 0 c false) ++ bytesLE 4 r.ln

/-- A latch whose samples have all come is written to its bank, and its message goes out (R136, R140). -/
def State.closeLatch (s : State) : State :=
  match s.gnb.latch with
  | none => s
  | some r =>
    if r.waits = [] then
      let s1 : State := { s with gnb := { s.gnb with latch := none, banks := s.gnb.banks.set (r.ln % 2) (s.bankBytes r) } }
      let s2 := (s1.deliver (s.fl .GNS_CTL 11 8) 3 ⟨0x39, 0, [w32 r.ln]⟩).pmcEv 64 127 3
      if s.fl .GNS_IND_CTL 31 24 ≤ r.bad ∧ r.bad ≠ 0 then s2.indSet 2 else s2
    else s

/-- The samples of the present edge in a latch in progress (R136). -/
def State.fillLatch (s : State) : State := ((List.range 4).foldl State.latchPort s).closeLatch

/-- The measurement latch at its edge (R135 to R138). -/
def State.latchOp (s : State) : State :=
  let ln := if s.gnb.first then 0 else (s.gnb.ln + 1) % 2 ^ 32
  let s1 := s.biasStep
  ({ s1 with gnb := { s1.gnb with
    ln := ln, first := false, taken := s.taking
    latches := ((ln, s.g32, s.gau.l) :: s1.gnb.latches).take 16
    latch := some ⟨ln, s1.edgeHead s.stepped, [], [], (List.range 4).filter s.feRuns, 0⟩ } } : State).fillLatch

/-! ### Swatch (R139) -/

/-- The ports of a mask. -/
def swPorts (mask : Nat) : List Nat := (List.range 4).filter fun f => bitOn mask f

/-- The KiB of one port's part of a swatch of LEN KiB. -/
def swPart (mask len : Nat) : Nat := if swPorts mask = [] then 0 else (len - 4) / (swPorts mask).length

/-- The refusal of a swatch GO with FEMASK as in `v` (R139). -/
def State.judgeSwatch (s : State) (femask : Nat) : Code :=
  let part := swPart femask (s.fl .SW_LEN 23 0)
  if s.gnb.swSt = 1 ∨ s.gnb.swSt = 2 then .busy
  else if part = 0 ∨ 65535 < part then .range
  else .none

/-- A released swatch GO: PENDING, or LATE (R139). -/
def State.goSwatch (s : State) : State :=
  let d : Int := (s.inForce .SW_AT : Int) - s.gns
  let mask := s.fl .SW_CTL 3 0
  { s with gnb := { s.gnb with
    swSt := if 2000 ≤ d ∧ d ≤ (2 ^ 39 : Nat) then 1 else 6, swKib := 0
    sw := { Swatch.reset with mask := mask, at_ := s.inForce .SW_AT, base := s.inForce .SW_BASE, part := swPart mask (s.fl .SW_LEN 23 0) } } }

/-- Port f in the running swatch. -/
def State.swPort (s : State) (f : Nat) : SwPort := s.gnb.sw.ports.get f SwPort.reset

/-- The swatch becomes `w`. -/
def State.setSw (s : State) (w : Swatch) : State := { s with gnb := { s.gnb with sw := w } }

/-- The bytes that port f waits to write go to its part (R139). -/
def State.flushSw (s : State) (f : Nat) : State :=
  let w := s.gnb.sw
  let x := s.swPort f
  (s.setSw { w with ports := w.ports.set f { x with buf := [] } }).memWrite 3
    (w.base + 4096 + (swPorts w.mask).findIdx (fun k => k = f) * w.part * 1024 + (x.n - x.buf.length)) x.buf

/-- The 64 bytes of the header of a swatch (R139): with the samples per port in units of 1,024 where `counts` says so. -/
def State.swHeader (s : State) (counts : Bool) : List Byte :=
  let w := s.gnb.sw
  headBytes 0xFFFFFFFF w.head ++ ((List.range 4).flatMap fun f => portBytes (s.swPort f).first.isSome (s.swPort f).first)
    ++ (List.range 4).flatMap fun f => bytesLE 2 (if counts then (s.swPort f).n / 1024 else 0)

/-- The capture of a PENDING swatch begins at the due edge of AT (R139). -/
def State.beginSwatch (s : State) : State :=
  { s with gnb := { s.gnb with swSt := 2, swKib := 0, sw := { s.gnb.sw with head := s.edgeHead false, ports := [], stuck := false } } }

/-- The KiB that every port of the swatch has written at least. -/
def State.swWritten (s : State) : Nat :=
  match (swPorts s.gnb.sw.mask).map fun f => (s.swPort f).n / 1024 with
  | [] => 0
  | x :: r => r.foldl min x

/-- A sample of port f goes into a running swatch; with its first sample the header goes out (R139). -/
def State.swTake (s : State) (f : Nat) : State :=
  let w := s.gnb.sw
  let x := s.swPort f
  match (s.fe f).now with
  | none => s
  | some y =>
    if w.stuck ∨ ¬ bitOn w.mask f ∨ w.part * 1024 ≤ x.n then s
    else if x.buf.length = 63 ∧ Config.swatchBacklog < (s.mem.txs.filter fun t => t.req = 3).length then s.setSw { w with stuck := true }
    else
      let first := x.first.isNone
      let x1 : SwPort := { first := some (x.first.getD ((s.fe f).scnt % 2 ^ 48, s.gau.l - w.head.l)), n := x.n + 1, buf := x.buf ++ [BitVec.ofNat 8 y] }
      let s1 := s.setSw { w with ports := w.ports.set f x1 }
      let s2 := if x1.buf.length = 64 then s1.flushSw f else s1
      let s3 : State := { s2 with gnb := { s2.gnb with swKib := s2.swWritten } }
      if first then s3.memWrite 3 w.base (s3.swHeader false) else s3

/-- The samples of the present edge go into a running swatch. -/
def State.swSample (s : State) : State := if s.gnb.swSt = 2 then (List.range 4).foldl State.swTake s else s

/-- Every part of the swatch is full (R139). -/
def State.swFull (s : State) : Bool := (swPorts s.gnb.sw.mask).all fun f => decide (s.gnb.sw.part * 1024 ≤ (s.swPort f).n)

/-- A swatch ends with a state; what the ports still hold is written, then the header with the counts (R139). -/
def State.endSwatch (s : State) (st : Nat) : State :=
  let s1 := (swPorts s.gnb.sw.mask).foldl State.flushSw s
  let kib := s.swWritten
  (({ s1 with gnb := { s1.gnb with swSt := st, swKib := kib } } : State).memWrite 3 s.gnb.sw.base (s1.swHeader true)).pmcEv 64 127 5 kib

/-- An abort of a swatch in progress (R139). -/
def State.abortSwatch (s : State) : State :=
  match s.gnb.swSt with
  | 1 => { s with gnb := { s.gnb with swSt := 4 } }
  | 2 => s.endSwatch 4
  | _ => s

/-- EN = 0: every channel stops, the latch stops, a swatch is aborted, every job is cancelled (chapter 6, Registers). -/
def State.gnsStop (s : State) : State :=
  let s0 := (s.moveChans (List.range 192) .stopped).abortSwatch
  let s1 : State := { s0 with gnb := { s0.gnb with latch := none } }
  s1.gnb.acqQ.foldl (fun t j => t.cancelAcq j) s1

/-! ### The commands -/

/-- FE_CLOCK_LOST (R123): no clock edge for 1 µs. -/
def execFeClockLost (f : Fin 4) (s : State) : Res :=
  .next (if s.feOn f ∧ s.clockGone f then (s.setFe f { s.fe f with gone := true }).feDeclare f 2 else s)

/-- FE_SECOND (R123, R140): once at a t_sec. -/
def execFeSecond (f : Fin 4) (_ _ : Unit) (s : State) : Res :=
  .next (if s.feOn f ∧ s.atSec ∧ s.fresh (0x1F0 + f.val) then (s.fire (0x1F0 + f.val)).feSecondOp f else s)

/-- The bytes received, as GNS_SPI_RX returns them: the first of LEN in the high byte. What the other bytes read is not stated: a free
value. -/
def State.spiRx (s : State) (rx : Nat) : Nat × State :=
  let low := 64 - 8 * s.fl .GNS_SPI_CTL 19 16
  let d := s.draw low
  (rx / 2 ^ low * 2 ^ low + d.1, d.2)

/-- SPI_DONE (R125): once the last bit has been sent. -/
def execSpiDone (rx : DWord) (s : State) : Res :=
  .next (if s.gnb.spiBusy ∧ s.gnb.spiEnd ≤ s.gau.l then
    let r := s.spiRx rx.toNat
    ({ r.2 with gnb := { r.2.gnb with spiBusy := false } } : State).setHw .GNS_SPI_RX 63 0 r.1
      |>.setHw .GNS_SPI_CTL 30 30 1
  else s)

/-- START (R130). -/
def execStart (n : Fin 16) (c : Fin 192) (codeNco carrNco : Word) (ph : BitVec 48) (scnt : DWord) (s : State) : Res :=
  .next (if s.runs n then s.startMsg c codeNco.toNat carrNco.toNat ph.toNat scnt.toNat else s)

/-- STOP (R130). -/
def execStop (n : Fin 16) (c : Fin 192) (s : State) : Res := .next (if s.runs n then s.stopChan c else s)

/-- CHANNEL_TRACK (R130): at the sample whose FE_SCNT equals START_SCNT. -/
def execChannelTrack (c : Fin 192) (s : State) : Res :=
  .next (if s.trackDue c then s.setChan c { s.chan c with st := .tracking, epoch := 0, acc := [], sat := false } else s)

/-- UPDATE (R131). -/
def execUpdate (n : Fin 16) (c : Fin 192) (codeNco carrNco : Word) (s : State) : Res :=
  .next (if s.runs n then s.updateMsg n c codeNco.toNat carrNco.toNat else s)

/-- DUMP_BOUNDARY (R129, R132). -/
def execDumpBoundary (c : Fin 192) (_ _ _ : Unit) (s : State) : Res := .next (if s.dumpDue c then s.dumpOp c else s)

/-- ACQ_JOB_DONE (R134): the engine has its samples and has had the time for its cells. -/
def execAcqJobDone (_ : Unit) (s : State) : Res :=
  .next (if s.acqReady.any (fun t => decide (t ≤ s.gau.l)) then s.acqDone else s)

/-- MEASUREMENT_LATCH (R135): taken once at each edge at which it is due. -/
def execMeasurementLatch (_ : Unit) (s : State) : Res :=
  .next (if s.latchDue ∧ s.fresh 0x100 then (s.fire 0x100).latchOp else s)

/-- SWATCH_START (R139): at the due edge of AT. -/
def execSwatchStart (_ : Unit) (s : State) : Res := .next (if s.gnb.swSt = 1 ∧ s.due40 s.gnb.sw.at_ then s.beginSwatch else s)

/-- SWATCH_END (R139): DONE when every part is full, OVERFLOW when a sample could not be written. -/
def execSwatchEnd (_ _ : Unit) (s : State) : Res :=
  .next (if s.gnb.swSt = 2 ∧ s.gnb.sw.stuck = true then s.endSwatch 5
    else if s.gnb.swSt = 2 ∧ s.swFull = true then s.endSwatch 3
    else s)

/-- Indicator bits 8 to 15 are set (R140). -/
def State.setInd (s : State) (b : Nat) : State :=
  (s.setHw .GNS_IND_STAT 15 8 (bits (s.hwOf .GNS_IND_STAT) 15 8 ||| b)).indCheck
/-- Indicator bits 8 to 15 are cleared. -/
def State.clrInd (s : State) (b : Nat) : State :=
  (s.setHw .GNS_IND_STAT 15 8 (bits (s.hwOf .GNS_IND_STAT) 15 8 &&& (255 - b))).indCheck

/-- SETIND (R140). -/
def execSetind (n : Fin 16) (b : Byte) (s : State) : Res := .next (if s.runs n then s.setInd b.toNat else s)

/-- CLRIND (R140). -/
def execClrind (n : Fin 16) (b : Byte) (s : State) : Res := .next (if s.runs n then s.clrInd b.toNat else s)

/-- INDICATOR_CLEAR (R140): at a t_sec, HOLD seconds after the condition was last present. -/
def execIndicatorClear (b : Fin 4) (s : State) : Res :=
  .next (match s.gnb.ind.get b (false, 0) with
    | (true, t) =>
      if s.atSec ∧ t < s.gau.l ∧ t + s.fl .GNS_IND_CTL 15 0 * 1000000000 ≤ s.gau.l then
        ({ s with gnb := { s.gnb with ind := s.gnb.ind.set b (false, 0) } } : State).indCheck
      else s
    | _ => s)

end Sys2Proof.Machine
end

