-- ==== Sys2Proof/Machine/TimeRows.lean ====
section
/-! DEFINITION. The commands of the time blocks that no write gate holds: the Gauge and its guard (chapter 2), selection
(chapter 3), holdover and outputs (chapter 4). -/

namespace Sys2Proof.Machine

/-! ### The Gauge (R39, R46 to R50, R54, R58) -/

/-- HEARTBEAT_TIMEOUT (R39). -/
def execHeartbeatTimeout (s : State) : Res :=
  .next (if s.gau.st = .locked ∧ s.on .GAU_CTL 0 ∧ s.gau.hbAt + s.fl .GAU_HB_MAX 13 0 * 1000000 ≤ s.gau.l then
    s.enterHoldover 2
  else s)

/-- One more millisecond of HOLDOVER (R54, R85). DEDUCED: m counts at the Gauge milliseconds as n does, so the first after the start of
ageing counts as a whole one (log 126). -/
def State.msTick (s : State) : State :=
  let s1 : State := { s with gau := { s.gau with n := min (2 ^ 32 - 1) (s.gau.n + 1) } }
  let s2 : State := { s1 with gau := { s1.gau with bound := s1.hoBound } }
  (if s2.hld.ageing then s2.ageUpdate (s2.hld.m + 1) else s2).squelch

/-- HOLDOVER_MS_TICK (R54). -/
def execHoldoverMsTick (s : State) : Res :=
  .next (if s.atMs ∧ s.gau.st = .holdover ∧ s.fresh 0x20 then (s.fire 0x20).msTick else s)

/-- WITNESS_RELEASE (R48). -/
def execWitnessRelease (s : State) : Res := .next s.witnessTest

/-- HOLD_EXPIRY (R49). -/
def execHoldExpiry (s : State) : Res :=
  .next (match s.gau.held with
    | none => s
    | some h => if h.at_ + s.fl .GAU_GUARD 27 16 * 1000000000 ≤ s.gau.l then s.dropHeld 7 else s)

/-- A published offset of a witness against the selected candidate lies within STEP_AGREE (R50). -/
def State.witnessNear (s : State) : Bool := s.agrees s.sel.sel ((s.sel.sel.map s.igrp).getD 0) 0

/-- A breach opens, and a correction held at this very edge is discarded (R50). -/
def State.openBreach (s : State) : State :=
  let s1 := (s.dropHeld 12).enterHoldover 5
  { s1 with gau := { s1.gau with breach := true, stepSeq := (s1.gau.stepSeq + 1) % 2 ^ 16, stepCode := 14 } }

/-- GUARD_BREACH (R50). -/
def execGuardBreach (s : State) : Res :=
  .next (if s.breachNow then (if s.witnessNear then s.restart else s.openBreach) else s)

/-- BREACH_WITNESS_CLOSE (R50). -/
def execBreachWitnessClose (s : State) : Res :=
  .next (if s.gau.breach ∧ s.witnessNear then s.closeBreach 5 else s)

/-- GUARD_WINDOW_RESTART (R46). -/
def execGuardWindowRestart (s : State) : Res :=
  .next (if s.windowDue ∧ s.fresh 0x23 then (s.fire 0x23).restart else s)

/-- The present edge is the first at or after GNS `t`. -/
def State.atGns (s : State) (t : Nat) : Bool :=
  s.gau.running && decide (t ≤ s.gns) && match s.gau.prev with
    | none => true
    | some q => decide (q / 2 ^ 40 < t)

/-- LEAP_SECOND (R58). -/
def execLeapSecond (s : State) : Res :=
  let up := s.on .GAU_UTC 17
  let down := s.on .GAU_UTC 18
  .next (if (up ∨ down) ∧ s.atGns (s.inForce .GAU_LEAP_AT) then
    let o := (s.fl .GAU_UTC 15 0 + (if up then 1 else 65535)) % 65536
    (s.setFl .GAU_UTC 15 0 o).setFl .GAU_UTC 18 17 0
  else s)

/-! ### Selection (R65 to R82) -/

/-- The local time and the own time of the observation that a post for CAND9 makes: the latch that it names, and the GNS of that latch
with the posted offset (R65). -/
def State.gnssObs (s : State) (p : Post) : Option (Nat × Int) :=
  (s.gnb.latches.find? fun x => x.1 == p.ln).map fun x => (x.2.2, ((x.2.1 / 2 ^ 32 * 2 ^ 32 : Nat) : Int) + p.delta)

/-- CANDIDATE_OBSERVATION (R65 to R67): the DIV-th edge or a mark of an edge or mark candidate, as TDC_EDGE counts them too. The posts, the
Syncs and the millisecond markers are the observations of the others, and nothing else is (R61). -/
def execCandidateObservation (k : Fin 30) (_ : Unit) (s : State) : Res := .next (if ownTime k then s else s.edgeObs k)

/-- CANDIDATE_LOSS (R66). -/
def execCandidateLoss (k : Fin 30) (s : State) : Res :=
  .next (if s.lost k then ((s.disqualify k 1 .nosig []).determine) else s)

/-- SEL_SECOND (R68, R69, R78, R140): histories, frequency tests, disputes and the DRIFT test, then the determination of each
t_sec. -/
def execSelSecond (s : State) : Res :=
  .next (if s.atSec ∧ s.fresh 0x22 then
    ((((List.range 30).foldl State.candSecond (s.fire 0x22)).disputes).driftTest.indCheck).determine
  else s)

/-- CANDIDATE_QUALIFY (R71). -/
def execCandidateQualify (k : Fin 30) (s : State) : Res :=
  .next (if s.atSec ∧ s.qualifies k then s.enterQual k else s)

/-- COMMIT_REQUEST (R81). -/
def execCommitRequest (s : State) : Res :=
  .next (match s.sel.txn with
    | none => s
    | some t =>
      if t.req.isNone ∧ t.at_ + t.align * 1000000000 ≤ s.gau.l then
        let s1 : State := { s with sel := { s.sel with txn := some { t with req := some s.gau.l } } }
        if s.warden.down then s1.refuseUnrecorded (s.entry (.commit t.num t.target) .hardware) .wardenDown
        else s1.enqueue (.commit t.num t.target) .hardware
      else s)

/-- COMMIT_AUDIT_TIMEOUT (R81). -/
def execCommitAuditTimeout (s : State) : Res :=
  .next (match s.sel.txn with
    | none => s
    | some t => match t.req with
      | none => s
      | some r => if r + 10000000 ≤ s.gau.l then s.outcome t 6 else s)

/-- HOSTSET_QUALIFY (R72). -/
def execHostsetQualify (s : State) : Res :=
  .next (match (s.cand 30).hostAt with
    | none => s
    | some t =>
      if s.atSec ∧ t < s.gau.l ∧ (s.cand 30).st ≠ .off ∧ (s.cand 30).st ≠ .qual then s.enterQual 30 else s)

/-- SEL takes no post or DISQ for this candidate (R70, R73). -/
def State.deaf (s : State) (k : Nat) : Bool := decide (30 ≤ k ∨ (s.cand k).st = .off)

/-- The latch that a post for CAND9 names is among the sixteen latest (R136). -/
def State.latchKnown (s : State) (ln : Nat) : Bool := s.gnb.latches.any fun x => x.1 == ln

/-- A post (R73, R74, R136), which for CAND9 is an observation at the latch that it names (R61, R65); a correction that is held is
tested against the new offset (R48). -/
def State.postOp (s : State) (k : Nat) (p : Post) : State :=
  if s.deaf k ∨ ¬ s.isTime k ∨ (k = 9 ∧ ¬ s.latchKnown p.ln) then s
  else
    let s1 := s.holdPost k p
    let s2 := match (if k = 9 then s.gnssObs p else none) with
      | none => s1
      | some (e, t) => s1.observe 9 e (some t)
    s2.witnessTest

/-- POST (R73). -/
def execPost (n : Fin 16) (slot : Fin 32) (delta : TWord) (u bc : Word) (meas : DWord) (ln : Word) (s : State) : Res :=
  .next (if s.runs n then
    s.postOp slot ⟨delta.toInt, u.toNat, bc.toNat, ((meas.toNat * 2 ^ 32 : Nat) : Int), ln.toNat⟩
  else s)

/-- A DISQ message (R70). -/
def State.disqOp (s : State) (k : Nat) : State :=
  if s.deaf k ∨ (s.cand k).st = .nosig then s else s.disq k 6

/-- DISQ (R70). -/
def execDisq (n : Fin 16) (slot : Fin 32) (s : State) : Res :=
  .next (if s.runs n then s.disqOp slot else s)

/-- POST_LIFETIME_EXPIRY (R74): what is published follows from the age of the post (`State.published`), so the expiry
changes nothing that is stored. -/
def execPostLifetimeExpiry (_k : Fin 30) (s : State) : Res := .next s

/-! ### Holdover (R84, R87) -/

/-- The second that ends at this t_sec (R84). -/
def State.hldSec (s : State) : State :=
  if s.gau.st = .locked then
    let h := s.hld
    let hist := if h.whole then ((truncDiv h.sum (10 ^ 9), h.phNow) :: h.hist).take 1024 else h.hist
    let s1 : State := { s with hld := { h with hist := hist, sum := 0, whole := true, phNow := none } }
    { s1 with hld := { s1.hld with favg := s1.frozen } }
  else { s with hld := { s.hld with sum := 0, whole := false, phNow := none } }

/-- HLD_SECOND (R84). -/
def execHldSecond (s : State) : Res :=
  .next (if s.atSec ∧ s.fresh 0x21 then (s.fire 0x21).hldSec else s)

/-- ATOM_PPS_EDGE (R87). -/
def execAtomPpsEdge (s : State) : Res :=
  let ph : Int := (((s.gns + 500000000) % 1000000000 : Nat) : Int) - 500000000
  let h : Hld := { s.hld with atomPh := ph, atomAt := some s.gau.l, phNow := some ph }
  .next (if s.gau.running then
    { s with hld := if s.gau.st = .holdover ∧ h.atomRefV then { h with atomDev := ph - h.atomRef } else h }
  else s)

/-- ATOM_PPS_TIMEOUT (R87). -/
def execAtomPpsTimeout (s : State) : Res :=
  .next (if s.atomV then s else { s with hld := { s.hld with atomAt := none } })

/-! ### Outputs (R94, R97 to R106) -/

/-- 2 µs have passed since a release at local time `t`. -/
def State.rested (s : State) (t : Nat) : Bool := decide (t + 2000 ≤ s.gau.l)

/-- GRPC_SNAP (R94): O_C is 0 from this t_sec, at which a row starts. -/
def execGrpcSnap (s : State) : Res :=
  .next (match s.out.snap with
    | none => s
    | some t => if s.atSec ∧ s.rested t then { s with out := { s.out with oc := 0, ptc := none, snap := none } } else s)

/-- OFFSET and OFFSET_FR of output i, in 2^-40 ns. -/
def State.outOfs (s : State) (i : Nat) : Int :=
  sext 32 (s.inForce .OUT_OFFSET i) * 2 ^ 40 + (s.fl .OUT_OFFSET_FR 5 0 i * 2 ^ 34 : Nat)

/-- COMP of output i as written, in 1/64 ns. -/
def State.outComp (s : State) (i : Nat) : Int := sext 32 (s.inForce .OUT_COMP i)

/-- An edge of output i that is launched at `at_` with COMP `c` reaches the pin at least 2 µs after the release of EN = 1 (R97): an edge
between two G-clock edges is taken at the earlier one. -/
def State.armedFor (s : State) (i : Nat) (c at_ : Int) : Bool :=
  s.on .OUT_CFG 31 i && match (s.outU i).armed with
    | none => true
    | some t => decide (((t + 2000 : Nat) : Int) * 64 ≤ ((s.gau.l : Int) - (if at_ = s.outTime i then 0 else 1)) * 64 + c)

/-! #### Pulse outputs (R99) -/

/-- PER of a PPSO. -/
def State.ppsPer (s : State) (j : Nat) : Nat := s.inForce .OUT_P1 (12 + j)

/-- The launch of pulse `k` of PPSO j with COMP `c`, in 2^-40 ns of the Gauge (R99). -/
def State.ppsLaunch (s : State) (j : Nat) (k c : Int) : Int := k * (s.ppsPer j * 2 ^ 40 : Nat) + s.outOfs (12 + j) - c * 2 ^ 34

/-- The number of the last pulse that is launched by time `t`. -/
def State.ppsIdx (s : State) (j : Nat) (t : Int) : Int :=
  Int.fdiv (t - s.outOfs (12 + j) + s.outComp (12 + j) * 2 ^ 34) (s.ppsPer j * 2 ^ 40 : Nat)

/-- The pulse instant that the present edge reaches, in whole ns (R99). -/
def State.ppsInstant (s : State) (j : Nat) : Int :=
  s.ppsIdx j s.gau.g * s.ppsPer j + sext 32 (s.inForce .OUT_OFFSET (12 + j))

/-- A pulse of a PPSO is programmed for this edge and has not been emitted before (R97, R99): a step edge has one only where the stepped
value equals its instant (R51). A COMP that has changed since the last pulse applies at this one, which it makes neither late twice
nor lost. -/
def State.ppsHere (s : State) (j : Nat) : Bool :=
  let k := s.ppsIdx j s.gau.g
  let at_ := s.ppsLaunch j k (s.outComp (12 + j))
  s.gau.running && s.armedFor (12 + j) (s.outComp (12 + j)) at_ && s.fresh (0x28 + j) && !(s.outU (12 + j)).ran.has (s.ppsInstant j)
    && match s.gau.prev with
      | none => decide (at_ = s.gau.g)
      | some p =>
        if s.stepped then decide (at_ = s.gau.g)
        else decide ((p : Int) < at_ ∨ (p : Int) < s.ppsLaunch j k (s.outU (12 + j)).comp)

/-- The ToD message that a pulse of PPSO j gives rise to (R100). DESIGN CHOICE: NEXT is that in force at the pulse, for the whole message
(log 127). -/
def State.todFor (s : State) (i j : Nat) : TodMsg :=
  let next := s.on .OUT_CFG 24 i
  let inst := (s.ppsInstant j).toNat + (if next then s.ppsPer j else 0)
  ⟨next, s.gau.l + s.inForce .OUT_P1 i * 1000000, inst, s.busBound, s.clockClass, s.clockAcc, s.busSt.code⟩

/-- What happens to the TODs that name PPSO j (R100). -/
def State.eachTod (s : State) (j : Nat) (f : State → Nat → State) : State :=
  ([16, 17] : List Nat).foldl (fun t i => if t.on .OUT_CFG 31 i ∧ t.fl .OUT_CFG 16 15 i = j then f t i else t) s

/-- The pulse of PPSO j calls for the messages of the TODs that name it (R100). -/
def State.todsFor (s : State) (j : Nat) : State :=
  s.eachTod j fun t i => t.setOutU i { t.outU i with todDue := (t.outU i).todDue ++ [t.todFor i j] }

/-- `n` pulses of PPSO j are suppressed, and the messages that they would have triggered (R99, R100). -/
def State.suppress (s : State) (j n : Nat) : State :=
  (s.bump .OUT_SKIP 31 16 n (12 + j)).eachTod j fun t i => t.bump .OUT_SKIP 31 16 n i

/-- The trailing edge of a pulse, WIDTH G-clock edges after its leading edge (R99). -/
def State.ppsTrail (s : State) (j : Nat) : State :=
  let o := s.outU (12 + j)
  match o.until_ with
  | none => s
  | some u => if u ≤ s.gau.l then s.setPin (12 + j) { o with until_ := none } false (s.outTime (12 + j)) else s

/-- The leading edge of a pulse (R99). DESIGN CHOICE: a pulse whose instant comes while another is in progress, as after a step, is
suppressed (log 128). -/
def State.ppsLead (s : State) (j : Nat) : State :=
  let o := s.outU (12 + j)
  if o.until_.isSome then (s.fire (0x28 + j)).suppress j 1
  else
    let c := s.outComp (12 + j)
    let s1 := s.setPin (12 + j) { o with
      comp := c, until_ := some (s.gau.l + s.inForce .OUT_P2 (12 + j)), ran := o.ran.add (s.ppsInstant j) (s.ppsPer j) }
      true (s.ppsLaunch j (s.ppsIdx j s.gau.g) c)
    ((s1.fire (0x28 + j)).send (.pps j)).todsFor j

/-- PPS_PULSE (R99). -/
def execPpsPulse (j : Fin 4) (s : State) : Res :=
  let t := s.ppsTrail j
  .next (if t.ppsHere j ∧ ¬ (t.outU (12 + j)).sq then t.ppsLead j else t)

/-! #### Time-of-day outputs (R100, R101) -/

/-- One byte into CRC-16 with polynomial 0x1021 (R101), with `k` bits left. -/
def crc16Step : Nat → Nat → Nat
  | 0, c => c
  | k + 1, c => crc16Step k (if bitOn c 15 then Nat.xor (c * 2 % 65536) 0x1021 else c * 2 % 65536)

/-- CRC-16 of R101. -/
def crc16 (l : List Byte) : Nat := l.foldl (fun c b => crc16Step 8 (Nat.xor c (b.toNat * 256))) 0xFFFF

/-- A ToD message (R101). DESIGN CHOICE: the Gauge state of FLAGS is taken where BOUND, class and accuracy are, at the pulse's edge with
NEXT = 0 and at the first start bit with NEXT = 1 (log 34). -/
def State.todBytes (s : State) (i : Nat) (m : TodMsg) : List Byte :=
  let st := if m.next then s.busSt.code else m.st
  let body := bytesBE 2 0x4B54 ++ bytesBE 1 1
    ++ bytesBE 1 (bit1 m.next 7 + st * 32 + bit1 (s.on .GAU_UTC 16) 4 + bit1 (s.on .GAU_UTC 17) 3 + bit1 (s.on .GAU_UTC 18) 2)
    ++ bytesBE 6 (m.inst / 1000000000) ++ bytesBE 4 (m.inst % 1000000000) ++ bytesBE 2 (s.fl .GAU_UTC 15 0)
    ++ bytesBE 4 (if m.next then s.busBound else m.bound) ++ bytesBE 1 (if m.next then s.clockClass else m.cls)
    ++ bytesBE 1 (if m.next then s.clockAcc else m.acc) ++ bytesBE 2 (s.outU i).todSeq ++ List.replicate 6 0
  body ++ bytesBE 2 (crc16 body)

/-- The rate of a baud code (R100). -/
def baudOf (code : Nat) : Nat := [9600, 19200, 38400, 57600, 115200, 230400, 460800, 921600].getD code 115200

/-- The bits of a byte on a UART line: start bit, data with the least significant bit first, stop bit (R100). -/
def uartBits (b : Byte) : List Bool := false :: (List.range 8).map (bitOn b.toNat) ++ [true]

/-- The bits of a message that are due by now go out; after the last stop bit the message has finished (R100). -/
def State.todBits (s : State) (i : Nat) : State :=
  let o := s.outU i
  match o.txAt with
  | none => s
  | some t =>
    let n := (s.gau.l - t) * baudOf (s.fl .OUT_CFG 23 21 i) / 10 ^ 9
    match o.tx with
    | [] => if 320 ≤ n then s.setOutU i { o with txAt := none } else s
    | b :: r =>
      if 320 - o.tx.length ≤ n then s.setPin i { o with tx := r } (!b) (s.outTime i) else s

/-- The first start bit of message `m` of the TOD with index i (R100). DESIGN CHOICE: a message that is due while another is in progress
is not sent, and is counted (log 129). -/
def State.todStart (s : State) (i : Nat) (m : TodMsg) : State :=
  let o := s.outU i
  if s.squelchFull i then s
  else if o.txAt.isSome then s.bump .OUT_SKIP 31 16 1 i
  else
    let bytes := s.todBytes i m
    ((s.setOutU i { o with
      sq := false, todSeq := (o.todSeq + 1) % 65536, txAt := some s.gau.l, tx := bytes.flatMap uartBits }).send
      (.tod (i - 16) bytes)).todBits i

/-- TOD_MESSAGE (R100, R101). -/
def execTodMessage (j : Fin 2) (s : State) : Res :=
  let i := 16 + j.val
  let t := s.todBits i
  let o := t.outU i
  .next (match o.todDue with
    | [] => t
    | m :: r => if m.due ≤ t.gau.l then (t.setOutU i { o with todDue := r }).todStart i m else t)

/-! #### Word clocks (R102, R103) -/

/-- A frame period of a word clock in units of 2^-40 ns / DEN, with DEN (R102). -/
def State.wclkStep (s : State) (i : Nat) : Nat := s.inForce .OUT_P1 i * 10 ^ 9 * 2 ^ 40
def State.wclkDen (s : State) (i : Nat) : Nat := s.inForce .OUT_P2 i

/-- The least multiple of `step` at or above `x`. -/
def gridUp (x : Int) (step : Nat) : Int := -Int.fdiv (-x) step * step

/-- The first frame instant of the epoch grid at or after the present edge, in 2^-40 ns / DEN (R102). -/
def State.firstFrame (s : State) (i : Nat) : Nat := (gridUp (s.tc * s.wclkDen i) (s.wclkStep i)).toNat

/-- The frame instant that replaces the next one at a realignment (R103). -/
def State.realigned (s : State) (i : Nat) : Nat :=
  let step := s.wclkStep i
  let now := s.tc * s.wclkDen i
  let start := (s.outU i).frame + Int.fdiv (now - (s.outU i).frame) step * step
  (gridUp (start + (step + 1) / 2) step).toNat

/-- WCLK_REALIGN (R103): at the first second of T_C at least 2 µs after the release. -/
def execWclkRealign (j : Fin 2) (s : State) : Res :=
  let i := 18 + j.val
  let o := s.outU i
  .next (match o.realign with
    | none => s
    | some t =>
      if s.tcEdge 1000000000 ∧ s.rested t then s.setOutU i { o with realign := none, frame := s.realigned i } else s)

/-! #### Clocks on the pins (R97, R102) -/

/-- The frequency M/D in Hz of a clock and its offset in 2^-40 ns; of a word clock, its sample rate (R97, R102). -/
def State.clkFreq (s : State) (i : Nat) : Nat × Nat × Int :=
  if i < 12 then (s.inForce .OUT_P1 i, s.inForce .OUT_P2 i, s.outOfs i) else (fsOf (s.fl .OUT_CFG 20 18 i), 1, 0)

/-- The launch of half cycle `n` of a clock with COMP `c`, on its scale in 2^-40 ns, rounded up: even half cycles begin with a rising
edge (R97, R102). -/
def State.halfAt (s : State) (i : Nat) (n c : Int) : Int :=
  let f := s.clkFreq i
  f.2.2 - c * 2 ^ 34 - Int.fdiv (-n * (f.2.1 * (10 ^ 9 * 2 ^ 40) : Nat)) (2 * f.1 : Nat)

/-- The number of the last half cycle that is launched by time `t`. -/
def State.halfIdx (s : State) (i : Nat) (t c : Int) : Int :=
  let f := s.clkFreq i
  Int.fdiv ((t + c * 2 ^ 34 - f.2.2) * (2 * f.1 : Nat)) (f.2.1 * (10 ^ 9 * 2 ^ 40) : Nat)

/-- The time of a clock's scale at the edge before, none where the scale has jumped since; the pull of one edge is left out. -/
def State.outPrev (s : State) (i : Nat) : Option Int :=
  if 12 ≤ i then s.out.ptc
  else if s.on .OUT_CFG 30 i then (if s.stepped then none else s.gau.prev.map fun p => (p : Int))
  else if s.out.bJump then none
  else if s.stepped then some (s.outTime i)
  else s.gau.prev.map fun p => (p : Int) - s.out.ob

/-- The output is a word clock in FRAME mode. -/
def State.frameMode (s : State) (i : Nat) : Bool := decide (18 ≤ i) && s.on .OUT_CFG 17 i

/-- The frames that sample `n / 2` is the first to reach or pass, at and before it (R102). -/
def State.framesBy (s : State) (i : Nat) (n : Int) : Int :=
  let fs := fsOf (s.fl .OUT_CFG 20 18 i)
  Int.fdiv (n / 2 * (10 ^ 9 * 2 ^ 40 * s.wclkDen i : Nat) - ((s.outU i).frame * fs : Nat)) (s.wclkStep i * fs : Nat) + 1

/-- A pulse of a FRAME-mode word clock begins at sample `n / 2` (R102). -/
def State.frameHit (s : State) (i : Nat) (n : Int) : Bool := decide (0 < s.framesBy i n)

/-- The frame instant that follows those that sample `n / 2` has reached. -/
def State.frameAfterHit (s : State) (i : Nat) (n : Int) : Nat := (s.outU i).frame + (s.framesBy i n).toNat * s.wclkStep i

/-- A phase that ends at `at_` would be shorter than half its nominal length (R97). -/
def State.tooShort (s : State) (i : Nat) (at_ : Int) : Bool :=
  let f := s.clkFreq i
  decide (((s.gau.tl : Int) - (s.outTime i - at_) - (s.outU i).last) * (4 * f.1 : Nat) < (f.2.1 * (10 ^ 9 * 2 ^ 40) : Nat))

/-- The next half cycle of a clock out of squelch, where it is launched by now: COMP as written applies from a rising edge on, a clock
whose squelch condition holds ends with the cycle, and after a step of group A a phase that would be too short goes on (R97, R102,
R105). -/
def State.halfCycle (i : Nat) (s : State) : State :=
  let o := s.outU i
  match o.half with
  | none => s
  | some h =>
    let n := h + 1
    let rise := decide (n % 2 = 0)
    let c := if rise then s.outComp i else o.comp
    let at_ := s.halfAt i n c
    if s.outTime i < at_ then s
    else if rise ∧ (s.squelchFull i ∨ ¬ s.armedFor i c at_) then
      s.setPin i { o with half := none, sq := s.squelchFull i } false at_
    else
      let want := if s.frameMode i then (if rise then s.frameHit i n else o.active) else rise
      let o1 := { o with half := some n, comp := c, frame := if s.frameMode i && rise then s.frameAfterHit i n else o.frame }
      if want = o.active ∨ (o.moved ∧ s.on .OUT_CFG 30 i ∧ s.tooShort i at_) then s.setOutU i o1
      else s.setPin i { o1 with moved := false } want at_

/-- At most `k` half cycles. -/
def State.halfCycles (i : Nat) : Nat → State → State
  | 0, s => s
  | k + 1, s => State.halfCycles i k (s.halfCycle i)

/-- The half cycles that a clock may have to begin at the present edge, after half cycle `h`. -/
def State.halfFuel (s : State) (i : Nat) (h : Int) : Nat :=
  (s.halfIdx i (s.outTime i) (max (s.outComp i) (s.outU i).comp) - h).toNat

/-- The rising edge, by its half cycle, at which the schedule of a clock lets it begin at the present edge (R97, R102, R106). -/
def State.clockBegins (s : State) (i : Nat) : Option Int :=
  let c := s.outComp i
  let t := s.outTime i
  let hi := s.halfIdx i t c
  let lo := match s.outPrev i with
    | none => if s.halfAt i hi c = t then hi - 1 else hi
    | some p => s.halfIdx i p c
  ((List.range (hi - lo).toNat).map fun k => lo + 1 + (k : Int)).find? fun n =>
    decide (n % 2 = 0) && s.armedFor i c (s.halfAt i n c) && (!s.frameMode i || s.frameHit i n)

/-- After a jump of its scale a clock out of squelch follows the schedule from the present edge on (R97). -/
def State.reanchor (s : State) (i : Nat) : State :=
  let o := s.outU i
  match o.half, s.outPrev i with
  | some _, none =>
    let n := s.halfIdx i (s.outTime i) o.comp
    s.setOutU i { o with half := some (if s.halfAt i n o.comp = s.outTime i then n - 1 else n), moved := true }
  | _, _ => s

/-- The frames of a word clock begin 2 µs after its release, and go on while it is squelched (R102). -/
def State.frameGrid (s : State) (i : Nat) : State :=
  let o := s.outU i
  if s.frameMode i ∧ o.half.isNone ∧ o.armed.any s.rested then
    if o.frame = 0 then s.setOutU i { o with frame := s.firstFrame i }
    else
      let n := 2 * (s.halfIdx i (s.outTime i) (s.outComp i) / 2)
      if s.clockBegins i = none ∧ s.frameHit i n then s.setOutU i { o with frame := s.frameAfterHit i n } else s
  else s

/-- A clock leaves squelch at a rising edge of its schedule, or at a frame pulse (R106). -/
def State.clockStart (s : State) (i : Nat) : State :=
  if (s.outU i).half.isSome ∨ s.squelchFull i then s
  else match s.clockBegins i with
    | none => s
    | some n => s.setOutU i { s.outU i with half := some (n - 1), sq := false }

/-- What clock i does at the present edge (R97, R102, R105, R106). -/
def State.clockRow (s : State) (i : Nat) : State :=
  let s1 := ((s.reanchor i).frameGrid i).clockStart i
  match (s1.outU i).half with
  | none => s1
  | some h => State.halfCycles i (s1.halfFuel i h) s1

/-- The present edge is one at which the schedule of output i lets it begin (R106): a rising edge of a clock, a pulse, the first start
bit of a message. -/
def State.beginsHere (s : State) (i : Nat) : Bool :=
  if i < 12 ∨ 18 ≤ i then s.gau.running && (s.clockBegins i).isSome
  else if i < 16 then s.ppsHere (i - 12)
  else (s.outU i).todDue.any fun m => decide (m.due ≤ s.gau.l)

/-- SQUELCH_RELEASE (R106): a clock begins with its edge; a PPSO or TOD is ready for its pulse or message. -/
def execSquelchRelease (i : Fin 20) (s : State) : Res :=
  .next (if i.val < 12 ∨ 18 ≤ i.val then (if s.gau.running then s.clockRow i else s)
    else if s.squelchFull i ∨ ¬ s.beginsHere i then s
    else s.setOutU i { s.outU i with sq := false })

end Sys2Proof.Machine
end

