-- ==== Sys2Proof/Machine/HstMem.lean ====
section
/-! DEFINITION. The DMA queues, the sideband transports and external memory (chapter 16). -/

namespace Sys2Proof.Machine

/-! ### External memory (R370 to R377) -/

/-- STATE of channel c's spare. -/
def State.spareSt (s : State) (c : Nat) : Nat := s.mem.spare.get c 0

/-- The refusal of a GO (R373). -/
def State.judgeSpare (s : State) (c : Nat) : Code := if s.spareSt c = 0 then .none else .busy

/-- A scrub pass (R373): the scrubber reads every codeword and writes back every corrected one; then the next pass begins. Its traffic at
the arbiter is that of the codewords in error. -/
def State.scrub (s : State) : State :=
  let cws := s.badCws 0 s.memSize
  let t := ((cws.foldl (fun t cw => t.memPost 14 cw 16) s).readCws 14 true cws).2
  { t with mem := { t.mem with passCorr := [] } }

/-! ### DMA (R363, R364) -/

/-- The descriptors of the ring. -/
def State.dmaLen (s : State) (q : Nat) : Nat := max 1 (s.fl .DMA_RING_LEN 16 0 q)
/-- KIND of a queue. -/
def State.dmaKind (s : State) (q : Nat) : Nat := s.fl .DMA_CFG 30 28 q

/-- Queue q may take its next descriptor: enabled, one is there, and an XFER queue has completed the one before. -/
def State.dmaReady (s : State) (q : Nat) : Bool :=
  let x := s.dq q
  s.coreOn && s.hst.pcie.isSome && s.on .DMA_CFG 31 q && decide (s.dmaKind q ≠ 0)
    && decide (x.next ≠ s.fl .DMA_PROD 15 0 q % s.dmaLen q) && (decide (s.dmaKind q ≠ 3) || x.flight.isEmpty)

/-- The number of the descriptor that queue q takes. -/
def State.dmaId (s : State) (q : Nat) : Nat := (s.dq q).next

/-- Queue q takes a descriptor (R363). -/
def State.dmaTake (s : State) (q : Nat) (irq : Bool) : State :=
  let x := s.dq q
  (s.setDq q { x with flight := x.flight ++ [⟨x.next, irq, none⟩], next := (x.next + 1) % s.dmaLen q }).pmcEv 1016 1023 3

/-- The OPs that a KIND admits (R364). -/
def dmaAdmits (kind op : Nat) : Bool :=
  match kind with
  | 1 => decide (op = 1)
  | 2 => decide (op = 2)
  | 3 => decide (3 ≤ op ∧ op ≤ 6)
  | _ => false

/-- A copy to or from device DRAM waits until DRAM answers (R382). -/
def State.dramAnswers (s : State) (op : Nat) : Bool := !decide (op = 3 ∨ op = 4) || s.mem.ready || s.mem.failed

/-- A descriptor of OP `op` is taken and done by `f`, with its number; one whose OP the queue's KIND does not admit is
refused with RANGE (R364). -/
def State.dmaOp (s : State) (q : Nat) (d : Desc) (op : Nat) (f : Nat → State → State) : State :=
  if s.dmaReady q ∧ s.dramAnswers op then
    let id := s.dmaId q
    let s1 := s.dmaTake q d.irq
    if d.op.toNat = op ∧ dmaAdmits (s.dmaKind q) op then f id s1 else s1.dmaResult q id (1, Code.range.num, 0)
  else s

/-- The lengths and addresses of OP 3 to 6 are multiples of 4 (R364). -/
def aligned4 (d : Desc) : Bool := decide (d.len.toNat % 4 = 0 ∧ d.haddr.toNat % 4 = 0 ∧ d.daddr.toNat % 4 = 0)

/-- The requester of a queue (chapter 16, DMA queues). -/
def dmaReq (q : Nat) : Nat := if q < 8 then 7 else 8

/-- Bytes moved by DMA, for the counters (R354). -/
def State.dmaBytes (s : State) (n : Nat) : State := s.pmcEv 1016 1023 4 (n / 64)

/-- A TX descriptor (R364). -/
def State.dmaTxOp (s : State) (q id : Nat) (d : Desc) (frame : List Byte) : State :=
  let p := d.port.val
  if d.len.toNat < 60 ∨ s.fl .ETH_CFG 13 0 p < d.len.toNat + 4 then s.dmaResult q id (2, 0, 0)
  else (s.dmaBytes frame.length).submitFrame p
    ⟨d.tc, .raw frame, [], frame.length + 4, d.tsReq, d.oneStep, d.tag.toNat, some (q, id)⟩

/-- The next frame for an RX queue (R197): the oldest of the lowest port that has one. -/
def State.rxNext (s : State) (q : Nat) : Option (Nat × RxFrame) :=
  (List.range 8).findSome? fun p =>
    (s.rxFirst p 1 fun f => decide (s.fl .ETH_RXQ_CFG 19 16 p f.q = q)).map fun f => (p, f)

/-- An RX descriptor and the next frame for its queue (R364). A frame that does not fit is discarded and the descriptor
stays unused; so is a spilled one whose read is poisoned (R372). -/
def State.dmaRxOp (s : State) (q : Nat) (d : Desc) : State :=
  match s.rxNext q with
  | none => s
  | some (p, f) =>
    let n := 32 + f.bytes.length
    if s.dmaKind q = 2 ∧ d.op.toNat = 2 ∧ d.len.toNat < n then (s.rxLeave p f).bump .DMA_STAT 31 16 1 q
    else
      let r := if f.spilled ∧ s.dmaReady q then s.memRead 13 f.spillAt n else (bytesOfWords f.stamp ++ f.bytes, false, s)
      if r.2.1 then (r.2.2.rxLeave p f).rxDrop p f.q
      else r.2.2.dmaOp q d 2 fun id t =>
        (((t.rxLeave p f).send (.hostData q d.haddr.toNat r.1)).dmaBytes n).dmaResult q id (0, 0, n)

/-- A DRAM range that a descriptor may use: within DRAM and outside the staging area (R364, R372). -/
def State.dmaRange (s : State) (d : Desc) : Bool :=
  aligned4 d && !s.staged_ d.daddr.toNat d.len.toNat

/-- A refused range; one that touches the staging area is counted (R372). -/
def State.dmaBadRange (s : State) (q id : Nat) (d : Desc) : State :=
  let s1 := if s.staged_ d.daddr.toNat d.len.toNat then s.bump .MEM_PROT 31 0 else s
  s1.dmaResult q id (1, Code.range.num, 0)

/-- COPY_IN (R364). -/
def State.copyIn (s : State) (q id : Nat) (d : Desc) (data : List Byte) : State :=
  if s.dmaRange d then
    let r := s.memPutBy (dmaReq q) d.daddr.toNat data
    (r.2.dmaBytes data.length).dmaResult q id (if r.1 then 4 else 0, 0, 0)
  else s.dmaBadRange q id d

/-- COPY_OUT (R364): the data of a poisoned read is delivered as read. -/
def State.copyOut (s : State) (q id : Nat) (d : Desc) : State :=
  if s.dmaRange d then
    let r := s.memRead (dmaReq q) d.daddr.toNat d.len.toNat
    ((r.2.2.send (.hostData q d.haddr.toNat r.1)).dmaBytes d.len.toNat).dmaResult q id (if r.2.1 then 4 else 0, 0, 0)
  else s.dmaBadRange q id d

/-- The oldest descriptor completes once it is done: STATUS, CONS, the vector (R363). -/
def State.dmaFinish (s : State) (q : Nat) : State :=
  let x := s.dq q
  match x.flight with
  | [] => s
  | f :: r => match f.result with
    | none => s
    | some (res, code, rxlen) =>
      let s1 := (s.setDq q { x with flight := r, cons := (f.id + 1) % s.dmaLen q }).send (.dma q res code rxlen)
      let s2 := if res = 0 then s1 else s1.bump .DMA_STAT 15 0 1 q
      if f.irq then s2.irq q else s2

/-! ### The sideband transports (R367, R368) -/

/-- The payload lengths that a command admits (R369, R390); none for a CMD that is no command. -/
def sbdLen (cmd : Nat) (pay : List Byte) : Option Bool :=
  match cmd with
  | 0x01 => some (decide (pay.length = 6 ∧ 1 ≤ leNat (pay.drop 4) ∧ leNat (pay.drop 4) ≤ 256))
  | 0x02 => some (decide (6 ≤ pay.length ∧ 1 ≤ leNat ((pay.drop 4).take 2) ∧ leNat ((pay.drop 4).take 2) ≤ 248
      ∧ pay.length = 6 + 4 * leNat ((pay.drop 4).take 2)))
  | 0x03 => some (decide (pay = []))
  | 0x10 | 0x11 | 0x12 => some (decide (pay.length = 1))
  | _ => none

/-- A request as the queue holds it, without its CRC (R368). -/
def sbdRequest (seq cmd : Nat) (pay : List Byte) : List Byte :=
  bytesLE 1 seq ++ bytesLE 1 cmd ++ bytesLE 2 pay.length ++ pay

/-- A frame with its CRC is whole: its length is that of its LEN, at most 1,030 bytes, and its CRC is right (R368). -/
def frameOk (f : List Byte) : Bool :=
  let body := f.take (f.length - 2)
  decide (6 ≤ f.length ∧ f.length ≤ 1030 ∧ f.length = 6 + leNat ((f.drop 2).take 2))
    && decide (leNat (f.drop (f.length - 2)) = crc16 body)

/-- A whole frame: queued, or answered with BUSY, BADCMD or BADLEN (R366, R369). -/
def State.sbdTake (s : State) (f : List Byte) : State :=
  let body := f.take (f.length - 2)
  let seq := leNat (body.take 1)
  if 8 ≤ s.sbd.queue.length then (s.bump .SBD_STAT 7 0).sbdSend seq 3 []
  else match sbdLen (leNat ((body.drop 1).take 1)) (body.drop 4) with
    | none => s.sbdSend seq 1 []
    | some false => s.sbdSend seq 2 []
    | some true => { s with sbd := { s.sbd with queue := s.sbd.queue ++ [body] } }

/-- A frame from I3C or I2C, or the bytes that arrived on the UART behind SYNC (R367, R368). -/
def State.sbdFrame (s : State) (path : SbdPath) (bytes : List Byte) : State :=
  let all := match path with
    | .uart => s.sbd.uart ++ bytes
    | _ => bytes
  let need := 6 + leNat ((all.drop 2).take 2)
  let s0 := s.boundary .sideband
  if path = .uart ∧ (all.length < 4 ∨ (all.length < need ∧ need ≤ 1030)) then
    { s with sbd := { s.sbd with uart := all } }
  else
    let s1 : State := { s0 with sbd := { s0.sbd with uart := if path = .uart then [] else s0.sbd.uart } }
    if frameOk all then s1.sbdTake all else s1.bump .SBD_STAT 15 8

/-- The transport is there: the UART while it is enabled, I2C until a dynamic address is assigned, I3C after (R367). -/
def State.sbdPath (s : State) (path : SbdPath) : Bool :=
  match path with
  | .uart => s.on .SBD_CFG 31
  | .i2c => s.sbd.daddr.isNone
  | .i3c => s.sbd.daddr.isSome

/-! ### The commands -/

/-- The LEN bytes that the device reads from HADDR on; `host` lists what stands there, 0 beyond its end. -/
def hostBytes (d : Desc) (host : List Byte) : List Byte := (List.range d.len.toNat).map fun i => host.getD i 0

/-- DMA_TX (R364). -/
def execDmaTx (q : Fin 16) (d : Desc) (host : List Byte) (s : State) : Res :=
  .next (s.dmaOp q d 1 fun id t => t.dmaTxOp q id d (hostBytes d host))

/-- DMA_RX (R364). -/
def execDmaRx (q : Fin 16) (d : Desc) (s : State) : Res := .next (s.dmaRxOp q d)

/-- DMA_COPY_IN (R364). -/
def execDmaCopyIn (q : Fin 16) (d : Desc) (host : List Byte) (s : State) : Res :=
  .next (s.dmaOp q d 3 fun id t => t.copyIn q id d (hostBytes d host))

/-- DMA_COPY_OUT (R364). -/
def execDmaCopyOut (q : Fin 16) (d : Desc) (s : State) : Res := .next (s.dmaOp q d 4 fun id t => t.copyOut q id d)

/-- DMA_COMPLETE (R363). -/
def execDmaComplete (q : Fin 16) (s : State) : Res := .next (if s.coreOn ∧ s.hst.pcie.isSome then s.dmaFinish q else s)

/-- SIDEBAND_FRAME (R366 to R368). While Warden is down no frame is answered (R34). -/
def execSidebandFrame (path : SbdPath) (bytes : List Byte) (s : State) : Res :=
  .next (if s.warden.up ∧ s.sbdPath path then s.sbdFrame path bytes else s)

/-- UART_FRAME_GAP (R367). -/
def execUartFrameGap (s : State) : Res := .next { s with sbd := { s.sbd with uart := [] } }

/-- The I3C target answers CCCs while the AON domain runs. -/
def State.i3c (s : State) (f : Sbd → Sbd) : State := if s.cast_.rstn ∧ s.cast_.aon then { s with sbd := f s.sbd } else s

/-- SETDASA (R367): a target without a dynamic address takes it. -/
def execSetdasa (addr : BitVec 7) (s : State) : Res :=
  .next (s.i3c fun x => if x.daddr.isNone then { x with daddr := some addr.toNat } else x)

/-- ENTDAA (R367): a target without a dynamic address takes it. -/
def execEntdaa (addr : BitVec 7) (s : State) : Res :=
  .next (s.i3c fun x => if x.daddr.isNone then { x with daddr := some addr.toNat } else x)

/-- RSTDAA (R367). -/
def execRstdaa (s : State) : Res := .next (s.i3c fun x => { x with daddr := none })

/-- SETMWL (R367). -/
def execSetmwl (v : Half) (s : State) : Res := .next (s.i3c fun x => { x with mwl := v.toNat })

/-- SETMRL (R367). -/
def execSetmrl (v : Half) (s : State) : Res := .next (s.i3c fun x => { x with mrl := v.toNat })

/-- GETSTATUS (R367). -/
def execGetstatus (s : State) : Res :=
  .next (if s.cast_.rstn ∧ s.cast_.aon then s.send (.i3cStatus s.sbd.daddr) else s)

/-- ENEC (R367): bit 0 names the interrupts. -/
def execEnec (events : Byte) (s : State) : Res := .next (s.i3c fun x => { x with ints := x.ints || events.getLsbD 0 })

/-- DISEC (R367): bit 0 names the interrupts. -/
def execDisec (events : Byte) (s : State) : Res := .next (s.i3c fun x => { x with ints := x.ints && !events.getLsbD 0 })

/-- SCRUB_PASS (R372, R373): `errs` are the symbols that the devices lost since the last pass. -/
def execScrubPass (errs : List SymErr) (_ : Unit) (s : State) : Res :=
  .next (if s.coreOn ∧ s.mem.ready then (errs.foldl State.addErr s).scrub else s)

/-- SPARE_COPY_DONE (R373): from here reads use device 9, which holds what the copy wrote, in place of the device. -/
def execSpareCopyDone (ch : Fin 2) (s : State) : Res :=
  .next (if s.spareSt ch = 1 then
    ({ s with mem := { s.mem with
      spare := s.mem.spare.set ch 2
      errs := s.mem.errs.filter fun e => !(decide (e.d = 9) && decide (s.memChan e.cw = ch.val)) } } : State).irq 19
  else s)

/-- STARVE_LIMIT (R376): a requester has waited longer than its limit. -/
def execStarveLimit (q : Fin 16) (_ : Unit) (s : State) : Res :=
  .next (if s.memWaits q ∧ s.fl .MEM_STARVE 15 0 q * 1000 < s.memAge q ∧ ¬ bitOn (s.hwOf .MEM_REQ_STAT q) 31 then
    (s.setHw .MEM_REQ_STAT 31 31 1 q).irq 19
  else s)

/-- PCIE_LINK_DOWN (R34, R360): what the host sends does not arrive until the link is up again. -/
def execPcieLinkDown (s : State) : Res := .next { s with hst := { s.hst with pcie := none, down := true } }

/-- The lanes of a width. -/
def pcieLanes : PcieWidth → Nat
  | .x1 => 1
  | .x2 => 2
  | .x4 => 4

/-- PCIE_LINK_UP (R360): Gen1 to Gen5. -/
def execPcieLinkUp (gen : Fin 5) (width : PcieWidth) (s : State) : Res :=
  .next (if s.coreOn then { s with hst := { s.hst with pcie := some (gen.val + 1, pcieLanes width), down := false } } else s)

end Sys2Proof.Machine
end

