-- ==== Sys2Proof/Machine/CastOps.lean ====
section
/-! DEFINITION. Reset and power of the core and AON domains, configuration images, saves and bind-off (chapter 17). -/

namespace Sys2Proof.Machine

/-! ### Domains (R20, R21, R381) -/

/-- A register survives the loss of the core: it lies in an AON group, or is KEY_TAMPER, which VBAT holds (R20, R297). -/
def keptAddr (a : Nat) : Bool :=
  decide (a = RegName.KEY_TAMPER.addr) || match groupOf a with
    | some g => aonGroup g
    | none => false

/-- The core is held in reset: what the AON and VBAT domains hold stays (R20, R381). -/
def State.coreReset (s : State) : State :=
  let t : State := { s with
    regs := s.regs.filter fun p => keptAddr p.1
    force := s.force.filter fun p => keptAddr p.1
    hw := s.hw.filter fun p => keptAddr p.1
    staged := s.staged.filter fun p => keptAddr (p.1 % 2 ^ 32)
    latches := s.latches.filter fun p => keptAddr p.2.addr
    hostErr := ⟨0, 0⟩
    fired := []
    gau := Gau.reset
    sel := Sel.reset
    hld := Hld.reset
    out := State.reset.out
    seqs := []
    clus := []
    flt := { State.reset.flt with haltLatch := s.flt.haltLatch }
    pmc := State.reset.pmc
    links := []
    twin := Twin.reset
    tdc := State.reset.tdc
    gnb := Gns.reset
    key := { s.key with attr := 0, ctx := 0, data := [], writer := none, lanes := [] }
    eth := []
    tsv := Tsv.reset
    aud := Aud.reset
    mix := Mix.reset
    hst := Hst.reset
    mem := MemS.reset
    coreOn := false }
  if s.flt.alive then t.send (.alive false) else t

/-- RESET_N resets the AON domain and the core; VBAT, the fuses, MRAM, flash and the HALT latch are spared (R381). -/
def State.aonReset (s : State) : State :=
  let t := s.coreReset
  { t with
    regs := t.regs.filter fun p => decide (p.1 = RegName.KEY_TAMPER.addr)
    force := t.force.filter fun p => decide (p.1 = RegName.KEY_TAMPER.addr)
    hw := t.hw.filter fun p => decide (p.1 = RegName.KEY_TAMPER.addr)
    staged := []
    latches := []
    hostErr := ⟨0, 0⟩
    sbdErr := ⟨0, 0⟩
    warden := State.reset.warden
    log := { t.log with gate := [], held := false }
    rcd := { State.reset.rcd with slots := t.rcd.slots, head := t.rcd.head, seq := t.rcd.seq }
    fuses := { t.fuses with armAt := none, staged := [], blow := none }
    att := { t.att with slots := [], jtag := false }
    sbd := Sbd.reset
    cast_ := { Cast.reset with
      aon := t.cast_.aon, pwrgood := t.cast_.pwrgood, xo := t.cast_.xo, haltMark := t.cast_.haltMark
      slots := t.cast_.slots, sel := t.cast_.sel, store := t.cast_.store } }

/-- The reason for which a cast-on is cold, or 0 for a warm one (R384). -/
def Cast.coldCode (c : Cast) : Nat :=
  match c.sel with
  | none => 1
  | some k => if (c.slots.get k none).isNone then 2 else if c.haltMark then 3 else 0

/-- t_core: core cast-on begins with the core in reset; without XO it fails (R382, R384). -/
def State.castStart (s : State) : State :=
  let t := s.coreReset
  let c := t.cast_
  { t with
    key := { t.key with zeroed := false }
    att := { t.att with jtag := false }
    cast_ := { c with
      st := if c.xo then 0 else 5
      code := if c.xo then c.coldCode else 4
      warm := decide (c.coldCode = 0), part := false, img := c.sel.getD 0
      lock := false, go := false, bind := 0 } }

/-! ### Configuration images (R387) -/

/-- The groups an image holds (R387). -/
def savedGroup (g : Nat) : Bool := decide (g ≤ 10 ∨ (14 ≤ g ∧ g ≤ 17) ∨ g = 19 ∨ g = 20)

/-- A word whose write submits a request, starts a transaction or arms an event, or one of the three that R387
names (R387). -/
def unsaved : RegName → Bool
  | .GAU_STEP_AT | .SEL_HOSTSET | .GNS_SPI_TX | .AUD_TRIG_AT | .TSV_NTS_ROT_AT | .TSV_MINT_REQ_PROD
  | .TOP_CAST | .TOP_CONFIG | .TOP_BINDOFF => true
  | _ => false

/-- The field is an RW field of class S, E or D. -/
def Field.isSaved (f : Field) : Bool := f.acc == .rw && f.cls != .n

/-- A register as an image holds it: its address and value, where that differs from its reset value. -/
def imgReg (p : Nat × Nat) : Option (Nat × Nat) :=
  match groupOf p.1, lookupReg p.1 with
  | some g, some x =>
    let v := putFields Field.isSaved (x.reg.fields x.i x.j x.l) 0 p.2
    if savedGroup g ∧ ¬ unsaved x.reg ∧ v ≠ x.reg.reset x.i x.j x.l then some (p.1, v) else none
  | _, _ => none

/-- The configuration as it stands (R387, R388). -/
def State.captureImg (s : State) : Img where
  words := s.regs.filterMap imgReg
  seqs := (List.range 160).filterMap fun n => if (s.sq n).img = [] then none else some (n, (s.sq n).img)

/-- The words of a register of an image that differ from their reset value, with their addresses. -/
def imgWords (p : Nat × Nat) : List (Nat × Nat) :=
  match lookupReg p.1 with
  | none => []
  | some x =>
    let r := x.reg.reset x.i x.j x.l
    (List.range x.reg.geo.words).filterMap fun k =>
      let w := p.2 / 2 ^ (32 * k) % 2 ^ 32
      if w = r / 2 ^ (32 * k) % 2 ^ 32 then none else some (p.1 + 4 * k, w)

/-- Words at rising addresses as runs of (address, words). -/
def runsOf : List (Nat × Nat) → List (Nat × List Nat)
  | [] => []
  | (a, w) :: r =>
    match runsOf r with
    | (b, ws) :: q => if b = a + 4 then (a, w :: ws) :: q else (a, [w]) :: (b, ws) :: q
    | [] => [(a, [w])]

/-- An image as bytes: runs of (address, count, words), then SEQn_IMG of each sequencer (R387). -/
def Img.bytes (i : Img) : List Byte :=
  ((runsOf (i.words.flatMap imgWords)).flatMap fun r =>
    bytesLE 4 r.1 ++ bytesLE 4 r.2.length ++ r.2.flatMap (bytesLE 4))
    ++ (List.range 160).flatMap fun n => match i.seqs.find? fun p => p.1 == n with
      | some p => p.2
      | none => List.replicate 32 0

/-- The SHA-256 of an image. -/
def Img.digest (i : Img) : List Byte := Config.sha256 i.bytes

/-- The length of an image with its SHA-256 and its valid mark, which takes a word (R387). -/
def Img.len (i : Img) : Nat := i.bytes.length + 36

/-- CFGIMG.KIB. -/
def Img.kib (i : Img) : Nat := ceilDiv i.len 1024

/-- The distinct sequencer images of an image. -/
def Img.distinct (i : Img) : List (List Byte) := (i.seqs.map Prod.snd).eraseDups

/-! ### Saves and selections (R388) -/

/-- The refusal of a save (R388). -/
def State.judgeSave (s : State) : Code :=
  if s.cast_.st ≠ 4 ∨ s.cast_.csSt = 1 ∨ 16 < s.captureImg.distinct.length then .busy
  else if 130560 < s.captureImg.len then .range
  else .none

/-- A released save: the gate is held for the capture, and the slot's valid mark is cleared (R388). -/
def State.takeSave (s : State) (org : Origin) (slot : Nat) : State :=
  { s with
    log := { s.log with held := true }
    cast_ := { s.cast_ with
      slots := s.cast_.slots.set slot none, save := some (slot, s.captureImg), saveOrg := org, csSt := 1, csCode := 0 } }

/-- The refusal of a selection (R388). -/
def State.judgeSelect (s : State) (img : Option Nat) : Code :=
  match img with
  | none => .none
  | some k => if (s.cast_.slots.get k none).isNone then .invalid else .none

/-- A released selection. -/
def State.takeSelect (s : State) (img : Option Nat) : State :=
  { s with cast_ := { s.cast_ with
    sel := img, csSt := if s.cast_.csSt = 1 then 1 else 2, csCode := if s.cast_.csSt = 1 then s.cast_.csCode else 0 } }

/-- The OK payload of a save (R390). -/
def saveAnswer (slot : Nat) (i : Img) : List Byte := bytesLE 1 slot ++ bytesLE 1 i.kib ++ i.digest

/-- The OK payload of a selection (R390): 0xFF for none. -/
def selectAnswer (o : Option Nat) : List Byte := bytesLE 1 (o.getD 0xFF)

/-- A save ends: the valid mark, and the sequencer images of its list in the QSPI store (R388). -/
def State.saveDone (s : State) : State :=
  match s.cast_.save with
  | none => s
  | some (slot, i) =>
    let s1 : State := { s with cast_ := { s.cast_ with
      slots := s.cast_.slots.set slot (some i), save := none, csSt := 2, csCode := 0
      store := i.distinct.filterMap fun d => s.cast_.copies.find? fun c => sub c 32 32 = d } }
    s1.sbdEnds s1.cast_.saveOrg 0x10 0 (saveAnswer slot i)

/-! ### Bind-off (R389) -/

/-- The refusal of a bind-off (R389). -/
def State.judgeBind (s : State) : Code := if s.cast_.bind = 1 then .busy else .none

/-- A released bind-off with record `seq`: RELINQUISH, zeroization, and the stop of sequencers and audio. -/
def State.takeBind (s : State) (org : Origin) (z : Bool) (seq : Nat) : State :=
  let s1 : State := { s with cast_ := { s.cast_ with bind := 1, bindOrg := org, bindSeq := seq } }
  let s2 := if s1.coreOn then s1.enterRelinq else s1
  let s3 := if z then s2.zeroize 4 else s2
  if s3.coreOn then s3.stopSeqs.audStopAll else s3

/-- Bind-off ends: commits and deferred records first, then the core is held in reset (R389). -/
def State.bindDone (s : State) : State :=
  if s.cast_.bind = 1 then
    let s1 := (List.range 4).foldl (fun t _ => t.commitRec) s
    let s2 := (if s1.warden.up then s1.recordOwed else s1).coreReset
    let s3 : State := { s2 with cast_ := { s2.cast_ with st := 0, bind := 2, go := false, lock := false } }
    s3.sbdEnds s3.cast_.bindOrg 0x12 0 (bytesLE 8 s3.cast_.bindSeq)
  else s

end Sys2Proof.Machine
end

