-- ==== Sys2Proof/Machine/Judge.lean ====
section
/-! DEFINITION. What a register write is judged by (R10, R28, R165, R343, R357, R402 to R404 and the conditions of the
chapters): access, class S, permitted values, and the conditions of single registers. -/

namespace Sys2Proof.Machine

/-! ### Objects by number -/

/-- Receive stream i as an object. -/
def rxsObj (i : Nat) : AudObj := .rxs (Fin.ofNat 512 i)
/-- Transmit stream i as an object. -/
def txsObj (i : Nat) : AudObj := .txs (Fin.ofNat 512 i)
/-- AES3 input i as an object. -/
def aesiObj (i : Nat) : AudObj := .aesi (Fin.ofNat 16 i)
/-- AES3 output i as an object. -/
def aesoObj (i : Nat) : AudObj := .aeso (Fin.ofNat 16 i)

/-- The first address of the register an access names. -/
def RegAt.first (x : RegAt) : Nat := x.reg.addr x.i x.j x.l
/-- The fields of the register. -/
def RegAt.fs (x : RegAt) : List Field := x.reg.fields x.i x.j x.l
/-- The reset value of the register. -/
def RegAt.rst (x : RegAt) : Nat := x.reg.reset x.i x.j x.l

/-- The value last written to the register. -/
def State.lastAt (s : State) (x : RegAt) : Nat := s.regs.get x.first x.rst
/-- The value in force of the register. -/
def State.forceAt (s : State) (x : RegAt) : Nat := s.force.get x.first x.rst

/-! ### A value lands (R8, R10, R11) -/

/-- A live write of the active Row table is in force from its slot boundary on (R207). -/
def landsLater : RegName → Bool
  | .ROWA_OFS | .ROWA_GATE => true
  | _ => false

/-- The writable fields of a register take a written value; those of class E wait for their boundary. -/
def State.putReg (s : State) (x : RegAt) (v : Nat) : State :=
  let v1 := if x.reg = .KEY_TAMPER then v ||| s.forceAt x else v
  { s with
    regs := s.regs.set x.first (putFields (fun f => f.acc == .rw) x.fs (s.lastAt x) v1)
    force := if landsLater x.reg then s.force
      else s.force.set x.first (putFields (fun f => f.acc == .rw && !f.isE) x.fs (s.forceAt x) v1) }

/-- Writing 1 clears the bits of a W1C field (R8). -/
def State.clear1 (s : State) (x : RegAt) (v : Nat) : State :=
  if x.fs.any fun f => f.acc == .w1c then
    { s with hw := s.hw.set x.first (x.fs.foldl (fun h f =>
        if f.acc == .w1c then putBits h f.hi f.lo (bits h f.hi f.lo &&& ((2 ^ (f.hi + 1 - f.lo) - 1) ^^^ f.get v)) else h)
        (s.hw.get x.first 0)) }
  else s

/-! ### Class S (R10) -/

/-- The block that owns the class S fields of a register runs. -/
def State.blockRuns (s : State) (x : RegAt) : Bool :=
  let i := x.i
  match x.reg with
  | .TOP_SEQ_WPERM => (List.range 16).any fun k => decide ((s.sq (16 * i + k)).st ≠ .stopped ∧ (s.sq (16 * i + k)).st ≠ .fenced)
  | .GAU_CTL | .GAU_STEP_MIN | .GAU_STEP_CONFIRM | .GAU_STEP_AGREE | .GAU_GUARD | .GAU_HB_MAX | .MEM_CFG => s.gau.running
  | .SEL_CFG | .SEL_PER | .SEL_DIV => s.on .SEL_CFG 31 i
  | .OUT_APLL => (List.range 6).any fun k => s.on .OUT_CFG 31 (6 * i + k)
  | .OUT_CFG | .OUT_P1 | .OUT_P2 | .OUT_OFFSET | .OUT_OFFSET_FR => s.on .OUT_CFG 31 i
  | .TDC_TEN => s.on .TDC_CTL 1
  -- DESIGN CHOICE (log 132): DIV and the ring of the channel that belongs to Tension are refused as its CFG is (R120).
  | .TDC_CFG | .TDC_DIV | .TDC_RING_BASE | .TDC_RING_LEN => s.on .TDC_CFG 31 i || s.isLbk i
  | .GNS_CTL | .GNS_LATCH | .GNS_PAIR | .ACQ_STAGE | .ACQ_STAGE_LEN => s.on .GNS_CTL 31
  | .FE_CFG | .FE_FS | .FE_IF | .FE_DESKEW => s.on .FE_CFG 31 i
  | .CH_CFG | .CH_CODE_NCO | .CH_CARR_NCO | .CH_START_PH | .CH_START_SCNT => decide ((s.chan i).st ≠ .stopped)
  | .SEQ_CTL | .SEQ_WD | .SEQ_ROLE => decide ((s.sq i).st ≠ .stopped ∧ (s.sq i).st ≠ .fenced)
  | .ETH_ROW_CTL => s.on .ETH_ROW_CTL 31 i
  | .ETH_CFG | .ETH_RXQ_CFG | .ETH_RXQ_SPILL_BASE | .ETH_RXQ_SPILL_LEN => s.on .ETH_CFG 31 i
  | .TSV_CLOCKID => s.on .TSV_CTL 31
  | .TSV_SA_CFG | .TSV_SA_KEYID => s.on .TSV_SA_CFG 31 i
  | .TSV_MINT_REQ_BASE | .TSV_MINT_RES_BASE | .TSV_MINT_LEN => s.on .TSV_NTP_CTL 30
  | .PTP_CFG | .PTP_NET | .PTP_MAC | .PTP_IPV4 | .PTP_IPV6 => s.on .PTP_CFG 31 i
  | .PTP_UCM | .PTP_UCM_ADDR => s.on .PTP_UCM 31 i x.j
  | .AUD_CTL | .AUD_DOM | .MIX_ODL_BASE | .MIX_OMAP => s.on .AUD_CTL 31
  | .RXS_CFG | .RXS_LEG | .RXS_LEG_ADDR | .RXS_RTP_OFS => s.on .RXS_CFG 31 i || decide (s.objSt (rxsObj i) ≠ 0)
  | .TXS_CFG | .TXS_LEG | .TXS_LEG_ADDR | .TXS_FIRST | .TXS_RTP_OFS | .TXS_SSRC | .TXS_NET =>
    s.on .TXS_CFG 31 i || decide (s.objSt (txsObj i) ≠ 0)
  | .AESI_CFG => s.on .AESI_CFG 31 i || decide (s.objSt (aesiObj i) ≠ 0)
  | .AESO_CFG => s.on .AESO_CFG 31 i || decide (s.objSt (aesoObj i) ≠ 0)
  | .STL_CFG => (List.range 4).any fun l => s.on .STL_LCFG 31 l
  | .STL_TWIN_CFG | .STL_TWIN_MIRROR => s.on .STL_TWIN_CFG 31
  | .PMC_SAMP_RING | .PMC_SAMP_LEN => (List.range 10).any fun k => s.on .PMC_SAMP 31 k
  | .DMA_CFG | .DMA_RING_BASE | .DMA_RING_LEN => s.on .DMA_CFG 31 i
  | _ => false

/-- Every class S field keeps its value in force under `v`. -/
def keepsStatic (fs : List Field) (now v : Nat) : Bool := fs.all fun f => f.cls ≠ .s ∨ f.acc ≠ .rw ∨ f.get now = f.get v

/-! ### Conditions of single registers (R403) -/

/-- A code where a condition fails. -/
def need (p : Bool) (c : Code := .range) : Code := if p then .none else c

/-- The first of two codes that refuses. -/
def Code.orElse (a b : Code) : Code := if a = .none then b else a

/-- A frequency M/D that an output in format `fmt` may have (R96). -/
def freqOk (m d fmt : Nat) : Bool :=
  decide (d ≤ m ∧ m ≤ 1250000000 * d) && (decide (fmt ≠ 2) || decide (m ≤ 250000000 * d))

/-- The limits of a PPSO on its written values (R99). -/
def State.ppsLimits (s : State) (i : Nat) : Bool :=
  let per := s.lastOf .OUT_P1 i
  let ofs := sext 32 (s.lastOf .OUT_OFFSET i)
  let w := s.lastOf .OUT_P2 i
  decide (1000 ≤ per ∧ per ≤ 10 ^ 9 ∧ 10 ^ 9 % per = 0 ∧ -(per : Int) ≤ 2 * ofs ∧ 2 * ofs < per
    ∧ 10 ≤ w ∧ w + 10 ≤ per ∧ w ≤ 500000000)

/-- What the enable of an output is judged by (R96, R100); `s` holds the written values. -/
def State.outEnableOk (s : State) (i : Nat) : Bool :=
  if i < 12 then freqOk (s.inForce .OUT_P1 i) (s.inForce .OUT_P2 i) (s.fl .OUT_CFG 29 28 i)
  else if i < 16 then true
  else if i < 18 then decide (s.inForce .OUT_P1 (12 + s.fl .OUT_CFG 16 15 i) = 10 ^ 9)
  else true

/-- Output registers (R96 to R100); `t` holds the written values. -/
def State.judgeOut (s t : State) (x : RegAt) (v : Nat) : Code :=
  match x.reg with
  | .OUT_CFG => need (!bitOn v 31 || t.outEnableOk x.i)
  | .OUT_P1 | .OUT_P2 | .OUT_OFFSET => need (decide (x.i < 12 ∨ 16 ≤ x.i) || t.ppsLimits x.i)
  | .OUT_COMP =>
    need (!s.on .OUT_CFG 31 x.i || decide ((sext 32 v - sext 32 (s.inForce .OUT_COMP x.i)).natAbs ≤ 64))
  | .OUT_GRPC => need (!bitOn v 31 || !s.on .AUD_CTL 31) .static
  | _ => .none

/-- MODE of a port with those of its group (chapter 9, port modes). -/
def State.modeOk (s : State) (p m : Nat) : Bool :=
  let g := 4 * (p / 4)
  let others := (List.range 4).filter fun k => g + k ≠ p
  if m = 6 then decide (p = g) && others.all fun k => decide (s.fl .ETH_CFG 30 28 (g + k) = 0)
  else decide (m = 0 ∨ p = g) || decide (s.fl .ETH_CFG 30 28 g ≠ 6)

/-- DOMAIN, MC_EN and UC_EN fit a profile (R221). -/
def profileOk (prof dom : Nat) (mc uc : Bool) : Bool :=
  match prof with
  | 0 => true
  | 1 => decide (24 ≤ dom ∧ dom ≤ 43) && !uc
  | 2 => decide (44 ≤ dom ∧ dom ≤ 63) && !mc
  | 3 => decide (dom = 0) && !uc
  | 4 => decide (dom ≤ 127)
  | _ => false

/-- The LOG fields fit a profile (R221). -/
def logsOk (prof : Nat) (sync ann : Int) : Bool :=
  match prof with
  | 0 => decide (-7 ≤ sync ∧ sync ≤ 1 ∧ -3 ≤ ann ∧ ann ≤ 4)
  | 1 => decide (sync = -4 ∧ ann = -3)
  | 2 => true
  | _ => decide (-7 ≤ sync ∧ sync ≤ 1 ∧ -3 ≤ ann ∧ ann ≤ 1)

/-- Some instance sends authenticated messages. -/
def State.anyAuth (s : State) : Bool := (List.range 8).any fun p => s.on .PTP_AUTH 31 p

/-- Time service registers (R221, R225, R233, R234, R240, R243). -/
def State.judgeTsv (s : State) (x : RegAt) (v : Nat) : Code :=
  match x.reg with
  | .TSV_CTL => need (!s.anyAuth || decide (bits v 7 0 ≠ 0xFF))
  | .PTP_AUTH =>
    need (!bitOn v 31 || (s.on .PTP_CFG 25 x.i && decide (s.fl .TSV_CTL 7 0 ≠ 0xFF)))
  | .PTP_CFG =>
    need (profileOk (bits v 30 28) (bits v 15 8) (bitOn v 24) (bitOn v 23)
      && (bitOn v 25 || (decide (bits v 30 28 ≠ 3) && !s.on .PTP_AUTH 31 x.i)))
  | .PTP_RATE =>
    need (logsOk (s.fl .PTP_CFG 30 28 x.i) (sext 8 (bits v 31 24)) (sext 8 (bits v 23 16))
      && (!s.on .STL_TWIN_CFG 31 || s.on .STL_TWIN_CFG 30 || decide (sext 8 (bits v 23 16) ≤ 0)))
  | .TSV_NTS_ROT_AT =>
    let d : Int := (v : Int) - s.gns
    if d < 2000 then .late else need (decide (d ≤ 549755813888))
  | _ => .none

/-- An entry of the active Row table (R207); `t` holds the written values. -/
def State.judgeLive (s t : State) (p : Nat) : Code :=
  let a := (s.ep p).act
  if ¬ s.on .ETH_ROW_CTL 28 p then .static
  else need (tableValid a.1 a.2.1 a.2.2 fun k => t.lastOf .ROWA_OFS p k)

/-- The nodes of role `r` and in total keep the limits of the mix rate in force (R270). -/
def State.roleFits (s : State) (r : Nat) : Bool :=
  let l := nodeLimits (s.fl .AUD_CTL 18 16)
  decide (s.nodesTotal ≤ l.2) && decide (s.roleNodes r ≤ l.1)

/-- Audio and mix registers (R246 to R250, R264, R265, R269, R270); `t` holds the written values. -/
def State.judgeMix (s t : State) (x : RegAt) (v : Nat) : Code :=
  match x.reg with
  | .AUD_CTL => need (!bitOn v 31 || s.budgetOk (bits v 18 16))
  | .RXS_CFG => if bitOn v 31 then s.judgeStart (rxsObj x.i) v else .none
  | .TXS_CFG => if bitOn v 31 then s.judgeStart (txsObj x.i) v else .none
  | .AESI_CFG => if bitOn v 31 then s.judgeStart (aesiObj x.i) v else .none
  | .AESO_CFG => if bitOn v 31 then s.judgeStart (aesoObj x.i) v else .none
  | .AUD_TRIG_AT => s.judgeTrig v
  | .MIX_NODE =>
    need (!nodeAct v || nodeAct (s.lastOf .MIX_NODE x.i x.j) || t.roleFits (s.roleOf x.i))
  | .MIX_OMAP =>
    let r := bits v 7 0
    need (decide (r < 136 ∨ r = 255)) |>.orElse
      (need (decide (r = 255 ∨ r = s.roleOf x.i) || (decide ((t.roleOuts r).length ≤ 8) && t.roleFits r)))
  | _ => .none

/-- Gauge, selector and holdover registers (R38, R42, R48, R50, R58, R62). -/
def State.judgeTime (s t : State) (x : RegAt) (v : Nat) : Code :=
  match x.reg with
  | .GAU_INC => need (incOk (bits v 47 0))
  | .GAU_UTC => need (!(bitOn v 18 && bitOn v 17))
  | .GAU_LEAP_AT => need (decide (v % 10 ^ 9 = 0))
  | .GAU_STEP_AT => s.judgeStep v (sext 96 (s.inForce .GAU_STEP_AMT))
  | .GAU_SLEW_AMT => s.judgeSlew (sext 64 v)
  | .GAU_STEP_ACK =>
    need ((s.gau.held.isSome || s.gau.breach) && decide (bits v 15 0 = s.gau.stepSeq % 2 ^ 16)) .stale
  | .SEL_CFG => need (!bitOn v 31 || decide (8 ≤ x.i) || !t.isTime x.i || decide (10 ^ 9 % t.inForce .SEL_PER x.i = 0))
  | .HLD_AVG => need (decide (bits v 25 16 + bits v 9 0 ≤ 1024))
  | _ => .none

/-- Baseband and sequencer registers (R125, R127 to R130, R134, R139, R163, R164, R168); `t` holds the written values. -/
def State.judgeProg (s t : State) (x : RegAt) (v : Nat) : Code :=
  match x.reg with
  | .TDC_CFG => need (!s.isLbk x.i) .static
  | .GNS_SPI_TX => need (!s.gnb.spiBusy) .busy
  | .CH_CFG => if ¬ bitOn v 31 then .none
    else if t.isPair x.i ∧ x.i % 2 = 1 then .range
    else if (s.chan x.i).st = .stopped then t.judgeChan x.i (t.inForce .CH_START_SCNT x.i) else .none
  | .ACQ_CFG => if bitOn v 31 then t.judgeAcq x.i else .none
  | .SW_CTL => if bitOn v 31 then t.judgeSwatch (bits v 3 0) else .none
  | .SEQ_CTL => s.judgeSeqCtl x.i (bitOn v 31)
  | .SEQ_WD =>
    match bits v 31 30 with
    | 1 => need (decide (bits v 15 0 ≠ 0))
    | 2 => need (decide (1 ≤ bits v 15 0 ∧ bits v 15 0 ≤ 124))
    | _ => .none
  | .SEQ_ROLE => need (decide (x.i < 16 ∨ bits v 7 0 < 136 ∨ bits v 7 0 = 255))
  | .CLU_LOAD_CTL => need (!bitOn v 31 || decide ((s.clu x.i).load ≠ 1)) .busy
  | .CH_SP => need (decide (bits v 6 0 ≤ bits v 31 24))
  | _ => .none

/-- TOP_CONFIG as written (R388). -/
def State.judgeConfig (s : State) (v : Nat) : Code :=
  let img := if bitOn v 29 then none else some (bits v 25 24)
  (if bitOn v 31 then s.judgeSave else .none).orElse (if bitOn v 30 then s.judgeSelect img else .none)

/-- Supervision and host registers (R291, R300, R312, R336, R339, R342, R346, R350, R353, R355, R370, R373, R376, R383, R388, R389). -/
def State.judgeCtl (s t : State) (x : RegAt) (v : Nat) : Code :=
  match x.reg with
  | .TOP_CAST => need (!bitOn v 31 || decide (s.cast_.st = 1)) .busy
  | .TOP_CONFIG => s.judgeConfig v
  | .TOP_BINDOFF => if bitOn v 31 then s.judgeBind else .none
  | .KEY_OP => if bitOn v 31 then s.judgeKey v else .none
  | .ATT_FUSE_CMD => if bitOn v 31 then s.judgeFuse v else .none
  | .LOG_ACK => need (s.ackNamed (bits v 31 0) (bits v 95 32)).isSome .stale
  | .STL_TWIN_CTL => need (!bitOn v 31 || (decide (s.twin.role = .active) && s.twin.peerReady)) .busy
  | .STL_TWIN_CFG => need (([1, 2, 3, 4, 5, 6, 8, 9, 10, 12] : List Nat).contains (bits v 19 16))
  | .FLT_CTL => if bitOn v 30 then s.judgeResume else .none
  | .FLT_INJ => if bitOn v 31 then s.judgeInject (bits v 21 16) (bits v 15 0) else .none
  | .FLT_SRC_CFG =>
    let sev := bits v 2 0
    need (decide (x.i < 32 ∧ fltMin x.i ≤ sev ∧ sev ≤ 4) && (decide (sev ≠ 2) || fltHasFence x.i))
  | .REC_UNIT => need (decide (bits v 31 24 ≤ 13))
  | .PMC_SWEEP =>
    (need (decide (bits v 9 0 ≤ bits v 25 16))).orElse (need (!bitOn v 31 || s.pmc.sweep.isNone) .busy)
  | .PMC_CNT => need (selOk x.i (bits v 7 0))
  | .MEM_SPARE => if bitOn v 31 then s.judgeSpare x.i else .none
  | .MEM_REQ => need (decide (((List.range 16).map fun r => t.fl .MEM_REQ 7 0 r).sum ≤ 256))
  | .MEM_CFG =>
    need ((decide (bits v 7 4 = 0) || decide (bits v 3 0 ≠ 0))
      && decide (2 ^ 32 ≤ sizeBytes (bits v 3 0) + sizeBytes (bits v 7 4)))
  | _ => .none

/-- Every condition of a single register's own rules; `s` is the state before the write. -/
def State.judgeSpecial (s : State) (x : RegAt) (v : Nat) : Code :=
  let t := s.putReg x v
  match groupOf x.first with
  | some 1 | some 2 | some 3 => s.judgeTime t x v
  | some 4 => s.judgeOut t x v
  | some 5 | some 6 | some 7 => s.judgeProg t x v
  | some 8 => match x.reg with
    | .ETH_CFG => need (s.modeOk x.i (bits v 30 28))
    | .ETH_HIWM | .ETH_LOWM => need (decide (t.inForce .ETH_LOWM x.i < t.inForce .ETH_HIWM x.i))
    | .ROWA_OFS | .ROWA_GATE => s.judgeLive t x.i
    | _ => .none
  | some 9 => s.judgeTsv x v
  | some 10 | some 11 => s.judgeMix t x v
  | _ => s.judgeCtl t x v

/-- A register write by its fields: class S, then permitted values, then its own conditions (R10, R403). -/
def State.judgeFields (s : State) (x : RegAt) (v : Nat) : Code :=
  if s.blockRuns x ∧ ¬ keepsStatic x.fs (s.forceAt x) v then .static
  else if ¬ fieldsAllow x.fs v then .range
  else s.judgeSpecial x v

/-! ### Access (R21, R28, R343, R357, R358, R332) -/

/-- Groups that a sequencer may never write, whatever its cluster's mask holds (R32). -/
def seqBarred (g : Nat) : Bool := decide (g = 0 ∨ g = 7 ∨ g = 12 ∨ g = 13 ∨ g = 18 ∨ g = 20 ∨ g = 21)

/-- A sequencer may write the register at `a` of group `g` (R28). -/
def State.seqMay (s : State) (n g a : Nat) : Bool :=
  bitOn (s.inForce .TOP_SEQ_WPERM (cluOf n)) g && !seqBarred g && decide (a ≠ RegName.GAU_STEP_ACK.addr)

/-- The ownership test at arrival (R357, R358). -/
def State.ownerMay (s : State) (org : Origin) (a : Nat) : Bool :=
  match org, groupOf a with
  | .host, some g => !bitOn (s.inForce .TOP_OWNER) g
  | .sideband, some g => bitOn (s.inForce .TOP_OWNER) g || decide (a = RegName.TOP_OWNER.addr)
  | _, _ => true

/-- A standby's own write of a mirrored group (R332). -/
def State.mirrorBars (s : State) (org : Origin) (g : Nat) : Bool :=
  decide (s.twin.role = .standby) && s.mirrored g && match org with
    | .host | .sideband | .seq _ => true
    | _ => false

/-- The access to an address is refused with this code. -/
def State.judgeAccess (s : State) (org : Origin) (ownerOk : Bool) (a : Nat) : Code :=
  match groupOf a with
  | none => .unmapped
  | some g =>
    if ¬ aonGroup g ∧ ¬ s.coreOn then .coreOff
    else if ¬ aonGroup g ∧ (s.flt.halt ∨ s.cast_.lock) then .busy
    else if ¬ ownerOk ∨ s.mirrorBars org g then .owner
    else match org with
      | .seq n => if (s.sq n).st = .fenced then .fenced else need (s.seqMay n g a) .seqWperm
      | _ => .none

/-! ### Sequencer memory (R30, R165) -/

/-- The sequencer, the memory and the byte of it that an address of SEQMEM names. -/
def seqMemAt (a : Nat) : Option (Nat × SMem × Nat) :=
  if a < 0x02000000 ∨ 0x03400000 ≤ a then none
  else
    let n := (a - 0x02000000) / 0x20000
    let o := (a - 0x02000000) % 0x20000
    if o < 0x4000 then some (n, .P, o)
    else if o < 0xC000 then some (n, .C, o - 0x4000)
    else if o < 0x1C000 then some (n, .D, o - 0xC000)
    else none

/-- A write of sequencer memory is refused with this code (R165). -/
def State.judgeSeqMem (s : State) (a : Nat) : Code :=
  match seqMemAt a with
  | none => .unmapped
  | some (_, .D, _) => .none
  | some (n, _, _) => need (decide ((s.sq n).st = .stopped) && !s.fuses.ownerLock) .imageOnly

/-- A word of sequencer memory takes a value. -/
def State.putSeqMem (s : State) (a v : Nat) : State :=
  match seqMemAt a with
  | none => s
  | some (n, m, o) =>
    let q := (s.sq n).setMem m (memPutWord ((s.sq n).memOf m) o (w32 v))
    s.setSq n (if m = .D then { q with ext := (q.ext.filter fun e => e.1 = s.wt) ++ [(s.wt, o, w32 v)] } else q)

/-- The words of D memory written from outside at this edge hold the outside value, whatever the program has written (R165). -/
def State.keepOutside (s : State) (n : Fin 160) : State :=
  match (s.sq n).ext.filter fun e => e.1 = s.wt with
  | [] => s
  | es => s.setSq n { s.sq n with dMem := es.foldl (fun d e => memPutWord d e.2.1 e.2.2) (s.sq n).dMem }

/-- A word of sequencer memory. -/
def State.getSeqMem (s : State) (a : Nat) : Nat :=
  match seqMemAt a with
  | none => 0
  | some (n, m, o) => (memWord ((s.sq n).memOf m) o).toNat

end Sys2Proof.Machine
end

