-- ==== Sys2Proof/Machine/Hooks.lean ====
section
/-! DEFINITION. What a released register write does beyond its fields: the requests, starts and stops that the chapters hang on
the write of a register. In each, `old` is the state before the write. -/

namespace Sys2Proof.Machine

/-- A bit of a register went from 0 to 1. -/
def rose (old new b : Nat) : Bool := !bitOn old b && bitOn new b
/-- A bit of a register went from 1 to 0. -/
def fell (old new b : Nat) : Bool := bitOn old b && !bitOn new b

/-- GAU_STEP_ACK: the held correction is released, or the breach closed (R48, R50). -/
def State.ackStep (s : State) : State :=
  if s.gau.held.isSome then s.releaseHeld 6 else if s.gau.breach then s.closeBreach 6 else s

/-- Gauge and holdover registers (R41 to R50, R85, R104). -/
def State.hookTime (s : State) (x : RegAt) (v : Nat) : State :=
  match x.reg with
  | .GAU_SLEW_AMT => s.takeSlew (sext 64 v) none 0
  | .GAU_STEP_AT => s.takeStep v (sext 96 (s.inForce .GAU_STEP_AMT)) (s.on .GAU_STEP_CTL 0) none
  | .GAU_STEP_CTL => if bitOn v 8 then (s.dropSched 11).dropHeld 11 else s
  | .GAU_STEP_ACK => s.ackStep
  | .GAU_BND_FLOOR => s.squelch
  | .HLD_CTL => s.ageCheck
  | .HLD_MODEL_FU | .HLD_MODEL_AU => { s with hld := { s.hld with wrote := x.i :: s.hld.wrote } }
  | _ => s

/-- Selector registers (R71, R75 to R77, R82): the winners are determined again where EN, LOCKOUT, RANK, SEL_FORCE, SEL_REVERT or
SEL_CTL.EN changes (R79). -/
def State.hookSel (s old : State) (x : RegAt) (v : Nat) : State :=
  let changed (r : RegName) (hi lo : Nat) : Bool := decide (old.fl r hi lo x.i ≠ s.fl r hi lo x.i)
  match x.reg with
  | .SEL_CFG =>
    let en := bitOn v 31
    let t := if en ∨ (s.cand x.i).st ≠ .off then s.candEnable x.i en else s
    if changed .SEL_CFG 31 30 ∨ changed .SEL_CFG 23 20 then t.determine else t
  | .SEL_CTL => if changed .SEL_CTL 0 0 then s.determine else s
  | .SEL_FORCE => if changed .SEL_FORCE 31 0 then s.determine else s
  | .SEL_REVERT => if changed .SEL_REVERT 31 0 then s.determine else s
  | _ => s

/-- A write of OUT_CFG (R97, R99, R102, R104): enabling arms the output, which begins at least 2 µs later, and every write of EN = 1
begins the message count of a TOD again (R101). -/
def State.outCfg (s old : State) (i : Nat) : State :=
  let s1 := if s.on .OUT_CFG 31 i then s.setOutU i { s.outU i with todSeq := 0 } else s
  (if rose (old.inForce .OUT_CFG i) (s.inForce .OUT_CFG i) 31 then
    s1.setOutU i { s1.outU i with armed := some s.gau.l, todDue := [], frame := 0 }
   else s1).squelch

/-- Output registers (R94, R97, R103, R104). -/
def State.hookOut (s old : State) (x : RegAt) (v : Nat) : State :=
  match x.reg with
  | .OUT_CFG => s.outCfg old x.i
  | .OUT_SQ_BND => s.squelch
  | .OUT_GRPC => if bitOn v 31 then { s with out := { s.out with snap := some s.gau.l } } else s
  | .OUT_SKIP => if s.frameMode x.i ∧ bitOn v 0 then s.setOutU x.i { s.outU x.i with realign := some s.gau.l } else s
  | _ => s

/-- SPI: the transaction begins (R125): LEN bytes at a period of 2 (DIV + 1) ns a bit; a DIV below 19 acts as 19. -/
def State.startSpi (s : State) (tx : Nat) : State :=
  let div := max 19 (s.fl .GNS_SPI_CTL 7 0)
  let len := s.fl .GNS_SPI_CTL 19 16
  ({ s with gnb := { s.gnb with spiBusy := true, spiEnd := s.gau.l + 16 * len * (div + 1) } } : State).send
    (.spi (s.fl .GNS_SPI_CTL 25 24) len div tx)

/-- A write of CH_CFG (R127, R130): EN = 1 starts a STOPPED channel while the block runs, EN = 0 stops it. -/
def State.chanCfg (s : State) (c v : Nat) : State :=
  if bitOn v 31 then
    if (s.chan c).st = .stopped ∧ s.on .GNS_CTL 31 then s.startByRegs c else s
  else s.stopChan c

/-- Measurement and baseband registers (R110, R120, R123, R134, R139, R140). -/
def State.hookMeas (s old : State) (x : RegAt) (v : Nat) : State :=
  let i := x.i
  match x.reg with
  | .TDC_CTL => if bitOn (old.inForce .TDC_CTL) 1 && !bitOn v 1 then s.lbkOff else s
  | .TDC_CFG => if rose (old.inForce .TDC_CFG i) v 31 then s.armTdc i else s
  | .GNS_CTL => if fell (old.inForce .GNS_CTL) v 31 then s.gnsStop else s
  | .GNS_SPI_TX => s.startSpi v
  | .GNS_IND_STAT => s.indCheck
  | .FE_CFG =>
    if rose (old.inForce .FE_CFG i) v 31 then s.setFe i { Fe.reset with st := 1, lastAt := s.gau.l }
    else if fell (old.inForce .FE_CFG i) v 31 then s.setFe i { s.fe i with st := 0, now := none } else s
  | .CH_CFG => s.chanCfg i v
  | .ACQ_CFG => if bitOn v 31 then s.queueAcq i else if bitOn v 30 then s.cancelAcq i else s
  | .SW_CTL => if bitOn v 31 then s.goSwatch else if bitOn v 30 then s.abortSwatch else s
  | _ => s

/-- A released GO of an image load (R168): the load is BUSY. -/
def State.beginLoad (s : State) (k mask : Nat) : State :=
  s.setClu k { s.clu k with load := 1, loadCode := 0, mask := mask }

/-- Sequencer and cluster registers (R163, R168, R171). -/
def State.hookSeq (s : State) (x : RegAt) (v : Nat) : State :=
  match x.reg with
  | .SEQ_CTL => s.takeSeqCtl x.i (bitOn v 31) (bitOn v 30) (bitOn v 29)
  | .CLU_LOAD_CTL => if bitOn v 31 then s.beginLoad x.i (bits v 15 0) else s
  | _ => s

/-- Ethernet and time service registers (R194, R199, R202, R203, R207, R222, R240). -/
def State.hookNet (s old : State) (x : RegAt) (v : Nat) : State :=
  match x.reg with
  | .ETH_CFG => if fell (old.inForce .ETH_CFG x.i) v 31 then s.setLinkUp x.i false else s
  | .ETH_PAUSE | .ETH_HIWM | .ETH_LOWM => s.pauseCheck x.i
  | .ETH_PREEMPT =>
    if old.verifyInit x.i = s.verifyInit x.i then s
    else s.setEp x.i { s.ep x.i with verify := s.verifyInit x.i, tries := 0 }
  | .ROWA_OFS | .ROWA_GATE => s.setEp x.i { s.ep x.i with live := true }
  | .ETH_ROW_CTL => if bitOn v 31 then s else s.setEp x.i { s.ep x.i with rowRun := false }
  | .TSV_CTL => s.decideAll
  | .PTP_CFG => s.decideInst x.i
  | .TSV_NTS_ROT_AT => { s with tsv := { s.tsv with rot := some v } }
  | .TSV_NTS_KEY => if bitOn v 31 then { s with tsv := { s.tsv with prev := none } } else s
  | _ => s

/-- A write of an object's EN while AUD runs (R264). -/
def State.objCfgWritten (s : State) (o : AudObj) (was now : Nat) : State :=
  if ¬ s.audOn then s
  else if rose was now 31 then s.startObj o
  else if fell was now 31 then s.stopObj o
  else s

/-- Audio and mix registers (R246, R264, R265, R275, R282). -/
def State.hookAud (s old : State) (x : RegAt) (v : Nat) : State :=
  let i := x.i
  match x.reg with
  | .AUD_CTL =>
    if rose (old.inForce .AUD_CTL) v 31 then (if s.audOn then s.audStartAll else s)
    else if fell (old.inForce .AUD_CTL) v 31 then s.audStopAll else s
  | .RXS_CFG => s.objCfgWritten (rxsObj i) (old.inForce .RXS_CFG i) v
  | .TXS_CFG => s.objCfgWritten (txsObj i) (old.inForce .TXS_CFG i) v
  | .AESI_CFG => s.objCfgWritten (aesiObj i) (old.inForce .AESI_CFG i) v
  | .AESO_CFG => s.objCfgWritten (aesoObj i) (old.inForce .AESO_CFG i) v
  | .AUD_TRIG_AT => s.armTrig v
  | .MIX_NODE => s.nodeWritten (1024 * i + x.j) v
  | .MIX_IBQ => if x.l = 4 then s.bqWritten (RegName.MIX_IBQ.addr i x.j) else s
  | .MIX_OBQ => if x.l = 4 then s.bqWritten (RegName.MIX_OBQ.addr i x.j) else s
  | _ => s

/-- A released acknowledgement frees the record it names and every earlier one; its EXPORT record has been written (R312). -/
def State.ackFree (s : State) (r : LogRec) : State :=
  let gone := ((s.log.ring.filter fun x => x.seq ≤ r.seq).map LogRec.slots).sum
  ({ s with log := { s.log with
    ring := s.log.ring.filter fun x => r.seq < x.seq
    freed := (s.log.ring.filter fun x => x.seq ≤ r.seq).reverse ++ s.log.freed
    rsv := s.log.rsv.filter fun p => r.seq < p.2.seq
    tail := (s.log.tail + gone) % ringSlots } } : State).gapAlone

/-- Keys, fuses and log (R291, R300, R311, R312). -/
def State.hookKey (s : State) (x : RegAt) (v : Nat) : State :=
  match x.reg with
  | .KEY_OP => if bitOn v 31 then (s.checkRead v).doneKey v else s
  | .ATT_FUSE_ARM => s.armFuse v
  | .ATT_FUSE_CMD => if bitOn v 31 then s.startBlow v else s
  | .ATT_FUSE_HASH => { s with fuses := { s.fuses with staged := s.fuses.staged.set x.i v } }
  | .LOG_ACK => match s.ackNamed (bits v 31 0) (bits v 95 32) with
    | some r => s.ackFree r
    | none => s
  | .LOG_WARN => if s.inForce .LOG_WARN ≤ s.logUsed then (s.irq 18).ibi 3 else s
  | _ => s

/-- A write of EN of a link (R316). -/
def State.linkCfg (s : State) (l was now : Nat) : State :=
  if rose was now 31 then (s.setLink l { Link.reset with st := .training, said := (s.link l).said }).linkSay l
  else if fell was now 31 then
    let s1 := if (s.link l).st = .up then s.linkEnd l else s
    ((s1.setLink l { s1.link l with st := .off, frame := none }).stlCheck l).linkSay l
  else s

/-- Stitch and twin registers (R316, R327, R328, R336). -/
def State.hookStl (s old : State) (x : RegAt) (v : Nat) : State :=
  match x.reg with
  | .STL_LCFG => s.linkCfg x.i (old.inForce .STL_LCFG x.i) v
  | .STL_TWIN_CFG => s.takeTwinCfg (old.on .STL_TWIN_CFG 31)
  | .STL_TWIN_CTL =>
    let s1 := if bitOn v 31 then s.takeHandover else s
    if bitOn v 30 then s1.relinqCmd else s1
  | _ => s

/-- A write of FLT_CTL (R342, R345): without ALIVE_EN the pin is held low. -/
def State.fltCtl (s : State) (v : Nat) : State :=
  let s1 := if bitOn v 30 then s.takeResume else s
  if ¬ bitOn v 31 ∧ s1.flt.alive then
    ({ s1 with flt := { s1.flt with alive := false } } : State).send (.alive false)
  else s1

/-- A released GO of TOP_CAST: training begins, and t_go is due (R382, R383). -/
def State.castGo (s : State) : State := { s with cast_ := { s.cast_ with go := true, st := 3 } }

/-- A released write of TOP_CONFIG (R388). -/
def State.takeConfig (s : State) (v : Nat) : State :=
  let s1 := if bitOn v 31 then s.takeSave .warden (bits v 25 24) else s
  if bitOn v 30 then s1.takeSelect (if bitOn v 29 then none else some (bits v 25 24)) else s1

/-- Supervision, memory and cast-on registers (R342, R345, R346, R350, R353, R355, R373, R383, R388, R389); `q` is the number
of the write's record. -/
def State.hookCtl (s : State) (x : RegAt) (v q : Nat) : State :=
  match x.reg with
  | .TOP_CAST => if bitOn v 31 then s.castGo else s
  | .TOP_CONFIG => s.takeConfig v
  | .TOP_BINDOFF => if bitOn v 31 then s.takeBind .warden (bitOn v 30) q else s
  | .FLT_CTL => s.fltCtl v
  | .FLT_INJ => s.takeInject v
  | .REC_UNIT => s.clrUnit x.i
  | .PMC_CNT => s.takePmc x.i v
  | .PMC_SWEEP => if bitOn v 31 then s.startSweep else s
  | .MEM_SPARE => if bitOn v 31 then s.startSpare x.i else s
  | _ => s

/-- What a released write of a register does beyond its fields. -/
def State.hook (s old : State) (x : RegAt) (v q : Nat) : State :=
  match groupOf x.first with
  | some 1 | some 3 => s.hookTime x v
  | some 2 => s.hookSel old x v
  | some 4 => s.hookOut old x v
  | some 5 | some 6 => s.hookMeas old x v
  | some 7 => s.hookSeq x v
  | some 8 | some 9 => s.hookNet old x v
  | some 10 | some 11 => s.hookAud old x v
  | some 12 | some 13 => s.hookKey x v
  | some 14 => s.hookStl old x v
  | _ => s.hookCtl x v q

/-- A released register write: its fields, the W1C bits it clears, and what follows from it. -/
def State.doWrite (s : State) (x : RegAt) (v q : Nat) : State := ((s.putReg x v).clear1 x v).hook s x v q

end Sys2Proof.Machine
end

