-- ==== Sys2Proof/Machine/Status.lean ====
section
/-! DEFINITION. What the read-only fields of each register report. -/

namespace Sys2Proof.Machine

/-- A field value in its place. -/
def at_ (v lo : Nat) : Nat := v * 2 ^ lo

/-- A signed value in `w` bits. -/
def sgn (w : Nat) (v : Int) : Nat := (wrapTo w v).toNat

/-- An optional number with its valid bit. -/
def optAt (o : Option Nat) (lo valid : Nat) : Nat := at_ (o.getD 0) lo + bit1 o.isSome valid

/-- Whole seconds, begun ones counted, from now until a local time. -/
def State.secsLeft (s : State) (t : Nat) : Nat := ceilDiv (t - s.gau.l) 1000000000

/-- Word `w` of a byte string. -/
def byteWord (l : List Byte) (w : Nat) : Nat := leNat ((l.drop (4 * w)).take 4)

/-- Number `n`, held to `w` bits from above. -/
def upTo (w n : Nat) : Nat := min n (2 ^ w - 1)

/-! ### Time blocks -/

/-- GAU (chapter 2, Registers). -/
def State.statGau (s : State) (x : RegAt) : Nat :=
  let g := s.gau
  match x.reg with
  | .GAU_STATE =>
    at_ g.cause 8 + bit1 g.breach 4 + bit1 g.held.isSome 3 + bit1 (decide (g.rem ≠ 0)) 2 + g.st.code
  | .GAU_SNAP => at_ s.busSt.code 128 + at_ s.busBound 96 + at_ s.gns 32 + s.gfr
  | .GAU_FADJ => sgn 32 g.fadj
  | .GAU_SLEW_REM => sgn 64 (Int.tdiv g.rem 256)
  | .GAU_STEP_STAT => at_ (g.stepSeq % 2 ^ 16) 16 + g.stepCode
  | .GAU_GUARD_DEV => sgn 64 (Int.tdiv s.guardDev 256)
  | .GAU_HO_N => g.n
  | .GAU_HO_BH => g.bh
  | _ => 0

/-- WTR_LEFT: while the timer is held it shows its full value. -/
def State.wtrLeft (s : State) (k : Nat) : Nat :=
  let c := s.cand k
  match c.st, c.wtr with
  | .wait, none => s.fl .SEL_CFG 19 10 k
  | .wait, some t => s.secsLeft (t + s.fl .SEL_CFG 19 10 k * 1000000000)
  | _, _ => 0

/-- SEL (chapter 3, Registers). -/
def State.statSel (s : State) (x : RegAt) : Nat :=
  let q := s.sel
  let k := x.i
  let c := s.cand k
  match x.reg with
  | .SEL_STATUS => optAt q.fsel 16 21 + optAt (q.txn.map Txn.target) 8 13 + optAt q.sel 0 5
  | .SEL_SW_STAT => at_ (q.txnNum % 2 ^ 16) 16 + optAt q.swFrom 10 15 + at_ q.swTo 5 + q.swCode
  | .SEL_SW_DELTA => sgn 96 q.swDelta
  | .SEL_SW_UNC => q.swUnc
  | .SEL_SW_BND => q.swBnd
  | .SEL_STATE =>
    at_ (s.wtrLeft k) 20 + at_ c.cause 16 + bit1 (s.published k) 14 + bit1 c.tdev.isSome 13 + bit1 (s.fvalid k) 12
      + bit1 (decide (q.fsel = some k)) 11 + bit1 (decide (q.txn.map Txn.target = some k)) 10
      + bit1 (decide (q.sel = some k)) 9 + bit1 c.disputed 8 + c.st.code
  | .SEL_FREQ => sgn 32 c.freq
  | .SEL_TDEV => upTo 32 (c.tdev.getD 0xFFFFFFFF)
  | .SEL_OFS => sgn 96 (s.offset k)
  | .SEL_OFSU => (c.post.map Post.u).getD 0
  | .SEL_OFSB => (c.post.map Post.bc).getD 0
  | .SEL_OFS_AGE => s.ofsAge k
  | _ => 0

/-- HLD and OUT (chapter 4, Registers). -/
def State.statHld (s : State) (x : RegAt) : Nat :=
  let h := s.hld
  match x.reg with
  | .HLD_FRZ => sgn 32 h.frz
  | .HLD_FAVG => sgn 32 h.favg
  | .HLD_AGE_NOW => sgn 32 h.age
  | .HLD_STAT =>
    at_ h.hist.length 16 + bit1 h.ageSat 4 + bit1 h.atomRefV 3 + bit1 s.atomV 2 + at_ s.model 1
  | .HLD_ATOM_PH => sgn 32 h.atomPh
  | .HLD_ATOM_REF => sgn 32 h.atomRef
  | .HLD_ATOM_DEV => sgn 32 h.atomDev
  | .OUT_GRPB_OFS => sgn 64 (Int.tdiv s.out.ob 256)
  | .OUT_GRPC_OFS => sgn 64 (Int.tdiv s.out.oc 256)
  | .OUT_SQ_STAT => ((List.range 20).map fun i => bit1 (s.outU i).sq i).sum
  | _ => 0

/-! ### Measurement -/

/-- HEAD and TAIL of a table bank: the active or the previous table of calibrated unit `u`. -/
def State.bankHead (s : State) (u : Nat) (prev : Bool) : Nat :=
  let c := s.calU u
  if prev then optAt (c.prev.map Prod.fst) 0 16 else c.gen + 2 ^ 16

/-- E[c] of a table bank. -/
def State.bankE (s : State) (u : Nat) (prev : Bool) (c : Nat) : Nat :=
  let t := s.calU u
  tabE (if prev then (t.prev.map Prod.snd).getD none else t.tab) c

/-- GEN of a transmit and a receive path: the units `u` and `u + 1`. -/
def State.genPair (s : State) (u : Nat) : Nat := at_ (s.calU (u + 1)).gen 16 + (s.calU u).gen

/-- TDC (chapter 5, Registers). -/
def State.statTdc (s : State) (x : RegAt) : Nat :=
  let i := x.i
  match x.reg with
  | .TDC_SRC_DLY => (Config.srcDly i).toNat
  | .TDC_RING_PROD => (s.tdcCh i).prod
  | .TDC_GEN => s.genPair (2 * i)
  | .TDC_BANK_HEAD | .TDC_BANK_TAIL => s.bankHead i (decide (x.j = 1))
  | .TDC_BANK_E => s.bankE i (decide (x.j = 1)) x.l
  | _ => 0

/-- STATE of a front end and of a channel: those of a stopped block in HALT (R343). -/
def State.feState (s : State) (f : Nat) : Nat := if s.flt.halt then 0 else (s.fe f).st
/-- STAT.STATE of a channel. -/
def State.chState (s : State) (c : Nat) : Nat := if s.flt.halt then 0 else (s.chan c).st.code
/-- STAT of a job slot: in HALT a job that was waiting or running is cancelled. -/
def State.acqState (s : State) (j : Nat) : Nat :=
  let v := s.gnb.acq.get j 0
  if s.flt.halt ∧ (v = 1 ∨ v = 2) then 4 else v
/-- STATE of the swatch: in HALT one in progress is aborted. -/
def State.swState (s : State) : Nat :=
  let v := s.gnb.swSt
  if s.flt.halt ∧ (v = 1 ∨ v = 2) then 4 else v

/-- GNS (chapter 6, Registers). -/
def State.statGns (s : State) (x : RegAt) : Nat :=
  let i := x.i
  match x.reg with
  | .GNS_LATCH_N => s.gnb.ln % 2 ^ 32
  | .GNS_SPI_CTL => bit1 s.gnb.spiBusy 31
  | .GNS_IND_STAT => s.indHw
  | .GNS_BIAS_SEQ => s.gnb.biasSeq
  | .FE_STAT => at_ (s.feState i) 30
  | .FE_POW => (s.fe i).pow
  | .FE_SCNT => (s.fe i).scnt
  | .ACQ_STAT => s.acqState i
  | .SW_STAT => at_ s.swState 29 + s.gnb.swKib
  | .CH_STAT => at_ (s.chState i) 29 + bit1 (s.chan i).late 28
  | .CH_CODE_NOW => (s.chan i).cw
  | .CH_CARR_NOW => (s.chan i).rw
  | .GNS_LATCH_BANK => byteWord (s.gnb.banks.get i []) x.j
  | _ => 0

/-! ### Sequencers and networks -/

/-- SEQ and clusters (chapter 7, Registers). -/
def State.statSeq (s : State) (x : RegAt) : Nat :=
  let q := s.sq x.i
  match x.reg with
  | .SEQ_STAT => at_ q.st.code 29 + at_ q.trap 20 + q.pc
  | .SEQ_IMG => byteWord q.img x.j
  | .CLU_LOAD_STAT => at_ (s.clu x.i).load 30 + (s.clu x.i).loadCode
  | .CLU_SCHED => (s.clu x.i).evs.length
  | _ => 0

/-- FEC applies to the port (R193). -/
def State.fecApplies (s : State) (p : Nat) : Bool :=
  let m := s.fl .ETH_CFG 30 28 p
  decide (4 ≤ m) || (decide (m = 3) && decide (s.fl .ETH_CFG 27 26 p ≠ 0))

/-- Auto-negotiation runs: AN in modes 3 to 6 (R193). -/
def State.anRuns (s : State) (p : Nat) : Bool :=
  let m := s.fl .ETH_CFG 30 28 p
  s.portOn p && s.on .ETH_CFG 25 p && decide (3 ≤ m ∧ m ≤ 6)

/-- ETH_STAT (R193, R194). While the link is down, which lock of a running port is missing is not known. -/
def State.ethStat (s : State) (p : Nat) : Nat :=
  let v := (Config.ethLocks p s.gau.l).toNat
  let up := (s.ep p).link
  let fec := up || (s.portOn p && (!s.fecApplies p || bitOn v 1))
  let pcs := up || (s.portOn p && !fec && bitOn v 0)
  bit1 up 31 + bit1 pcs 30 + bit1 fec 29 + bit1 (s.anRuns p && bitOn v 2) 28

/-- ETH (chapter 9, Registers). -/
def State.statEth (s : State) (x : RegAt) : Nat :=
  let p := x.i
  let e := s.ep p
  match x.reg with
  | .ETH_STAT => s.ethStat p
  | .ETH_PAUSE_STAT =>
    at_ ((List.range 8).map fun c => bit1 (s.paused p c) c).sum 24 + bit1 ((List.range 9).any e.xoffOn) 23
  | .ETH_PREEMPT_STAT => at_ e.verify 29
  | .ETH_GEN => s.genPair (48 + 2 * p)
  | .ETH_PIN_DLY => (Config.ethPinDly p).toNat
  | .ETH_ROW_STAT => bit1 e.bank 31 + at_ e.err 28 + at_ e.slot 16
  | .ETH_ROW_LAND => e.land
  | .ETH_TXTS_STAT => e.txts.length
  | .ETH_LOOP => natOfWords e.loop
  | .ETH_RXQ_OCC => e.occ fun f => decide (f.q = x.j)
  | .ROWA_CYCLE => e.act.1
  | .ROWA_BASE => e.act.2.1
  | .ROWA_NSLOT => e.act.2.2
  | .ETH_BANK_HEAD | .ETH_BANK_TAIL => s.bankHead (48 + 2 * p + x.j / 2) (decide (x.j % 2 = 1))
  | .ETH_BANK_E => s.bankE (48 + 2 * p + x.j / 2) (decide (x.j % 2 = 1)) x.l
  | _ => 0

/-- Words 0 to 2 of a session entry (chapter 10, Registers). -/
def State.sessWord (s : State) (e : Session) : Nat → Nat
  | 0 =>
    let log := fun (g : Option Grant) => (g.map Grant.log).getD 0 % 256
    2 ^ 31 + at_ e.port 28 + bit1 e.v6 27 + bit1 e.ann.isSome 26 + bit1 e.sync.isSome 25 + bit1 e.dresp.isSome 24
      + at_ (log e.ann) 16 + at_ (log e.sync) 8 + log e.dresp
  | 1 => at_ (left e.ann) 16 + left e.sync
  | _ => left e.dresp
where
  /-- The seconds a grant still runs. -/
  left (g : Option Grant) : Nat := match g with
    | none => 0
    | some g => s.secsLeft g.until_

/-- The session entry of a number, if it is in use. -/
def State.sessAt (s : State) (n : Nat) : Option Session := (s.tsv.sess.find? fun p => p.1 == n).map Prod.snd

/-- TSV (chapter 10, Registers). -/
def State.statTsv (s : State) (x : RegAt) : Nat :=
  let t := s.tsv
  match x.reg with
  | .TSV_UC_STAT => t.sess.length
  | .TSV_NTS_KEY => optAt t.prev 8 15 + optAt t.cur 0 7
  | .TSV_MINT_REQ_CONS => t.reqCons % 2 ^ 16
  | .TSV_MINT_RES_PROD => t.resProd % 2 ^ 16
  | .PTP_STAT => if s.ptpOn x.i then at_ (s.inst x.i).st 29 else 0
  | .PTP_PARENT => if (s.inst x.i).st = 3 then ((s.inst x.i).parent.map Prod.fst).getD 0 else 0
  | .PTP_GM => if (s.inst x.i).st = 3 then (s.inst x.i).gm else 0
  | .TSV_SESSION => match s.sessAt x.i with
    | some e => s.sessWord e x.j
    | none => 0
  | .TSV_SESSION_ID => ((s.sessAt x.i).map Session.id).getD 0
  | .TSV_SESSION_PORT => ((s.sessAt x.i).map Session.idPort).getD 0
  | .TSV_SESSION_ADDR => ((s.sessAt x.i).map fun e => addrWord e.v6 e.addr x.j).getD 0
  | _ => 0

/-! ### Audio and mix -/

/-- STATE of an audio object as it reads: OFF while AUD is held stopped (R343, R389). -/
def State.objRead (s : State) (o : AudObj) : Nat := if s.quiet then 0 else s.objSt o

/-- STATE of an AES3 output: while it waits for the trigger, a value that no table states (R265). -/
def State.aesoRead (s : State) (p : Nat) : Nat :=
  if s.objRead (aesoObj p) = 5 then Config.aesoWait.toNat else s.objRead (aesoObj p)

/-- AUD (chapter 11, Registers). -/
def State.statAud (s : State) (x : RegAt) : Nat :=
  let i := x.i
  match x.reg with
  | .AUD_ROW => sgn 32 s.rowNum
  | .AUD_ASRC => if s.quiet then 0 else s.asrcUsed
  | .RXS_SSRC => (s.rxs i).ssrc.getD 0
  | .RXS_STAT => at_ (s.objRead (rxsObj i)) 30 + bit1 (s.rxs i).ssrc.isSome 29
  | .TXS_STAT => at_ (s.objRead (txsObj i)) 30
  | .AESI_STAT => at_ (s.objRead (aesiObj i)) 29
  | .AESO_STAT => at_ (s.aesoRead i) 29
  | _ => 0

/-- MIX (chapter 12, Registers). -/
def State.statMix (s : State) (x : RegAt) : Nat :=
  match x.reg with
  | .MIX_STAT => at_ (upTo 17 s.mix.waits.length) 15 + upTo 15 s.mix.ramps.length
  | .MIX_NODES => s.nodesTotal
  | .MIX_PROBE_VAL => s.node (s.inForce .MIX_PROBE) % 2 ^ 17
  | .MIX_STAT2 => s.mix.ramps.length
  | .MIX_ROLE => at_ (s.roleOuts x.i).length 28 + s.roleNodes x.i
  | .MIX_IMETER => (s.strip x.i).met
  | .MIX_OMETER => (s.strip (1024 + x.i)).met
  | _ => 0

/-! ### Keys, log and reports -/

/-- KEY (chapter 13, Registers). -/
def State.statKey (s : State) (x : RegAt) : Nat :=
  let k := s.kslot x.i
  match x.reg with
  | .KEY_TAMPER => at_ s.key.count 24
  | .KEY_SLOT_STAT =>
    let q := s.slotState 6 x.i
    at_ q.1 30 + bit1 q.2 29 + at_ k.bank 24 + k.gen
  | .KEY_SLOT_ATTR => k.cur.attr
  | _ => 0

/-- The bytes of the slot `k` back from the oldest unacknowledged record, among the acknowledged ones. -/
def freedBytes : List LogRec → Nat → List Byte
  | [], _ => List.replicate 32 0
  | r :: rs, k =>
    match r.cont, k with
    | none, 0 => recBytes r
    | none, k' + 1 => freedBytes rs k'
    | some c, 0 => c
    | some _, 1 => recBytes r
    | some _, k' + 2 => freedBytes rs k'

/-- The 32 bytes of ring slot `p` (R311). -/
def State.ringSlot (s : State) (p : Nat) : List Byte :=
  let d := (p + ringSlots - s.log.tail) % ringSlots
  if d < s.logUsed then slotBytes s.log.ring d else freedBytes s.log.freed (ringSlots - 1 - d)

/-- The latch of a requester as the ring window takes it: without one of LOG_TAIL or LOG_TAIL2, the present values. -/
def State.logLatch (s : State) (id : Nat) : Latch :=
  let q := s.latches.get id ⟨0, 0, 0, 0, 0⟩
  if q.addr = RegName.LOG_TAIL.addr ∨ q.addr = RegName.LOG_TAIL2.addr then q else ⟨0, 0, s.log.tail, 0, s.logUsed⟩

/-- Word `w` of window slot `j` for a requester (R312). -/
def State.ringWord (s : State) (id j w : Nat) : Nat :=
  let q := s.logLatch id
  if q.used ≤ q.j + j then 0 else byteWord (s.ringSlot ((q.b + j) % ringSlots)) w

/-- LOG and ATT (chapter 13, Registers) for a requester. -/
def State.statLog (s : State) (id : Nat) (x : RegAt) : Nat :=
  let i := x.i
  match x.reg with
  | .LOG_STAT => bit1 (decide (ringSlots ≤ s.logUsed)) 31 + at_ s.log.rsv.length 24 + s.logUsed
  | .LOG_TAIL => s.log.tail
  | .LOG_TAIL2 => (s.log.tail + 16384) % ringSlots
  | .LOG_HEAD => s.logHead
  | .LOG_SEQ => s.log.seq
  | .LOG_LINK => s.log.link
  | .LOG_GAPCNT => at_ s.log.gapUnaud 16 + s.log.gapFull
  | .LOG_RSV_WIN => match s.log.rsv.find? fun p => p.1 == i with
    | some p => byteWord (recBytes p.2) x.j
    | none => 0
  | .LOG_RING_WIN => s.ringWord id i x.j
  | .ATT_CTL => at_ (s.attSlot i).st 28 + (s.attSlot i).code
  | .ATT_REPORT => byteWord (s.attSlot i).rep x.j
  | .ATT_FUSE =>
    bit1 s.fuses.debugClose 31 + bit1 s.fuses.ownerLock 30 + bit1 s.fuses.hashv 29
      + ((List.range 4).map fun k => at_ (s.fuses.rollback.get k 0) (6 * k)).sum
  | .ATT_OWNER_HASH => byteWord s.fuses.hash i
  | .ATT_DEVID_PUB => (Config.devidPub i).toNat
  | _ => 0

/-! ### Stitch and supervision -/

/-- PAIRERR: a link named as a twin link is UP, and its peer does not belong to the pair (R327). -/
def State.pairErr (s : State) : Bool :=
  (List.range 4).any fun l => s.twinLink l && decide ((s.link l).st = .up) && !s.paired l

/-- STL (chapter 14, Registers). -/
def State.statStl (s : State) (x : RegAt) : Nat :=
  let t := s.twin
  let l := s.link x.i
  match x.reg with
  | .STL_HOPS => at_ s.hops 16 + optAt s.upstream 0 12
  | .STL_TWIN_STAT =>
    at_ t.role.code 29 + at_ (s.peerRole.getD 0) 26 + bit1 t.ready 25 + bit1 t.peerReady 24 + bit1 t.advise 23
      + bit1 t.diverged 22 + bit1 s.pairErr 21 + bit1 t.hoPend.isSome 20
  | .STL_TWIN_ROLE_AT => t.roleAt
  | .STL_LSTAT => at_ l.st.code 29 + at_ l.devnum 16 + at_ l.hops 8
  | .STL_PEER => at_ l.dom 16 + l.upstream
  | .STL_GEN => s.genPair (64 + 2 * x.i)
  | .STL_PIN_DLY => (Config.stlPinDly x.i).toNat
  | .STL_BANK_HEAD | .STL_BANK_TAIL => s.bankHead (64 + 2 * x.i + x.j / 2) (decide (x.j % 2 = 1))
  | .STL_BANK_E => s.bankE (64 + 2 * x.i + x.j / 2) (decide (x.j % 2 = 1)) x.l
  | _ => 0

/-- FLT (chapter 15, Registers). -/
def State.statFlt (s : State) (x : RegAt) : Nat :=
  let f := s.flt
  match x.reg with
  | .FLT_STAT =>
    at_ s.level 29 + bit1 f.relinq 28 + bit1 f.halt 27 + bit1 f.alive 26 + at_ f.lastSrc 16 + f.lastUnit
  | .FLT_LAST_GNS => f.lastGns
  | .FLT_INJ_STAT => at_ f.inj.state 30
  | .FLT_SRC_CFG => if x.i < 32 then at_ (fltMin x.i) 4 else 0
  | .FLT_SRC_STAT => bit1 (s.srcActive x.i) 31 + bit1 (s.fsrc x.i).inj 29 + (s.fsrc x.i).unit
  | _ => 0

/-- The 2,048 bytes of a recorder record (R351). -/
def recordBytes (r : RecRecord) : List Byte :=
  bytesLE 4 r.seq ++ bytesLE 2 (r.code % 256) ++ bytesLE 2 0 ++ bytesLE 4 r.arg ++ bytesLE 4 r.gfr ++ bytesLE 8 r.gns
    ++ bytesLE 4 r.bound ++ bytesLE 1 r.state ++ bytesLE 1 r.level ++ bytesLE 2 0 ++ bytesLE 8 r.count
    ++ bytesLE 4 r.supp ++ List.replicate 20 0 ++ r.units ++ List.replicate 56 0
    ++ (if r.mark then bytesLE 4 r.seq ++ bytesLE 4 (2 ^ 32 - 1 - r.seq) else List.replicate 8 0)

/-- The record in a slot of the recorder region. -/
def State.recSlot (s : State) (k : Nat) : List Byte := match s.rcd.slots.find? fun p => p.1 == k with
  | some p => recordBytes p.2
  | none => []

/-- REC (chapter 15, Registers). -/
def State.statRec (s : State) (x : RegAt) : Nat :=
  match x.reg with
  | .REC_STAT => at_ s.rcd.head 24 + at_ s.rcd.bufs.length 16
  | .REC_SEQ => s.rcd.seq
  | .REC_CODE_COUNT => s.rcd.count.get x.i 0
  | .REC_LIVE => byteWord (s.unitBytes x.i) x.j
  | .REC_WIN => byteWord (s.recSlot x.i) x.j
  | _ => 0

/-- PMC (chapter 15, Registers). -/
def State.statPmc (s : State) (x : RegAt) : Nat :=
  let b := s.pmc.banks.get x.i PmcBank.reset
  match x.reg with
  | .PMC_SWEEP_STAT => bit1 s.pmc.sweep.isSome 31 + at_ s.pmc.lastBank 30
  | .PMC_SAMP_PROD => s.pmc.sampProd
  | .PMC_BANK_HEAD => if x.j = 0 then b.seq else b.gfr
  | .PMC_BANK_GNS => b.gns
  | .PMC_BANK_ENTRY =>
    let c := b.entries.get x.j ⟨0, false⟩
    bit1 c.ovf 63 + c.count
  | .PMC_BANK_TAIL => b.tailSeq
  | _ => 0

/-! ### Host, memory, sideband and TOP -/

/-- MBX_STAT.STATE: a response before a refused GO before a waiting request. -/
def State.mbxState (s : State) : Nat :=
  if s.hst.rsp.isSome then 3 else if s.hst.busy then 2 else if s.hst.mbx.isEmpty then 0 else 1

/-- HST (chapter 16, Registers). -/
def State.statHst (s : State) (x : RegAt) : Nat :=
  match x.reg with
  | .HST_STAT => match s.hst.pcie with
    | none => 0
    | some (speed, width) => 2 ^ 31 + at_ speed 16 + width
  | .HST_WERR => at_ s.hostErr.code 24
  | .HST_WERR_ADDR => s.hostErr.addr
  | .HST_MBX_STAT => at_ s.mbxState 30 + s.hst.mbx.length
  | .HST_MBX_RSP => byteWord (s.hst.rsp.getD []) x.i
  | .DMA_CONS => (s.dq x.i).cons
  | _ => 0

/-- MEM (chapter 16, Registers). -/
def State.statMem (s : State) (x : RegAt) : Nat :=
  match x.reg with
  | .MEM_STAT => bit1 s.mem.ready 31 + s.mem.trained % 4
  | .MEM_SPARE => at_ (s.spareSt x.i) 28
  | _ => 0

/-- SBD (chapter 16, Registers). -/
def State.statSbd (s : State) (x : RegAt) : Nat :=
  match x.reg with
  | .SBD_STAT => optAt s.sbd.daddr 24 31
  | .SBD_WERR => at_ s.sbdErr.code 24
  | .SBD_WERR_ADDR => s.sbdErr.addr
  | _ => 0

/-- TOP (R32, chapter 17, Registers). -/
def State.statTop (s : State) (x : RegAt) : Nat :=
  let c := s.cast_
  match x.reg with
  | .TOP_ID => 0x88400100
  | .TOP_CAST => at_ c.st 28 + bit1 c.warm 27 + bit1 c.part 26 + at_ c.img 24 + c.code
  | .TOP_CONFIG => optAt c.sel 22 21 + at_ c.csSt 19 + bit1 s.log.held 9 + c.csCode
  | .TOP_BINDOFF => at_ c.bind 28
  | .TOP_TEMP => (Config.temp s.wt).toNat
  | .TOP_CFGIMG => match c.slots.get x.i none with
    | none => 0
    | some i => 2 ^ 31 + at_ i.kib 16 + leNat (i.digest.take 2)
  | .TOP_GPIO_IN => (Config.gpioIn s.wt).toNat
  | _ => 0

/-- The read-only fields of a register, for a requester by its number. -/
def State.statusOf (s : State) (id : Nat) (x : RegAt) : Nat :=
  match groupOf x.first with
  | some 0 => s.statTop x
  | some 1 => s.statGau x
  | some 2 => s.statSel x
  | some 3 | some 4 => s.statHld x
  | some 5 => s.statTdc x
  | some 6 => s.statGns x
  | some 7 => s.statSeq x
  | some 8 => s.statEth x
  | some 9 => s.statTsv x
  | some 10 => s.statAud x
  | some 11 => s.statMix x
  | some 12 => s.statKey x
  | some 13 => s.statLog id x
  | some 14 => s.statStl x
  | some 15 => s.statFlt x
  | some 16 => s.statRec x
  | some 17 => s.statPmc x
  | some 18 => s.statHst x
  | some 19 => s.statMem x
  | some 20 => s.statSbd x
  | _ => 0

/-- The value of a register as a read finds it: what was last written to its RW fields, what hardware keeps, and its
read-only fields (R8); nothing of a core group while the core is off (R21). -/
def State.readReg (s : State) (id : Nat) (x : RegAt) : Nat :=
  let off := match groupOf x.first with
    | some g => !aonGroup g && !s.coreOn
    | none => true
  if off then 0 else s.lastAt x ||| s.hw.get x.first 0 ||| s.statusOf id x

end Sys2Proof.Machine
end

