-- ==== Sys2Proof/Machine/Gate.lean ====
section
/-! DEFINITION. The write gate (R303 to R309, R404): what a change is judged by, its record, its release and its refusal; and how
a write of one word reaches it (R5 to R9, R31, R35, R361). -/

namespace Sys2Proof.Machine

/-! ### Bulk writes (R165, R267, R304) -/

/-- One word of a bulk write: the word or the register it names takes it. Lower words of a wide register wait in `low`. -/
structure BulkAcc where
  s : State
  low : List Nat
  code : Code

/-- A bulk write must lie within the mix window or within one sequencer's stride (R364). -/
def bulkRange (a n : Nat) : Bool :=
  decide (a % 4 = 0 ∧ 0 < n) &&
  match groupOf a with
  | some 11 => decide (a + 4 * n ≤ 0x01800000)
  | some 21 => decide ((a - 0x02000000) / 0x20000 = (a + 4 * n - 1 - 0x02000000) / 0x20000)
  | _ => false

/-- The value that the highest word of a register in a bulk write completes: the lower words of the write, and below them those that the
register holds (R7). -/
def BulkAcc.value (b : BulkAcc) (x : RegAt) (top : Nat) : Nat :=
  let k := x.word - b.low.length
  natOfWords ((List.range k).map (fun w => w32 (b.s.lastAt x / 2 ^ (32 * w))) ++ (b.low ++ [top]).map w32)

/-- A word of a bulk write is judged and lands. -/
def bulkWord (q : Nat) (b : BulkAcc) (p : Nat × Word) : BulkAcc :=
  if b.code ≠ .none then b
  else if 0x02000000 ≤ p.1 then
    match b.s.judgeSeqMem p.1 with
    | .none => { b with s := b.s.putSeqMem p.1 p.2.toNat }
    | c => { b with code := c }
  else match lookupReg p.1 with
    | none => { b with code := .unmapped }
    | some x =>
      if x.word + 1 < x.reg.geo.words then { b with low := b.low ++ [p.2.toNat] }
      else
        let v := b.value x p.2.toNat
        match b.s.judgeFields x v with
        | .none => { b with s := b.s.doWrite x v q, low := [] }
        | c => { b with code := c }

/-- A bulk write word by word: the state with all of it, or the first refusal. -/
def State.bulkAll (s : State) (a : Nat) (d : List Word) (q : Nat) : BulkAcc :=
  (d.mapIdx fun i w => (a + 4 * i, w)).foldl (bulkWord q) ⟨s, [], .none⟩

/-! ### Judgement (R404) -/

/-- A register write. -/
def State.judgeReg (s : State) (org : Origin) (ownerOk : Bool) (a v : Nat) : Code :=
  (s.judgeAccess org ownerOk a).orElse
    (match lookupReg a with
      | none => .unmapped
      | some x => s.judgeFields x v)

/-- A bulk write. -/
def State.judgeBulk (s : State) (org : Origin) (ownerOk : Bool) (a : Nat) (d : List Word) : Code :=
  (s.judgeAccess org ownerOk a).orElse
    (if 4194304 < d.length ∨ ¬ bulkRange a d.length then .range else (s.bulkAll a d 0).code)

/-- The code that refuses a change at this instant; at the record a commit is refused only where its transaction is over. -/
def State.judge (s : State) (e : GateEntry) (release : Bool) : Code :=
  match e.ch with
  | .reg a v => s.judgeReg e.org e.ownerOk a v
  | .bad _ _ c => c
  | .seqmem a _ => (s.judgeAccess e.org e.ownerOk a).orElse (s.judgeSeqMem a)
  | .bulk a d _ => s.judgeBulk e.org e.ownerOk a d
  | .commit n _ =>
    if release then s.judgeCommit n else need (decide (s.sel.txn.map Txn.num = some n)) .stale
  | .fsel k => s.judgeFsel k
  | .gstep _ t amt _ => if s.coreOn then s.judgeStep t amt else .coreOff
  | .bindoff _ => (need e.ownerOk .owner).orElse s.judgeBind
  | .cfgSelect o =>
    (need e.ownerOk .owner).orElse ((need (decide (o.getD 0 < 4))).orElse (s.judgeSelect o))
  | .cfgSave k => (need e.ownerOk .owner).orElse ((need (decide (k < 4))).orElse s.judgeSave)

/-! ### Records (R307, R308) -/

/-- The continuation of a WIDE record. -/
def wideCont (old new : Nat) : List Byte := bytesLE 12 old ++ bytesLE 12 new ++ bytesLE 8 0

/-- A STEP record. -/
def State.stepRec (s : State) (t : Nat) (amt : Int) (clr gstep : Bool) (org : Origin) (c : Code) : LogRec :=
  s.mkRec 14 t (t / 2 ^ 32) (bit1 clr 0 + bit1 gstep 1) org c false (some (bytesLE 12 (wrapTo 96 amt).toNat ++ bytesLE 20 0))

/-- A KEY record, or the ZEROIZE record of operation 6, with CAUSE and COUNT as the zeroization leaves them; a refused one leaves them
alone. -/
def State.keyRec (s : State) (v : Nat) (org : Origin) (c : Code) : LogRec :=
  let op := bits v 26 24
  let slot := bits v 13 8
  if op = 6 then
    let t := if c = .none then s.zeroize 4 else s
    s.mkRec 10 (bits (t.hwOf .KEY_TAMPER) 20 16) t.key.count 0 org c
  else
    let old := (s.kslot slot).commit
    s.mkRec 4 (op + slot * 2 ^ 8 + bits v 21 16 * 2 ^ 16) old
      (if c = .none then s.newCommit op slot else old) org c

/-- A FUSE record. -/
def State.fuseRec (s : State) (v : Nat) (org : Origin) (c : Code) : LogRec :=
  let f := bits v 18 16
  s.mkRec 6 f (s.fuseOld f) (if c = .none then fuseNew v else s.fuseOld f) org c false
    (if f = 2 then some s.stagedHash else none)

/-- An EXPORT record: what the acknowledgement frees, nothing where it is refused. -/
def State.exportRec (s : State) (v : Nat) (org : Origin) (c : Code) : LogRec :=
  let n := match (if c = .none then s.ackNamed (bits v 31 0) (bits v 95 32) else none) with
    | some r => (s.log.ring.filter fun x => x.seq ≤ r.seq).length + (s.log.rsv.filter fun p => p.2.seq ≤ r.seq).length
    | none => 0
  s.mkRec 7 0 (bits v 31 0) n org c

/-- The value of a register before a change, as a read finds it (R308). -/
def State.valueBefore (s : State) (x : RegAt) : Nat := s.readReg (reqId .host) x

/-- The record of a register write. -/
def State.regRec (s : State) (x : RegAt) (v : Nat) (org : Origin) (c : Code) : LogRec :=
  match x.reg with
  | .LOG_ACK => s.exportRec v org c
  | .GAU_STEP_AT => s.stepRec v (sext 96 (s.inForce .GAU_STEP_AMT)) (s.on .GAU_STEP_CTL 0) false org c
  | r =>
    if r = .KEY_OP ∧ bitOn v 31 then s.keyRec v org c
    else if r = .ATT_FUSE_CMD ∧ bitOn v 31 then s.fuseRec v org c
    else if r = .STL_TWIN_CTL ∧ bitOn v 30 then s.mkRec 9 0 0 0 org c
    else if r = .TOP_BINDOFF ∧ bitOn v 31 then s.mkRec 11 0 (bit1 (bitOn v 30) 0) 0 org c
    else if x.reg.geo.words = 1 then s.mkRec 0 x.first (s.valueBefore x) v org c
    else s.mkRec 1 x.first (s.valueBefore x) v org c false (some (wideCont (s.valueBefore x) v))

/-- TOP_CONFIG before a change. -/
def State.configBefore (s : State) : Nat :=
  match lookupReg RegName.TOP_CONFIG.addr with
  | some x => s.valueBefore x
  | none => 0

/-- The record of a change with this judgement. -/
def State.recOf (s : State) (e : GateEntry) (c : Code) : LogRec :=
  match e.ch with
  | .reg a v => match lookupReg a with
    | some x => s.regRec x v e.org c
    | none => s.mkRec 0 a 0 v e.org c
  | .bad a v _ => match lookupReg a with
    | some x => s.mkRec 0 a (s.valueBefore x / 2 ^ (32 * x.word)) v e.org c
    | none => s.mkRec 0 a 0 v e.org c
  | .seqmem a v => s.mkRec 0 a (s.getSeqMem a) v e.org c
  | .bulk a d _ => s.mkRec 2 a (4 * d.length) 0 e.org c false (some (Config.sha256 (bytesOfWords d)))
  | .commit n k => s.mkRec 5 (selectAddr k false 0) (fromWord s.sel.sel) n e.org c
  | .fsel k => s.mkRec 5 (selectAddr k true 2) (fromWord s.sel.fsel) 0 e.org c
  | .gstep _ t amt clr => s.stepRec t amt clr true e.org c
  | .bindoff z => s.mkRec 11 0 (bit1 z 0) 0 e.org c
  | .cfgSelect o =>
    s.mkRec 0 RegName.TOP_CONFIG.addr s.configBefore (2 ^ 30 + bit1 o.isNone 29 + o.getD 0 * 2 ^ 24) e.org c
  | .cfgSave k => s.mkRec 0 RegName.TOP_CONFIG.addr s.configBefore (2 ^ 31 + k * 2 ^ 24) e.org c

/-- LOG_ACK, RELINQUISH, ZEROIZE and bind-off are never refused for lack of room (R311). -/
def exemptKind (k : Nat) : Bool := decide (k = 7 ∨ k = 9 ∨ k = 10 ∨ k = 11)

/-! ### Refusal, record and release (R303, R305, R402, R404) -/

/-- A recorded refusal takes effect on its path and on the block; a write that R28 does not permit raises its fault source. -/
def State.refused (s : State) (e : GateEntry) (c : Code) : State :=
  let s1 := (s.werr e.org e.ch.addr c).tellRefused e.ch e.org c
  match e.org, c with
  | .seq n, .seqWperm => s1.fault 14 n
  | _, _ => s1

/-- The gate with its first change that has no record replaced, or taken out. -/
def replaceFirst (l : List GateEntry) (new : Option GateEntry) : List GateEntry :=
  match l with
  | [] => []
  | e :: r => if e.recorded.isNone then new.toList ++ r else e :: replaceFirst r new

/-- A mirrored write of an ACTIVE device is sent to the peer with its apply instant, which follows the LINK write (R332). -/
def State.mirrorOut (s : State) (e : GateEntry) : Option Nat × State :=
  let go (a kib : Nat) (v : Nat) : Option Nat × State :=
    match groupOf a with
    | some g =>
      if s.twin.role = .active ∧ s.mirrored g ∧ e.org ≠ .twin ∧ s.twinFirst.isSome then
        let t := s.rowAfter (250000 + 1000 * kib)
        (some t, ({ s with twin := { s.twin with mirrored := s.twin.mirrored ++ [t] } } : State).send (.mirror a v t))
      else (e.apply, s)
    | none => (e.apply, s)
  match e.ch with
  | .reg a v => go a 0 v
  | .seqmem a v => go a 0 v
  | .bulk a d _ => go a (ceilDiv (4 * d.length) 1024) (natOfWords d)
  | _ => (e.apply, s)

/-- Warden writes the record of the first change that has none, after its judgement (R303, R404). -/
def State.recordEntry (s : State) (e : GateEntry) : State :=
  let c := s.judge e false
  let r := s.recOf e c
  let drop (t : State) : State := { t with log := { t.log with gate := replaceFirst t.log.gate none } }
  match if exemptKind r.kind then some (s.recordExempt r) else s.recordNormal r with
  | none => (drop s).refuseUnrecorded e .auditFull
  | some t =>
    if c ≠ .none then (drop t).refused e c
    else
      let m := t.mirrorOut e
      { m.2 with log := { m.2.log with
          gate := replaceFirst m.2.log.gate (some { e with recorded := some t.log.seq, apply := m.1 }) } }

/-- Warden may begin a record: it runs, and no capture holds the gate. -/
def State.gateOpens (s : State) : Bool := s.warden.up && !s.log.held

/-- The next record is written. -/
def State.recordNext (s : State) : State :=
  if s.gateOpens then
    match s.log.gate.find? fun e => e.recorded.isNone with
    | some e => s.recordEntry e
    | none => s
  else s

/-- The applied change. -/
def State.applyChange (s : State) (e : GateEntry) : State :=
  let q := e.recorded.getD 0
  match e.ch with
  | .reg a v => match lookupReg a with
    | some x =>
      let t := s.doWrite x v q
      if x.reg = .SEL_HOSTSET then t.hostset v e.gauge e.cand30 else t
    | none => s
  | .bad _ _ _ => s
  | .seqmem a v => s.putSeqMem a v
  | .bulk a d k => (s.bulkAll a d q).s.bulkDone k 0 0
  | .commit n _ => s.commitEdge n
  | .fsel k => s.takeFsel k
  | .gstep n t amt clr => s.takeStep t amt clr (some n)
  | .bindoff z => s.takeBind e.org z q
  | .cfgSelect o => (s.takeSelect o).sbdEnds e.org 0x11 0 (selectAnswer o)
  | .cfgSave k => s.takeSave e.org k

/-- A word of a sideband WRITE has been released, or had nothing to wait for. -/
def State.sbdWordDone (s : State) : State :=
  match s.sbd.wr with
  | none => s
  | some w => if w.busy then { s with sbd := { s.sbd with wr := some { w with i := w.i + 1, busy := false } } } else s

/-- What an applied write tells its origin. -/
def State.originDone (s : State) (e : GateEntry) : State :=
  match e.ch, e.org with
  | .reg _ _, .seq n => s.wrDone n true
  | .reg _ _, .sideband | .seqmem _ _, .sideband => s.sbdWordDone
  | _, _ => s

/-- The release edge of a recorded change: judged again, then applied, or refused with a deferred record (R404). -/
def State.releaseEntry (s : State) (e : GateEntry) : State :=
  let c := s.judge e true
  if c = .none then (s.applyChange e).originDone e |>.sample 11 0 (s.wt - e.at_ : Nat)
  else
    let s1 := match e.ch with
      | .commit n _ => s.commitEdge n
      | _ => s.refused e c
    s1.recordDeferred { s.recOf e c with deferred := true }

/-- The oldest change has its record, its apply instant has come, and nothing holds the gate. -/
def State.releasable (s : State) (e : GateEntry) : Bool :=
  e.recorded.isSome && !s.log.held && match e.apply with
    | none => true
    | some t => decide (t ≤ s.gns)

/-- The gate releases its oldest change (R303). -/
def State.releaseNext (s : State) : State :=
  match s.log.gate with
  | [] => s
  | e :: r =>
    if s.releasable e then ({ s with log := { s.log with gate := r } } : State).releaseEntry e else s

/-- Warden has not begun a record within 10 ms of its change's arrival (R305); a ZEROIZE then takes effect without one (R298). -/
def State.auditBusyOp (s : State) : State :=
  let late (e : GateEntry) : Bool := e.recorded.isNone && decide (e.at_ + 10000000 ≤ s.wt)
  let s1 : State := { s with log := { s.log with gate := s.log.gate.filter fun e => !late e } }
  (s.log.gate.filter late).foldl (fun t e =>
    if e.ch.isZeroize then
      (({ t with log := { t.log with gapUnaud := satAdd 0xFFFF t.log.gapUnaud 1 } } : State).applyChange e).originDone e
    else t.refuseUnrecorded e .auditBusy) s1

/-! ### Submission (R5 to R9, R31, R35, R361) -/

/-- The change is a write of a register or a memory word. -/
def Change.posted : Change → Bool
  | .reg _ _ | .bad _ _ _ | .seqmem _ _ => true
  | _ => false

/-- Host writes that wait (R361). -/
def State.hostWaits (s : State) : Nat := (s.log.gate.filter fun e => decide (e.org = .host) && e.ch.posted).length

/-- A change arrives at the gate. Where the gate is empty its record and release follow at once. -/
def State.submitChange (s : State) (ch : Change) (org : Origin) : State :=
  let e := s.entry ch org (s.ownerMay org ch.addr)
  if s.warden.down ∧ ¬ ch.isZeroize then s.refuseUnrecorded e .wardenDown
  else
    let s1 : State := { s with log := { s.log with gate := s.log.gate ++ [e] } }
    if s.log.gate = [] then s1.recordNext.releaseNext else s1

/-- A register with no field that a write changes: all RO or RC (R8). -/
def RegAt.readOnly (x : RegAt) : Bool := x.fs.all fun f => f.acc == .ro || f.acc == .rc

/-- The write of a register is not audited: none of its fields is of class S, E or D (R12), or its chapter says so (R291,
R301, R352, R365). -/
def RegAt.unaudited (x : RegAt) : Bool :=
  match x.reg with
  | .REC_CTL | .REC_UNIT_CLR | .ATT_NONCE | .ATT_CTL | .KEY_OP_ATTR | .KEY_CTX | .KEY_DATA | .HST_MBX_CTL | .HST_MBX_REQ => true
  | _ => x.fs.all fun f => f.acc == .ro || f.acc == .rc || f.cls == .n

/-- The owner of the group does not matter (R357). -/
def RegAt.anyOwner (x : RegAt) : Bool :=
  match x.reg with
  | .REC_CTL | .REC_UNIT_CLR => true
  | _ => false

/-- The host mailbox takes a request (R365). -/
def State.mbxTake (s : State) : State :=
  let head := (s.hst.req.get 0 0)
  let len := bits head 31 16
  let words := (List.range (1 + (len + 3) / 4)).map fun w => w32 (s.hst.req.get w 0)
  { s with hst := { s.hst with mbx := s.hst.mbx ++ [(bytesOfWords words).take (4 + len)], busy := false } }

/-- An accepted write of HST_MBX_CTL (R365). -/
def State.mbxCtl (s : State) (v : Nat) : State :=
  let s1 : State := if bitOn v 30 then { s with hst := { s.hst with rsp := none } } else s
  if bitOn v 31 then s1.mbxTake else s1

/-- A refused write of HST_MBX_CTL leaves BUSY set, and is counted (R354, R365). -/
def State.mbxFull (s : State) (x : RegAt) : State :=
  if x.reg = .HST_MBX_CTL then ({ s with hst := { s.hst with busy := true } } : State).pmcEv 1016 1023 5 else s

/-- The code that refuses a write that is not audited, by its block. -/
def State.judgeUnaudited (s : State) (x : RegAt) (v : Nat) : Code :=
  match x.reg with
  | .ATT_CTL => if bitOn v 31 then s.attRefuses x.i else .none
  | .HST_MBX_CTL => need (!bitOn v 31 || decide (s.hst.mbx.length < 4)) .busy
  | _ => .none

/-- The path of a recorder command (R352). -/
def recPath : Requester → Nat
  | .sideband => 1
  | _ => 0

/-- A write of REC_CTL (R352). -/
def State.recCtl (s : State) (r : Requester) (v : Nat) : State :=
  let s1 := if bitOn v 31 then s.clrAll (recPath r) else s
  let s2 := if bitOn v 30 then s1.clrCnt else s1
  if bitOn v 29 then s2.recEvent 0x3F 0 else s2

/-- A write that is not audited takes effect. -/
def State.actNow (s : State) (r : Requester) (x : RegAt) (v : Nat) : State :=
  match x.reg with
  | .REC_CTL => s.recCtl r v
  | .REC_UNIT_CLR => if bitOn v 31 then s.clrUnit x.i else s
  | .ATT_NONCE => s.setAttSlot x.i { s.attSlot x.i with nonce := (s.attSlot x.i).nonce.set x.j v }
  | .ATT_CTL => if bitOn v 31 then s.attGo x.i else s
  | .KEY_OP_ATTR => s.keyParam r .attr v
  | .KEY_CTX => s.keyParam r .ctx v
  | .KEY_DATA => s.keyParam r (.data (Fin.ofNat 10 x.i)) v
  | .HST_MBX_REQ => { s with hst := { s.hst with req := s.hst.req.set x.i v } }
  | .HST_MBX_CTL => s.mbxCtl v
  | _ => s.doWrite x v 0

/-- A write that changes nothing or waits for nothing has ended for its requester. -/
def State.wordEnds (s : State) : Requester → State
  | .seq n => s.wrDone n true
  | .sideband => s.sbdWordDone
  | _ => s

/-- A write of a register whose write is not audited: what its access refuses is audited as refused (R21, R343, R357). A refused write
changes no field (R402); HST_MBX_STAT shows that the mailbox was full (R365). -/
def State.submitPlain (s : State) (r : Requester) (x : RegAt) (v : Nat) : State :=
  let org := Origin.ofReq r
  match s.judgeAccess org (x.anyOwner || s.ownerMay org x.first) x.first with
  | .none =>
    match s.judgeUnaudited x v with
    | .none => (s.actNow r x v).wordEnds r
    | c => ((s.mbxFull x).werr org x.first c).originTold org c
  | c => s.submitChange (.bad x.first v c) org

/-- As whose a write of a register with only RO fields is judged: a sequencer's by its own permissions (R28, R158); the others' are not
refused for their owner, since such a write has no effect (R8). -/
def roOrigin : Requester → Origin
  | .seq n => .seq n
  | _ => .warden

/-- A write of a register with only RO fields: no effect, and no audit but of the refusals of R21 and R343. The header of the active
Row table is refused (R207). -/
def State.submitRo (s : State) (r : Requester) (x : RegAt) (v : Nat) : State :=
  match s.judgeAccess (roOrigin r) true x.first with
  | .none =>
    match x.reg with
    | .ROWA_CYCLE | .ROWA_BASE | .ROWA_NSLOT => s.submitChange (.bad x.first v .static) (Origin.ofReq r)
    | _ => s.wordEnds r
  | c => s.submitChange (.bad x.first v c) (Origin.ofReq r)

/-- A write of the whole value of a register. -/
def State.submitReg (s : State) (r : Requester) (x : RegAt) (v : Nat) : State :=
  if x.readOnly then s.submitRo r x v
  else if x.unaudited then s.submitPlain r x v
  else s.submitChange (.reg x.first v) (Origin.ofReq r)

/-- A write arrives: one of the host needs a link that is not down (R34), and room in the queue of posted writes (R361). -/
def State.hostTakes (s : State) (r : Requester) : Bool :=
  !decide (r = .host) || (!s.hst.down && decide (s.hostWaits < 32))

/-- A host write is counted (R354). -/
def State.counted (s : State) (r : Requester) : State := if r = .host then s.pmcEv 1016 1023 1 else s

/-- Requester `r` writes a register by name: the whole value at once. -/
def State.submit (s : State) (r : Requester) (n : RegName) (v : Nat) (i : Nat := 0) (j : Nat := 0) (l : Nat := 0) : State :=
  if s.hostTakes r then (s.counted r).submitReg r ⟨n, i, j, l, n.geo.words - 1⟩ v else s

/-- The key under which a requester's lower word waits (R7). -/
def stageKey (id a : Nat) : Nat := id * 2 ^ 32 + a

/-- The value that a write of the highest word completes: the lower words as the requester last wrote them, else as the register
holds them (R7). -/
def State.assemble (s : State) (id : Nat) (x : RegAt) (top : Nat) : Nat :=
  natOfWords ((List.range x.word).map fun w =>
    s.staged.get (stageKey id (x.first + 4 * w)) (w32 (s.lastAt x / 2 ^ (32 * w)))) + top * 2 ^ (32 * x.word)

/-- The lower words of a register that a requester has staged are spent. -/
def State.unstage (s : State) (id : Nat) (x : RegAt) : State :=
  { s with staged := s.staged.filter fun p =>
      decide (p.1 < stageKey id x.first ∨ stageKey id (x.first + 4 * x.reg.geo.words) ≤ p.1) }

/-- Requester `r` writes one aligned word (R5 to R9, R31). -/
def State.writeWord (s : State) (r : Requester) (a v : Nat) : State :=
  if ¬ s.hostTakes r then s
  else match groupOf a with
    | some 21 =>
      if (seqMemAt a).isSome then s.submitChange (.seqmem a v) (Origin.ofReq r)
      else s.submitChange (.bad a v .unmapped) (Origin.ofReq r)
    | _ => match lookupReg a with
      | none => s.submitChange (.bad a v .unmapped) (Origin.ofReq r)
      | some x =>
        if x.word + 1 < x.reg.geo.words ∧ ¬ x.readOnly then
          ({ s with staged := s.staged.set (stageKey (reqId r) a) (w32 v) } : State).wordEnds r
        else (s.unstage (reqId r) x).submitReg r x (if x.readOnly then v else s.assemble (reqId r) x v)

/-- A register write of any width and place: one that is not an aligned word is refused (R5). -/
def State.writeAccess (s : State) (r : Requester) (q : Access) (v : Nat) : State :=
  if q.size = 4 ∧ q.addr.toNat % 4 = 0 then (s.counted r).writeWord r q.addr.toNat v
  else if s.hostTakes r then (s.counted r).submitChange (.bad q.addr.toNat v .width) (Origin.ofReq r)
  else s

end Sys2Proof.Machine
end

