-- ==== Sys2Proof/Machine/Reads.lean ====
section
/-! DEFINITION. Reads of registers by word: latches, fields a read clears, windows (R5, R6, R8, R21, R31, R59, R158, R312, R361). -/

namespace Sys2Proof.Machine

/-- A read of the register clears its RC fields (R8). -/
def State.clearRc (s : State) (x : RegAt) : State :=
  if x.fs.any fun f => f.acc == .rc then
    { s with hw := s.hw.set x.first (x.fs.foldl (fun h f => if f.acc == .rc then putBits h f.hi f.lo 0 else h)
        (s.hw.get x.first 0)) }
  else s

/-- A read of the register at a word that is its only one or its lowest: the latch, the pop of R216, the window base of R312,
the fields it clears. -/
def State.readFirst (s : State) (r : Requester) (x : RegAt) : Nat × State :=
  let v := s.readReg (reqId r) x
  match x.reg with
  | .ETH_TXTS =>
    let t := s.popStamp r x.i
    ((t.latches.get (reqId r) ⟨0, 0, 0, 0, 0⟩).val % 2 ^ 32, t)
  | .LOG_TAIL =>
    (v, { s with latches := s.latches.set (reqId r) ⟨x.first, v, s.log.tail, 0, s.logUsed⟩ })
  | .LOG_TAIL2 =>
    (v, { s with latches := s.latches.set (reqId r) ⟨x.first, v, (s.log.tail + 16384) % ringSlots, 16384, s.logUsed⟩ })
  | _ =>
    let t := if s.readReg (reqId r) x = 0 then s else s.clearRc x
    (v % 2 ^ 32, if 1 < x.reg.geo.words then t.setLatch r x.first v else t)

/-- A read of a higher word: from the latch where it holds this register, else the present value (R6). -/
def State.readHigh (s : State) (r : Requester) (x : RegAt) : Nat :=
  let q := s.latches.get (reqId r) ⟨0, 0, 0, 0, 0⟩
  let v :=
    if (s.latches.any fun p => p.1 == reqId r) ∧ q.addr = x.first then q.val
    else if x.reg = .ETH_TXTS then 0 else s.readReg (reqId r) x
  v / 2 ^ (32 * x.word) % 2 ^ 32

/-- A sequencer reads nothing of KEY and SEQMEM (R158). -/
def seqBlind (r : Requester) (a : Nat) : Bool :=
  match r with
  | .seq _ => decide (groupOf a = some 12 ∨ groupOf a = some 21)
  | _ => false

/-- Requester `r` reads the word at `a`: the word and the state that the read leaves. -/
def State.readWord (s : State) (r : Requester) (a : Nat) : Nat × State :=
  if a % 4 ≠ 0 ∨ seqBlind r a then (0, s)
  else if groupOf a = some 21 then (if s.coreOn then s.getSeqMem a else 0, s)
  else match lookupReg a with
    | none => (0, s)
    | some x => if x.word = 0 then s.readFirst r x else (s.readHigh r x, s)

/-- A read completes. -/
def State.readDone (s : State) (r : Requester) (a : Nat) : State :=
  let q := s.readWord r a
  let t := q.2.send (.rdata (reqId r) a q.1)
  if r = .host then t.pmcEv 1016 1023 0 else t

/-- A read command: a host read does not arrive while the link is down (R34), and waits behind host writes that have not been released or
refused (R361). -/
def State.readCmd (s : State) (r : Requester) (a : Nat) : State :=
  if r = .host ∧ s.hst.down = true then s
  else if r = .host ∧ (s.hostWaits ≠ 0 ∨ s.hst.reads ≠ []) then { s with hst := { s.hst with reads := s.hst.reads ++ [a] } }
  else s.readDone r a

/-- The host reads that waited complete once no host write waits (R361). -/
def State.serveReads (s : State) : State :=
  if s.hostWaits = 0 then
    s.hst.reads.foldl (fun t a => t.readDone .host a) { s with hst := { s.hst with reads := [] } }
  else s

/-! ### The commands -/

/-- LOW_WORD_READ (R6). -/
def execLowWordRead (r : Requester) (addr : Word) (s : State) : Res := .next (s.readCmd r addr.toNat)

/-- RC_READ (R8). -/
def execRcRead (r : Requester) (addr : Word) (s : State) : Res := .next (s.readCmd r addr.toNat)

/-- GAU_SNAP_READ (R59). -/
def execGauSnapRead (r : Requester) (s : State) : Res := .next (s.readCmd r RegName.GAU_SNAP.addr)

/-- LOG_TAIL_READ (R312). -/
def execLogTailRead (r : Requester) (s : State) : Res := .next (s.readCmd r RegName.LOG_TAIL.addr)

/-- LOG_TAIL2_READ (R312). -/
def execLogTail2Read (r : Requester) (s : State) : Res := .next (s.readCmd r RegName.LOG_TAIL2.addr)

/-- ETH_TXTS_POP (R216). -/
def execEthTxtsPop (r : Requester) (p : Fin 8) (s : State) : Res := .next (s.readCmd r (RegName.ETH_TXTS.addr p))

end Sys2Proof.Machine
end

