-- ==== Sys2Proof/Machine/Serve.lean ====
section
/-! DEFINITION. What Warden serves: the write gate's records and releases as commands (R303 to R306, R332), register writes (R5 to
R12), image loads (R168), Warden's restart (R344), the sideband commands and the host mailbox (R365, R366, R369, R390). -/

namespace Sys2Proof.Machine

/-! ### The sideband WRITE in progress (R369) -/

/-- The next word of a WRITE is issued, or its answer goes out. -/
def State.sbdIssue (s : State) : State :=
  match s.sbd.wr with
  | none => s
  | some w =>
    if w.busy then s
    else match w.rest with
      | [] => ({ s with sbd := { s.sbd with wr := none } } : State).sbdSend w.seq 0 (bytesLE 2 w.n)
      | v :: r =>
        ({ s with sbd := { s.sbd with wr := some { w with rest := r, busy := true } } } : State).writeAccess .sideband
          ⟨4, w32 (w.addr + 4 * w.i)⟩ v

/-- At most `k` words of a WRITE are issued, each once the one before has been released. -/
def State.sbdIssues (s : State) : Nat → State
  | 0 => s
  | k + 1 => s.sbdIssue.sbdIssues k

/-- The sideband WRITE goes on as far as it can. -/
def State.sbdDrive (s : State) : State :=
  match s.sbd.wr with
  | none => s
  | some w => s.sbdIssues (w.rest.length + 1)

/-- What waited for the write gate goes on: host reads (R361) and the sideband WRITE (R369). -/
def State.afterGate (s : State) : State := s.serveReads.sbdDrive

/-! ### Register writes (R5 to R12, R31) -/

/-- REGISTER_WRITE: an access of any width and place. -/
def execRegisterWrite (r : Requester) (a : Access) (v : Word) (s : State) : Res := .next (s.writeAccess r a v.toNat)

/-- WIDE_WRITE: the write of the highest word of a wide value, with the lower words that wait (R7). -/
def execWideWrite (r : Requester) (addr v : Word) (s : State) : Res := .next (s.writeAccess r ⟨4, addr⟩ v.toNat)

/-- The present edge is this boundary, where the state can tell (R11, R22, R51, R99). -/
def State.atEdge (s : State) : Boundary → Bool
  | .second => s.atSec
  | .row => s.rowEdge
  | .pulse j => s.ppsHere j
  | .latch => s.latchDue && s.fresh 0x100
  | .dump c => s.dumpDue c
  | .frame _ | .block _ _ | .sideband => false

/-- A boundary with what the spec says of it there: at a latch, BIAS_SEQ (R138). -/
def State.boundaryOp (s : State) : Boundary → State
  | .latch => s.biasStep
  | b => s.boundary b

/-- EPOCH_BOUNDARY_APPLY (R11). The boundary of a frame, of an AES3 block and of a sideband frame is the row that takes it. -/
def execEpochBoundaryApply (b : Boundary) (s : State) : Res := .next (if s.atEdge b then s.boundaryOp b else s)

/-! ### The write gate (R303 to R306, R332, R344) -/

/-- AUDIT_RECORD_WRITE (R303). -/
def execAuditRecordWrite (s : State) : Res := .next s.recordNext.afterGate

/-- GATE_RELEASE (R303). -/
def execGateRelease (s : State) : Res := .next s.releaseNext.afterGate

/-- AUDIT_BUSY_TIMEOUT (R305). -/
def execAuditBusyTimeout (s : State) : Res := .next s.auditBusyOp.afterGate

/-- DEFERRED_RECORD: the records Warden owes are written (R306). -/
def execDeferredRecord (s : State) : Res := .next (if s.warden.up then s.recordOwed else s)

/-- The gate releases its oldest change if that is of the kind `p` names. -/
def State.releaseIf (s : State) (p : Change → Bool) : State :=
  match s.log.gate with
  | e :: _ => if p e.ch then s.releaseNext.afterGate else s
  | [] => s

/-- The change is a selection commit. -/
def Change.isCommit : Change → Bool
  | .commit _ _ => true
  | _ => false

/-- The change is one of the frequency selection. -/
def Change.isFsel : Change → Bool
  | .fsel _ => true
  | _ => false

/-- SWITCH_COMMIT: the release of a commit record (R81). -/
def execSwitchCommit (s : State) : Res := .next (s.releaseIf Change.isCommit)

/-- FSEL_CHANGE: the release of a change of the frequency selection (R79). -/
def execFselChange (s : State) : Res := .next (s.releaseIf Change.isFsel)

/-- FLT may restart Warden: it has been down for 100 ms, and was not declared down within 1 h of a restart (R344). -/
def State.mayRestart (s : State) : Bool :=
  match s.warden.up, s.warden.downAt with
  | false, some t => decide (t + 100000000 ≤ s.wt) && match s.warden.restarted with
    | none => true
    | some r => decide (r + 3600000000000 ≤ t)
  | _, _ => false

/-- WARDEN_RESTART: a Warden that passes its image checks resumes, with the GAP record and the records it owes first
(R344); a core that waits for Warden casts on. -/
def execWardenRestart (verifies : Bool) (s : State) : Res :=
  .next (if s.mayRestart then
      if verifies then
        let t := ({ s with warden := ⟨true, none, some s.wt⟩ } : State).recordOwed
        if t.cast_.pwrgood ∧ ¬ t.coreOn ∧ t.cast_.st = 0 ∧ t.cast_.bind ≠ 2 then t.castStart else t
      else { s with warden := { s.warden with restarted := some s.wt } }
    else s)

/-! ### Mirrored writes at the standby (R332) -/

/-- A mirrored write arrives at the gate with its apply instant. -/
def State.submitTwin (s : State) (ch : Change) (at_ : Nat) : State :=
  let e : GateEntry := { s.entry ch .twin with apply := some at_ }
  if ¬ s.warden.up then s.refuseUnrecorded e .wardenDown
  else
    let s1 : State := { s with log := { s.log with gate := s.log.gate ++ [e] } }
    if s.log.gate = [] then s1.recordNext else s1

/-- The number under which the lower words of a mirrored wide value wait. -/
def twinId : Nat := 163

/-- A mirrored word, at its address. -/
def State.twinWord (s : State) (a v at_ : Nat) : State :=
  match groupOf a with
  | some 21 => s.submitTwin (if (seqMemAt a).isSome then .seqmem a v else .bad a v .unmapped) at_
  | _ => match lookupReg a with
    | none => s.submitTwin (.bad a v .unmapped) at_
    | some x =>
      if x.word + 1 < x.reg.geo.words then { s with staged := s.staged.set (stageKey twinId a) (w32 v) }
      else (s.unstage twinId x).submitTwin (.reg x.first (s.assemble twinId x v)) at_

/-- MIRROR_WRITE_RECEIVE (R332): only a STANDBY takes mirrored writes. -/
def execMirrorWriteReceive (q : AddrWord) (apply : DWord) (s : State) : Res :=
  .next (if s.twin.role = .standby then s.twinWord q.addr.toNat q.val.toNat apply.toNat else s)

/-- MIRROR_APPLY (R332): a mirrored write is released at its instant; one from the peer that has no record by then is refused. -/
def execMirrorApply (s : State) : Res :=
  .next (match s.log.gate with
    | [] => s
    | e :: r => match e.apply with
      | none => s
      | some t =>
        if e.recorded.isSome then s.releaseNext.afterGate
        else if t ≤ s.gns then
          (({ s with log := { s.log with gate := r } } : State).refuseUnrecorded e .auditBusy).afterGate
        else s)

/-! ### Sequencers: starts, watchdogs, events and image loads (R155, R163, R164, R168) -/

/-- SEQ_START (R163). -/
def execSeqStart (n : Fin 160) (s : State) : Res := .next (if s.startDue n then s.beginSeq n else s)

/-- WATCHDOG_EXPIRY (R164): SEQ_WDOG names the sequencer. -/
def execWatchdogExpiry (n : Fin 160) (s : State) : Res :=
  .next (if s.wdMissed n then
      let q := s.sq n
      (s.setSq n (if s.fl .SEQ_WD 31 30 n = 2 then { q with kick := s.gau.l } else { q with missed := true })).fault 12 n
    else s)

/-- SCHED_EVENT_DUE (R155). -/
def execSchedEventDue (k : Fin 10) (s : State) : Res := .next (s.eventDue k)

/-- The bytes of an image in DRAM as requester 10 reads them; a poisoned part is discarded (R168, R372). -/
def State.readImage (s : State) (a : Nat) : List Byte × State :=
  let h := s.memRead 10 a 256
  let head := if h.2.1 then [] else h.1
  let n := leNat (sub head 8 4) + leNat (sub head 12 4) + leNat (sub head 16 4)
  if n ≤ 114688 then
    let b := h.2.2.memRead 10 (a + 256) n
    (head ++ (if b.2.1 then [] else b.1), b.2.2)
  else (head, h.2.2)

/-- A load ends with STATE and CODE. -/
def State.endLoad (s : State) (k st code : Nat) : State := s.setClu k { s.clu k with load := st, loadCode := code }

/-- The record of a load (R308). -/
def State.loadRec (s : State) (k mask code : Nat) (digest : List Byte) : LogRec :=
  s.mkRec 3 (RegName.CLU_LOAD_CTL.addr k) (if code = 0 then mask else code) 0 .warden
    (if code = 0 then .none else .loadCheck) false (some digest)

/-- Warden's copies with one more image. -/
def State.keepCopy (s : State) (img : List Byte) : State :=
  { s with cast_ := { s.cast_ with copies := img :: s.cast_.copies.filter fun c => sub c 32 32 ≠ sub img 32 32 } }

/-- Warden completes a load (R168). -/
def State.finishLoad (s : State) (k : Nat) : State :=
  let mask := (s.clu k).mask
  let r := s.readImage (s.inForce .CLU_LOAD_ADDR k)
  let img := r.1
  let t := r.2
  let code := t.imageCheck k mask img (Config.sigOk (sub img 64 64) (sub img 32 32) (sub img 128 64)) t.fuses.hash
    t.fuses.ownerLock fun i => t.fuses.rollback.get i 0
  match t.recordNormal (t.loadRec k mask code (sub img 32 32)) with
  | none => t.countFull.endLoad k 3 (if code = 0 then 7 else code)
  | some u => if code = 0 then ((u.loadAll k mask img).keepCopy img).endLoad k 2 0 else u.endLoad k 3 code

/-- IMAGE_LOAD_DONE (R168): once the gate has no other audit work. -/
def execImageLoadDone (k : Fin 10) (s : State) : Res :=
  .next (if (s.clu k).load ≠ 1 then s
    else if ¬ s.warden.up then s.endLoad k 3 7
    else if s.log.gate = [] ∧ ¬ s.log.held then s.finishLoad k
    else s)

/-! ### The sideband commands (R366, R369, R390) -/

/-- Warden has no audit work (R366). -/
def State.auditIdle (s : State) : Bool := s.log.gate.all fun e => e.recorded.isSome

/-- Warden serves the frame at the head of the sideband queue. -/
def State.sbdServes (s : State) (p : List Byte → Bool) : Bool :=
  s.warden.up && s.auditIdle && s.sbd.wr.isNone && s.sbd.owes.isNone && match s.sbd.queue with
    | f :: _ => p f
    | [] => false

/-- The frame at the head leaves the queue. -/
def State.sbdPop (s : State) : State := { s with sbd := { s.sbd with queue := s.sbd.queue.tail } }

/-- The words a READ returns, in order. -/
def State.sbdRead (s : State) (a : Nat) : Nat → List Byte × State
  | 0 => ([], s)
  | k + 1 =>
    let r := s.readWord .sideband (a % 2 ^ 32)
    let q := r.2.sbdRead (a + 4) k
    (bytesLE 4 r.1 ++ q.1, q.2)

/-- READ (R369). -/
def execRead (seq : Byte) (addr : Word) (cnt : Nat) (s : State) : Res :=
  .next (if s.sbdServes fun f => decide (f = sbdRequest seq.toNat 1 (bytesLE 4 addr.toNat ++ bytesLE 2 cnt)) then
      let r := s.sbdPop.sbdRead addr.toNat cnt
      r.2.sbdSend seq.toNat 0 r.1
    else s)

/-- WRITE (R369): the words are issued one at a time. -/
def execWrite (seq : Byte) (addr : Word) (words : List Word) (s : State) : Res :=
  .next (if s.sbdServes fun f => decide (f = sbdRequest seq.toNat 2 (bytesLE 4 addr.toNat ++ bytesLE 2 words.length
        ++ bytesOfWords words)) then
      let t := s.sbdPop
      ({ t with sbd := { t.sbd with
        wr := some ⟨seq.toNat, addr.toNat, words.length, 0, words.map BitVec.toNat, false⟩ } } : State).sbdDrive
    else s)

/-- The payload of INFO (R369, R406). -/
def State.infoWords (s : State) : List Byte :=
  let w (r : RegName) : List Byte := bytesLE 4 (s.readReg (reqId .sideband) ⟨r, 0, 0, 0, 0⟩)
  w .TOP_ID ++ bytesLE 4 Config.huachera.toNat ++ w .FLT_STAT ++ w .GAU_STATE

/-- INFO (R369). -/
def execInfo (seq : Byte) (s : State) : Res :=
  .next (if s.sbdServes fun f => decide (f = sbdRequest seq.toNat 3 []) then s.sbdPop.sbdSend seq.toNat 0 s.infoWords else s)

/-- A sideband command that answers after its operation begins (R390). -/
def State.sbdBegin (s : State) (seq cmd : Nat) (ch : Change) : State :=
  let t := s.sbdPop
  ({ t with sbd := { t.sbd with owes := some (seq, cmd) } } : State).submitChange ch .sideband

/-- The selection that a slot byte names (R390). -/
def imgSlot (b : Nat) : Option Nat := if b = 0xFF then none else some b

/-- CONFIG_SAVE (R390). -/
def execConfigSave (seq img : Byte) (s : State) : Res :=
  .next (if s.sbdServes fun f => decide (f = sbdRequest seq.toNat 0x10 [img]) then
    s.sbdBegin seq.toNat 0x10 (.cfgSave img.toNat) else s)

/-- CONFIG_SELECT (R390). -/
def execConfigSelect (seq img : Byte) (s : State) : Res :=
  .next (if s.sbdServes fun f => decide (f = sbdRequest seq.toNat 0x11 [img]) then
    s.sbdBegin seq.toNat 0x11 (.cfgSelect (imgSlot img.toNat)) else s)

/-- BINDOFF (R390). -/
def execBindoff (seq : Byte) (zeroize : Bool) (s : State) : Res :=
  .next (if s.sbdServes fun f => (f.take 2 == [seq, 0x12]) && (bitOn (leNat (f.drop 4)) 0 == zeroize) then
    s.sbdBegin seq.toNat 0x12 (.bindoff zeroize) else s)

/-! ### The host mailbox (R365) -/

/-- Warden serves the request at the head of its mailbox queue. -/
def State.mbxServe (s : State) (f : List Byte) : State :=
  let cmd := leNat ((f.drop 1).take 1)
  let pay := f.drop 4
  let b := leNat pay
  let start (ch : Change) : State := ({ s with hst := { s.hst with began := true } } : State).submitChange ch .host
  if cmd = 1 ∨ cmd = 2 then s.mbxAnswer 1 []
  else match sbdLen cmd pay with
    | none => s.mbxAnswer 1 []
    | some false => s.mbxAnswer 2 []
    | some true => match cmd with
      | 0x10 => start (.cfgSave b)
      | 0x11 => start (.cfgSelect (imgSlot b))
      | 0x12 => start (.bindoff (bitOn b 0))
      | _ => s.mbxAnswer 0 s.infoWords

/-- MBX_RESPONSE (R365): the response buffer is free, and Warden has no audit work. A command that answers when its operation
ends begins here, and its response appears then. -/
def execMbxResponse (s : State) : Res :=
  .next (match s.hst.mbx with
    | [] => s
    | f :: _ => if s.warden.up ∧ s.auditIdle ∧ s.hst.rsp.isNone ∧ ¬ s.hst.began then s.mbxServe f else s)

/-! ### Bulk descriptors (R165, R267, R304, R364) -/

/-- DMA_BULK_WR: the descriptor waits for the release or refusal of its bulk write. `host` lists the words at HADDR, 0 beyond its end. -/
def execDmaBulkWr (q : Fin 16) (d : Desc) (host : List Word) (s : State) : Res :=
  .next (s.dmaOp q d 5 fun id t =>
    if aligned4 d then
      (t.dmaBytes d.len.toNat).submitChange (.bulk d.daddr.toNat ((List.range (d.len.toNat / 4)).map fun i => host.getD i 0) q) .host
    else t.dmaResult q id (1, Code.range.num, 0))

/-- The words a BULK_RD reads, in order. -/
def State.bulkRead (s : State) (a : Nat) : Nat → List Byte × State
  | 0 => ([], s)
  | k + 1 =>
    let r := s.readWord .host a
    let q := r.2.bulkRead (a + 4) k
    (bytesLE 4 r.1 ++ q.1, q.2)

/-- DMA_BULK_RD: LEN bytes of a mapped window, up to 1 MiB (R364). -/
def execDmaBulkRd (q : Fin 16) (d : Desc) (s : State) : Res :=
  .next (s.dmaOp q d 6 fun id t =>
    if aligned4 d ∧ d.len.toNat ≤ 1048576 ∧ (groupOf d.daddr.toNat).isSome then
      let r := t.bulkRead d.daddr.toNat (d.len.toNat / 4)
      ((r.2.send (.hostData q d.haddr.toNat r.1)).dmaBytes d.len.toNat).dmaResult q id (0, 0, 0)
    else t.dmaResult q id (1, Code.range.num, 0))

/-! ### Configuration and bind-off (R388, R389) -/

/-- CONFIG_SAVE_DONE (R388): the capture has ended. -/
def execConfigSaveDone (s : State) : Res :=
  .next (({ s with log := { s.log with held := false } } : State).saveDone.afterGate)

/-- BINDOFF_DONE (R389). -/
def execBindoffDone (s : State) : Res := .next s.bindDone

end Sys2Proof.Machine
end

