-- ==== Sys2Proof/Machine/CastOn.lean ====
section
/-! DEFINITION. Cast-on and power as commands (R381 to R386), and the removal of the AON supply (R343). -/

namespace Sys2Proof.Machine

/-- Warden and the AON domain run. -/
def State.aonRuns (s : State) : Bool := s.cast_.rstn && s.cast_.aon

/-! ### RESET_N, PWRGOOD and the supplies (R343, R381, R382) -/

/-- RESET_ASSERT (R381). -/
def execResetAssert (s : State) : Res := .next s.aonReset

/-- The key SRAM failed retention: every slot is EMPTY, and VBAT_LOST is set (R298, R382). -/
def State.vbatLost (s : State) : State :=
  (({ s with key := { s.key with slots := [], lanes := [] } } : State).setFl .KEY_TAMPER 3 1 0).setHw .KEY_TAMPER 8 8 1

/-- RESET_RELEASE: t_aon (R382). -/
def execResetRelease (vbatLost : Bool) (s : State) : Res :=
  .next (if s.cast_.rstn then s
    else
      let t : State := { s with
        cast_ := { s.cast_ with rstn := true, aon := true }
        log := { s.log with gate := [], held := false } }
      if vbatLost then t.vbatLost else t)

/-- HUACHERA_RUN: Warden starts, writes the records it owes, and lets core cast-on run where the rails read good (R382). Where
no image verifies, Warden stays down. -/
def execHuacheraRun (verified : Bool) (s : State) : Res :=
  .next (if s.aonRuns ∧ ¬ s.warden.up ∧ s.warden.downAt.isNone ∧ verified then
      let t := ({ s with warden := { s.warden with up := true } } : State).recordOwed
      if t.cast_.pwrgood then t.castStart else t
    else s)

/-- PWRGOOD_FALL (R381): CORE_PWR asserts and the core is held in reset; a cast-on is abandoned. -/
def execPwrgoodFall (s : State) : Res :=
  .next (let s1 := if s.coreOn ∧ s.aonRuns then s.fault 7 0 else s
    let s2 := s1.coreReset
    { s2 with cast_ := { s2.cast_ with pwrgood := false, st := 0, go := false, lock := false } })

/-- PWRGOOD_RISE (R381): core cast-on runs from t_core; `xo` tells whether XO is present. -/
def execPwrgoodRise (xo : Bool) (s : State) : Res :=
  .next (if s.cast_.pwrgood then s
    else
      let t : State := { s with cast_ := { s.cast_ with pwrgood := true, xo := xo } }
      if t.aonRuns ∧ t.warden.up then t.castStart else t)

/-- XO_PRESENT (R382): a cast-on that failed for want of XO starts again from t_core. -/
def execXoPresent (s : State) : Res :=
  .next (let t : State := { s with cast_ := { s.cast_ with xo := true } }
    if t.cast_.st = 5 ∧ t.cast_.code = 4 ∧ t.cast_.pwrgood ∧ t.warden.up then t.castStart else t)

/-- AON_SUPPLY_REMOVAL (R343): Warden and the sideband stop, nothing more is written to MRAM, and the HALT latch clears. -/
def execAonSupplyRemoval (s : State) : Res :=
  .next (let t := s.aonReset
    { t with flt := { t.flt with haltLatch := false }, cast_ := { t.cast_ with aon := false } })

/-! ### Core reset release and t_go (R382 to R386) -/

/-- A record of cast-on: written, or dropped and counted where the ring has no room. -/
def State.castRecord (s : State) (r : LogRec) : State :=
  match s.recordNormal r with
  | some t => t
  | none => s.countFull

/-- The image that a warm cast-on applies. -/
def State.castImg (s : State) : Img := (s.cast_.slots.get s.cast_.img none).getD ⟨[], []⟩

/-- The class S fields of one register of the image are in force (R386). -/
def State.applyS (s : State) (p : Nat × Nat) : State :=
  match lookupReg p.1 with
  | none => s
  | some x =>
    let isS (f : Field) : Bool := f.acc == .rw && f.cls == .s
    { s with
      regs := s.regs.set x.first (putFields isS x.fs (s.lastAt x) p.2)
      force := s.force.set x.first (putFields isS x.fs (s.forceAt x) p.2) }

/-- A warm cast-on: the BULK record, then every class S field of the image; t_go follows (R386). -/
def State.castWarm (s : State) : State :=
  let i := s.castImg
  let s1 := s.castRecord (s.mkRec 2 0 i.len 0 .warden .none false (some i.digest))
  let s2 := i.words.foldl State.applyS s1
  { s2 with cast_ := { s2.cast_ with st := 2, go := true } }

/-- The core answers: the CASTON record, then HOLD or APPLY, or FAILED with HALTED (R382, R385). -/
def State.coreUp (s : State) : State :=
  let s1 : State := { s with coreOn := true }
  let s2 := s1.castRecord (s1.mkRec 12 0 (bit1 s.cast_.warm 0) Config.huachera.toNat .warden .none)
  if s2.flt.haltLatch then { s2 with cast_ := { s2.cast_ with st := 5, code := 3, lock := true } }
  else if s2.cast_.warm then s2.castWarm
  else { s2 with cast_ := { s2.cast_ with st := 1 } }

/-- A core cast-on is under way: t_core has passed and the core is still in reset. -/
def State.casting (s : State) : Bool :=
  s.aonRuns && s.warden.up && s.cast_.pwrgood && s.cast_.xo && !s.coreOn && decide (s.cast_.st = 0) && decide (s.cast_.bind = 0)

/-- CORE_RESET_RELEASE: t_core + 6 ms, with the APLLs locked or not (R382). -/
def execCoreResetRelease (locked : Bool) (s : State) : Res :=
  .next (if s.casting then
      if locked then s.coreUp else { s with cast_ := { s.cast_ with st := 5, code := 5 } }
    else s)

/-- GAUGE_START: the Gauge starts at GNS 0 in FREE-RUN, and training begins (R382). -/
def execGaugeStart (s : State) : Res :=
  .next (if s.coreOn ∧ s.cast_.go ∧ ¬ s.gau.running then
      { s with
        gau := { s.gau with running := true, g := 0, prev := none, from_ := 0, runs := [], st := .freeRun }
        out := { s.out with rowL := s.gau.l }
        fired := []
        cast_ := { s.cast_ with go := false, st := 3 } }
    else s)

/-! ### Training, self-test and the rest of a warm cast-on (R382, R386) -/

/-- A failure of training or self-test: every read is poisoned from here on. -/
def State.memFails (s : State) (code : Nat) : State :=
  { s with mem := { s.mem with failed := true }, cast_ := { s.cast_ with st := 5, code := code } }

/-- MEM_TRAIN_DONE: each channel that has a size trained, or not. Bit 2 of `trained` marks that training has ended. -/
def execMemTrainDone (ok0 ok1 : Bool) (s : State) : Res :=
  .next (if s.cast_.st = 3 ∧ s.gau.running ∧ ¬ bitOn s.mem.trained 2 then
      let has0 := decide (s.fl .MEM_CFG 3 0 ≠ 0)
      let has1 := decide (s.fl .MEM_CFG 7 4 ≠ 0)
      let t : State := { s with mem := { s.mem with trained := 4 + bit1 (has0 && ok0) 0 + bit1 (has1 && ok1) 1 } }
      if (has0 && !ok0) || (has1 && !ok1) then t.memFails 6 else t
    else s)

/-- The EN bit of a register of an image, or the RUN bit (R386). -/
def RegName.enBit : RegName → Option Nat
  | .SEL_CTL => some 0
  | .SEL_REVERT => some 16
  | .SEL_FORCE | .SEL_CFG | .OUT_CFG | .TDC_CFG | .GNS_CTL | .FE_CFG | .CH_CFG | .SEQ_CTL | .ETH_CFG | .ETH_PREEMPT
  | .ETH_ROW_CTL | .ETH_FLT_CTL | .TSV_CTL | .TSV_SA_CFG | .TSV_NTP_CTL | .PTP_CFG | .PTP_AUTH | .PTP_UCM | .AUD_CTL
  | .RXS_CFG | .TXS_CFG | .AESI_CFG | .AESO_CFG | .STL_TWIN_CFG | .STL_LCFG | .PMC_SAMP | .PMC_CNT => some 31
  | _ => none

/-- Every class E and D field of a register of the image but its EN or RUN bit. -/
def State.applyPlain (s : State) (p : Nat × Nat) : State :=
  match lookupReg p.1 with
  | none => s
  | some x => match x.reg.enBit with
    | none => s.doWrite x p.2 0
    | some b => s.doWrite x (putBits p.2 b b (bits (s.lastAt x) b b)) 0

/-- The EN bit of a register of the image. -/
def State.applyEn (s : State) (p : Nat × Nat) : State :=
  match lookupReg p.1 with
  | none => s
  | some x =>
    if x.reg = .SEQ_CTL then s
    else match x.reg.enBit with
      | none => s
      | some b => if bits p.2 b b = bits (s.lastAt x) b b then s else s.doWrite x p.2 0

/-- One sequencer image from the QSPI store, with the checks of R168; its sequencer joins the list where it loads. -/
def State.applySeqImg (q : State × List Nat) (p : Nat × List Byte) : State × List Nat :=
  let s := q.1
  match s.cast_.store.find? fun f => sub f 32 32 = p.2 with
  | none => q
  | some img =>
    if s.imageCheck (cluOf p.1) (2 ^ (p.1 % 16)) img (Config.sigOk (sub img 64 64) (sub img 32 32) (sub img 128 64))
        s.fuses.hash s.fuses.ownerLock (fun i => s.fuses.rollback.get i 0) = 0
    then ((s.loadOne p.1 img).keepCopy img, q.2 ++ [p.1])
    else q

/-- The RUN bit of a sequencer whose image loaded, with AT_ROW = 1. -/
def State.applyRun (loaded : List Nat) (s : State) (p : Nat × Nat) : State :=
  match lookupReg p.1 with
  | none => s
  | some x =>
    if x.reg = .SEQ_CTL ∧ bitOn p.2 31 ∧ loaded.contains x.i then
      s.doWrite x (putBits (s.lastAt x) 31 30 3) 0
    else s

/-- The sequencers that the image's RUN bits start. -/
def imgRuns (i : Img) : List Nat :=
  i.words.filterMap fun p => match RegName.SEQ_CTL.match? p.1 with
    | some x => if bitOn p.2 31 then some x.i else none
    | none => none

/-- The rest of a warm cast-on, after READY (R386). -/
def State.castRest (s : State) : State :=
  let i := s.castImg
  let s1 := i.words.foldl State.applyPlain s
  let q := i.seqs.foldl State.applySeqImg (s1, [])
  let s2 := i.words.foldl State.applyEn q.1
  let s3 := i.words.foldl (State.applyRun q.2) s2
  let all := (i.seqs.all fun p => q.2.contains p.1) && (imgRuns i).all fun n => q.2.contains n
  { s3 with cast_ := { s3.cast_ with st := 4, part := !all, code := if all then 0 else 8 } }

/-- A cold cast-on reaches DONE: the first one after a HALT clears the HALT mark (R384). -/
def State.castCold (s : State) : State := { s with cast_ := { s.cast_ with st := 4, haltMark := false } }

/-- MEM_SELFTEST_DONE (R382). -/
def execMemSelftestDone (ok : Bool) (s : State) : Res :=
  .next (if s.cast_.st = 3 ∧ bitOn s.mem.trained 2 ∧ ¬ s.mem.ready then
      if ok then
        let t : State := { s with mem := { s.mem with ready := true } }
        if t.cast_.warm then t.castRest else t.castCold
      else s.memFails 7
    else s)

end Sys2Proof.Machine
end

