-- ==== Sys2Proof/Machine/Edge.lean ====
section
/-! DEFINITION. The G-clock edge: the increment of R37, the step of R43 with all that follows from it (R52, R74, R92, R99, R135, R208,
R225, R313), the pulls of R92, and what is captured at every edge (R350, R355). -/

namespace Sys2Proof.Machine

/-! ### A step and group C (R92) -/

/-- An index moves. -/
def moveIdx (d : Int) (k : Nat) : Nat := ((k : Int) + d).toNat

/-- The keys of a table move. -/
def moveKeys {α : Type} (d : Int) (t : Tab α) : Tab α := t.map fun p => (moveIdx d p.1, p.2)

/-- The indices of a content table move. -/
def moveGate (d : Int) (g : ChGate) : ChGate := g.map fun p => (p.1, p.2.1, moveIdx d p.2.2)

/-- A whole-second move of T_C by `w` s moves the media indices of AUD and the row numbers (R92, chapter 11). -/
def State.moveAudio (s : State) (w : Int) : State :=
  let rows : Int := w * 8000
  let ofs (o : AudObj) : Int := w * (s.objFs o : Nat)
  let a := s.aud
  { s with
    aud := { a with
      rxs := a.rxs.map fun p =>
        let d := ofs (rxsObj p.1)
        (p.1, { p.2 with first := moveIdx d p.2.first, buf := moveKeys d p.2.buf, gate := moveGate d p.2.gate })
      txs := a.txs.map fun p =>
        (p.1, { p.2 with next := p.2.next.map (moveIdx rows), gate := moveGate (ofs (txsObj p.1)) p.2.gate })
      aesi := a.aesi.map fun p =>
        let d := ofs (aesiObj p.1)
        (p.1, { p.2 with buf := moveKeys d p.2.buf, gate := moveGate d p.2.gate })
      aeso := a.aeso.map fun p =>
        let d := ofs (aesoObj p.1)
        (p.1, { p.2 with
          start := p.2.start.map (moveIdx d), last := p.2.last.map (moveIdx d), gate := moveGate d p.2.gate })
      waits := a.waits.map fun z => { z with k0 := moveIdx (ofs z.obj) z.k0 }
      stripRow := a.stripRow.map (· + rows)
      media := moveKeys rows a.media }
    mix := { s.mix with plan := s.mix.plan.map fun p => (p.1 + rows, p.2) }
    links := s.links.map fun p =>
      (p.1, { p.2 with psRow := moveIdx rows p.2.psRow, ps := moveKeys (rows * 2 ^ 26) p.2.ps }) }

/-- A word clock's frames and samples stay where they are (R102). -/
def State.moveFrame (w : Int) (s : State) (i : Nat) : State :=
  s.setOutU i { s.outU i with
    frame := moveIdx (w * (10 ^ 9 * 2 ^ 40 * s.wclkDen i : Nat)) (s.outU i).frame
    half := (s.outU i).half.map (· + 2 * w * (fsOf (s.fl .OUT_CFG 20 18 i) : Nat)) }

/-- Group C takes the whole seconds of a step of `a` (2^-40 ns) at once and keeps the rest in O_C (R92). -/
def State.stepGroupC (s : State) (a : Int) : State :=
  let sec : Int := (10 ^ 9 * 2 ^ 40 : Nat)
  let oc := s.out.oc + a
  let w := Int.fdiv (oc + sec / 2) sec
  let s1 : State := { s with out := { s.out with oc := oc - w * sec } }
  if w = 0 then s1
  else
    let s2 : State := { s1 with out := { s1.out with ptc := s1.out.ptc.map (· + w * sec) } }
    ([18, 19] : List Nat).foldl (State.moveFrame w) (s2.moveAudio w)

/-- Group B keeps its time through a step, unless it follows it (R92). -/
def State.stepGroupB (s : State) (a : Int) : State :=
  let follow (t : State) : State := { t with out := { t.out with bJump := true } }
  if s.gau.st = .freeRun ∨ s.on .OUT_GRPB 31 then follow s
  else if s.inForce .OUT_GRPB_MAXPULL * 2 ^ 40 < (s.out.ob + a).natAbs then (follow s).recEvent 0x02 0
  else { s with out := { s.out with ob := s.out.ob + a } }

/-! ### A step and the schedules on the Gauge (R99, R100, R208, R225, R313) -/

/-- The pulse instants of PPSO j that a step carries the Gauge past. -/
def State.ppsPassed (s : State) (j : Nat) : Nat :=
  match s.gau.prev with
  | none => 0
  | some p =>
    (s.ppsIdx j s.gau.g - s.ppsIdx j p - (if s.ppsHere j then 1 else 0)).toNat

/-- Suppressed pulses are counted, and the ToD messages they would have triggered (R99, R100). -/
def State.ppsSkip (s : State) (j : Nat) : State :=
  let n := s.ppsPassed j
  if n = 0 ∨ ¬ s.armedFor (12 + j) 0 s.gau.g ∨ (s.outU (12 + j)).sq then s else s.suppress j n

/-- A Row table on the Gauge enters the slot that holds the stepped time (R208); a new cycle starts as one (R206). -/
def State.stepTable (s : State) (p : Nat) : State :=
  let a := (s.ep p).act
  if s.on .ETH_ROW_CTL 31 p ∧ ¬ s.on .ETH_ROW_CTL 30 p ∧ (s.ep p).rowRun ∧ ¬ s.cycleAt p a.1 a.2.1 then
    s.startSlot p (s.slotAt p)
  else s

/-- The frame of the next marker after a step (R313). -/
def State.frameAfter (s : State) : Nat := ceilDiv (s.gau.g * 100 + 512 * 2 ^ 40) (1600 * 100 * 2 ^ 40) % frameMod

/-- A link that sends gives a step notice (R313). -/
def State.stepLink (s : State) (l : Nat) : State :=
  if s.linkOn l ∧ ¬ s.quiet then s.send (.stepNotice l s.frameAfter) else s

/-- TSV marks the step for AS2020 Follow_Ups (R225); `amt` is in 2^-32 ns. -/
def State.stepTsv (s : State) (amt : Int) : State :=
  { s with tsv := { s.tsv with gmTimeBase := (s.tsv.gmTimeBase + 1) % 65536, gmPhase := Int.fdiv amt (2 ^ 16) } }

/-- The Gauge takes the amount S of step `d`, and its run begins anew (R37, R52). -/
def State.stepGauge (s : State) (old : Nat) (d : Sched) : State :=
  let g := accOfSum s.gau.g (fine d.amt)
  { s with gau := { s.gau with g := g, from_ := g, runs := (s.gau.from_, old) :: s.gau.runs } }

/-- What follows from a step at its edge, in the order of R93. -/
def State.stepEffects (s : State) (d : Sched) : State :=
  let s1 := ((s.stepPosts d.amt).stepGroupB (fine d.amt)).stepGroupC (fine d.amt)
  let s2 := (List.range 4).foldl State.ppsSkip (s1.stepTsv d.amt)
  let s3 := (List.range 4).foldl State.stepLink ((List.range 8).foldl State.stepTable s2)
  (s3.pmcTime 5 0).dropSched 2

/-! ### The edge -/

/-- The local time at which a row starts (R22, R405). -/
def State.rowMark (s : State) : State := if s.rowEdge then { s with out := { s.out with rowL := s.gau.l } } else s

/-- What is taken at every edge once the Gauge has moved: the pulls, the captures of a sweep, the counter of slewed edges, the bus and
the squelch conditions (R14, R92, R104, R353, R355). -/
def State.edgeTakes (s : State) (sl : Int) : State :=
  let s1 := s.pulls.rowMark.sweepEdge
  let s2 := if sl = 0 then s1 else s1.pmcTime 6 0
  s2.latchBus.squelch

/-- The measures of R350 that the Gauge's own instants sample. -/
def State.edgeSamples (s : State) : State :=
  let s1 := if s.atMs then (s.sample 1 0 s.busBound).sample 12 0 (Config.temp s.wt).toInt else s
  if s1.atSec ∧ s1.guarded then s1.sample 2 0 (truncDiv s1.dev (2 ^ 40)) else s1

/-- An edge that is no step edge (R37). -/
def State.plainEdge (s : State) : State :=
  let sl := s.slewPart s.gau.rem
  (s.advance s.gau.rem sl).edgeTakes sl

/-- The step edge of the scheduled step (R43). -/
def State.stepEdgeOf (s : State) (d : Sched) : State :=
  let sl := s.slewPart (s.stepRem d)
  (((s.advance (s.stepRem d) sl).stepGauge s.gau.g d).stepEffects d).edgeTakes sl

/-- One G-clock edge, while the Gauge runs. -/
def State.gEdge (s : State) : State :=
  match s.gau.sched with
  | none => s.plainEdge
  | some d => if s.stepNext then s.stepEdgeOf d else s.plainEdge

/-- STEP_EDGE (R43): the next edge, where that is the step edge. -/
def execStepEdge (s : State) : Res := .next (if s.gau.running ∧ s.stepNext then s.gEdge else s)

end Sys2Proof.Machine
end

