-- ==== Sys2Proof/Machine/TabxoInt.lean ====
section
/-! DEFINITION. Tabxo: control and integer instructions (R178, R179). -/

namespace Sys2Proof.Machine

/-! ### Control (R178) -/

/-- NOP (R178). -/
def execNop (n : Fin 160) (s : State) : Res := .next (s.alu n fun q => q)

/-- WDK: the watchdog kick, without effect while WD.MODE = OFF (R178, R164). -/
def execWdk (n : Fin 160) (s : State) : Res :=
  .next (s.issue n 1 .plain false none fun t =>
    let t1 := if t.fl .SEQ_WD 31 30 n = 0 then t else t.kick n
    t1.setSq n ((t1.sq n).retire 1))

/-- CLRS: S = 0 (R178). -/
def execClrs (n : Fin 160) (s : State) : Res := .next (s.alu n fun q => { q with s := false })

/-- RET: PC takes the address popped from the call stack; STACK where it is empty (R178, R146). -/
def execRet (n : Fin 160) (s : State) : Res :=
  .next (s.branch n .noEnd (if (s.sq n).calls = [] then some .stack else none) fun q =>
    match q.calls with
    | [] => q
    | a :: r => { q with calls := r }.jump a)

/-- RDID: the index and the role (R178, R170). -/
def execRdid (n : Fin 160) (gd : Fin 16) (s : State) : Res :=
  .next (s.alu n fun q => q.setG gd (w32 (s.fl .SEQ_ROLE 7 0 n * 2 ^ 8 + n.val)))

/-- B: PC = 4 × TW (R178). -/
def execB (n : Fin 160) (tw : BitVec 12) (s : State) : Res :=
  .next (s.branch n .noEnd none fun q => q.jump (4 * tw.toNat))

/-- Bcc: PC = 4 × TW when the condition holds (R178, R176). -/
def execBcc (n : Fin 160) (cond : Fin 16) (tw : BitVec 12) (s : State) : Res :=
  .next (if (s.sq n).holds cond then s.branch n .noEnd none fun q => q.jump (4 * tw.toNat)
    else s.issue n 1 .noEnd false none fun t => t.setSq n ((t.sq n).retire 1))

/-- CALL: the return address is pushed and PC = 4 × TW; STACK at the ninth (R178, R146, R148). -/
def execCall (n : Fin 160) (tw : BitVec 12) (s : State) : Res :=
  .next (s.branch n .call (if 8 ≤ (s.sq n).calls.length then some .stack else none) fun q =>
    { q with calls := (q.pc + 4) % 2 ^ 14 :: q.calls }.jump (4 * tw.toNat))

/-- BR: PC = ga[13:0]; ALIGN unless ga[1:0] = 0 (R178). -/
def execBr (n : Fin 160) (ga : Fin 16) (s : State) : Res :=
  .next (s.branch n .noEnd (if ((s.sq n).gr ga).toNat % 4 ≠ 0 then some .align else none) fun q =>
    q.jump (bits (q.gr ga).toNat 13 0))

/-! ### Shared forms (R179) -/

/-- gd = a + b + c with Z, N, V and C. -/
def Seq.addTo (q : Seq) (gd : Nat) (a b : Word) (c : Bool) : Seq :=
  let r := a + b + w32 c.toNat
  ((q.setG gd r).zn r).cvAdd a b c

/-- The flags of a − b − borrow. -/
def Seq.cmpFlags (q : Seq) (a b : Word) (borrow : Bool) : Seq :=
  (q.zn (a - b - w32 borrow.toNat)).cvSub a b borrow

/-- gd = a − b − borrow with Z, N, V and C. -/
def Seq.subTo (q : Seq) (gd : Nat) (a b : Word) (borrow : Bool) : Seq :=
  (q.setG gd (a - b - w32 borrow.toNat)).cmpFlags a b borrow

/-- gd = r with Z and N. -/
def Seq.logTo (q : Seq) (gd : Nat) (r : Word) : Seq := (q.setG gd r).zn r

/-- gd = a << k with Z, N and C. -/
def Seq.shlTo (q : Seq) (gd : Nat) (a : Word) (k : Nat) : Seq := (q.logTo gd (a <<< k)).cShl a k

/-- gd = a >> k, logical, with Z, N and C. -/
def Seq.shrTo (q : Seq) (gd : Nat) (a : Word) (k : Nat) : Seq := (q.logTo gd (a >>> k)).cShr a k

/-- gd = a >> k, arithmetic, with Z, N and C. -/
def Seq.sarTo (q : Seq) (gd : Nat) (a : Word) (k : Nat) : Seq := (q.logTo gd (a.sshiftRight k)).cShr a k

/-- A sign-extended immediate. -/
def immS (i : Half) : Word := i.signExtend 32
/-- A zero-extended immediate. -/
def immZ (i : Half) : Word := i.zeroExtend 32

/-! ### Integer operations (R179) -/

/-- ADD. -/
def execAdd (n : Fin 160) (gd ga gb : Fin 16) (s : State) : Res :=
  .next (s.alu n fun q => q.addTo gd (q.gr ga) (q.gr gb) false)
/-- ADDC. -/
def execAddc (n : Fin 160) (gd ga gb : Fin 16) (s : State) : Res :=
  .next (s.alu n fun q => q.addTo gd (q.gr ga) (q.gr gb) q.c)
/-- SUB. -/
def execSub (n : Fin 160) (gd ga gb : Fin 16) (s : State) : Res :=
  .next (s.alu n fun q => q.subTo gd (q.gr ga) (q.gr gb) false)
/-- SUBB. -/
def execSubb (n : Fin 160) (gd ga gb : Fin 16) (s : State) : Res :=
  .next (s.alu n fun q => q.subTo gd (q.gr ga) (q.gr gb) !q.c)
/-- AND. -/
def execAnd (n : Fin 160) (gd ga gb : Fin 16) (s : State) : Res :=
  .next (s.alu n fun q => q.logTo gd (q.gr ga &&& q.gr gb))
/-- OR. -/
def execOr (n : Fin 160) (gd ga gb : Fin 16) (s : State) : Res :=
  .next (s.alu n fun q => q.logTo gd (q.gr ga ||| q.gr gb))
/-- XOR. -/
def execXor (n : Fin 160) (gd ga gb : Fin 16) (s : State) : Res :=
  .next (s.alu n fun q => q.logTo gd (q.gr ga ^^^ q.gr gb))
/-- CMP. -/
def execCmp (n : Fin 160) (ga gb : Fin 16) (s : State) : Res :=
  .next (s.alu n fun q => q.cmpFlags (q.gr ga) (q.gr gb) false)
/-- TST. -/
def execTst (n : Fin 160) (ga gb : Fin 16) (s : State) : Res :=
  .next (s.alu n fun q => q.zn (q.gr ga &&& q.gr gb))
/-- MIN: the signed minimum. -/
def execMin (n : Fin 160) (gd ga gb : Fin 16) (s : State) : Res :=
  .next (s.alu n fun q => q.logTo gd (if (q.gr ga).toInt ≤ (q.gr gb).toInt then q.gr ga else q.gr gb))
/-- MAX: the signed maximum. -/
def execMax (n : Fin 160) (gd ga gb : Fin 16) (s : State) : Res :=
  .next (s.alu n fun q => q.logTo gd (if (q.gr gb).toInt ≤ (q.gr ga).toInt then q.gr ga else q.gr gb))
/-- SHL: by gb[4:0]. -/
def execShl (n : Fin 160) (gd ga gb : Fin 16) (s : State) : Res :=
  .next (s.alu n fun q => q.shlTo gd (q.gr ga) ((q.gr gb).toNat % 32))
/-- SHR: by gb[4:0]. -/
def execShr (n : Fin 160) (gd ga gb : Fin 16) (s : State) : Res :=
  .next (s.alu n fun q => q.shrTo gd (q.gr ga) ((q.gr gb).toNat % 32))
/-- SAR: by gb[4:0]. -/
def execSar (n : Fin 160) (gd ga gb : Fin 16) (s : State) : Res :=
  .next (s.alu n fun q => q.sarTo gd (q.gr ga) ((q.gr gb).toNat % 32))
/-- MOV. -/
def execMov (n : Fin 160) (gd ga : Fin 16) (s : State) : Res :=
  .next (s.alu n fun q => q.logTo gd (q.gr ga))
/-- NEG: gd = 0 − ga. -/
def execNeg (n : Fin 160) (gd ga : Fin 16) (s : State) : Res :=
  .next (s.alu n fun q => q.subTo gd 0 (q.gr ga) false)
/-- ABS: 0x8000_0000 stays and sets V. -/
def execAbs (n : Fin 160) (gd ga : Fin 16) (s : State) : Res :=
  .next (s.alu n fun q =>
    let a := q.gr ga
    { q.logTo gd (if a.msb then 0 - a else a) with v := decide (a = 0x80000000) })
/-- NOT. -/
def execNot (n : Fin 160) (gd ga : Fin 16) (s : State) : Res :=
  .next (s.alu n fun q => q.logTo gd (~~~(q.gr ga)))
/-- ADDI: the immediate is sign-extended. -/
def execAddi (n : Fin 160) (gd ga : Fin 16) (imm : Half) (s : State) : Res :=
  .next (s.alu n fun q => q.addTo gd (q.gr ga) (immS imm) false)
/-- ANDI: the immediate is zero-extended. -/
def execAndi (n : Fin 160) (gd ga : Fin 16) (imm : Half) (s : State) : Res :=
  .next (s.alu n fun q => q.logTo gd (q.gr ga &&& immZ imm))
/-- ORI. -/
def execOri (n : Fin 160) (gd ga : Fin 16) (imm : Half) (s : State) : Res :=
  .next (s.alu n fun q => q.logTo gd (q.gr ga ||| immZ imm))
/-- XORI. -/
def execXori (n : Fin 160) (gd ga : Fin 16) (imm : Half) (s : State) : Res :=
  .next (s.alu n fun q => q.logTo gd (q.gr ga ^^^ immZ imm))
/-- CMPI. -/
def execCmpi (n : Fin 160) (ga : Fin 16) (imm : Half) (s : State) : Res :=
  .next (s.alu n fun q => q.cmpFlags (q.gr ga) (immS imm) false)
/-- SHLI. -/
def execShli (n : Fin 160) (gd ga : Fin 16) (k : BitVec 5) (s : State) : Res :=
  .next (s.alu n fun q => q.shlTo gd (q.gr ga) k.toNat)
/-- SHRI. -/
def execShri (n : Fin 160) (gd ga : Fin 16) (k : BitVec 5) (s : State) : Res :=
  .next (s.alu n fun q => q.shrTo gd (q.gr ga) k.toNat)
/-- SARI. -/
def execSari (n : Fin 160) (gd ga : Fin 16) (k : BitVec 5) (s : State) : Res :=
  .next (s.alu n fun q => q.sarTo gd (q.gr ga) k.toNat)
/-- LDI: gd = sext(IMM16). -/
def execLdi (n : Fin 160) (gd : Fin 16) (imm : Half) (s : State) : Res :=
  .next (s.alu n fun q => q.setG gd (immS imm))
/-- LUI: gd[31:16] = IMM16; gd[15:0] is kept. -/
def execLui (n : Fin 160) (gd : Fin 16) (imm : Half) (s : State) : Res :=
  .next (s.alu n fun q => q.setG gd (w32 (imm.toNat * 2 ^ 16 + (q.gr gd).toNat % 2 ^ 16)))
/-- LDIL: gd = IMM32, from the extension word. -/
def execLdil (n : Fin 160) (gd : Fin 16) (imm : Word) (s : State) : Res :=
  .next (s.alu n (fun q => q.setG gd imm) 2)

end Sys2Proof.Machine
end

