-- ==== Sys2Proof/Machine/TabxoMem.lean ====
section
/-! DEFINITION. Tabxo: address registers, loads and stores, accumulators, multiply-accumulate and repeats (R180 to
R186, R192). -/

namespace Sys2Proof.Machine

/-! ### Address registers (R180) -/

/-- LDX. -/
def execLdx (n : Fin 160) (kind : AxKind) (k : Fin 8) (imm : Half) (s : State) : Res :=
  .next (s.alu n fun q => q.setAx kind k imm)
/-- MVTA. -/
def execMvta (n : Fin 160) (kind : AxKind) (k : Fin 8) (ga : Fin 16) (s : State) : Res :=
  .next (s.alu n fun q => q.setAx kind k (BitVec.ofNat 16 (q.gr ga).toNat))
/-- MVFA. -/
def execMvfa (n : Fin 160) (gd : Fin 16) (kind : AxKind) (k : Fin 8) (s : State) : Res :=
  .next (s.alu n fun q => q.setG gd (q.axWord kind k))
/-- LEA: the post-modify of R174 without access or check; MEM must be 0. -/
def execLea (n : Fin 160) (md : MD) (s : State) : Res :=
  .next (s.memOp n 1 (md.mem ≠ .D) none fun q => q.postMod md.x md.mod)

/-! ### Loads and stores (R181) -/

/-- A load of `w` bytes. -/
def State.loadOp (s : State) (n w : Nat) (md : MD) (f : Seq → Seq) : State :=
  s.memOp n 1 false ((s.sq n).mdTrap md w) fun q => (f q).postMod md.x md.mod

/-- A store of `w` bytes; one into P memory is an undefined encoding (R174). -/
def State.storeOp (s : State) (n w : Nat) (md : MD) (v : Seq → Nat) (f : Seq → Seq) : State :=
  s.memOp n 1 (md.mem = .P) ((s.sq n).mdTrap md w) fun q =>
    (f (q.setMem md.mem (memPut (q.memOf md.mem) (q.ea md) (bytesLE w (v q))))).postMod md.x md.mod

/-- LDW. -/
def execLdw (n : Fin 160) (gd : Fin 16) (md : MD) (s : State) : Res :=
  .next (s.loadOp n 4 md fun q => q.setG gd (q.loadW md))
/-- LDH: sign-extended. -/
def execLdh (n : Fin 160) (gd : Fin 16) (md : MD) (s : State) : Res :=
  .next (s.loadOp n 2 md fun q => q.setG gd ((q.loadH md).signExtend 32))
/-- LDHU: zero-extended. -/
def execLdhu (n : Fin 160) (gd : Fin 16) (md : MD) (s : State) : Res :=
  .next (s.loadOp n 2 md fun q => q.setG gd ((q.loadH md).zeroExtend 32))
/-- STW. -/
def execStw (n : Fin 160) (gb : Fin 16) (md : MD) (s : State) : Res :=
  .next (s.storeOp n 4 md (fun q => (q.gr gb).toNat) fun q => q)
/-- STH. -/
def execSth (n : Fin 160) (gb : Fin 16) (md : MD) (s : State) : Res :=
  .next (s.storeOp n 2 md (fun q => (q.gr gb).toNat) fun q => q)
/-- LDA. -/
def execLda (n : Fin 160) (acc : Acc) (md : MD) (s : State) : Res :=
  .next (s.loadOp n 4 md fun q =>
    let r : AccWord := (q.loadW md).signExtend 40
    (q.setAcc acc r).znAcc r)
/-- ADDM. -/
def execAddm (n : Fin 160) (acc : Acc) (md : MD) (s : State) : Res :=
  .next (s.loadOp n 4 md fun q =>
    let v := (q.acc acc).toInt + (q.loadW md).toInt
    ((q.setAcc acc (wrapTo 40 v)).znAcc (wrapTo 40 v)).vAcc v)

/-! ### Accumulator read-out (R182) -/

/-- A saturating store that sets S is counted (R354). -/
def State.satHit (s : State) (n w : Nat) (v : Int) (sat : Bool) : State :=
  if s.runs n ∧ sat ∧ ¬ inSigned w v then s.pmcSeq n 11 else s

/-- A store of an accumulator in `w` bytes. -/
def State.storeAcc (s : State) (n w : Nat) (md : MD) (acc : Acc) (k : Nat) (sat : Bool) : State :=
  let v := accRound ((s.sq n).acc acc) k
  (s.storeOp n w md (fun _ => (wrapTo (8 * w) (storeVal (8 * w) v sat)).toNat)
    fun q => q.storeFlags (8 * w) v sat).satHit n (8 * w) v sat

/-- ST16. -/
def execSt16 (n : Fin 160) (md : MD) (acc : Acc) (k : Fin 32) (sat : Bool) (s : State) : Res :=
  .next (s.storeAcc n 2 md acc k sat)
/-- ST32. -/
def execSt32 (n : Fin 160) (md : MD) (acc : Acc) (k : Fin 32) (sat : Bool) (s : State) : Res :=
  .next (s.storeAcc n 4 md acc k sat)
/-- RDA: as a store, into gd; a 16-bit result is sign-extended. K above 31 is reserved. -/
def execRda (n : Fin 160) (gd : Fin 16) (acc : Acc) (k : BitVec 6) (wide sat : Bool) (s : State) : Res :=
  let w := if wide then 32 else 16
  let v := accRound ((s.sq n).acc acc) k.toNat
  .next ((s.memOp n 1 (31 < k.toNat) none fun q =>
    (q.setG gd (wrapTo 32 (wrapTo w (storeVal w v sat)).toInt)).storeFlags w v sat).satHit n w v sat)

/-! ### Accumulator operations (R183) -/

/-- a = the low 40 bits of an exact result, with Z, N and V. -/
def Seq.accTo (q : Seq) (a : Acc) (v : Int) : Seq :=
  ((q.setAcc a (wrapTo 40 v)).znAcc (wrapTo 40 v)).vAcc v

/-- CLR. -/
def execClr (n : Fin 160) (acc : Acc) (s : State) : Res := .next (s.alu n fun q => q.setAcc acc 0)
/-- ACMB: a0 = a0 + (a1 asr 8). -/
def execAcmb (n : Fin 160) (s : State) : Res :=
  .next (s.alu n fun q => q.accTo .a0 (q.a0.toInt + Int.fdiv q.a1.toInt 256))
/-- MVGA: K from 0 to 8. -/
def execMvga (n : Fin 160) (acc : Acc) (ga : Fin 16) (k : BitVec 6) (s : State) : Res :=
  .next (s.memOp n 1 (8 < k.toNat) none fun q =>
    let r := wrapTo 40 ((q.gr ga).toInt * (2 ^ k.toNat : Nat))
    (q.setAcc acc r).znAcc r)
/-- ADDGA: K from 0 to 8. -/
def execAddga (n : Fin 160) (acc : Acc) (ga : Fin 16) (k : BitVec 6) (s : State) : Res :=
  .next (s.memOp n 1 (8 < k.toNat) none fun q =>
    q.accTo acc ((q.acc acc).toInt + (q.gr ga).toInt * (2 ^ k.toNat : Nat)))
/-- ADDA. -/
def execAdda (n : Fin 160) (acc : Acc) (s : State) : Res :=
  .next (s.alu n fun q => q.accTo acc ((q.acc acc).toInt + (q.acc (accOther acc)).toInt))
/-- SUBA. -/
def execSuba (n : Fin 160) (acc : Acc) (s : State) : Res :=
  .next (s.alu n fun q => q.accTo acc ((q.acc acc).toInt - (q.acc (accOther acc)).toInt))
/-- NEGA. -/
def execNega (n : Fin 160) (acc : Acc) (s : State) : Res :=
  .next (s.alu n fun q => q.accTo acc (-(q.acc acc).toInt))
/-- SHLA: K from 0 to 39; V when the result differs from a × 2^K. -/
def execShla (n : Fin 160) (acc : Acc) (k : BitVec 6) (s : State) : Res :=
  .next (s.memOp n 1 (39 < k.toNat) none fun q => q.accTo acc ((q.acc acc).toInt * (2 ^ k.toNat : Nat)))
/-- SARA: K from 0 to 39. -/
def execSara (n : Fin 160) (acc : Acc) (k : BitVec 6) (s : State) : Res :=
  .next (s.memOp n 1 (39 < k.toNat) none fun q =>
    let r := (q.acc acc).sshiftRight k.toNat
    (q.setAcc acc r).znAcc r)
/-- NORM: gd = r; a = a << r. -/
def execNorm (n : Fin 160) (acc : Acc) (gd : Fin 16) (s : State) : Res :=
  .next (s.alu n fun q =>
    let r := redundant (q.acc acc)
    let a := q.acc acc <<< r
    { (q.setG gd (w32 r)).setAcc acc a with z := decide (a = 0) })
/-- EXP: gd = r − 8, signed. -/
def execExp (n : Fin 160) (gd : Fin 16) (acc : Acc) (s : State) : Res :=
  .next (s.alu n fun q => q.setG gd (wrapTo 32 ((redundant (q.acc acc) : Int) - 8)))

/-! ### Multiply-accumulate (R184, R185) -/

/-- What a multiply does with its product. -/
inductive MulKind where
  | mac | msu | mpy
  deriving DecidableEq, Repr

/-- The accumulator takes the sum, the difference or the product, with V (R184). -/
def Seq.mulAcc (q : Seq) (kind : MulKind) (a : Acc) (p : Int) : Seq :=
  let r := match kind with
    | .mac => (q.acc a).toInt + p
    | .msu => (q.acc a).toInt - p
    | .mpy => p
  (q.setAcc a (wrapTo 40 r)).vAcc r

/-- The descriptors of a memory form, with the post-modify of the parallel load. -/
def mulMoves (m : MulMem) : List (Nat × Bool) :=
  [(m.mda.x.val, modMoves m.mda.mod), (m.mdb.x.val, modMoves m.mdb.mod)]
    ++ (m.pl.map fun p => (p.xp.val, p.byM)).toList

/-- Two descriptors of one xk post-modify it (R192). -/
def doubleMove : List (Nat × Bool) → Bool
  | [] => false
  | (k, true) :: r => (r.any fun p => p.1 == k && p.2) || doubleMove r
  | _ :: r => doubleMove r

/-- The memory form is an undefined encoding (R185, R192). -/
def mulIllegal (m : MulMem) : Bool :=
  m.mda.mem == m.mdb.mem || (m.pl.isSome && (m.mda.mem == .P || m.mdb.mem == .P)) || doubleMove (mulMoves m)

/-- The words of the memory form (R172). -/
def mulWords (m : MulMem) : Nat :=
  let imm (d : MD) : Bool := match d.mod with
    | .byImm _ => true
    | _ => false
  if m.pl.isSome || imm m.mda || imm m.mdb then 2 else 1

/-- The accesses of the memory form in the order of R192. -/
def Seq.mulAccesses (q : Seq) (m : MulMem) : List (SMem × Nat × Nat) :=
  [(m.mda.mem, q.ea m.mda, selWidth m.selA), (m.mdb.mem, q.ea m.mdb, selWidth m.selB)]
    ++ (m.pl.map fun p => (SMem.P, (q.xr p.xp).toNat, 4)).toList

/-- The memory form of a multiply (R184, R185). -/
def Seq.mulMem (q : Seq) (kind : MulKind) (m : MulMem) : Seq :=
  let p := product m.sm (q.pickMem m.mda m.selA) (q.pickMem m.mdb m.selB)
  let q1 := q.mulAcc kind m.acc p
  let q2 := match m.pl with
    | none => q1
    | some l => q1.setG l.gp (memWord q.pMem (q.xr l.xp).toNat)
  let q3 := (q2.postMod m.mda.x m.mda.mod).postMod m.mdb.x m.mdb.mod
  match m.pl with
  | some l => if l.byM then q3.postMod l.xp .byM else q3
  | none => q3

/-- The memory form as an instruction. -/
def State.mulMemOp (s : State) (n : Nat) (kind : MulKind) (m : MulMem) : State :=
  s.memOp n (mulWords m) (mulIllegal m) (accessTrap ((s.sq n).mulAccesses m)) fun q => q.mulMem kind m

/-- The register form as an instruction (R184). -/
def State.mulRegOp (s : State) (n : Nat) (kind : MulKind) (m : MulReg) : State :=
  s.alu n fun q => q.mulAcc kind m.acc (product m.sm (pickHalf m.selA (q.gr m.ga)) (pickHalf m.selB (q.gr m.gb)))

/-- MAC. -/
def execMac (n : Fin 160) (m : MulMem) (s : State) : Res := .next (s.mulMemOp n .mac m)
/-- MSU. -/
def execMsu (n : Fin 160) (m : MulMem) (s : State) : Res := .next (s.mulMemOp n .msu m)
/-- MPY. -/
def execMpy (n : Fin 160) (m : MulMem) (s : State) : Res := .next (s.mulMemOp n .mpy m)
/-- MACR. -/
def execMacr (n : Fin 160) (m : MulReg) (s : State) : Res := .next (s.mulRegOp n .mac m)
/-- MSUR. -/
def execMsur (n : Fin 160) (m : MulReg) (s : State) : Res := .next (s.mulRegOp n .msu m)
/-- MPYR. -/
def execMpyr (n : Fin 160) (m : MulReg) (s : State) : Res := .next (s.mulRegOp n .mpy m)

/-! ### Repeats (R147, R148, R186) -/

/-- The next instruction executes `cnt` times; with 0 it is skipped (R147). -/
def Seq.repeatNext (q : Seq) (cnt : Nat) : Seq :=
  let q1 : Seq := { q with pc := (q.pc + 4) % 2 ^ 14, rpt := none }
  if cnt = 0 then q1.advance (wordCount (memWord q1.pMem q1.pc).toNat) else { q1 with rpt := some cnt }

/-- RPT and its register form. -/
def State.rptOp (s : State) (n : Nat) (cnt : Seq → Nat) : State :=
  s.issue n 1 .noEnd false none fun t => t.setSq n ((t.sq n).repeatNext (cnt (t.sq n)))

/-- The end word of RPTB at PC (R186). -/
def Seq.blockEnd (q : Seq) (eofs : Nat) : Nat := q.pc + 4 + 4 * eofs

/-- The block up to `e` executes `cnt` times; with 0 PC goes on behind it (R148). -/
def Seq.repeatBlock (q : Seq) (cnt e : Nat) : Seq :=
  if cnt = 0 then { q with pc := e }.advance 1
  else { q with pc := (q.pc + 4) % 2 ^ 14, reps := ⟨cnt, (q.pc + 4) % 2 ^ 14, e⟩ :: q.reps }

/-- RPTB and its register form. -/
def State.rptbOp (s : State) (n : Nat) (eofs : Nat) (cnt : Seq → Nat) : State :=
  s.issue n 1 .noEnd (2 ^ 14 ≤ (s.sq n).blockEnd eofs) (if 3 ≤ (s.sq n).reps.length then some .nest else none)
    fun t => t.setSq n ((t.sq n).repeatBlock (cnt (t.sq n)) ((t.sq n).blockEnd eofs))

/-- RPT. -/
def execRpt (n : Fin 160) (cnt : Half) (s : State) : Res := .next (s.rptOp n fun _ => cnt.toNat)
/-- RPT with the count in ga[15:0]. -/
def execRptReg (n : Fin 160) (ga : Fin 16) (s : State) : Res :=
  .next (s.rptOp n fun q => (q.gr ga).toNat % 2 ^ 16)
/-- RPTB. -/
def execRptb (n : Fin 160) (cnt : Half) (eofs : Byte) (s : State) : Res :=
  .next (s.rptbOp n eofs.toNat fun _ => cnt.toNat)
/-- RPTB with the count in ga[15:0]. -/
def execRptbReg (n : Fin 160) (ga : Fin 16) (eofs : Byte) (s : State) : Res :=
  .next (s.rptbOp n eofs.toNat fun q => (q.gr ga).toNat % 2 ^ 16)

end Sys2Proof.Machine
end

