-- ==== Sys2Proof/Machine/TabxoPort.lean ====
section
/-! DEFINITION. Tabxo: time, ports, mailboxes and the register port (R153 to R162, R187 to R191). -/

namespace Sys2Proof.Machine

/-! ### Ports (R157, R189) -/

/-- The ports of the cluster of sequencer n (R157). -/
def portsOf (n : Nat) : List Nat := if n < 16 then [0, 1, 2, 3, 4, 5, 14, 15] else [0, 1, 2, 3, 14, 15]

/-- PORT where the condition fails. -/
def portTrap (ok : Bool) : Option Trap := if ok then none else some .port

/-- Every port of a wake mask is in the cluster's list (R189). -/
def maskOk (n mask : Nat) : Bool := (List.range 16).all fun p => !bitOn mask p || (portsOf n).contains p

/-- GADJ, GSTEP and GBND run only in cluster 0 (R156). -/
def clusterZero (n : Nat) : Option Trap := portTrap (decide (n < 16))

/-- An instruction of the time and port families: PC goes on, then `f` acts on the device. -/
def State.portOp (s : State) (n : Nat) (illegal : Bool) (bad : Option Trap) (f : State → State) : State :=
  s.issue n 1 .noRepeat illegal bad fun t => f (t.setSq n ((t.sq n).retire 1))

/-- Sequencer n is changed by `f`. -/
def State.onSeq (s : State) (n : Nat) (f : Seq → Seq) : State := s.setSq n (f (s.sq n))

/-! ### Time (R153 to R156, R187, R188) -/

/-- The words of a Gauge snapshot (R153). -/
def State.snapWords (s : State) : List Word :=
  [w32 s.gfr, w32 s.gns, w32 (s.gns / 2 ^ 32), w32 s.busBound, w32 s.busSt.code]

/-- Words into g registers from gk on. -/
def Seq.setGs (q : Seq) (k : Nat) : List Word → Seq
  | [] => q
  | w :: r => (q.setG k w).setGs (k + 1) r

/-- GRD: GFR, GNS, BOUND and the state code of one edge (R153). -/
def execGrd (n : Fin 160) (gk : Fin 16) (s : State) : Res :=
  .next (s.portOp n (decide (11 < gk.val)) none fun t => t.onSeq n fun q => q.setGs gk s.snapWords)

/-- The ST40 instant in gk and gk+1[7:0] (R187). -/
def Seq.st40At (q : Seq) (k : Nat) : Nat := (q.gr k).toNat + bits (q.gr (k + 1)).toNat 7 0 * 2 ^ 32

/-- A masked port holds an inbound message (R154). -/
def Seq.masked (q : Seq) (mask : Nat) : Bool :=
  (List.range 16).any fun p => bitOn mask p && decide (q.inbox.get p [] ≠ [])

/-- WAITT (R154). A wait that does not end at once leaves PC at the WAITT. -/
def execWaitt (n : Fin 160) (gk : Fin 16) (mask : Half) (s : State) : Res :=
  .next (s.issue n 1 .noEnd (decide (14 < gk.val)) (portTrap (maskOk n mask.toNat)) fun t =>
    t.onSeq n fun q =>
      let at_ := q.st40At gk
      if t.due40 at_ ∨ q.masked mask.toNat then { q with t := t.due40 at_ }.retire 1
      else { q with st := .waiting, wait := some (at_, mask.toNat) })

/-- TIME_WAIT_DUE: the wait ends as its instant falls due (R154). -/
def execTimeWaitDue (n : Fin 160) (s : State) : Res :=
  .next (match (s.sq n).st, (s.sq n).wait with
    | .waiting, some (t, _) => if s.due40 t then s.onSeq n fun q => wakeSeq q true else s
    | _, _ => s)

/-- An event is posted, or refused by a full queue (R155). -/
def State.postEvent (s : State) (n : Nat) (e : Ev) : State :=
  let k := cluOf n
  if 64 ≤ (s.clu k).evs.length then (s.onSeq n fun q => { q with c := false }).bump .CLU_SCHED 31 16 1 k
  else (s.setClu k { s.clu k with evs := (s.clu k).evs ++ [e] }).onSeq n fun q => { q with c := true }

/-- SCHED (R155). -/
def execSched (n : Fin 160) (port gk : Fin 16) (code : Half) (s : State) : Res :=
  .next (s.portOp n (decide (14 < gk.val)) (portTrap ((portsOf n).contains port.val && decide (port.val ≠ 14)))
    fun t => t.postEvent n ⟨n, port, (s.sq n).st40At gk, code.toNat⟩)

/-- The frequency operand of GADJ (R38, R40, R50, R188). -/
def State.gadjFreq (s : State) (n : Nat) (f : Int) : State :=
  if s.gau.breach then s.stepRes (some n) 14 0 0
  else if fadjOk f then { s with gau := { s.gau with fadj := f } }
  else s.stepRes (some n) 9 0 0

/-- The phase operand of GADJ: a slew request (R41, R47, R156). -/
def State.gadjPhase (s : State) (n : Nat) (amt : Int) : State :=
  match s.judgeSlew amt with
  | .none => s.takeSlew amt (some n) 0
  | c => s.status (some n) (statusOfCode c) 0

/-- GADJ (R156, R187, R188). -/
def execGadj (n : Fin 160) (gk : Fin 16) (f p : Bool) (s : State) : Res :=
  let q := s.sq n
  .next (s.portOp n (decide (13 < gk.val) || (!f && !p)) (clusterZero n) fun t =>
    let t1 := if f then t.gadjFreq n (q.gr gk).toInt else t
    if p then t1.gadjPhase n (sext 64 (natOfWords [q.gr (gk + 1), q.gr (gk + 2)])) else t1)

/-- GSTEP: a step request through the write gate (R42, R60). -/
def execGstep (n : Fin 160) (gk : Fin 16) (clr : Bool) (s : State) : Res :=
  let q := s.sq n
  .next (s.portOp n (decide (11 < gk.val)) (clusterZero n) fun t =>
    t.submitChange (.gstep n (natOfWords [q.gr (gk + 3), q.gr (gk + 4)])
      (sext 96 (natOfWords [q.gr gk, q.gr (gk + 1), q.gr (gk + 2)])) clr) (.seq n))

/-- GBND (R39, R53). -/
def execGbnd (n : Fin 160) (gk : Fin 16) (lock : Bool) (s : State) : Res :=
  .next (s.portOp n false (clusterZero n) fun t => t.gbnd n ((s.sq n).gr gk).toNat lock)

/-! ### Messages (R159 to R162, R190) -/

/-- The addresses of `len` words of a message from `a` on, each wrapped in the region of xk (R190). -/
def Seq.msgAddrs (q : Seq) (k : Nat) : Nat → Nat → List Nat
  | _, 0 => []
  | a, len + 1 => a :: q.msgAddrs k (q.wrapFrom k a ((a : Int) + 4)).toNat len

/-- The trap of the words of a message at these addresses: ALIGN, then RANGE (R143, R190, R192). -/
def wordsTrap (l : List Nat) : Option Trap := accessTrap (l.map fun a => (.D, a, 4))

/-- LEN of the message at xk, from its header. -/
def Seq.msgLen (q : Seq) (k : Nat) : Nat := bits (memWord q.dMem (q.xr k).toNat).toNat 23 16

/-- The message at xk (R159). -/
def Seq.msgAt (q : Seq) (k : Nat) : Msg :=
  let h := (memWord q.dMem (q.xr k).toNat).toNat
  ⟨bits h 31 24, bits h 15 0, (q.msgAddrs k (q.xr k).toNat (q.msgLen k + 1)).tail.map (memWord q.dMem)⟩

/-- xk advances behind a message of LEN `len` (R190). -/
def Seq.passMsg (q : Seq) (k len : Nat) (inc : Bool) : Seq :=
  if inc then q.setX k (q.wrap k ((q.xr k).toNat + 4 * (len + 1))) else q

/-- The header of a message. -/
def Msg.header (m : Msg) : Word := w32 (m.type * 2 ^ 24 + m.pay.length * 2 ^ 16 + m.arg)

/-- The numbers of a message's payload. -/
def Msg.nums (m : Msg) : List Nat := m.pay.map BitVec.toNat

/-- A payload word. -/
def Msg.w (m : Msg) (i : Nat) : Nat := m.nums.getD i 0

/-- The block behind a port accepts the message: its TYPE, and the LEN of that TYPE (R159, R161, R261, R271, R318, R323). -/
def State.accepts (s : State) (n port : Nat) (m : Msg) : Bool :=
  let len := m.pay.length
  if n < 16 then
    match port, m.type with
    | 1, 0x10 => decide (len = 8)
    | 1, 0x11 => decide (len = 0)
    | 3, 0x30 => decide (len = 6)
    | 3, 0x31 => decide (len = 0)
    | 3, 0x32 => decide (len = 2)
    | 3, 0x33 => decide (len = 0)
    | 3, 0x34 => decide (len = 0)
    | 5, 0x51 => decide (1 ≤ len ∧ len ≤ 31)
    | _, _ => false
  else
    match port, m.type with
    | 1, 0x60 => decide (len = 0)
    | 2, 0x68 => decide (len = s.rowLen + 1)
    | 3, 0x70 => decide (len = s.psLen + 1)
    | _, _ => false

/-- An accepted message reaches its block; one whose ARG names no unit has no effect. -/
def State.takeMsg (s : State) (n port : Nat) (m : Msg) : State :=
  let tag := m.w 0 % 2 ^ 16
  match port, m.type with
  | 1, 0x10 =>
    if m.arg < 32 then
      s.postOp m.arg ⟨sext 96 (natOfWords (m.pay.take 3)), m.w 3, m.w 4,
        ((natOfWords ((m.pay.drop 5).take 2) * 2 ^ 32 : Nat) : Int), m.w 7⟩
    else s
  | 1, 0x11 => if m.arg < 32 then s.disqOp m.arg else s
  | 3, 0x30 =>
    if m.arg < 192 then
      s.startMsg m.arg (m.w 0) (m.w 1) (bits (natOfWords ((m.pay.drop 2).take 2)) 47 0) (natOfWords (m.pay.drop 4))
    else s
  | 3, 0x31 => if m.arg < 192 then s.stopChan m.arg else s
  | 3, 0x32 => if m.arg < 192 then s.updateMsg n m.arg (m.w 0) (m.w 1) else s
  | 3, 0x33 => s.setInd (m.arg % 256)
  | 3, 0x34 => s.clrInd (m.arg % 256)
  | 5, _ => if m.arg < 4 then s.peersendOp m.arg m.pay else s
  | 1, _ => s.fetchOp n
  | 2, _ => s.outrowOp (m.arg % 1024) tag (m.pay.tail.map BitVec.toInt)
  | 3, _ => s.psendOp (bits m.arg 11 10) (m.arg % 1024) tag m.pay.tail
  | _, _ => s

/-- The traps of a message that is sent: PORT, ALIGN, RANGE, BADMSG (R192). -/
def Seq.sendTrap (q : Seq) (k : Nat) (port ok : Bool) : Option Trap :=
  if ¬ port then some .port
  else match wordsTrap (q.msgAddrs k (q.xr k).toNat (q.msgLen k + 1)) with
    | some t => some t
    | none => if 31 < q.msgLen k ∨ ¬ ok then some .badmsg else none

/-- CHSEND (R159, R190). -/
def execChsend (n : Fin 160) (port : Fin 16) (x : Fin 8) (inc : Bool) (s : State) : Res :=
  let q := s.sq n
  let m := q.msgAt x
  .next (s.portOp n false
    (q.sendTrap x ((portsOf n).contains port.val && decide (port.val < 14)) (s.accepts n port m))
    fun t => (t.onSeq n fun q => q.passMsg x m.pay.length inc).takeMsg n port m)

/-- A message lands in D memory at xk, and leaves its inbox (R159). -/
def Seq.takeInbox (q : Seq) (port k : Nat) (inc : Bool) : Seq :=
  match q.inbox.get port [] with
  | [] => { q with z := true }
  | m :: r =>
    let d := ((q.msgAddrs k (q.xr k).toNat (m.pay.length + 1)).zip (m.header :: m.pay)).foldl
      (fun d p => memPutWord d p.1 p.2) q.dMem
    { q with z := false, dMem := d, inbox := q.inbox.set port r }.passMsg k m.pay.length inc

/-- The traps of a receive: PORT, ALIGN, RANGE. -/
def Seq.recvTrap (q : Seq) (n port k : Nat) : Option Trap :=
  if ¬ (portsOf n).contains port then some .port
  else wordsTrap (q.msgAddrs k (q.xr k).toNat (match q.inbox.get port [] with
    | [] => 1
    | m :: _ => m.pay.length + 1))

/-- A receive of sequencer n. -/
def State.recvOp (s : State) (n port k : Nat) (inc : Bool) : State :=
  s.portOp n false ((s.sq n).recvTrap n port k) fun t => t.onSeq n fun q => q.takeInbox port k inc

/-- CHRECV (R159, R190). -/
def execChrecv (n : Fin 160) (port : Fin 16) (x : Fin 8) (inc : Bool) (s : State) : Res :=
  .next (s.recvOp n port x inc)

/-- MBRECV: as CHRECV on port 14 (R162). -/
def execMbrecv (n : Fin 160) (x : Fin 8) (inc : Bool) (s : State) : Res := .next (s.recvOp n 14 x inc)

/-- A mailbox message to sequencer d: delivered or not, and C tells which (R162). One that a STOPPED or FENCED sequencer
discards is counted there (R160). -/
def State.mailOp (s : State) (n d : Nat) (m : Msg) : State :=
  let c (b : Bool) (t : State) : State := t.onSeq n fun q => { q with c := b }
  if 159 < d then c false s
  else if ¬ s.listens d then c false (s.deliver d 14 m)
  else if s.room d 14 m then (c true s).deliver d 14 m
  else c false s

/-- MBSEND (R162, R190). -/
def execMbsend (n : Fin 160) (ga : Fin 16) (x : Fin 8) (inc : Bool) (s : State) : Res :=
  let q := s.sq n
  let m := q.msgAt x
  .next (s.portOp n false (q.sendTrap x true (decide (0x80 ≤ m.type))) fun t =>
    (t.onSeq n fun q => q.passMsg x m.pay.length inc).mailOp n (bits (q.gr ga).toNat 7 0) m)

/-! ### The register port (R158, R191) -/

/-- RDREG (R158). -/
def execRdreg (n : Fin 160) (gd ga : Fin 16) (s : State) : Res :=
  .next (s.portOp n false none fun t =>
    let r := t.readWord (.seq n) ((s.sq n).gr ga).toNat
    r.2.onSeq n fun q => q.setG gd (w32 r.1))

/-- WRREG: the sequencer stalls until the write is applied or refused (R158). -/
def execWrreg (n : Fin 160) (gb ga : Fin 16) (s : State) : Res :=
  let q := s.sq n
  .next (s.issue n 1 .noRepeat false none fun t =>
    (t.onSeq n fun q => { q with stall := true }).writeAccess (.seq n) ⟨4, q.gr ga⟩ (q.gr gb).toNat)

end Sys2Proof.Machine
end

