-- ==== Sys2Proof/Machine/Writes.lean ====
section
/-! DEFINITION. The commands that are a write of one register by a requester. Each submits the whole register, with the fields
the command does not name as last written, through the write gate (R12, R303). -/

namespace Sys2Proof.Machine


/-- The last written value of a register with bits `hi` to `lo` given. -/
def State.lastWith (s : State) (r : RegName) (hi lo w : Nat) (i : Nat := 0) (j : Nat := 0) : Nat :=
  putBits (s.lastOf r i j) hi lo w

/-- A write that sets or clears one bit of a register. -/
def State.submitBit (s : State) (q : Requester) (r : RegName) (b : Nat) (v : Bool) (i : Nat := 0) (j : Nat := 0) : State :=
  s.submit q r (s.lastWith r b b (bit1 v 0) i j) i j

/-! ### Gauge, selector and outputs -/

/-- R41. -/
def execSlewAmtWrite (r : Requester) (amt : DWord) (s : State) : Res := .next (s.submit r .GAU_SLEW_AMT amt.toNat)

/-- R42. -/
def execStepAtWrite (r : Requester) (at_ : DWord) (s : State) : Res := .next (s.submit r .GAU_STEP_AT at_.toNat)

/-- R45. -/
def execStepCancel (r : Requester) (s : State) : Res := .next (s.submitBit r .GAU_STEP_CTL 8 true)

/-- R48, R50. -/
def execStepAck (r : Requester) (seq : Half) (s : State) : Res := .next (s.submit r .GAU_STEP_ACK seq.toNat)

/-- R71. -/
def execCandidateEnable (r : Requester) (k : Fin 31) (en : Bool) (s : State) : Res :=
  .next (s.submitBit r .SEL_CFG 31 en k)

/-- R72. -/
def execHostsetWrite (r : Requester) (t : DWord) (s : State) : Res := .next (s.submit r .SEL_HOSTSET t.toNat)

/-- R94. -/
def execGrpcSnapWrite (r : Requester) (s : State) : Res := .next (s.submitBit r .OUT_GRPC 31 true)

/-- R97. -/
def execOutputEnable (r : Requester) (i : Fin 20) (s : State) : Res := .next (s.submitBit r .OUT_CFG 31 true i)

/-- R103. -/
def execWclkRealignWrite (r : Requester) (j : Fin 2) (s : State) : Res :=
  .next (s.submitBit r .OUT_SKIP 0 true (18 + j))

/-! ### Baseband -/

/-- R125. -/
def execSpiTransaction (r : Requester) (tx : DWord) (s : State) : Res := .next (s.submit r .GNS_SPI_TX tx.toNat)

/-- R130. -/
def execChannelEnable (r : Requester) (c : Fin 192) (en : Bool) (s : State) : Res :=
  .next (s.submitBit r .CH_CFG 31 en c)

/-- R134. -/
def execAcqGo (r : Requester) (j : Fin 16) (s : State) : Res := .next (s.submitBit r .ACQ_CFG 31 true j)

/-- R134. -/
def execAcqCancel (r : Requester) (j : Fin 16) (s : State) : Res := .next (s.submitBit r .ACQ_CFG 30 true j)

/-- R139. -/
def execSwatchGo (r : Requester) (s : State) : Res := .next (s.submitBit r .SW_CTL 31 true)

/-- R139. -/
def execSwatchAbort (r : Requester) (s : State) : Res := .next (s.submitBit r .SW_CTL 30 true)

/-! ### Sequencers -/

/-- R163: RUN = 1, with AT_ROW and UNFENCE as given. -/
def execSeqRun (r : Requester) (n : Fin 160) (atRow unfence : Bool) (s : State) : Res :=
  .next (s.submit r .SEQ_CTL
    (s.lastWith .SEQ_CTL 31 29 (bit1 true 2 + bit1 atRow 1 + bit1 unfence 0) n) n)

/-- R163: RUN = 0. -/
def execSeqStop (r : Requester) (n : Fin 160) (s : State) : Res := .next (s.submitBit r .SEQ_CTL 31 false n)

/-- R171: UNFENCE = 1 with RUN = 0. -/
def execUnfence (r : Requester) (n : Fin 160) (s : State) : Res :=
  .next (s.submit r .SEQ_CTL (putBits (s.lastWith .SEQ_CTL 29 29 1 n) 31 31 0) n)

/-- R168. -/
def execImageLoad (r : Requester) (k : Fin 10) (mask : Half) (s : State) : Res :=
  .next (s.submit r .CLU_LOAD_CTL (2 ^ 31 + mask.toNat) k)

/-- R165. -/
def execSeqmemWrite (r : Requester) (a : Access) (v : Word) (s : State) : Res := .next (s.writeAccess r a v.toNat)

/-! ### Ethernet and time service -/

/-- R206. -/
def execRowSwapRequest (r : Requester) (p : Fin 8) (s : State) : Res := .next (s.submitBit r .ETH_ROW_CTL 29 true p)

/-- R207. -/
def execRowLiveWrite (r : Requester) (p : Fin 8) (i : Fin 256) (gate : Bool) (v : Word) (s : State) : Res :=
  .next (s.submit r (if gate then .ROWA_GATE else .ROWA_OFS) v.toNat p i)

/-- R240. -/
def execNtsRotAtWrite (r : Requester) (at_ : DWord) (s : State) : Res := .next (s.submit r .TSV_NTS_ROT_AT at_.toNat)

/-- R240. -/
def execNtsRetire (r : Requester) (s : State) : Res := .next (s.submitBit r .TSV_NTS_KEY 31 true)

/-! ### Audio and mix -/

/-- R246. -/
def execAudStop (r : Requester) (s : State) : Res := .next (s.submitBit r .AUD_CTL 31 false)

/-- A write of EN of an audio object (R264). -/
def State.submitObj (s : State) (r : Requester) (obj : AudObj) (en : Bool) : State :=
  match obj with
  | .rxs i => s.submitBit r .RXS_CFG 31 en i
  | .txs i => s.submitBit r .TXS_CFG 31 en i
  | .aesi i => s.submitBit r .AESI_CFG 31 en i
  | .aeso i => s.submitBit r .AESO_CFG 31 en i

/-- R264. -/
def execStreamEnable (r : Requester) (obj : AudObj) (s : State) : Res := .next (s.submitObj r obj true)

/-- R264. -/
def execStreamDisable (r : Requester) (obj : AudObj) (s : State) : Res := .next (s.submitObj r obj false)

/-- R265. -/
def execTriggerArm (r : Requester) (at_ : DWord) (s : State) : Res := .next (s.submit r .AUD_TRIG_AT at_.toNat)

/-- R274. -/
def execNodeWrite (r : Requester) (node : Fin 1048576) (v : Word) (s : State) : Res :=
  .next (s.submit r .MIX_NODE v.toNat (node.val / 1024) (node.val % 1024))

/-- R282. -/
def execBiquadCommit (r : Requester) (c : Fin 1024) (bq : BiquadNo) (a2 : Word) (s : State) : Res :=
  .next (match bq with
    | .input b => s.submit r .MIX_IBQ a2.toNat c b 4
    | .output b => s.submit r .MIX_OBQ a2.toNat c b 4)

/-! ### Keys, fuses and reports -/

/-- R291. -/
def execKeyParamWrite (r : Requester) (k : KeyParam) (v : Word) (s : State) : Res :=
  match k with
  | .attr => .next (s.submit r .KEY_OP_ATTR v.toNat)
  | .ctx => .next (s.submit r .KEY_CTX v.toNat)
  | .data w => .next (s.submit r .KEY_DATA v.toNat w)

/-- KEY_OP with GO = 1 (R291). -/
def keyOpWord (op parent slot : Nat) : Nat := 2 ^ 31 + op * 2 ^ 24 + parent * 2 ^ 16 + slot * 2 ^ 8

/-- R291. -/
def execKeyGenerate (r : Requester) (slot : Fin 64) (s : State) : Res := .next (s.submit r .KEY_OP (keyOpWord 1 0 slot))

/-- R291. -/
def execKeyImport (r : Requester) (slot : Fin 64) (s : State) : Res := .next (s.submit r .KEY_OP (keyOpWord 2 0 slot))

/-- R291. -/
def execKeyUnwrap (r : Requester) (parent slot : Fin 64) (s : State) : Res :=
  .next (s.submit r .KEY_OP (keyOpWord 3 parent slot))

/-- R293. -/
def execKeyDerive (r : Requester) (parent slot : Fin 64) (s : State) : Res :=
  .next (s.submit r .KEY_OP (keyOpWord 4 parent slot))

/-- R292. -/
def execKeyInvalidate (r : Requester) (slot : Fin 64) (s : State) : Res :=
  .next (s.submit r .KEY_OP (keyOpWord 5 0 slot))

/-- R298. -/
def execKeyZeroize (r : Requester) (s : State) : Res := .next (s.submit r .KEY_OP (keyOpWord 6 0 0))

/-- R300. -/
def execFuseArm (r : Requester) (v : Word) (s : State) : Res := .next (s.submit r .ATT_FUSE_ARM v.toNat)

/-- ATT_FUSE_CMD with GO = 1 (R300). -/
def fuseWord (f v : Nat) : Nat := 2 ^ 31 + f * 2 ^ 16 + v

/-- R300. -/
def execFuseDebugClose (r : Requester) (s : State) : Res := .next (s.submit r .ATT_FUSE_CMD (fuseWord 0 0))

/-- R300. -/
def execFuseOwnerLock (r : Requester) (s : State) : Res := .next (s.submit r .ATT_FUSE_CMD (fuseWord 1 0))

/-- R300. -/
def execFuseOwnerKeyHash (r : Requester) (s : State) : Res := .next (s.submit r .ATT_FUSE_CMD (fuseWord 2 0))

/-- R300. -/
def execFuseRollback (r : Requester) (i : Fin 4) (v : BitVec 6) (s : State) : Res :=
  .next (s.submit r .ATT_FUSE_CMD (fuseWord (4 + i) v.toNat))

/-- R301. -/
def execReportRequest (r : Requester) (q : Fin 16) (s : State) : Res := .next (s.submit r .ATT_CTL (2 ^ 31) q)

/-- R312. -/
def execLogAck (r : Requester) (seq : Word) (link : DWord) (s : State) : Res :=
  .next (s.submit r .LOG_ACK (seq.toNat + 2 ^ 32 * link.toNat))

/-! ### Twin and supervision -/

/-- R327. -/
def execTwinEnable (r : Requester) (en : Bool) (s : State) : Res := .next (s.submitBit r .STL_TWIN_CFG 31 en)

/-- R328. -/
def execRelinqCommand (r : Requester) (s : State) : Res := .next (s.submit r .STL_TWIN_CTL (2 ^ 30))

/-- R336. -/
def execHandoverRequest (r : Requester) (s : State) : Res := .next (s.submit r .STL_TWIN_CTL (2 ^ 31))

/-- R342. -/
def execResume (r : Requester) (s : State) : Res := .next (s.submitBit r .FLT_CTL 30 true)

/-- R346. -/
def execInjectGo (r : Requester) (dry : Bool) (src : BitVec 6) (unit : Half) (s : State) : Res :=
  .next (s.submit r .FLT_INJ (2 ^ 31 + bit1 dry 30 + src.toNat * 2 ^ 16 + unit.toNat))

/-- R346. -/
def execInjectCancel (r : Requester) (s : State) : Res := .next (s.submitBit r .FLT_INJ 29 true)

/-- R352. -/
def execRecClrAll (r : Requester) (s : State) : Res := .next (s.submit r .REC_CTL (2 ^ 31))

/-- R352. -/
def execRecClrCnt (r : Requester) (s : State) : Res := .next (s.submit r .REC_CTL (2 ^ 30))

/-- R352. -/
def execRecSnap (r : Requester) (s : State) : Res := .next (s.submit r .REC_CTL (2 ^ 29))

/-- R350. -/
def execUnitClr (r : Requester) (u : Fin 12) (s : State) : Res := .next (s.submit r .REC_UNIT_CLR (2 ^ 31) u)

/-- R350. -/
def execUnitMeasWrite (r : Requester) (u : Fin 12) (v : Word) (s : State) : Res := .next (s.submit r .REC_UNIT v.toNat u)

/-- R353. -/
def execPmcCounterWrite (r : Requester) (i : Fin 1024) (v : Word) (s : State) : Res := .next (s.submit r .PMC_CNT v.toNat i)

/-- R355. -/
def execSweepGo (r : Requester) (s : State) : Res := .next (s.submitBit r .PMC_SWEEP 31 true)

/-! ### Ownership, host, memory and cast-on -/

/-- R358. -/
def execTopOwnerWrite (r : Requester) (v : Word) (s : State) : Res := .next (s.submit r .TOP_OWNER v.toNat)

/-- R363. -/
def execDmaDoorbell (r : Requester) (q : Fin 16) (prod : Half) (s : State) : Res := .next (s.submit r .DMA_PROD prod.toNat q)

/-- R365. -/
def execMbxGo (r : Requester) (s : State) : Res := .next (s.submit r .HST_MBX_CTL (2 ^ 31))

/-- R365. -/
def execMbxAck (r : Requester) (s : State) : Res := .next (s.submit r .HST_MBX_CTL (2 ^ 30))

/-- R373. -/
def execSpareGo (r : Requester) (ch : Fin 2) (dev : BitVec 4) (s : State) : Res :=
  .next (s.submit r .MEM_SPARE (putBits (s.lastWith .MEM_SPARE 19 16 dev.toNat ch) 31 31 1) ch)

/-- R383. -/
def execCastGo (r : Requester) (s : State) : Res := .next (s.submit r .TOP_CAST (2 ^ 31))

/-- R388. -/
def execTopConfigSave (r : Requester) (img : Fin 4) (s : State) : Res :=
  .next (s.submit r .TOP_CONFIG (2 ^ 31 + img.val * 2 ^ 24))

/-- R388. -/
def execTopConfigSelect (r : Requester) (img : Fin 4) (none_ : Bool) (s : State) : Res :=
  .next (s.submit r .TOP_CONFIG (2 ^ 30 + bit1 none_ 29 + img.val * 2 ^ 24))

/-- R389. -/
def execTopBindoffGo (r : Requester) (zeroize : Bool) (s : State) : Res :=
  .next (s.submit r .TOP_BINDOFF (2 ^ 31 + bit1 zeroize 30))

end Sys2Proof.Machine
end

