-- ==== Sys2Proof/Machine/Dispatch.lean ====
section
/-! DEFINITION. The effect of each command: one arm for each row of spec/opcode_table.json. -/

namespace Sys2Proof.Machine

/-- The effect of a command on everything but the queue. -/
def exec (i : Instr) (s : State) : Host.Outcome State Fault Refusal :=
  match i with
  | .registerWrite r a v => Sys2Proof.Machine.execRegisterWrite r a v s
  | .lowWordRead r addr => Sys2Proof.Machine.execLowWordRead r addr s
  | .wideWrite r addr v => Sys2Proof.Machine.execWideWrite r addr v s
  | .rcRead r addr => Sys2Proof.Machine.execRcRead r addr s
  | .epochBoundaryApply b => Sys2Proof.Machine.execEpochBoundaryApply b s
  | .auditRecordWrite => Sys2Proof.Machine.execAuditRecordWrite s
  | .gateRelease => Sys2Proof.Machine.execGateRelease s
  | .auditBusyTimeout => Sys2Proof.Machine.execAuditBusyTimeout s
  | .deferredRecord => Sys2Proof.Machine.execDeferredRecord s
  | .logAck r seq link => Sys2Proof.Machine.execLogAck r seq link s
  | .logTailRead r => Sys2Proof.Machine.execLogTailRead r s
  | .logTail2Read r => Sys2Proof.Machine.execLogTail2Read r s
  | .wardenRestart verifies => Sys2Proof.Machine.execWardenRestart verifies s
  | .gauSnapRead r => Sys2Proof.Machine.execGauSnapRead r s
  | .heartbeatTimeout => Sys2Proof.Machine.execHeartbeatTimeout s
  | .holdoverMsTick => Sys2Proof.Machine.execHoldoverMsTick s
  | .slewAmtWrite r amt => Sys2Proof.Machine.execSlewAmtWrite r amt s
  | .stepAtWrite r at_ => Sys2Proof.Machine.execStepAtWrite r at_ s
  | .stepEdge => Sys2Proof.Machine.execStepEdge s
  | .stepCancel r => Sys2Proof.Machine.execStepCancel r s
  | .witnessRelease => Sys2Proof.Machine.execWitnessRelease s
  | .stepAck r seq => Sys2Proof.Machine.execStepAck r seq s
  | .holdExpiry => Sys2Proof.Machine.execHoldExpiry s
  | .guardBreach => Sys2Proof.Machine.execGuardBreach s
  | .breachWitnessClose => Sys2Proof.Machine.execBreachWitnessClose s
  | .guardWindowRestart => Sys2Proof.Machine.execGuardWindowRestart s
  | .leapSecond => Sys2Proof.Machine.execLeapSecond s
  | .candidateEnable r k en => Sys2Proof.Machine.execCandidateEnable r k en s
  | .candidateObservation k e => Sys2Proof.Machine.execCandidateObservation k e s
  | .candidateLoss k => Sys2Proof.Machine.execCandidateLoss k s
  | .selSecond => Sys2Proof.Machine.execSelSecond s
  | .candidateQualify k => Sys2Proof.Machine.execCandidateQualify k s
  | .commitRequest => Sys2Proof.Machine.execCommitRequest s
  | .switchCommit => Sys2Proof.Machine.execSwitchCommit s
  | .commitAuditTimeout => Sys2Proof.Machine.execCommitAuditTimeout s
  | .fselChange => Sys2Proof.Machine.execFselChange s
  | .hostsetWrite r t => Sys2Proof.Machine.execHostsetWrite r t s
  | .hostsetQualify => Sys2Proof.Machine.execHostsetQualify s
  | .post n slot delta u bc meas ln => Sys2Proof.Machine.execPost n slot delta u bc meas ln s
  | .disq n slot => Sys2Proof.Machine.execDisq n slot s
  | .hldSecond => Sys2Proof.Machine.execHldSecond s
  | .atomPpsEdge => Sys2Proof.Machine.execAtomPpsEdge s
  | .grpcSnapWrite r => Sys2Proof.Machine.execGrpcSnapWrite r s
  | .grpcSnap => Sys2Proof.Machine.execGrpcSnap s
  | .outputEnable r e => Sys2Proof.Machine.execOutputEnable r e s
  | .ppsPulse j => Sys2Proof.Machine.execPpsPulse j s
  | .todMessage j => Sys2Proof.Machine.execTodMessage j s
  | .wclkRealignWrite r j => Sys2Proof.Machine.execWclkRealignWrite r j s
  | .wclkRealign j => Sys2Proof.Machine.execWclkRealign j s
  | .squelchRelease e => Sys2Proof.Machine.execSquelchRelease e s
  | .tdcEdge src fall codes => Sys2Proof.Machine.execTdcEdge src fall codes s
  | .tdcTimeout c => Sys2Proof.Machine.execTdcTimeout c s
  | .calInjection u code e => Sys2Proof.Machine.execCalInjection u code e s
  | .calPassExpiry u => Sys2Proof.Machine.execCalPassExpiry u s
  | .tableSwap u => Sys2Proof.Machine.execTableSwap u s
  | .tensionVisitEnd => Sys2Proof.Machine.execTensionVisitEnd s
  | .feClockLost f => Sys2Proof.Machine.execFeClockLost f s
  | .feSecond f e g => Sys2Proof.Machine.execFeSecond f e g s
  | .spiTransaction r tx => Sys2Proof.Machine.execSpiTransaction r tx s
  | .spiDone rx => Sys2Proof.Machine.execSpiDone rx s
  | .channelEnable r c en => Sys2Proof.Machine.execChannelEnable r c en s
  | .start n c codeNco carrNco ph scnt => Sys2Proof.Machine.execStart n c codeNco carrNco ph scnt s
  | .stop n c => Sys2Proof.Machine.execStop n c s
  | .channelTrack c => Sys2Proof.Machine.execChannelTrack c s
  | .update n c codeNco carrNco => Sys2Proof.Machine.execUpdate n c codeNco carrNco s
  | .dumpBoundary c e g h => Sys2Proof.Machine.execDumpBoundary c e g h s
  | .acqGo r j => Sys2Proof.Machine.execAcqGo r j s
  | .acqCancel r j => Sys2Proof.Machine.execAcqCancel r j s
  | .acqJobDone e => Sys2Proof.Machine.execAcqJobDone e s
  | .measurementLatch e => Sys2Proof.Machine.execMeasurementLatch e s
  | .swatchGo r => Sys2Proof.Machine.execSwatchGo r s
  | .swatchStart e => Sys2Proof.Machine.execSwatchStart e s
  | .swatchEnd e g => Sys2Proof.Machine.execSwatchEnd e g s
  | .swatchAbort r => Sys2Proof.Machine.execSwatchAbort r s
  | .setind n b => Sys2Proof.Machine.execSetind n b s
  | .clrind n b => Sys2Proof.Machine.execClrind n b s
  | .indicatorClear b => Sys2Proof.Machine.execIndicatorClear b s
  | .seqRun r n atRow unfence => Sys2Proof.Machine.execSeqRun r n atRow unfence s
  | .seqStart n => Sys2Proof.Machine.execSeqStart n s
  | .seqStop r n => Sys2Proof.Machine.execSeqStop r n s
  | .unfence r n => Sys2Proof.Machine.execUnfence r n s
  | .watchdogExpiry n => Sys2Proof.Machine.execWatchdogExpiry n s
  | .schedEventDue k => Sys2Proof.Machine.execSchedEventDue k s
  | .imageLoad r k mask => Sys2Proof.Machine.execImageLoad r k mask s
  | .imageLoadDone k => Sys2Proof.Machine.execImageLoadDone k s
  | .seqmemWrite r a v => Sys2Proof.Machine.execSeqmemWrite r a v s
  | .nop n => Sys2Proof.Machine.execNop n s
  | .wdk n => Sys2Proof.Machine.execWdk n s
  | .clrs n => Sys2Proof.Machine.execClrs n s
  | .ret n => Sys2Proof.Machine.execRet n s
  | .rdid n gd => Sys2Proof.Machine.execRdid n gd s
  | .b n tw => Sys2Proof.Machine.execB n tw s
  | .bcc n cond tw => Sys2Proof.Machine.execBcc n cond tw s
  | .call n tw => Sys2Proof.Machine.execCall n tw s
  | .br n ga => Sys2Proof.Machine.execBr n ga s
  | .add n gd ga gb => Sys2Proof.Machine.execAdd n gd ga gb s
  | .addc n gd ga gb => Sys2Proof.Machine.execAddc n gd ga gb s
  | .sub n gd ga gb => Sys2Proof.Machine.execSub n gd ga gb s
  | .subb n gd ga gb => Sys2Proof.Machine.execSubb n gd ga gb s
  | .and n gd ga gb => Sys2Proof.Machine.execAnd n gd ga gb s
  | .or n gd ga gb => Sys2Proof.Machine.execOr n gd ga gb s
  | .xor n gd ga gb => Sys2Proof.Machine.execXor n gd ga gb s
  | .cmp n ga gb => Sys2Proof.Machine.execCmp n ga gb s
  | .tst n ga gb => Sys2Proof.Machine.execTst n ga gb s
  | .min n gd ga gb => Sys2Proof.Machine.execMin n gd ga gb s
  | .max n gd ga gb => Sys2Proof.Machine.execMax n gd ga gb s
  | .shl n gd ga gb => Sys2Proof.Machine.execShl n gd ga gb s
  | .shr n gd ga gb => Sys2Proof.Machine.execShr n gd ga gb s
  | .sar n gd ga gb => Sys2Proof.Machine.execSar n gd ga gb s
  | .mov n gd ga => Sys2Proof.Machine.execMov n gd ga s
  | .neg n gd ga => Sys2Proof.Machine.execNeg n gd ga s
  | .abs n gd ga => Sys2Proof.Machine.execAbs n gd ga s
  | .not n gd ga => Sys2Proof.Machine.execNot n gd ga s
  | .addi n gd ga imm => Sys2Proof.Machine.execAddi n gd ga imm s
  | .andi n gd ga imm => Sys2Proof.Machine.execAndi n gd ga imm s
  | .ori n gd ga imm => Sys2Proof.Machine.execOri n gd ga imm s
  | .xori n gd ga imm => Sys2Proof.Machine.execXori n gd ga imm s
  | .cmpi n ga imm => Sys2Proof.Machine.execCmpi n ga imm s
  | .shli n gd ga k => Sys2Proof.Machine.execShli n gd ga k s
  | .shri n gd ga k => Sys2Proof.Machine.execShri n gd ga k s
  | .sari n gd ga k => Sys2Proof.Machine.execSari n gd ga k s
  | .ldi n gd imm => Sys2Proof.Machine.execLdi n gd imm s
  | .lui n gd imm => Sys2Proof.Machine.execLui n gd imm s
  | .ldil n gd imm => Sys2Proof.Machine.execLdil n gd imm s
  | .ldx n kind k imm => Sys2Proof.Machine.execLdx n kind k imm s
  | .mvta n kind k ga => Sys2Proof.Machine.execMvta n kind k ga s
  | .mvfa n gd kind k => Sys2Proof.Machine.execMvfa n gd kind k s
  | .lea n md => Sys2Proof.Machine.execLea n md s
  | .ldw n gd md => Sys2Proof.Machine.execLdw n gd md s
  | .ldh n gd md => Sys2Proof.Machine.execLdh n gd md s
  | .ldhu n gd md => Sys2Proof.Machine.execLdhu n gd md s
  | .stw n gb md => Sys2Proof.Machine.execStw n gb md s
  | .sth n gb md => Sys2Proof.Machine.execSth n gb md s
  | .lda n acc md => Sys2Proof.Machine.execLda n acc md s
  | .addm n acc md => Sys2Proof.Machine.execAddm n acc md s
  | .st16 n md acc k sat => Sys2Proof.Machine.execSt16 n md acc k sat s
  | .st32 n md acc k sat => Sys2Proof.Machine.execSt32 n md acc k sat s
  | .rda n gd acc k wide sat => Sys2Proof.Machine.execRda n gd acc k wide sat s
  | .clr n acc => Sys2Proof.Machine.execClr n acc s
  | .acmb n => Sys2Proof.Machine.execAcmb n s
  | .mvga n acc ga k => Sys2Proof.Machine.execMvga n acc ga k s
  | .addga n acc ga k => Sys2Proof.Machine.execAddga n acc ga k s
  | .adda n acc => Sys2Proof.Machine.execAdda n acc s
  | .suba n acc => Sys2Proof.Machine.execSuba n acc s
  | .nega n acc => Sys2Proof.Machine.execNega n acc s
  | .shla n acc k => Sys2Proof.Machine.execShla n acc k s
  | .sara n acc k => Sys2Proof.Machine.execSara n acc k s
  | .norm n acc gd => Sys2Proof.Machine.execNorm n acc gd s
  | .exp n gd acc => Sys2Proof.Machine.execExp n gd acc s
  | .mac n m => Sys2Proof.Machine.execMac n m s
  | .msu n m => Sys2Proof.Machine.execMsu n m s
  | .mpy n m => Sys2Proof.Machine.execMpy n m s
  | .macr n m => Sys2Proof.Machine.execMacr n m s
  | .msur n m => Sys2Proof.Machine.execMsur n m s
  | .mpyr n m => Sys2Proof.Machine.execMpyr n m s
  | .rpt n cnt => Sys2Proof.Machine.execRpt n cnt s
  | .rptReg n ga => Sys2Proof.Machine.execRptReg n ga s
  | .rptb n cnt eofs => Sys2Proof.Machine.execRptb n cnt eofs s
  | .rptbReg n ga eofs => Sys2Proof.Machine.execRptbReg n ga eofs s
  | .grd n gk => Sys2Proof.Machine.execGrd n gk s
  | .waitt n gk mask => Sys2Proof.Machine.execWaitt n gk mask s
  | .sched n port gk code => Sys2Proof.Machine.execSched n port gk code s
  | .gadj n gk f p => Sys2Proof.Machine.execGadj n gk f p s
  | .gstep n gk clr => Sys2Proof.Machine.execGstep n gk clr s
  | .gbnd n gk lock => Sys2Proof.Machine.execGbnd n gk lock s
  | .chsend n port x inc => Sys2Proof.Machine.execChsend n port x inc s
  | .chrecv n port x inc => Sys2Proof.Machine.execChrecv n port x inc s
  | .mbsend n ga x inc => Sys2Proof.Machine.execMbsend n ga x inc s
  | .mbrecv n x inc => Sys2Proof.Machine.execMbrecv n x inc s
  | .rdreg n gd ga => Sys2Proof.Machine.execRdreg n gd ga s
  | .wrreg n gb ga => Sys2Proof.Machine.execWrreg n gb ga s
  | .linkDown p => Sys2Proof.Machine.execLinkDown p s
  | .linkUp p => Sys2Proof.Machine.execLinkUp p s
  | .frameReceive p bytes fcsOk code => Sys2Proof.Machine.execFrameReceive p bytes fcsOk code s
  | .pauseRepeat p => Sys2Proof.Machine.execPauseRepeat p s
  | .pauseReceive p pfc vec quanta fcsOk => Sys2Proof.Machine.execPauseReceive p pfc vec quanta fcsOk s
  | .pauseExpiry p c => Sys2Proof.Machine.execPauseExpiry p c s
  | .preemptVerify p responded => Sys2Proof.Machine.execPreemptVerify p responded s
  | .launchDecision p => Sys2Proof.Machine.execLaunchDecision p s
  | .txStampStore p e => Sys2Proof.Machine.execTxStampStore p e s
  | .ethTxtsPop r p => Sys2Proof.Machine.execEthTxtsPop r p s
  | .rowCycleStart p => Sys2Proof.Machine.execRowCycleStart p s
  | .rowSwapRequest r p => Sys2Proof.Machine.execRowSwapRequest r p s
  | .slotStart p => Sys2Proof.Machine.execSlotStart p s
  | .rowLiveWrite r p e gate v => Sys2Proof.Machine.execRowLiveWrite r p e gate v s
  | .ethMarker p e g => Sys2Proof.Machine.execEthMarker p e g s
  | .syncInstant p e => Sys2Proof.Machine.execSyncInstant p e s
  | .announceInstant p e => Sys2Proof.Machine.execAnnounceInstant p e s
  | .delayReqInstant p => Sys2Proof.Machine.execDelayReqInstant p s
  | .pdelayReqInstant p => Sys2Proof.Machine.execPdelayReqInstant p s
  | .followUpLaunch p => Sys2Proof.Machine.execFollowUpLaunch p s
  | .ptpMessageReceive p e => Sys2Proof.Machine.execPtpMessageReceive p e s
  | .ptpSecond => Sys2Proof.Machine.execPtpSecond s
  | .foreignMasterTimeout p clockId portNo => Sys2Proof.Machine.execForeignMasterTimeout p clockId portNo s
  | .unicastRequest p e => Sys2Proof.Machine.execUnicastRequest p e s
  | .unicastCancel p e => Sys2Proof.Machine.execUnicastCancel p e s
  | .grantExpiry e k => Sys2Proof.Machine.execGrantExpiry e k s
  | .unicastRenew p u k => Sys2Proof.Machine.execUnicastRenew p u k s
  | .unicastRetry p u k => Sys2Proof.Machine.execUnicastRetry p u k s
  | .ntpRequest p e => Sys2Proof.Machine.execNtpRequest p e s
  | .ntsRequest p e => Sys2Proof.Machine.execNtsRequest p e s
  | .mintRequest => Sys2Proof.Machine.execMintRequest s
  | .ntsRotAtWrite r at_ => Sys2Proof.Machine.execNtsRotAtWrite r at_ s
  | .ntsRotation => Sys2Proof.Machine.execNtsRotation s
  | .ntsRetire r => Sys2Proof.Machine.execNtsRetire r s
  | .audStop r => Sys2Proof.Machine.execAudStop r s
  | .rowStart => Sys2Proof.Machine.execRowStart s
  | .streamPacketReceive p => Sys2Proof.Machine.execStreamPacketReceive p s
  | .streamPacketLaunch e => Sys2Proof.Machine.execStreamPacketLaunch e s
  | .aes3FrameReceive p f => Sys2Proof.Machine.execAes3FrameReceive p f s
  | .aes3UnlockTimeout p => Sys2Proof.Machine.execAes3UnlockTimeout p s
  | .aes3AsrcLoss p => Sys2Proof.Machine.execAes3AsrcLoss p s
  | .aes3AsrcRun p => Sys2Proof.Machine.execAes3AsrcRun p s
  | .aes3FrameSend p => Sys2Proof.Machine.execAes3FrameSend p s
  | .outrow n o tag samples => Sys2Proof.Machine.execOutrow n o tag samples s
  | .stripDeadline => Sys2Proof.Machine.execStripDeadline s
  | .delayLineDeadline o => Sys2Proof.Machine.execDelayLineDeadline o s
  | .zeroCrossingApply obj ch => Sys2Proof.Machine.execZeroCrossingApply obj ch s
  | .zcTimeout obj ch => Sys2Proof.Machine.execZcTimeout obj ch s
  | .streamEnable r obj => Sys2Proof.Machine.execStreamEnable r obj s
  | .streamDisable r obj => Sys2Proof.Machine.execStreamDisable r obj s
  | .stopComplete obj => Sys2Proof.Machine.execStopComplete obj s
  | .triggerArm r at_ => Sys2Proof.Machine.execTriggerArm r at_ s
  | .triggerFire => Sys2Proof.Machine.execTriggerFire s
  | .nodeWrite r node v => Sys2Proof.Machine.execNodeWrite r node v s
  | .fetch n => Sys2Proof.Machine.execFetch n s
  | .mixRowUpdate => Sys2Proof.Machine.execMixRowUpdate s
  | .biquadCommit r c bq a2 => Sys2Proof.Machine.execBiquadCommit r c bq a2 s
  | .meterBlockEnd => Sys2Proof.Machine.execMeterBlockEnd s
  | .psend n q => Sys2Proof.Machine.execPsend n q s
  | .partialSumSlot received => Sys2Proof.Machine.execPartialSumSlot received s
  | .keyParamWrite r k v => Sys2Proof.Machine.execKeyParamWrite r k v s
  | .keyGenerate r slot => Sys2Proof.Machine.execKeyGenerate r slot s
  | .keyImport r slot => Sys2Proof.Machine.execKeyImport r slot s
  | .keyUnwrap r parent slot => Sys2Proof.Machine.execKeyUnwrap r parent slot s
  | .keyDerive r parent slot => Sys2Proof.Machine.execKeyDerive r parent slot s
  | .keyInvalidate r slot => Sys2Proof.Machine.execKeyInvalidate r slot s
  | .keyZeroize r => Sys2Proof.Machine.execKeyZeroize r s
  | .keySweep => Sys2Proof.Machine.execKeySweep s
  | .tamperTrigger src => Sys2Proof.Machine.execTamperTrigger src s
  | .fuseArm r v => Sys2Proof.Machine.execFuseArm r v s
  | .fuseDebugClose r => Sys2Proof.Machine.execFuseDebugClose r s
  | .fuseOwnerLock r => Sys2Proof.Machine.execFuseOwnerLock r s
  | .fuseOwnerKeyHash r => Sys2Proof.Machine.execFuseOwnerKeyHash r s
  | .fuseRollback r e v => Sys2Proof.Machine.execFuseRollback r e v s
  | .fuseBlowDone => Sys2Proof.Machine.execFuseBlowDone s
  | .jtagSession => Sys2Proof.Machine.execJtagSession s
  | .reportRequest r q => Sys2Proof.Machine.execReportRequest r q s
  | .reportSigned q => Sys2Proof.Machine.execReportSigned q s
  | .stlFrameStart l => Sys2Proof.Machine.execStlFrameStart l s
  | .markerReceive l m ident code => Sys2Proof.Machine.execMarkerReceive l m ident code s
  | .stlLockLoss l => Sys2Proof.Machine.execStlLockLoss l s
  | .rtjumpClear l => Sys2Proof.Machine.execRtjumpClear l s
  | .peersend n l words => Sys2Proof.Machine.execPeersend n l words s
  | .twinEnable r en => Sys2Proof.Machine.execTwinEnable r en s
  | .pairTimeout => Sys2Proof.Machine.execPairTimeout s
  | .relinquishBlockReceive l => Sys2Proof.Machine.execRelinquishBlockReceive l s
  | .twinAliveEdge => Sys2Proof.Machine.execTwinAliveEdge s
  | .relinqCommand r => Sys2Proof.Machine.execRelinqCommand r s
  | .mirrorWriteReceive q apply => Sys2Proof.Machine.execMirrorWriteReceive q apply s
  | .mirrorApply => Sys2Proof.Machine.execMirrorApply s
  | .mirrorConfirmTimeout => Sys2Proof.Machine.execMirrorConfirmTimeout s
  | .twinSyncRequest => Sys2Proof.Machine.execTwinSyncRequest s
  | .twinSyncApply ws d => Sys2Proof.Machine.execTwinSyncApply ws d s
  | .twinStateUpdate q => Sys2Proof.Machine.execTwinStateUpdate q s
  | .twinSecond => Sys2Proof.Machine.execTwinSecond s
  | .rowDigestReceive tag digest => Sys2Proof.Machine.execRowDigestReceive tag digest s
  | .handoverRequest r => Sys2Proof.Machine.execHandoverRequest r s
  | .handoverInstant => Sys2Proof.Machine.execHandoverInstant s
  | .cmpVoteLow => Sys2Proof.Machine.execCmpVoteLow s
  | .faultAssert src unit => Sys2Proof.Machine.execFaultAssert src unit s
  | .faultInactive src => Sys2Proof.Machine.execFaultInactive src s
  | .resume r => Sys2Proof.Machine.execResume r s
  | .aliveToggle => Sys2Proof.Machine.execAliveToggle s
  | .injectGo r dry src unit => Sys2Proof.Machine.execInjectGo r dry src unit s
  | .injectCancel r => Sys2Proof.Machine.execInjectCancel r s
  | .injectExpiry => Sys2Proof.Machine.execInjectExpiry s
  | .recorderCommit => Sys2Proof.Machine.execRecorderCommit s
  | .recClrAll r => Sys2Proof.Machine.execRecClrAll r s
  | .recClrCnt r => Sys2Proof.Machine.execRecClrCnt r s
  | .recSnap r => Sys2Proof.Machine.execRecSnap r s
  | .unitClr r u => Sys2Proof.Machine.execUnitClr r u s
  | .unitMeasWrite r u v => Sys2Proof.Machine.execUnitMeasWrite r u v s
  | .pmcCounterWrite r e v => Sys2Proof.Machine.execPmcCounterWrite r e v s
  | .sweepGo r => Sys2Proof.Machine.execSweepGo r s
  | .sweepPeriodic => Sys2Proof.Machine.execSweepPeriodic s
  | .sweepDone => Sys2Proof.Machine.execSweepDone s
  | .instructionSample n taken cache stall delta cause => Sys2Proof.Machine.execInstructionSample n taken cache stall delta cause s
  | .topOwnerWrite r v => Sys2Proof.Machine.execTopOwnerWrite r v s
  | .dmaDoorbell r q prod => Sys2Proof.Machine.execDmaDoorbell r q prod s
  | .dmaTx q d frame => Sys2Proof.Machine.execDmaTx q d frame s
  | .dmaRx q d => Sys2Proof.Machine.execDmaRx q d s
  | .dmaCopyIn q d data => Sys2Proof.Machine.execDmaCopyIn q d data s
  | .dmaCopyOut q d => Sys2Proof.Machine.execDmaCopyOut q d s
  | .dmaBulkWr q d data => Sys2Proof.Machine.execDmaBulkWr q d data s
  | .dmaBulkRd q d => Sys2Proof.Machine.execDmaBulkRd q d s
  | .dmaComplete q => Sys2Proof.Machine.execDmaComplete q s
  | .mbxGo r => Sys2Proof.Machine.execMbxGo r s
  | .mbxResponse => Sys2Proof.Machine.execMbxResponse s
  | .mbxAck r => Sys2Proof.Machine.execMbxAck r s
  | .sidebandFrame path bytes => Sys2Proof.Machine.execSidebandFrame path bytes s
  | .uartFrameGap => Sys2Proof.Machine.execUartFrameGap s
  | .read seq addr cnt => Sys2Proof.Machine.execRead seq addr cnt s
  | .write seq addr words => Sys2Proof.Machine.execWrite seq addr words s
  | .info seq => Sys2Proof.Machine.execInfo seq s
  | .configSave seq img => Sys2Proof.Machine.execConfigSave seq img s
  | .configSelect seq img => Sys2Proof.Machine.execConfigSelect seq img s
  | .bindoff seq zeroize => Sys2Proof.Machine.execBindoff seq zeroize s
  | .setdasa addr => Sys2Proof.Machine.execSetdasa addr s
  | .entdaa addr => Sys2Proof.Machine.execEntdaa addr s
  | .rstdaa => Sys2Proof.Machine.execRstdaa s
  | .setmwl v => Sys2Proof.Machine.execSetmwl v s
  | .setmrl v => Sys2Proof.Machine.execSetmrl v s
  | .getstatus => Sys2Proof.Machine.execGetstatus s
  | .enec events => Sys2Proof.Machine.execEnec events s
  | .disec events => Sys2Proof.Machine.execDisec events s
  | .scrubPass errs e => Sys2Proof.Machine.execScrubPass errs e s
  | .spareGo r ch dev => Sys2Proof.Machine.execSpareGo r ch dev s
  | .spareCopyDone ch => Sys2Proof.Machine.execSpareCopyDone ch s
  | .starveLimit q e => Sys2Proof.Machine.execStarveLimit q e s
  | .resetAssert => Sys2Proof.Machine.execResetAssert s
  | .resetRelease vbatLost => Sys2Proof.Machine.execResetRelease vbatLost s
  | .huacheraRun verified => Sys2Proof.Machine.execHuacheraRun verified s
  | .pwrgoodFall => Sys2Proof.Machine.execPwrgoodFall s
  | .pwrgoodRise xo => Sys2Proof.Machine.execPwrgoodRise xo s
  | .xoPresent => Sys2Proof.Machine.execXoPresent s
  | .coreResetRelease locked => Sys2Proof.Machine.execCoreResetRelease locked s
  | .castGo r => Sys2Proof.Machine.execCastGo r s
  | .gaugeStart => Sys2Proof.Machine.execGaugeStart s
  | .memTrainDone ok0 ok1 => Sys2Proof.Machine.execMemTrainDone ok0 ok1 s
  | .memSelftestDone ok => Sys2Proof.Machine.execMemSelftestDone ok s
  | .topConfigSave r img => Sys2Proof.Machine.execTopConfigSave r img s
  | .configSaveDone => Sys2Proof.Machine.execConfigSaveDone s
  | .topConfigSelect r img none_ => Sys2Proof.Machine.execTopConfigSelect r img none_ s
  | .topBindoffGo r zeroize => Sys2Proof.Machine.execTopBindoffGo r zeroize s
  | .bindoffDone => Sys2Proof.Machine.execBindoffDone s
  | .atomPpsTimeout => Sys2Proof.Machine.execAtomPpsTimeout s
  | .postLifetimeExpiry k => Sys2Proof.Machine.execPostLifetimeExpiry k s
  | .timeWaitDue n => Sys2Proof.Machine.execTimeWaitDue n s
  | .tamperConditionEnd src => Sys2Proof.Machine.execTamperConditionEnd src s
  | .vbatLoss => Sys2Proof.Machine.execVbatLoss s
  | .aonSupplyRemoval => Sys2Proof.Machine.execAonSupplyRemoval s
  | .pcieLinkDown => Sys2Proof.Machine.execPcieLinkDown s
  | .pcieLinkUp gen width => Sys2Proof.Machine.execPcieLinkUp gen width s
  | .stlBadSyncHeaders l => Sys2Proof.Machine.execStlBadSyncHeaders l s

end Sys2Proof.Machine
end

