-- ==== Sys2Proof/Machine/TabxoCode.lean ====
section
/-! DEFINITION. The words of the Tabxo instructions: the decoder, total on any two words, and the encoder, both from the formats of
R172 to R191. A word the decoder refuses is an undefined encoding. -/

namespace Sys2Proof.Machine

/-! ### Fields (R173, R175) -/

/-- A 4-bit register index. -/
def idx4 (v : Nat) : Fin 16 := Fin.ofNat 16 v
/-- A 3-bit index of an address register. -/
def idx3 (v : Nat) : Fin 8 := Fin.ofNat 8 v
/-- ACC. -/
def accOf1 (b : Bool) : Acc := if b then .a1 else .a0
/-- The bit of an accumulator. -/
def accBit : Acc → Nat
  | .a0 => 0
  | .a1 => 1

/-- KIND of format AX; 3 is reserved. -/
def kindOf : Nat → Option AxKind
  | 0 => some .x
  | 1 => some .m
  | 2 => some .l
  | _ => none
/-- The code of a KIND. -/
def kindCode : AxKind → Nat
  | .x => 0
  | .m => 1
  | .l => 2

/-- A selector (R184). -/
def selOf : Nat → HalfSel
  | 0 => .H
  | 1 => .L
  | 2 => .S24H
  | _ => .S24L
/-- The code of a selector. -/
def selCode : HalfSel → Nat
  | .H => 0
  | .L => 1
  | .S24H => 2
  | .S24L => 3

/-- MEM of a descriptor; 3 is reserved (R173). -/
def smemOf : Nat → Option SMem
  | 0 => some .D
  | 1 => some .C
  | 2 => some .P
  | _ => none
/-- The code of a memory. -/
def smemCode : SMem → Nat
  | .D => 0
  | .C => 1
  | .P => 2

/-- MOD of a descriptor with its IMM8, which is 0 where MOD does not use it; 3 is reserved (R173). -/
def modOf (m imm : Nat) : Option Mod :=
  match m with
  | 0 => if imm = 0 then some .keep else none
  | 1 => if imm = 0 then some .byM else none
  | 2 => some (.byImm (BitVec.ofNat 8 imm))
  | _ => none
/-- MOD and IMM8 of a post-modify. -/
def modCode : Mod → Nat × Nat
  | .keep => (0, 0)
  | .byM => (1, 0)
  | .byImm i => (2, i.toNat)

/-- A descriptor from its 7 bits and its IMM8. -/
def mdOf (c imm : Nat) : Option MD :=
  match smemOf (c / 32 % 4), modOf (c % 4) imm with
  | some m, some d => some ⟨m, idx3 (c / 4 % 8), d⟩
  | _, _ => none
/-- The 7 bits of a descriptor. -/
def mdCode (d : MD) : Nat := smemCode d.mem * 32 + d.x.val * 4 + (modCode d.mod).1
/-- The IMM8 of a descriptor. -/
def mdImm (d : MD) : Nat := (modCode d.mod).2

/-- The mode SM. -/
def smOf (v : Nat) : SMode := ⟨bitOn v 1, bitOn v 0⟩
/-- The code of a mode. -/
def smCode (m : SMode) : Nat := bit1 m.aUnsigned 1 + bit1 m.bUnsigned 0

/-! ### The decoder -/

/-- The instruction, where every condition of its format holds. -/
def given (p : Bool) (i : Instr) : Option Instr := if p then some i else none

/-- Bits `hi` to `lo` are 0. -/
def zeros (w hi lo : Nat) : Bool := decide (bits w hi lo = 0)

/-- Format R with GD, GA and GB. -/
def decR (w : Nat) (f : Fin 16 → Fin 16 → Fin 16 → Instr) : Option Instr :=
  given (zeros w 11 0) (f (idx4 (bits w 23 20)) (idx4 (bits w 19 16)) (idx4 (bits w 15 12)))
/-- Format R with GD and GA. -/
def decR2 (w : Nat) (f : Fin 16 → Fin 16 → Instr) : Option Instr :=
  given (zeros w 15 0) (f (idx4 (bits w 23 20)) (idx4 (bits w 19 16)))
/-- Format R with GA and GB. -/
def decRab (w : Nat) (f : Fin 16 → Fin 16 → Instr) : Option Instr :=
  given (zeros w 23 20 && zeros w 11 0) (f (idx4 (bits w 19 16)) (idx4 (bits w 15 12)))
/-- Format I with GD, GA and IMM16. -/
def decI (w : Nat) (f : Fin 16 → Fin 16 → Half → Instr) : Option Instr :=
  some (f (idx4 (bits w 23 20)) (idx4 (bits w 19 16)) (BitVec.ofNat 16 (bits w 15 0)))
/-- Format I of a shift. -/
def decSh (w : Nat) (f : Fin 16 → Fin 16 → BitVec 5 → Instr) : Option Instr :=
  given (zeros w 15 5) (f (idx4 (bits w 23 20)) (idx4 (bits w 19 16)) (BitVec.ofNat 5 (bits w 4 0)))
/-- Format I with GD and IMM16. -/
def decId (w : Nat) (f : Fin 16 → Half → Instr) : Option Instr :=
  given (zeros w 19 16) (f (idx4 (bits w 23 20)) (BitVec.ofNat 16 (bits w 15 0)))
/-- Format B without a condition. -/
def decB (w : Nat) (f : BitVec 12 → Instr) : Option Instr := given (zeros w 23 12) (f (BitVec.ofNat 12 (bits w 11 0)))
/-- Format AX of a register move. -/
def decAx (w : Nat) (f : AxKind → Fin 8 → Fin 16 → Instr) : Option Instr :=
  match kindOf (bits w 23 22) with
  | some k => given (zeros w 18 16 && zeros w 11 0) (f k (idx3 (bits w 21 19)) (idx4 (bits w 15 12)))
  | none => none
/-- Format M with a register index. -/
def decM (w : Nat) (f : Fin 16 → MD → Instr) : Option Instr :=
  match mdOf (bits w 19 13) (bits w 7 0) with
  | some d => given (zeros w 12 8) (f (idx4 (bits w 23 20)) d)
  | none => none
/-- Format M with an accumulator. -/
def decMa (w : Nat) (f : Acc → MD → Instr) : Option Instr :=
  match mdOf (bits w 19 13) (bits w 7 0) with
  | some d => given (zeros w 23 21 && zeros w 12 8) (f (accOf1 (bitOn w 20)) d)
  | none => none
/-- Format S. -/
def decS (w : Nat) (f : MD → Acc → Fin 32 → Bool → Instr) : Option Instr :=
  match mdOf (bits w 23 17) (bits w 15 8) with
  | some d => given (zeros w 6 5) (f d (accOf1 (bitOn w 16)) (Fin.ofNat 32 (bits w 4 0)) (bitOn w 7))
  | none => none
/-- Format AR with an accumulator alone. -/
def decA (w : Nat) (f : Acc → Instr) : Option Instr :=
  given (zeros w 23 17 && zeros w 15 0) (f (accOf1 (bitOn w 16)))
/-- Format AR with an accumulator and K. -/
def decAk (w : Nat) (f : Acc → BitVec 6 → Instr) : Option Instr :=
  given (zeros w 23 17 && zeros w 15 6) (f (accOf1 (bitOn w 16)) (BitVec.ofNat 6 (bits w 5 0)))
/-- Format AR with G, an accumulator and K. -/
def decAgk (w : Nat) (f : Fin 16 → Acc → BitVec 6 → Instr) : Option Instr :=
  given (zeros w 19 17 && zeros w 15 6) (f (idx4 (bits w 23 20)) (accOf1 (bitOn w 16)) (BitVec.ofNat 6 (bits w 5 0)))
/-- Format AR with G and an accumulator. -/
def decAg (w : Nat) (f : Fin 16 → Acc → Instr) : Option Instr :=
  given (zeros w 19 17 && zeros w 15 0) (f (idx4 (bits w 23 20)) (accOf1 (bitOn w 16)))
/-- Format T with GK. -/
def decT (w : Nat) (f : Fin 16 → Nat → Option Instr) : Option Instr :=
  if zeros w 23 20 then f (idx4 (bits w 19 16)) (bits w 15 0) else none
/-- Format P of a port. -/
def decP (w : Nat) (f : Fin 16 → Fin 8 → Bool → Instr) : Option Instr :=
  given (zeros w 19 16 && zeros w 11 0) (f (idx4 (bits w 23 20)) (idx3 (bits w 14 12)) (bitOn w 15))
/-- Format P of a mailbox. -/
def decPm (w : Nat) (f : Fin 16 → Fin 8 → Bool → Instr) : Option Instr :=
  given (zeros w 23 20 && zeros w 11 0) (f (idx4 (bits w 19 16)) (idx3 (bits w 14 12)) (bitOn w 15))

/-- Which multiply SUB and CLR name; both 1 is reserved (R184). -/
def mulPick {α : Type} (sub clr : Bool) (mac msu mpy : α) : Option α :=
  match sub, clr with
  | false, false => some mac
  | true, false => some msu
  | false, true => some mpy
  | true, true => none

/-- The parallel load of an extension word (R185). -/
def plOf (x : Nat) : Option PLoad :=
  if bits x 24 24 = 0 ∧ bits x 22 16 = 0 then some ⟨idx4 (bits x 31 28), idx3 (bits x 27 25), bitOn x 23⟩ else none

/-- Format X (R184, R185): `x` is the extension word where the first word says that there is one. -/
def decX (n : Fin 160) (w x : Nat) : Option Instr :=
  let ext := wordCount w = 2
  let ia := if ext then bits x 15 8 else 0
  let ib := if ext then bits x 7 0 else 0
  match mdOf (bits w 15 9) ia, mdOf (bits w 8 2) ib,
      mulPick (bitOn w 20) (bitOn w 0) (Instr.mac n) (Instr.msu n) (Instr.mpy n) with
  | some a, some b, some f =>
    let m (pl : Option PLoad) : MulMem :=
      ⟨accOf1 (bitOn w 23), smOf (bits w 22 21), selOf (bits w 19 18), selOf (bits w 17 16), a, b, pl⟩
    if bitOn w 1 then
      match plOf x with
      | some p => some (f (m (some p)))
      | none => none
    else if ext ∧ bits x 31 16 ≠ 0 then none
    else some (f (m none))
  | _, _, _ => none

/-- Format XR (R184). -/
def decXr (n : Fin 160) (w : Nat) : Option Instr :=
  match mulPick (bitOn w 20) (bitOn w 0) (Instr.macr n) (Instr.msur n) (Instr.mpyr n) with
  | some f => given (zeros w 7 1) (f ⟨accOf1 (bitOn w 23), smOf (bits w 22 21), selOf (bits w 19 18), selOf (bits w 17 16),
      idx4 (bits w 15 12), idx4 (bits w 11 8)⟩)
  | none => none

/-- Control and integer operations (R178, R179). -/
def decLow (n : Fin 160) (w x : Nat) : Option Instr :=
  match bits w 31 24 with
  | 0x00 => given (zeros w 23 0) (.nop n)
  | 0x01 => given (zeros w 23 0) (.wdk n)
  | 0x02 => given (zeros w 23 0) (.clrs n)
  | 0x03 => given (zeros w 23 0) (.ret n)
  | 0x04 => given (zeros w 19 0) (.rdid n (idx4 (bits w 23 20)))
  | 0x08 => decB w (.b n)
  | 0x09 => given (zeros w 19 12) (.bcc n (idx4 (bits w 23 20)) (BitVec.ofNat 12 (bits w 11 0)))
  | 0x0A => decB w (.call n)
  | 0x0B => given (zeros w 23 20 && zeros w 15 0) (.br n (idx4 (bits w 19 16)))
  | 0x10 => decR w (.add n)
  | 0x11 => decR w (.addc n)
  | 0x12 => decR w (.sub n)
  | 0x13 => decR w (.subb n)
  | 0x14 => decR w (.and n)
  | 0x15 => decR w (.or n)
  | 0x16 => decR w (.xor n)
  | 0x17 => decRab w (.cmp n)
  | 0x18 => decRab w (.tst n)
  | 0x19 => decR w (.min n)
  | 0x1A => decR w (.max n)
  | 0x1B => decR w (.shl n)
  | 0x1C => decR w (.shr n)
  | 0x1D => decR w (.sar n)
  | 0x1E => decR2 w (.mov n)
  | 0x1F => decR2 w (.neg n)
  | 0x20 => decR2 w (.abs n)
  | 0x21 => decR2 w (.not n)
  | 0x28 => decI w (.addi n)
  | 0x29 => decI w (.andi n)
  | 0x2A => decI w (.ori n)
  | 0x2B => decI w (.xori n)
  | 0x2C => given (zeros w 23 20) (.cmpi n (idx4 (bits w 19 16)) (BitVec.ofNat 16 (bits w 15 0)))
  | 0x2D => decSh w (.shli n)
  | 0x2E => decSh w (.shri n)
  | 0x2F => decSh w (.sari n)
  | 0x30 => decId w (.ldi n)
  | 0x31 => decId w (.lui n)
  | 0x32 => given (zeros w 19 0) (.ldil n (idx4 (bits w 23 20)) (BitVec.ofNat 32 x))
  | _ => none

/-- Address registers, memory, accumulators and multiplies (R180 to R185). -/
def decMid (n : Fin 160) (w x : Nat) : Option Instr :=
  match bits w 31 24 with
  | 0x38 => match kindOf (bits w 23 22) with
    | some k => given (zeros w 18 16) (.ldx n k (idx3 (bits w 21 19)) (BitVec.ofNat 16 (bits w 15 0)))
    | none => none
  | 0x39 => decAx w (.mvta n)
  | 0x3A => decAx w fun k i g => .mvfa n g k i
  | 0x3B => match mdOf (bits w 19 13) (bits w 7 0) with
    | some d => given (zeros w 23 20 && zeros w 12 8) (.lea n d)
    | none => none
  | 0x40 => decM w (.ldw n)
  | 0x41 => decM w (.ldh n)
  | 0x42 => decM w (.ldhu n)
  | 0x43 => decM w (.stw n)
  | 0x44 => decM w (.sth n)
  | 0x45 => decMa w (.lda n)
  | 0x46 => decMa w (.addm n)
  | 0x48 => decS w (.st16 n)
  | 0x49 => decS w (.st32 n)
  | 0x50 => decA w (.clr n)
  | 0x51 => given (zeros w 23 0) (.acmb n)
  | 0x52 => decAgk w fun g a k => .mvga n a g k
  | 0x53 => decAgk w fun g a k => .addga n a g k
  | 0x54 => given (zeros w 19 17 && zeros w 15 8)
      (.rda n (idx4 (bits w 23 20)) (accOf1 (bitOn w 16)) (BitVec.ofNat 6 (bits w 5 0)) (bitOn w 6) (bitOn w 7))
  | 0x55 => decA w (.adda n)
  | 0x56 => decA w (.suba n)
  | 0x57 => decA w (.nega n)
  | 0x58 => decAk w (.shla n)
  | 0x59 => decAk w (.sara n)
  | 0x5A => decAg w fun g a => .norm n a g
  | 0x5B => decAg w (.exp n)
  | 0x60 => decX n w x
  | 0x61 => decXr n w
  | _ => none

/-- Repeats, time, ports and the register port (R186 to R191). -/
def decHigh (n : Fin 160) (w : Nat) : Option Instr :=
  match bits w 31 24 with
  | 0x68 => given (zeros w 23 16) (.rpt n (BitVec.ofNat 16 (bits w 15 0)))
  | 0x69 => given (zeros w 23 4) (.rptReg n (idx4 (bits w 3 0)))
  | 0x6A => some (.rptb n (BitVec.ofNat 16 (bits w 15 0)) (BitVec.ofNat 8 (bits w 23 16)))
  | 0x6B => given (zeros w 15 4) (.rptbReg n (idx4 (bits w 3 0)) (BitVec.ofNat 8 (bits w 23 16)))
  | 0x70 => decT w fun k i => given (decide (i = 0)) (.grd n k)
  | 0x71 => decT w fun k i => some (.waitt n k (BitVec.ofNat 16 i))
  | 0x72 => some (.sched n (idx4 (bits w 23 20)) (idx4 (bits w 19 16)) (BitVec.ofNat 16 (bits w 15 0)))
  | 0x74 => decT w fun k i => given (decide (i < 4)) (.gadj n k (bitOn i 1) (bitOn i 0))
  | 0x75 => decT w fun k i => given (decide (i < 2)) (.gstep n k (bitOn i 0))
  | 0x76 => decT w fun k i => given (decide (i < 2)) (.gbnd n k (bitOn i 0))
  | 0x78 => decP w (.chsend n)
  | 0x79 => decP w (.chrecv n)
  | 0x7A => decPm w (.mbsend n)
  | 0x7B => given (zeros w 23 16 && zeros w 11 0) (.mbrecv n (idx3 (bits w 14 12)) (bitOn w 15))
  | 0x7C => decR2 w (.rdreg n)
  | 0x7D => decRab w fun a b => .wrreg n b a
  | _ => none

/-- The instruction that sequencer n decodes from a word and the next one: none for an undefined encoding (R172). -/
def decodeTabxo (n : Fin 160) (w x : Nat) : Option Instr :=
  if bits w 31 24 < 0x38 then decLow n w x
  else if bits w 31 24 < 0x68 then decMid n w x
  else decHigh n w

/-! ### The encoder -/

/-- Format R. -/
def encR (op gd ga gb : Nat) : Nat := op * 2 ^ 24 + gd * 2 ^ 20 + ga * 2 ^ 16 + gb * 2 ^ 12
/-- Format I, B and T: bits [23:20], [19:16] and [15:0]. -/
def encI (op g a imm : Nat) : Nat := op * 2 ^ 24 + g * 2 ^ 20 + a * 2 ^ 16 + imm
/-- Format AX. -/
def encAx (op : Nat) (k : AxKind) (i : Fin 8) (low : Nat) : Nat := op * 2 ^ 24 + kindCode k * 2 ^ 22 + i.val * 2 ^ 19 + low
/-- Format M. -/
def encM (op r : Nat) (d : MD) : Nat := op * 2 ^ 24 + r * 2 ^ 20 + mdCode d * 2 ^ 13 + mdImm d
/-- Format S. -/
def encS (op : Nat) (d : MD) (a : Acc) (k : Fin 32) (sat : Bool) : Nat :=
  op * 2 ^ 24 + mdCode d * 2 ^ 17 + accBit a * 2 ^ 16 + mdImm d * 2 ^ 8 + bit1 sat 7 + k.val
/-- Format AR. -/
def encAr (op g : Nat) (a : Acc) (low : Nat) : Nat := op * 2 ^ 24 + g * 2 ^ 20 + accBit a * 2 ^ 16 + low
/-- Format P. -/
def encP (op port ga : Nat) (x : Fin 8) (inc : Bool) : Nat :=
  op * 2 ^ 24 + port * 2 ^ 20 + ga * 2 ^ 16 + bit1 inc 15 + x.val * 2 ^ 12
/-- Format RP. -/
def encRp (op eofs low : Nat) : Nat := op * 2 ^ 24 + eofs * 2 ^ 16 + low

/-- The first word of format X. -/
def encX (sub clr : Bool) (m : MulMem) : Nat :=
  0x60 * 2 ^ 24 + accBit m.acc * 2 ^ 23 + smCode m.sm * 2 ^ 21 + bit1 sub 20 + selCode m.selA * 2 ^ 18
    + selCode m.selB * 2 ^ 16 + mdCode m.mda * 2 ^ 9 + mdCode m.mdb * 2 ^ 2 + bit1 m.pl.isSome 1 + bit1 clr 0
/-- The extension word of format X, 0 where there is none. -/
def encExt (m : MulMem) : Nat :=
  (match m.pl with
   | none => 0
   | some p => p.gp.val * 2 ^ 28 + p.xp.val * 2 ^ 25 + bit1 p.byM 23) + mdImm m.mda * 2 ^ 8 + mdImm m.mdb
/-- The word of format XR. -/
def encXr (sub clr : Bool) (m : MulReg) : Nat :=
  0x61 * 2 ^ 24 + accBit m.acc * 2 ^ 23 + smCode m.sm * 2 ^ 21 + bit1 sub 20 + selCode m.selA * 2 ^ 18
    + selCode m.selB * 2 ^ 16 + m.ga.val * 2 ^ 12 + m.gb.val * 2 ^ 8 + bit1 clr 0

/-- The first word of a Tabxo instruction and its extension word, 0 where it has none; none for any other command. -/
def encodeTabxo : Instr → Option (Nat × Nat)
  | .nop _ => some (encR 0x00 0 0 0, 0)
  | .wdk _ => some (encR 0x01 0 0 0, 0)
  | .clrs _ => some (encR 0x02 0 0 0, 0)
  | .ret _ => some (encR 0x03 0 0 0, 0)
  | .rdid _ gd => some (encR 0x04 gd 0 0, 0)
  | .b _ tw => some (encI 0x08 0 0 tw.toNat, 0)
  | .bcc _ c tw => some (encI 0x09 c 0 tw.toNat, 0)
  | .call _ tw => some (encI 0x0A 0 0 tw.toNat, 0)
  | .br _ ga => some (encR 0x0B 0 ga 0, 0)
  | .add _ gd ga gb => some (encR 0x10 gd ga gb, 0)
  | .addc _ gd ga gb => some (encR 0x11 gd ga gb, 0)
  | .sub _ gd ga gb => some (encR 0x12 gd ga gb, 0)
  | .subb _ gd ga gb => some (encR 0x13 gd ga gb, 0)
  | .and _ gd ga gb => some (encR 0x14 gd ga gb, 0)
  | .or _ gd ga gb => some (encR 0x15 gd ga gb, 0)
  | .xor _ gd ga gb => some (encR 0x16 gd ga gb, 0)
  | .cmp _ ga gb => some (encR 0x17 0 ga gb, 0)
  | .tst _ ga gb => some (encR 0x18 0 ga gb, 0)
  | .min _ gd ga gb => some (encR 0x19 gd ga gb, 0)
  | .max _ gd ga gb => some (encR 0x1A gd ga gb, 0)
  | .shl _ gd ga gb => some (encR 0x1B gd ga gb, 0)
  | .shr _ gd ga gb => some (encR 0x1C gd ga gb, 0)
  | .sar _ gd ga gb => some (encR 0x1D gd ga gb, 0)
  | .mov _ gd ga => some (encR 0x1E gd ga 0, 0)
  | .neg _ gd ga => some (encR 0x1F gd ga 0, 0)
  | .abs _ gd ga => some (encR 0x20 gd ga 0, 0)
  | .not _ gd ga => some (encR 0x21 gd ga 0, 0)
  | .addi _ gd ga imm => some (encI 0x28 gd ga imm.toNat, 0)
  | .andi _ gd ga imm => some (encI 0x29 gd ga imm.toNat, 0)
  | .ori _ gd ga imm => some (encI 0x2A gd ga imm.toNat, 0)
  | .xori _ gd ga imm => some (encI 0x2B gd ga imm.toNat, 0)
  | .cmpi _ ga imm => some (encI 0x2C 0 ga imm.toNat, 0)
  | .shli _ gd ga k => some (encI 0x2D gd ga k.toNat, 0)
  | .shri _ gd ga k => some (encI 0x2E gd ga k.toNat, 0)
  | .sari _ gd ga k => some (encI 0x2F gd ga k.toNat, 0)
  | .ldi _ gd imm => some (encI 0x30 gd 0 imm.toNat, 0)
  | .lui _ gd imm => some (encI 0x31 gd 0 imm.toNat, 0)
  | .ldil _ gd imm => some (encI 0x32 gd 0 0, imm.toNat)
  | .ldx _ k i imm => some (encAx 0x38 k i imm.toNat, 0)
  | .mvta _ k i ga => some (encAx 0x39 k i (ga.val * 2 ^ 12), 0)
  | .mvfa _ gd k i => some (encAx 0x3A k i (gd.val * 2 ^ 12), 0)
  | .lea _ d => some (encM 0x3B 0 d, 0)
  | .ldw _ gd d => some (encM 0x40 gd d, 0)
  | .ldh _ gd d => some (encM 0x41 gd d, 0)
  | .ldhu _ gd d => some (encM 0x42 gd d, 0)
  | .stw _ gb d => some (encM 0x43 gb d, 0)
  | .sth _ gb d => some (encM 0x44 gb d, 0)
  | .lda _ a d => some (encM 0x45 (accBit a) d, 0)
  | .addm _ a d => some (encM 0x46 (accBit a) d, 0)
  | .st16 _ d a k sat => some (encS 0x48 d a k sat, 0)
  | .st32 _ d a k sat => some (encS 0x49 d a k sat, 0)
  | .rda _ gd a k wide sat => some (encAr 0x54 gd a (bit1 sat 7 + bit1 wide 6 + k.toNat), 0)
  | .clr _ a => some (encAr 0x50 0 a 0, 0)
  | .acmb _ => some (encAr 0x51 0 .a0 0, 0)
  | .mvga _ a ga k => some (encAr 0x52 ga a k.toNat, 0)
  | .addga _ a ga k => some (encAr 0x53 ga a k.toNat, 0)
  | .adda _ a => some (encAr 0x55 0 a 0, 0)
  | .suba _ a => some (encAr 0x56 0 a 0, 0)
  | .nega _ a => some (encAr 0x57 0 a 0, 0)
  | .shla _ a k => some (encAr 0x58 0 a k.toNat, 0)
  | .sara _ a k => some (encAr 0x59 0 a k.toNat, 0)
  | .norm _ a gd => some (encAr 0x5A gd a 0, 0)
  | .exp _ gd a => some (encAr 0x5B gd a 0, 0)
  | .mac _ m => some (encX false false m, encExt m)
  | .msu _ m => some (encX true false m, encExt m)
  | .mpy _ m => some (encX false true m, encExt m)
  | .macr _ m => some (encXr false false m, 0)
  | .msur _ m => some (encXr true false m, 0)
  | .mpyr _ m => some (encXr false true m, 0)
  | .rpt _ c => some (encRp 0x68 0 c.toNat, 0)
  | .rptReg _ ga => some (encRp 0x69 0 ga, 0)
  | .rptb _ c e => some (encRp 0x6A e.toNat c.toNat, 0)
  | .rptbReg _ ga e => some (encRp 0x6B e.toNat ga, 0)
  | .grd _ k => some (encI 0x70 0 k 0, 0)
  | .waitt _ k mask => some (encI 0x71 0 k mask.toNat, 0)
  | .sched _ p k code => some (encI 0x72 p k code.toNat, 0)
  | .gadj _ k f p => some (encI 0x74 0 k (bit1 f 1 + bit1 p 0), 0)
  | .gstep _ k clr => some (encI 0x75 0 k (bit1 clr 0), 0)
  | .gbnd _ k lock => some (encI 0x76 0 k (bit1 lock 0), 0)
  | .chsend _ p x inc => some (encP 0x78 p 0 x inc, 0)
  | .chrecv _ p x inc => some (encP 0x79 p 0 x inc, 0)
  | .mbsend _ ga x inc => some (encP 0x7A 0 ga x inc, 0)
  | .mbrecv _ x inc => some (encP 0x7B 0 0 x inc, 0)
  | .rdreg _ gd ga => some (encR 0x7C gd ga 0, 0)
  | .wrreg _ gb ga => some (encR 0x7D 0 ga gb, 0)
  | _ => none

/-- The sequencer of a Tabxo instruction that the encoder covers. -/
def tabxoSeq : Instr → Option (Fin 160)
  | .nop n | .wdk n | .clrs n | .ret n | .acmb n => some n
  | .rdid n _ | .b n _ | .call n _ | .br n _ | .lea n _ | .clr n _ | .adda n _ | .suba n _ | .nega n _ => some n
  | .mac n _ | .msu n _ | .mpy n _ | .macr n _ | .msur n _ | .mpyr n _ | .rpt n _ | .rptReg n _ | .grd n _ => some n
  | .bcc n _ _ | .cmp n _ _ | .tst n _ _ | .mov n _ _ | .neg n _ _ | .abs n _ _ | .not n _ _ | .cmpi n _ _ => some n
  | .ldi n _ _ | .lui n _ _ | .ldil n _ _ | .ldw n _ _ | .ldh n _ _ | .ldhu n _ _ | .stw n _ _ | .sth n _ _ => some n
  | .lda n _ _ | .addm n _ _ | .shla n _ _ | .sara n _ _ | .norm n _ _ | .exp n _ _ | .rptb n _ _ | .rptbReg n _ _ => some n
  | .waitt n _ _ | .gstep n _ _ | .gbnd n _ _ | .mbrecv n _ _ | .rdreg n _ _ | .wrreg n _ _ => some n
  | .add n _ _ _ | .addc n _ _ _ | .sub n _ _ _ | .subb n _ _ _ | .and n _ _ _ | .or n _ _ _ | .xor n _ _ _ => some n
  | .min n _ _ _ | .max n _ _ _ | .shl n _ _ _ | .shr n _ _ _ | .sar n _ _ _ | .addi n _ _ _ | .andi n _ _ _ => some n
  | .ori n _ _ _ | .xori n _ _ _ | .shli n _ _ _ | .shri n _ _ _ | .sari n _ _ _ | .ldx n _ _ _ | .mvta n _ _ _ => some n
  | .mvfa n _ _ _ | .mvga n _ _ _ | .addga n _ _ _ | .sched n _ _ _ | .gadj n _ _ _ | .chsend n _ _ _ => some n
  | .chrecv n _ _ _ | .mbsend n _ _ _ | .st16 n _ _ _ _ | .st32 n _ _ _ _ | .rda n _ _ _ _ _ => some n
  | _ => none

/-! ### Fetching (R144, R172) -/

/-- The instruction at PC of sequencer n: none for an undefined encoding. -/
def State.fetchSeq (s : State) (n : Fin 160) : Option Instr :=
  let q := s.sq n
  decodeTabxo n (memWord q.pMem q.pc).toNat (memWord q.pMem ((q.pc + 4) % 2 ^ 14)).toNat

end Sys2Proof.Machine
end

