-- ==== Sys2Proof/Machine/Tick.lean ====
section
/-! DEFINITION. What happens without a command: one nanosecond of the Warden clock, one G-clock edge where the Gauge runs, and at that
edge the time-driven rows of the opcode table, each under the conditions of its own meaning, and one instruction of every running
sequencer. -/

namespace Sys2Proof.Machine

/-- A row that happens of itself: nothing where its meaning gives no next state. -/
def State.happens (s : State) (f : State → Res) : State :=
  match f s with
  | .next t => t
  | _ => s

/-- The units of a table that are numbers below `n`. -/
def unitsOf {α : Type} (n : Nat) (t : Tab α) : List (Fin n) :=
  t.filterMap fun p => if h : p.1 < n then some ⟨p.1, h⟩ else none

/-- A state with what happens of itself in it. -/
def rowOf (f : State → State) (s : State) : Res := .next (f s)

/-- The write gate: Warden records and releases what waits (R303 to R306, R332). A commit record comes to its commit edge here, between
the disqualifications and the qualifications of the edge (R82). -/
def gateRows (s : State) : List (State → Res) :=
  (if s.log.gate = [] then [] else [execAuditRecordWrite, execGateRelease, execMirrorApply, execAuditBusyTimeout]) ++ [execDeferredRecord]

/-- The boundaries at which class E fields take effect (R11). -/
def boundaryRows : List (State → Res) :=
  [execEpochBoundaryApply .second, execEpochBoundaryApply .row] ++ (List.finRange 4).map fun j => execEpochBoundaryApply (.pulse j)

/-- The snap of group C and the realignments, after the step and the pulls (R93). -/
def snapRows : List (State → Res) := [execGrpcSnap, execWclkRealign 0, execWclkRealign 1]

/-- The second that ends and the millisecond of HOLDOVER, before anything that enters HOLDOVER at this edge (R54, R84). -/
def holdRows : List (State → Res) := [execHldSecond, execHoldoverMsTick]

/-- Disqualifications and deselections, and the request of a commit (R66, R68, R79, R81). -/
def lossRows : List (State → Res) := (List.finRange 30).map execCandidateLoss ++ [execSelSecond, execCommitRequest]

/-- The end of a commit that got no release, and the qualifications (R71, R72, R81). -/
def qualifyRows : List (State → Res) :=
  [execCommitAuditTimeout] ++ (List.finRange 30).map execCandidateQualify ++ [execHostsetQualify]

/-- The Gauge, on what the gate has released and SEL publishes at this edge (R39, R46 to R50, R58); then the bus takes its values
(R14), and the measures of R350 theirs. -/
def gaugeRows : List (State → Res) :=
  [execHeartbeatTimeout, execWitnessRelease, execHoldExpiry, execGuardBreach, execBreachWitnessClose, execGuardWindowRestart, execLeapSecond,
    rowOf State.latchBus, rowOf State.edgeSamples, rowOf State.squelch]

/-- Outputs (R97 to R106): those that State lists. -/
def outputRows (s : State) : List (State → Res) :=
  [execAtomPpsTimeout] ++ (unitsOf 20 s.out.outs).map execSquelchRelease ++ (List.finRange 4).map execPpsPulse
    ++ (List.finRange 2).map execTodMessage

/-- The calibrated units (R118). -/
def calUnits : List CalUnit :=
  (List.finRange 24).flatMap (fun c => [.tdc c false, .tdc c true]) ++ (List.finRange 8).flatMap (fun p => [.eth p false, .eth p true])
    ++ (List.finRange 4).flatMap fun l => [.stl l false, .stl l true]

/-- The listed tracking channels. -/
def liveChans (s : State) : List (Fin 192) := unitsOf 192 s.gnb.chs

/-- A job that has had its setup time too (R133). -/
def State.acqLimit (s : State) : State := if s.acqReady.any (fun t => decide (t + 50000 ≤ s.gau.l)) then s.acqDone else s

/-- Front ends and baseband (R122 to R140): the samples of the edge, then what they start and end, and last the correlators. -/
def gnssRows (s : State) : List (State → Res) :=
  [rowOf State.feArrive] ++ (List.finRange 4).map execFeClockLost ++ (List.finRange 4).map (execFeSecond · () ())
    ++ (liveChans s).map execChannelTrack ++ (liveChans s).map (execDumpBoundary · () () ())
    ++ [execMeasurementLatch (), rowOf State.fillLatch, execSwatchStart (), rowOf State.swSample, execSwatchEnd () (), rowOf State.acqSample,
      rowOf State.acqLimit, rowOf State.accumulate]

/-- Interval measurement and the indicators (R112 to R120, R140). -/
def measureRows : List (State → Res) :=
  [rowOf State.launchGtick, rowOf State.ownEdges, rowOf State.drainRecs] ++ calUnits.flatMap (fun u => [execCalPassExpiry u, execTableSwap u]) ++ [execTensionVisitEnd]
    ++ (List.finRange 4).map execIndicatorClear

/-- What ends with the edge before: a pair that its partner has not completed by then (R112). -/
def endRows : List (State → Res) := (List.finRange 24).map execTdcTimeout

/-- The watchdogs, after the instructions of the edge (R164). -/
def watchRows (s : State) : List (State → Res) := (unitsOf 160 s.seqs).map execWatchdogExpiry

/-- Sequencers (R154, R155, R163). -/
def seqRows (s : State) : List (State → Res) :=
  (unitsOf 160 s.seqs).flatMap (fun n => [execSeqStart n, execTimeWaitDue n])
    ++ (List.finRange 10).flatMap fun (k : Fin 10) => List.replicate (s.clu k).evs.length (execSchedEventDue k)

/-- The pauses in force at a port. -/
def pauseRows (s : State) (p : Fin 8) : List (State → Res) :=
  (unitsOf 8 (s.ep p).pause).map (execPauseExpiry p) ++ [execPauseRepeat p]

/-- The ports that have something to do. -/
def State.livePorts (s : State) : List (Fin 8) :=
  (List.finRange 8).filter fun p => s.eth.any (fun e => e.1 == p.val) || s.on .ETH_CFG 31 p || s.on .ETH_ROW_CTL 31 p

/-- Ethernet ports (R193 to R216). -/
def ethRows (s : State) : List (State → Res) :=
  s.livePorts.flatMap fun p =>
    [execRowCycleStart p, execSlotStart p] ++ pauseRows s p
      ++ [execPreemptVerify p false, execFollowUpLaunch p, execLaunchDecision p, execTxStampStore p (), execEthMarker p () ()]

/-- TSV and AUD take the frames that wait for them (R195, R197). -/
def rxRows (s : State) : List (State → Res) :=
  s.livePorts.flatMap fun (p : Fin 8) =>
    if (s.ep p).rx = [] then []
    else [execPtpMessageReceive p (), execUnicastRequest p (), execUnicastCancel p (), execNtpRequest p (), execNtsRequest p (),
      rowOf (fun t => t.tsvDiscard p), execStreamPacketReceive p]

/-- The unicast sessions and their grants (R230). -/
def sessionRows (s : State) (p : Fin 8) : List (State → Res) :=
  (unitsOf 4096 s.tsv.sess).flatMap fun n => [execSyncInstant p (some n), execAnnounceInstant p (some n)]

/-- The grants of a unicast client (R231). -/
def clientRows (p : Fin 8) : List (State → Res) :=
  (List.finRange 4).flatMap fun u =>
    [GrantKind.announce, .sync, .delayResp].flatMap fun k => [execUnicastRenew p u k, execUnicastRetry p u k]

/-- The foreign masters of an instance (R222). -/
def foreignRows (s : State) (p : Fin 8) : List (State → Res) :=
  (s.inst p).foreign.map fun f => execForeignMasterTimeout p (BitVec.ofNat 64 f.id) (BitVec.ofNat 16 f.port)

/-- The time service (R217 to R240). -/
def tsvRows (s : State) : List (State → Res) :=
  (if s.tsvOn then
    (List.finRange 8).flatMap (fun p => foreignRows s p ++ [execSyncInstant p none, execAnnounceInstant p none]
        ++ sessionRows s p ++ [execDelayReqInstant p, execPdelayReqInstant p] ++ clientRows p)
      ++ (unitsOf 4096 s.tsv.sess).flatMap (fun n => [execGrantExpiry n .announce, execGrantExpiry n .sync, execGrantExpiry n .delayResp])
      ++ [execMintRequest, execNtsRotation]
  else []) ++ [execPtpSecond]

/-- The audio objects that State lists. -/
def liveObjs (s : State) : List AudObj :=
  (unitsOf 512 s.aud.rxs).map .rxs ++ (unitsOf 512 s.aud.txs).map .txs ++ (unitsOf 16 s.aud.aesi).map .aesi
    ++ (unitsOf 16 s.aud.aeso).map .aeso

/-- Audio (R245 to R265). -/
def audioRows (s : State) : List (State → Res) :=
  [execRowStart, rowOf State.skeinNext, execStripDeadline, execTriggerFire] ++ (unitsOf 512 s.aud.txs).map execStreamPacketLaunch
    ++ (unitsOf 16 s.aud.aesi).flatMap (fun p => [execAes3UnlockTimeout p, execAes3AsrcLoss p, execAes3AsrcRun p])
    ++ (unitsOf 16 s.aud.aeso).map execAes3FrameSend
    ++ s.aud.waits.flatMap (fun w => [execZeroCrossingApply w.obj w.ch, execZcTimeout w.obj w.ch])
    ++ (liveObjs s).map execStopComplete

/-- The mix fabric (R273, R284). -/
def mixRows : List (State → Res) := [execMixRowUpdate, execMeterBlockEnd]

/-- Keys, Stitch and twins (R290, R313 to R336). A handover reaches the STANDBY by the command, not of itself. -/
def pairRows (s : State) : List (State → Res) :=
  [execKeySweep] ++ (List.finRange 4).map execStlFrameStart ++ (List.finRange 4).map execRtjumpClear
    ++ [execPairTimeout, execMirrorConfirmTimeout, execTwinSecond]
    ++ (if s.twin.role = .active then [execHandoverInstant] else [])
    ++ (if s.twin.wanted ∧ (s.peerRole = some 3 ∨ s.peerRole = some 0) then [execTwinSyncRequest] else [])
    ++ if s.links.any (fun e => !e.2.ps.isEmpty) then [execPartialSumSlot []] else []

/-- External memory: the arbiter, and the starved requesters among those with a transaction (R374 to R376). -/
def memRows (s : State) : List (State → Res) :=
  rowOf State.arbiter :: ((List.finRange 16).filter fun r => s.mem.txs.any fun x => x.req = r.val).map (execStarveLimit · ())

/-- The single-bit errors that the memories of the sequencers have corrected at this edge (R166). -/
def State.seqCorrs (s : State) : State :=
  (unitsOf 160 s.seqs).foldl (fun t n => if Config.seqCorr n s.wt = 0 then t else t.bump .SEQ_ERR 31 16 (Config.seqCorr n s.wt) n) s

/-- Supervision and counters (R345, R346, R355). -/
def superviseRows : List (State → Res) := [rowOf State.seqCorrs, execAliveToggle, execInjectExpiry, execSweepPeriodic, execSweepDone]

/-- The rows of one edge, group by group: each group is taken from the state that the ones before it leave. After the step (R93) come the
snap and the realignments; class E fields take what was written before this edge (R11); SEL keeps the order of R82. DESIGN CHOICE, where
no rule orders two groups (log 130). -/
def tickGroups : List (State → List (State → Res)) :=
  [fun _ => snapRows, fun _ => boundaryRows, fun _ => holdRows, fun _ => lossRows, gateRows, fun _ => qualifyRows, fun _ => gaugeRows, outputRows,
    gnssRows, fun _ => measureRows, pairRows, seqRows, ethRows, rxRows, tsvRows, audioRows, fun _ => mixRows, memRows,
    fun _ => superviseRows]

/-- One group. -/
def State.group (s : State) (g : State → List (State → Res)) : State := (g s).foldl State.happens s

/-- One instruction of a running sequencer (R144, R166): a word that encodes none traps as ILLEGAL. -/
def State.runSeq (s : State) (n : Fin 160) : State :=
  if s.runs n then
    match s.fetchSeq n with
    | some i => s.happens (exec i)
    | none => s.trap n .illegal
  else s

/-- One instruction of every running sequencer; the outside writes of the edge stay (R165). -/
def State.runSeqs (s : State) : State := (unitsOf 160 s.seqs).foldl (fun t n => (t.runSeq n).keepOutside n) s

/-- What happens at an edge once the Gauge has moved. -/
def State.edgeRows (s : State) : State := ((tickGroups.foldl State.group s).runSeqs.group watchRows).squelch

/-- Where no Gauge runs: the write gate, and the start of the Gauge, whose start edge is a t_sec and a t_row (R51, R382). -/
def State.stillTick (s : State) : State :=
  let s1 := (s.group gateRows).happens execGaugeStart
  if s1.gau.running then s1.edgeRows else s1

/-- One nanosecond of the Warden clock: the hold of a capture ends (R388). -/
def State.wTick (s : State) : State :=
  ({ s with wt := s.wt + 1, log := { s.log with held := false } } : State).afterGate

/-- The idle step: time goes on, and with it what no command asks for. -/
def State.tick (s : State) : State :=
  let s1 := s.wTick
  if s1.gau.running then (s1.group fun _ => endRows).gEdge.edgeRows else s1.stillTick

end Sys2Proof.Machine
end

