-- ==== Sys2Proof/WellFormed.lean ====
section
/-! DEFINITION. The commands as their senders form them: where an operand is a list or a number, its length and its range. Every other
operand is typed to what the device has. A command that is not of this form still has its meaning. -/

namespace Sys2Proof

/-- A command that its sender can form.

* The data of a DMA descriptor are as long as its LEN says (R363, R364).
* READ asks for 1 to 256 words, WRITE carries 1 to 248 (R369).
* A marker's FRAME is below 15,625,000 and its SEV at most 4 (R313, R314). -/
def Instr.wellFormed : Instr → Bool
  | .dmaTx _ d bytes | .dmaCopyIn _ d bytes => decide (bytes.length = d.len.toNat)
  | .dmaBulkWr _ d data => decide (data.length * 4 = d.len.toNat / 4 * 4)
  | .read _ _ cnt => decide (1 ≤ cnt ∧ cnt ≤ 256)
  | .write _ _ words => decide (1 ≤ words.length ∧ words.length ≤ 248)
  | .markerReceive _ m _ _ => decide (m.frame.toNat < 15625000 ∧ m.sev.toNat ≤ 4)
  | _ => true

end Sys2Proof
end

