-- ==== Sys2Proof/Safety.lean ====
section
/-! DEFINITION. What counts as a safe state and a safe run: every memory in its canonical form, and no command that stops; and what
a register write comes to that the gate takes without delay. -/

namespace Sys2Proof.Machine

/-- The memories of a sequencer are in their canonical form. -/
def Seq.memOk (q : Seq) : Bool := memWf q.pMem && memWf q.cMem && memWf q.dMem

/-- Every addressed memory of the device is in its canonical form. -/
def State.memOk (s : State) : Bool := memWf s.dram && s.seqs.all fun p => p.2.memOk

/-- A command runs: it ends in a next state, neither in a fault nor in a refusal. -/
def Runs (i : Instr) (s : State) : Prop := ∃ t, exec i s = .next t

/-- A state whose waiting commands are all well formed. -/
def State.queueOk (s : State) : Bool := s.pending.all Instr.wellFormed

/-! ### A write that takes effect at once (R303, R404) -/

/-- The change of a register write as it arrives at the gate. -/
def State.entryOf (s : State) (r : Requester) (x : RegAt) (v : Nat) : GateEntry :=
  s.entry (.reg x.first v) (Origin.ofReq r) (s.ownerMay (Origin.ofReq r) x.first)

/-- The gate holds this change alone. -/
def State.gated (s : State) (e : GateEntry) : State := { s with log := { s.log with gate := [e] } }

/-- The change has its record, and has left the gate. -/
def State.withRecord (s : State) (e : GateEntry) : State :=
  let r := (s.gated e).recOf e .none
  let t := if exemptKind r.kind then (s.gated e).recordExempt r else ((s.gated e).recordNormal r).getD s
  { t with log := { t.log with gate := [] } }

/-- A change of address `a` is mirrored to the twin before it acts (R332): the device is ACTIVE, a twin link is UP, and the group is
mirrored. -/
def State.mirrors (s : State) (a : Nat) : Bool :=
  decide (s.twin.role = .active) && s.twinFirst.isSome && match groupOf a with
    | some g => s.mirrored g
    | none => false

/-- The gate takes the write without delay: it arrives, nothing waits or holds the gate, Warden runs, it is not mirrored, the ring has
room, and the write is refused neither at its record nor at its release. The register is one of those whose writes are audited. -/
def Admits (s : State) (r : Requester) (x : RegAt) (v : Nat) : Prop :=
  let u := s.counted r
  let e := u.entryOf r x v
  s.hostTakes r = true ∧ s.log.gate = [] ∧ s.log.held = false ∧ s.warden.up = true ∧ s.mirrors x.first = false ∧ s.logRoom 2 = true ∧
  x.readOnly = false ∧ x.unaudited = false ∧ lookupReg x.first = some x ∧
  (u.gated e).judgeReg e.org e.ownerOk x.first v = .none ∧
  (u.withRecord e).judgeReg e.org e.ownerOk x.first v = .none

/-- What such a write comes to: its record, then its effect; the requester learns of it, and the time it waited is sampled. -/
def State.written (s : State) (r : Requester) (x : RegAt) (v : Nat) : State :=
  let u := s.counted r
  let e := u.entryOf r x v
  let t := u.withRecord e
  ((t.applyChange { e with recorded := some t.log.seq }).originDone e).sample 11 0 0

end Sys2Proof.Machine
end

