-- ==== Sys2Proof/Certificates/Slice0/Obligations.lean ====
section
/-! DEFINITION. The statements for the provers. -/

namespace Sys2Proof.Machine

/-- A command completes: it answers a next state, of which `P` holds. -/
def Completes (i : Instr) (s : State) (P : State → Prop) : Prop := ∃ t, exec i s = .next t ∧ P t

/-- Z, N, C and V of a sequencer. -/
def FlagsAre (q : Seq) (z n c v : Prop) : Prop := (q.z = true ↔ z) ∧ (q.n = true ↔ n) ∧ (q.c = true ↔ c) ∧ (q.v = true ↔ v)

/-- Z and N of a sequencer follow a word, and C and V stay as in `q`. -/
def WordFlags (q p : Seq) (r : Word) : Prop := FlagsAre p (r = 0) (r.toInt < 0) (q.c = true) (q.v = true)

/-- Z and N follow a word, C is `c`, and V stays as in `q`. -/
def ShiftFlags (q p : Seq) (r : Word) (c : Prop) : Prop := FlagsAre p (r = 0) (r.toInt < 0) c (q.v = true)

/-- A signed result that 32 bits do not hold. -/
def Over32 (r : Int) : Prop := r < -2 ^ 31 ∨ 2 ^ 31 ≤ r

/-- A signed result that 40 bits do not hold. -/
def Over40 (r : Int) : Prop := r < -2 ^ 39 ∨ 2 ^ 39 ≤ r

/-- Z and N of a sequencer follow a 40-bit word, C stays as in `q`, and V is `v`. -/
def AccFlags (q p : Seq) (r : AccWord) (v : Prop) : Prop := FlagsAre p (r = 0) (r.toInt < 0) (q.c = true) v

/-- An instruction of two words, a branch, RPT, RPTB or WAITT may stand where the sequencer is: no repeat level ends there, and
no RPT has it in hand (R147, R148). -/
def Placed (q : Seq) : Prop := (∀ r ∈ q.reps, r.last ≠ q.pc) ∧ q.rpt = none

/-- The condition of COND (R176). -/
def Taken (q : Seq) (cond : Nat) : Prop :=
  match cond with
  | 0 => True
  | 1 => q.z = true
  | 2 => q.z = false
  | 3 => q.n ≠ q.v
  | 4 => q.n = q.v
  | 5 => q.z = true ∨ q.n ≠ q.v
  | 6 => q.z = false ∧ q.n = q.v
  | 7 => q.c = true
  | 8 => q.c = false
  | 9 => q.n = true
  | 10 => q.n = false
  | 11 => q.v = true
  | 12 => q.v = false
  | 13 => q.s = true
  | 14 => q.t = true
  | _ => q.t = false

/-- The access of `w` bytes through a descriptor is aligned and within its memory (R142, R174). -/
def Reaches (q : Seq) (md : MD) (w : Nat) : Prop :=
  (q.xr md.x).toNat % w = 0 ∧ (q.xr md.x).toNat + w ≤ memSize md.mem

/-- xk of a descriptor after its post-modify (R143, R174); `q` is the sequencer before it. -/
def Stepped (q p : Seq) (md : MD) : Prop :=
  p.xr md.x = match md.mod with
    | .keep => q.xr md.x
    | .byM => q.wrap md.x ((q.xr md.x).toNat + (q.mr md.x).toInt)
    | .byImm i => q.wrap md.x ((q.xr md.x).toNat + i.toInt)

/-- The value that a store or read-out forms (R151, R182): `v` is the quotient rounded half to even. -/
def Kept (w : Nat) (v : Int) (sat : Bool) : Int :=
  if sat then (if v < -2 ^ (w - 1) then -2 ^ (w - 1) else if 2 ^ (w - 1) ≤ v then 2 ^ (w - 1) - 1 else v) else v

/-- S and V after a store or read-out of width `w` (R182). -/
def StoreFlags (q p : Seq) (w : Nat) (v : Int) (sat : Bool) : Prop :=
  (p.s = true ↔ q.s = true ∨ (sat = true ∧ ¬ (-2 ^ (w - 1) ≤ v ∧ v < 2 ^ (w - 1)))) ∧
  (p.v = true ↔ if sat = true then q.v = true else ¬ (-2 ^ (w - 1) ≤ v ∧ v < 2 ^ (w - 1)))

/-- A write of the register `x` that is taken at once completes as `State.written`, and of the state it leaves `P` holds. -/
def Writes (i : Instr) (s : State) (r : Requester) (x : RegAt) (v : Nat) (P : State → Prop) : Prop :=
  Admits s r x v → exec i s = .next (s.written r x v) ∧ P (s.written r x v)

/-- The oldest message of kind `k` in the receive queues of port `p` is frame `g`, which lies on chip (R197, R227). -/
def Waits (s : State) (p : Fin 8) (k : TsvKind) (g : RxFrame) : Prop :=
  s.rxFirst p 2 (fun h => decide (tsvKind h = some k)) = some g ∧ g.spilled = false

/-- The oldest message of kind `k` at port `p` is the PTP message `m`, which R227 accepts. -/
def Accepted (s : State) (p : Fin 8) (k : TsvKind) (g : RxFrame) (m : PtpIn) : Prop :=
  Waits s p k g ∧ ptpIn g = some m ∧ s.ptpOn p = true ∧ m.srcId ≠ s.inForce .TSV_CLOCKID ∧ s.ptpMatches p m = true ∧
    s.on .PTP_AUTH 31 p = false

/-- A register by its name and indices. -/
def regAt (n : RegName) (i : Nat := 0) (j : Nat := 0) (l : Nat := 0) : RegAt := ⟨n, i, j, l, 0⟩

end Sys2Proof.Machine

open Sys2Proof Sys2Proof.Machine

/-! ### Tabxo: integer and control instructions -/

/-- R179: the additions, subtractions, comparisons, MIN and MAX complete on every running sequencer, with their result and flags. -/
def Obligations.TabxoArithmeticCompletes : Prop :=
  ∀ (n : Fin 160) (gd ga gb : Fin 16) (imm : Half) (s : State), s.runs n = true →
    let q := s.sq n
    let a := q.gr ga
    let b := q.gr gb
    let k : Word := imm.signExtend 32
    let cin : Nat := q.c.toNat
    Completes (.add n gd ga gb) s (fun t => (t.sq n).gr gd = a + b ∧
      FlagsAre (t.sq n) (a + b = 0) ((a + b).toInt < 0) (2 ^ 32 ≤ a.toNat + b.toNat) (Over32 (a.toInt + b.toInt))) ∧
    Completes (.addc n gd ga gb) s (fun t => (t.sq n).gr gd = a + b + BitVec.ofNat 32 cin ∧
      FlagsAre (t.sq n) (a + b + BitVec.ofNat 32 cin = 0) ((a + b + BitVec.ofNat 32 cin).toInt < 0)
        (2 ^ 32 ≤ a.toNat + b.toNat + cin) (Over32 (a.toInt + b.toInt + cin))) ∧
    Completes (.addi n gd ga imm) s (fun t => (t.sq n).gr gd = a + k ∧
      FlagsAre (t.sq n) (a + k = 0) ((a + k).toInt < 0) (2 ^ 32 ≤ a.toNat + k.toNat) (Over32 (a.toInt + k.toInt))) ∧
    Completes (.sub n gd ga gb) s (fun t => (t.sq n).gr gd = a - b ∧
      FlagsAre (t.sq n) (a - b = 0) ((a - b).toInt < 0) (b.toNat ≤ a.toNat) (Over32 (a.toInt - b.toInt))) ∧
    Completes (.subb n gd ga gb) s (fun t => (t.sq n).gr gd = a - b - BitVec.ofNat 32 (1 - cin) ∧
      FlagsAre (t.sq n) (a - b - BitVec.ofNat 32 (1 - cin) = 0) ((a - b - BitVec.ofNat 32 (1 - cin)).toInt < 0)
        (b.toNat + (1 - cin) ≤ a.toNat) (Over32 (a.toInt - b.toInt - (1 - cin : Nat)))) ∧
    Completes (.neg n gd ga) s (fun t => (t.sq n).gr gd = -a ∧
      FlagsAre (t.sq n) (a = 0) ((-a).toInt < 0) (a = 0) (Over32 (-a.toInt))) ∧
    Completes (.cmp n ga gb) s (fun t => (t.sq n).g = q.g ∧
      FlagsAre (t.sq n) (a = b) ((a - b).toInt < 0) (b.toNat ≤ a.toNat) (Over32 (a.toInt - b.toInt))) ∧
    Completes (.cmpi n ga imm) s (fun t => (t.sq n).g = q.g ∧
      FlagsAre (t.sq n) (a = k) ((a - k).toInt < 0) (k.toNat ≤ a.toNat) (Over32 (a.toInt - k.toInt))) ∧
    Completes (.min n gd ga gb) s (fun t => (t.sq n).gr gd = (if a.toInt < b.toInt then a else b) ∧
      WordFlags q (t.sq n) (if a.toInt < b.toInt then a else b)) ∧
    Completes (.max n gd ga gb) s (fun t => (t.sq n).gr gd = (if b.toInt < a.toInt then a else b) ∧
      WordFlags q (t.sq n) (if b.toInt < a.toInt then a else b))

/-- R179: the logical operations, moves, shifts and immediates complete on every running sequencer, with their result and flags. -/
def Obligations.TabxoLogicAndShiftsComplete : Prop :=
  ∀ (n : Fin 160) (gd ga gb : Fin 16) (imm : Half) (k : BitVec 5) (s : State), s.runs n = true →
    let q := s.sq n
    let a := q.gr ga
    let b := q.gr gb
    let z : Word := imm.zeroExtend 32
    let m := b.toNat % 32
    let has (r : Word) (t : State) : Prop := (t.sq n).gr gd = r ∧ WordFlags q (t.sq n) r
    let shifted (r : Word) (c : Prop) (t : State) : Prop := (t.sq n).gr gd = r ∧ ShiftFlags q (t.sq n) r c
    let out (j p : Nat) : Prop := if j = 0 then q.c = true else a.getLsbD p = true
    Completes (.and n gd ga gb) s (has (a &&& b)) ∧
    Completes (.or n gd ga gb) s (has (a ||| b)) ∧
    Completes (.xor n gd ga gb) s (has (a ^^^ b)) ∧
    Completes (.not n gd ga) s (has (~~~a)) ∧
    Completes (.mov n gd ga) s (has a) ∧
    Completes (.andi n gd ga imm) s (has (a &&& z)) ∧
    Completes (.ori n gd ga imm) s (has (a ||| z)) ∧
    Completes (.xori n gd ga imm) s (has (a ^^^ z)) ∧
    Completes (.tst n ga gb) s (fun t => (t.sq n).g = q.g ∧ WordFlags q (t.sq n) (a &&& b)) ∧
    Completes (.abs n gd ga) s (fun t =>
      (t.sq n).gr gd = (if a.toInt < 0 then -a else a) ∧
      FlagsAre (t.sq n) (a = 0) (a = 0x80000000) (q.c = true) (a = 0x80000000)) ∧
    Completes (.shl n gd ga gb) s (shifted (a <<< m) (out m (32 - m))) ∧
    Completes (.shr n gd ga gb) s (shifted (a >>> m) (out m (m - 1))) ∧
    Completes (.sar n gd ga gb) s (shifted (a.sshiftRight m) (out m (m - 1))) ∧
    Completes (.shli n gd ga k) s (shifted (a <<< k.toNat) (out k.toNat (32 - k.toNat))) ∧
    Completes (.shri n gd ga k) s (shifted (a >>> k.toNat) (out k.toNat (k.toNat - 1))) ∧
    Completes (.sari n gd ga k) s (shifted (a.sshiftRight k.toNat) (out k.toNat (k.toNat - 1))) ∧
    Completes (.ldi n gd imm) s (fun t => (t.sq n).gr gd = imm.signExtend 32) ∧
    Completes (.lui n gd imm) s (fun t => (t.sq n).gr gd = imm ++ (q.gr gd).setWidth 16) ∧
    ((∀ r ∈ q.reps, r.last ≠ q.pc) → ∀ w : Word, Completes (.ldil n gd w) s (fun t => (t.sq n).gr gd = w))

/-- R178: the control instructions complete on a running sequencer: what each writes and where PC goes. -/
def Obligations.TabxoControlCompletes : Prop :=
  ∀ (n : Fin 160) (gd ga cond : Fin 16) (tw : BitVec 12) (s : State), s.runs n = true →
    let q := s.sq n
    (q.reps = [] → q.rpt = none →
      Completes (.nop n) s (fun t => t.sq n = { q with pc := (q.pc + 4) % 2 ^ 14 })) ∧
    (s.fl .SEQ_WD 31 30 n ≠ 0 → Completes (.wdk n) s (fun t => (t.sq n).kick = s.gau.l ∧ (t.sq n).missed = false)) ∧
    (s.fl .SEQ_WD 31 30 n = 0 → Completes (.wdk n) s (fun t => (t.sq n).kick = q.kick ∧ (t.sq n).missed = q.missed)) ∧
    Completes (.clrs n) s (fun t => (t.sq n).s = false) ∧
    Completes (.rdid n gd) s (fun t => (t.sq n).gr gd = BitVec.ofNat 32 (s.fl .SEQ_ROLE 7 0 n * 2 ^ 8 + n.val)) ∧
    (Placed q → Completes (.b n tw) s (fun t => (t.sq n).pc = 4 * tw.toNat)) ∧
    (Placed q → Taken q cond → Completes (.bcc n cond tw) s (fun t => (t.sq n).pc = 4 * tw.toNat)) ∧
    (Placed q → ¬ Taken q cond →
      Completes (.bcc n cond tw) s (fun t => (t.sq n).pc = (q.pc + 4) % 2 ^ 14 ∧ (t.sq n).reps = q.reps)) ∧
    (q.reps = [] → q.rpt = none → q.calls.length < 8 →
      Completes (.call n tw) s (fun t => (t.sq n).pc = 4 * tw.toNat ∧ (t.sq n).calls = (q.pc + 4) % 2 ^ 14 :: q.calls)) ∧
    (Placed q → ∀ a r, q.calls = a :: r →
      Completes (.ret n) s (fun t => (t.sq n).pc = a % 2 ^ 14 ∧ (t.sq n).calls = r)) ∧
    (Placed q → (q.gr ga).toNat % 4 = 0 →
      Completes (.br n ga) s (fun t => (t.sq n).pc = (q.gr ga).toNat % 2 ^ 14))

/-- R180, R181, R174: the address-register instructions, loads and stores complete on a running sequencer: the register or the
memory they write, and xk after the post-modify. -/
def Obligations.TabxoAddressingCompletes : Prop :=
  ∀ (n : Fin 160) (gd gb : Fin 16) (k : Fin 8) (imm : Half) (md : MD) (s : State), s.runs n = true →
    let q := s.sq n
    let word := memWord (q.memOf md.mem) (q.xr md.x).toNat
    let half := memHalf (q.memOf md.mem) (q.xr md.x).toNat
    Completes (.ldx n .x k imm) s (fun t => (t.sq n).xr k = imm) ∧
    Completes (.ldx n .m k imm) s (fun t => (t.sq n).mr k = imm) ∧
    Completes (.ldx n .l k imm) s (fun t => (t.sq n).lr k = imm) ∧
    Completes (.mvta n .x k gb) s (fun t => (t.sq n).xr k = (q.gr gb).setWidth 16) ∧
    Completes (.mvta n .m k gb) s (fun t => (t.sq n).mr k = (q.gr gb).setWidth 16) ∧
    Completes (.mvta n .l k gb) s (fun t => (t.sq n).lr k = (q.gr gb).setWidth 16) ∧
    Completes (.mvfa n gd .x k) s (fun t => (t.sq n).gr gd = (q.xr k).zeroExtend 32) ∧
    Completes (.mvfa n gd .m k) s (fun t => (t.sq n).gr gd = (q.mr k).signExtend 32) ∧
    Completes (.mvfa n gd .l k) s (fun t => (t.sq n).gr gd = (q.lr k).zeroExtend 32) ∧
    (md.mem = .D → Completes (.lea n md) s (fun t => Stepped q (t.sq n) md)) ∧
    (Reaches q md 4 → Completes (.ldw n gd md) s (fun t => (t.sq n).gr gd = word ∧ Stepped q (t.sq n) md)) ∧
    (Reaches q md 2 → Completes (.ldh n gd md) s (fun t =>
      (t.sq n).gr gd = half.signExtend 32 ∧ Stepped q (t.sq n) md)) ∧
    (Reaches q md 2 → Completes (.ldhu n gd md) s (fun t =>
      (t.sq n).gr gd = half.zeroExtend 32 ∧ Stepped q (t.sq n) md)) ∧
    (md.mem ≠ .P → Reaches q md 4 → memWf (q.memOf md.mem) = true → Completes (.stw n gb md) s (fun t =>
      memWord ((t.sq n).memOf md.mem) (q.xr md.x).toNat = q.gr gb ∧ Stepped q (t.sq n) md)) ∧
    (md.mem ≠ .P → Reaches q md 2 → memWf (q.memOf md.mem) = true → Completes (.sth n gb md) s (fun t =>
      memHalf ((t.sq n).memOf md.mem) (q.xr md.x).toNat = (q.gr gb).setWidth 16 ∧ Stepped q (t.sq n) md))

/-- R181 to R183: the accumulator instructions complete on a running sequencer, with their value and flags. -/
def Obligations.TabxoAccumulatorsComplete : Prop :=
  ∀ (n : Fin 160) (gd ga : Fin 16) (a : Acc) (k : BitVec 6) (md : MD) (s : State), s.runs n = true →
    let q := s.sq n
    let v := (q.acc a).toInt
    let o := (q.acc (accOther a)).toInt
    let g := (q.gr ga).toInt
    let word := memWord (q.memOf md.mem) (q.xr md.x).toNat
    let sums (r : Int) (t : State) : Prop :=
      (t.sq n).acc a = BitVec.ofInt 40 r ∧ AccFlags q (t.sq n) (BitVec.ofInt 40 r) (Over40 r)
    let is (r : AccWord) (t : State) : Prop := (t.sq n).acc a = r ∧ AccFlags q (t.sq n) r (q.v = true)
    (Reaches q md 4 → Completes (.lda n a md) s (fun t => is (word.signExtend 40) t ∧ Stepped q (t.sq n) md)) ∧
    (Reaches q md 4 → Completes (.addm n a md) s (fun t => sums (v + word.toInt) t ∧ Stepped q (t.sq n) md)) ∧
    Completes (.clr n a) s (fun t => (t.sq n).acc a = 0) ∧
    Completes (.acmb n) s (fun t => (t.sq n).a1 = q.a1 ∧
      (t.sq n).a0 = q.a0 + q.a1.sshiftRight 8 ∧
      AccFlags q (t.sq n) (q.a0 + q.a1.sshiftRight 8) (Over40 (q.a0.toInt + q.a1.toInt / 256))) ∧
    (k.toNat ≤ 8 → Completes (.mvga n a ga k) s (is (BitVec.ofInt 40 (g * 2 ^ k.toNat)))) ∧
    (k.toNat ≤ 8 → Completes (.addga n a ga k) s (sums (v + g * 2 ^ k.toNat))) ∧
    Completes (.adda n a) s (sums (v + o)) ∧
    Completes (.suba n a) s (sums (v - o)) ∧
    Completes (.nega n a) s (sums (-v)) ∧
    (k.toNat ≤ 39 → Completes (.shla n a k) s (sums (v * 2 ^ k.toNat))) ∧
    (k.toNat ≤ 39 → Completes (.sara n a k) s (is ((q.acc a).sshiftRight k.toNat))) ∧
    Completes (.norm n a gd) s (fun t => ∃ r, r ≤ 39 ∧ (t.sq n).gr gd = BitVec.ofNat 32 r ∧
      (t.sq n).acc a = q.acc a <<< r ∧ ((t.sq n).z = true ↔ q.acc a <<< r = 0) ∧
      (∀ j, 39 - r ≤ j → j < 39 → (q.acc a).getLsbD j = (q.acc a).getLsbD 39) ∧
      (r < 39 → (q.acc a).getLsbD (38 - r) ≠ (q.acc a).getLsbD 39)) ∧
    Completes (.exp n gd a) s (fun t => ∃ r : Nat, r ≤ 39 ∧ (t.sq n).gr gd = BitVec.ofInt 32 ((r : Int) - 8) ∧
      (∀ j, 39 - r ≤ j → j < 39 → (q.acc a).getLsbD j = (q.acc a).getLsbD 39) ∧
      (r < 39 → (q.acc a).getLsbD (38 - r) ≠ (q.acc a).getLsbD 39))

/-- R182, R151: the stores and the read-out of an accumulator complete on a running sequencer: the value rounded half to even and
saturated or wrapped, with S and V. -/
def Obligations.TabxoReadOutCompletes : Prop :=
  ∀ (n : Fin 160) (gd : Fin 16) (a : Acc) (k : Fin 32) (c : BitVec 6) (md : MD) (sat : Bool) (s : State), s.runs n = true →
    let q := s.sq n
    let v := roundHalfEven (q.acc a).toInt k
    let u := roundHalfEven (q.acc a).toInt c.toNat
    let stored (w : Nat) (t : State) : Prop := StoreFlags q (t.sq n) w v sat ∧ Stepped q (t.sq n) md
    (md.mem ≠ .P → Reaches q md 2 → memWf (q.memOf md.mem) = true → Completes (.st16 n md a k sat) s (fun t =>
      memHalf ((t.sq n).memOf md.mem) (q.xr md.x).toNat = BitVec.ofInt 16 (Kept 16 v sat) ∧ stored 16 t)) ∧
    (md.mem ≠ .P → Reaches q md 4 → memWf (q.memOf md.mem) = true → Completes (.st32 n md a k sat) s (fun t =>
      memWord ((t.sq n).memOf md.mem) (q.xr md.x).toNat = BitVec.ofInt 32 (Kept 32 v sat) ∧ stored 32 t)) ∧
    (c.toNat ≤ 31 → Completes (.rda n gd a c false sat) s (fun t =>
      (t.sq n).gr gd = (BitVec.ofInt 16 (Kept 16 u sat)).signExtend 32 ∧ StoreFlags q (t.sq n) 16 u sat)) ∧
    (c.toNat ≤ 31 → Completes (.rda n gd a c true sat) s (fun t =>
      (t.sq n).gr gd = BitVec.ofInt 32 (Kept 32 u sat) ∧ StoreFlags q (t.sq n) 32 u sat))

/-- R184, R185, R150: the multiplies complete on a running sequencer: the accumulator and V, the parallel load, and the
addresses after their post-modifies. -/
def Obligations.TabxoMultiplyCompletes : Prop :=
  ∀ (n : Fin 160) (m : MulMem) (r : MulReg) (s : State), s.runs n = true →
    let q := s.sq n
    let pm := product m.sm (q.pickMem m.mda m.selA) (q.pickMem m.mdb m.selB)
    let pr := product r.sm (pickHalf r.selA (q.gr r.ga)) (pickHalf r.selB (q.gr r.gb))
    let holds (a : Acc) (v : Int) (t : State) : Prop :=
      (t.sq n).acc a = BitVec.ofInt 40 v ∧ ((t.sq n).v = true ↔ Over40 v) ∧
      (t.sq n).acc (accOther a) = q.acc (accOther a) ∧ (t.sq n).z = q.z ∧ (t.sq n).n = q.n ∧ (t.sq n).c = q.c
    let loads (t : State) : Prop := (∀ l, m.pl = some l → (t.sq n).gr l.gp = memWord q.pMem (q.xr l.xp).toNat) ∧
      (m.pl = none → m.mda.x ≠ m.mdb.x → Stepped q (t.sq n) m.mda ∧ Stepped q (t.sq n) m.mdb)
    Completes (.macr n r) s (holds r.acc ((q.acc r.acc).toInt + pr)) ∧
    Completes (.msur n r) s (holds r.acc ((q.acc r.acc).toInt - pr)) ∧
    Completes (.mpyr n r) s (holds r.acc pr) ∧
    ((∀ x ∈ q.reps, x.last ≠ q.pc) → mulIllegal m = false →
      Reaches q m.mda (selWidth m.selA) → Reaches q m.mdb (selWidth m.selB) →
      (∀ l, m.pl = some l → Reaches q ⟨.P, l.xp, .keep⟩ 4) →
      Completes (.mac n m) s (fun t => holds m.acc ((q.acc m.acc).toInt + pm) t ∧ loads t) ∧
      Completes (.msu n m) s (fun t => holds m.acc ((q.acc m.acc).toInt - pm) t ∧ loads t) ∧
      Completes (.mpy n m) s (fun t => holds m.acc pm t ∧ loads t))

/-- R147, R148, R186: RPT and RPTB complete on a running sequencer: the count they leave in hand, the level they enter, and where PC
goes when the count is 0. -/
def Obligations.TabxoRepeatsComplete : Prop :=
  ∀ (n : Fin 160) (cnt : Half) (ga : Fin 16) (eofs : Byte) (s : State), s.runs n = true → Placed (s.sq n) →
    let q := s.sq n
    let g := (q.gr ga).toNat % 2 ^ 16
    let e := q.pc + 4 + 4 * eofs.toNat
    let next := (q.pc + 4) % 2 ^ 14
    let armed (k : Nat) (t : State) : Prop := (t.sq n).pc = next ∧ (t.sq n).rpt = some k ∧ (t.sq n).reps = q.reps
    let level (k : Nat) (t : State) : Prop := (t.sq n).pc = next ∧ (t.sq n).reps = ⟨k, next, e⟩ :: q.reps
    (0 < cnt.toNat → Completes (.rpt n cnt) s (armed cnt.toNat)) ∧
    (0 < g → Completes (.rptReg n ga) s (armed g)) ∧
    (q.reps = [] → cnt.toNat = 0 → Completes (.rpt n cnt) s (fun t =>
      (t.sq n).pc = (next + 4 * wordCount (memWord q.pMem next).toNat) % 2 ^ 14 ∧ (t.sq n).rpt = none)) ∧
    (e < 2 ^ 14 → q.reps.length < 3 → 0 < cnt.toNat → Completes (.rptb n cnt eofs) s (level cnt.toNat)) ∧
    (e < 2 ^ 14 → q.reps.length < 3 → 0 < g → Completes (.rptbReg n ga eofs) s (level g)) ∧
    (e < 2 ^ 14 → q.reps = [] → cnt.toNat = 0 → Completes (.rptb n cnt eofs) s (fun t =>
      (t.sq n).pc = (e + 4) % 2 ^ 14 ∧ (t.sq n).reps = []))

/-- R153 to R156, R187: the time instructions complete on a running sequencer. GRD reads one Gauge snapshot; WAITT goes on at once
where its instant is due or a masked port holds a message, and waits otherwise, until its instant falls due; SCHED posts its event,
unless the cluster's queue is full; GADJ and GBND reach GAU. -/
def Obligations.TabxoTimeCompletes : Prop :=
  ∀ (n : Fin 160) (gk port : Fin 16) (mask code : Half) (lock : Bool) (s : State), s.runs n = true → (s.sq n).rpt = none →
    let q := s.sq n
    let at_ := (q.gr gk).toNat + (q.gr (gk + 1)).toNat % 256 * 2 ^ 32
    let evs := (s.clu (n / 16)).evs
    (gk.val ≤ 11 → Completes (.grd n gk) s (fun t =>
      (t.sq n).gr gk = BitVec.ofNat 32 s.gfr ∧ (t.sq n).gr (gk + 1) = BitVec.ofNat 32 s.gns ∧
      (t.sq n).gr (gk + 2) = BitVec.ofNat 32 (s.gns / 2 ^ 32) ∧ (t.sq n).gr (gk + 3) = BitVec.ofNat 32 s.busBound ∧
      (t.sq n).gr (gk + 4) = BitVec.ofNat 32 s.gau.st.code)) ∧
    (Placed q → gk.val ≤ 14 → maskOk n mask.toNat = true → s.due40 at_ = true →
      Completes (.waitt n gk mask) s (fun t => (t.sq n).t = true ∧ (t.sq n).st = .running)) ∧
    (Placed q → gk.val ≤ 14 → maskOk n mask.toNat = true → s.due40 at_ = false → q.masked mask.toNat = true →
      Completes (.waitt n gk mask) s (fun t => (t.sq n).t = false ∧ (t.sq n).st = .running)) ∧
    (Placed q → gk.val ≤ 14 → maskOk n mask.toNat = true → s.due40 at_ = false → q.masked mask.toNat = false →
      Completes (.waitt n gk mask) s (fun t =>
        (t.sq n).st = .waiting ∧ (t.sq n).wait = some (at_, mask.toNat) ∧ (t.sq n).pc = q.pc)) ∧
    (gk.val ≤ 14 → (portsOf n).contains port.val = true → port.val ≠ 14 → evs.length < 64 →
      Completes (.sched n port gk code) s (fun t =>
        (t.clu (n / 16)).evs = evs ++ [⟨n, port, at_, code.toNat⟩] ∧ (t.sq n).c = true)) ∧
    (gk.val ≤ 14 → (portsOf n).contains port.val = true → port.val ≠ 14 → 64 ≤ evs.length →
      Completes (.sched n port gk code) s (fun t => (t.clu (n / 16)).evs = evs ∧ (t.sq n).c = false)) ∧
    (n.val < 16 → gk.val ≤ 13 → s.gau.breach = false → fadjOk (q.gr gk).toInt = true →
      Completes (.gadj n gk true false) s (fun t => t.gau.fadj = (q.gr gk).toInt)) ∧
    (n.val < 16 → Completes (.gbnd n gk lock) s (fun t => t.gau.hbAt = s.gau.l ∧ t.gau.lastBnd = some n.val))

/-- R159, R160, R162, R190: CHSEND, CHRECV, MBSEND and MBRECV complete on a running sequencer. A message that is accepted reaches the
block behind its port; a receive takes the oldest message of the inbox and sets Z where there is none; a mailbox message that finds
room is delivered with C = 1, and one that does not is not sent, with C = 0. -/
def Obligations.TabxoMessagesComplete : Prop :=
  ∀ (n : Fin 160) (port ga : Fin 16) (x : Fin 8) (inc : Bool) (s : State), s.runs n = true → (s.sq n).rpt = none →
    let q := s.sq n
    let m := q.msgAt x
    let sent := (s.setSq n (q.retire 1)).onSeq n fun p => p.passMsg x m.pay.length inc
    let d := (q.gr ga).toNat % 256
    let has (p : Nat) (t : State) : Prop := (q.inbox.get p [] = [] → (t.sq n).z = true ∧ (t.sq n).inbox.get p [] = []) ∧
      ∀ k r, q.inbox.get p [] = k :: r → (t.sq n).z = false ∧ (t.sq n).inbox.get p [] = r ∧
        (k.pay = [] → memWf q.dMem = true → memWord (t.sq n).dMem (q.xr x).toNat = k.header)
    (q.sendTrap x ((portsOf n).contains port.val && decide (port.val < 14)) (s.accepts n port m) = none →
      exec (.chsend n port x inc) s = .next ((sent.takeMsg n port m).pmcSeq n 2)) ∧
    (q.recvTrap n port x = none → Completes (.chrecv n port x inc) s (has port)) ∧
    (q.recvTrap n 14 x = none → Completes (.mbrecv n x inc) s (has 14)) ∧
    (q.sendTrap x true (decide (0x80 ≤ m.type)) = none →
      (d ≠ n.val → d < 160 → s.listens d = true → s.room d 14 m = true → Completes (.mbsend n ga x inc) s (fun t =>
        (t.sq n).c = true ∧ (t.sq d).inbox.get 14 [] = (s.sq d).inbox.get 14 [] ++ [m])) ∧
      (d ≠ n.val → d < 160 → s.listens d = true → s.room d 14 m = false → Completes (.mbsend n ga x inc) s (fun t =>
        (t.sq n).c = false ∧ t.sq d = s.sq d)) ∧
      (d ≠ n.val → (159 < d ∨ s.listens d = false) → Completes (.mbsend n ga x inc) s (fun t =>
        (t.sq n).c = false ∧ t.sq d = s.sq d)))

/-- R158, R191, R5: RDREG and WRREG complete on a running sequencer: RDREG takes the word that a read finds after PC has moved on; a
WRREG of a one-word register that is written at once stores it, and the sequencer goes on with C = 1. -/
def Obligations.TabxoRegisterPortCompletes : Prop :=
  ∀ (n : Fin 160) (gd ga gb : Fin 16) (x : RegAt) (s : State), s.runs n = true → (s.sq n).rpt = none →
    let q := s.sq n
    let a := (q.gr ga).toNat
    let u := (s.onSeq n fun p => { p with stall := true }).unstage (3 + n.val) x
    Completes (.rdreg n gd ga) s (fun t =>
      (t.sq n).gr gd = w32 ((s.setSq n (q.retire 1)).readWord (.seq n) a).1) ∧
    (a % 4 = 0 → groupOf a ≠ some 21 → lookupReg a = some x → x.word = 0 → x.reg.geo.words = 1 →
      Admits u (.seq n) x (q.gr gb).toNat →
      exec (.wrreg n gb ga) s = .next ((u.written (.seq n) x (q.gr gb).toNat).pmcSeq n 2))

/-- R42, R60, R156: GSTEP in cluster 0 completes: the request reaches the write gate behind the instruction; where it is taken at once
it has its record, and the step it asks for is scheduled, held or slewed by the rules of R42 to R47. -/
def Obligations.GstepCompletes : Prop :=
  ∀ (n : Fin 160) (gk : Fin 16) (clr : Bool) (s : State), s.runs n = true → (s.sq n).rpt = none →
    n.val < 16 → gk.val ≤ 11 →
    let q := s.sq n
    let t := (q.gr (gk + 3)).toNat + 2 ^ 32 * (q.gr (gk + 4)).toNat
    let amt := sext 96 ((q.gr gk).toNat + 2 ^ 32 * ((q.gr (gk + 1)).toNat + 2 ^ 32 * (q.gr (gk + 2)).toNat))
    let u := s.setSq n (q.retire 1)
    let e := u.entry (.gstep n t amt clr) (.seq n) (u.ownerMay (.seq n) (Change.gstep n t amt clr).addr)
    s.log.gate = [] → s.log.held = false → s.warden.up = true → s.logRoom 2 = true → s.coreOn = true →
    s.judgeStep t amt = .none →
    exec (.gstep n gk clr) s = .next ((((u.withRecord e).takeStep t amt clr (some n)).sample 11 0 0).pmcSeq n 2)


/-! ### Tabxo: what an instruction leaves -/

/-- Outside its own sequencer an instruction changes nothing but the counters of R354: no register, no other sequencer, no output, no
queue. -/
def Alone (s t : State) (n : Fin 160) : Prop :=
  t = { s with seqs := t.seqs, pmc := t.pmc } ∧ ∀ m : Nat, m ≠ n.val → t.sq m = s.sq m

/-- Memory `m` of a sequencer reads as before outside the `w` bytes from `a`. -/
def MemKeeps (q p : Seq) (m : SMem) (a w : Nat) : Prop :=
  ∀ b, b < a ∨ a + w ≤ b → memGet (p.memOf m) b = memGet (q.memOf m) b

/-- R178 to R180, R182, R183, R186: the frame of the Tabxo instructions without a memory operand, wherever the instruction meets no trap:
outside its sequencer it changes the counters of R354 alone; within it, PC, the repeats in hand, and what its group writes: the
integer operations gd and Z, N, C, V; the comparisons those flags; the immediates, RDID and MVFA gd alone; LDX and MVTA one address register; CLR its
accumulator; the other accumulator operations their accumulator and Z, N, V; NORM gd, its accumulator and Z; EXP gd; a branch the call stack; CLRS S. -/
def Obligations.TabxoRegisterFrame : Prop :=
  ∀ (n : Fin 160) (gd ga gb c : Fin 16) (imm : Half) (k5 : BitVec 5) (k6 : BitVec 6) (k : Fin 8) (kind : AxKind) (a : Acc)
    (tw : BitVec 12) (e : Byte) (w : Word) (i : Instr) (s : State), s.runs n = true →
    let q := s.sq n
    let leaves (P : Seq → Prop) := Completes i s (fun t => (t.sq n).st = .running → Alone s t n ∧ P (t.sq n))
    let gd_only (p : Seq) : Prop := ∀ j, j ≠ gd.val → p.gr j = q.gr j
    (i ∈ [.add n gd ga gb, .addc n gd ga gb, .addi n gd ga imm, .sub n gd ga gb, .subb n gd ga gb, .neg n gd ga, .min n gd ga gb,
        .max n gd ga gb, .and n gd ga gb, .or n gd ga gb, .xor n gd ga gb, .not n gd ga, .mov n gd ga, .andi n gd ga imm, .ori n gd ga imm,
        .xori n gd ga imm, .abs n gd ga, .shl n gd ga gb, .shr n gd ga gb, .sar n gd ga gb, .shli n gd ga k5, .shri n gd ga k5,
        .sari n gd ga k5] →
      leaves fun p => gd_only p ∧
        p = { q with g := p.g, z := p.z, n := p.n, c := p.c, v := p.v, pc := p.pc, reps := p.reps, rpt := p.rpt }) ∧
    (i ∈ [.cmp n ga gb, .cmpi n ga imm, .tst n ga gb] →
      leaves fun p => p = { q with z := p.z, n := p.n, c := p.c, v := p.v, pc := p.pc, reps := p.reps, rpt := p.rpt }) ∧
    (i ∈ [.ldi n gd imm, .lui n gd imm, .ldil n gd w, .rdid n gd, .mvfa n gd kind k] →
      leaves fun p => gd_only p ∧ p = { q with g := p.g, pc := p.pc, reps := p.reps, rpt := p.rpt }) ∧
    (i ∈ [.ldx n kind k imm, .mvta n kind k ga] →
      leaves fun p => (∀ j, j ≠ k.val → p.xr j = q.xr j ∧ p.mr j = q.mr j ∧ p.lr j = q.lr j) ∧
        (kind ≠ .x → p.x = q.x) ∧ (kind ≠ .m → p.m = q.m) ∧ (kind ≠ .l → p.l = q.l) ∧
        p = { q with x := p.x, m := p.m, l := p.l, pc := p.pc, reps := p.reps, rpt := p.rpt }) ∧
    (i = .clr n a → leaves fun p => p.acc (accOther a) = q.acc (accOther a) ∧ p = { q with
        a0 := p.a0, a1 := p.a1, pc := p.pc, reps := p.reps, rpt := p.rpt }) ∧
    (i ∈ [.mvga n a ga k6, .addga n a ga k6, .adda n a, .suba n a, .nega n a, .shla n a k6, .sara n a k6] →
      leaves fun p => p.acc (accOther a) = q.acc (accOther a) ∧ p = { q with
        a0 := p.a0, a1 := p.a1, z := p.z, n := p.n, v := p.v, pc := p.pc, reps := p.reps, rpt := p.rpt }) ∧
    (i = .acmb n → leaves fun p => p = { q with
        a0 := p.a0, z := p.z, n := p.n, v := p.v, pc := p.pc, reps := p.reps, rpt := p.rpt }) ∧
    (i = .norm n a gd → leaves fun p => gd_only p ∧ p.acc (accOther a) = q.acc (accOther a) ∧ p = { q with
        g := p.g, a0 := p.a0, a1 := p.a1, z := p.z, pc := p.pc, reps := p.reps, rpt := p.rpt }) ∧
    (i = .exp n gd a → leaves fun p => gd_only p ∧ p = { q with g := p.g, pc := p.pc, reps := p.reps, rpt := p.rpt }) ∧
    (i ∈ [.nop n, .b n tw, .bcc n c tw, .br n ga, .rpt n imm, .rptReg n ga, .rptb n imm e, .rptbReg n ga e] →
      leaves fun p => p = { q with pc := p.pc, reps := p.reps, rpt := p.rpt }) ∧
    (i ∈ [.call n tw, .ret n] → leaves fun p => p = { q with pc := p.pc, reps := p.reps, rpt := p.rpt, calls := p.calls }) ∧
    (i = .clrs n → leaves fun p => p = { q with s := false, pc := p.pc, reps := p.reps, rpt := p.rpt })

/-- R174, R181, R182, R184, R185: the frame of the Tabxo instructions with a memory operand, wherever the instruction meets no trap: outside
its sequencer it changes the counters of R354 alone; a load changes its register or accumulator and the address register of its
descriptor, a store that address register, S and V, and the bytes from the address the descriptor names, as wide as the form; a
multiply its accumulator, V, the address registers it steps and the register of its parallel load. -/
def Obligations.TabxoMemoryFrame : Prop :=
  ∀ (n : Fin 160) (gd gb : Fin 16) (md : MD) (a : Acc) (sh : Fin 32) (k : BitVec 6) (wide sat : Bool) (m : MulMem) (r : MulReg) (i : Instr)
    (s : State), s.runs n = true →
    let q := s.sq n
    let leaves (P : Seq → Prop) := Completes i s (fun t => (t.sq n).st = .running → Alone s t n ∧ P (t.sq n))
    let gd_only (p : Seq) : Prop := ∀ j, j ≠ gd.val → p.gr j = q.gr j
    let x_only (p : Seq) : Prop := ∀ j, j ≠ md.x.val → p.xr j = q.xr j
    let stores (w : Nat) (p : Seq) : Prop := x_only p ∧ MemKeeps q p md.mem (q.xr md.x).toNat w ∧
      (∀ o, o ≠ md.mem → p.memOf o = q.memOf o) ∧
      p = { q with x := p.x, cMem := p.cMem, dMem := p.dMem, s := p.s, v := p.v, pc := p.pc, reps := p.reps, rpt := p.rpt }
    (i = .lea n md → leaves fun p => x_only p ∧ p = { q with x := p.x, pc := p.pc, reps := p.reps, rpt := p.rpt }) ∧
    (i ∈ [.ldw n gd md, .ldh n gd md, .ldhu n gd md] →
      leaves fun p => gd_only p ∧ x_only p ∧ p = { q with g := p.g, x := p.x, pc := p.pc, reps := p.reps, rpt := p.rpt }) ∧
    (i ∈ [.lda n a md, .addm n a md] → leaves fun p => x_only p ∧ p.acc (accOther a) = q.acc (accOther a) ∧ p = { q with
      x := p.x, a0 := p.a0, a1 := p.a1, z := p.z, n := p.n, v := p.v, pc := p.pc, reps := p.reps, rpt := p.rpt }) ∧
    (i = .stw n gb md → leaves fun p => stores 4 p ∧ p.s = q.s ∧ p.v = q.v) ∧
    (i = .sth n gb md → leaves fun p => stores 2 p ∧ p.s = q.s ∧ p.v = q.v) ∧
    (i = .st16 n md a sh sat → leaves (stores 2)) ∧
    (i = .st32 n md a sh sat → leaves (stores 4)) ∧
    (i = .rda n gd a k wide sat → leaves fun p => gd_only p ∧ p = { q with
      g := p.g, s := p.s, v := p.v, pc := p.pc, reps := p.reps, rpt := p.rpt }) ∧
    (i ∈ [.macr n r, .msur n r, .mpyr n r] → leaves fun p => p.acc (accOther r.acc) = q.acc (accOther r.acc) ∧ p = { q with
      a0 := p.a0, a1 := p.a1, v := p.v, pc := p.pc, reps := p.reps, rpt := p.rpt }) ∧
    (i ∈ [.mac n m, .msu n m, .mpy n m] → leaves fun p => p.acc (accOther m.acc) = q.acc (accOther m.acc) ∧
      (∀ j, (∀ l, m.pl = some l → j ≠ l.gp.val) → p.gr j = q.gr j) ∧
      (∀ j, j ≠ m.mda.x.val → j ≠ m.mdb.x.val → (∀ l, m.pl = some l → j ≠ l.xp.val) → p.xr j = q.xr j) ∧ p = { q with
        g := p.g, x := p.x, a0 := p.a0, a1 := p.a1, v := p.v, pc := p.pc, reps := p.reps, rpt := p.rpt })


/-! ### Register access -/

/-- R5 to R8, R12, R303: a write that is taken at once completes: the register of one word, the wide register by the write of its
highest word with the lower words that wait, and the word of sequencer memory (R165). -/
def Obligations.WritesByAddressComplete : Prop :=
  ∀ (r : Requester) (addr v : Word) (x : RegAt) (s : State), addr.toNat % 4 = 0 →
    let a := addr.toNat
    let u := s.unstage (reqId r) x
    let w := s.assemble (reqId r) x v.toNat
    let e := s.entry (.seqmem a v.toNat) (Origin.ofReq r) (s.ownerMay (Origin.ofReq r) a)
    (groupOf a ≠ some 21 → lookupReg a = some x → x.word + 1 = x.reg.geo.words →
      Admits u r { x with word := 0 } w →
      (x.word = 0 → exec (.registerWrite r ⟨4, addr⟩ v) s = .next (u.written r { x with word := 0 } v.toNat)) ∧
      exec (.wideWrite r addr v) s = .next (u.written r { x with word := 0 } w)) ∧
    (groupOf a = some 21 → (seqMemAt a).isSome = true → s.hostTakes r = true →
      s.log.gate = [] → s.log.held = false → s.warden.up = true → s.twin.role ≠ .active → s.logRoom 2 = true →
      ((s.counted r).gated e).judge e false = .none → ((s.counted r).withRecord e).judge e true = .none → s.memOk = true →
      Completes (.seqmemWrite r ⟨4, addr⟩ v) s (fun t => t.getSeqMem a = v.toNat))

/-- R303, R307, R308: before a write of a one-word register takes effect its record stands in the ring: a WRITE record with the address,
the value before and the value written. The registers whose writes have a record of another kind are left out. -/
def Obligations.WritesAreRecordedFirst : Prop :=
  ∀ (r : Requester) (x : RegAt) (v : Nat) (s : State), Admits s r x v → x.reg.geo.words = 1 →
    (∀ k ∈ [RegName.KEY_OP, .ATT_FUSE_CMD, .STL_TWIN_CTL, .TOP_BINDOFF], x.reg ≠ k) →
    let e := (s.counted r).entryOf r x v
    let u := (s.counted r).withRecord e
    s.written r x v = ((u.doWrite x v u.log.seq).originDone e).sample 11 0 0 ∧ u.log.seq ≠ s.log.seq ∧
    ∃ d ∈ u.log.ring, d.kind = 0 ∧ d.applied = true ∧ d.addr = x.first % 2 ^ 32 ∧
      d.old = ((s.counted r).gated e).valueBefore x % 2 ^ 32 ∧ d.new = v % 2 ^ 32 ∧ d.seq = u.log.seq

/-- R8, R11, R12: a write of a register that has no effect beyond its fields: each writable field holds the value written, a field of
class E does not yet act, and everything else of the machine stays, but for the record, the count of host writes, the histogram of
the gate and the sequencer that wrote. One register of each group that has such registers stands for its group. -/
def Obligations.PlainWritesLand : Prop :=
  ∀ (r : Requester) (x : RegAt) (v : Nat) (s : State), Admits s r x v →
    x.reg ∈ [RegName.GAU_HB_MAX, .SEL_PER, .HLD_AVG, .OUT_OFFSET, .TDC_DIV, .FE_FS, .SEQ_WD, .CLU_SPARE, .ETH_TX_COMP, .PTP_NET,
      .AUD_DOM, .MIX_OMAP, .STL_TWIN_MIRROR, .FLT_SRC_CFG, .REC_CODE, .PMC_SAMP_RING, .DMA_CFG, .MEM_REQ] →
    let t := s.written r x v
    t.lastAt x = putFields (fun f => f.acc == .rw) x.fs (s.lastAt x) v ∧
    t.forceAt x = putFields (fun f => f.acc == .rw && !f.isE) x.fs (s.forceAt x) v ∧
    (∀ a d, a ≠ x.first → t.regs.get a d = s.regs.get a d ∧ t.force.get a d = s.force.get a d) ∧
    (∀ n : Nat, n < 160 → (∀ k : Fin 160, k.val = n → r ≠ .seq k) → t.sq n = s.sq n) ∧
    (t.gau = s.gau ∧ t.sel = s.sel ∧ t.hld = s.hld ∧ t.out = s.out ∧ t.tdc = s.tdc ∧ t.gnb = s.gnb ∧ t.clus = s.clus ∧
      t.eth = s.eth ∧ t.tsv = s.tsv ∧ t.aud = s.aud ∧ t.mix = s.mix ∧ t.key = s.key ∧ t.fuses = s.fuses ∧ t.twin = s.twin ∧
      t.links = s.links ∧ t.flt = s.flt ∧ t.mem = s.mem ∧ t.dram = s.dram ∧ t.cast_ = s.cast_)


/-- R6, R8, R59, R216, R312: the reads complete, for a requester that does not wait behind its own writes. A read of the lowest word of
a wide register latches the whole value; a read of a register with fields that a read clears answers the value and clears them; a
read of GAU_SNAP takes GFR, GNS, BOUND and the state of one edge; one of LOG_TAIL or LOG_TAIL2 latches the base of its half of the ring
window; one of ETH_TXTS takes the oldest stamp. -/
def Obligations.ReadsComplete : Prop :=
  ∀ (r : Requester) (addr : Word) (p : Fin 8) (x : RegAt) (s : State),
    (r = .host → s.hostWaits = 0 ∧ s.hst.reads = []) →
    let a := addr.toNat
    let id := reqId r
    let v := s.readReg id x
    let answers (b w : Nat) (t : State) : Prop := t.sent = .rdata id b w :: s.sent
    let tail := RegName.LOG_TAIL.addr
    let tail2 := RegName.LOG_TAIL2.addr
    (a % 4 = 0 → seqBlind r a = false → groupOf a ≠ some 21 → lookupReg a = some x → x.word = 0 →
      (∀ k ∈ [RegName.ETH_TXTS, .LOG_TAIL, .LOG_TAIL2], x.reg ≠ k) →
      (1 < x.reg.geo.words → Completes (.lowWordRead r addr) s (fun t =>
        answers a (v % 2 ^ 32) t ∧ t.latches.get id ⟨0, 0, 0, 0, 0⟩ = ⟨x.first, v, 0, 0, 0⟩)) ∧
      (v ≠ 0 → Completes (.rcRead r addr) s (fun t =>
        answers a (v % 2 ^ 32) t ∧ ∀ f ∈ x.fs, f.acc = .rc → bits (t.hw.get x.first 0) f.hi f.lo = 0)) ∧
      (v = 0 → Completes (.rcRead r addr) s (fun t => answers a 0 t ∧ t.hw = s.hw))) ∧
    Completes (.logTailRead r) s (fun t => (t.latches.get id ⟨0, 0, 0, 0, 0⟩).addr = tail ∧
      (t.latches.get id ⟨0, 0, 0, 0, 0⟩).b = s.log.tail ∧ (t.latches.get id ⟨0, 0, 0, 0, 0⟩).used = s.logUsed) ∧
    Completes (.logTail2Read r) s (fun t => (t.latches.get id ⟨0, 0, 0, 0, 0⟩).addr = tail2 ∧
      (t.latches.get id ⟨0, 0, 0, 0, 0⟩).b = (s.log.tail + 16384) % 32768 ∧
      (t.latches.get id ⟨0, 0, 0, 0, 0⟩).j = 16384) ∧
    (s.coreOn = true → s.regs.get RegName.GAU_SNAP.addr 0 = 0 → s.hw.get RegName.GAU_SNAP.addr 0 = 0 →
      Completes (.gauSnapRead r) s (fun t => (t.latches.get id ⟨0, 0, 0, 0, 0⟩).val =
        s.gfr + s.gns * 2 ^ 32 + s.busBound * 2 ^ 96 + s.gau.st.code * 2 ^ 128)) ∧
    (∀ w ws, (s.ep p).txts = w :: ws → Completes (.ethTxtsPop r p) s (fun t =>
      (t.ep p).txts = ws ∧ (t.latches.get id ⟨0, 0, 0, 0, 0⟩).val = natOfWords w ∧
      answers (RegName.ETH_TXTS.addr p) (natOfWords w % 2 ^ 32) t)) ∧
    ((s.ep p).txts = [] → Completes (.ethTxtsPop r p) s (fun t => answers (RegName.ETH_TXTS.addr p) 0 t))


/-! ### The register writes with effects of their own -/

/-- R41 to R50, R71, R72, R94, R97, R103: the writes that ask something of the Gauge, the selector and the outputs complete where the gate
takes them at once: a slew is added to REM or held by the guard, a step is scheduled, a cancel or an acknowledgement ends what is
held, a candidate is enabled or disabled, and an output is armed or realigned. -/
def Obligations.TimingWritesComplete : Prop :=
  ∀ (r : Requester) (v : DWord) (seq : Half) (k : Fin 31) (o : Fin 20) (j : Fin 2) (s : State),
    let amt := sext 64 v.toNat
    let step := sext 96 (s.inForce .GAU_STEP_AMT)
    let clr := s.on .GAU_STEP_CTL 0
    Writes (.slewAmtWrite r v) s r (regAt .GAU_SLEW_AMT) v.toNat (fun t =>
      (s.guardHolds s.outstanding amt = false → t.gau.rem = s.gau.rem + amt * 256 ∧ t.gau.stepCode = 3) ∧
      (s.guardHolds s.outstanding amt = true → s.agrees s.source s.sourceGrp amt = false →
        t.gau.rem = s.gau.rem ∧ t.gau.stepCode = 4 ∧
        t.gau.held = some ⟨false, amt, false, s.source, s.sourceGrp, none, 0, s.gau.l, (s.gau.stepSeq + 1) % 2 ^ 16⟩)) ∧
    Writes (.stepAtWrite r v) s r (regAt .GAU_STEP_AT) v.toNat (fun t =>
      s.inForce .GAU_STEP_MIN * 2 ^ 32 < step.natAbs → s.guardHolds (if clr then 0 else s.gau.rem) step = false →
        t.gau.sched = some ⟨v.toNat, step, clr, none, 0⟩ ∧ t.gau.stepCode = 1) ∧
    Writes (.stepCancel r) s r (regAt .GAU_STEP_CTL) (s.lastWith .GAU_STEP_CTL 8 8 1) (fun t =>
      t.gau.sched = none ∧ t.gau.held = none) ∧
    Writes (.stepAck r seq) s r (regAt .GAU_STEP_ACK) seq.toNat (fun t =>
      (∀ h, s.gau.held = some h → h.step = true →
        t.gau.held = none ∧ t.gau.sched = some ⟨s.releaseT, h.amt, h.clr, h.by_, h.num⟩ ∧ t.gau.stepCode = 6) ∧
      (∀ h, s.gau.held = some h → h.step = false → (s.gau.rem + h.amt * 256).natAbs < 2 ^ 71 →
        t.gau.held = none ∧ t.gau.rem = s.gau.rem + h.amt * 256 ∧ t.gau.stepCode = 6) ∧
      (s.gau.held = none → s.gau.breach = true → t.gau.breach = false ∧ t.gau.stepCode = 6)) ∧
    Writes (.candidateEnable r k true) s r (regAt .SEL_CFG k) (s.lastWith .SEL_CFG 31 31 1 k) (fun t =>
      (s.cand k).st = .off → (t.cand k).st = .nosig) ∧
    Writes (.candidateEnable r k false) s r (regAt .SEL_CFG k) (s.lastWith .SEL_CFG 31 31 0 k) (fun t =>
      (t.cand k).st = .off) ∧
    Writes (.hostsetWrite r v) s r (regAt .SEL_HOSTSET) v.toNat (fun t => (s.cand 30).st ≠ .off →
      (t.cand 30).post = some ⟨((v.toNat * 2 ^ 32 : Nat) : Int) - s.g32, s.inForce .SEL_HOSTSET_UNC, 0, s.g32, 0⟩) ∧
    Writes (.grpcSnapWrite r) s r (regAt .OUT_GRPC) (s.lastWith .OUT_GRPC 31 31 1) (fun t => t.out.snap = some s.gau.l) ∧
    Writes (.outputEnable r o) s r (regAt .OUT_CFG o) (s.lastWith .OUT_CFG 31 31 1 o) (fun t =>
      s.on .OUT_CFG 31 o = false → (t.outU o).armed = some s.gau.l) ∧
    Writes (.wclkRealignWrite r j) s r (regAt .OUT_SKIP (18 + j.val)) (s.lastWith .OUT_SKIP 0 0 1 (18 + j.val)) (fun t =>
      s.frameMode (18 + j.val) = true → (t.outU (18 + j.val)).realign = some s.gau.l)

/-- R125, R130, R134, R139, R163, R168, R171: the writes that start, stop and queue work of the baseband and of the sequencers complete
where the gate takes them at once. -/
def Obligations.ProgramWritesComplete : Prop :=
  ∀ (r : Requester) (v : DWord) (c : Fin 192) (j : Fin 16) (n : Fin 160) (k : Fin 10) (mask : Half) (atRow unfence : Bool)
    (s : State),
    let d : Int := (s.inForce .SW_AT : Int) - s.gns
    Writes (.spiTransaction r v) s r (regAt .GNS_SPI_TX) v.toNat (fun t => t.gnb.spiBusy = true) ∧
    (let w := s.lastWith .CH_CFG 31 31 1 c
     Writes (.channelEnable r c true) s r (regAt .CH_CFG c) w (fun t =>
      (s.chan c).st = .stopped → s.on .GNS_CTL 31 = true →
      (s.putReg (regAt .CH_CFG c) w).judgeChan c (s.inForce .CH_START_SCNT c) = .none → (t.chan c).st = .armed)) ∧
    Writes (.channelEnable r c false) s r (regAt .CH_CFG c) (s.lastWith .CH_CFG 31 31 0 c) (fun t =>
      (t.chan c).st = .stopped) ∧
    Writes (.acqGo r j) s r (regAt .ACQ_CFG j) (s.lastWith .ACQ_CFG 31 31 1 j) (fun t =>
      t.gnb.acqQ = s.gnb.acqQ ++ [j.val]) ∧
    Writes (.acqCancel r j) s r (regAt .ACQ_CFG j) (s.lastWith .ACQ_CFG 30 30 1 j) (fun t =>
      bitOn (s.lastOf .ACQ_CFG j) 31 = false → s.gnb.acqQ.contains j.val = true → t.gnb.acqQ = s.gnb.acqQ.erase j.val) ∧
    Writes (.swatchGo r) s r (regAt .SW_CTL) (s.lastWith .SW_CTL 31 31 1) (fun t =>
      t.gnb.swSt = if 2000 ≤ d ∧ d ≤ 2 ^ 39 then 1 else 6) ∧
    Writes (.swatchAbort r) s r (regAt .SW_CTL) (s.lastWith .SW_CTL 30 30 1) (fun t =>
      bitOn (s.lastOf .SW_CTL) 31 = false → s.gnb.swSt = 1 ∨ s.gnb.swSt = 2 → t.gnb.swSt = 4) ∧
    Writes (.seqRun r n atRow unfence) s r (regAt .SEQ_CTL n)
      (s.lastWith .SEQ_CTL 31 29 (4 + (if atRow then 2 else 0) + (if unfence then 1 else 0)) n) (fun t =>
      (s.sq n).st = .stopped → (t.sq n).st = .starting ∧ (t.sq n).start = some (s.gau.l, atRow) ∧ (t.sq n).g = [] ∧
        (t.sq n).pMem = (s.sq n).pMem ∧ (t.sq n).cMem = (s.sq n).cMem ∧ (t.sq n).dMem = (s.sq n).dMem) ∧
    Writes (.seqStop r n) s r (regAt .SEQ_CTL n) (s.lastWith .SEQ_CTL 31 31 0 n) (fun t =>
      (s.sq n).st ≠ .fenced → (t.sq n).st = .stopped) ∧
    Writes (.unfence r n) s r (regAt .SEQ_CTL n) (putBits (s.lastWith .SEQ_CTL 29 29 1 n) 31 31 0) (fun t =>
      (s.sq n).st = .fenced → (t.sq n).st = .stopped ∧ (t.sq n).pMem = [] ∧ (t.sq n).cMem = [] ∧ (t.sq n).dMem = []) ∧
    Writes (.imageLoad r k mask) s r (regAt .CLU_LOAD_CTL k) (2 ^ 31 + mask.toNat) (fun t =>
      (t.clu k).load = 1 ∧ (t.clu k).mask = mask.toNat)

/-- R206, R207, R240, R246, R264, R265, R274, R282: the writes that ask something of the Ethernet ports, the time service, the audio
objects and the mix complete where the gate takes them at once. -/
def Obligations.NetworkAndAudioWritesComplete : Prop :=
  ∀ (r : Requester) (v : DWord) (w : Word) (p : Fin 8) (e : Fin 256) (i : Fin 512) (q : Fin 16) (node : Fin 1048576)
    (ci : Fin 1024) (bi : Fin 4) (co : Fin 1024) (bo : Fin 8) (s : State),
    Writes (.rowSwapRequest r p) s r (regAt .ETH_ROW_CTL p) (s.lastWith .ETH_ROW_CTL 29 29 1 p) (fun t =>
      t.on .ETH_ROW_CTL 29 p = true) ∧
    Writes (.rowLiveWrite r p e true w) s r (regAt .ROWA_GATE p e) w.toNat (fun t =>
      bits (t.lastOf .ROWA_GATE p e) 8 0 = bits w.toNat 8 0 ∧ t.inForce .ROWA_GATE p e = s.inForce .ROWA_GATE p e) ∧
    Writes (.rowLiveWrite r p e false w) s r (regAt .ROWA_OFS p e) w.toNat (fun t =>
      bits (t.lastOf .ROWA_OFS p e) 29 0 = bits w.toNat 29 0 ∧ t.inForce .ROWA_OFS p e = s.inForce .ROWA_OFS p e) ∧
    Writes (.ntsRotAtWrite r v) s r (regAt .TSV_NTS_ROT_AT) v.toNat (fun t => t.tsv.rot = some v.toNat) ∧
    Writes (.ntsRetire r) s r (regAt .TSV_NTS_KEY) (s.lastWith .TSV_NTS_KEY 31 31 1) (fun t => t.tsv.prev = none) ∧
    Writes (.audStop r) s r (regAt .AUD_CTL) (s.lastWith .AUD_CTL 31 31 0) (fun t =>
      s.on .AUD_CTL 31 = true → t.aud.waits = [] ∧ t.aud.starts = [] ∧ t.aud.rowMsgs = [] ∧ t.aud.stripRow = none) ∧
    Writes (.streamEnable r (.rxs i)) s r (regAt .RXS_CFG i) (s.lastWith .RXS_CFG 31 31 1 i) (fun t =>
      s.audOn = true → s.on .RXS_CFG 31 i = false → (t.rxs i).st = 1) ∧
    Writes (.streamEnable r (.txs i)) s r (regAt .TXS_CFG i) (s.lastWith .TXS_CFG 31 31 1 i) (fun t =>
      s.audOn = true → s.on .TXS_CFG 31 i = false → (t.txs i).st = 1 ∨ (t.txs i).st = 2) ∧
    Writes (.streamEnable r (.aesi q)) s r (regAt .AESI_CFG q) (s.lastWith .AESI_CFG 31 31 1 q) (fun t =>
      s.audOn = true → s.on .AESI_CFG 31 q = false → (t.aesi q).st = 1) ∧
    Writes (.streamEnable r (.aeso q)) s r (regAt .AESO_CFG q) (s.lastWith .AESO_CFG 31 31 1 q) (fun t =>
      s.audOn = true → s.on .AESO_CFG 31 q = false → (t.aeso q).st = 3 ∨ (t.aeso q).st = 5) ∧
    Writes (.streamDisable r (.rxs i)) s r (regAt .RXS_CFG i) (s.lastWith .RXS_CFG 31 31 0 i) (fun t =>
      s.audOn = true → s.on .RXS_CFG 31 i = true → (s.rxs i).st ≠ 0 → (t.rxs i).st = 3) ∧
    Writes (.streamDisable r (.aeso q)) s r (regAt .AESO_CFG q) (s.lastWith .AESO_CFG 31 31 0 q) (fun t =>
      s.audOn = true → s.on .AESO_CFG 31 q = true → (s.aeso q).st ≠ 0 → (t.aeso q).st = 4) ∧
    Writes (.triggerArm r v) s r (regAt .AUD_TRIG_AT) v.toNat (fun t =>
      s.tc + 125000 * 2 ^ 40 ≤ (v.toNat : Int) * 2 ^ 40 → t.aud.trigAt = v.toNat) ∧
    Writes (.nodeWrite r node w) s r (regAt .MIX_NODE (node.val / 1024) (node.val % 1024)) w.toNat (fun t =>
      (node.val, w.toNat) ∈ t.mix.waits) ∧
    Writes (.biquadCommit r ci (.input bi) w) s r (regAt .MIX_IBQ ci bi 4) w.toNat (fun t =>
      RegName.MIX_IBQ.addr ci bi ∈ t.mix.bqs) ∧
    Writes (.biquadCommit r co (.output bo) w) s r (regAt .MIX_OBQ co bo 4) w.toNat (fun t =>
      RegName.MIX_OBQ.addr co bo ∈ t.mix.bqs)


/-- R291 to R293, R298, R300, R312: the key operations, the fuse commands and the acknowledgement complete where the gate takes them at
once: the slot takes its key with the next GEN in the bank R292 names, the invalidated slot its zeros, the zeroized block none at all;
the blow is under way; the records up to the one that is named are freed. -/
def Obligations.KeyFuseAndLogWritesComplete : Prop :=
  ∀ (r : Requester) (slot parent : Fin 64) (arm seq : Word) (link : DWord) (e : Fin 4) (v : BitVec 6) (s : State),
    let w := s.newCommit 1 slot
    let bank := bits w 24 24
    let holds (attr : Nat) (key : List Byte) (t : State) : Prop :=
      (t.kslot slot).commit = commitWord w ∧ (t.kslot slot).bad = false ∧
      (if bank = 1 then (t.kslot slot).b1 else (t.kslot slot).b0) =
        ⟨key, attr, (Config.keyTag slot bank (bits w 23 0) attr key).toNat⟩ ∧
      t.key.attr = 0 ∧ t.key.ctx = 0 ∧ t.key.data = []
    let word (op : Nat) : Nat := 2 ^ 31 + op * 2 ^ 24 + slot.val * 2 ^ 8
    let blows (f n : Nat) (t : State) : Prop := t.fuses.blow = some (f, n) ∧ t.fuses.armAt = none
    Writes (.keyGenerate r slot) s r (regAt .KEY_OP) (word 1) (fun t =>
      ∃ x, holds s.rootAttr (fitKey s.opType (bytesLE 32 x)) t) ∧
    Writes (.keyImport r slot) s r (regAt .KEY_OP) (word 2) (holds s.rootAttr (fitKey s.opType (s.keyData 8))) ∧
    (∀ k, Config.unwrap (s.kslot parent).cur.key (s.keyData 10) = some k →
      Writes (.keyUnwrap r parent slot) s r (regAt .KEY_OP) (word 3 + parent.val * 2 ^ 16)
        (holds s.rootAttr (fitKey s.opType k))) ∧
    Writes (.keyDerive r parent slot) s r (regAt .KEY_OP) (word 4 + parent.val * 2 ^ 16) (holds (s.childAttr parent)
      (fitKey s.opType (hmac (s.kslot parent).cur.key (deriveInput slot (s.childAttr parent) s.key.ctx)))) ∧
    Writes (.keyInvalidate r slot) s r (regAt .KEY_OP) (word 5) (fun t =>
      t.kslot slot = ⟨KeyBank.zero, KeyBank.zero, commitWord (s.newCommit 5 slot), false⟩) ∧
    Writes (.keyZeroize r) s r (regAt .KEY_OP) (2 ^ 31 + 6 * 2 ^ 24) (fun t =>
      t.key.slots = [] ∧ t.key.lanes = [] ∧ t.key.zeroed = true ∧ t.key.count = min 255 (s.key.count + 1)) ∧
    Writes (.fuseArm r arm) s r (regAt .ATT_FUSE_ARM) arm.toNat (fun t =>
      t.fuses.armAt = if arm = 0x46555345 then some s.wt else none) ∧
    Writes (.fuseDebugClose r) s r (regAt .ATT_FUSE_CMD) (2 ^ 31) (blows 0 1) ∧
    Writes (.fuseOwnerLock r) s r (regAt .ATT_FUSE_CMD) (2 ^ 31 + 2 ^ 16) (blows 1 1) ∧
    Writes (.fuseOwnerKeyHash r) s r (regAt .ATT_FUSE_CMD) (2 ^ 31 + 2 * 2 ^ 16) (blows 2 1) ∧
    Writes (.fuseRollback r e v) s r (regAt .ATT_FUSE_CMD) (2 ^ 31 + (4 + e.val) * 2 ^ 16 + v.toNat)
      (blows (4 + e.val) v.toNat) ∧
    (∀ d, s.log.ring.find? (fun x => x.seq % 2 ^ 32 == seq.toNat && x.link == link.toNat) = some d →
      Writes (.logAck r seq link) s r (regAt .LOG_ACK) (seq.toNat + 2 ^ 32 * link.toNat) (fun t =>
        ∀ y ∈ s.log.ring, y.seq ≤ d.seq → y ∈ t.log.freed))

/-- R327, R328, R336, R342, R346, R350, R353, R355, R358, R363, R373, R383, R388, R389: the writes that command the twin, the faults, the
counters, the memory and cast-on complete where the gate takes them at once. -/
def Obligations.SupervisionWritesComplete : Prop :=
  ∀ (r : Requester) (dry z none_ : Bool) (src : BitVec 6) (unit prod : Half) (u : Fin 12) (v : Word) (i : Fin 1024) (q : Fin 16)
    (ch : Fin 2) (dev : BitVec 4) (img : Fin 4) (s : State),
    Writes (.twinEnable r false) s r (regAt .STL_TWIN_CFG) (s.lastWith .STL_TWIN_CFG 31 31 0) (fun t =>
      s.flt.relinq = false → t.twin.role = .solo) ∧
    Writes (.twinEnable r true) s r (regAt .STL_TWIN_CFG) (s.lastWith .STL_TWIN_CFG 31 31 1) (fun t =>
      s.flt.relinq = false → s.on .STL_TWIN_CFG 31 = false → bitOn (s.lastOf .STL_TWIN_CFG) 30 = true → t.twin.role = .compare) ∧
    Writes (.relinqCommand r) s r (regAt .STL_TWIN_CTL) (2 ^ 30) (fun t => t.flt.relinq = true) ∧
    Writes (.handoverRequest r) s r (regAt .STL_TWIN_CTL) (2 ^ 31) (fun t => t.twin.hoPend = some (s.gau.l + 10000000)) ∧
    Writes (.resume r) s r (regAt .FLT_CTL) (s.lastWith .FLT_CTL 30 30 1) (fun t => s.flt.halt = false → t.flt.relinq = false) ∧
    Writes (.injectGo r dry src unit) s r (regAt .FLT_INJ)
      (2 ^ 31 + (if dry then 2 ^ 30 else 0) + src.toNat * 2 ^ 16 + unit.toNat) (fun t =>
      t.flt.inj = ⟨1, 0, src.toNat, unit.toNat, dry, s.gau.l⟩) ∧
    Writes (.injectCancel r) s r (regAt .FLT_INJ) (s.lastWith .FLT_INJ 29 29 1) (fun t =>
      bitOn (s.lastOf .FLT_INJ) 31 = false → s.flt.inj.state = 1 → t.flt.inj.state = 0) ∧
    Writes (.unitMeasWrite r u v) s r (regAt .REC_UNIT u) v.toNat (fun t => bits v.toNat 31 24 ≠ 11 →
      bits (t.inForce .REC_UNIT u) 31 24 = bits v.toNat 31 24 ∧ t.rcd.units.get u RecUnit.clear = RecUnit.clear) ∧
    Writes (.pmcCounterWrite r i v) s r (regAt .PMC_CNT i) v.toNat (fun t =>
      bitOn v.toNat 30 = true → t.pmc.cnt.get i ⟨0, false⟩ = ⟨0, false⟩) ∧
    Writes (.sweepGo r) s r (regAt .PMC_SWEEP) (s.lastWith .PMC_SWEEP 31 31 1) (fun t =>
      t.pmc.sweepSeq = (s.pmc.sweepSeq + 1) % 2 ^ 32) ∧
    Writes (.topOwnerWrite r v) s r (regAt .TOP_OWNER) v.toNat (fun t => t.fl .TOP_OWNER 21 0 = v.toNat % 2 ^ 22) ∧
    Writes (.dmaDoorbell r q prod) s r (regAt .DMA_PROD q) prod.toNat (fun t => t.fl .DMA_PROD 15 0 q = prod.toNat) ∧
    Writes (.spareGo r ch dev) s r (regAt .MEM_SPARE ch) (putBits (s.lastWith .MEM_SPARE 19 16 dev.toNat ch) 31 31 1) (fun t =>
      t.mem.spare.get ch 0 = 1 ∧ t.fl .MEM_SPARE 19 16 ch = dev.toNat) ∧
    Writes (.castGo r) s r (regAt .TOP_CAST) (2 ^ 31) (fun t => t.cast_.go = true ∧ t.cast_.st = 3) ∧
    Writes (.topConfigSave r img) s r (regAt .TOP_CONFIG) (2 ^ 31 + img.val * 2 ^ 24) (fun t =>
      t.log.held = true ∧ t.cast_.csSt = 1 ∧ t.cast_.slots.get img none = none) ∧
    Writes (.topConfigSelect r img none_) s r (regAt .TOP_CONFIG)
      (2 ^ 30 + (if none_ then 2 ^ 29 else 0) + img.val * 2 ^ 24) (fun t =>
      t.cast_.sel = if none_ then none else some img.val) ∧
    Writes (.topBindoffGo r z) s r (regAt .TOP_BINDOFF) (2 ^ 31 + (if z then 2 ^ 30 else 0)) (fun t => t.cast_.bind = 1)

/-- R291, R301, R350, R352, R365: the writes that are not audited take effect at once where the access is allowed: the key parameters,
the report requests, the recorder commands and the host mailbox. -/
def Obligations.UnauditedWritesComplete : Prop :=
  ∀ (r : Requester) (v : Word) (w : Fin 10) (q : Fin 16) (u : Fin 12) (s : State), s.hostTakes r = true →
    let ok (x : RegAt) (n : Nat) : Prop :=
      (s.counted r).judgeAccess (Origin.ofReq r) (x.anyOwner || s.ownerMay (Origin.ofReq r) x.first) x.first = .none ∧
      (s.counted r).judgeUnaudited x n = .none
    let count (c : Nat) (t : State) : Prop := t.rcd.count.get c 0 = (s.rcd.count.get c 0 + 1) % 2 ^ 48
    (ok (regAt .KEY_OP_ATTR) v.toNat → Completes (.keyParamWrite r .attr v) s (fun t =>
      bits t.key.attr 3 0 = bits v.toNat 3 0 ∧ bits t.key.attr 11 8 = bits v.toNat 11 8)) ∧
    (ok (regAt .KEY_CTX) v.toNat → Completes (.keyParamWrite r .ctx v) s (fun t => t.key.ctx = v.toNat)) ∧
    (ok (regAt .KEY_DATA w) v.toNat → Completes (.keyParamWrite r (.data w) v) s (fun t =>
      t.key.data.get w 0 = v.toNat)) ∧
    (ok (regAt .ATT_CTL q) (2 ^ 31) → Completes (.reportRequest r q) s (fun t => (t.attSlot q).st = 1)) ∧
    (ok (regAt .REC_CTL) (2 ^ 31) → s.rcd.bufs = [] → Completes (.recClrAll r) s (fun t => t.rcd.units = [] ∧ count 0x3E t)) ∧
    (ok (regAt .REC_CTL) (2 ^ 31) → s.rcd.bufs ≠ [] → Completes (.recClrAll r) s (fun t =>
      t.rcd.clr = s.rcd.clr ++ [recPath r])) ∧
    (ok (regAt .REC_CTL) (2 ^ 30) → Completes (.recClrCnt r) s (fun t => t.rcd.count = [])) ∧
    (ok (regAt .REC_CTL) (2 ^ 29) → Completes (.recSnap r) s (count 0x3F)) ∧
    (ok (regAt .REC_UNIT_CLR u) (2 ^ 31) → Completes (.unitClr r u) s (fun t =>
      t.rcd.units.get u RecUnit.clear = RecUnit.clear)) ∧
    (ok (regAt .HST_MBX_CTL) (2 ^ 31) → Completes (.mbxGo r) s (fun t =>
      t.hst.mbx.length = s.hst.mbx.length + 1 ∧ t.hst.busy = false)) ∧
    (ok (regAt .HST_MBX_CTL) (2 ^ 30) → Completes (.mbxAck r) s (fun t => t.hst.rsp = none))


/-! ### The Gauge and holdover -/

/-- R39, R43, R46, R48 to R50, R54, R58: the events of the Gauge complete where their condition holds: loss of the heartbeat enters HOLDOVER,
BOUND grows with the milliseconds, a witness releases what is held, time discards it, a breach opens and closes, the window restarts,
and the leap second moves OFFSET. -/
def Obligations.GaugeEventsComplete : Prop :=
  ∀ (s : State),
    let n := min (2 ^ 32 - 1) (s.gau.n + 1)
    let fu := s.inForce .HLD_MODEL_FU s.model
    let au := s.inForce .HLD_MODEL_AU s.model
    let restarted (t : State) : Prop := t.gau.p = s.gau.g + s.outstanding ∧
      t.gau.pRate = (s.inForce .GAU_INC : Int) + s.gau.fadj ∧ t.gau.fix = s.gau.fadj ∧ t.gau.guardOn = true
    (s.gau.st = .locked → s.on .GAU_CTL 0 = true → s.gau.hbAt + s.fl .GAU_HB_MAX 13 0 * 1000000 ≤ s.gau.l →
      Completes .heartbeatTimeout s (fun t => t.gau.st = .holdover ∧ t.gau.cause = 2 ∧ t.gau.rem = 0 ∧ t.gau.sched = none ∧
        t.gau.fadj = s.frozen ∧ t.gau.bh = s.gau.bound ∧ t.gau.n = 0)) ∧
    (s.gau.st = .holdover → s.atMs = true → s.fresh 0x20 = true → Completes .holdoverMsTick s (fun t => t.gau.n = n ∧
      t.gau.bound = if n = 2 ^ 32 - 1 then 0xFFFFFFFF else min 0xFFFFFFFF (s.gau.bh + growth fu au n))) ∧
    (∀ h, s.gau.held = some h → s.agrees h.src h.grp h.amt = true → h.step = true →
      Completes .witnessRelease s (fun t => t.gau.held = none ∧ t.gau.stepCode = 5 ∧
        t.gau.sched = some ⟨s.releaseT, h.amt, h.clr, h.by_, h.num⟩)) ∧
    (∀ h, s.gau.held = some h → s.agrees h.src h.grp h.amt = true → h.step = false →
      (s.gau.rem + h.amt * 256).natAbs < 2 ^ 71 → Completes .witnessRelease s (fun t =>
        t.gau.held = none ∧ t.gau.stepCode = 5 ∧ t.gau.rem = s.gau.rem + h.amt * 256)) ∧
    (∀ h, s.gau.held = some h → h.at_ + s.fl .GAU_GUARD 27 16 * 1000000000 ≤ s.gau.l →
      Completes .holdExpiry s (fun t => t.gau.held = none ∧ t.gau.stepCode = 7 ∧ t.gau.rem = s.gau.rem)) ∧
    (s.breachNow = true → s.witnessNear = false → Completes .guardBreach s (fun t =>
      t.gau.breach = true ∧ t.gau.held = none ∧ t.gau.st = .holdover ∧ t.gau.cause = 5 ∧ t.gau.stepCode = 14 ∧ t.gau.fadj = s.gau.fix)) ∧
    (s.breachNow = true → s.witnessNear = true → Completes .guardBreach s (fun t => restarted t ∧ t.gau.breach = false)) ∧
    (s.gau.breach = true → s.witnessNear = true → Completes .breachWitnessClose s (fun t =>
      restarted t ∧ t.gau.breach = false ∧ t.gau.stepCode = 5)) ∧
    (s.windowDue = true → s.fresh 0x23 = true → Completes .guardWindowRestart s restarted) ∧
    (s.on .GAU_UTC 17 = true → s.atGns (s.inForce .GAU_LEAP_AT) = true → Completes .leapSecond s (fun t =>
      t.fl .GAU_UTC 15 0 = (s.fl .GAU_UTC 15 0 + 1) % 65536 ∧ t.fl .GAU_UTC 18 17 = 0)) ∧
    (s.on .GAU_UTC 17 = false → s.on .GAU_UTC 18 = true → s.atGns (s.inForce .GAU_LEAP_AT) = true →
      Completes .leapSecond s (fun t =>
        t.fl .GAU_UTC 15 0 = (s.fl .GAU_UTC 15 0 + 65535) % 65536 ∧ t.fl .GAU_UTC 18 17 = 0))


/-- R37, R43: the step edge completes: the Gauge takes the step S on top of its increment, REM is cleared where the step says so, and the
step is done. -/
def Obligations.StepEdgeCompletes : Prop :=
  ∀ (d : Sched) (s : State), s.gau.running = true → s.gau.sched = some d → s.stepNext = true →
    let rem := if d.clr then 0 else s.gau.rem
    let sl := s.slewPart rem
    Completes .stepEdge s (fun t =>
      t.gau.g = (((s.gau.g + (s.inForce .GAU_INC + s.gau.fadj + s.hld.age + sl)).toNat % 2 ^ 104 : Nat) + d.amt * 256).toNat % 2 ^ 104 ∧
      t.gau.l = s.gau.l + 1 ∧ t.gau.rem = rem - sl ∧ t.gau.sched = none ∧ t.gau.stepCode = 2)

/-! ### Reference selection -/

/-- R61, R65 to R75, R84, R87: the observations, losses, posts and seconds of the candidates and of holdover complete, with the state the
rules give the candidate: an edge or mark candidate begins its run with its first observation and takes PER as the time from one to the
next; one that gives its own time observes nothing by this command. -/
def Obligations.CandidateEventsComplete : Prop :=
  ∀ (k : Fin 30) (ts : Fin 16) (slot : Fin 32) (delta : TWord) (u bc ln : Word) (meas : DWord) (s : State),
    let c := s.cand k
    let e : Int := ((s.gau.l * 2 ^ 32 : Nat) : Int)
    let per := s.inForce .SEL_PER k
    let ph : Int := (((s.gns + 500000000) % 1000000000 : Nat) : Int) - 500000000
    (ownTime k = true → exec (.candidateObservation k ()) s = .next s) ∧
    (ownTime k = false → s.fresh (obsKey k) = true → c.st = .nosig → Completes (.candidateObservation k ()) s (fun t =>
      (t.cand k).st = .wait ∧ (t.cand k).obs = [(e, 0)] ∧ (t.cand k).acc = 1 ∧ (t.cand k).seen = some s.gau.l)) ∧
    (∀ p seen, ownTime k = false → s.fresh (obsKey k) = true → c.st = .wait → c.obs = [p] → c.seen = some seen →
      7 * per ≤ 8 * (s.gau.l - seen) → 8 * (s.gau.l - seen) ≤ 9 * per → Completes (.candidateObservation k ()) s (fun t =>
        (t.cand k).st = .wait ∧ (t.cand k).obs = [(e, p.2 + (per * 2 ^ 32 : Nat)), p] ∧ (t.cand k).seen = some s.gau.l)) ∧
    (s.lost k = true → Completes (.candidateLoss k) s (fun t =>
      (t.cand k).st = .nosig ∧ (t.cand k).cause = 1 ∧ (t.cand k).hist = [])) ∧
    (∀ p r, s.atSec = true → s.fresh 0x22 = true → k.val ≠ 9 → c.st = .wait → c.obs = p :: r → c.acc ≠ 0 → c.hist.length < 9 →
      Completes .selSecond s (fun t => (t.cand k).hist = (p.1 - p.2, p.2) :: c.hist)) ∧
    (s.atSec = true → s.qualifies k = true → Completes (.candidateQualify k) s (fun t =>
      (t.cand k).st = .qual ∧ (t.cand k).qualAt = s.gau.l)) ∧
    (∀ h, (s.cand 30).hostAt = some h → s.atSec = true → h < s.gau.l → (s.cand 30).st ≠ .off → (s.cand 30).st ≠ .qual →
      Completes .hostsetQualify s (fun t => (t.cand 30).st = .qual)) ∧
    (s.runs ts = true → s.deaf slot = false → s.isTime slot = true →
      (slot.val = 9 → s.latchKnown ln.toNat = true) →
      Completes (.post ts slot delta u bc meas ln) s (fun t => (t.cand slot).post =
        some ⟨delta.toInt, u.toNat, bc.toNat, ((meas.toNat * 2 ^ 32 : Nat) : Int), ln.toNat⟩)) ∧
    (s.runs ts = true → s.deaf slot = false → (s.cand slot).st = .wait ∨ (s.cand slot).st = .qual →
      Completes (.disq ts slot) s (fun t => (t.cand slot).st = .wait ∧ (t.cand slot).cause = 6)) ∧
    (∀ p, c.post = some p → (s.fl .SEL_SPAN 31 16 * 1000000 * 2 ^ 32 : Nat) < (s.g32 : Int) - p.meas →
      exec (.postLifetimeExpiry k) s = .next s ∧ s.published k = false) ∧
    (s.atSec = true → s.fresh 0x21 = true → s.gau.st = .locked → Completes .hldSecond s (fun t =>
      t.hld.sum = 0 ∧ t.hld.whole = true ∧ t.hld.favg = t.frozen ∧
      t.hld.hist = if s.hld.whole then ((Int.tdiv s.hld.sum (10 ^ 9), s.hld.phNow) :: s.hld.hist).take 1024 else s.hld.hist)) ∧
    (s.gau.running = true → Completes .atomPpsEdge s (fun t => t.hld.atomPh = ph ∧ t.hld.atomAt = some s.gau.l)) ∧
    (s.atomV = false → Completes .atomPpsTimeout s (fun t => t.hld.atomAt = none))

/-- R79 to R81, R35: a transaction whose alignment time has passed asks for its record: the commit joins the write gate, or while Warden
is down the transaction ends; it ends too 10 ms after it asked. The release of its record selects the target and publishes its offset,
or ends the transaction where the target has lost its eligibility or its post; and the release of a change of the frequency selection
makes it. The gate holds the change in front, and nothing else waits for the gate. -/
def Obligations.SelectionTransactionsComplete : Prop :=
  ∀ (x : Txn) (e : GateEntry) (rest : List GateEntry) (k : Nat) (s : State), s.hst.reads = [] → s.sbd.wr = none →
    let p := (s.cand x.target).post.getD ⟨0, 0, 0, 0, 0⟩
    let ended (code : Nat) (t : State) : Prop := t.sel.txn = none ∧ t.sel.swCode = code ∧ t.sel.sel = s.sel.sel
    let asks := s.sel.txn = some x ∧ x.req = none ∧ x.at_ + x.align * 1000000000 ≤ s.gau.l
    let comes := s.log.gate = e :: rest ∧ s.releasable e = true
    let commits := comes ∧ s.sel.txn = some x ∧ e.ch = .commit x.num x.target
    (asks → s.warden.down = false → Completes .commitRequest s (fun t =>
      t.sel = { s.sel with txn := some { x with req := some s.gau.l } } ∧
      t.log.gate = s.log.gate ++ [s.entry (.commit x.num x.target) .hardware])) ∧
    (asks → s.warden.down = true → Completes .commitRequest s (ended 6)) ∧
    (∀ q, s.sel.txn = some x → x.req = some q → q + 10000000 ≤ s.gau.l → Completes .commitAuditTimeout s (ended 6)) ∧
    (commits → s.eligT x.target = true → s.winnerT = some x.target → s.postReady x = true → Completes .switchCommit s (fun t =>
      t.sel.sel = some x.target ∧ t.sel.swDelta = p.delta ∧ t.sel.swUnc = p.u ∧ t.sel.swBnd = p.bc)) ∧
    (commits → s.eligT x.target = false → Completes .switchCommit s (ended 4)) ∧
    (commits → s.eligT x.target = true → s.winnerT = some x.target → s.postReady x = false → Completes .switchCommit s (ended 5)) ∧
    (comes → e.ch = .fsel k → s.winnerF = some k → Completes .fselChange s (fun t => t.sel.fsel = some k))


/-! ### Outputs, interval measurement and calibration -/

/-- R94, R97, R99 to R106: the instants of the outputs complete: the snap of group C, the edges of a pulse with the messages it calls for,
a time-of-day message, a realignment, and the end of a squelch. -/
def Obligations.OutputEventsComplete : Prop :=
  ∀ (j : Fin 4) (w : Fin 2) (i : Fin 20) (at_ : Nat) (m : TodMsg) (r : List TodMsg) (s : State),
    let o := s.outU (12 + j.val)
    let tod := 16 + w.val
    let q := s.outU tod
    let clk := 18 + w.val
    (s.out.snap = some at_ → s.atSec = true → at_ + 2000 ≤ s.gau.l → Completes .grpcSnap s (fun t =>
      t.out.oc = 0 ∧ t.out.snap = none ∧ t.out.ob = s.out.ob)) ∧
    (s.ppsHere j = true → o.sq = false → o.until_ = none → Completes (.ppsPulse j) s (fun t =>
      t.sent.head? = some (.pps j) ∧ (t.outU (12 + j.val)).active = true ∧
      (t.outU (12 + j.val)).until_ = some (s.gau.l + s.inForce .OUT_P2 (12 + j.val)) ∧ t.ppsHere j = false ∧
      (s.on .OUT_CFG 31 tod = true → s.fl .OUT_CFG 16 15 tod = j.val → (t.outU tod).todDue = q.todDue ++ [s.todFor tod j]))) ∧
    (s.ppsHere j = false → o.until_ = some at_ → at_ ≤ s.gau.l → Completes (.ppsPulse j) s (fun t =>
      (t.outU (12 + j.val)).until_ = none ∧ (t.outU (12 + j.val)).active = false)) ∧
    (q.todDue = m :: r → q.txAt = none → m.due ≤ s.gau.l → s.squelchFull tod = false → Completes (.todMessage w) s (fun t =>
      .tod w (s.todBytes tod m) ∈ t.sent ∧ (t.outU tod).todDue = r ∧ (t.outU tod).sq = false ∧
      (t.outU tod).txAt = some s.gau.l ∧ (t.outU tod).todSeq = (q.todSeq + 1) % 65536)) ∧
    (q.todDue = m :: r → q.txAt = none → m.due ≤ s.gau.l → s.squelchFull tod = true → Completes (.todMessage w) s (fun t =>
      t.sent = s.sent ∧ (t.outU tod).todDue = r ∧ (t.outU tod).todSeq = q.todSeq)) ∧
    ((s.outU clk).realign = some at_ → s.tcEdge 1000000000 = true → at_ + 2000 ≤ s.gau.l → Completes (.wclkRealign w) s (fun t =>
      (t.outU clk).realign = none ∧ (t.outU clk).frame = s.realigned clk)) ∧
    (12 ≤ i.val ∧ i.val < 18 → s.squelchFull i = false → s.beginsHere i = true →
      Completes (.squelchRelease i) s (fun t => (t.outU i).sq = false)) ∧
    (∀ n, i.val < 12 ∨ 18 ≤ i.val → s.gau.running = true → s.squelchFull i = false → (s.outU i).half = none →
      (s.frameMode i = true → (s.outU i).frame ≠ 0) → s.clockBegins i = some n →
      Completes (.squelchRelease i) s (fun t => (t.outU i).sq = false))

/-- R107, R108, R110 to R114, R120: an edge of a crossbar source that one channel takes completes: a stamp in STAMP mode reaches the port
of cluster 0 as a record, the first edge of a pair is kept, its partner or the timeout closes it and the channel arms again; the
loopback channel goes on to its next output. -/
def Obligations.MeasurementEventsComplete : Prop :=
  ∀ (c : Fin 24) (src : Fin 64) (fall : Bool) (codes : Vector (Fin 640) 48) (s : State),
    let x := s.tdcCh c
    let n := s.fl .CLU_TDC_MAP (4 * (c.val % 8) + 3) (4 * (c.val % 8)) (c.val / 8)
    let code (k : Nat) : Nat := (codes.toList.getD k 0).val
    let ip := 2 * c.val + x.turnB.toNat
    let m : Msg := ⟨0x20, c, recordWords 1 c src (s.stampNow (code ip) x.turnB ip) none false x.lostP⟩
    let div := s.fl .TDC_DIV 23 0 c
    let only (stop : Bool) := s.flt.halt = false ∧ src.val < 49 ∧ (fall = false → edgeCand src = none) ∧ s.isLbk c = false ∧
      s.on .TDC_CFG 31 c = true ∧ s.feeds c stop src fall = true ∧ s.feeds c (!stop) src fall = false ∧
      ∀ d : Fin 24, d ≠ c → s.feeds d false src fall = false ∧ s.feeds d true src fall = false
    let pairs (stop : Bool) := only stop ∧ s.on .TDC_CFG 30 c = true ∧ inDead (x.seen stop) s.gau.l (code (2 * c.val + stop.toNat)) = false ∧
      x.rearm = none
    (only false → s.on .TDC_CFG 30 c = false → x.nStart + 1 < div → Completes (.tdcEdge src fall codes) s (fun t =>
      (t.tdcCh c).nStart = x.nStart + 1 ∧ t.sent = s.sent)) ∧
    (only false → s.on .TDC_CFG 30 c = false → div ≤ x.nStart + 1 → inDead (x.seen x.turnB) s.gau.l (code ip) = false →
      s.fl .TDC_CFG 27 26 c = 0 → x.fifo = [] → x.drainAt ≤ s.gau.l → s.listens n = true → s.room n 2 m = true →
      Completes (.tdcEdge src fall codes) s (fun t =>
        (t.tdcCh c).nStart = 0 ∧ (t.tdcCh c).turnB = !x.turnB ∧ (t.tdcCh c).fifo = [] ∧
        (t.sq n).inbox.get 2 [] = (s.sq n).inbox.get 2 [] ++ [m])) ∧
    (pairs false → x.start = none → x.stop = none → div ≤ x.nStart + 1 → Completes (.tdcEdge src fall codes) s (fun t =>
      (t.tdcCh c).start = some (s.stampNow (code (2 * c.val)) false (2 * c.val)) ∧ (t.tdcCh c).stop = none)) ∧
    (pairs true → x.start = none → x.stop = none → div ≤ x.nStop + 1 → Completes (.tdcEdge src fall codes) s (fun t =>
      (t.tdcCh c).stop = some (s.stampNow (code (2 * c.val + 1)) true (2 * c.val + 1)) ∧ (t.tdcCh c).start = none)) ∧
    (∀ b, pairs false → x.start = none → x.stop = some b → div ≤ x.nStart + 1 → Completes (.tdcEdge src fall codes) s (fun t =>
      (t.tdcCh c).start = none ∧ (t.tdcCh c).stop = none ∧ (t.tdcCh c).rearm = some (max s.gau.l b.l + 1))) ∧
    (s.tdcLate c = true → Completes (.tdcTimeout c) s (fun t =>
      (t.tdcCh c).start = none ∧ (t.tdcCh c).stop = none ∧ (t.tdcCh c).rearm = some s.gau.l)) ∧
    (s.visitOver = true → s.flt.halt = false → Completes .tensionVisitEnd s (fun t =>
      if s.on .TDC_CTL 1 then t.tdc.visit = (s.nextVisit s.visiting).map (fun b => (b, 0, s.gau.l)) else t.tdc.visit = none))

/-- R115 to R118, R121: the background calibration completes: an injection whose window a live edge shares is cancelled, one within 40 ns
of the one before is not made, and any other is a hit of its code; an expired pass begins anew, and a ready table becomes the active
one with the next generation. -/
def Obligations.CalibrationEventsComplete : Prop :=
  ∀ (u : CalUnit) (code : Fin 640) (at_ : Nat) (s : State),
    let x := s.calU (calIdx u)
    let may := s.flt.halt = false ∧ x.injAt.all (fun t => decide (t + 40 ≤ s.gau.l)) = true
    (may → s.collides (calIdx u) = true → Completes (.calInjection u code ()) s (fun t =>
      bits (t.hwOf .TDC_CAL_CANCEL) 31 0 = min (2 ^ 32 - 1) (bits (s.hwOf .TDC_CAL_CANCEL) 31 0 + 1) ∧ t.tdc = s.tdc)) ∧
    (x.injAt = some at_ → s.gau.l < at_ + 40 → exec (.calInjection u code ()) s = .next s) ∧
    (may → s.collides (calIdx u) = false → s.calFrozen u = false → x.ready = none → x.hits + 1 < 2 ^ 20 →
      Completes (.calInjection u code ()) s (fun t => (t.calU (calIdx u)).hits = x.hits + 1 ∧
        (t.calU (calIdx u)).pass.get code 0 = x.pass.get code 0 + 1 ∧ (t.calU (calIdx u)).injAt = some s.gau.l)) ∧
    (x.ready = none → x.passAt + s.fl .TDC_CAL 15 0 * 1000000000 ≤ s.gau.l → Completes (.calPassExpiry u) s (fun t =>
      (t.calU (calIdx u)).pass = [] ∧ (t.calU (calIdx u)).hits = 0 ∧ (t.calU (calIdx u)).passAt = s.gau.l ∧
      (t.calU (calIdx u)).tab = x.tab)) ∧
    (s.swapDue u = true → Completes (.tableSwap u) s (fun t =>
      (t.calU (calIdx u)).gen = (if x.gen = 65535 then 1 else x.gen + 1) ∧ (t.calU (calIdx u)).tab = x.ready ∧
      (t.calU (calIdx u)).prev = some (x.gen, x.tab) ∧ (t.calU (calIdx u)).ready = none ∧
      (t.calU (calIdx u)).swapAt = some s.gau.l))


/-! ### The satellite navigation baseband -/

/-- R123, R125, R129 to R132, R140: the front-end ports, the tracking channels and the indicators complete: a lost clock is declared and its
channels are LOST, the samples of a second are counted and tested, a transaction ends with the bytes it received, a channel is armed,
tracks, stops, takes new words, and ends its dump period with the record of its correlators. -/
def Obligations.BasebandTrackingCompletes : Prop :=
  ∀ (f : Fin 4) (n : Fin 16) (c : Fin 192) (cw rw : Word) (ph : BitVec 48) (scnt rx : DWord) (b : Byte) (k : Fin 4) (at_ : Nat)
    (s : State),
    let y := s.fe f
    let x := s.chan c
    let sev := s.fl .FLT_SRC_CFG 2 0 17
    let second := s.feOn f = true ∧ s.atSec = true ∧ s.fresh (0x1F0 + f.val) = true
    let cnt (p : Nat) : Int := ((y.scnt + 2 ^ 64 - p) % 2 ^ 64 : Nat)
    let fs : Int := s.inForce .FE_FS f
    let len := s.fl .GNS_SPI_CTL 19 16
    let ts := s.fl .CH_CFG 3 0 c
    let ind := bits (s.hwOf .GNS_IND_STAT) 15 8
    let shows (v : Nat) (t : State) : Prop :=
      let on := decide ((v * 2 ^ 8 + s.indHw) &&& s.inForce .GNS_IND_EN ≠ 0)
      (t.cand 9).ind = on ∧ ((s.cand 9).ind = on → bits (t.hwOf .GNS_IND_STAT) 15 8 = v)
    (s.feOn f = true → s.clockGone f = true → sev ≠ 2 → Completes (.feClockLost f) s (fun t =>
      (t.fe f).st = 2 ∧ (t.fe f).gone = true ∧
      ∀ d : Fin 192, s.chFe d = f.val → (s.chan d).st ≠ .stopped → (t.chan d).st = .lost)) ∧
    (second → y.secAt = none → Completes (.feSecond f () ()) s (fun t =>
      (t.fe f).secAt = some y.scnt ∧ (t.fe f).st = y.st ∧ (t.fe f).pow = (Config.fePower y.psum y.pcnt).toNat ∧
      (t.fe f).psum = 0 ∧ (t.fe f).pcnt = 0)) ∧
    (∀ p, second → y.secAt = some p → (cnt p - fs).natAbs * 10000 ≤ fs → Completes (.feSecond f () ()) s (fun t =>
      (t.fe f).secAt = some y.scnt ∧ (t.fe f).st = 1)) ∧
    (∀ p, second → y.secAt = some p → fs < (cnt p - fs).natAbs * 10000 → sev ≠ 2 → Completes (.feSecond f () ()) s (fun t =>
      (t.fe f).secAt = some y.scnt ∧ (t.fe f).st = 3)) ∧
    (s.gnb.spiBusy = true → s.gnb.spiEnd ≤ s.gau.l → len ≤ 8 → Completes (.spiDone rx) s (fun t => t.gnb.spiBusy = false ∧
      t.hwOf .GNS_SPI_RX / 2 ^ (64 - 8 * len) = rx.toNat / 2 ^ (64 - 8 * len) ∧ bits (t.hwOf .GNS_SPI_CTL) 30 30 = 1)) ∧
    (s.runs n = true → x.st ≠ .armed → x.st ≠ .tracking → s.on .GNS_CTL 31 = true → s.flt.halt = false → s.judgeChan c scnt.toNat = .none →
      Completes (.start n c cw rw ph scnt) s (fun t => (t.chan c).st = .armed ∧ (t.chan c).cw = cw.toNat ∧
        (t.chan c).rw = rw.toNat ∧ (t.chan c).ph0 = ph.toNat ∧ (t.chan c).at_ = scnt.toNat)) ∧
    (s.runs n = true → Completes (.stop n c) s (fun t => (t.chan c).st = .stopped)) ∧
    (s.trackDue c = true → Completes (.channelTrack c) s (fun t =>
      t.chan c = { x with st := .tracking, epoch := 0, acc := [], sat := false })) ∧
    (s.runs n = true → ts = n.val → x.st = .tracking ∨ x.st = .armed → Completes (.update n c cw rw) s (fun t =>
      t.chan c = { x with pend := some (cw.toNat, rw.toNat) })) ∧
    (s.runs n = true → ts ≠ n.val → Completes (.update n c cw rw) s (fun t => t.gnb = s.gnb ∧
      bits (t.hwOf .CH_STAT c) 15 8 = min 255 (bits (s.hwOf .CH_STAT c) 15 8 + 1))) ∧
    (s.dumpDue c = true → x.st = .tracking → Completes (.dumpBoundary c () () ()) s (fun t =>
      (t.chan c).dcnt = x.dcnt + 1 ∧ (t.chan c).pend = none ∧ (t.chan c).upd = x.pend.isSome ∧ (t.chan c).acc = [] ∧
      (∀ p, x.pend = some p → (t.chan c).cw = p.1 ∧ (t.chan c).rw = p.2) ∧
      (s.listens ts = true → (s.sq ts).inbox.get 3 [] = [] →
        (t.sq ts).inbox.get 3 [] = [⟨0x38, c, s.dumpWords c (s.chScnt c) (corrWords x.acc) x.sat⟩]))) ∧
    (s.dumpDue c = true → x.st = .coast → Completes (.dumpBoundary c () () ()) s (fun t =>
      (t.chan c).dcnt = x.dcnt ∧ (t.chan c).acc = [] ∧ t.seqs = s.seqs)) ∧
    (s.runs n = true → Completes (.setind n b) s (shows (ind ||| b.toNat))) ∧
    (s.runs n = true → Completes (.clrind n b) s (shows (ind &&& (255 - b.toNat)))) ∧
    (s.gnb.ind.get k (false, 0) = (true, at_) → s.atSec = true → at_ < s.gau.l →
      at_ + s.fl .GNS_IND_CTL 15 0 * 1000000000 ≤ s.gau.l →
      Completes (.indicatorClear k) s (fun t => t.gnb.ind.get k (false, 0) = (false, 0)))

/-- R133 to R139, R372: a job of the acquisition engine ends with the report of its cells, or in ERROR where its samples come back
poisoned; the measurement latch takes its number and its edge; and a swatch begins at its instant and ends full or in overflow. -/
def Obligations.BasebandCapturesComplete : Prop :=
  ∀ (j : Nat) (q : List Nat) (a : AcqRun) (b : AcqCell) (second sum num : Nat) (s : State),
    let ln := if s.gnb.first then 0 else (s.gnb.ln + 1) % 2 ^ 32
    let rd := s.memRead 4 (if s.on .ACQ_CFG 28 j then s.inForce .ACQ_SWADDR j else s.inForce .ACQ_STAGE) (s.jobNeed j)
    let len := (gnssSignal (s.jobSig j)).chips * 2 ^ 32
    let ready := s.gnb.acqQ = j :: q ∧ s.gnb.acqRun = some a ∧ j < 16 ∧ j ∉ q ∧ (∃ t, s.acqReady = some t ∧ t ≤ s.gau.l)
    (ready → rd.2.1 = false → s.on .ACQ_CFG 29 j = false → acqReport len (s.acqCells j rd.1) none = some (b, second, sum, num) →
      Completes (.acqJobDone ()) s (fun t => t.gnb.acqQ = q ∧ t.gnb.acq.get j 0 = 3 ∧
        bits (t.hwOf .ACQ_RES_CODE j) 31 0 = b.code % 2 ^ 32 ∧ bits (t.hwOf .ACQ_RES_PEAK j) 31 0 = b.pw % 2 ^ 32)) ∧
    (ready → rd.2.1 = true → Completes (.acqJobDone ()) s (fun t => t.gnb.acqQ = q ∧ t.gnb.acq.get j 0 = 5)) ∧
    (s.latchDue = true → s.fresh 0x100 = true → Completes (.measurementLatch ()) s (fun t =>
      t.gnb.ln = ln ∧ t.gnb.first = false ∧ t.gnb.latches.head? = some (ln, s.g32, s.gau.l) ∧ t.gnb.taken = s.taking)) ∧
    (s.gnb.swSt = 1 → s.due40 s.gnb.sw.at_ = true → Completes (.swatchStart ()) s (fun t =>
      t.gnb.swSt = 2 ∧ t.gnb.sw.head = s.edgeHead false ∧ t.gnb.sw.ports = [])) ∧
    (s.gnb.swSt = 2 → s.gnb.sw.stuck = true → Completes (.swatchEnd () ()) s (fun t => t.gnb.swSt = 5 ∧ t.gnb.swKib = s.swWritten)) ∧
    (s.gnb.swSt = 2 → s.gnb.sw.stuck = false → s.swFull = true → Completes (.swatchEnd () ()) s (fun t =>
      t.gnb.swSt = 3 ∧ t.gnb.swKib = s.swWritten))


/-! ### Sequencers and image loads -/

/-- R154, R155, R163, R164, R168: the events of the sequencers complete: the end of a wait whose instant is due (behind the WAITT,
with T = 1), a start at ENTRY, a missed watchdog, a TIMER message at its instant, and
the end of an image load. -/
def Obligations.SequencerEventsComplete : Prop :=
  ∀ (n : Fin 160) (k : Fin 10) (i : Fin 16) (e : Ev) (at_ mask : Nat) (s : State),
    let c := s.clu k
    let r := s.readImage (s.inForce .CLU_LOAD_ADDR k)
    let img := r.1
    let u := r.2
    let code := u.imageCheck k c.mask img (Config.sigOk (sub img 64 64) (sub img 32 32) (sub img 128 64)) u.fuses.hash
      u.fuses.ownerLock fun j => u.fuses.rollback.get j 0
    let kind := s.fl .SEQ_WD 31 30 n
    ((s.sq n).st = .waiting → (s.sq n).wait = some (at_, mask) → s.due40 at_ = true → Completes (.timeWaitDue n) s (fun t =>
      (t.sq n).st = .running ∧ (t.sq n).t = true ∧ (t.sq n).wait = none ∧ (t.sq n).pc = ((s.sq n).pc + 4) % 2 ^ 14)) ∧
    (s.startDue n = true → Completes (.seqStart n) s (fun t => (t.sq n).st = .running ∧ (t.sq n).pc = s.fl .SEQ_CTL 15 0 n)) ∧
    (s.wdMissed n = true → Completes (.watchdogExpiry n) s (fun t =>
      (s.fl .FLT_SRC_CFG 2 0 12 < 2 → (t.sq n).st = (s.sq n).st ∧
        (kind = 1 → (t.sq n).missed = true) ∧ (kind = 2 → (t.sq n).kick = s.gau.l)) ∧
      (s.fl .FLT_SRC_CFG 2 0 12 = 2 → n.val < 16 → (t.sq n).st = .fenced ∧ (t.sq n).inbox = []))) ∧
    (s.firstDue c.evs = some e → e.port = 15 → e.n < 160 → s.listens e.n = true → Completes (.schedEventDue k) s (fun t =>
      (t.clu k).evs = c.evs.erase e ∧
      (t.sq e.n).inbox.get 15 [] = (s.sq e.n).inbox.get 15 [] ++ [⟨0x0F, e.code, wordsOf 2 e.t⟩])) ∧
    (c.load = 1 → s.warden.up = false → Completes (.imageLoadDone k) s (fun t =>
      (t.clu k).load = 3 ∧ (t.clu k).loadCode = 7)) ∧
    (c.load = 1 → s.warden.up = true → s.log.gate = [] → s.log.held = false → u.logRoom 2 = true →
      Completes (.imageLoadDone k) s (fun t =>
        (t.clu k).load = (if code = 0 then 2 else 3) ∧ (t.clu k).loadCode = code ∧
        (code = 0 → bitOn c.mask i = true → (t.sq (16 * k.val + i.val)).pMem = memPut [] 0 (sub img 256 (leNat (sub img 8 4))) ∧
          (t.sq (16 * k.val + i.val)).img = sub img 32 32)))


/-! ### The Ethernet ports -/

/-- R194 to R197, R199, R200: the link and the receive side of a port complete: the link changes, a frame is stored or counted, an XOFF in
force is sent again, or dropped with its class; a pause frame is taken, and a pause ends. -/
def Obligations.EthernetReceiveCompletes : Prop :=
  ∀ (p c : Fin 8) (bytes : List Byte) (code : Fin 640) (fcsOk : Bool) (vec : Byte) (quanta : Half) (qs : Vector Half 8) (k : Fin 9) (s : State),
    let x := s.ep p
    let u := s.boundary (.frame p)
    let q := u.queueOf p (parseFrame bytes) ((parseFrame bytes).dport bytes)
    let live := x.link = true ∧ s.portOn p = true
    let size := units bytes.length
    let total := x.occ (fun _ => true)
    let high := s.inForce .ETH_LOWM p < (if k.val = 8 then total else max (s.prioOcc p k) total)
    let due := x.xoff.get k 0 - 2 + s.bitsNs p (s.fl .ETH_PAUSE 15 0 p * 256) ≤ s.gau.l
    Completes (.linkDown p) s (fun t => (t.ep p).link = false) ∧
    (s.portOn p = true → Completes (.linkUp p) s (fun t => (t.ep p).link = true)) ∧
    (live → Completes (.frameReceive p bytes false code) s (fun t => t.eth = s.eth ∧
      bits (t.hwOf .ETH_DROP p) 31 16 = min 65535 (bits (s.hwOf .ETH_DROP p) 31 16 + 1))) ∧
    (live → pauseIn bytes = none → bytes.length ≤ s.fl .ETH_CFG 13 0 p → u.fl .ETH_RXQ_CFG 31 30 p q ≠ 0 →
      (u.fl .ETH_RXQ_CFG 31 30 p q = 1 → u.fl .DMA_CFG 30 28 (u.fl .ETH_RXQ_CFG 19 16 p q) = 2) → u.on .ETH_RXQ_CFG 26 p q = false →
      x.occ (fun g => decide (g.q = q)) + size ≤ u.fl .ETH_RXQ_CFG 13 0 p q → total + size ≤ 8192 →
      Completes (.frameReceive p bytes true code) s (fun t => ∃ f, (t.ep p).rx = x.rx ++ [f] ∧ f.q = q ∧
        f.dest = u.fl .ETH_RXQ_CFG 31 30 p q ∧ f.bytes = bytes ∧ f.spilled = false)) ∧
    (k.val ∉ s.pauseClasses p → Completes (.pauseRepeat p) s (fun t => (t.ep p).xoff.get k 0 = 0)) ∧
    (live → k.val ∈ s.pauseClasses p → 2 ≤ x.xoff.get k 0 → high → Completes (.pauseRepeat p) s (fun t =>
      (due → (t.ep p).xoff.get k 0 = 1 ∧ tsvFrame 7 (.pause k (s.fl .ETH_PAUSE 15 0 p) true) 60 ∈ (t.ep p).ctl) ∧
      (¬ due → (t.ep p).xoff.get k 0 = x.xoff.get k 0))) ∧
    (live → s.on .ETH_PAUSE 31 p = true → bitOn vec.toNat c = true → s.on .ETH_PAUSE (16 + c.val) p = true →
      Completes (.pauseReceive p true vec qs true) s (fun t =>
        (t.ep p).pause.get c 0 = s.gau.l + s.bitsNs p (qs[c].toNat * 512))) ∧
    (live → s.on .ETH_PAUSE 31 p = true → (bitOn vec.toNat c && s.on .ETH_PAUSE (16 + c.val) p) = false →
      Completes (.pauseReceive p true vec qs true) s (fun t => (t.ep p).pause.get c 0 = x.pause.get c 0)) ∧
    (live → s.on .ETH_PAUSE 31 p = true → Completes (.pauseReceive p false vec (qs.set 0 quanta) true) s (fun t =>
      (t.ep p).pause.get c 0 = s.gau.l + s.bitsNs p (quanta.toNat * 512))) ∧
    (live → fcsOk = false ∨ s.on .ETH_PAUSE 31 p = false → Completes (.pauseReceive p false vec (qs.set 0 quanta) fcsOk) s (fun t => t.eth = s.eth)) ∧
    (s.paused p c = false → Completes (.pauseExpiry p c) s (fun t => (t.ep p).pause.get c 0 = 0))

/-- R198, R199, R202 to R207, R211, R215: the transmit side of a port complete: a frame and a pause frame of the port's own are launched, a
frame ends and its stamp is stored, a cycle and a slot of the Row table start and the tables are exchanged, preemption is verified, and the
marker goes out. -/
def Obligations.EthernetTransmitCompletes : Prop :=
  ∀ (p : Fin 8) (responded : Bool) (f : TxFrame) (v : StampV) (rest : List TxFrame) (more : List (TxFrame × StampV)) (cur : TxCur)
      (c quanta m : Nat) (l : List Byte) (s : State),
    let x := s.ep p
    let live := x.link = true ∧ s.portOn p = true
    let cycle := s.on .ETH_ROW_CTL 31 p = true ∧ s.cycleAt p x.act.1 x.act.2.1 = true
    let waited := x.verifyAt + s.fl .ETH_PREEMPT 7 0 p * 1000000 ≤ s.gau.l
    (live → x.ctl = [] → x.cur = none → x.held = none → s.ready p = f :: rest → f.pay = .raw l → f.oneStep = false →
      Completes (.launchDecision p) s (fun t => t.sent = .frame p f 0 :: s.sent ∧ (t.ep p).txq = x.txq.erase f ∧
        (t.ep p).cur = some ⟨f, s.lineNs, 0, s.lineNs + s.bitsNs p ((8 + f.len) * 8), !s.express p f.tc, false, none, none⟩ ∧
        (t.ep p).stamps = x.stamps)) ∧
    (live → x.ctl = f :: rest → x.cur = none → f.pay = .pause c quanta true → c ∈ s.pauseClasses p →
      Completes (.launchDecision p) s (fun t => t.sent = .pause p [(c, quanta)] :: s.sent ∧ (t.ep p).ctl = rest ∧
        (x.xoffOn c = true → (t.ep p).xoff.get c 0 = s.gau.l + 2))) ∧
    (x.ctl = [] → x.txq = [] → x.held = none → x.cur = some cur → cur.stamp = some v → cur.stop ≤ s.lineNs →
      Completes (.launchDecision p) s (fun t => (t.ep p).cur = none ∧ t.sent = s.sent ∧ (t.ep p).fup = x.fup ++ cur.fup.toList ∧
        (t.ep p).stamps = if cur.f.tsReq = true ∧ cur.f.oneStep = false then x.stamps ++ [(cur.f, v)] else x.stamps)) ∧
    (x.stamps = (f, v) :: more → f.pay = .raw l → x.txts.length < 1024 → Completes (.txStampStore p ()) s (fun t =>
      (t.ep p).stamps = more ∧ (t.ep p).lost = 0 ∧ (t.ep p).txts = x.txts ++
        [stampWords 1 p (decide (x.lost ≠ 0)) f.tc 0 x.lost (f.tag * 2 ^ 16 + f.len) v])) ∧
    (x.stamps = (f, v) :: more → f.pay = .raw l → 1024 ≤ x.txts.length → Completes (.txStampStore p ()) s (fun t =>
      (t.ep p).stamps = more ∧ (t.ep p).txts = x.txts ∧ (t.ep p).lost = x.lost + 1)) ∧
    (s.fresh (0x400 + p.val) = true → s.on .ETH_ROW_CTL 29 p = false → cycle → Completes (.rowCycleStart p) s (fun t =>
      (t.ep p).rowRun = true ∧ (t.ep p).slot = s.slotAt p ∧ (t.ep p).bank = x.bank)) ∧
    (s.fresh (0x400 + p.val) = true → s.swapDueRow p = true → s.shadowValid p = true → Completes (.rowCycleStart p) s (fun t =>
      (t.ep p).bank = !x.bank ∧
      (t.ep p).act = (s.inForce .ROWT_CYCLE p, s.inForce .ROWT_BASE p, s.inForce .ROWT_NSLOT p))) ∧
    (s.on .ETH_ROW_CTL 31 p = true → x.rowRun = true → s.slotAt p ≠ x.slot → Completes (.slotStart p) s (fun t =>
      (t.ep p).slot = s.slotAt p)) ∧
    (live → Completes (.preemptVerify p responded) s (fun t =>
      (x.verify = 1 → responded = false → (t.ep p).verify = 2 ∧ (t.ep p).tries = 1 ∧ t.sent = .verify p :: s.sent) ∧
      (x.verify = 2 → responded = true → (t.ep p).verify = 3) ∧
      (x.verify = 2 → responded = false → ¬ waited → (t.ep p).verify = 2 ∧ (t.ep p).tries = x.tries ∧ t.sent = s.sent) ∧
      (x.verify = 2 → responded = false → waited → x.tries < 3 → (t.ep p).verify = 2 ∧ (t.ep p).tries = x.tries + 1) ∧
      (x.verify = 2 → responded = false → waited → 3 ≤ x.tries → (t.ep p).verify = 4))) ∧
    (s.portOn p = true → x.cur = none → x.markAt = none ∨ x.markAt = some m ∧ m + s.fl .ETH_TEN 31 16 p * 1000000 ≤ s.gau.l →
      Completes (.ethMarker p () ()) s (fun t => (t.ep p).markAt = some s.gau.l))


/-! ### The time service -/

/-- R51, R217 to R219, R223 to R225, R230: the instants of a PTP instance complete where nothing keeps it from sending: the message is
submitted to its port with the next sequence number of its type to its destination, a grant takes its new period, and a waiting Follow_Up
becomes the next frame. -/
def Obligations.PtpInstantsComplete : Prop :=
  ∀ (p : Fin 8) (e : Fin 4096) (x : Session) (g : Grant) (up : Foreign) (f : TxFrame) (rest : List TxFrame) (s : State),
    let open_ := (s.ep p).link = true ∧ s.portOn p = true ∧ s.on .PTP_AUTH 31 p = false ∧ s.flt.relinq = false
    let next (k : PtpKind) (d : Nat) : Nat := (s.inst p).seqs.get (seqKey k d) 0
    let sends (k : PtpKind) (to_ : Option (Bool × Nat)) (d : Nat) (t : State) : Prop :=
      (∃ h m, (t.ep p).txq = (s.ep p).txq ++ [h] ∧ h.pay = .ptp m ∧ m.kind = k ∧ m.to_ = to_ ∧ m.seqId = next k d) ∧
      (t.inst p).seqs.get (seqKey k d) 0 = (next k d + 1) % 65536
    let group (k : Nat) := s.masterOn p = true ∧ s.on .PTP_CFG 24 p = true ∧
      s.atPhase (logNs (s.logOf p k)) (s.syncOfs p % logNs (s.logOf p k)) = true ∧ s.fresh (0x1000 + 16 * p.val + k) = true
    let single (key : Nat) := s.masterOn p = true ∧ s.sess e = some x ∧ x.port = p.val ∧ s.gau.l < g.until_ ∧
      s.atPhase (logNs g.log) (s.sessOfs p e g.log) = true ∧ s.fresh key = true
    let taken : Grant := { g with log := g.next.getD g.log, next := none }
    let dreq := logNs (s.logOf p 2)
    let pdreq := logNs (s.logOf p 3)
    let asks := s.ptpOn p = true ∧ s.standby = false ∧ (s.inst p).st = 3 ∧ s.profile p ≠ 3 ∧
      s.atPhase dreq ((s.syncOfs p + dreq / 2) % dreq) = true ∧ s.fresh (0x1002 + 16 * p.val) = true
    (open_ → group 0 → Completes (.syncInstant p none) s (sends .sync none 0)) ∧
    (open_ → single (0x10000 + e.val) → x.sync = some g → Completes (.syncInstant p (some e)) s (fun t =>
      sends .sync (some (x.v6, x.addr)) x.key t ∧ t.sess e = some { x with sync := some taken })) ∧
    (open_ → group 1 → Completes (.announceInstant p none) s (sends .announce none 0)) ∧
    (open_ → single (0x20000 + e.val) → x.ann = some g → Completes (.announceInstant p (some e)) s (fun t =>
      sends .announce (some (x.v6, x.addr)) x.key t ∧ t.sess e = some { x with ann := some taken })) ∧
    (open_ → asks → (∀ y, s.erbest p = some y → y.uc = false) → Completes (.delayReqInstant p) s (sends .delayReq none 0)) ∧
    (open_ → asks → s.erbest p = some up → up.uc = true → Completes (.delayReqInstant p) s
      (sends .delayReq (some up.addr) (destKey up.id up.port up.addr.1 up.addr.2))) ∧
    (open_ → s.ptpOn p = true → s.standby = false → s.profile p = 3 → s.atPhase pdreq (s.syncOfs p % pdreq) = true →
      s.fresh (0x1003 + 16 * p.val) = true → Completes (.pdelayReqInstant p) s (sends .pdelayReq none 0)) ∧
    ((s.ep p).cur = none → (s.ep p).fup = f :: rest → s.mayLaunch f.pay = true → Completes (.followUpLaunch p) s (fun t =>
      (t.ep p).fup = rest ∧ (t.ep p).txq = f :: (s.ep p).txq))

/-- R222, R226 to R228: a received PTP message completes by its kind: an Announce is kept as a foreign master, a Sync for a SLAVE
reaches the sequencer or waits for its Follow_Up, a Delay_Req and a Pdelay_Req are answered, and a message that R227 rejects is counted;
the second of the instances and the loss of a foreign master complete. -/
def Obligations.PtpReceiveCompletes : Prop :=
  ∀ (p : Fin 8) (g : RxFrame) (m : PtpIn) (clockId : DWord) (portNo : Half) (s : State),
    let x := s.inst p
    let n := s.fl .TSV_CTL 27 24
    let taken := Accepted s p .ptp g m
    let u := ((s.rxLeave p g).setInst p { x with wait := none }).syncObs p g.ev m.sec m.ns m.corr
    let one : Msg := ⟨0x40, p, syncWords m.seqId m.sec m.ns m.corr 0 g.stamp⟩
    let open_ := (s.ep p).link = true ∧ s.portOn p = true ∧ s.flt.relinq = false ∧ x.answered < 16384
    let answers (k : PtpKind) (t : State) : Prop := ∃ h q, (t.ep p).txq = (s.ep p).txq ++ [h] ∧ h.pay = .ptp q ∧ q.kind = k ∧
      q.seqId = m.seqId ∧ q.forId = m.srcId ∧ q.forPort = m.srcPort
    (Waits s p .ptp g → ptpIn g = some m → s.ptpOn p = true → m.srcId ≠ s.inForce .TSV_CLOCKID → s.ptpMatches p m = false →
      Completes (.ptpMessageReceive p ()) s (fun t => t.tsv = s.tsv ∧ (t.ep p).rx = (s.ep p).rx.erase g ∧
        bits (t.hwOf .PTP_DISC p) 31 16 = min 65535 (bits (s.hwOf .PTP_DISC p) 31 16 + 1))) ∧
    (taken → m.kind = some .announce → Completes (.ptpMessageReceive p ()) s (fun t =>
      ∃ f ∈ (t.inst p).foreign, f.id = m.srcId ∧ f.port = m.srcPort ∧ f.ds = m.dataset ∧ f.seen.head? = some s.gau.l)) ∧
    (taken → m.kind = some .sync → x.st = 3 → x.parent = some (m.srcId, m.srcPort) → m.twoStep = false →
      u.fl .TSV_CTL 27 24 = n → u.listens n = true → u.room n 4 one = true →
      Completes (.ptpMessageReceive p ()) s (fun t => (t.sq n).inbox.get 4 [] = (u.sq n).inbox.get 4 [] ++ [one])) ∧
    (taken → m.kind = some .sync → x.st = 3 → x.parent = some (m.srcId, m.srcPort) → m.twoStep = true →
      Completes (.ptpMessageReceive p ()) s (fun t => (t.inst p).wait = some ⟨m.srcId, m.srcPort, m.seqId, m.corr, g.ev, g.stamp⟩)) ∧
    (taken → open_ → m.kind = some .delayReq → s.masterOn p = true → s.profile p ≠ 3 → m.uc = false → s.on .PTP_CFG 24 p = true →
      Completes (.ptpMessageReceive p ()) s (answers .delayResp)) ∧
    (taken → open_ → m.kind = some .pdelayReq → s.profile p = 3 → Completes (.ptpMessageReceive p ()) s (answers .pdelayResp)) ∧
    (s.atSec = true → s.fresh 0x25 = true → s.tsvOn = true → Completes .ptpSecond s (fun t =>
      (t.inst p).answered = 0 ∧ (s.gau.st = .locked → t.tsv.lock = s.gns))) ∧
    Completes (.foreignMasterTimeout p clockId portNo) s (fun t => ∀ f, f ∈ (t.inst p).foreign ↔
      f ∈ x.foreign ∧ ¬ (f.id = clockId.toNat ∧ f.port = portNo.toNat ∧ f.seen.headD 0 + 3 * f.per ≤ s.gau.l))

/-- R229 to R231, R235 to R240: unicast negotiation, the grants, NTP, NTS, minting and the rotation of the master keys complete. -/
def Obligations.TimeServiceRequestsComplete : Prop :=
  ∀ (p : Fin 8) (e : Fin 4096) (u : Fin 4) (k : GrantKind) (g : Grant) (f : RxFrame) (m : PtpIn) (t tail r : List Byte) (x : Session)
    (q : NtsIn) (plain : List Byte) (slot at_ : Nat) (cg : ClientGrant) (s : State),
    let live := (s.ep p).link = true ∧ s.portOn p = true ∧ s.flt.relinq = false
    let asks (held : Bool) (t : State) : Prop := t.clientOf p u k = some ⟨u, k, held, false, s.gau.l, s.fl .TSV_UC_DUR 15 0⟩
    let uc := s.on .PTP_CFG 23 p = true ∧ s.masterOn p = true ∧ m.kind = some .signaling ∧ grantOf (fb t 0) = some k
    let entry := s.findSess p m.srcId m.srcPort m.v6 m.addr
    let answers (uid : List Byte) (t : State) : Prop := ∃ h o, (t.ep p).txq = (s.ep p).txq ++ [h] ∧ h.pay = .ntp o ∧ o.uid = uid ∧
      o.version = fb r 0 / 8 % 8 ∧ o.origin = fn r 40 8
    let count (n : RegName) (t : State) : Prop := bits (t.hwOf n) 31 0 = min (2 ^ 32 - 1) (bits (s.hwOf n) 31 0 + 1)
    let ntp := Waits s p .ntp f ∧ ntpIn f = some r ∧ s.ntpOn = true ∧ s.tsv.ntpAt ≤ 6 * s.gau.l
    let nts := Waits s p .nts f ∧ ntpIn f = some r ∧ s.ntpOn = true ∧ s.tsv.ntsAt ≤ 6 * s.gau.l ∧ 0 < s.ntsLanes ∧
      s.ntpTakes r = true ∧ s.on .TSV_NTP_CTL 30 = true ∧ ntsIn r = some q
    let poisoned := (s.memRead 5 (s.inForce .TSV_MINT_REQ_BASE + 128 * (s.tsv.reqCons % s.mintLen)) 128).2.1
    (Accepted s p .request f m → uc → m.tlvs = [(4, t)] → s.minLog k ≤ sext 8 (fb t 1) → entry = none →
      s.freeSess = some e.val → Completes (.unicastRequest p ()) s (fun v => ∃ y, v.sess e = some y ∧ y.port = p.val ∧
        y.id = m.srcId ∧ y.grant k = some ⟨fb t 1, none, s.gau.l + min (fn t 2 4) (s.fl .TSV_UC_DUR 15 0) * 10 ^ 9⟩)) ∧
    (Accepted s p .cancel f m → uc → m.tlvs = [(6, t)] → s.sess e = some x → entry = some e.val →
      Completes (.unicastCancel p ()) s (fun v => ∀ y, v.sess e = some y → y.grant k = none)) ∧
    (s.sess e = some x → x.grant k = some g → g.until_ ≤ s.gau.l → Completes (.grantExpiry e k) s (fun v =>
      ∀ y, v.sess e = some y → y.grant k = none)) ∧
    (s.mayAsk p u k = true → s.clientOf p u k = none → Completes (.unicastRenew p u k) s (asks false)) ∧
    (s.mayAsk p u k = true → s.clientOf p u k = some cg → cg.held = true → cg.at_ + cg.dur * 500000000 ≤ s.gau.l →
      Completes (.unicastRenew p u k) s (asks true)) ∧
    (s.mayAsk p u k = true → s.clientOf p u k = some cg → cg.denied = true → cg.at_ + logNs (s.logOf p 1) ≤ s.gau.l →
      Completes (.unicastRetry p u k) s (asks false)) ∧
    (ntp → live → s.ntpTakes r = true → s.on .TSV_NTP_CTL 29 = true → Completes (.ntpRequest p ()) s (fun v =>
      count .TSV_NTP_RESP v ∧ answers [] v)) ∧
    (ntp → s.flt.relinq = false → s.ntpTakes r = false → Completes (.ntpRequest p ()) s (fun v =>
      count .TSV_NTP_DISC v ∧ (v.ep p).txq = (s.ep p).txq)) ∧
    (nts → live → q.cookie.length ≠ 104 → Completes (.ntsRequest p ()) s (fun v => count .TSV_NTP_NAK v ∧ answers q.uid v)) ∧
    (nts → live → q.cookie.length = 104 → s.tsv.cur = some slot → fb q.cookie 0 = slot →
      beNat (sub q.cookie 1 3) = (s.kslot slot).gen →
      (s.key.lanes.any fun l => l.1 == s.ntsLane && l.2 == (slot, (s.kslot slot).gen)) = true →
      Config.sivOpen (s.kslot slot).cur.key (sub q.cookie 4 16) (q.cookie.take 4) (q.cookie.drop 20) = some plain →
      beNat (plain.take 2) = 15 →
      Config.sivOpen (sub plain 4 32) (sub q.auth 4 (fh q.auth 0)) (r.take q.at_)
        (sub q.auth (4 + ceilDiv (fh q.auth 0) 4 * 4) (fh q.auth 2)) = some tail →
      Completes (.ntsRequest p ()) s (fun v => count .TSV_NTP_RESP v ∧ answers q.uid v)) ∧
    (s.mintReady = true → Completes .mintRequest s (fun v => v.tsv.reqCons = (s.tsv.reqCons + 1) % 65536 ∧
      v.tsv.resProd = if poisoned = true then s.tsv.resProd else (s.tsv.resProd + 1) % 65536)) ∧
    (s.tsv.rot = some at_ → s.tsvOn = true → s.gau.running = true → at_ ≤ s.gns → Completes .ntsRotation s (fun v =>
      v.tsv.rot = none ∧ v.tsv.prev = s.tsv.cur ∧ v.tsv.cur = some (s.fl .TSV_NTS_NEXT 5 0)))


/-! ### The write gate -/

/-- R11, R303 to R306, R344, R404: the rows of the write gate complete where no read of the host and no WRITE of the sideband waits for
it: a change takes its record and stays, or its refusal is recorded and it leaves; a recorded change is released and acts, or is
refused with a deferred record; one whose record was not begun within 10 ms is refused and counted; what Warden owes is recorded; and
Warden starts again. The class E fields of a register take effect at its boundary, and the others stay. -/
def Obligations.GateEventsComplete : Prop :=
  ∀ (b : Boundary) (x : RegAt) (a v : Nat) (e : GateEntry) (r : LogRec) (verifies : Bool) (s : State),
    let quiet := s.hst.reads = [] ∧ s.sbd.wr = none
    let waits := s.log.gate = [e] ∧ e.recorded = none ∧ e.ch = .reg x.first v ∧ e.org = .host
    let opens := s.warden.up = true ∧ s.log.held = false ∧ s.twin.role ≠ .active ∧ s.logRoom 2 = true
    let late := e.at_ + 10000000 ≤ s.wt
    let freed : State := { s with log := { s.log with gate := [] } }
    (quiet → waits → opens → s.judge e false = .none → Completes .auditRecordWrite s (fun t =>
      t.log.gate = [{ e with recorded := some t.log.seq }] ∧ t.regs = s.regs ∧ t.force = s.force ∧
      ∃ d ∈ t.log.ring, d.seq = t.log.seq ∧ d.applied = true ∧ d.origin = e.org.code)) ∧
    (quiet → waits → opens → s.judge e false ≠ .none → Completes .auditRecordWrite s (fun t =>
      t.log.gate = [] ∧ t.regs = s.regs ∧ t.force = s.force ∧
      ∃ d ∈ t.log.ring, d.seq = t.log.seq ∧ d.applied = false ∧ d.code = (s.judge e false).num)) ∧
    (quiet → s.log.gate = [e] → e.recorded = none → Completes .gateRelease s (fun t => t.log = s.log ∧ t.regs = s.regs)) ∧
    (quiet → s.log.gate = [e] → e.recorded.isSome = true → e.apply = none → s.log.held = false → e.org = .host →
      e.ch = .seqmem a v → (seqMemAt a).isSome = true → a % 4 = 0 → s.memOk = true → freed.judge e true = .none →
      Completes .gateRelease s (fun t => t.log.gate = [] ∧ t.getSeqMem a = v % 2 ^ 32)) ∧
    (quiet → opens → s.log.gate = [e] → e.recorded.isSome = true → e.apply = none → e.org = .host → e.ch = .bulk a [] 0 →
      freed.judge e true ≠ .none → Completes .gateRelease s (fun t => t.log.gate = [] ∧ t.regs = s.regs ∧
        ∃ d ∈ t.log.ring, d.deferred = true ∧ d.applied = false ∧ d.code = (freed.judge e true).num)) ∧
    (quiet → waits → late → e.ch.isZeroize = false → Completes .auditBusyTimeout s (fun t =>
      t.log.gate = [] ∧ t.log.gapUnaud = min 0xFFFF (s.log.gapUnaud + 1) ∧ t.regs = s.regs ∧ t.log.ring = s.log.ring)) ∧
    (quiet → waits → ¬ late → Completes .auditBusyTimeout s (fun t => t.log = s.log ∧ t.regs = s.regs)) ∧
    (s.warden.up = true → s.log.owed = [r] → s.logUsed + r.slots + 2 ≤ ringSlots → Completes .deferredRecord s (fun t =>
      t.log.owed = [] ∧ ∃ d ∈ t.log.ring, d.kind = r.kind ∧ d.addr = r.addr ∧ d.old = r.old ∧ d.new = r.new ∧ d.code = r.code)) ∧
    (s.mayRestart = true → verifies = true → s.coreOn = true → Completes (.wardenRestart verifies) s (fun t =>
      t.warden = ⟨true, none, some s.wt⟩ ∧ t.log.owed = [])) ∧
    (s.mayRestart = true → verifies = false → Completes (.wardenRestart verifies) s (fun t =>
      t.warden = { s.warden with restarted := some s.wt } ∧ t.log = s.log)) ∧
    (s.mayRestart = false → exec (.wardenRestart verifies) s = .next s) ∧
    (s.atEdge b = true → b ≠ .second → lookupReg x.first = some x → s.regs.filter (fun p => p.1 = x.first) = [(x.first, v)] →
       Completes (.epochBoundaryApply b) s (fun t =>
      t.regs = s.regs ∧ t.forceAt x = if atBoundary b x = true then putFields Field.isE x.fs (s.forceAt x) v else s.forceAt x))


/-! ### Audio and the mix -/

/-- R250 to R252, R254, R255, R257 to R259, R263 to R265: the rows of streams and AES3 ports complete: a packet that no stream takes is
counted and one that a running stream takes is placed by its media index; a packet leaves or is withheld; an AES3 input finds, locks
to and loses its signal; an output sends a frame; a channel changes at its crossing or at its limit; a stop or a start completes; and the trigger
starts what it names. -/
def Obligations.AudioStreamsComplete : Prop :=
  ∀ (i : Fin 512) (e : Fin 8) (p : Fin 16) (g : RxFrame) (h : Nat) (f : Aes3Frame) (o : AudObj) (ch m n0 : Nat) (w : ZcWait) (n : Nat) (s : State),
    let x := s.aesi p
    let y := s.aeso p
    let r := udpPay g.bytes (h - 8)
    let idx := s.packetIdx i r
    let arrives := s.audOn = true ∧ s.rxFirst e 3 (fun _ => true) = some g ∧ g.spilled = false
    let passed := g.tc + (s.bitsNs e (8 * g.bytes.length) : Int) * 2 ^ 40
    let fs := s.domFs (s.fl .RXS_CFG 30 29 i)
    let row := rowOfIdx fs idx + s.fl .RXS_CFG 12 8 i + 1
    let media := (s.mediaNow (s.objFs (.aeso p))).toNat
    let asrc := s.on .AESI_CFG 28 p
    let gone (t : State) : Prop := (t.aesi p).st = 1 ∧ (t.aesi p).run = 0
    let at_ (k : Nat) (t : State) : Prop := (t.objGate o).get ch (false, 0) = (w.on_, k) ∧ t.aud.waits = s.aud.waits.erase w
    (arrives → (∀ k, rtpAt g.bytes = some k → s.legHits e g.bytes k = []) → Completes (.streamPacketReceive e) s (fun t =>
      t.aud = s.aud ∧ (t.ep e).rx = (s.ep e).rx.erase g ∧
      bits (t.hwOf .AUD_RXNM) 31 0 = min (2 ^ 32 - 1) (bits (s.hwOf .AUD_RXNM) 31 0 + 1))) ∧
    (arrives → rtpAt g.bytes = some h → s.legHits e g.bytes h = [(i.val, 0)] → udpSumOk g.bytes = true → s.packetOk i r = true →
      (s.rxs i).st = 2 → 0 ≤ idx → 0 < packetLen fs (s.on .RXS_CFG 27 i) → passed ≤ (row * 125000 - 5000) * 2 ^ 40 →
      row ≤ s.rowNum + s.fl .RXS_CFG 12 8 i + 1 → (s.rxs i).buf.get idx.toNat [] = [] →
      Completes (.streamPacketReceive e) s (fun t => (t.rxs i).ssrc = some (fn r 8 4) ∧ (t.rxs i).seqs.get 0 0 = fh r 2 + 1 ∧
        (t.rxs i).buf.get idx.toNat [] = (rtpSamples (s.on .RXS_CFG 28 i) (rtpPay r)).take (s.fl .RXS_CFG 22 16 i))) ∧
    (s.audOn = true → (s.txs i).next = some m → s.txDue i m = true → Completes (.streamPacketLaunch i) s (fun t =>
      t.txs i = { s.txs i with seq := ((s.txs i).seq + 1) % 65536, next := some (m + s.txRows i) } ∧
      (s.withheld i m = true → t.eth = s.eth ∧ t.sent = s.sent))) ∧
    (s.audOn = true → asrc = true → x.st = 1 → Completes (.aes3FrameReceive p f) s (fun t =>
      (t.aesi p).st = 2 ∧ (t.aesi p).seen = s.gau.l)) ∧
    (s.audOn = true → asrc = false → x.st = 2 → (s.nearest (s.objFs (.aesi p))).2 = true → Completes (.aes3FrameReceive p f) s (fun t =>
      (t.aesi p).run = x.run + 1 ∧ (t.aesi p).st = if 48 ≤ x.run + 1 then 3 else 2)) ∧
    (s.audOn = true → asrc = false → x.st = 3 → 4 * 10 ^ 9 ≤ (s.gau.l - x.seen) * s.objFs (.aesi p) →
      Completes (.aes3UnlockTimeout p) s gone) ∧
    (s.audOn = true → asrc = true → x.st = 3 → x.seen + 100000 ≤ s.gau.l → Completes (.aes3AsrcLoss p) s gone) ∧
    (s.audOn = true → asrc = true → x.st = 2 → x.settle = some m → m + 50000000 ≤ s.gau.l → Completes (.aes3AsrcRun p) s (fun t =>
      (t.aesi p).st = 3)) ∧
    (s.audOn = true → y.st = 3 → y.start = some n0 → n0 ≤ media → y.last ≠ some media → Completes (.aes3FrameSend p) s (fun t =>
      (t.aeso p).last = some media ∧
      (s.aesHeld p = false → y.low = false → (media - n0) % 192 ≠ 0 →
        ∃ a b v ca cb ua ub pa pb, t.sent = .aes3 p false a b v ca cb ua ub pa pb :: s.sent))) ∧
    (s.waitOf o ch = some w → s.firstCross w (min (s.zcLimit w) (s.knownTo o)) = some n →
      Completes (.zeroCrossingApply o ch) s (at_ n)) ∧
    (s.waitOf o ch = some w → s.zcLimit w < s.knownTo o → s.firstCross w (s.zcLimit w) = none →
      Completes (.zcTimeout o ch) s (at_ (s.zcLimit w))) ∧
    (s.waiting o = false → s.objSt o = stopping o → Completes (.stopComplete o) s (fun t => t.objSt o = 0)) ∧
    (s.waiting o = false → s.objSt o ≠ stopping o → o ∈ s.aud.starts → s.entered o = true →
      Completes (.stopComplete o) s (fun t => t.aud.starts = s.aud.starts.erase o ∧ t.objSt o = s.objSt o)) ∧
    (s.audOn = true → bits (s.hwOf .AUD_TRIG_CTL) 1 0 = 1 → (s.aud.trigAt : Int) * 2 ^ 40 ≤ s.tc →
      Completes .triggerFire s (fun t => bits (t.hwOf .AUD_TRIG_CTL) 1 0 = 2 ∧
        (s.trigHits (.txs i) = true → (t.txs i).st = 2 ∧ (t.txs i).next = some (s.aud.trigAt / 125000)) ∧
        (s.trigHits (.aeso p) = true → (t.aeso p).st = 3)))

/-- R22, R260 to R262, R271 to R273, R283, R284, R323: the rows of the row and of the mix complete: a row starts, an OUTROW is kept until
the STRIP deadline, a late one is counted, the deadline fixes the next media row, a late delay line gives zeros, the changes of a row
are planned, a meter block ends, and partial sums go out over the links and come in. -/
def Obligations.MixRowsComplete : Prop :=
  ∀ (n : Fin 160) (o : Fin 1024) (tag : Half) (samples : List Word) (q : Partial) (m : Fin 160) (s : State),
    let row := s.rowNum
    let mix := s.runs n = true ∧ 16 ≤ n.val
    let role := s.fl .SEQ_ROLE 7 0 n
    let l := s.link q.link
    let up := l.st = .up ∧ s.on .STL_LCFG 30 q.link = true
    (s.coreOn = true → s.rowEdge = true → s.fresh 0x300 = true → Completes .rowStart s (fun t =>
      0x300 ∈ t.fired ∧ t.aud.rowMsgs = [] ∧ t.mix.plan = none ∧ t.mix.bqs = [] ∧ t.mix.metRows = s.mix.metRows + 1)) ∧
    (mix → samples.length = s.rowLen → s.audOn = true → tag.toNat = (row % 65536).toNat → s.aud.stripRow ≠ some row →
      s.rowNs < 110000 → Completes (.outrow n o tag samples) s (fun t =>
        t.aud = { s.aud with rowMsgs := s.aud.rowMsgs.set o (samples.map BitVec.toInt) })) ∧
    (mix → samples.length = s.rowLen → s.audOn = true → 110000 ≤ s.rowNs → Completes (.outrow n o tag samples) s (fun t =>
      t.aud = s.aud ∧ bits (t.hwOf .AUD_STRIP) 15 0 = min 65535 (bits (s.hwOf .AUD_STRIP) 15 0 + 1))) ∧
    (s.audOn = true → 110000 ≤ s.rowNs → s.aud.stripRow ≠ some row → Completes .stripDeadline s (fun t =>
      t.aud.stripRow = some row ∧
      (o.val ∈ (t.aud.media.get (row + 1).toNat ⟨[], []⟩).miss ↔ (s.aud.rowMsgs.get o []).isEmpty = true))) ∧
    (s.audOn = true → 122000 ≤ s.rowNs → s.aud.stripRow = some row → s.fresh (0x30000 + o.val) = true →
      Completes (.delayLineDeadline o) s (fun t =>
        (t.aud.media.get (row + 1).toNat ⟨[], []⟩).outs.get o [] = List.replicate s.rowLen 0 ∧
        bits (t.hwOf .MIX_DLYLATE) 31 0 = min (2 ^ 32 - 1) (bits (s.hwOf .MIX_DLYLATE) 31 0 + 1))) ∧
    (mix → 136 ≤ role → Completes (.fetch n) s (fun t => (t.sq n).inbox.get 1 [] = (s.sq n).inbox.get 1 [] ++
      [⟨0x64, 0, List.replicate 8 0⟩, ⟨0x67, (row % 65536).toNat, [w32 (2 ^ 31)]⟩])) ∧
    (s.coreOn = true → s.gau.running = true → 110000 ≤ s.rowNs → s.rowNs < 123000 → s.mix.plan = none →
      Completes .mixRowUpdate s (fun t => t.mix.plan.map Prod.fst = some (row + 1) ∧ (s.mix.waits = [] → t.mix.waits = []))) ∧
    (s.coreOn = true → s.fl .MIX_MET 12 0 ≤ s.mix.metRows → Completes .meterBlockEnd s (fun t =>
      t.mix.metRows = 0 ∧ ∀ k, t.strip k = (s.strip k).endBlock)) ∧
    (mix → q.words.length = s.psLen → up → s.psLate q.tag.toNat = false → l.psRow = row.toNat → l.psN < 1024 → Completes (.psend n q) s (fun t =>
      t.link q.link = { l with psN := l.psN + 1
                               ps := l.ps ++ [(row.toNat * 2 ^ 26 + q.output.val * 2 ^ 16 + q.tag.toNat, q.words)] })) ∧
    (mix → q.words.length = s.psLen → ¬ up ∨ s.psLate q.tag.toNat = true → Completes (.psend n q) s (fun t => t.link q.link = l)) ∧
    (up → (∀ k : Fin 4, (s.link k).ps = []) → s.roleSeq q.output = some m.val → s.listens m = true →
      Completes (.partialSumSlot [q]) s (fun t => (t.sq m).inbox.get 3 [] = (s.sq m).inbox.get 3 [] ++
        [⟨0x71, q.link.val * 2 ^ 10 + q.output.val, w32 q.tag.toNat :: q.words⟩]))


/-! ### Keys and supervision -/

/-- R290, R291, R297 to R302, R306, R343: the events of the KEY block, of the fuses, of the reports and of the AON supply complete: a
tamper clears every slot and is counted, the sweep marks a corrupt slot, and neither moves another slot; the loss of VBAT clears the
slots; a blow takes its fuse; a JTAG session is noted unless debug is closed; a report is signed. -/
def Obligations.KeyEventsComplete : Prop :=
  ∀ (src : Fin 4) (n : Fin 64) (q : Fin 16) (f v : Nat) (s : State),
    let x := s.attSlot q
    let k := s.kslot n
    (s.atSec = true → s.fresh 0x24 = true → s.coreOn = true → Completes .keySweep s (fun t =>
      (t.kslot n).commit = k.commit ∧ (t.kslot n).cur = k.cur ∧
      (k.commit ≠ 0 → k.corrupt = true → (t.kslot n).bad = true) ∧
      (k.commit = 0 → (t.kslot n).bad = k.bad))) ∧
    (s.tamperOn src = true → Completes (.tamperTrigger src) s (fun t => t.key.slots = [] ∧ t.key.data = [] ∧ t.key.lanes = [] ∧
      t.key.zeroed = true ∧ t.key.count = min 255 (s.key.count + 1) ∧ src.val ∈ t.key.conds)) ∧
    (s.tamperOn src = true → s.coreOn = false → s.warden.up = true → s.logRoom 1 = true → Completes (.tamperTrigger src) s (fun t =>
      bitOn (t.hwOf .KEY_TAMPER) (16 + src.val) = true ∧
      ∃ d ∈ t.log.ring, d.kind = 10 ∧ d.applied = true ∧ d.deferred = true ∧ d.old = min 255 (s.key.count + 1) % 2 ^ 32)) ∧
    (s.tamperOn src = false → exec (.tamperTrigger src) s = .next s) ∧
    Completes (.tamperConditionEnd src) s (fun t => t.key.conds = s.key.conds.filter (· ≠ src.val) ∧ t.key.slots = s.key.slots) ∧
    Completes .vbatLoss s (fun t => t.key.slots = [] ∧ t.key.lanes = [] ∧ t.fl .KEY_TAMPER 3 1 = 0 ∧ t.fuses = s.fuses) ∧
    Completes .aonSupplyRemoval s (fun t => t.cast_.aon = false ∧ t.flt.haltLatch = false ∧ t.warden = ⟨false, none, none⟩ ∧
      t.coreOn = false ∧ t.log.ring = s.log.ring ∧ t.log.link = s.log.link ∧ t.key.slots = s.key.slots ∧ t.dram = s.dram) ∧
    (s.fuses.blow = some (f, v) → Completes .fuseBlowDone s (fun t => t.fuses.blow = none ∧ bits (t.hwOf .ATT_FUSE_STAT) 31 30 = 2 ∧
      (t.fuses.debugClose = true ↔ f = 0 ∨ s.fuses.debugClose = true) ∧
      (t.fuses.ownerLock = true ↔ f = 1 ∨ s.fuses.ownerLock = true) ∧
      (t.fuses.hashv = true ↔ f = 2 ∨ s.fuses.hashv = true) ∧
      (f = 2 → t.fuses.hash = s.stagedHash) ∧ (4 ≤ f → t.fuses.rollback.get (f - 4) 0 = v))) ∧
    (s.fuses.debugClose = false → Completes .jtagSession s (fun t => t.att.jtag = true)) ∧
    (s.fuses.debugClose = true → exec .jtagSession s = .next s) ∧
    (x.st = 1 → s.warden.up = true → Completes (.reportSigned q) s (fun t =>
      (t.attSlot q).st = 2 ∧ (t.attSlot q).rep = x.cap ++ Config.sign x.cap))

/-- R338 to R347, R349, R352, R355, R356: the events of the fault block, the recorder and the counters complete: a source that asserts is
recorded with its unit, its severity and its instant, and acts by its severity; an armed injection fires; ALIVE toggles; a commit
buffer goes to its slot; a sweep starts and ends; and an instruction sample is stored or lost. -/
def Obligations.SupervisionEventsComplete : Prop :=
  ∀ (src : Fin 32) (unit : Half) (n : Fin 160) (m : Nat) (taken cache : Bool) (stall : Half) (delta : Word) (cause : Byte)
    (r : RecRecord) (rest : List RecRecord) (w : Sweep) (s : State),
    let u := unit.toNat
    let sev := s.fl .FLT_SRC_CFG 2 0 src
    let plain := s.coreOn = true ∧ hasUnit src u = true ∧ s.flt.inj.state ≠ 1 ∧ src.val ∉ [0, 10, 22, 25]
    let per := s.fl .PMC_SWEEP_PER 15 0
    let sweeps := s.coreOn = true ∧ per ≠ 0 ∧ s.atPeriod (per * 1000000) = true ∧ s.fresh 0x27 = true
    let len := max 1 (s.inForce .PMC_SAMP_LEN)
    let prod := s.pmc.sampProd % len
    let sampled := s.runs n = true ∧ s.on .PMC_SAMP 31 (cluOf n) = true ∧ s.on .PMC_SAMP (n.val % 16) (cluOf n) = true
    let sample : Instr := .instructionSample n taken cache stall delta cause
    (plain → sev ≤ 1 → Completes (.faultAssert src unit) s (fun t => t.flt.lastSrc = src.val ∧ t.flt.lastUnit = u ∧
      t.flt.lastGns = s.gns ∧ (t.fsrc src).last = some s.gau.l ∧ (t.fsrc src).eff = sev ∧ (t.fsrc src).unit = u ∧
      t.flt.relinq = s.flt.relinq ∧ t.flt.halt = s.flt.halt ∧ bitOn (t.hwOf .FLT_SRC_STAT src) 30 = true)) ∧
    (plain → sev = 2 → src = 16 → Completes (.faultAssert src unit) s (fun t => t.on .TDC_CFG 31 u = false)) ∧
    (plain → sev = 2 → src = 11 → 16 ≤ u → (s.fl .SEQ_ROLE 7 0 u ≥ 136) → Completes (.faultAssert src unit) s (fun t =>
      (t.sq u).st = .fenced ∧ (t.sq u).inbox = [])) ∧
    (plain → sev = 3 → s.twin.role = .solo → s.flt.relinq = false → s.warden.up = true → s.logRoom 1 = true →
      Completes (.faultAssert src unit) s (fun t => t.flt.relinq = true ∧ t.flt.halt = s.flt.halt ∧ t.twin.role = .relinquished ∧
        ∃ d ∈ t.log.ring, d.kind = 9 ∧ d.applied = true ∧ d.deferred = true)) ∧
    (plain → sev = 4 → s.twin.role = .solo → Completes (.faultAssert src unit) s (fun t => t.flt.relinq = true ∧ t.flt.halt = true ∧
      t.flt.haltLatch = true ∧ ((t.sq n).st = .stopped ∨ (t.sq n).st = .fenced))) ∧
    (s.coreOn = true → hasUnit src u = true → s.flt.inj.state = 1 → s.flt.inj.src = src.val → s.flt.inj.unit = u →
      s.flt.inj.dry = true → Completes (.faultAssert src unit) s (fun t => t.flt.inj.state = 2 ∧ (t.fsrc src).inj = true ∧
        (t.fsrc src).eff = 0 ∧ t.flt.relinq = s.flt.relinq ∧ t.flt.halt = s.flt.halt)) ∧
    Completes (.faultInactive src) s (fun t => t.fsrc src = { s.fsrc src with cond := false }) ∧
    (s.coreOn = true → s.on .FLT_CTL 31 = true → s.flt.relinq = false → s.flt.halt = false → s.atPeriod 500000 = true →
      s.ranBefore (s.lastGrid 500000) = false → s.fresh 0x26 = true → Completes .aliveToggle s (fun t =>
        t.flt.alive = !s.flt.alive ∧ t.sent = .alive (!s.flt.alive) :: s.sent)) ∧
    (s.flt.inj.state = 1 → s.flt.inj.at_ + 1000000000 ≤ s.gau.l → Completes .injectExpiry s (fun t => t.flt.inj.state = 3)) ∧
    (s.rcd.bufs = r :: rest → s.rcd.clr = [] → Completes .recorderCommit s (fun t => t.rcd.bufs = rest ∧
      t.rcd.seq = s.rcd.seq % (2 ^ 32 - 1) + 1 ∧ t.rcd.head = (s.rcd.head + 1) % 256 ∧
      t.rcd.slots.get s.rcd.head r = { r with seq := s.rcd.seq % (2 ^ 32 - 1) + 1, mark := true })) ∧
    (sweeps → s.pmc.sweep = none → Completes .sweepPeriodic s (fun t => t.pmc.sweepSeq = (s.pmc.sweepSeq + 1) % 2 ^ 32 ∧
      ∃ x, t.pmc.sweep = some x ∧ x.e0 = s.gau.l ∧ x.first = s.fl .PMC_SWEEP 9 0 ∧ x.last = s.fl .PMC_SWEEP 25 16)) ∧
    (sweeps → s.pmc.sweep = some w → Completes .sweepPeriodic s (fun t => t.pmc = s.pmc)) ∧
    (s.pmc.sweep = some w → w.e0 + 2 * (w.last - w.first) ≤ s.gau.l → Completes .sweepDone s (fun t => t.pmc.sweep = none ∧
      t.pmc.lastBank = w.bank ∧ t.pmc.cnt = s.pmc.cnt)) ∧
    (sampled → (prod + 1) % len = s.inForce .PMC_SAMP_CONS → Completes sample s (fun t => t.dram = s.dram ∧
      t.pmc.sampLost = s.pmc.sampLost + 1)) ∧
    (sampled → (prod + 1) % len ≠ s.inForce .PMC_SAMP_CONS → s.memOk = true → m < 32 → Completes sample s (fun t =>
      t.pmc.sampProd = (prod + 1) % len ∧ t.pmc.sampLost = 0 ∧
      memGet t.dram (s.inForce .PMC_SAMP_RING + 32 * prod + m) =
        (s.sampleBytes n taken cache stall.toNat delta.toNat cause.toNat).getD m 0))


/-! ### Stitch links and the twin -/

/-- R313, R314, R316, R318, R319: the rows of a link complete: a frame starts with its marker, a marker of the peer is taken, with an
identity block it sets the state of the link, one that does not follow ends UP, and so do a lost lock and bad sync headers; the time
of a jump runs out; and words for the peer leave or are discarded. -/
def Obligations.StitchLinksComplete : Prop :=
  ∀ (l : Fin 4) (n : Fin 16) (m : Marker) (i : Identity) (code : Fin 640) (words : List Word) (k : Nat) (s : State),
    let x := s.link l
    let runs := s.linkOn l = true
    let key := 0x200 + l.val
    let frame := m.frame.toNat
    (s.linkOn l = true → s.quiet = false → s.atPeriod 1600 = true → s.afterNotice = true → s.fresh key = true →
      Completes (.stlFrameStart l) s (fun t => key ∈ t.fired ∧ .marker l s.frameNow (s.markerWord l) ∈ t.sent ∧
        (t.link l).txs = (s.gau.l :: x.txs).take 4)) ∧
    (runs → frame % 625 ≠ 0 → x.st = .up → markerFollows x m = true → Completes (.markerReceive l m i code) s (fun t =>
      (t.link l).st = .up ∧ (t.link l).frame = some frame ∧ (t.link l).role = m.role.toNat ∧ (t.link l).ready = m.ready ∧
      (t.link l).advise = m.advise ∧ (t.link l).sev = m.sev.toNat ∧ (t.link l).gst = m.state.toNat ∧
      (t.link l).rx = some (s.gau.l, code.val))) ∧
    (runs → frame % 625 ≠ 0 → x.st = .up → markerFollows x m = false → Completes (.markerReceive l m i code) s (fun t =>
      (t.link l).st = .training ∧ (t.link l).frame = some frame)) ∧
    (runs → frame % 625 = 0 → x.st = .training → Completes (.markerReceive l m i code) s (fun t =>
      (t.link l).dom = i.domain.toNat ∧ (t.link l).devnum = i.devnum.toNat ∧ (t.link l).hops = i.hops.toNat ∧
      (t.link l).upv = i.upv ∧ (t.link l).upstream = i.upstream.toNat ∧ (t.link l).bound = i.bound.toNat ∧
      (t.link l).st = if i.domain.toNat ≠ s.fl .STL_CFG 31 16 then .domain
        else if i.devnum.toNat = s.devnum then .duplicate else .up)) ∧
    (s.linkOn l = false → exec (.markerReceive l m i code) s = .next s) ∧
    (s.linkOn l = true → x.st = .domain ∨ x.st = .duplicate ∨ x.st = .training → Completes (.stlLockLoss l) s (fun t =>
      (t.link l).st = .training ∧ (t.link l).frame = none)) ∧
    (runs → x.st = .up → Completes (.stlLockLoss l) s (fun t => (t.link l).st = .training ∧ (t.link l).frame = none)) ∧
    (runs → x.st = .up → Completes (.stlBadSyncHeaders l) s (fun t => (t.link l).st = .training ∧ (t.link l).frame = none)) ∧
    (x.jumpAt = some k → k + 1000000000 ≤ s.gau.l → Completes (.rtjumpClear l) s (fun t => (t.link l).jumpAt = none)) ∧
    (x.jumpAt = some k → s.gau.l < k + 1000000000 → exec (.rtjumpClear l) s = .next s) ∧
    (1 ≤ words.length → words.length ≤ 31 → s.runs n = true → x.st = .up → s.quiet = false → Completes (.peersend n l words) s (fun t =>
      t.sent = .peerWords l words :: s.sent)) ∧
    (1 ≤ words.length → words.length ≤ 31 → s.runs n = true → x.st ≠ .up ∨ s.quiet = true → Completes (.peersend n l words) s (fun t =>
      t.sent = s.sent ∧ bits (t.hwOf .STL_CNT l) 7 0 = min 255 (bits (s.hwOf .STL_CNT l) 7 0 + 1))) ∧
    (s.runs n = true → words = [] ∨ 31 < words.length → exec (.peersend n l words) s = .next (s.trap n .badmsg))

/-- R327, R329, R332 to R337: the rows of a twin complete: it pairs or takes over, becomes ISOLATED, takes mirrored writes with their
instants and a sync, loses a confirmation, tests alignment each second, compares digests, hands over, and obeys a vote in COMPARE. -/
def Obligations.TwinEventsComplete : Prop :=
  ∀ (l : Fin 4) (q : AddrWord) (x : RegAt) (apply digest : DWord) (tag next : Half) (e : GateEntry) (p : Fin 8) (n : Fin 4096) (j : PtpKind) (words : List Word)
    (k h v : Nat) (s : State),
    let a := q.addr.toNat
    let w := s.twin
    let quiet := s.hst.reads = [] ∧ s.sbd.wr = none
    let freed : State := { s with log := { s.log with gate := [] } }
    let same := w.lastTag = none ∧ w.digest.get tag.toNat (2 ^ 64) = digest.toNat
    let second := s.atSec = true ∧ s.fresh 0x210 = true ∧ s.on .STL_TWIN_CFG 31 = true
    (w.role = .pairing → s.twinFirst = none → max w.pairAt w.noneUp + s.fl .STL_TWIN_TIME 15 0 * 1000000000 ≤ s.gau.l →
      Completes .pairTimeout s (fun t => t.twin.role = .active)) ∧
    (s.twinUp l = true → (s.link l).role = 3 → w.role = .standby → Completes (.relinquishBlockReceive l) s (fun t =>
      t.twin.role = .active ∧ t.twin.hoPend = none)) ∧
    (w.t2 = some k → w.role = .active → k + 10000 ≤ s.gau.l → s.gau.l ≤ k + s.fl .STL_TWIN_TIME 31 16 * 1000 →
      Completes .twinAliveEdge s (fun t => t.twin.role = .isolated ∧ t.twin.t2 = none)) ∧
    (w.t2 = some k → s.gau.l < k + 10000 → exec .twinAliveEdge s = .next s) ∧
    (w.role = .standby → groupOf a ≠ some 21 → lookupReg a = some x → x.word + 1 < x.reg.geo.words →
      Completes (.mirrorWriteReceive q apply) s (fun t => t.staged.get (stageKey twinId a) 0 = q.val ∧ t.regs = s.regs)) ∧
    (w.role = .standby → groupOf a ≠ some 21 → lookupReg a = some x → x.word + 1 = x.reg.geo.words → s.warden.up = true →
      s.log.gate ≠ [] → Completes (.mirrorWriteReceive q apply) s (fun t => t.regs = s.regs ∧ t.log.gate = s.log.gate ++
        [{ s.entry (.reg x.first (s.assemble twinId x q.val.toNat)) .twin with apply := some apply.toNat }])) ∧
    (w.role ≠ .standby → exec (.mirrorWriteReceive q apply) s = .next s) ∧
    (quiet → s.log.gate = [e] → e.apply = some k → e.recorded = none → e.org = .twin → e.ch = .reg x.first v → k ≤ s.gns →
      Completes .mirrorApply s (fun t => t.log.gate = [] ∧ t.twin.diverged = true ∧ t.regs = s.regs ∧
        t.log.gapUnaud = min 0xFFFF (s.log.gapUnaud + 1))) ∧
    (quiet → s.log.gate = [e] → e.apply = some k → e.recorded.isSome = true → s.log.held = false → e.org = .twin →
      e.ch = .seqmem h v → (seqMemAt h).isSome = true → h % 4 = 0 → s.memOk = true → k ≤ s.gns → freed.judge e true = .none →
      Completes .mirrorApply s (fun t => t.log.gate = [] ∧ t.getSeqMem h = v % 2 ^ 32)) ∧
    (s.log.gate = [e] → e.apply = some k → e.recorded = none → s.gns < k → exec .mirrorApply s = .next s) ∧
    ((∃ m ∈ w.mirrored, m ≤ s.gns + 20000) → Completes .mirrorConfirmTimeout s (fun t => t.twin.peerReady = false ∧
      ∀ m, m ∈ t.twin.mirrored ↔ m ∈ w.mirrored ∧ s.gns + 20000 < m)) ∧
    (w.role = .pairing ∨ w.role = .standby → w.synced = false → Completes .twinSyncRequest s (fun t =>
      t.twin.wanted = false ∧ t.sent = .syncRequest :: s.sent)) ∧
    (w.role = .active → Completes .twinSyncRequest s (fun t => t.sent = .sync s.syncRegs s.syncImgs s.syncSeqs (s.rowAfter 250000) :: s.sent)) ∧
    (w.role = .standby → s.warden.up = true → s.logRoom 2 = true → s.on .STL_TWIN_CFG 31 = false → s.syncable q = true →
      lookupReg a = some x → x.word = 0 → x.reg.geo.words = 1 → x.reg ≠ .STL_TWIN_CFG → x.reg ≠ .SEQ_CTL →
      Completes (.twinSyncApply [q] ⟨[], []⟩) s (fun t => t.twin.synced = true ∧ t.twin.wanted = false ∧ t.twin.diverged = false ∧
        t.lastAt x = putFields (fun f => f.acc == .rw) x.fs (s.lastAt x) (putBits (s.lastAt x) 31 0 q.val.toNat) ∧
        t.forceAt x = putFields (fun f => f.acc == .rw && !f.isE) x.fs (s.forceAt x) (putBits (s.lastAt x) 31 0 q.val.toNat) ∧
        ∃ d ∈ t.log.ring, d.kind = 2 ∧ d.applied = true ∧ d.origin = Origin.twin.code)) ∧
    (w.role = .standby → s.warden.up = false → s.on .STL_TWIN_CFG 31 = false → Completes (.twinSyncApply [q] ⟨[], []⟩) s (fun t =>
      t.twin.diverged = true ∧ t.regs = s.regs)) ∧
    (s.standby = true → Completes (.twinStateUpdate (.seqId p j none next)) s (fun t =>
      (t.inst p).seqs.get (seqKey j 0) 0 = next.toNat)) ∧
    (s.standby = true → bitOn (words.getD 0 0).toNat 31 = false → Completes (.twinStateUpdate (.session n words)) s (fun t =>
      t.sess n = none)) ∧
    (s.standby = true → bitOn (words.getD 0 0).toNat 31 = true → bitOn (words.getD 0 0).toNat 26 = true →
      Completes (.twinStateUpdate (.session n words)) s (fun t => t.sess n = some (sessionOf s words))) ∧
    (second → w.role ≠ .standby → Completes .twinSecond s (fun t => 0x210 ∈ t.fired ∧ t.twin.ready = false ∧ t.twin.advise = false ∧
      t.twin.alignRun = 0)) ∧
    (second → w.role = .standby → s.aligned = false → w.alignRun + 1 ≠ 10 → Completes .twinSecond s (fun t =>
      t.twin.ready = false ∧ t.twin.alignRun = w.alignRun + 1)) ∧
    (w.role = .standby → same → Completes (.rowDigestReceive tag digest) s (fun t =>
      t.twin.digRun = 0 ∧ t.twin.lastTag = some tag.toNat ∧ t.twin.diverged = w.diverged)) ∧
    (w.role = .standby → w.lastTag = none → ¬ same → w.digRun + 1 < s.fl .STL_TWIN_LIM 15 8 →
      Completes (.rowDigestReceive tag digest) s (fun t => t.twin.digRun = w.digRun + 1 ∧ t.twin.diverged = w.diverged)) ∧
    (w.role = .standby → w.lastTag = none → ¬ same → s.fl .STL_TWIN_LIM 15 8 ≤ w.digRun + 1 →
      Completes (.rowDigestReceive tag digest) s (fun t => t.twin.diverged = true)) ∧
    (w.role = .active → w.hoPend = some h → h ≤ s.gau.l → s.atSec = true → Completes .handoverInstant s (fun t =>
      t.twin.role = .standby ∧ t.twin.hoPend = none ∧ t.twin.synced = false)) ∧
    (w.role = .standby → s.atSec = true → w.ready = true → s.peerRole = some 3 → Completes .handoverInstant s (fun t =>
      t.twin.role = .active)) ∧
    (w.role = .compare → Completes .cmpVoteLow s (fun t => t.flt.lastSrc = 30 ∧ (t.fsrc 30).last = some s.gau.l)) ∧
    (w.role ≠ .compare → exec .cmpVoteLow s = .next s)


/-! ### The host interface, the sideband and external memory -/

/-- R360, R363 to R365: the descriptors of a queue, the mailbox and the PCIe link complete: a descriptor is taken, does its OP and gets
its RESULT; one of another OP is refused; the oldest completes with its STATUS; a request of the mailbox is answered. -/
def Obligations.HostEventsComplete : Prop :=
  ∀ (q : Fin 16) (d : Desc) (frame : List Byte) (data : List Word) (m : Nat) (p : Fin 8) (f : RxFrame) (x : DmaFl) (r : List DmaFl)
    (req : List Byte) (reqs : List (List Byte)) (res code rxlen : Nat) (gen : Fin 5) (width : PcieWidth) (s : State),
    let id := (s.dq q).next
    let len := d.len.toNat
    let a := d.daddr.toNat
    let flights (o : Option (Nat × Nat × Nat)) (t : State) : Prop := (t.dq q).flight = (s.dq q).flight ++ [⟨id, d.irq, o⟩] ∧
      (t.dq q).next = (id + 1) % s.dmaLen q
    let takes (kind op : Nat) := s.dmaReady q = true ∧ s.dmaKind q = kind ∧ d.op.toNat = op ∧ ∀ f ∈ (s.dq q).flight, f.id ≠ id
    let clean := s.mem.ready = true ∧ s.mem.failed = false ∧ s.mem.errs = []
    let refused (t : State) : Prop := flights (some (1, Code.range.num, 0)) t
    (takes 1 1 → 60 ≤ len → len + 4 ≤ s.fl .ETH_CFG 13 0 d.port → (s.ep d.port).link = true →
      s.portOn d.port = true → Completes (.dmaTx q d frame) s (fun t => flights none t ∧
        ∃ h, (t.ep d.port).txq = (s.ep d.port).txq ++ [h] ∧ h.pay = .raw (hostBytes d frame))) ∧
    (takes 1 1 → len < 60 → Completes (.dmaTx q d frame) s (flights (some (2, 0, 0)))) ∧
    (takes 1 2 → Completes (.dmaTx q d frame) s refused) ∧
    (s.dmaReady q = false → exec (.dmaTx q d frame) s = .next s) ∧
    (s.mem.ready = false → s.mem.failed = false → exec (.dmaCopyIn q d frame) s = .next s ∧ exec (.dmaCopyOut q d) s = .next s) ∧
    (takes 2 2 → s.rxNext q = some (p.val, f) → f.spilled = false → 32 + f.bytes.length ≤ len → Completes (.dmaRx q d) s (fun t =>
      flights (some (0, 0, 32 + f.bytes.length)) t ∧ (t.ep p).rx = (s.ep p).rx.erase f ∧
      .hostData q d.haddr.toNat (bytesOfWords f.stamp ++ f.bytes) ∈ t.sent)) ∧
    (s.rxNext q = none → exec (.dmaRx q d) s = .next s) ∧
    (takes 3 3 → s.dmaRange d = true → clean → s.memOk = true → m < len →
      Completes (.dmaCopyIn q d frame) s (fun t => flights (some (0, 0, 0)) t ∧ memGet t.dram (a + m) = frame.getD m 0)) ∧
    (takes 3 3 → s.dmaRange d = false → s.mem.ready = true → Completes (.dmaCopyIn q d frame) s (fun t =>
      refused t ∧ t.dram = s.dram)) ∧
    (takes 3 4 → s.dmaRange d = true → clean → Completes (.dmaCopyOut q d) s (fun t =>
      flights (some (0, 0, 0)) t ∧ t.sent = .hostData q d.haddr.toNat (memTake s.dram a len) :: s.sent)) ∧
    (takes 3 5 → aligned4 d = true → s.warden.up = true → s.log.gate ≠ [] →
      Completes (.dmaBulkWr q d data) s (fun t => flights none t ∧
        t.log.gate = s.log.gate ++
          [s.entry (.bulk a ((List.range (len / 4)).map fun i => data.getD i 0) q) .host (s.ownerMay .host a)])) ∧
    (takes 3 5 → aligned4 d = false → Completes (.dmaBulkWr q d data) s refused) ∧
    (takes 3 6 → aligned4 d = true → len ≤ 1048576 → (groupOf a).isSome = true → Completes (.dmaBulkRd q d) s (fun t =>
      flights (some (0, 0, 0)) t ∧ ∃ bytes, .hostData q d.haddr.toNat bytes ∈ t.sent ∧ bytes.length = len)) ∧
    (takes 3 6 → 1048576 < len → Completes (.dmaBulkRd q d) s refused) ∧
    (s.coreOn = true → s.hst.pcie.isSome = true → (s.dq q).flight = x :: r → x.result = some (res, code, rxlen) →
      Completes (.dmaComplete q) s (fun t => (t.dq q).flight = r ∧ (t.dq q).cons = (x.id + 1) % s.dmaLen q ∧
        .dma q res code rxlen ∈ t.sent)) ∧
    (s.hst.mbx = req :: reqs → s.warden.up = true → s.auditIdle = true → s.hst.rsp = none → s.hst.began = false →
      (∃ seq : Byte, req = sbdRequest seq.toNat 3 []) → Completes .mbxResponse s (fun t => t.hst.mbx = reqs ∧
        t.hst.rsp = some (sbdResponse (leNat (req.take 1)) 0 s.infoWords))) ∧
    Completes .pcieLinkDown s (fun t => t.hst.pcie = none ∧ t.hst.down = true) ∧
    (s.coreOn = true → Completes (.pcieLinkUp gen width) s (fun t =>
      t.hst.pcie = some (gen.val + 1, pcieLanes width) ∧ t.hst.down = false))

/-- R34, R366 to R369, R372, R373, R376, R390: the frames and commands of the sideband, the CCCs of I3C and the events of external memory
complete. -/
def Obligations.SidebandEventsComplete : Prop :=
  ∀ (path : SbdPath) (bytes : List Byte) (seq img events : Byte) (addr v : Word) (cnt : Nat) (words : List Word) (zeroize : Bool)
    (rest : List (List Byte)) (x : RegAt) (da : BitVec 7) (h : Half) (f g : SymErr) (ch : Fin 2) (q : Fin 16) (s : State),
    let n := seq.toNat
    let a := addr.toNat
    let arrives := s.warden.up = true ∧ s.sbdPath path = true ∧ path ≠ .uart
    let body := bytes.take (bytes.length - 2)
    let idle := s.warden.up = true ∧ s.auditIdle = true ∧ s.sbd.wr = none ∧ s.sbd.owes = none
    let head (cmd : Nat) (pay : List Byte) := idle ∧ s.sbd.queue = sbdRequest n cmd pay :: rest
    let begins (cmd : Nat) (c : Change) (t : State) : Prop := t.sbd.queue = rest ∧ t.sbd.owes = some (n, cmd) ∧
      t.log.gate = s.log.gate ++ [s.entry c .sideband (s.ownerMay .sideband c.addr)]
    let aon := s.cast_.rstn = true ∧ s.cast_.aon = true
    let w := h.toNat
    let cw := f.addr.toNat / 16 * 16
    let c := s.memChan cw
    let met (e : SymErr) := e.flip ≠ 0 ∧ ∃ d < 9, s.devAt c d = e.dev
    let scrubs := s.coreOn = true ∧ s.mem.ready = true ∧ s.mem.errs = [] ∧ cw < s.memSize
    (arrives → frameOk bytes = true → s.sbd.queue.length < 8 → sbdLen (leNat ((body.drop 1).take 1)) (body.drop 4) = some true →
      Completes (.sidebandFrame path bytes) s (fun t => t.sbd.queue = s.sbd.queue ++ [body])) ∧
    (arrives → frameOk bytes = true → 8 ≤ s.sbd.queue.length → Completes (.sidebandFrame path bytes) s (fun t =>
      t.sbd.queue = s.sbd.queue ∧ .sbd (sbdResponse (leNat (body.take 1)) 3 []) ∈ t.sent)) ∧
    (arrives → frameOk bytes = false → Completes (.sidebandFrame path bytes) s (fun t => t.sbd.queue = s.sbd.queue ∧
      bits (t.hwOf .SBD_STAT) 15 8 = min 255 (bits (s.hwOf .SBD_STAT) 15 8 + 1))) ∧
    (s.warden.up = false → exec (.sidebandFrame path bytes) s = .next s) ∧
    Completes .uartFrameGap s (fun t => t.sbd.uart = [] ∧ t.sbd.queue = s.sbd.queue) ∧
    (1 ≤ cnt → cnt ≤ 256 → head 1 (bytesLE 4 a ++ bytesLE 2 cnt) → Completes (.read seq addr cnt) s (fun t => t.sbd.queue = rest ∧
      ∃ pay, .sbd (sbdResponse n 0 pay) ∈ t.sent ∧ pay.length = 4 * cnt)) ∧
    ((∀ pay, s.sbd.queue.head? ≠ some (sbdRequest n 1 pay)) → exec (.read seq addr cnt) s = .next s) ∧
    (head 2 (bytesLE 4 a ++ bytesLE 2 1 ++ bytesOfWords [v]) → a % 4 = 0 → groupOf a ≠ some 21 → lookupReg a = some x →
      x.reg.geo.words = 1 → x.word = 0 → x.readOnly = false → x.unaudited = false → s.log.gate ≠ [] →
      Completes (.write seq addr [v]) s (fun t => t.sbd.queue = rest ∧ t.sbd.wr = some ⟨n, a, 1, 0, [], true⟩ ∧
        t.log.gate = s.log.gate ++ [s.entry (.reg x.first v.toNat) .sideband (s.ownerMay .sideband x.first)])) ∧
    ((∀ pay, s.sbd.queue.head? ≠ some (sbdRequest n 2 pay)) → exec (.write seq addr words) s = .next s) ∧
    (head 3 [] → Completes (.info seq) s (fun t => t.sbd.queue = rest ∧ .sbd (sbdResponse n 0 s.infoWords) ∈ t.sent)) ∧
    (head 0x10 [img] → s.log.gate ≠ [] → Completes (.configSave seq img) s (begins 0x10 (.cfgSave img.toNat))) ∧
    (head 0x11 [img] → img ≠ 0xFF → s.log.gate ≠ [] → Completes (.configSelect seq img) s
      (begins 0x11 (.cfgSelect (some img.toNat)))) ∧
    (head 0x12 [if zeroize then 1 else 0] → s.log.gate ≠ [] → Completes (.bindoff seq zeroize) s (begins 0x12 (.bindoff zeroize))) ∧
    (aon → s.sbd.daddr = none → Completes (.setdasa da) s (fun t => t.sbd.daddr = some da.toNat)) ∧
    (aon → s.sbd.daddr = none → Completes (.entdaa da) s (fun t => t.sbd.daddr = some da.toNat)) ∧
    (aon → s.sbd.daddr ≠ none → Completes (.setdasa da) s (fun t => t.sbd = s.sbd)) ∧
    (aon → Completes .rstdaa s (fun t => t.sbd.daddr = none)) ∧
    (aon → Completes (.setmwl h) s (fun t => t.sbd.mwl = w ∧ t.sbd.mrl = s.sbd.mrl)) ∧
    (aon → Completes (.setmrl h) s (fun t => t.sbd.mrl = w ∧ t.sbd.mwl = s.sbd.mwl)) ∧
    (aon → Completes .getstatus s (fun t => t.sent = .i3cStatus s.sbd.daddr :: s.sent)) ∧
    (aon → events.getLsbD 0 = true → Completes (.enec events) s (fun t => t.sbd.ints = true)) ∧
    (aon → events.getLsbD 0 = true → Completes (.disec events) s (fun t => t.sbd.ints = false)) ∧
    (scrubs → met f → Completes (.scrubPass [f] ()) s (fun t => t.mem.errs = [] ∧ t.mem.passCorr = [] ∧
      bits (t.hwOf .MEM_CORR c f.dev) 31 0 = min (2 ^ 32 - 1) (bits (s.hwOf .MEM_CORR c f.dev) 31 0 + 1) ∧
      (s.on .MEM_SPARE 30 c = true → s.fl .MEM_SPARE 15 0 c ≤ s.mem.passCorr.get (16 * c + f.dev) 0 + 1 → f.dev.val ≤ 8 →
        s.spareSt c = 0 → t.spareSt c = 1))) ∧
    (scrubs → met f → met g → g.addr.toNat / 16 * 16 = cw → (f.xfer, f.dev) ≠ (g.xfer, g.dev) → bitOn (s.hwOf .MEM_UE_INFO) 31 = false →
      Completes (.scrubPass [f, g] ()) s (fun t => t.mem.errs.length = 2 ∧ bitOn (t.hwOf .MEM_UE_INFO) 31 = true ∧
        bits (t.hwOf .MEM_UE_INFO) 19 16 = 14 ∧ bits (t.hwOf .MEM_UE_ADDR) 63 0 = cw)) ∧
    (s.spareSt ch = 1 → Completes (.spareCopyDone ch) s (fun t => t.spareSt ch = 2)) ∧
    (s.spareSt ch ≠ 1 → exec (.spareCopyDone ch) s = .next s) ∧
    (s.memWaits q = true → s.fl .MEM_STARVE 15 0 q * 1000 < s.memAge q → Completes (.starveLimit q ()) s (fun t =>
      bitOn (t.hwOf .MEM_REQ_STAT q) 31 = true)) ∧
    (s.memWaits q = false ∨ s.memAge q ≤ s.fl .MEM_STARVE 15 0 q * 1000 → exec (.starveLimit q ()) s = .next s)


/-! ### Cast-on, configuration saves and bind-off -/

/-- R343, R381 to R389: the events of power and cast-on complete: the reset pin, Warden, PWRGOOD, XO, the release of the core's reset, t_go,
training and self-test of the external memory, and the ends of a save and of a bind-off. -/
def Obligations.CastEventsComplete : Prop :=
  ∀ (locked ok ok0 ok1 : Bool) (slot : Nat) (i : Img) (s : State),
    let c := s.cast_
    let cold (t : State) : Prop := t.cast_.code = c.coldCode ∧ (t.cast_.warm = true ↔ c.coldCode = 0)
    let has (h : Fin 2) : Prop := (if h.val = 0 then s.fl .MEM_CFG 3 0 else s.fl .MEM_CFG 7 4) ≠ 0
    let due := c.st = 3 ∧ s.gau.running = true ∧ bitOn s.mem.trained 2 = false
    let tests := c.st = 3 ∧ bitOn s.mem.trained 2 = true ∧ s.mem.ready = false
    Completes .resetAssert s (fun t => t.cast_.rstn = false ∧ t.coreOn = false ∧ t.log.ring = s.log.ring ∧ t.cast_.slots = c.slots ∧
      t.key.slots = s.key.slots ∧ t.flt.haltLatch = s.flt.haltLatch) ∧
    Completes .aonSupplyRemoval s (fun t => t.cast_.aon = false ∧ t.flt.haltLatch = false ∧ t.coreOn = false ∧ t.warden.up = false) ∧
    (c.rstn = false → Completes (.resetRelease false) s (fun t => t.aonRuns = true ∧ t.key = s.key)) ∧
    (c.rstn = false → Completes (.resetRelease true) s (fun t => t.aonRuns = true ∧ t.key.slots = [])) ∧
    (s.aonRuns = true → s.warden.up = false → s.warden.downAt = none → Completes (.huacheraRun true) s (fun t =>
      t.warden.up = true ∧ (c.pwrgood = true → c.xo = true → t.cast_.st = 0) ∧ (c.pwrgood = false → t.log.owed = []))) ∧
    exec (.huacheraRun false) s = .next s ∧
    Completes .pwrgoodFall s (fun t => t.cast_.pwrgood = false ∧ t.cast_.st = 0 ∧ t.coreOn = false ∧ t.gau = Gau.reset ∧ t.seqs = []) ∧
    (c.pwrgood = false → s.aonRuns = true → s.warden.up = true → Completes (.pwrgoodRise true) s (fun t =>
      t.cast_.pwrgood = true ∧ t.cast_.st = 0 ∧ cold t)) ∧
    (c.pwrgood = false → s.aonRuns = true → s.warden.up = true → Completes (.pwrgoodRise false) s (fun t =>
      t.cast_.pwrgood = true ∧ t.cast_.st = 5 ∧ t.cast_.code = 4)) ∧
    (c.st = 5 → c.code = 4 → c.pwrgood = true → s.warden.up = true → Completes .xoPresent s (fun t =>
      t.cast_.xo = true ∧ t.cast_.st = 0 ∧ cold t)) ∧
    (s.casting = true → s.flt.haltLatch = false → c.warm = false → Completes (.coreResetRelease true) s (fun t =>
      t.coreOn = true ∧ t.cast_.st = 1)) ∧
    (s.casting = true → s.flt.haltLatch = false → c.warm = true → Completes (.coreResetRelease true) s (fun t =>
      t.coreOn = true ∧ t.cast_.st = 2 ∧ t.cast_.go = true)) ∧
    (s.casting = true → s.flt.haltLatch = true → Completes (.coreResetRelease true) s (fun t =>
      t.coreOn = true ∧ t.cast_.st = 5 ∧ t.cast_.code = 3 ∧ t.cast_.lock = true)) ∧
    (s.casting = true → Completes (.coreResetRelease false) s (fun t => t.cast_.st = 5 ∧ t.cast_.code = 5 ∧ t.coreOn = false)) ∧
    (s.casting = false → exec (.coreResetRelease locked) s = .next s) ∧
    (s.coreOn = true → c.go = true → s.gau.running = false → Completes .gaugeStart s (fun t =>
      t.gau.running = true ∧ t.gau.g = 0 ∧ t.gau.st = .freeRun ∧ t.cast_.st = 3 ∧ t.cast_.go = false)) ∧
    (due → (has 0 → ok0 = true) → (has 1 → ok1 = true) → Completes (.memTrainDone ok0 ok1) s (fun t =>
      t.cast_ = c ∧ t.mem.failed = s.mem.failed ∧ bitOn t.mem.trained 2 = true ∧
        (bitOn t.mem.trained 0 = true ↔ has 0) ∧ (bitOn t.mem.trained 1 = true ↔ has 1))) ∧
    (due → (has 0 ∧ ok0 = false) ∨ (has 1 ∧ ok1 = false) → Completes (.memTrainDone ok0 ok1) s (fun t =>
      t.mem.failed = true ∧ t.cast_.st = 5 ∧ t.cast_.code = 6)) ∧
    (tests → c.warm = false → Completes (.memSelftestDone true) s (fun t => t.mem.ready = true ∧ t.cast_.st = 4 ∧
      t.cast_.haltMark = false)) ∧
    (tests → c.warm = true → Completes (.memSelftestDone true) s (fun t => t.cast_.st = 4 ∧ t.cast_.code ∈ [0, 8] ∧
      (t.cast_.code = 8 ↔ t.cast_.part = true))) ∧
    (tests → Completes (.memSelftestDone false) s (fun t => t.mem.ready = false ∧ t.mem.failed = true ∧ t.cast_.st = 5 ∧
      t.cast_.code = 7)) ∧
    (c.st ≠ 3 → exec (.memSelftestDone ok) s = .next s ∧ exec (.memTrainDone ok0 ok1) s = .next s) ∧
    (c.save = some (slot, i) → s.hst.reads = [] → s.sbd.wr = none → s.log.gate = [] → Completes .configSaveDone s (fun t =>
      t.cast_.slots.get slot none = some i ∧ t.cast_.save = none ∧ t.log.held = false)) ∧
    (c.bind = 1 → Completes .bindoffDone s (fun t => t.coreOn = false ∧ t.cast_.st = 0 ∧ t.cast_.bind = 2)) ∧
    (c.bind ≠ 1 → exec .bindoffDone s = .next s)


/-! ### The step, the state at reset, the words of the instructions, and what holds of every command -/

/-- A step with a command at the front of the queue is that command's effect on the state with the queue's rest. -/
def Obligations.StepRunsTheFrontCommand : Prop :=
  ∀ (i : Instr) (rest : List Instr) (s : State), s.pending = i :: rest → step s = exec i { s with pending := rest }

/-- On an empty queue a step idles (the model's choice, log entry 2): it ends in a next state, one nanosecond of the Warden clock
later, and the hold of a capture has ended. -/
def Obligations.IdleStepPassesTime : Prop :=
  ∀ s : State, s.pending = [] → s.gau.running = false → s.log.gate = [] → s.hst.reads = [] → s.sbd.wr = none → s.coreOn = false →
    ∃ t, step s = .next t ∧ t.wt = s.wt + 1 ∧ t.log.held = false ∧ t.regs = s.regs ∧ t.gau.l = s.gau.l

/-- R8 to R11, R20, R36, R39, R75, R104, R163, R316, R325: what reset leaves: each register at its reset value, as written and in
force; the core off, the Gauge in FREE-RUN and unbounded, no candidate selected, every output squelched, every sequencer STOPPED,
every link OFF and the twin SOLO; no record in the audit log, and every memory in its canonical form. -/
def Obligations.ResetLeaves : Prop :=
  (∀ x : RegAt, State.reset.lastAt x = x.rst ∧ State.reset.forceAt x = x.rst) ∧
  State.reset.coreOn = false ∧ State.reset.gau.st = .freeRun ∧ State.reset.gau.bound = 0xFFFFFFFF ∧ State.reset.sel.sel = none ∧
  (∀ i : Fin 20, (State.reset.outU i).sq = true) ∧ (∀ n : Fin 160, (State.reset.sq n).st = .stopped) ∧
  (∀ l : Fin 4, (State.reset.link l).st = .off) ∧ State.reset.twin.role = .solo ∧
  State.reset.log.ring = [] ∧ State.reset.log.seq = 0 ∧ State.reset.log.link = 0 ∧ State.reset.memOk = true ∧
  State.reset.pending = []

/-- The words of the example program of chapter 8 decode to the instructions it lists. -/
def Obligations.ExampleWordsDecode : Prop :=
  ∀ n : Fin 160,
    decodeTabxo n 0x50000000 0 = some (.clr n .a0) ∧
    decodeTabxo n 0x50010000 0 = some (.clr n .a1) ∧
    decodeTabxo n 0x6A010100 0 = some (.rptb n 256 1) ∧
    decodeTabxo n 0x600900C0 0 = some (.mac n ⟨.a0, ⟨false, false⟩, .S24H, .L, ⟨.D, 0, .keep⟩, ⟨.C, 4, .keep⟩, none⟩) ∧
    decodeTabxo n 0x60CD02C4 0 = some (.mac n ⟨.a1, ⟨true, false⟩, .S24L, .L, ⟨.D, 0, .byM⟩, ⟨.C, 4, .byM⟩, none⟩) ∧
    decodeTabxo n 0x51000000 0 = some (.acmb n) ∧
    decodeTabxo n 0x49120086 0 = some (.st32 n ⟨.D, 2, .byM⟩ .a0 6 true)

/-- R172 to R191: for every Tabxo instruction, with every operand at every value its format admits, decoding what the encoder gives
answers the instruction. -/
def Obligations.TabxoDecodeEncode : Prop :=
  ∀ (i : Instr) (n : Fin 160) (w x : Nat), tabxoSeq i = some n → encodeTabxo i = some (w, x) → decodeTabxo n w x = some i

/-- R172: the other direction: a word that decodes is the word its instruction encodes to, so no two encodings name one
instruction; the words are 32 bits wide. -/
def Obligations.TabxoEncodeDecode : Prop :=
  ∀ (i : Instr) (n : Fin 160) (w x : Nat), w < 2 ^ 32 → x < 2 ^ 32 → decodeTabxo n w x = some i →
    tabxoSeq i = some n ∧ ∃ y, encodeTabxo i = some (w, y) ∧ (wordCount (BitVec.ofNat 32 w).toNat = 2 → y = x)

/-- Every command that its sender can form ends in a next state: nothing a rule gives an effect stops the device. -/
def Obligations.WellFormedCommandsRun : Prop := ∀ (i : Instr) (s : State), i.wellFormed = true → Runs i s

/-- The addressed memories keep their canonical form in every step: the bytes that differ from 0, at rising addresses, so that equal
memories are equal data. -/
def Obligations.StepsKeepMemoriesCanonical : Prop :=
  ∀ s t : State, s.memOk = true → step s = .next t → t.memOk = true


/-! ### Rules stated whole -/

/-- R176: Bcc branches to its target when the condition of its COND field holds, and goes on at the next word when it does not; but for the
repeat levels that a taken branch leaves (R148) nothing else of the sequencer changes. -/
def Obligations.BranchConditions : Prop :=
  ∀ (n : Fin 160) (c : Fin 16) (w : BitVec 12) (s : State), s.runs n = true → Placed (s.sq n) →
    Completes (.bcc n c w) s (fun t =>
      (Taken (s.sq n) c → ∃ r, t.sq n = { s.sq n with pc := 4 * w.toNat, reps := r }) ∧
      (¬ Taken (s.sq n) c → t.sq n = { s.sq n with pc := ((s.sq n).pc + 4) % 2 ^ 14 }))

/-- R204: a shadow table of a port is valid exactly when its CYCLE, BASE, NSLOT and offsets are as the rule lists. -/
def Obligations.RowTableValidity : Prop :=
  ∀ (s : State) (p : Fin 8),
    let cycle := s.inForce .ROWT_CYCLE p
    let n := s.inForce .ROWT_NSLOT p
    let ofs (i : Nat) := s.inForce .ROWT_OFS p i
    s.shadowValid p = true ↔ 1000 ≤ cycle ∧ cycle ≤ 10 ^ 9 ∧ cycle ∣ 10 ^ 9 ∧ s.inForce .ROWT_BASE p < cycle ∧ 1 ≤ n ∧ n ≤ 256 ∧
      ofs 0 = 0 ∧ ∀ i j, i < j → j < n → ofs i < ofs j ∧ ofs j < cycle

/-- R64: the local time advances by exactly 1 ns per G-clock edge, whatever increment, slew or step the Gauge applies at it, while the
Gauge itself moves by its increment, the slew and the step. -/
def Obligations.LocalTimeAdvances : Prop :=
  ∀ s : State, s.gEdge.gau.l = s.gau.l + 1 ∧
    (s.gau.sched = none → s.gEdge.gau.g = ((s.gau.g : Int) + s.incOf (s.slewPart s.gau.rem)).toNat % 2 ^ 104)
end

