-- ==== Sys2Proof/Laws/State.lean ====
section
/-! SUPPORT. What each named update of the state leaves in each field: one lemma per field per update, true by unfolding. -/

namespace Sys2Proof.Machine

/-! ### setReg -/
@[simp] theorem State.setReg_pending (s : State) (r : RegName) (v i j l : Nat) : (s.setReg r v i j l).pending = s.pending := rfl
@[simp] theorem State.setReg_sent (s : State) (r : RegName) (v i j l : Nat) : (s.setReg r v i j l).sent = s.sent := rfl
@[simp] theorem State.setReg_free (s : State) (r : RegName) (v i j l : Nat) : (s.setReg r v i j l).free = s.free := rfl
@[simp] theorem State.setReg_wt (s : State) (r : RegName) (v i j l : Nat) : (s.setReg r v i j l).wt = s.wt := rfl
@[simp] theorem State.setReg_fired (s : State) (r : RegName) (v i j l : Nat) : (s.setReg r v i j l).fired = s.fired := rfl
@[simp] theorem State.setReg_regs (s : State) (r : RegName) (v i j l : Nat) : (s.setReg r v i j l).regs = s.regs.set (r.addr i j l) v := rfl
@[simp] theorem State.setReg_force (s : State) (r : RegName) (v i j l : Nat) : (s.setReg r v i j l).force = s.force.set (r.addr i j l) v := rfl
@[simp] theorem State.setReg_hw (s : State) (r : RegName) (v i j l : Nat) : (s.setReg r v i j l).hw = s.hw := rfl
@[simp] theorem State.setReg_staged (s : State) (r : RegName) (v i j l : Nat) : (s.setReg r v i j l).staged = s.staged := rfl
@[simp] theorem State.setReg_latches (s : State) (r : RegName) (v i j l : Nat) : (s.setReg r v i j l).latches = s.latches := rfl
@[simp] theorem State.setReg_hostErr (s : State) (r : RegName) (v i j l : Nat) : (s.setReg r v i j l).hostErr = s.hostErr := rfl
@[simp] theorem State.setReg_sbdErr (s : State) (r : RegName) (v i j l : Nat) : (s.setReg r v i j l).sbdErr = s.sbdErr := rfl
@[simp] theorem State.setReg_warden (s : State) (r : RegName) (v i j l : Nat) : (s.setReg r v i j l).warden = s.warden := rfl
@[simp] theorem State.setReg_log (s : State) (r : RegName) (v i j l : Nat) : (s.setReg r v i j l).log = s.log := rfl
@[simp] theorem State.setReg_gau (s : State) (r : RegName) (v i j l : Nat) : (s.setReg r v i j l).gau = s.gau := rfl
@[simp] theorem State.setReg_sel (s : State) (r : RegName) (v i j l : Nat) : (s.setReg r v i j l).sel = s.sel := rfl
@[simp] theorem State.setReg_hld (s : State) (r : RegName) (v i j l : Nat) : (s.setReg r v i j l).hld = s.hld := rfl
@[simp] theorem State.setReg_out (s : State) (r : RegName) (v i j l : Nat) : (s.setReg r v i j l).out = s.out := rfl
@[simp] theorem State.setReg_seqs (s : State) (r : RegName) (v i j l : Nat) : (s.setReg r v i j l).seqs = s.seqs := rfl
@[simp] theorem State.setReg_clus (s : State) (r : RegName) (v i j l : Nat) : (s.setReg r v i j l).clus = s.clus := rfl
@[simp] theorem State.setReg_flt (s : State) (r : RegName) (v i j l : Nat) : (s.setReg r v i j l).flt = s.flt := rfl
@[simp] theorem State.setReg_rcd (s : State) (r : RegName) (v i j l : Nat) : (s.setReg r v i j l).rcd = s.rcd := rfl
@[simp] theorem State.setReg_pmc (s : State) (r : RegName) (v i j l : Nat) : (s.setReg r v i j l).pmc = s.pmc := rfl
@[simp] theorem State.setReg_links (s : State) (r : RegName) (v i j l : Nat) : (s.setReg r v i j l).links = s.links := rfl
@[simp] theorem State.setReg_twin (s : State) (r : RegName) (v i j l : Nat) : (s.setReg r v i j l).twin = s.twin := rfl
@[simp] theorem State.setReg_tdc (s : State) (r : RegName) (v i j l : Nat) : (s.setReg r v i j l).tdc = s.tdc := rfl
@[simp] theorem State.setReg_gnb (s : State) (r : RegName) (v i j l : Nat) : (s.setReg r v i j l).gnb = s.gnb := rfl
@[simp] theorem State.setReg_key (s : State) (r : RegName) (v i j l : Nat) : (s.setReg r v i j l).key = s.key := rfl
@[simp] theorem State.setReg_fuses (s : State) (r : RegName) (v i j l : Nat) : (s.setReg r v i j l).fuses = s.fuses := rfl
@[simp] theorem State.setReg_att (s : State) (r : RegName) (v i j l : Nat) : (s.setReg r v i j l).att = s.att := rfl
@[simp] theorem State.setReg_eth (s : State) (r : RegName) (v i j l : Nat) : (s.setReg r v i j l).eth = s.eth := rfl
@[simp] theorem State.setReg_tsv (s : State) (r : RegName) (v i j l : Nat) : (s.setReg r v i j l).tsv = s.tsv := rfl
@[simp] theorem State.setReg_aud (s : State) (r : RegName) (v i j l : Nat) : (s.setReg r v i j l).aud = s.aud := rfl
@[simp] theorem State.setReg_mix (s : State) (r : RegName) (v i j l : Nat) : (s.setReg r v i j l).mix = s.mix := rfl
@[simp] theorem State.setReg_hst (s : State) (r : RegName) (v i j l : Nat) : (s.setReg r v i j l).hst = s.hst := rfl
@[simp] theorem State.setReg_sbd (s : State) (r : RegName) (v i j l : Nat) : (s.setReg r v i j l).sbd = s.sbd := rfl
@[simp] theorem State.setReg_mem (s : State) (r : RegName) (v i j l : Nat) : (s.setReg r v i j l).mem = s.mem := rfl
@[simp] theorem State.setReg_cast_ (s : State) (r : RegName) (v i j l : Nat) : (s.setReg r v i j l).cast_ = s.cast_ := rfl
@[simp] theorem State.setReg_dram (s : State) (r : RegName) (v i j l : Nat) : (s.setReg r v i j l).dram = s.dram := rfl
@[simp] theorem State.setReg_coreOn (s : State) (r : RegName) (v i j l : Nat) : (s.setReg r v i j l).coreOn = s.coreOn := rfl

/-! ### setFl -/
@[simp] theorem State.setFl_pending (s : State) (r : RegName) (hi lo w i j l : Nat) : (s.setFl r hi lo w i j l).pending = s.pending := rfl
@[simp] theorem State.setFl_sent (s : State) (r : RegName) (hi lo w i j l : Nat) : (s.setFl r hi lo w i j l).sent = s.sent := rfl
@[simp] theorem State.setFl_free (s : State) (r : RegName) (hi lo w i j l : Nat) : (s.setFl r hi lo w i j l).free = s.free := rfl
@[simp] theorem State.setFl_wt (s : State) (r : RegName) (hi lo w i j l : Nat) : (s.setFl r hi lo w i j l).wt = s.wt := rfl
@[simp] theorem State.setFl_fired (s : State) (r : RegName) (hi lo w i j l : Nat) : (s.setFl r hi lo w i j l).fired = s.fired := rfl
@[simp] theorem State.setFl_regs (s : State) (r : RegName) (hi lo w i j l : Nat) : (s.setFl r hi lo w i j l).regs = s.regs.set (r.addr i j l) (putBits (s.lastOf r i j l) hi lo w) := rfl
@[simp] theorem State.setFl_force (s : State) (r : RegName) (hi lo w i j l : Nat) : (s.setFl r hi lo w i j l).force = s.force.set (r.addr i j l) (putBits (s.inForce r i j l) hi lo w) := rfl
@[simp] theorem State.setFl_hw (s : State) (r : RegName) (hi lo w i j l : Nat) : (s.setFl r hi lo w i j l).hw = s.hw := rfl
@[simp] theorem State.setFl_staged (s : State) (r : RegName) (hi lo w i j l : Nat) : (s.setFl r hi lo w i j l).staged = s.staged := rfl
@[simp] theorem State.setFl_latches (s : State) (r : RegName) (hi lo w i j l : Nat) : (s.setFl r hi lo w i j l).latches = s.latches := rfl
@[simp] theorem State.setFl_hostErr (s : State) (r : RegName) (hi lo w i j l : Nat) : (s.setFl r hi lo w i j l).hostErr = s.hostErr := rfl
@[simp] theorem State.setFl_sbdErr (s : State) (r : RegName) (hi lo w i j l : Nat) : (s.setFl r hi lo w i j l).sbdErr = s.sbdErr := rfl
@[simp] theorem State.setFl_warden (s : State) (r : RegName) (hi lo w i j l : Nat) : (s.setFl r hi lo w i j l).warden = s.warden := rfl
@[simp] theorem State.setFl_log (s : State) (r : RegName) (hi lo w i j l : Nat) : (s.setFl r hi lo w i j l).log = s.log := rfl
@[simp] theorem State.setFl_gau (s : State) (r : RegName) (hi lo w i j l : Nat) : (s.setFl r hi lo w i j l).gau = s.gau := rfl
@[simp] theorem State.setFl_sel (s : State) (r : RegName) (hi lo w i j l : Nat) : (s.setFl r hi lo w i j l).sel = s.sel := rfl
@[simp] theorem State.setFl_hld (s : State) (r : RegName) (hi lo w i j l : Nat) : (s.setFl r hi lo w i j l).hld = s.hld := rfl
@[simp] theorem State.setFl_out (s : State) (r : RegName) (hi lo w i j l : Nat) : (s.setFl r hi lo w i j l).out = s.out := rfl
@[simp] theorem State.setFl_seqs (s : State) (r : RegName) (hi lo w i j l : Nat) : (s.setFl r hi lo w i j l).seqs = s.seqs := rfl
@[simp] theorem State.setFl_clus (s : State) (r : RegName) (hi lo w i j l : Nat) : (s.setFl r hi lo w i j l).clus = s.clus := rfl
@[simp] theorem State.setFl_flt (s : State) (r : RegName) (hi lo w i j l : Nat) : (s.setFl r hi lo w i j l).flt = s.flt := rfl
@[simp] theorem State.setFl_rcd (s : State) (r : RegName) (hi lo w i j l : Nat) : (s.setFl r hi lo w i j l).rcd = s.rcd := rfl
@[simp] theorem State.setFl_pmc (s : State) (r : RegName) (hi lo w i j l : Nat) : (s.setFl r hi lo w i j l).pmc = s.pmc := rfl
@[simp] theorem State.setFl_links (s : State) (r : RegName) (hi lo w i j l : Nat) : (s.setFl r hi lo w i j l).links = s.links := rfl
@[simp] theorem State.setFl_twin (s : State) (r : RegName) (hi lo w i j l : Nat) : (s.setFl r hi lo w i j l).twin = s.twin := rfl
@[simp] theorem State.setFl_tdc (s : State) (r : RegName) (hi lo w i j l : Nat) : (s.setFl r hi lo w i j l).tdc = s.tdc := rfl
@[simp] theorem State.setFl_gnb (s : State) (r : RegName) (hi lo w i j l : Nat) : (s.setFl r hi lo w i j l).gnb = s.gnb := rfl
@[simp] theorem State.setFl_key (s : State) (r : RegName) (hi lo w i j l : Nat) : (s.setFl r hi lo w i j l).key = s.key := rfl
@[simp] theorem State.setFl_fuses (s : State) (r : RegName) (hi lo w i j l : Nat) : (s.setFl r hi lo w i j l).fuses = s.fuses := rfl
@[simp] theorem State.setFl_att (s : State) (r : RegName) (hi lo w i j l : Nat) : (s.setFl r hi lo w i j l).att = s.att := rfl
@[simp] theorem State.setFl_eth (s : State) (r : RegName) (hi lo w i j l : Nat) : (s.setFl r hi lo w i j l).eth = s.eth := rfl
@[simp] theorem State.setFl_tsv (s : State) (r : RegName) (hi lo w i j l : Nat) : (s.setFl r hi lo w i j l).tsv = s.tsv := rfl
@[simp] theorem State.setFl_aud (s : State) (r : RegName) (hi lo w i j l : Nat) : (s.setFl r hi lo w i j l).aud = s.aud := rfl
@[simp] theorem State.setFl_mix (s : State) (r : RegName) (hi lo w i j l : Nat) : (s.setFl r hi lo w i j l).mix = s.mix := rfl
@[simp] theorem State.setFl_hst (s : State) (r : RegName) (hi lo w i j l : Nat) : (s.setFl r hi lo w i j l).hst = s.hst := rfl
@[simp] theorem State.setFl_sbd (s : State) (r : RegName) (hi lo w i j l : Nat) : (s.setFl r hi lo w i j l).sbd = s.sbd := rfl
@[simp] theorem State.setFl_mem (s : State) (r : RegName) (hi lo w i j l : Nat) : (s.setFl r hi lo w i j l).mem = s.mem := rfl
@[simp] theorem State.setFl_cast_ (s : State) (r : RegName) (hi lo w i j l : Nat) : (s.setFl r hi lo w i j l).cast_ = s.cast_ := rfl
@[simp] theorem State.setFl_dram (s : State) (r : RegName) (hi lo w i j l : Nat) : (s.setFl r hi lo w i j l).dram = s.dram := rfl
@[simp] theorem State.setFl_coreOn (s : State) (r : RegName) (hi lo w i j l : Nat) : (s.setFl r hi lo w i j l).coreOn = s.coreOn := rfl

/-! ### setHw -/
@[simp] theorem State.setHw_pending (s : State) (r : RegName) (hi lo w i j l : Nat) : (s.setHw r hi lo w i j l).pending = s.pending := rfl
@[simp] theorem State.setHw_sent (s : State) (r : RegName) (hi lo w i j l : Nat) : (s.setHw r hi lo w i j l).sent = s.sent := rfl
@[simp] theorem State.setHw_free (s : State) (r : RegName) (hi lo w i j l : Nat) : (s.setHw r hi lo w i j l).free = s.free := rfl
@[simp] theorem State.setHw_wt (s : State) (r : RegName) (hi lo w i j l : Nat) : (s.setHw r hi lo w i j l).wt = s.wt := rfl
@[simp] theorem State.setHw_fired (s : State) (r : RegName) (hi lo w i j l : Nat) : (s.setHw r hi lo w i j l).fired = s.fired := rfl
@[simp] theorem State.setHw_regs (s : State) (r : RegName) (hi lo w i j l : Nat) : (s.setHw r hi lo w i j l).regs = s.regs := rfl
@[simp] theorem State.setHw_force (s : State) (r : RegName) (hi lo w i j l : Nat) : (s.setHw r hi lo w i j l).force = s.force := rfl
@[simp] theorem State.setHw_hw (s : State) (r : RegName) (hi lo w i j l : Nat) : (s.setHw r hi lo w i j l).hw = s.hw.set (r.addr i j l) (putBits (s.hwOf r i j l) hi lo w) := rfl
@[simp] theorem State.setHw_staged (s : State) (r : RegName) (hi lo w i j l : Nat) : (s.setHw r hi lo w i j l).staged = s.staged := rfl
@[simp] theorem State.setHw_latches (s : State) (r : RegName) (hi lo w i j l : Nat) : (s.setHw r hi lo w i j l).latches = s.latches := rfl
@[simp] theorem State.setHw_hostErr (s : State) (r : RegName) (hi lo w i j l : Nat) : (s.setHw r hi lo w i j l).hostErr = s.hostErr := rfl
@[simp] theorem State.setHw_sbdErr (s : State) (r : RegName) (hi lo w i j l : Nat) : (s.setHw r hi lo w i j l).sbdErr = s.sbdErr := rfl
@[simp] theorem State.setHw_warden (s : State) (r : RegName) (hi lo w i j l : Nat) : (s.setHw r hi lo w i j l).warden = s.warden := rfl
@[simp] theorem State.setHw_log (s : State) (r : RegName) (hi lo w i j l : Nat) : (s.setHw r hi lo w i j l).log = s.log := rfl
@[simp] theorem State.setHw_gau (s : State) (r : RegName) (hi lo w i j l : Nat) : (s.setHw r hi lo w i j l).gau = s.gau := rfl
@[simp] theorem State.setHw_sel (s : State) (r : RegName) (hi lo w i j l : Nat) : (s.setHw r hi lo w i j l).sel = s.sel := rfl
@[simp] theorem State.setHw_hld (s : State) (r : RegName) (hi lo w i j l : Nat) : (s.setHw r hi lo w i j l).hld = s.hld := rfl
@[simp] theorem State.setHw_out (s : State) (r : RegName) (hi lo w i j l : Nat) : (s.setHw r hi lo w i j l).out = s.out := rfl
@[simp] theorem State.setHw_seqs (s : State) (r : RegName) (hi lo w i j l : Nat) : (s.setHw r hi lo w i j l).seqs = s.seqs := rfl
@[simp] theorem State.setHw_clus (s : State) (r : RegName) (hi lo w i j l : Nat) : (s.setHw r hi lo w i j l).clus = s.clus := rfl
@[simp] theorem State.setHw_flt (s : State) (r : RegName) (hi lo w i j l : Nat) : (s.setHw r hi lo w i j l).flt = s.flt := rfl
@[simp] theorem State.setHw_rcd (s : State) (r : RegName) (hi lo w i j l : Nat) : (s.setHw r hi lo w i j l).rcd = s.rcd := rfl
@[simp] theorem State.setHw_pmc (s : State) (r : RegName) (hi lo w i j l : Nat) : (s.setHw r hi lo w i j l).pmc = s.pmc := rfl
@[simp] theorem State.setHw_links (s : State) (r : RegName) (hi lo w i j l : Nat) : (s.setHw r hi lo w i j l).links = s.links := rfl
@[simp] theorem State.setHw_twin (s : State) (r : RegName) (hi lo w i j l : Nat) : (s.setHw r hi lo w i j l).twin = s.twin := rfl
@[simp] theorem State.setHw_tdc (s : State) (r : RegName) (hi lo w i j l : Nat) : (s.setHw r hi lo w i j l).tdc = s.tdc := rfl
@[simp] theorem State.setHw_gnb (s : State) (r : RegName) (hi lo w i j l : Nat) : (s.setHw r hi lo w i j l).gnb = s.gnb := rfl
@[simp] theorem State.setHw_key (s : State) (r : RegName) (hi lo w i j l : Nat) : (s.setHw r hi lo w i j l).key = s.key := rfl
@[simp] theorem State.setHw_fuses (s : State) (r : RegName) (hi lo w i j l : Nat) : (s.setHw r hi lo w i j l).fuses = s.fuses := rfl
@[simp] theorem State.setHw_att (s : State) (r : RegName) (hi lo w i j l : Nat) : (s.setHw r hi lo w i j l).att = s.att := rfl
@[simp] theorem State.setHw_eth (s : State) (r : RegName) (hi lo w i j l : Nat) : (s.setHw r hi lo w i j l).eth = s.eth := rfl
@[simp] theorem State.setHw_tsv (s : State) (r : RegName) (hi lo w i j l : Nat) : (s.setHw r hi lo w i j l).tsv = s.tsv := rfl
@[simp] theorem State.setHw_aud (s : State) (r : RegName) (hi lo w i j l : Nat) : (s.setHw r hi lo w i j l).aud = s.aud := rfl
@[simp] theorem State.setHw_mix (s : State) (r : RegName) (hi lo w i j l : Nat) : (s.setHw r hi lo w i j l).mix = s.mix := rfl
@[simp] theorem State.setHw_hst (s : State) (r : RegName) (hi lo w i j l : Nat) : (s.setHw r hi lo w i j l).hst = s.hst := rfl
@[simp] theorem State.setHw_sbd (s : State) (r : RegName) (hi lo w i j l : Nat) : (s.setHw r hi lo w i j l).sbd = s.sbd := rfl
@[simp] theorem State.setHw_mem (s : State) (r : RegName) (hi lo w i j l : Nat) : (s.setHw r hi lo w i j l).mem = s.mem := rfl
@[simp] theorem State.setHw_cast_ (s : State) (r : RegName) (hi lo w i j l : Nat) : (s.setHw r hi lo w i j l).cast_ = s.cast_ := rfl
@[simp] theorem State.setHw_dram (s : State) (r : RegName) (hi lo w i j l : Nat) : (s.setHw r hi lo w i j l).dram = s.dram := rfl
@[simp] theorem State.setHw_coreOn (s : State) (r : RegName) (hi lo w i j l : Nat) : (s.setHw r hi lo w i j l).coreOn = s.coreOn := rfl

/-! ### bump -/
@[simp] theorem State.bump_pending (s : State) (r : RegName) (hi lo k i j l : Nat) : (s.bump r hi lo k i j l).pending = s.pending := rfl
@[simp] theorem State.bump_sent (s : State) (r : RegName) (hi lo k i j l : Nat) : (s.bump r hi lo k i j l).sent = s.sent := rfl
@[simp] theorem State.bump_free (s : State) (r : RegName) (hi lo k i j l : Nat) : (s.bump r hi lo k i j l).free = s.free := rfl
@[simp] theorem State.bump_wt (s : State) (r : RegName) (hi lo k i j l : Nat) : (s.bump r hi lo k i j l).wt = s.wt := rfl
@[simp] theorem State.bump_fired (s : State) (r : RegName) (hi lo k i j l : Nat) : (s.bump r hi lo k i j l).fired = s.fired := rfl
@[simp] theorem State.bump_regs (s : State) (r : RegName) (hi lo k i j l : Nat) : (s.bump r hi lo k i j l).regs = s.regs := rfl
@[simp] theorem State.bump_force (s : State) (r : RegName) (hi lo k i j l : Nat) : (s.bump r hi lo k i j l).force = s.force := rfl
@[simp] theorem State.bump_staged (s : State) (r : RegName) (hi lo k i j l : Nat) : (s.bump r hi lo k i j l).staged = s.staged := rfl
@[simp] theorem State.bump_latches (s : State) (r : RegName) (hi lo k i j l : Nat) : (s.bump r hi lo k i j l).latches = s.latches := rfl
@[simp] theorem State.bump_hostErr (s : State) (r : RegName) (hi lo k i j l : Nat) : (s.bump r hi lo k i j l).hostErr = s.hostErr := rfl
@[simp] theorem State.bump_sbdErr (s : State) (r : RegName) (hi lo k i j l : Nat) : (s.bump r hi lo k i j l).sbdErr = s.sbdErr := rfl
@[simp] theorem State.bump_warden (s : State) (r : RegName) (hi lo k i j l : Nat) : (s.bump r hi lo k i j l).warden = s.warden := rfl
@[simp] theorem State.bump_log (s : State) (r : RegName) (hi lo k i j l : Nat) : (s.bump r hi lo k i j l).log = s.log := rfl
@[simp] theorem State.bump_gau (s : State) (r : RegName) (hi lo k i j l : Nat) : (s.bump r hi lo k i j l).gau = s.gau := rfl
@[simp] theorem State.bump_sel (s : State) (r : RegName) (hi lo k i j l : Nat) : (s.bump r hi lo k i j l).sel = s.sel := rfl
@[simp] theorem State.bump_hld (s : State) (r : RegName) (hi lo k i j l : Nat) : (s.bump r hi lo k i j l).hld = s.hld := rfl
@[simp] theorem State.bump_out (s : State) (r : RegName) (hi lo k i j l : Nat) : (s.bump r hi lo k i j l).out = s.out := rfl
@[simp] theorem State.bump_seqs (s : State) (r : RegName) (hi lo k i j l : Nat) : (s.bump r hi lo k i j l).seqs = s.seqs := rfl
@[simp] theorem State.bump_clus (s : State) (r : RegName) (hi lo k i j l : Nat) : (s.bump r hi lo k i j l).clus = s.clus := rfl
@[simp] theorem State.bump_flt (s : State) (r : RegName) (hi lo k i j l : Nat) : (s.bump r hi lo k i j l).flt = s.flt := rfl
@[simp] theorem State.bump_rcd (s : State) (r : RegName) (hi lo k i j l : Nat) : (s.bump r hi lo k i j l).rcd = s.rcd := rfl
@[simp] theorem State.bump_pmc (s : State) (r : RegName) (hi lo k i j l : Nat) : (s.bump r hi lo k i j l).pmc = s.pmc := rfl
@[simp] theorem State.bump_links (s : State) (r : RegName) (hi lo k i j l : Nat) : (s.bump r hi lo k i j l).links = s.links := rfl
@[simp] theorem State.bump_twin (s : State) (r : RegName) (hi lo k i j l : Nat) : (s.bump r hi lo k i j l).twin = s.twin := rfl
@[simp] theorem State.bump_tdc (s : State) (r : RegName) (hi lo k i j l : Nat) : (s.bump r hi lo k i j l).tdc = s.tdc := rfl
@[simp] theorem State.bump_gnb (s : State) (r : RegName) (hi lo k i j l : Nat) : (s.bump r hi lo k i j l).gnb = s.gnb := rfl
@[simp] theorem State.bump_key (s : State) (r : RegName) (hi lo k i j l : Nat) : (s.bump r hi lo k i j l).key = s.key := rfl
@[simp] theorem State.bump_fuses (s : State) (r : RegName) (hi lo k i j l : Nat) : (s.bump r hi lo k i j l).fuses = s.fuses := rfl
@[simp] theorem State.bump_att (s : State) (r : RegName) (hi lo k i j l : Nat) : (s.bump r hi lo k i j l).att = s.att := rfl
@[simp] theorem State.bump_eth (s : State) (r : RegName) (hi lo k i j l : Nat) : (s.bump r hi lo k i j l).eth = s.eth := rfl
@[simp] theorem State.bump_tsv (s : State) (r : RegName) (hi lo k i j l : Nat) : (s.bump r hi lo k i j l).tsv = s.tsv := rfl
@[simp] theorem State.bump_aud (s : State) (r : RegName) (hi lo k i j l : Nat) : (s.bump r hi lo k i j l).aud = s.aud := rfl
@[simp] theorem State.bump_mix (s : State) (r : RegName) (hi lo k i j l : Nat) : (s.bump r hi lo k i j l).mix = s.mix := rfl
@[simp] theorem State.bump_hst (s : State) (r : RegName) (hi lo k i j l : Nat) : (s.bump r hi lo k i j l).hst = s.hst := rfl
@[simp] theorem State.bump_sbd (s : State) (r : RegName) (hi lo k i j l : Nat) : (s.bump r hi lo k i j l).sbd = s.sbd := rfl
@[simp] theorem State.bump_mem (s : State) (r : RegName) (hi lo k i j l : Nat) : (s.bump r hi lo k i j l).mem = s.mem := rfl
@[simp] theorem State.bump_cast_ (s : State) (r : RegName) (hi lo k i j l : Nat) : (s.bump r hi lo k i j l).cast_ = s.cast_ := rfl
@[simp] theorem State.bump_dram (s : State) (r : RegName) (hi lo k i j l : Nat) : (s.bump r hi lo k i j l).dram = s.dram := rfl
@[simp] theorem State.bump_coreOn (s : State) (r : RegName) (hi lo k i j l : Nat) : (s.bump r hi lo k i j l).coreOn = s.coreOn := rfl

/-! ### setSq -/
@[simp] theorem State.setSq_pending (s : State) (n : Nat) (q : Seq) : (s.setSq n q).pending = s.pending := rfl
@[simp] theorem State.setSq_sent (s : State) (n : Nat) (q : Seq) : (s.setSq n q).sent = s.sent := rfl
@[simp] theorem State.setSq_free (s : State) (n : Nat) (q : Seq) : (s.setSq n q).free = s.free := rfl
@[simp] theorem State.setSq_wt (s : State) (n : Nat) (q : Seq) : (s.setSq n q).wt = s.wt := rfl
@[simp] theorem State.setSq_fired (s : State) (n : Nat) (q : Seq) : (s.setSq n q).fired = s.fired := rfl
@[simp] theorem State.setSq_regs (s : State) (n : Nat) (q : Seq) : (s.setSq n q).regs = s.regs := rfl
@[simp] theorem State.setSq_force (s : State) (n : Nat) (q : Seq) : (s.setSq n q).force = s.force := rfl
@[simp] theorem State.setSq_hw (s : State) (n : Nat) (q : Seq) : (s.setSq n q).hw = s.hw := rfl
@[simp] theorem State.setSq_staged (s : State) (n : Nat) (q : Seq) : (s.setSq n q).staged = s.staged := rfl
@[simp] theorem State.setSq_latches (s : State) (n : Nat) (q : Seq) : (s.setSq n q).latches = s.latches := rfl
@[simp] theorem State.setSq_hostErr (s : State) (n : Nat) (q : Seq) : (s.setSq n q).hostErr = s.hostErr := rfl
@[simp] theorem State.setSq_sbdErr (s : State) (n : Nat) (q : Seq) : (s.setSq n q).sbdErr = s.sbdErr := rfl
@[simp] theorem State.setSq_warden (s : State) (n : Nat) (q : Seq) : (s.setSq n q).warden = s.warden := rfl
@[simp] theorem State.setSq_log (s : State) (n : Nat) (q : Seq) : (s.setSq n q).log = s.log := rfl
@[simp] theorem State.setSq_gau (s : State) (n : Nat) (q : Seq) : (s.setSq n q).gau = s.gau := rfl
@[simp] theorem State.setSq_sel (s : State) (n : Nat) (q : Seq) : (s.setSq n q).sel = s.sel := rfl
@[simp] theorem State.setSq_hld (s : State) (n : Nat) (q : Seq) : (s.setSq n q).hld = s.hld := rfl
@[simp] theorem State.setSq_out (s : State) (n : Nat) (q : Seq) : (s.setSq n q).out = s.out := rfl
@[simp] theorem State.setSq_seqs (s : State) (n : Nat) (q : Seq) : (s.setSq n q).seqs = s.seqs.set n q := rfl
@[simp] theorem State.setSq_clus (s : State) (n : Nat) (q : Seq) : (s.setSq n q).clus = s.clus := rfl
@[simp] theorem State.setSq_flt (s : State) (n : Nat) (q : Seq) : (s.setSq n q).flt = s.flt := rfl
@[simp] theorem State.setSq_rcd (s : State) (n : Nat) (q : Seq) : (s.setSq n q).rcd = s.rcd := rfl
@[simp] theorem State.setSq_pmc (s : State) (n : Nat) (q : Seq) : (s.setSq n q).pmc = s.pmc := rfl
@[simp] theorem State.setSq_links (s : State) (n : Nat) (q : Seq) : (s.setSq n q).links = s.links := rfl
@[simp] theorem State.setSq_twin (s : State) (n : Nat) (q : Seq) : (s.setSq n q).twin = s.twin := rfl
@[simp] theorem State.setSq_tdc (s : State) (n : Nat) (q : Seq) : (s.setSq n q).tdc = s.tdc := rfl
@[simp] theorem State.setSq_gnb (s : State) (n : Nat) (q : Seq) : (s.setSq n q).gnb = s.gnb := rfl
@[simp] theorem State.setSq_key (s : State) (n : Nat) (q : Seq) : (s.setSq n q).key = s.key := rfl
@[simp] theorem State.setSq_fuses (s : State) (n : Nat) (q : Seq) : (s.setSq n q).fuses = s.fuses := rfl
@[simp] theorem State.setSq_att (s : State) (n : Nat) (q : Seq) : (s.setSq n q).att = s.att := rfl
@[simp] theorem State.setSq_eth (s : State) (n : Nat) (q : Seq) : (s.setSq n q).eth = s.eth := rfl
@[simp] theorem State.setSq_tsv (s : State) (n : Nat) (q : Seq) : (s.setSq n q).tsv = s.tsv := rfl
@[simp] theorem State.setSq_aud (s : State) (n : Nat) (q : Seq) : (s.setSq n q).aud = s.aud := rfl
@[simp] theorem State.setSq_mix (s : State) (n : Nat) (q : Seq) : (s.setSq n q).mix = s.mix := rfl
@[simp] theorem State.setSq_hst (s : State) (n : Nat) (q : Seq) : (s.setSq n q).hst = s.hst := rfl
@[simp] theorem State.setSq_sbd (s : State) (n : Nat) (q : Seq) : (s.setSq n q).sbd = s.sbd := rfl
@[simp] theorem State.setSq_mem (s : State) (n : Nat) (q : Seq) : (s.setSq n q).mem = s.mem := rfl
@[simp] theorem State.setSq_cast_ (s : State) (n : Nat) (q : Seq) : (s.setSq n q).cast_ = s.cast_ := rfl
@[simp] theorem State.setSq_dram (s : State) (n : Nat) (q : Seq) : (s.setSq n q).dram = s.dram := rfl
@[simp] theorem State.setSq_coreOn (s : State) (n : Nat) (q : Seq) : (s.setSq n q).coreOn = s.coreOn := rfl

/-! ### setClu -/
@[simp] theorem State.setClu_pending (s : State) (n : Nat) (c : Clu) : (s.setClu n c).pending = s.pending := rfl
@[simp] theorem State.setClu_sent (s : State) (n : Nat) (c : Clu) : (s.setClu n c).sent = s.sent := rfl
@[simp] theorem State.setClu_free (s : State) (n : Nat) (c : Clu) : (s.setClu n c).free = s.free := rfl
@[simp] theorem State.setClu_wt (s : State) (n : Nat) (c : Clu) : (s.setClu n c).wt = s.wt := rfl
@[simp] theorem State.setClu_fired (s : State) (n : Nat) (c : Clu) : (s.setClu n c).fired = s.fired := rfl
@[simp] theorem State.setClu_regs (s : State) (n : Nat) (c : Clu) : (s.setClu n c).regs = s.regs := rfl
@[simp] theorem State.setClu_force (s : State) (n : Nat) (c : Clu) : (s.setClu n c).force = s.force := rfl
@[simp] theorem State.setClu_hw (s : State) (n : Nat) (c : Clu) : (s.setClu n c).hw = s.hw := rfl
@[simp] theorem State.setClu_staged (s : State) (n : Nat) (c : Clu) : (s.setClu n c).staged = s.staged := rfl
@[simp] theorem State.setClu_latches (s : State) (n : Nat) (c : Clu) : (s.setClu n c).latches = s.latches := rfl
@[simp] theorem State.setClu_hostErr (s : State) (n : Nat) (c : Clu) : (s.setClu n c).hostErr = s.hostErr := rfl
@[simp] theorem State.setClu_sbdErr (s : State) (n : Nat) (c : Clu) : (s.setClu n c).sbdErr = s.sbdErr := rfl
@[simp] theorem State.setClu_warden (s : State) (n : Nat) (c : Clu) : (s.setClu n c).warden = s.warden := rfl
@[simp] theorem State.setClu_log (s : State) (n : Nat) (c : Clu) : (s.setClu n c).log = s.log := rfl
@[simp] theorem State.setClu_gau (s : State) (n : Nat) (c : Clu) : (s.setClu n c).gau = s.gau := rfl
@[simp] theorem State.setClu_sel (s : State) (n : Nat) (c : Clu) : (s.setClu n c).sel = s.sel := rfl
@[simp] theorem State.setClu_hld (s : State) (n : Nat) (c : Clu) : (s.setClu n c).hld = s.hld := rfl
@[simp] theorem State.setClu_out (s : State) (n : Nat) (c : Clu) : (s.setClu n c).out = s.out := rfl
@[simp] theorem State.setClu_seqs (s : State) (n : Nat) (c : Clu) : (s.setClu n c).seqs = s.seqs := rfl
@[simp] theorem State.setClu_clus (s : State) (n : Nat) (c : Clu) : (s.setClu n c).clus = s.clus.set n c := rfl
@[simp] theorem State.setClu_flt (s : State) (n : Nat) (c : Clu) : (s.setClu n c).flt = s.flt := rfl
@[simp] theorem State.setClu_rcd (s : State) (n : Nat) (c : Clu) : (s.setClu n c).rcd = s.rcd := rfl
@[simp] theorem State.setClu_pmc (s : State) (n : Nat) (c : Clu) : (s.setClu n c).pmc = s.pmc := rfl
@[simp] theorem State.setClu_links (s : State) (n : Nat) (c : Clu) : (s.setClu n c).links = s.links := rfl
@[simp] theorem State.setClu_twin (s : State) (n : Nat) (c : Clu) : (s.setClu n c).twin = s.twin := rfl
@[simp] theorem State.setClu_tdc (s : State) (n : Nat) (c : Clu) : (s.setClu n c).tdc = s.tdc := rfl
@[simp] theorem State.setClu_gnb (s : State) (n : Nat) (c : Clu) : (s.setClu n c).gnb = s.gnb := rfl
@[simp] theorem State.setClu_key (s : State) (n : Nat) (c : Clu) : (s.setClu n c).key = s.key := rfl
@[simp] theorem State.setClu_fuses (s : State) (n : Nat) (c : Clu) : (s.setClu n c).fuses = s.fuses := rfl
@[simp] theorem State.setClu_att (s : State) (n : Nat) (c : Clu) : (s.setClu n c).att = s.att := rfl
@[simp] theorem State.setClu_eth (s : State) (n : Nat) (c : Clu) : (s.setClu n c).eth = s.eth := rfl
@[simp] theorem State.setClu_tsv (s : State) (n : Nat) (c : Clu) : (s.setClu n c).tsv = s.tsv := rfl
@[simp] theorem State.setClu_aud (s : State) (n : Nat) (c : Clu) : (s.setClu n c).aud = s.aud := rfl
@[simp] theorem State.setClu_mix (s : State) (n : Nat) (c : Clu) : (s.setClu n c).mix = s.mix := rfl
@[simp] theorem State.setClu_hst (s : State) (n : Nat) (c : Clu) : (s.setClu n c).hst = s.hst := rfl
@[simp] theorem State.setClu_sbd (s : State) (n : Nat) (c : Clu) : (s.setClu n c).sbd = s.sbd := rfl
@[simp] theorem State.setClu_mem (s : State) (n : Nat) (c : Clu) : (s.setClu n c).mem = s.mem := rfl
@[simp] theorem State.setClu_cast_ (s : State) (n : Nat) (c : Clu) : (s.setClu n c).cast_ = s.cast_ := rfl
@[simp] theorem State.setClu_dram (s : State) (n : Nat) (c : Clu) : (s.setClu n c).dram = s.dram := rfl
@[simp] theorem State.setClu_coreOn (s : State) (n : Nat) (c : Clu) : (s.setClu n c).coreOn = s.coreOn := rfl

/-! ### setCand -/
@[simp] theorem State.setCand_pending (s : State) (n : Nat) (c : Cand) : (s.setCand n c).pending = s.pending := rfl
@[simp] theorem State.setCand_sent (s : State) (n : Nat) (c : Cand) : (s.setCand n c).sent = s.sent := rfl
@[simp] theorem State.setCand_free (s : State) (n : Nat) (c : Cand) : (s.setCand n c).free = s.free := rfl
@[simp] theorem State.setCand_wt (s : State) (n : Nat) (c : Cand) : (s.setCand n c).wt = s.wt := rfl
@[simp] theorem State.setCand_fired (s : State) (n : Nat) (c : Cand) : (s.setCand n c).fired = s.fired := rfl
@[simp] theorem State.setCand_regs (s : State) (n : Nat) (c : Cand) : (s.setCand n c).regs = s.regs := rfl
@[simp] theorem State.setCand_force (s : State) (n : Nat) (c : Cand) : (s.setCand n c).force = s.force := rfl
@[simp] theorem State.setCand_hw (s : State) (n : Nat) (c : Cand) : (s.setCand n c).hw = s.hw := rfl
@[simp] theorem State.setCand_staged (s : State) (n : Nat) (c : Cand) : (s.setCand n c).staged = s.staged := rfl
@[simp] theorem State.setCand_latches (s : State) (n : Nat) (c : Cand) : (s.setCand n c).latches = s.latches := rfl
@[simp] theorem State.setCand_hostErr (s : State) (n : Nat) (c : Cand) : (s.setCand n c).hostErr = s.hostErr := rfl
@[simp] theorem State.setCand_sbdErr (s : State) (n : Nat) (c : Cand) : (s.setCand n c).sbdErr = s.sbdErr := rfl
@[simp] theorem State.setCand_warden (s : State) (n : Nat) (c : Cand) : (s.setCand n c).warden = s.warden := rfl
@[simp] theorem State.setCand_log (s : State) (n : Nat) (c : Cand) : (s.setCand n c).log = s.log := rfl
@[simp] theorem State.setCand_gau (s : State) (n : Nat) (c : Cand) : (s.setCand n c).gau = s.gau := rfl
@[simp] theorem State.setCand_sel (s : State) (n : Nat) (c : Cand) : (s.setCand n c).sel = { s.sel with cands := s.sel.cands.set n c } := rfl
@[simp] theorem State.setCand_hld (s : State) (n : Nat) (c : Cand) : (s.setCand n c).hld = s.hld := rfl
@[simp] theorem State.setCand_out (s : State) (n : Nat) (c : Cand) : (s.setCand n c).out = s.out := rfl
@[simp] theorem State.setCand_seqs (s : State) (n : Nat) (c : Cand) : (s.setCand n c).seqs = s.seqs := rfl
@[simp] theorem State.setCand_clus (s : State) (n : Nat) (c : Cand) : (s.setCand n c).clus = s.clus := rfl
@[simp] theorem State.setCand_flt (s : State) (n : Nat) (c : Cand) : (s.setCand n c).flt = s.flt := rfl
@[simp] theorem State.setCand_rcd (s : State) (n : Nat) (c : Cand) : (s.setCand n c).rcd = s.rcd := rfl
@[simp] theorem State.setCand_pmc (s : State) (n : Nat) (c : Cand) : (s.setCand n c).pmc = s.pmc := rfl
@[simp] theorem State.setCand_links (s : State) (n : Nat) (c : Cand) : (s.setCand n c).links = s.links := rfl
@[simp] theorem State.setCand_twin (s : State) (n : Nat) (c : Cand) : (s.setCand n c).twin = s.twin := rfl
@[simp] theorem State.setCand_tdc (s : State) (n : Nat) (c : Cand) : (s.setCand n c).tdc = s.tdc := rfl
@[simp] theorem State.setCand_gnb (s : State) (n : Nat) (c : Cand) : (s.setCand n c).gnb = s.gnb := rfl
@[simp] theorem State.setCand_key (s : State) (n : Nat) (c : Cand) : (s.setCand n c).key = s.key := rfl
@[simp] theorem State.setCand_fuses (s : State) (n : Nat) (c : Cand) : (s.setCand n c).fuses = s.fuses := rfl
@[simp] theorem State.setCand_att (s : State) (n : Nat) (c : Cand) : (s.setCand n c).att = s.att := rfl
@[simp] theorem State.setCand_eth (s : State) (n : Nat) (c : Cand) : (s.setCand n c).eth = s.eth := rfl
@[simp] theorem State.setCand_tsv (s : State) (n : Nat) (c : Cand) : (s.setCand n c).tsv = s.tsv := rfl
@[simp] theorem State.setCand_aud (s : State) (n : Nat) (c : Cand) : (s.setCand n c).aud = s.aud := rfl
@[simp] theorem State.setCand_mix (s : State) (n : Nat) (c : Cand) : (s.setCand n c).mix = s.mix := rfl
@[simp] theorem State.setCand_hst (s : State) (n : Nat) (c : Cand) : (s.setCand n c).hst = s.hst := rfl
@[simp] theorem State.setCand_sbd (s : State) (n : Nat) (c : Cand) : (s.setCand n c).sbd = s.sbd := rfl
@[simp] theorem State.setCand_mem (s : State) (n : Nat) (c : Cand) : (s.setCand n c).mem = s.mem := rfl
@[simp] theorem State.setCand_cast_ (s : State) (n : Nat) (c : Cand) : (s.setCand n c).cast_ = s.cast_ := rfl
@[simp] theorem State.setCand_dram (s : State) (n : Nat) (c : Cand) : (s.setCand n c).dram = s.dram := rfl
@[simp] theorem State.setCand_coreOn (s : State) (n : Nat) (c : Cand) : (s.setCand n c).coreOn = s.coreOn := rfl

/-! ### setOutU -/
@[simp] theorem State.setOutU_pending (s : State) (n : Nat) (o : OutU) : (s.setOutU n o).pending = s.pending := rfl
@[simp] theorem State.setOutU_sent (s : State) (n : Nat) (o : OutU) : (s.setOutU n o).sent = s.sent := rfl
@[simp] theorem State.setOutU_free (s : State) (n : Nat) (o : OutU) : (s.setOutU n o).free = s.free := rfl
@[simp] theorem State.setOutU_wt (s : State) (n : Nat) (o : OutU) : (s.setOutU n o).wt = s.wt := rfl
@[simp] theorem State.setOutU_fired (s : State) (n : Nat) (o : OutU) : (s.setOutU n o).fired = s.fired := rfl
@[simp] theorem State.setOutU_regs (s : State) (n : Nat) (o : OutU) : (s.setOutU n o).regs = s.regs := rfl
@[simp] theorem State.setOutU_force (s : State) (n : Nat) (o : OutU) : (s.setOutU n o).force = s.force := rfl
@[simp] theorem State.setOutU_hw (s : State) (n : Nat) (o : OutU) : (s.setOutU n o).hw = s.hw := rfl
@[simp] theorem State.setOutU_staged (s : State) (n : Nat) (o : OutU) : (s.setOutU n o).staged = s.staged := rfl
@[simp] theorem State.setOutU_latches (s : State) (n : Nat) (o : OutU) : (s.setOutU n o).latches = s.latches := rfl
@[simp] theorem State.setOutU_hostErr (s : State) (n : Nat) (o : OutU) : (s.setOutU n o).hostErr = s.hostErr := rfl
@[simp] theorem State.setOutU_sbdErr (s : State) (n : Nat) (o : OutU) : (s.setOutU n o).sbdErr = s.sbdErr := rfl
@[simp] theorem State.setOutU_warden (s : State) (n : Nat) (o : OutU) : (s.setOutU n o).warden = s.warden := rfl
@[simp] theorem State.setOutU_log (s : State) (n : Nat) (o : OutU) : (s.setOutU n o).log = s.log := rfl
@[simp] theorem State.setOutU_gau (s : State) (n : Nat) (o : OutU) : (s.setOutU n o).gau = s.gau := rfl
@[simp] theorem State.setOutU_sel (s : State) (n : Nat) (o : OutU) : (s.setOutU n o).sel = s.sel := rfl
@[simp] theorem State.setOutU_hld (s : State) (n : Nat) (o : OutU) : (s.setOutU n o).hld = s.hld := rfl
@[simp] theorem State.setOutU_out (s : State) (n : Nat) (o : OutU) : (s.setOutU n o).out = { s.out with outs := s.out.outs.set n o } := rfl
@[simp] theorem State.setOutU_seqs (s : State) (n : Nat) (o : OutU) : (s.setOutU n o).seqs = s.seqs := rfl
@[simp] theorem State.setOutU_clus (s : State) (n : Nat) (o : OutU) : (s.setOutU n o).clus = s.clus := rfl
@[simp] theorem State.setOutU_flt (s : State) (n : Nat) (o : OutU) : (s.setOutU n o).flt = s.flt := rfl
@[simp] theorem State.setOutU_rcd (s : State) (n : Nat) (o : OutU) : (s.setOutU n o).rcd = s.rcd := rfl
@[simp] theorem State.setOutU_pmc (s : State) (n : Nat) (o : OutU) : (s.setOutU n o).pmc = s.pmc := rfl
@[simp] theorem State.setOutU_links (s : State) (n : Nat) (o : OutU) : (s.setOutU n o).links = s.links := rfl
@[simp] theorem State.setOutU_twin (s : State) (n : Nat) (o : OutU) : (s.setOutU n o).twin = s.twin := rfl
@[simp] theorem State.setOutU_tdc (s : State) (n : Nat) (o : OutU) : (s.setOutU n o).tdc = s.tdc := rfl
@[simp] theorem State.setOutU_gnb (s : State) (n : Nat) (o : OutU) : (s.setOutU n o).gnb = s.gnb := rfl
@[simp] theorem State.setOutU_key (s : State) (n : Nat) (o : OutU) : (s.setOutU n o).key = s.key := rfl
@[simp] theorem State.setOutU_fuses (s : State) (n : Nat) (o : OutU) : (s.setOutU n o).fuses = s.fuses := rfl
@[simp] theorem State.setOutU_att (s : State) (n : Nat) (o : OutU) : (s.setOutU n o).att = s.att := rfl
@[simp] theorem State.setOutU_eth (s : State) (n : Nat) (o : OutU) : (s.setOutU n o).eth = s.eth := rfl
@[simp] theorem State.setOutU_tsv (s : State) (n : Nat) (o : OutU) : (s.setOutU n o).tsv = s.tsv := rfl
@[simp] theorem State.setOutU_aud (s : State) (n : Nat) (o : OutU) : (s.setOutU n o).aud = s.aud := rfl
@[simp] theorem State.setOutU_mix (s : State) (n : Nat) (o : OutU) : (s.setOutU n o).mix = s.mix := rfl
@[simp] theorem State.setOutU_hst (s : State) (n : Nat) (o : OutU) : (s.setOutU n o).hst = s.hst := rfl
@[simp] theorem State.setOutU_sbd (s : State) (n : Nat) (o : OutU) : (s.setOutU n o).sbd = s.sbd := rfl
@[simp] theorem State.setOutU_mem (s : State) (n : Nat) (o : OutU) : (s.setOutU n o).mem = s.mem := rfl
@[simp] theorem State.setOutU_cast_ (s : State) (n : Nat) (o : OutU) : (s.setOutU n o).cast_ = s.cast_ := rfl
@[simp] theorem State.setOutU_dram (s : State) (n : Nat) (o : OutU) : (s.setOutU n o).dram = s.dram := rfl
@[simp] theorem State.setOutU_coreOn (s : State) (n : Nat) (o : OutU) : (s.setOutU n o).coreOn = s.coreOn := rfl

/-! ### setFsrc -/
@[simp] theorem State.setFsrc_pending (s : State) (n : Nat) (f : FltSrc) : (s.setFsrc n f).pending = s.pending := rfl
@[simp] theorem State.setFsrc_sent (s : State) (n : Nat) (f : FltSrc) : (s.setFsrc n f).sent = s.sent := rfl
@[simp] theorem State.setFsrc_free (s : State) (n : Nat) (f : FltSrc) : (s.setFsrc n f).free = s.free := rfl
@[simp] theorem State.setFsrc_wt (s : State) (n : Nat) (f : FltSrc) : (s.setFsrc n f).wt = s.wt := rfl
@[simp] theorem State.setFsrc_fired (s : State) (n : Nat) (f : FltSrc) : (s.setFsrc n f).fired = s.fired := rfl
@[simp] theorem State.setFsrc_regs (s : State) (n : Nat) (f : FltSrc) : (s.setFsrc n f).regs = s.regs := rfl
@[simp] theorem State.setFsrc_force (s : State) (n : Nat) (f : FltSrc) : (s.setFsrc n f).force = s.force := rfl
@[simp] theorem State.setFsrc_hw (s : State) (n : Nat) (f : FltSrc) : (s.setFsrc n f).hw = s.hw := rfl
@[simp] theorem State.setFsrc_staged (s : State) (n : Nat) (f : FltSrc) : (s.setFsrc n f).staged = s.staged := rfl
@[simp] theorem State.setFsrc_latches (s : State) (n : Nat) (f : FltSrc) : (s.setFsrc n f).latches = s.latches := rfl
@[simp] theorem State.setFsrc_hostErr (s : State) (n : Nat) (f : FltSrc) : (s.setFsrc n f).hostErr = s.hostErr := rfl
@[simp] theorem State.setFsrc_sbdErr (s : State) (n : Nat) (f : FltSrc) : (s.setFsrc n f).sbdErr = s.sbdErr := rfl
@[simp] theorem State.setFsrc_warden (s : State) (n : Nat) (f : FltSrc) : (s.setFsrc n f).warden = s.warden := rfl
@[simp] theorem State.setFsrc_log (s : State) (n : Nat) (f : FltSrc) : (s.setFsrc n f).log = s.log := rfl
@[simp] theorem State.setFsrc_gau (s : State) (n : Nat) (f : FltSrc) : (s.setFsrc n f).gau = s.gau := rfl
@[simp] theorem State.setFsrc_sel (s : State) (n : Nat) (f : FltSrc) : (s.setFsrc n f).sel = s.sel := rfl
@[simp] theorem State.setFsrc_hld (s : State) (n : Nat) (f : FltSrc) : (s.setFsrc n f).hld = s.hld := rfl
@[simp] theorem State.setFsrc_out (s : State) (n : Nat) (f : FltSrc) : (s.setFsrc n f).out = s.out := rfl
@[simp] theorem State.setFsrc_seqs (s : State) (n : Nat) (f : FltSrc) : (s.setFsrc n f).seqs = s.seqs := rfl
@[simp] theorem State.setFsrc_clus (s : State) (n : Nat) (f : FltSrc) : (s.setFsrc n f).clus = s.clus := rfl
@[simp] theorem State.setFsrc_flt (s : State) (n : Nat) (f : FltSrc) : (s.setFsrc n f).flt = { s.flt with srcs := s.flt.srcs.set n f } := rfl
@[simp] theorem State.setFsrc_rcd (s : State) (n : Nat) (f : FltSrc) : (s.setFsrc n f).rcd = s.rcd := rfl
@[simp] theorem State.setFsrc_pmc (s : State) (n : Nat) (f : FltSrc) : (s.setFsrc n f).pmc = s.pmc := rfl
@[simp] theorem State.setFsrc_links (s : State) (n : Nat) (f : FltSrc) : (s.setFsrc n f).links = s.links := rfl
@[simp] theorem State.setFsrc_twin (s : State) (n : Nat) (f : FltSrc) : (s.setFsrc n f).twin = s.twin := rfl
@[simp] theorem State.setFsrc_tdc (s : State) (n : Nat) (f : FltSrc) : (s.setFsrc n f).tdc = s.tdc := rfl
@[simp] theorem State.setFsrc_gnb (s : State) (n : Nat) (f : FltSrc) : (s.setFsrc n f).gnb = s.gnb := rfl
@[simp] theorem State.setFsrc_key (s : State) (n : Nat) (f : FltSrc) : (s.setFsrc n f).key = s.key := rfl
@[simp] theorem State.setFsrc_fuses (s : State) (n : Nat) (f : FltSrc) : (s.setFsrc n f).fuses = s.fuses := rfl
@[simp] theorem State.setFsrc_att (s : State) (n : Nat) (f : FltSrc) : (s.setFsrc n f).att = s.att := rfl
@[simp] theorem State.setFsrc_eth (s : State) (n : Nat) (f : FltSrc) : (s.setFsrc n f).eth = s.eth := rfl
@[simp] theorem State.setFsrc_tsv (s : State) (n : Nat) (f : FltSrc) : (s.setFsrc n f).tsv = s.tsv := rfl
@[simp] theorem State.setFsrc_aud (s : State) (n : Nat) (f : FltSrc) : (s.setFsrc n f).aud = s.aud := rfl
@[simp] theorem State.setFsrc_mix (s : State) (n : Nat) (f : FltSrc) : (s.setFsrc n f).mix = s.mix := rfl
@[simp] theorem State.setFsrc_hst (s : State) (n : Nat) (f : FltSrc) : (s.setFsrc n f).hst = s.hst := rfl
@[simp] theorem State.setFsrc_sbd (s : State) (n : Nat) (f : FltSrc) : (s.setFsrc n f).sbd = s.sbd := rfl
@[simp] theorem State.setFsrc_mem (s : State) (n : Nat) (f : FltSrc) : (s.setFsrc n f).mem = s.mem := rfl
@[simp] theorem State.setFsrc_cast_ (s : State) (n : Nat) (f : FltSrc) : (s.setFsrc n f).cast_ = s.cast_ := rfl
@[simp] theorem State.setFsrc_dram (s : State) (n : Nat) (f : FltSrc) : (s.setFsrc n f).dram = s.dram := rfl
@[simp] theorem State.setFsrc_coreOn (s : State) (n : Nat) (f : FltSrc) : (s.setFsrc n f).coreOn = s.coreOn := rfl

/-! ### send -/
@[simp] theorem State.send_pending (s : State) (x : Sent) : (s.send x).pending = s.pending := rfl
@[simp] theorem State.send_sent (s : State) (x : Sent) : (s.send x).sent = x :: s.sent := rfl
@[simp] theorem State.send_free (s : State) (x : Sent) : (s.send x).free = s.free := rfl
@[simp] theorem State.send_wt (s : State) (x : Sent) : (s.send x).wt = s.wt := rfl
@[simp] theorem State.send_fired (s : State) (x : Sent) : (s.send x).fired = s.fired := rfl
@[simp] theorem State.send_regs (s : State) (x : Sent) : (s.send x).regs = s.regs := rfl
@[simp] theorem State.send_force (s : State) (x : Sent) : (s.send x).force = s.force := rfl
@[simp] theorem State.send_hw (s : State) (x : Sent) : (s.send x).hw = s.hw := rfl
@[simp] theorem State.send_staged (s : State) (x : Sent) : (s.send x).staged = s.staged := rfl
@[simp] theorem State.send_latches (s : State) (x : Sent) : (s.send x).latches = s.latches := rfl
@[simp] theorem State.send_hostErr (s : State) (x : Sent) : (s.send x).hostErr = s.hostErr := rfl
@[simp] theorem State.send_sbdErr (s : State) (x : Sent) : (s.send x).sbdErr = s.sbdErr := rfl
@[simp] theorem State.send_warden (s : State) (x : Sent) : (s.send x).warden = s.warden := rfl
@[simp] theorem State.send_log (s : State) (x : Sent) : (s.send x).log = s.log := rfl
@[simp] theorem State.send_gau (s : State) (x : Sent) : (s.send x).gau = s.gau := rfl
@[simp] theorem State.send_sel (s : State) (x : Sent) : (s.send x).sel = s.sel := rfl
@[simp] theorem State.send_hld (s : State) (x : Sent) : (s.send x).hld = s.hld := rfl
@[simp] theorem State.send_out (s : State) (x : Sent) : (s.send x).out = s.out := rfl
@[simp] theorem State.send_seqs (s : State) (x : Sent) : (s.send x).seqs = s.seqs := rfl
@[simp] theorem State.send_clus (s : State) (x : Sent) : (s.send x).clus = s.clus := rfl
@[simp] theorem State.send_flt (s : State) (x : Sent) : (s.send x).flt = s.flt := rfl
@[simp] theorem State.send_rcd (s : State) (x : Sent) : (s.send x).rcd = s.rcd := rfl
@[simp] theorem State.send_pmc (s : State) (x : Sent) : (s.send x).pmc = s.pmc := rfl
@[simp] theorem State.send_links (s : State) (x : Sent) : (s.send x).links = s.links := rfl
@[simp] theorem State.send_twin (s : State) (x : Sent) : (s.send x).twin = s.twin := rfl
@[simp] theorem State.send_tdc (s : State) (x : Sent) : (s.send x).tdc = s.tdc := rfl
@[simp] theorem State.send_gnb (s : State) (x : Sent) : (s.send x).gnb = s.gnb := rfl
@[simp] theorem State.send_key (s : State) (x : Sent) : (s.send x).key = s.key := rfl
@[simp] theorem State.send_fuses (s : State) (x : Sent) : (s.send x).fuses = s.fuses := rfl
@[simp] theorem State.send_att (s : State) (x : Sent) : (s.send x).att = s.att := rfl
@[simp] theorem State.send_eth (s : State) (x : Sent) : (s.send x).eth = s.eth := rfl
@[simp] theorem State.send_tsv (s : State) (x : Sent) : (s.send x).tsv = s.tsv := rfl
@[simp] theorem State.send_aud (s : State) (x : Sent) : (s.send x).aud = s.aud := rfl
@[simp] theorem State.send_mix (s : State) (x : Sent) : (s.send x).mix = s.mix := rfl
@[simp] theorem State.send_hst (s : State) (x : Sent) : (s.send x).hst = s.hst := rfl
@[simp] theorem State.send_sbd (s : State) (x : Sent) : (s.send x).sbd = s.sbd := rfl
@[simp] theorem State.send_mem (s : State) (x : Sent) : (s.send x).mem = s.mem := rfl
@[simp] theorem State.send_cast_ (s : State) (x : Sent) : (s.send x).cast_ = s.cast_ := rfl
@[simp] theorem State.send_dram (s : State) (x : Sent) : (s.send x).dram = s.dram := rfl
@[simp] theorem State.send_coreOn (s : State) (x : Sent) : (s.send x).coreOn = s.coreOn := rfl

/-! ### setTdcCh -/
@[simp] theorem State.setTdcCh_pending (s : State) (n : Nat) (x : TdcCh) : (s.setTdcCh n x).pending = s.pending := rfl
@[simp] theorem State.setTdcCh_sent (s : State) (n : Nat) (x : TdcCh) : (s.setTdcCh n x).sent = s.sent := rfl
@[simp] theorem State.setTdcCh_free (s : State) (n : Nat) (x : TdcCh) : (s.setTdcCh n x).free = s.free := rfl
@[simp] theorem State.setTdcCh_wt (s : State) (n : Nat) (x : TdcCh) : (s.setTdcCh n x).wt = s.wt := rfl
@[simp] theorem State.setTdcCh_fired (s : State) (n : Nat) (x : TdcCh) : (s.setTdcCh n x).fired = s.fired := rfl
@[simp] theorem State.setTdcCh_regs (s : State) (n : Nat) (x : TdcCh) : (s.setTdcCh n x).regs = s.regs := rfl
@[simp] theorem State.setTdcCh_force (s : State) (n : Nat) (x : TdcCh) : (s.setTdcCh n x).force = s.force := rfl
@[simp] theorem State.setTdcCh_hw (s : State) (n : Nat) (x : TdcCh) : (s.setTdcCh n x).hw = s.hw := rfl
@[simp] theorem State.setTdcCh_staged (s : State) (n : Nat) (x : TdcCh) : (s.setTdcCh n x).staged = s.staged := rfl
@[simp] theorem State.setTdcCh_latches (s : State) (n : Nat) (x : TdcCh) : (s.setTdcCh n x).latches = s.latches := rfl
@[simp] theorem State.setTdcCh_hostErr (s : State) (n : Nat) (x : TdcCh) : (s.setTdcCh n x).hostErr = s.hostErr := rfl
@[simp] theorem State.setTdcCh_sbdErr (s : State) (n : Nat) (x : TdcCh) : (s.setTdcCh n x).sbdErr = s.sbdErr := rfl
@[simp] theorem State.setTdcCh_warden (s : State) (n : Nat) (x : TdcCh) : (s.setTdcCh n x).warden = s.warden := rfl
@[simp] theorem State.setTdcCh_log (s : State) (n : Nat) (x : TdcCh) : (s.setTdcCh n x).log = s.log := rfl
@[simp] theorem State.setTdcCh_gau (s : State) (n : Nat) (x : TdcCh) : (s.setTdcCh n x).gau = s.gau := rfl
@[simp] theorem State.setTdcCh_sel (s : State) (n : Nat) (x : TdcCh) : (s.setTdcCh n x).sel = s.sel := rfl
@[simp] theorem State.setTdcCh_hld (s : State) (n : Nat) (x : TdcCh) : (s.setTdcCh n x).hld = s.hld := rfl
@[simp] theorem State.setTdcCh_out (s : State) (n : Nat) (x : TdcCh) : (s.setTdcCh n x).out = s.out := rfl
@[simp] theorem State.setTdcCh_seqs (s : State) (n : Nat) (x : TdcCh) : (s.setTdcCh n x).seqs = s.seqs := rfl
@[simp] theorem State.setTdcCh_clus (s : State) (n : Nat) (x : TdcCh) : (s.setTdcCh n x).clus = s.clus := rfl
@[simp] theorem State.setTdcCh_flt (s : State) (n : Nat) (x : TdcCh) : (s.setTdcCh n x).flt = s.flt := rfl
@[simp] theorem State.setTdcCh_rcd (s : State) (n : Nat) (x : TdcCh) : (s.setTdcCh n x).rcd = s.rcd := rfl
@[simp] theorem State.setTdcCh_pmc (s : State) (n : Nat) (x : TdcCh) : (s.setTdcCh n x).pmc = s.pmc := rfl
@[simp] theorem State.setTdcCh_links (s : State) (n : Nat) (x : TdcCh) : (s.setTdcCh n x).links = s.links := rfl
@[simp] theorem State.setTdcCh_twin (s : State) (n : Nat) (x : TdcCh) : (s.setTdcCh n x).twin = s.twin := rfl
@[simp] theorem State.setTdcCh_tdc (s : State) (n : Nat) (x : TdcCh) : (s.setTdcCh n x).tdc = { s.tdc with chs := s.tdc.chs.set n x } := rfl
@[simp] theorem State.setTdcCh_gnb (s : State) (n : Nat) (x : TdcCh) : (s.setTdcCh n x).gnb = s.gnb := rfl
@[simp] theorem State.setTdcCh_key (s : State) (n : Nat) (x : TdcCh) : (s.setTdcCh n x).key = s.key := rfl
@[simp] theorem State.setTdcCh_fuses (s : State) (n : Nat) (x : TdcCh) : (s.setTdcCh n x).fuses = s.fuses := rfl
@[simp] theorem State.setTdcCh_att (s : State) (n : Nat) (x : TdcCh) : (s.setTdcCh n x).att = s.att := rfl
@[simp] theorem State.setTdcCh_eth (s : State) (n : Nat) (x : TdcCh) : (s.setTdcCh n x).eth = s.eth := rfl
@[simp] theorem State.setTdcCh_tsv (s : State) (n : Nat) (x : TdcCh) : (s.setTdcCh n x).tsv = s.tsv := rfl
@[simp] theorem State.setTdcCh_aud (s : State) (n : Nat) (x : TdcCh) : (s.setTdcCh n x).aud = s.aud := rfl
@[simp] theorem State.setTdcCh_mix (s : State) (n : Nat) (x : TdcCh) : (s.setTdcCh n x).mix = s.mix := rfl
@[simp] theorem State.setTdcCh_hst (s : State) (n : Nat) (x : TdcCh) : (s.setTdcCh n x).hst = s.hst := rfl
@[simp] theorem State.setTdcCh_sbd (s : State) (n : Nat) (x : TdcCh) : (s.setTdcCh n x).sbd = s.sbd := rfl
@[simp] theorem State.setTdcCh_mem (s : State) (n : Nat) (x : TdcCh) : (s.setTdcCh n x).mem = s.mem := rfl
@[simp] theorem State.setTdcCh_cast_ (s : State) (n : Nat) (x : TdcCh) : (s.setTdcCh n x).cast_ = s.cast_ := rfl
@[simp] theorem State.setTdcCh_dram (s : State) (n : Nat) (x : TdcCh) : (s.setTdcCh n x).dram = s.dram := rfl
@[simp] theorem State.setTdcCh_coreOn (s : State) (n : Nat) (x : TdcCh) : (s.setTdcCh n x).coreOn = s.coreOn := rfl

/-! ### setCalU -/
@[simp] theorem State.setCalU_pending (s : State) (n : Nat) (x : CalU) : (s.setCalU n x).pending = s.pending := rfl
@[simp] theorem State.setCalU_sent (s : State) (n : Nat) (x : CalU) : (s.setCalU n x).sent = s.sent := rfl
@[simp] theorem State.setCalU_free (s : State) (n : Nat) (x : CalU) : (s.setCalU n x).free = s.free := rfl
@[simp] theorem State.setCalU_wt (s : State) (n : Nat) (x : CalU) : (s.setCalU n x).wt = s.wt := rfl
@[simp] theorem State.setCalU_fired (s : State) (n : Nat) (x : CalU) : (s.setCalU n x).fired = s.fired := rfl
@[simp] theorem State.setCalU_regs (s : State) (n : Nat) (x : CalU) : (s.setCalU n x).regs = s.regs := rfl
@[simp] theorem State.setCalU_force (s : State) (n : Nat) (x : CalU) : (s.setCalU n x).force = s.force := rfl
@[simp] theorem State.setCalU_hw (s : State) (n : Nat) (x : CalU) : (s.setCalU n x).hw = s.hw := rfl
@[simp] theorem State.setCalU_staged (s : State) (n : Nat) (x : CalU) : (s.setCalU n x).staged = s.staged := rfl
@[simp] theorem State.setCalU_latches (s : State) (n : Nat) (x : CalU) : (s.setCalU n x).latches = s.latches := rfl
@[simp] theorem State.setCalU_hostErr (s : State) (n : Nat) (x : CalU) : (s.setCalU n x).hostErr = s.hostErr := rfl
@[simp] theorem State.setCalU_sbdErr (s : State) (n : Nat) (x : CalU) : (s.setCalU n x).sbdErr = s.sbdErr := rfl
@[simp] theorem State.setCalU_warden (s : State) (n : Nat) (x : CalU) : (s.setCalU n x).warden = s.warden := rfl
@[simp] theorem State.setCalU_log (s : State) (n : Nat) (x : CalU) : (s.setCalU n x).log = s.log := rfl
@[simp] theorem State.setCalU_gau (s : State) (n : Nat) (x : CalU) : (s.setCalU n x).gau = s.gau := rfl
@[simp] theorem State.setCalU_sel (s : State) (n : Nat) (x : CalU) : (s.setCalU n x).sel = s.sel := rfl
@[simp] theorem State.setCalU_hld (s : State) (n : Nat) (x : CalU) : (s.setCalU n x).hld = s.hld := rfl
@[simp] theorem State.setCalU_out (s : State) (n : Nat) (x : CalU) : (s.setCalU n x).out = s.out := rfl
@[simp] theorem State.setCalU_seqs (s : State) (n : Nat) (x : CalU) : (s.setCalU n x).seqs = s.seqs := rfl
@[simp] theorem State.setCalU_clus (s : State) (n : Nat) (x : CalU) : (s.setCalU n x).clus = s.clus := rfl
@[simp] theorem State.setCalU_flt (s : State) (n : Nat) (x : CalU) : (s.setCalU n x).flt = s.flt := rfl
@[simp] theorem State.setCalU_rcd (s : State) (n : Nat) (x : CalU) : (s.setCalU n x).rcd = s.rcd := rfl
@[simp] theorem State.setCalU_pmc (s : State) (n : Nat) (x : CalU) : (s.setCalU n x).pmc = s.pmc := rfl
@[simp] theorem State.setCalU_links (s : State) (n : Nat) (x : CalU) : (s.setCalU n x).links = s.links := rfl
@[simp] theorem State.setCalU_twin (s : State) (n : Nat) (x : CalU) : (s.setCalU n x).twin = s.twin := rfl
@[simp] theorem State.setCalU_tdc (s : State) (n : Nat) (x : CalU) : (s.setCalU n x).tdc = { s.tdc with units := s.tdc.units.set n x } := rfl
@[simp] theorem State.setCalU_gnb (s : State) (n : Nat) (x : CalU) : (s.setCalU n x).gnb = s.gnb := rfl
@[simp] theorem State.setCalU_key (s : State) (n : Nat) (x : CalU) : (s.setCalU n x).key = s.key := rfl
@[simp] theorem State.setCalU_fuses (s : State) (n : Nat) (x : CalU) : (s.setCalU n x).fuses = s.fuses := rfl
@[simp] theorem State.setCalU_att (s : State) (n : Nat) (x : CalU) : (s.setCalU n x).att = s.att := rfl
@[simp] theorem State.setCalU_eth (s : State) (n : Nat) (x : CalU) : (s.setCalU n x).eth = s.eth := rfl
@[simp] theorem State.setCalU_tsv (s : State) (n : Nat) (x : CalU) : (s.setCalU n x).tsv = s.tsv := rfl
@[simp] theorem State.setCalU_aud (s : State) (n : Nat) (x : CalU) : (s.setCalU n x).aud = s.aud := rfl
@[simp] theorem State.setCalU_mix (s : State) (n : Nat) (x : CalU) : (s.setCalU n x).mix = s.mix := rfl
@[simp] theorem State.setCalU_hst (s : State) (n : Nat) (x : CalU) : (s.setCalU n x).hst = s.hst := rfl
@[simp] theorem State.setCalU_sbd (s : State) (n : Nat) (x : CalU) : (s.setCalU n x).sbd = s.sbd := rfl
@[simp] theorem State.setCalU_mem (s : State) (n : Nat) (x : CalU) : (s.setCalU n x).mem = s.mem := rfl
@[simp] theorem State.setCalU_cast_ (s : State) (n : Nat) (x : CalU) : (s.setCalU n x).cast_ = s.cast_ := rfl
@[simp] theorem State.setCalU_dram (s : State) (n : Nat) (x : CalU) : (s.setCalU n x).dram = s.dram := rfl
@[simp] theorem State.setCalU_coreOn (s : State) (n : Nat) (x : CalU) : (s.setCalU n x).coreOn = s.coreOn := rfl

/-! ### setFe -/
@[simp] theorem State.setFe_pending (s : State) (n : Nat) (x : Fe) : (s.setFe n x).pending = s.pending := rfl
@[simp] theorem State.setFe_sent (s : State) (n : Nat) (x : Fe) : (s.setFe n x).sent = s.sent := rfl
@[simp] theorem State.setFe_free (s : State) (n : Nat) (x : Fe) : (s.setFe n x).free = s.free := rfl
@[simp] theorem State.setFe_wt (s : State) (n : Nat) (x : Fe) : (s.setFe n x).wt = s.wt := rfl
@[simp] theorem State.setFe_fired (s : State) (n : Nat) (x : Fe) : (s.setFe n x).fired = s.fired := rfl
@[simp] theorem State.setFe_regs (s : State) (n : Nat) (x : Fe) : (s.setFe n x).regs = s.regs := rfl
@[simp] theorem State.setFe_force (s : State) (n : Nat) (x : Fe) : (s.setFe n x).force = s.force := rfl
@[simp] theorem State.setFe_hw (s : State) (n : Nat) (x : Fe) : (s.setFe n x).hw = s.hw := rfl
@[simp] theorem State.setFe_staged (s : State) (n : Nat) (x : Fe) : (s.setFe n x).staged = s.staged := rfl
@[simp] theorem State.setFe_latches (s : State) (n : Nat) (x : Fe) : (s.setFe n x).latches = s.latches := rfl
@[simp] theorem State.setFe_hostErr (s : State) (n : Nat) (x : Fe) : (s.setFe n x).hostErr = s.hostErr := rfl
@[simp] theorem State.setFe_sbdErr (s : State) (n : Nat) (x : Fe) : (s.setFe n x).sbdErr = s.sbdErr := rfl
@[simp] theorem State.setFe_warden (s : State) (n : Nat) (x : Fe) : (s.setFe n x).warden = s.warden := rfl
@[simp] theorem State.setFe_log (s : State) (n : Nat) (x : Fe) : (s.setFe n x).log = s.log := rfl
@[simp] theorem State.setFe_gau (s : State) (n : Nat) (x : Fe) : (s.setFe n x).gau = s.gau := rfl
@[simp] theorem State.setFe_sel (s : State) (n : Nat) (x : Fe) : (s.setFe n x).sel = s.sel := rfl
@[simp] theorem State.setFe_hld (s : State) (n : Nat) (x : Fe) : (s.setFe n x).hld = s.hld := rfl
@[simp] theorem State.setFe_out (s : State) (n : Nat) (x : Fe) : (s.setFe n x).out = s.out := rfl
@[simp] theorem State.setFe_seqs (s : State) (n : Nat) (x : Fe) : (s.setFe n x).seqs = s.seqs := rfl
@[simp] theorem State.setFe_clus (s : State) (n : Nat) (x : Fe) : (s.setFe n x).clus = s.clus := rfl
@[simp] theorem State.setFe_flt (s : State) (n : Nat) (x : Fe) : (s.setFe n x).flt = s.flt := rfl
@[simp] theorem State.setFe_rcd (s : State) (n : Nat) (x : Fe) : (s.setFe n x).rcd = s.rcd := rfl
@[simp] theorem State.setFe_pmc (s : State) (n : Nat) (x : Fe) : (s.setFe n x).pmc = s.pmc := rfl
@[simp] theorem State.setFe_links (s : State) (n : Nat) (x : Fe) : (s.setFe n x).links = s.links := rfl
@[simp] theorem State.setFe_twin (s : State) (n : Nat) (x : Fe) : (s.setFe n x).twin = s.twin := rfl
@[simp] theorem State.setFe_tdc (s : State) (n : Nat) (x : Fe) : (s.setFe n x).tdc = s.tdc := rfl
@[simp] theorem State.setFe_gnb (s : State) (n : Nat) (x : Fe) : (s.setFe n x).gnb = { s.gnb with fes := s.gnb.fes.set n x } := rfl
@[simp] theorem State.setFe_key (s : State) (n : Nat) (x : Fe) : (s.setFe n x).key = s.key := rfl
@[simp] theorem State.setFe_fuses (s : State) (n : Nat) (x : Fe) : (s.setFe n x).fuses = s.fuses := rfl
@[simp] theorem State.setFe_att (s : State) (n : Nat) (x : Fe) : (s.setFe n x).att = s.att := rfl
@[simp] theorem State.setFe_eth (s : State) (n : Nat) (x : Fe) : (s.setFe n x).eth = s.eth := rfl
@[simp] theorem State.setFe_tsv (s : State) (n : Nat) (x : Fe) : (s.setFe n x).tsv = s.tsv := rfl
@[simp] theorem State.setFe_aud (s : State) (n : Nat) (x : Fe) : (s.setFe n x).aud = s.aud := rfl
@[simp] theorem State.setFe_mix (s : State) (n : Nat) (x : Fe) : (s.setFe n x).mix = s.mix := rfl
@[simp] theorem State.setFe_hst (s : State) (n : Nat) (x : Fe) : (s.setFe n x).hst = s.hst := rfl
@[simp] theorem State.setFe_sbd (s : State) (n : Nat) (x : Fe) : (s.setFe n x).sbd = s.sbd := rfl
@[simp] theorem State.setFe_mem (s : State) (n : Nat) (x : Fe) : (s.setFe n x).mem = s.mem := rfl
@[simp] theorem State.setFe_cast_ (s : State) (n : Nat) (x : Fe) : (s.setFe n x).cast_ = s.cast_ := rfl
@[simp] theorem State.setFe_dram (s : State) (n : Nat) (x : Fe) : (s.setFe n x).dram = s.dram := rfl
@[simp] theorem State.setFe_coreOn (s : State) (n : Nat) (x : Fe) : (s.setFe n x).coreOn = s.coreOn := rfl

/-! ### setChan -/
@[simp] theorem State.setChan_pending (s : State) (n : Nat) (x : Chan) : (s.setChan n x).pending = s.pending := rfl
@[simp] theorem State.setChan_sent (s : State) (n : Nat) (x : Chan) : (s.setChan n x).sent = s.sent := rfl
@[simp] theorem State.setChan_free (s : State) (n : Nat) (x : Chan) : (s.setChan n x).free = s.free := rfl
@[simp] theorem State.setChan_wt (s : State) (n : Nat) (x : Chan) : (s.setChan n x).wt = s.wt := rfl
@[simp] theorem State.setChan_fired (s : State) (n : Nat) (x : Chan) : (s.setChan n x).fired = s.fired := rfl
@[simp] theorem State.setChan_regs (s : State) (n : Nat) (x : Chan) : (s.setChan n x).regs = s.regs := rfl
@[simp] theorem State.setChan_force (s : State) (n : Nat) (x : Chan) : (s.setChan n x).force = s.force := rfl
@[simp] theorem State.setChan_hw (s : State) (n : Nat) (x : Chan) : (s.setChan n x).hw = s.hw := rfl
@[simp] theorem State.setChan_staged (s : State) (n : Nat) (x : Chan) : (s.setChan n x).staged = s.staged := rfl
@[simp] theorem State.setChan_latches (s : State) (n : Nat) (x : Chan) : (s.setChan n x).latches = s.latches := rfl
@[simp] theorem State.setChan_hostErr (s : State) (n : Nat) (x : Chan) : (s.setChan n x).hostErr = s.hostErr := rfl
@[simp] theorem State.setChan_sbdErr (s : State) (n : Nat) (x : Chan) : (s.setChan n x).sbdErr = s.sbdErr := rfl
@[simp] theorem State.setChan_warden (s : State) (n : Nat) (x : Chan) : (s.setChan n x).warden = s.warden := rfl
@[simp] theorem State.setChan_log (s : State) (n : Nat) (x : Chan) : (s.setChan n x).log = s.log := rfl
@[simp] theorem State.setChan_gau (s : State) (n : Nat) (x : Chan) : (s.setChan n x).gau = s.gau := rfl
@[simp] theorem State.setChan_sel (s : State) (n : Nat) (x : Chan) : (s.setChan n x).sel = s.sel := rfl
@[simp] theorem State.setChan_hld (s : State) (n : Nat) (x : Chan) : (s.setChan n x).hld = s.hld := rfl
@[simp] theorem State.setChan_out (s : State) (n : Nat) (x : Chan) : (s.setChan n x).out = s.out := rfl
@[simp] theorem State.setChan_seqs (s : State) (n : Nat) (x : Chan) : (s.setChan n x).seqs = s.seqs := rfl
@[simp] theorem State.setChan_clus (s : State) (n : Nat) (x : Chan) : (s.setChan n x).clus = s.clus := rfl
@[simp] theorem State.setChan_flt (s : State) (n : Nat) (x : Chan) : (s.setChan n x).flt = s.flt := rfl
@[simp] theorem State.setChan_rcd (s : State) (n : Nat) (x : Chan) : (s.setChan n x).rcd = s.rcd := rfl
@[simp] theorem State.setChan_pmc (s : State) (n : Nat) (x : Chan) : (s.setChan n x).pmc = s.pmc := rfl
@[simp] theorem State.setChan_links (s : State) (n : Nat) (x : Chan) : (s.setChan n x).links = s.links := rfl
@[simp] theorem State.setChan_twin (s : State) (n : Nat) (x : Chan) : (s.setChan n x).twin = s.twin := rfl
@[simp] theorem State.setChan_tdc (s : State) (n : Nat) (x : Chan) : (s.setChan n x).tdc = s.tdc := rfl
@[simp] theorem State.setChan_gnb (s : State) (n : Nat) (x : Chan) : (s.setChan n x).gnb = { s.gnb with chs := s.gnb.chs.set n x } := rfl
@[simp] theorem State.setChan_key (s : State) (n : Nat) (x : Chan) : (s.setChan n x).key = s.key := rfl
@[simp] theorem State.setChan_fuses (s : State) (n : Nat) (x : Chan) : (s.setChan n x).fuses = s.fuses := rfl
@[simp] theorem State.setChan_att (s : State) (n : Nat) (x : Chan) : (s.setChan n x).att = s.att := rfl
@[simp] theorem State.setChan_eth (s : State) (n : Nat) (x : Chan) : (s.setChan n x).eth = s.eth := rfl
@[simp] theorem State.setChan_tsv (s : State) (n : Nat) (x : Chan) : (s.setChan n x).tsv = s.tsv := rfl
@[simp] theorem State.setChan_aud (s : State) (n : Nat) (x : Chan) : (s.setChan n x).aud = s.aud := rfl
@[simp] theorem State.setChan_mix (s : State) (n : Nat) (x : Chan) : (s.setChan n x).mix = s.mix := rfl
@[simp] theorem State.setChan_hst (s : State) (n : Nat) (x : Chan) : (s.setChan n x).hst = s.hst := rfl
@[simp] theorem State.setChan_sbd (s : State) (n : Nat) (x : Chan) : (s.setChan n x).sbd = s.sbd := rfl
@[simp] theorem State.setChan_mem (s : State) (n : Nat) (x : Chan) : (s.setChan n x).mem = s.mem := rfl
@[simp] theorem State.setChan_cast_ (s : State) (n : Nat) (x : Chan) : (s.setChan n x).cast_ = s.cast_ := rfl
@[simp] theorem State.setChan_dram (s : State) (n : Nat) (x : Chan) : (s.setChan n x).dram = s.dram := rfl
@[simp] theorem State.setChan_coreOn (s : State) (n : Nat) (x : Chan) : (s.setChan n x).coreOn = s.coreOn := rfl

/-! ### setLink -/
@[simp] theorem State.setLink_pending (s : State) (n : Nat) (x : Link) : (s.setLink n x).pending = s.pending := rfl
@[simp] theorem State.setLink_sent (s : State) (n : Nat) (x : Link) : (s.setLink n x).sent = s.sent := rfl
@[simp] theorem State.setLink_free (s : State) (n : Nat) (x : Link) : (s.setLink n x).free = s.free := rfl
@[simp] theorem State.setLink_wt (s : State) (n : Nat) (x : Link) : (s.setLink n x).wt = s.wt := rfl
@[simp] theorem State.setLink_fired (s : State) (n : Nat) (x : Link) : (s.setLink n x).fired = s.fired := rfl
@[simp] theorem State.setLink_regs (s : State) (n : Nat) (x : Link) : (s.setLink n x).regs = s.regs := rfl
@[simp] theorem State.setLink_force (s : State) (n : Nat) (x : Link) : (s.setLink n x).force = s.force := rfl
@[simp] theorem State.setLink_hw (s : State) (n : Nat) (x : Link) : (s.setLink n x).hw = s.hw := rfl
@[simp] theorem State.setLink_staged (s : State) (n : Nat) (x : Link) : (s.setLink n x).staged = s.staged := rfl
@[simp] theorem State.setLink_latches (s : State) (n : Nat) (x : Link) : (s.setLink n x).latches = s.latches := rfl
@[simp] theorem State.setLink_hostErr (s : State) (n : Nat) (x : Link) : (s.setLink n x).hostErr = s.hostErr := rfl
@[simp] theorem State.setLink_sbdErr (s : State) (n : Nat) (x : Link) : (s.setLink n x).sbdErr = s.sbdErr := rfl
@[simp] theorem State.setLink_warden (s : State) (n : Nat) (x : Link) : (s.setLink n x).warden = s.warden := rfl
@[simp] theorem State.setLink_log (s : State) (n : Nat) (x : Link) : (s.setLink n x).log = s.log := rfl
@[simp] theorem State.setLink_gau (s : State) (n : Nat) (x : Link) : (s.setLink n x).gau = s.gau := rfl
@[simp] theorem State.setLink_sel (s : State) (n : Nat) (x : Link) : (s.setLink n x).sel = s.sel := rfl
@[simp] theorem State.setLink_hld (s : State) (n : Nat) (x : Link) : (s.setLink n x).hld = s.hld := rfl
@[simp] theorem State.setLink_out (s : State) (n : Nat) (x : Link) : (s.setLink n x).out = s.out := rfl
@[simp] theorem State.setLink_seqs (s : State) (n : Nat) (x : Link) : (s.setLink n x).seqs = s.seqs := rfl
@[simp] theorem State.setLink_clus (s : State) (n : Nat) (x : Link) : (s.setLink n x).clus = s.clus := rfl
@[simp] theorem State.setLink_flt (s : State) (n : Nat) (x : Link) : (s.setLink n x).flt = s.flt := rfl
@[simp] theorem State.setLink_rcd (s : State) (n : Nat) (x : Link) : (s.setLink n x).rcd = s.rcd := rfl
@[simp] theorem State.setLink_pmc (s : State) (n : Nat) (x : Link) : (s.setLink n x).pmc = s.pmc := rfl
@[simp] theorem State.setLink_links (s : State) (n : Nat) (x : Link) : (s.setLink n x).links = s.links.set n x := rfl
@[simp] theorem State.setLink_twin (s : State) (n : Nat) (x : Link) : (s.setLink n x).twin = s.twin := rfl
@[simp] theorem State.setLink_tdc (s : State) (n : Nat) (x : Link) : (s.setLink n x).tdc = s.tdc := rfl
@[simp] theorem State.setLink_gnb (s : State) (n : Nat) (x : Link) : (s.setLink n x).gnb = s.gnb := rfl
@[simp] theorem State.setLink_key (s : State) (n : Nat) (x : Link) : (s.setLink n x).key = s.key := rfl
@[simp] theorem State.setLink_fuses (s : State) (n : Nat) (x : Link) : (s.setLink n x).fuses = s.fuses := rfl
@[simp] theorem State.setLink_att (s : State) (n : Nat) (x : Link) : (s.setLink n x).att = s.att := rfl
@[simp] theorem State.setLink_eth (s : State) (n : Nat) (x : Link) : (s.setLink n x).eth = s.eth := rfl
@[simp] theorem State.setLink_tsv (s : State) (n : Nat) (x : Link) : (s.setLink n x).tsv = s.tsv := rfl
@[simp] theorem State.setLink_aud (s : State) (n : Nat) (x : Link) : (s.setLink n x).aud = s.aud := rfl
@[simp] theorem State.setLink_mix (s : State) (n : Nat) (x : Link) : (s.setLink n x).mix = s.mix := rfl
@[simp] theorem State.setLink_hst (s : State) (n : Nat) (x : Link) : (s.setLink n x).hst = s.hst := rfl
@[simp] theorem State.setLink_sbd (s : State) (n : Nat) (x : Link) : (s.setLink n x).sbd = s.sbd := rfl
@[simp] theorem State.setLink_mem (s : State) (n : Nat) (x : Link) : (s.setLink n x).mem = s.mem := rfl
@[simp] theorem State.setLink_cast_ (s : State) (n : Nat) (x : Link) : (s.setLink n x).cast_ = s.cast_ := rfl
@[simp] theorem State.setLink_dram (s : State) (n : Nat) (x : Link) : (s.setLink n x).dram = s.dram := rfl
@[simp] theorem State.setLink_coreOn (s : State) (n : Nat) (x : Link) : (s.setLink n x).coreOn = s.coreOn := rfl

/-! ### setEp -/
@[simp] theorem State.setEp_pending (s : State) (n : Nat) (x : EthP) : (s.setEp n x).pending = s.pending := rfl
@[simp] theorem State.setEp_sent (s : State) (n : Nat) (x : EthP) : (s.setEp n x).sent = s.sent := rfl
@[simp] theorem State.setEp_free (s : State) (n : Nat) (x : EthP) : (s.setEp n x).free = s.free := rfl
@[simp] theorem State.setEp_wt (s : State) (n : Nat) (x : EthP) : (s.setEp n x).wt = s.wt := rfl
@[simp] theorem State.setEp_fired (s : State) (n : Nat) (x : EthP) : (s.setEp n x).fired = s.fired := rfl
@[simp] theorem State.setEp_regs (s : State) (n : Nat) (x : EthP) : (s.setEp n x).regs = s.regs := rfl
@[simp] theorem State.setEp_force (s : State) (n : Nat) (x : EthP) : (s.setEp n x).force = s.force := rfl
@[simp] theorem State.setEp_hw (s : State) (n : Nat) (x : EthP) : (s.setEp n x).hw = s.hw := rfl
@[simp] theorem State.setEp_staged (s : State) (n : Nat) (x : EthP) : (s.setEp n x).staged = s.staged := rfl
@[simp] theorem State.setEp_latches (s : State) (n : Nat) (x : EthP) : (s.setEp n x).latches = s.latches := rfl
@[simp] theorem State.setEp_hostErr (s : State) (n : Nat) (x : EthP) : (s.setEp n x).hostErr = s.hostErr := rfl
@[simp] theorem State.setEp_sbdErr (s : State) (n : Nat) (x : EthP) : (s.setEp n x).sbdErr = s.sbdErr := rfl
@[simp] theorem State.setEp_warden (s : State) (n : Nat) (x : EthP) : (s.setEp n x).warden = s.warden := rfl
@[simp] theorem State.setEp_log (s : State) (n : Nat) (x : EthP) : (s.setEp n x).log = s.log := rfl
@[simp] theorem State.setEp_gau (s : State) (n : Nat) (x : EthP) : (s.setEp n x).gau = s.gau := rfl
@[simp] theorem State.setEp_sel (s : State) (n : Nat) (x : EthP) : (s.setEp n x).sel = s.sel := rfl
@[simp] theorem State.setEp_hld (s : State) (n : Nat) (x : EthP) : (s.setEp n x).hld = s.hld := rfl
@[simp] theorem State.setEp_out (s : State) (n : Nat) (x : EthP) : (s.setEp n x).out = s.out := rfl
@[simp] theorem State.setEp_seqs (s : State) (n : Nat) (x : EthP) : (s.setEp n x).seqs = s.seqs := rfl
@[simp] theorem State.setEp_clus (s : State) (n : Nat) (x : EthP) : (s.setEp n x).clus = s.clus := rfl
@[simp] theorem State.setEp_flt (s : State) (n : Nat) (x : EthP) : (s.setEp n x).flt = s.flt := rfl
@[simp] theorem State.setEp_rcd (s : State) (n : Nat) (x : EthP) : (s.setEp n x).rcd = s.rcd := rfl
@[simp] theorem State.setEp_pmc (s : State) (n : Nat) (x : EthP) : (s.setEp n x).pmc = s.pmc := rfl
@[simp] theorem State.setEp_links (s : State) (n : Nat) (x : EthP) : (s.setEp n x).links = s.links := rfl
@[simp] theorem State.setEp_twin (s : State) (n : Nat) (x : EthP) : (s.setEp n x).twin = s.twin := rfl
@[simp] theorem State.setEp_tdc (s : State) (n : Nat) (x : EthP) : (s.setEp n x).tdc = s.tdc := rfl
@[simp] theorem State.setEp_gnb (s : State) (n : Nat) (x : EthP) : (s.setEp n x).gnb = s.gnb := rfl
@[simp] theorem State.setEp_key (s : State) (n : Nat) (x : EthP) : (s.setEp n x).key = s.key := rfl
@[simp] theorem State.setEp_fuses (s : State) (n : Nat) (x : EthP) : (s.setEp n x).fuses = s.fuses := rfl
@[simp] theorem State.setEp_att (s : State) (n : Nat) (x : EthP) : (s.setEp n x).att = s.att := rfl
@[simp] theorem State.setEp_eth (s : State) (n : Nat) (x : EthP) : (s.setEp n x).eth = s.eth.set n x := rfl
@[simp] theorem State.setEp_tsv (s : State) (n : Nat) (x : EthP) : (s.setEp n x).tsv = s.tsv := rfl
@[simp] theorem State.setEp_aud (s : State) (n : Nat) (x : EthP) : (s.setEp n x).aud = s.aud := rfl
@[simp] theorem State.setEp_mix (s : State) (n : Nat) (x : EthP) : (s.setEp n x).mix = s.mix := rfl
@[simp] theorem State.setEp_hst (s : State) (n : Nat) (x : EthP) : (s.setEp n x).hst = s.hst := rfl
@[simp] theorem State.setEp_sbd (s : State) (n : Nat) (x : EthP) : (s.setEp n x).sbd = s.sbd := rfl
@[simp] theorem State.setEp_mem (s : State) (n : Nat) (x : EthP) : (s.setEp n x).mem = s.mem := rfl
@[simp] theorem State.setEp_cast_ (s : State) (n : Nat) (x : EthP) : (s.setEp n x).cast_ = s.cast_ := rfl
@[simp] theorem State.setEp_dram (s : State) (n : Nat) (x : EthP) : (s.setEp n x).dram = s.dram := rfl
@[simp] theorem State.setEp_coreOn (s : State) (n : Nat) (x : EthP) : (s.setEp n x).coreOn = s.coreOn := rfl

/-! ### setDq -/
@[simp] theorem State.setDq_pending (s : State) (n : Nat) (x : Dma) : (s.setDq n x).pending = s.pending := rfl
@[simp] theorem State.setDq_sent (s : State) (n : Nat) (x : Dma) : (s.setDq n x).sent = s.sent := rfl
@[simp] theorem State.setDq_free (s : State) (n : Nat) (x : Dma) : (s.setDq n x).free = s.free := rfl
@[simp] theorem State.setDq_wt (s : State) (n : Nat) (x : Dma) : (s.setDq n x).wt = s.wt := rfl
@[simp] theorem State.setDq_fired (s : State) (n : Nat) (x : Dma) : (s.setDq n x).fired = s.fired := rfl
@[simp] theorem State.setDq_regs (s : State) (n : Nat) (x : Dma) : (s.setDq n x).regs = s.regs := rfl
@[simp] theorem State.setDq_force (s : State) (n : Nat) (x : Dma) : (s.setDq n x).force = s.force := rfl
@[simp] theorem State.setDq_hw (s : State) (n : Nat) (x : Dma) : (s.setDq n x).hw = s.hw := rfl
@[simp] theorem State.setDq_staged (s : State) (n : Nat) (x : Dma) : (s.setDq n x).staged = s.staged := rfl
@[simp] theorem State.setDq_latches (s : State) (n : Nat) (x : Dma) : (s.setDq n x).latches = s.latches := rfl
@[simp] theorem State.setDq_hostErr (s : State) (n : Nat) (x : Dma) : (s.setDq n x).hostErr = s.hostErr := rfl
@[simp] theorem State.setDq_sbdErr (s : State) (n : Nat) (x : Dma) : (s.setDq n x).sbdErr = s.sbdErr := rfl
@[simp] theorem State.setDq_warden (s : State) (n : Nat) (x : Dma) : (s.setDq n x).warden = s.warden := rfl
@[simp] theorem State.setDq_log (s : State) (n : Nat) (x : Dma) : (s.setDq n x).log = s.log := rfl
@[simp] theorem State.setDq_gau (s : State) (n : Nat) (x : Dma) : (s.setDq n x).gau = s.gau := rfl
@[simp] theorem State.setDq_sel (s : State) (n : Nat) (x : Dma) : (s.setDq n x).sel = s.sel := rfl
@[simp] theorem State.setDq_hld (s : State) (n : Nat) (x : Dma) : (s.setDq n x).hld = s.hld := rfl
@[simp] theorem State.setDq_out (s : State) (n : Nat) (x : Dma) : (s.setDq n x).out = s.out := rfl
@[simp] theorem State.setDq_seqs (s : State) (n : Nat) (x : Dma) : (s.setDq n x).seqs = s.seqs := rfl
@[simp] theorem State.setDq_clus (s : State) (n : Nat) (x : Dma) : (s.setDq n x).clus = s.clus := rfl
@[simp] theorem State.setDq_flt (s : State) (n : Nat) (x : Dma) : (s.setDq n x).flt = s.flt := rfl
@[simp] theorem State.setDq_rcd (s : State) (n : Nat) (x : Dma) : (s.setDq n x).rcd = s.rcd := rfl
@[simp] theorem State.setDq_pmc (s : State) (n : Nat) (x : Dma) : (s.setDq n x).pmc = s.pmc := rfl
@[simp] theorem State.setDq_links (s : State) (n : Nat) (x : Dma) : (s.setDq n x).links = s.links := rfl
@[simp] theorem State.setDq_twin (s : State) (n : Nat) (x : Dma) : (s.setDq n x).twin = s.twin := rfl
@[simp] theorem State.setDq_tdc (s : State) (n : Nat) (x : Dma) : (s.setDq n x).tdc = s.tdc := rfl
@[simp] theorem State.setDq_gnb (s : State) (n : Nat) (x : Dma) : (s.setDq n x).gnb = s.gnb := rfl
@[simp] theorem State.setDq_key (s : State) (n : Nat) (x : Dma) : (s.setDq n x).key = s.key := rfl
@[simp] theorem State.setDq_fuses (s : State) (n : Nat) (x : Dma) : (s.setDq n x).fuses = s.fuses := rfl
@[simp] theorem State.setDq_att (s : State) (n : Nat) (x : Dma) : (s.setDq n x).att = s.att := rfl
@[simp] theorem State.setDq_eth (s : State) (n : Nat) (x : Dma) : (s.setDq n x).eth = s.eth := rfl
@[simp] theorem State.setDq_tsv (s : State) (n : Nat) (x : Dma) : (s.setDq n x).tsv = s.tsv := rfl
@[simp] theorem State.setDq_aud (s : State) (n : Nat) (x : Dma) : (s.setDq n x).aud = s.aud := rfl
@[simp] theorem State.setDq_mix (s : State) (n : Nat) (x : Dma) : (s.setDq n x).mix = s.mix := rfl
@[simp] theorem State.setDq_hst (s : State) (n : Nat) (x : Dma) : (s.setDq n x).hst = { s.hst with dma := s.hst.dma.set n x } := rfl
@[simp] theorem State.setDq_sbd (s : State) (n : Nat) (x : Dma) : (s.setDq n x).sbd = s.sbd := rfl
@[simp] theorem State.setDq_mem (s : State) (n : Nat) (x : Dma) : (s.setDq n x).mem = s.mem := rfl
@[simp] theorem State.setDq_cast_ (s : State) (n : Nat) (x : Dma) : (s.setDq n x).cast_ = s.cast_ := rfl
@[simp] theorem State.setDq_dram (s : State) (n : Nat) (x : Dma) : (s.setDq n x).dram = s.dram := rfl
@[simp] theorem State.setDq_coreOn (s : State) (n : Nat) (x : Dma) : (s.setDq n x).coreOn = s.coreOn := rfl

/-! ### fire -/
@[simp] theorem State.fire_pending (s : State) (k : Nat) : (s.fire k).pending = s.pending := rfl
@[simp] theorem State.fire_sent (s : State) (k : Nat) : (s.fire k).sent = s.sent := rfl
@[simp] theorem State.fire_free (s : State) (k : Nat) : (s.fire k).free = s.free := rfl
@[simp] theorem State.fire_wt (s : State) (k : Nat) : (s.fire k).wt = s.wt := rfl
@[simp] theorem State.fire_fired (s : State) (k : Nat) : (s.fire k).fired = k :: s.fired := rfl
@[simp] theorem State.fire_regs (s : State) (k : Nat) : (s.fire k).regs = s.regs := rfl
@[simp] theorem State.fire_force (s : State) (k : Nat) : (s.fire k).force = s.force := rfl
@[simp] theorem State.fire_hw (s : State) (k : Nat) : (s.fire k).hw = s.hw := rfl
@[simp] theorem State.fire_staged (s : State) (k : Nat) : (s.fire k).staged = s.staged := rfl
@[simp] theorem State.fire_latches (s : State) (k : Nat) : (s.fire k).latches = s.latches := rfl
@[simp] theorem State.fire_hostErr (s : State) (k : Nat) : (s.fire k).hostErr = s.hostErr := rfl
@[simp] theorem State.fire_sbdErr (s : State) (k : Nat) : (s.fire k).sbdErr = s.sbdErr := rfl
@[simp] theorem State.fire_warden (s : State) (k : Nat) : (s.fire k).warden = s.warden := rfl
@[simp] theorem State.fire_log (s : State) (k : Nat) : (s.fire k).log = s.log := rfl
@[simp] theorem State.fire_gau (s : State) (k : Nat) : (s.fire k).gau = s.gau := rfl
@[simp] theorem State.fire_sel (s : State) (k : Nat) : (s.fire k).sel = s.sel := rfl
@[simp] theorem State.fire_hld (s : State) (k : Nat) : (s.fire k).hld = s.hld := rfl
@[simp] theorem State.fire_out (s : State) (k : Nat) : (s.fire k).out = s.out := rfl
@[simp] theorem State.fire_seqs (s : State) (k : Nat) : (s.fire k).seqs = s.seqs := rfl
@[simp] theorem State.fire_clus (s : State) (k : Nat) : (s.fire k).clus = s.clus := rfl
@[simp] theorem State.fire_flt (s : State) (k : Nat) : (s.fire k).flt = s.flt := rfl
@[simp] theorem State.fire_rcd (s : State) (k : Nat) : (s.fire k).rcd = s.rcd := rfl
@[simp] theorem State.fire_pmc (s : State) (k : Nat) : (s.fire k).pmc = s.pmc := rfl
@[simp] theorem State.fire_links (s : State) (k : Nat) : (s.fire k).links = s.links := rfl
@[simp] theorem State.fire_twin (s : State) (k : Nat) : (s.fire k).twin = s.twin := rfl
@[simp] theorem State.fire_tdc (s : State) (k : Nat) : (s.fire k).tdc = s.tdc := rfl
@[simp] theorem State.fire_gnb (s : State) (k : Nat) : (s.fire k).gnb = s.gnb := rfl
@[simp] theorem State.fire_key (s : State) (k : Nat) : (s.fire k).key = s.key := rfl
@[simp] theorem State.fire_fuses (s : State) (k : Nat) : (s.fire k).fuses = s.fuses := rfl
@[simp] theorem State.fire_att (s : State) (k : Nat) : (s.fire k).att = s.att := rfl
@[simp] theorem State.fire_eth (s : State) (k : Nat) : (s.fire k).eth = s.eth := rfl
@[simp] theorem State.fire_tsv (s : State) (k : Nat) : (s.fire k).tsv = s.tsv := rfl
@[simp] theorem State.fire_aud (s : State) (k : Nat) : (s.fire k).aud = s.aud := rfl
@[simp] theorem State.fire_mix (s : State) (k : Nat) : (s.fire k).mix = s.mix := rfl
@[simp] theorem State.fire_hst (s : State) (k : Nat) : (s.fire k).hst = s.hst := rfl
@[simp] theorem State.fire_sbd (s : State) (k : Nat) : (s.fire k).sbd = s.sbd := rfl
@[simp] theorem State.fire_mem (s : State) (k : Nat) : (s.fire k).mem = s.mem := rfl
@[simp] theorem State.fire_cast_ (s : State) (k : Nat) : (s.fire k).cast_ = s.cast_ := rfl
@[simp] theorem State.fire_dram (s : State) (k : Nat) : (s.fire k).dram = s.dram := rfl
@[simp] theorem State.fire_coreOn (s : State) (k : Nat) : (s.fire k).coreOn = s.coreOn := rfl

end Sys2Proof.Machine
end

