-- ==== Sys2Proof/Laws/Tab.lean ====
section
/-! SUPPORT. Reading back what a sparse table holds. -/

namespace Sys2Proof

@[simp] theorem Tab.get_nil {α : Type} (k : Nat) (d : α) : Tab.get [] k d = d := rfl

@[simp] theorem Tab.get_set_same {α : Type} (t : Tab α) (k : Nat) (v d : α) : (t.set k v).get k d = v := by
  induction t with
  | nil => simp [Tab.set, Tab.get]
  | cons p r ih =>
    obtain ⟨j, w⟩ := p
    by_cases h : j = k
    · simp [Tab.set, Tab.get, h]
    · by_cases h2 : k < j <;> simp [Tab.set, Tab.get, h, h2, ih]

theorem Tab.get_set_ne {α : Type} (t : Tab α) {k m : Nat} (v d : α) (h : m ≠ k) :
    (t.set k v).get m d = t.get m d := by
  induction t with
  | nil => simp [Tab.set, Tab.get, Ne.symm h]
  | cons p r ih =>
    obtain ⟨j, w⟩ := p
    by_cases hj : j = k
    · subst hj; simp [Tab.set, Tab.get, Ne.symm h]
    · by_cases h2 : k < j
      · simp [Tab.set, Tab.get, hj, h2, Ne.symm h]
      · simp only [Tab.set, Tab.get, if_neg hj, if_neg h2]
        split
        · rfl
        · exact ih

theorem Tab.get_set {α : Type} (t : Tab α) (k m : Nat) (v d : α) :
    (t.set k v).get m d = if m = k then v else t.get m d := by
  by_cases h : m = k
  · simp [h]
  · simp [h, Tab.get_set_ne]

end Sys2Proof
end

