-- ==== Sys2Proof/Laws/Ops.lean ====
section
/-! SUPPORT. What the shared operations can change: for each, once, the fields it may touch, and from that every field it leaves. -/

namespace Sys2Proof.Machine

theorem State.irq_only (s : State) (v : Nat) : ∃ v0 v1, s.irq v = { s with hw := v0, sent := v1 } := by
  unfold State.irq
  split
  · dsimp only; split
    · exact ⟨_, s.sent, rfl⟩
    · exact ⟨_, _, rfl⟩
  · exact ⟨s.hw, s.sent, rfl⟩
@[simp] theorem State.irq_pending (s : State) (v : Nat) : (s.irq v).pending = s.pending := by
  obtain ⟨_, _, h⟩ := s.irq_only v; rw [h]
@[simp] theorem State.irq_free (s : State) (v : Nat) : (s.irq v).free = s.free := by
  obtain ⟨_, _, h⟩ := s.irq_only v; rw [h]
@[simp] theorem State.irq_wt (s : State) (v : Nat) : (s.irq v).wt = s.wt := by
  obtain ⟨_, _, h⟩ := s.irq_only v; rw [h]
@[simp] theorem State.irq_fired (s : State) (v : Nat) : (s.irq v).fired = s.fired := by
  obtain ⟨_, _, h⟩ := s.irq_only v; rw [h]
@[simp] theorem State.irq_regs (s : State) (v : Nat) : (s.irq v).regs = s.regs := by
  obtain ⟨_, _, h⟩ := s.irq_only v; rw [h]
@[simp] theorem State.irq_force (s : State) (v : Nat) : (s.irq v).force = s.force := by
  obtain ⟨_, _, h⟩ := s.irq_only v; rw [h]
@[simp] theorem State.irq_staged (s : State) (v : Nat) : (s.irq v).staged = s.staged := by
  obtain ⟨_, _, h⟩ := s.irq_only v; rw [h]
@[simp] theorem State.irq_latches (s : State) (v : Nat) : (s.irq v).latches = s.latches := by
  obtain ⟨_, _, h⟩ := s.irq_only v; rw [h]
@[simp] theorem State.irq_hostErr (s : State) (v : Nat) : (s.irq v).hostErr = s.hostErr := by
  obtain ⟨_, _, h⟩ := s.irq_only v; rw [h]
@[simp] theorem State.irq_sbdErr (s : State) (v : Nat) : (s.irq v).sbdErr = s.sbdErr := by
  obtain ⟨_, _, h⟩ := s.irq_only v; rw [h]
@[simp] theorem State.irq_warden (s : State) (v : Nat) : (s.irq v).warden = s.warden := by
  obtain ⟨_, _, h⟩ := s.irq_only v; rw [h]
@[simp] theorem State.irq_log (s : State) (v : Nat) : (s.irq v).log = s.log := by
  obtain ⟨_, _, h⟩ := s.irq_only v; rw [h]
@[simp] theorem State.irq_gau (s : State) (v : Nat) : (s.irq v).gau = s.gau := by
  obtain ⟨_, _, h⟩ := s.irq_only v; rw [h]
@[simp] theorem State.irq_sel (s : State) (v : Nat) : (s.irq v).sel = s.sel := by
  obtain ⟨_, _, h⟩ := s.irq_only v; rw [h]
@[simp] theorem State.irq_hld (s : State) (v : Nat) : (s.irq v).hld = s.hld := by
  obtain ⟨_, _, h⟩ := s.irq_only v; rw [h]
@[simp] theorem State.irq_out (s : State) (v : Nat) : (s.irq v).out = s.out := by
  obtain ⟨_, _, h⟩ := s.irq_only v; rw [h]
@[simp] theorem State.irq_seqs (s : State) (v : Nat) : (s.irq v).seqs = s.seqs := by
  obtain ⟨_, _, h⟩ := s.irq_only v; rw [h]
@[simp] theorem State.irq_clus (s : State) (v : Nat) : (s.irq v).clus = s.clus := by
  obtain ⟨_, _, h⟩ := s.irq_only v; rw [h]
@[simp] theorem State.irq_flt (s : State) (v : Nat) : (s.irq v).flt = s.flt := by
  obtain ⟨_, _, h⟩ := s.irq_only v; rw [h]
@[simp] theorem State.irq_rcd (s : State) (v : Nat) : (s.irq v).rcd = s.rcd := by
  obtain ⟨_, _, h⟩ := s.irq_only v; rw [h]
@[simp] theorem State.irq_pmc (s : State) (v : Nat) : (s.irq v).pmc = s.pmc := by
  obtain ⟨_, _, h⟩ := s.irq_only v; rw [h]
@[simp] theorem State.irq_links (s : State) (v : Nat) : (s.irq v).links = s.links := by
  obtain ⟨_, _, h⟩ := s.irq_only v; rw [h]
@[simp] theorem State.irq_twin (s : State) (v : Nat) : (s.irq v).twin = s.twin := by
  obtain ⟨_, _, h⟩ := s.irq_only v; rw [h]
@[simp] theorem State.irq_tdc (s : State) (v : Nat) : (s.irq v).tdc = s.tdc := by
  obtain ⟨_, _, h⟩ := s.irq_only v; rw [h]
@[simp] theorem State.irq_gnb (s : State) (v : Nat) : (s.irq v).gnb = s.gnb := by
  obtain ⟨_, _, h⟩ := s.irq_only v; rw [h]
@[simp] theorem State.irq_key (s : State) (v : Nat) : (s.irq v).key = s.key := by
  obtain ⟨_, _, h⟩ := s.irq_only v; rw [h]
@[simp] theorem State.irq_fuses (s : State) (v : Nat) : (s.irq v).fuses = s.fuses := by
  obtain ⟨_, _, h⟩ := s.irq_only v; rw [h]
@[simp] theorem State.irq_att (s : State) (v : Nat) : (s.irq v).att = s.att := by
  obtain ⟨_, _, h⟩ := s.irq_only v; rw [h]
@[simp] theorem State.irq_eth (s : State) (v : Nat) : (s.irq v).eth = s.eth := by
  obtain ⟨_, _, h⟩ := s.irq_only v; rw [h]
@[simp] theorem State.irq_tsv (s : State) (v : Nat) : (s.irq v).tsv = s.tsv := by
  obtain ⟨_, _, h⟩ := s.irq_only v; rw [h]
@[simp] theorem State.irq_aud (s : State) (v : Nat) : (s.irq v).aud = s.aud := by
  obtain ⟨_, _, h⟩ := s.irq_only v; rw [h]
@[simp] theorem State.irq_mix (s : State) (v : Nat) : (s.irq v).mix = s.mix := by
  obtain ⟨_, _, h⟩ := s.irq_only v; rw [h]
@[simp] theorem State.irq_hst (s : State) (v : Nat) : (s.irq v).hst = s.hst := by
  obtain ⟨_, _, h⟩ := s.irq_only v; rw [h]
@[simp] theorem State.irq_sbd (s : State) (v : Nat) : (s.irq v).sbd = s.sbd := by
  obtain ⟨_, _, h⟩ := s.irq_only v; rw [h]
@[simp] theorem State.irq_mem (s : State) (v : Nat) : (s.irq v).mem = s.mem := by
  obtain ⟨_, _, h⟩ := s.irq_only v; rw [h]
@[simp] theorem State.irq_cast_ (s : State) (v : Nat) : (s.irq v).cast_ = s.cast_ := by
  obtain ⟨_, _, h⟩ := s.irq_only v; rw [h]
@[simp] theorem State.irq_dram (s : State) (v : Nat) : (s.irq v).dram = s.dram := by
  obtain ⟨_, _, h⟩ := s.irq_only v; rw [h]
@[simp] theorem State.irq_coreOn (s : State) (v : Nat) : (s.irq v).coreOn = s.coreOn := by
  obtain ⟨_, _, h⟩ := s.irq_only v; rw [h]
theorem State.ibi_only (s : State) (c : Nat) : ∃ v0, s.ibi c = { s with sent := v0 } := by
  unfold State.ibi
  split
  · exact ⟨s.sent, rfl⟩
  · exact ⟨_, rfl⟩
@[simp] theorem State.ibi_pending (s : State) (c : Nat) : (s.ibi c).pending = s.pending := by
  obtain ⟨_, h⟩ := s.ibi_only c; rw [h]
@[simp] theorem State.ibi_free (s : State) (c : Nat) : (s.ibi c).free = s.free := by
  obtain ⟨_, h⟩ := s.ibi_only c; rw [h]
@[simp] theorem State.ibi_wt (s : State) (c : Nat) : (s.ibi c).wt = s.wt := by
  obtain ⟨_, h⟩ := s.ibi_only c; rw [h]
@[simp] theorem State.ibi_fired (s : State) (c : Nat) : (s.ibi c).fired = s.fired := by
  obtain ⟨_, h⟩ := s.ibi_only c; rw [h]
@[simp] theorem State.ibi_regs (s : State) (c : Nat) : (s.ibi c).regs = s.regs := by
  obtain ⟨_, h⟩ := s.ibi_only c; rw [h]
@[simp] theorem State.ibi_force (s : State) (c : Nat) : (s.ibi c).force = s.force := by
  obtain ⟨_, h⟩ := s.ibi_only c; rw [h]
@[simp] theorem State.ibi_hw (s : State) (c : Nat) : (s.ibi c).hw = s.hw := by
  obtain ⟨_, h⟩ := s.ibi_only c; rw [h]
@[simp] theorem State.ibi_staged (s : State) (c : Nat) : (s.ibi c).staged = s.staged := by
  obtain ⟨_, h⟩ := s.ibi_only c; rw [h]
@[simp] theorem State.ibi_latches (s : State) (c : Nat) : (s.ibi c).latches = s.latches := by
  obtain ⟨_, h⟩ := s.ibi_only c; rw [h]
@[simp] theorem State.ibi_hostErr (s : State) (c : Nat) : (s.ibi c).hostErr = s.hostErr := by
  obtain ⟨_, h⟩ := s.ibi_only c; rw [h]
@[simp] theorem State.ibi_sbdErr (s : State) (c : Nat) : (s.ibi c).sbdErr = s.sbdErr := by
  obtain ⟨_, h⟩ := s.ibi_only c; rw [h]
@[simp] theorem State.ibi_warden (s : State) (c : Nat) : (s.ibi c).warden = s.warden := by
  obtain ⟨_, h⟩ := s.ibi_only c; rw [h]
@[simp] theorem State.ibi_log (s : State) (c : Nat) : (s.ibi c).log = s.log := by
  obtain ⟨_, h⟩ := s.ibi_only c; rw [h]
@[simp] theorem State.ibi_gau (s : State) (c : Nat) : (s.ibi c).gau = s.gau := by
  obtain ⟨_, h⟩ := s.ibi_only c; rw [h]
@[simp] theorem State.ibi_sel (s : State) (c : Nat) : (s.ibi c).sel = s.sel := by
  obtain ⟨_, h⟩ := s.ibi_only c; rw [h]
@[simp] theorem State.ibi_hld (s : State) (c : Nat) : (s.ibi c).hld = s.hld := by
  obtain ⟨_, h⟩ := s.ibi_only c; rw [h]
@[simp] theorem State.ibi_out (s : State) (c : Nat) : (s.ibi c).out = s.out := by
  obtain ⟨_, h⟩ := s.ibi_only c; rw [h]
@[simp] theorem State.ibi_seqs (s : State) (c : Nat) : (s.ibi c).seqs = s.seqs := by
  obtain ⟨_, h⟩ := s.ibi_only c; rw [h]
@[simp] theorem State.ibi_clus (s : State) (c : Nat) : (s.ibi c).clus = s.clus := by
  obtain ⟨_, h⟩ := s.ibi_only c; rw [h]
@[simp] theorem State.ibi_flt (s : State) (c : Nat) : (s.ibi c).flt = s.flt := by
  obtain ⟨_, h⟩ := s.ibi_only c; rw [h]
@[simp] theorem State.ibi_rcd (s : State) (c : Nat) : (s.ibi c).rcd = s.rcd := by
  obtain ⟨_, h⟩ := s.ibi_only c; rw [h]
@[simp] theorem State.ibi_pmc (s : State) (c : Nat) : (s.ibi c).pmc = s.pmc := by
  obtain ⟨_, h⟩ := s.ibi_only c; rw [h]
@[simp] theorem State.ibi_links (s : State) (c : Nat) : (s.ibi c).links = s.links := by
  obtain ⟨_, h⟩ := s.ibi_only c; rw [h]
@[simp] theorem State.ibi_twin (s : State) (c : Nat) : (s.ibi c).twin = s.twin := by
  obtain ⟨_, h⟩ := s.ibi_only c; rw [h]
@[simp] theorem State.ibi_tdc (s : State) (c : Nat) : (s.ibi c).tdc = s.tdc := by
  obtain ⟨_, h⟩ := s.ibi_only c; rw [h]
@[simp] theorem State.ibi_gnb (s : State) (c : Nat) : (s.ibi c).gnb = s.gnb := by
  obtain ⟨_, h⟩ := s.ibi_only c; rw [h]
@[simp] theorem State.ibi_key (s : State) (c : Nat) : (s.ibi c).key = s.key := by
  obtain ⟨_, h⟩ := s.ibi_only c; rw [h]
@[simp] theorem State.ibi_fuses (s : State) (c : Nat) : (s.ibi c).fuses = s.fuses := by
  obtain ⟨_, h⟩ := s.ibi_only c; rw [h]
@[simp] theorem State.ibi_att (s : State) (c : Nat) : (s.ibi c).att = s.att := by
  obtain ⟨_, h⟩ := s.ibi_only c; rw [h]
@[simp] theorem State.ibi_eth (s : State) (c : Nat) : (s.ibi c).eth = s.eth := by
  obtain ⟨_, h⟩ := s.ibi_only c; rw [h]
@[simp] theorem State.ibi_tsv (s : State) (c : Nat) : (s.ibi c).tsv = s.tsv := by
  obtain ⟨_, h⟩ := s.ibi_only c; rw [h]
@[simp] theorem State.ibi_aud (s : State) (c : Nat) : (s.ibi c).aud = s.aud := by
  obtain ⟨_, h⟩ := s.ibi_only c; rw [h]
@[simp] theorem State.ibi_mix (s : State) (c : Nat) : (s.ibi c).mix = s.mix := by
  obtain ⟨_, h⟩ := s.ibi_only c; rw [h]
@[simp] theorem State.ibi_hst (s : State) (c : Nat) : (s.ibi c).hst = s.hst := by
  obtain ⟨_, h⟩ := s.ibi_only c; rw [h]
@[simp] theorem State.ibi_sbd (s : State) (c : Nat) : (s.ibi c).sbd = s.sbd := by
  obtain ⟨_, h⟩ := s.ibi_only c; rw [h]
@[simp] theorem State.ibi_mem (s : State) (c : Nat) : (s.ibi c).mem = s.mem := by
  obtain ⟨_, h⟩ := s.ibi_only c; rw [h]
@[simp] theorem State.ibi_cast_ (s : State) (c : Nat) : (s.ibi c).cast_ = s.cast_ := by
  obtain ⟨_, h⟩ := s.ibi_only c; rw [h]
@[simp] theorem State.ibi_dram (s : State) (c : Nat) : (s.ibi c).dram = s.dram := by
  obtain ⟨_, h⟩ := s.ibi_only c; rw [h]
@[simp] theorem State.ibi_coreOn (s : State) (c : Nat) : (s.ibi c).coreOn = s.coreOn := by
  obtain ⟨_, h⟩ := s.ibi_only c; rw [h]
theorem State.pmcOne_only (s : State) (i k : Nat) : ∃ v0, s.pmcOne i k = { s with pmc := v0 } := by
  exact ⟨_, rfl⟩
@[simp] theorem State.pmcOne_pending (s : State) (i k : Nat) : (s.pmcOne i k).pending = s.pending := by
  obtain ⟨_, h⟩ := s.pmcOne_only i k; rw [h]
@[simp] theorem State.pmcOne_sent (s : State) (i k : Nat) : (s.pmcOne i k).sent = s.sent := by
  obtain ⟨_, h⟩ := s.pmcOne_only i k; rw [h]
@[simp] theorem State.pmcOne_free (s : State) (i k : Nat) : (s.pmcOne i k).free = s.free := by
  obtain ⟨_, h⟩ := s.pmcOne_only i k; rw [h]
@[simp] theorem State.pmcOne_wt (s : State) (i k : Nat) : (s.pmcOne i k).wt = s.wt := by
  obtain ⟨_, h⟩ := s.pmcOne_only i k; rw [h]
@[simp] theorem State.pmcOne_fired (s : State) (i k : Nat) : (s.pmcOne i k).fired = s.fired := by
  obtain ⟨_, h⟩ := s.pmcOne_only i k; rw [h]
@[simp] theorem State.pmcOne_regs (s : State) (i k : Nat) : (s.pmcOne i k).regs = s.regs := by
  obtain ⟨_, h⟩ := s.pmcOne_only i k; rw [h]
@[simp] theorem State.pmcOne_force (s : State) (i k : Nat) : (s.pmcOne i k).force = s.force := by
  obtain ⟨_, h⟩ := s.pmcOne_only i k; rw [h]
@[simp] theorem State.pmcOne_hw (s : State) (i k : Nat) : (s.pmcOne i k).hw = s.hw := by
  obtain ⟨_, h⟩ := s.pmcOne_only i k; rw [h]
@[simp] theorem State.pmcOne_staged (s : State) (i k : Nat) : (s.pmcOne i k).staged = s.staged := by
  obtain ⟨_, h⟩ := s.pmcOne_only i k; rw [h]
@[simp] theorem State.pmcOne_latches (s : State) (i k : Nat) : (s.pmcOne i k).latches = s.latches := by
  obtain ⟨_, h⟩ := s.pmcOne_only i k; rw [h]
@[simp] theorem State.pmcOne_hostErr (s : State) (i k : Nat) : (s.pmcOne i k).hostErr = s.hostErr := by
  obtain ⟨_, h⟩ := s.pmcOne_only i k; rw [h]
@[simp] theorem State.pmcOne_sbdErr (s : State) (i k : Nat) : (s.pmcOne i k).sbdErr = s.sbdErr := by
  obtain ⟨_, h⟩ := s.pmcOne_only i k; rw [h]
@[simp] theorem State.pmcOne_warden (s : State) (i k : Nat) : (s.pmcOne i k).warden = s.warden := by
  obtain ⟨_, h⟩ := s.pmcOne_only i k; rw [h]
@[simp] theorem State.pmcOne_log (s : State) (i k : Nat) : (s.pmcOne i k).log = s.log := by
  obtain ⟨_, h⟩ := s.pmcOne_only i k; rw [h]
@[simp] theorem State.pmcOne_gau (s : State) (i k : Nat) : (s.pmcOne i k).gau = s.gau := by
  obtain ⟨_, h⟩ := s.pmcOne_only i k; rw [h]
@[simp] theorem State.pmcOne_sel (s : State) (i k : Nat) : (s.pmcOne i k).sel = s.sel := by
  obtain ⟨_, h⟩ := s.pmcOne_only i k; rw [h]
@[simp] theorem State.pmcOne_hld (s : State) (i k : Nat) : (s.pmcOne i k).hld = s.hld := by
  obtain ⟨_, h⟩ := s.pmcOne_only i k; rw [h]
@[simp] theorem State.pmcOne_out (s : State) (i k : Nat) : (s.pmcOne i k).out = s.out := by
  obtain ⟨_, h⟩ := s.pmcOne_only i k; rw [h]
@[simp] theorem State.pmcOne_seqs (s : State) (i k : Nat) : (s.pmcOne i k).seqs = s.seqs := by
  obtain ⟨_, h⟩ := s.pmcOne_only i k; rw [h]
@[simp] theorem State.pmcOne_clus (s : State) (i k : Nat) : (s.pmcOne i k).clus = s.clus := by
  obtain ⟨_, h⟩ := s.pmcOne_only i k; rw [h]
@[simp] theorem State.pmcOne_flt (s : State) (i k : Nat) : (s.pmcOne i k).flt = s.flt := by
  obtain ⟨_, h⟩ := s.pmcOne_only i k; rw [h]
@[simp] theorem State.pmcOne_rcd (s : State) (i k : Nat) : (s.pmcOne i k).rcd = s.rcd := by
  obtain ⟨_, h⟩ := s.pmcOne_only i k; rw [h]
@[simp] theorem State.pmcOne_links (s : State) (i k : Nat) : (s.pmcOne i k).links = s.links := by
  obtain ⟨_, h⟩ := s.pmcOne_only i k; rw [h]
@[simp] theorem State.pmcOne_twin (s : State) (i k : Nat) : (s.pmcOne i k).twin = s.twin := by
  obtain ⟨_, h⟩ := s.pmcOne_only i k; rw [h]
@[simp] theorem State.pmcOne_tdc (s : State) (i k : Nat) : (s.pmcOne i k).tdc = s.tdc := by
  obtain ⟨_, h⟩ := s.pmcOne_only i k; rw [h]
@[simp] theorem State.pmcOne_gnb (s : State) (i k : Nat) : (s.pmcOne i k).gnb = s.gnb := by
  obtain ⟨_, h⟩ := s.pmcOne_only i k; rw [h]
@[simp] theorem State.pmcOne_key (s : State) (i k : Nat) : (s.pmcOne i k).key = s.key := by
  obtain ⟨_, h⟩ := s.pmcOne_only i k; rw [h]
@[simp] theorem State.pmcOne_fuses (s : State) (i k : Nat) : (s.pmcOne i k).fuses = s.fuses := by
  obtain ⟨_, h⟩ := s.pmcOne_only i k; rw [h]
@[simp] theorem State.pmcOne_att (s : State) (i k : Nat) : (s.pmcOne i k).att = s.att := by
  obtain ⟨_, h⟩ := s.pmcOne_only i k; rw [h]
@[simp] theorem State.pmcOne_eth (s : State) (i k : Nat) : (s.pmcOne i k).eth = s.eth := by
  obtain ⟨_, h⟩ := s.pmcOne_only i k; rw [h]
@[simp] theorem State.pmcOne_tsv (s : State) (i k : Nat) : (s.pmcOne i k).tsv = s.tsv := by
  obtain ⟨_, h⟩ := s.pmcOne_only i k; rw [h]
@[simp] theorem State.pmcOne_aud (s : State) (i k : Nat) : (s.pmcOne i k).aud = s.aud := by
  obtain ⟨_, h⟩ := s.pmcOne_only i k; rw [h]
@[simp] theorem State.pmcOne_mix (s : State) (i k : Nat) : (s.pmcOne i k).mix = s.mix := by
  obtain ⟨_, h⟩ := s.pmcOne_only i k; rw [h]
@[simp] theorem State.pmcOne_hst (s : State) (i k : Nat) : (s.pmcOne i k).hst = s.hst := by
  obtain ⟨_, h⟩ := s.pmcOne_only i k; rw [h]
@[simp] theorem State.pmcOne_sbd (s : State) (i k : Nat) : (s.pmcOne i k).sbd = s.sbd := by
  obtain ⟨_, h⟩ := s.pmcOne_only i k; rw [h]
@[simp] theorem State.pmcOne_mem (s : State) (i k : Nat) : (s.pmcOne i k).mem = s.mem := by
  obtain ⟨_, h⟩ := s.pmcOne_only i k; rw [h]
@[simp] theorem State.pmcOne_cast_ (s : State) (i k : Nat) : (s.pmcOne i k).cast_ = s.cast_ := by
  obtain ⟨_, h⟩ := s.pmcOne_only i k; rw [h]
@[simp] theorem State.pmcOne_dram (s : State) (i k : Nat) : (s.pmcOne i k).dram = s.dram := by
  obtain ⟨_, h⟩ := s.pmcOne_only i k; rw [h]
@[simp] theorem State.pmcOne_coreOn (s : State) (i k : Nat) : (s.pmcOne i k).coreOn = s.coreOn := by
  obtain ⟨_, h⟩ := s.pmcOne_only i k; rw [h]
/-- A fold of steps that each touch the counters alone touches the counters alone. -/
theorem foldl_pmc (f : State → Nat → State) (hf : ∀ s i, ∃ v, f s i = { s with pmc := v }) (l : List Nat) (s : State) :
    ∃ v, l.foldl f s = { s with pmc := v } := by
  induction l generalizing s with
  | nil => exact ⟨s.pmc, rfl⟩
  | cons i r ih =>
    obtain ⟨v, hv⟩ := hf s i
    obtain ⟨w, hw⟩ := ih (f s i)
    exact ⟨w, by rw [List.foldl_cons, hw, hv]⟩

theorem State.pmcEv_only (s : State) (lo hi sel k : Nat) : ∃ v0, s.pmcEv lo hi sel k = { s with pmc := v0 } := by
  exact foldl_pmc _ (fun t i => t.pmcOne_only i k) _ s
@[simp] theorem State.pmcEv_pending (s : State) (lo hi sel k : Nat) : (s.pmcEv lo hi sel k).pending = s.pending := by
  obtain ⟨_, h⟩ := s.pmcEv_only lo hi sel k; rw [h]
@[simp] theorem State.pmcEv_sent (s : State) (lo hi sel k : Nat) : (s.pmcEv lo hi sel k).sent = s.sent := by
  obtain ⟨_, h⟩ := s.pmcEv_only lo hi sel k; rw [h]
@[simp] theorem State.pmcEv_free (s : State) (lo hi sel k : Nat) : (s.pmcEv lo hi sel k).free = s.free := by
  obtain ⟨_, h⟩ := s.pmcEv_only lo hi sel k; rw [h]
@[simp] theorem State.pmcEv_wt (s : State) (lo hi sel k : Nat) : (s.pmcEv lo hi sel k).wt = s.wt := by
  obtain ⟨_, h⟩ := s.pmcEv_only lo hi sel k; rw [h]
@[simp] theorem State.pmcEv_fired (s : State) (lo hi sel k : Nat) : (s.pmcEv lo hi sel k).fired = s.fired := by
  obtain ⟨_, h⟩ := s.pmcEv_only lo hi sel k; rw [h]
@[simp] theorem State.pmcEv_regs (s : State) (lo hi sel k : Nat) : (s.pmcEv lo hi sel k).regs = s.regs := by
  obtain ⟨_, h⟩ := s.pmcEv_only lo hi sel k; rw [h]
@[simp] theorem State.pmcEv_force (s : State) (lo hi sel k : Nat) : (s.pmcEv lo hi sel k).force = s.force := by
  obtain ⟨_, h⟩ := s.pmcEv_only lo hi sel k; rw [h]
@[simp] theorem State.pmcEv_hw (s : State) (lo hi sel k : Nat) : (s.pmcEv lo hi sel k).hw = s.hw := by
  obtain ⟨_, h⟩ := s.pmcEv_only lo hi sel k; rw [h]
@[simp] theorem State.pmcEv_staged (s : State) (lo hi sel k : Nat) : (s.pmcEv lo hi sel k).staged = s.staged := by
  obtain ⟨_, h⟩ := s.pmcEv_only lo hi sel k; rw [h]
@[simp] theorem State.pmcEv_latches (s : State) (lo hi sel k : Nat) : (s.pmcEv lo hi sel k).latches = s.latches := by
  obtain ⟨_, h⟩ := s.pmcEv_only lo hi sel k; rw [h]
@[simp] theorem State.pmcEv_hostErr (s : State) (lo hi sel k : Nat) : (s.pmcEv lo hi sel k).hostErr = s.hostErr := by
  obtain ⟨_, h⟩ := s.pmcEv_only lo hi sel k; rw [h]
@[simp] theorem State.pmcEv_sbdErr (s : State) (lo hi sel k : Nat) : (s.pmcEv lo hi sel k).sbdErr = s.sbdErr := by
  obtain ⟨_, h⟩ := s.pmcEv_only lo hi sel k; rw [h]
@[simp] theorem State.pmcEv_warden (s : State) (lo hi sel k : Nat) : (s.pmcEv lo hi sel k).warden = s.warden := by
  obtain ⟨_, h⟩ := s.pmcEv_only lo hi sel k; rw [h]
@[simp] theorem State.pmcEv_log (s : State) (lo hi sel k : Nat) : (s.pmcEv lo hi sel k).log = s.log := by
  obtain ⟨_, h⟩ := s.pmcEv_only lo hi sel k; rw [h]
@[simp] theorem State.pmcEv_gau (s : State) (lo hi sel k : Nat) : (s.pmcEv lo hi sel k).gau = s.gau := by
  obtain ⟨_, h⟩ := s.pmcEv_only lo hi sel k; rw [h]
@[simp] theorem State.pmcEv_sel (s : State) (lo hi sel k : Nat) : (s.pmcEv lo hi sel k).sel = s.sel := by
  obtain ⟨_, h⟩ := s.pmcEv_only lo hi sel k; rw [h]
@[simp] theorem State.pmcEv_hld (s : State) (lo hi sel k : Nat) : (s.pmcEv lo hi sel k).hld = s.hld := by
  obtain ⟨_, h⟩ := s.pmcEv_only lo hi sel k; rw [h]
@[simp] theorem State.pmcEv_out (s : State) (lo hi sel k : Nat) : (s.pmcEv lo hi sel k).out = s.out := by
  obtain ⟨_, h⟩ := s.pmcEv_only lo hi sel k; rw [h]
@[simp] theorem State.pmcEv_seqs (s : State) (lo hi sel k : Nat) : (s.pmcEv lo hi sel k).seqs = s.seqs := by
  obtain ⟨_, h⟩ := s.pmcEv_only lo hi sel k; rw [h]
@[simp] theorem State.pmcEv_clus (s : State) (lo hi sel k : Nat) : (s.pmcEv lo hi sel k).clus = s.clus := by
  obtain ⟨_, h⟩ := s.pmcEv_only lo hi sel k; rw [h]
@[simp] theorem State.pmcEv_flt (s : State) (lo hi sel k : Nat) : (s.pmcEv lo hi sel k).flt = s.flt := by
  obtain ⟨_, h⟩ := s.pmcEv_only lo hi sel k; rw [h]
@[simp] theorem State.pmcEv_rcd (s : State) (lo hi sel k : Nat) : (s.pmcEv lo hi sel k).rcd = s.rcd := by
  obtain ⟨_, h⟩ := s.pmcEv_only lo hi sel k; rw [h]
@[simp] theorem State.pmcEv_links (s : State) (lo hi sel k : Nat) : (s.pmcEv lo hi sel k).links = s.links := by
  obtain ⟨_, h⟩ := s.pmcEv_only lo hi sel k; rw [h]
@[simp] theorem State.pmcEv_twin (s : State) (lo hi sel k : Nat) : (s.pmcEv lo hi sel k).twin = s.twin := by
  obtain ⟨_, h⟩ := s.pmcEv_only lo hi sel k; rw [h]
@[simp] theorem State.pmcEv_tdc (s : State) (lo hi sel k : Nat) : (s.pmcEv lo hi sel k).tdc = s.tdc := by
  obtain ⟨_, h⟩ := s.pmcEv_only lo hi sel k; rw [h]
@[simp] theorem State.pmcEv_gnb (s : State) (lo hi sel k : Nat) : (s.pmcEv lo hi sel k).gnb = s.gnb := by
  obtain ⟨_, h⟩ := s.pmcEv_only lo hi sel k; rw [h]
@[simp] theorem State.pmcEv_key (s : State) (lo hi sel k : Nat) : (s.pmcEv lo hi sel k).key = s.key := by
  obtain ⟨_, h⟩ := s.pmcEv_only lo hi sel k; rw [h]
@[simp] theorem State.pmcEv_fuses (s : State) (lo hi sel k : Nat) : (s.pmcEv lo hi sel k).fuses = s.fuses := by
  obtain ⟨_, h⟩ := s.pmcEv_only lo hi sel k; rw [h]
@[simp] theorem State.pmcEv_att (s : State) (lo hi sel k : Nat) : (s.pmcEv lo hi sel k).att = s.att := by
  obtain ⟨_, h⟩ := s.pmcEv_only lo hi sel k; rw [h]
@[simp] theorem State.pmcEv_eth (s : State) (lo hi sel k : Nat) : (s.pmcEv lo hi sel k).eth = s.eth := by
  obtain ⟨_, h⟩ := s.pmcEv_only lo hi sel k; rw [h]
@[simp] theorem State.pmcEv_tsv (s : State) (lo hi sel k : Nat) : (s.pmcEv lo hi sel k).tsv = s.tsv := by
  obtain ⟨_, h⟩ := s.pmcEv_only lo hi sel k; rw [h]
@[simp] theorem State.pmcEv_aud (s : State) (lo hi sel k : Nat) : (s.pmcEv lo hi sel k).aud = s.aud := by
  obtain ⟨_, h⟩ := s.pmcEv_only lo hi sel k; rw [h]
@[simp] theorem State.pmcEv_mix (s : State) (lo hi sel k : Nat) : (s.pmcEv lo hi sel k).mix = s.mix := by
  obtain ⟨_, h⟩ := s.pmcEv_only lo hi sel k; rw [h]
@[simp] theorem State.pmcEv_hst (s : State) (lo hi sel k : Nat) : (s.pmcEv lo hi sel k).hst = s.hst := by
  obtain ⟨_, h⟩ := s.pmcEv_only lo hi sel k; rw [h]
@[simp] theorem State.pmcEv_sbd (s : State) (lo hi sel k : Nat) : (s.pmcEv lo hi sel k).sbd = s.sbd := by
  obtain ⟨_, h⟩ := s.pmcEv_only lo hi sel k; rw [h]
@[simp] theorem State.pmcEv_mem (s : State) (lo hi sel k : Nat) : (s.pmcEv lo hi sel k).mem = s.mem := by
  obtain ⟨_, h⟩ := s.pmcEv_only lo hi sel k; rw [h]
@[simp] theorem State.pmcEv_cast_ (s : State) (lo hi sel k : Nat) : (s.pmcEv lo hi sel k).cast_ = s.cast_ := by
  obtain ⟨_, h⟩ := s.pmcEv_only lo hi sel k; rw [h]
@[simp] theorem State.pmcEv_dram (s : State) (lo hi sel k : Nat) : (s.pmcEv lo hi sel k).dram = s.dram := by
  obtain ⟨_, h⟩ := s.pmcEv_only lo hi sel k; rw [h]
@[simp] theorem State.pmcEv_coreOn (s : State) (lo hi sel k : Nat) : (s.pmcEv lo hi sel k).coreOn = s.coreOn := by
  obtain ⟨_, h⟩ := s.pmcEv_only lo hi sel k; rw [h]
theorem State.pmcTime_only (s : State) (ev obj k : Nat) : ∃ v0, s.pmcTime ev obj k = { s with pmc := v0 } := by
  exact s.pmcEv_only _ _ _ _
@[simp] theorem State.pmcTime_pending (s : State) (ev obj k : Nat) : (s.pmcTime ev obj k).pending = s.pending := by
  obtain ⟨_, h⟩ := s.pmcTime_only ev obj k; rw [h]
@[simp] theorem State.pmcTime_sent (s : State) (ev obj k : Nat) : (s.pmcTime ev obj k).sent = s.sent := by
  obtain ⟨_, h⟩ := s.pmcTime_only ev obj k; rw [h]
@[simp] theorem State.pmcTime_free (s : State) (ev obj k : Nat) : (s.pmcTime ev obj k).free = s.free := by
  obtain ⟨_, h⟩ := s.pmcTime_only ev obj k; rw [h]
@[simp] theorem State.pmcTime_wt (s : State) (ev obj k : Nat) : (s.pmcTime ev obj k).wt = s.wt := by
  obtain ⟨_, h⟩ := s.pmcTime_only ev obj k; rw [h]
@[simp] theorem State.pmcTime_fired (s : State) (ev obj k : Nat) : (s.pmcTime ev obj k).fired = s.fired := by
  obtain ⟨_, h⟩ := s.pmcTime_only ev obj k; rw [h]
@[simp] theorem State.pmcTime_regs (s : State) (ev obj k : Nat) : (s.pmcTime ev obj k).regs = s.regs := by
  obtain ⟨_, h⟩ := s.pmcTime_only ev obj k; rw [h]
@[simp] theorem State.pmcTime_force (s : State) (ev obj k : Nat) : (s.pmcTime ev obj k).force = s.force := by
  obtain ⟨_, h⟩ := s.pmcTime_only ev obj k; rw [h]
@[simp] theorem State.pmcTime_hw (s : State) (ev obj k : Nat) : (s.pmcTime ev obj k).hw = s.hw := by
  obtain ⟨_, h⟩ := s.pmcTime_only ev obj k; rw [h]
@[simp] theorem State.pmcTime_staged (s : State) (ev obj k : Nat) : (s.pmcTime ev obj k).staged = s.staged := by
  obtain ⟨_, h⟩ := s.pmcTime_only ev obj k; rw [h]
@[simp] theorem State.pmcTime_latches (s : State) (ev obj k : Nat) : (s.pmcTime ev obj k).latches = s.latches := by
  obtain ⟨_, h⟩ := s.pmcTime_only ev obj k; rw [h]
@[simp] theorem State.pmcTime_hostErr (s : State) (ev obj k : Nat) : (s.pmcTime ev obj k).hostErr = s.hostErr := by
  obtain ⟨_, h⟩ := s.pmcTime_only ev obj k; rw [h]
@[simp] theorem State.pmcTime_sbdErr (s : State) (ev obj k : Nat) : (s.pmcTime ev obj k).sbdErr = s.sbdErr := by
  obtain ⟨_, h⟩ := s.pmcTime_only ev obj k; rw [h]
@[simp] theorem State.pmcTime_warden (s : State) (ev obj k : Nat) : (s.pmcTime ev obj k).warden = s.warden := by
  obtain ⟨_, h⟩ := s.pmcTime_only ev obj k; rw [h]
@[simp] theorem State.pmcTime_log (s : State) (ev obj k : Nat) : (s.pmcTime ev obj k).log = s.log := by
  obtain ⟨_, h⟩ := s.pmcTime_only ev obj k; rw [h]
@[simp] theorem State.pmcTime_gau (s : State) (ev obj k : Nat) : (s.pmcTime ev obj k).gau = s.gau := by
  obtain ⟨_, h⟩ := s.pmcTime_only ev obj k; rw [h]
@[simp] theorem State.pmcTime_sel (s : State) (ev obj k : Nat) : (s.pmcTime ev obj k).sel = s.sel := by
  obtain ⟨_, h⟩ := s.pmcTime_only ev obj k; rw [h]
@[simp] theorem State.pmcTime_hld (s : State) (ev obj k : Nat) : (s.pmcTime ev obj k).hld = s.hld := by
  obtain ⟨_, h⟩ := s.pmcTime_only ev obj k; rw [h]
@[simp] theorem State.pmcTime_out (s : State) (ev obj k : Nat) : (s.pmcTime ev obj k).out = s.out := by
  obtain ⟨_, h⟩ := s.pmcTime_only ev obj k; rw [h]
@[simp] theorem State.pmcTime_seqs (s : State) (ev obj k : Nat) : (s.pmcTime ev obj k).seqs = s.seqs := by
  obtain ⟨_, h⟩ := s.pmcTime_only ev obj k; rw [h]
@[simp] theorem State.pmcTime_clus (s : State) (ev obj k : Nat) : (s.pmcTime ev obj k).clus = s.clus := by
  obtain ⟨_, h⟩ := s.pmcTime_only ev obj k; rw [h]
@[simp] theorem State.pmcTime_flt (s : State) (ev obj k : Nat) : (s.pmcTime ev obj k).flt = s.flt := by
  obtain ⟨_, h⟩ := s.pmcTime_only ev obj k; rw [h]
@[simp] theorem State.pmcTime_rcd (s : State) (ev obj k : Nat) : (s.pmcTime ev obj k).rcd = s.rcd := by
  obtain ⟨_, h⟩ := s.pmcTime_only ev obj k; rw [h]
@[simp] theorem State.pmcTime_links (s : State) (ev obj k : Nat) : (s.pmcTime ev obj k).links = s.links := by
  obtain ⟨_, h⟩ := s.pmcTime_only ev obj k; rw [h]
@[simp] theorem State.pmcTime_twin (s : State) (ev obj k : Nat) : (s.pmcTime ev obj k).twin = s.twin := by
  obtain ⟨_, h⟩ := s.pmcTime_only ev obj k; rw [h]
@[simp] theorem State.pmcTime_tdc (s : State) (ev obj k : Nat) : (s.pmcTime ev obj k).tdc = s.tdc := by
  obtain ⟨_, h⟩ := s.pmcTime_only ev obj k; rw [h]
@[simp] theorem State.pmcTime_gnb (s : State) (ev obj k : Nat) : (s.pmcTime ev obj k).gnb = s.gnb := by
  obtain ⟨_, h⟩ := s.pmcTime_only ev obj k; rw [h]
@[simp] theorem State.pmcTime_key (s : State) (ev obj k : Nat) : (s.pmcTime ev obj k).key = s.key := by
  obtain ⟨_, h⟩ := s.pmcTime_only ev obj k; rw [h]
@[simp] theorem State.pmcTime_fuses (s : State) (ev obj k : Nat) : (s.pmcTime ev obj k).fuses = s.fuses := by
  obtain ⟨_, h⟩ := s.pmcTime_only ev obj k; rw [h]
@[simp] theorem State.pmcTime_att (s : State) (ev obj k : Nat) : (s.pmcTime ev obj k).att = s.att := by
  obtain ⟨_, h⟩ := s.pmcTime_only ev obj k; rw [h]
@[simp] theorem State.pmcTime_eth (s : State) (ev obj k : Nat) : (s.pmcTime ev obj k).eth = s.eth := by
  obtain ⟨_, h⟩ := s.pmcTime_only ev obj k; rw [h]
@[simp] theorem State.pmcTime_tsv (s : State) (ev obj k : Nat) : (s.pmcTime ev obj k).tsv = s.tsv := by
  obtain ⟨_, h⟩ := s.pmcTime_only ev obj k; rw [h]
@[simp] theorem State.pmcTime_aud (s : State) (ev obj k : Nat) : (s.pmcTime ev obj k).aud = s.aud := by
  obtain ⟨_, h⟩ := s.pmcTime_only ev obj k; rw [h]
@[simp] theorem State.pmcTime_mix (s : State) (ev obj k : Nat) : (s.pmcTime ev obj k).mix = s.mix := by
  obtain ⟨_, h⟩ := s.pmcTime_only ev obj k; rw [h]
@[simp] theorem State.pmcTime_hst (s : State) (ev obj k : Nat) : (s.pmcTime ev obj k).hst = s.hst := by
  obtain ⟨_, h⟩ := s.pmcTime_only ev obj k; rw [h]
@[simp] theorem State.pmcTime_sbd (s : State) (ev obj k : Nat) : (s.pmcTime ev obj k).sbd = s.sbd := by
  obtain ⟨_, h⟩ := s.pmcTime_only ev obj k; rw [h]
@[simp] theorem State.pmcTime_mem (s : State) (ev obj k : Nat) : (s.pmcTime ev obj k).mem = s.mem := by
  obtain ⟨_, h⟩ := s.pmcTime_only ev obj k; rw [h]
@[simp] theorem State.pmcTime_cast_ (s : State) (ev obj k : Nat) : (s.pmcTime ev obj k).cast_ = s.cast_ := by
  obtain ⟨_, h⟩ := s.pmcTime_only ev obj k; rw [h]
@[simp] theorem State.pmcTime_dram (s : State) (ev obj k : Nat) : (s.pmcTime ev obj k).dram = s.dram := by
  obtain ⟨_, h⟩ := s.pmcTime_only ev obj k; rw [h]
@[simp] theorem State.pmcTime_coreOn (s : State) (ev obj k : Nat) : (s.pmcTime ev obj k).coreOn = s.coreOn := by
  obtain ⟨_, h⟩ := s.pmcTime_only ev obj k; rw [h]
theorem State.pmcSeq_only (s : State) (n ev k : Nat) : ∃ v0, s.pmcSeq n ev k = { s with pmc := v0 } := by
  exact s.pmcEv_only _ _ _ _
@[simp] theorem State.pmcSeq_pending (s : State) (n ev k : Nat) : (s.pmcSeq n ev k).pending = s.pending := by
  obtain ⟨_, h⟩ := s.pmcSeq_only n ev k; rw [h]
@[simp] theorem State.pmcSeq_sent (s : State) (n ev k : Nat) : (s.pmcSeq n ev k).sent = s.sent := by
  obtain ⟨_, h⟩ := s.pmcSeq_only n ev k; rw [h]
@[simp] theorem State.pmcSeq_free (s : State) (n ev k : Nat) : (s.pmcSeq n ev k).free = s.free := by
  obtain ⟨_, h⟩ := s.pmcSeq_only n ev k; rw [h]
@[simp] theorem State.pmcSeq_wt (s : State) (n ev k : Nat) : (s.pmcSeq n ev k).wt = s.wt := by
  obtain ⟨_, h⟩ := s.pmcSeq_only n ev k; rw [h]
@[simp] theorem State.pmcSeq_fired (s : State) (n ev k : Nat) : (s.pmcSeq n ev k).fired = s.fired := by
  obtain ⟨_, h⟩ := s.pmcSeq_only n ev k; rw [h]
@[simp] theorem State.pmcSeq_regs (s : State) (n ev k : Nat) : (s.pmcSeq n ev k).regs = s.regs := by
  obtain ⟨_, h⟩ := s.pmcSeq_only n ev k; rw [h]
@[simp] theorem State.pmcSeq_force (s : State) (n ev k : Nat) : (s.pmcSeq n ev k).force = s.force := by
  obtain ⟨_, h⟩ := s.pmcSeq_only n ev k; rw [h]
@[simp] theorem State.pmcSeq_hw (s : State) (n ev k : Nat) : (s.pmcSeq n ev k).hw = s.hw := by
  obtain ⟨_, h⟩ := s.pmcSeq_only n ev k; rw [h]
@[simp] theorem State.pmcSeq_staged (s : State) (n ev k : Nat) : (s.pmcSeq n ev k).staged = s.staged := by
  obtain ⟨_, h⟩ := s.pmcSeq_only n ev k; rw [h]
@[simp] theorem State.pmcSeq_latches (s : State) (n ev k : Nat) : (s.pmcSeq n ev k).latches = s.latches := by
  obtain ⟨_, h⟩ := s.pmcSeq_only n ev k; rw [h]
@[simp] theorem State.pmcSeq_hostErr (s : State) (n ev k : Nat) : (s.pmcSeq n ev k).hostErr = s.hostErr := by
  obtain ⟨_, h⟩ := s.pmcSeq_only n ev k; rw [h]
@[simp] theorem State.pmcSeq_sbdErr (s : State) (n ev k : Nat) : (s.pmcSeq n ev k).sbdErr = s.sbdErr := by
  obtain ⟨_, h⟩ := s.pmcSeq_only n ev k; rw [h]
@[simp] theorem State.pmcSeq_warden (s : State) (n ev k : Nat) : (s.pmcSeq n ev k).warden = s.warden := by
  obtain ⟨_, h⟩ := s.pmcSeq_only n ev k; rw [h]
@[simp] theorem State.pmcSeq_log (s : State) (n ev k : Nat) : (s.pmcSeq n ev k).log = s.log := by
  obtain ⟨_, h⟩ := s.pmcSeq_only n ev k; rw [h]
@[simp] theorem State.pmcSeq_gau (s : State) (n ev k : Nat) : (s.pmcSeq n ev k).gau = s.gau := by
  obtain ⟨_, h⟩ := s.pmcSeq_only n ev k; rw [h]
@[simp] theorem State.pmcSeq_sel (s : State) (n ev k : Nat) : (s.pmcSeq n ev k).sel = s.sel := by
  obtain ⟨_, h⟩ := s.pmcSeq_only n ev k; rw [h]
@[simp] theorem State.pmcSeq_hld (s : State) (n ev k : Nat) : (s.pmcSeq n ev k).hld = s.hld := by
  obtain ⟨_, h⟩ := s.pmcSeq_only n ev k; rw [h]
@[simp] theorem State.pmcSeq_out (s : State) (n ev k : Nat) : (s.pmcSeq n ev k).out = s.out := by
  obtain ⟨_, h⟩ := s.pmcSeq_only n ev k; rw [h]
@[simp] theorem State.pmcSeq_seqs (s : State) (n ev k : Nat) : (s.pmcSeq n ev k).seqs = s.seqs := by
  obtain ⟨_, h⟩ := s.pmcSeq_only n ev k; rw [h]
@[simp] theorem State.pmcSeq_clus (s : State) (n ev k : Nat) : (s.pmcSeq n ev k).clus = s.clus := by
  obtain ⟨_, h⟩ := s.pmcSeq_only n ev k; rw [h]
@[simp] theorem State.pmcSeq_flt (s : State) (n ev k : Nat) : (s.pmcSeq n ev k).flt = s.flt := by
  obtain ⟨_, h⟩ := s.pmcSeq_only n ev k; rw [h]
@[simp] theorem State.pmcSeq_rcd (s : State) (n ev k : Nat) : (s.pmcSeq n ev k).rcd = s.rcd := by
  obtain ⟨_, h⟩ := s.pmcSeq_only n ev k; rw [h]
@[simp] theorem State.pmcSeq_links (s : State) (n ev k : Nat) : (s.pmcSeq n ev k).links = s.links := by
  obtain ⟨_, h⟩ := s.pmcSeq_only n ev k; rw [h]
@[simp] theorem State.pmcSeq_twin (s : State) (n ev k : Nat) : (s.pmcSeq n ev k).twin = s.twin := by
  obtain ⟨_, h⟩ := s.pmcSeq_only n ev k; rw [h]
@[simp] theorem State.pmcSeq_tdc (s : State) (n ev k : Nat) : (s.pmcSeq n ev k).tdc = s.tdc := by
  obtain ⟨_, h⟩ := s.pmcSeq_only n ev k; rw [h]
@[simp] theorem State.pmcSeq_gnb (s : State) (n ev k : Nat) : (s.pmcSeq n ev k).gnb = s.gnb := by
  obtain ⟨_, h⟩ := s.pmcSeq_only n ev k; rw [h]
@[simp] theorem State.pmcSeq_key (s : State) (n ev k : Nat) : (s.pmcSeq n ev k).key = s.key := by
  obtain ⟨_, h⟩ := s.pmcSeq_only n ev k; rw [h]
@[simp] theorem State.pmcSeq_fuses (s : State) (n ev k : Nat) : (s.pmcSeq n ev k).fuses = s.fuses := by
  obtain ⟨_, h⟩ := s.pmcSeq_only n ev k; rw [h]
@[simp] theorem State.pmcSeq_att (s : State) (n ev k : Nat) : (s.pmcSeq n ev k).att = s.att := by
  obtain ⟨_, h⟩ := s.pmcSeq_only n ev k; rw [h]
@[simp] theorem State.pmcSeq_eth (s : State) (n ev k : Nat) : (s.pmcSeq n ev k).eth = s.eth := by
  obtain ⟨_, h⟩ := s.pmcSeq_only n ev k; rw [h]
@[simp] theorem State.pmcSeq_tsv (s : State) (n ev k : Nat) : (s.pmcSeq n ev k).tsv = s.tsv := by
  obtain ⟨_, h⟩ := s.pmcSeq_only n ev k; rw [h]
@[simp] theorem State.pmcSeq_aud (s : State) (n ev k : Nat) : (s.pmcSeq n ev k).aud = s.aud := by
  obtain ⟨_, h⟩ := s.pmcSeq_only n ev k; rw [h]
@[simp] theorem State.pmcSeq_mix (s : State) (n ev k : Nat) : (s.pmcSeq n ev k).mix = s.mix := by
  obtain ⟨_, h⟩ := s.pmcSeq_only n ev k; rw [h]
@[simp] theorem State.pmcSeq_hst (s : State) (n ev k : Nat) : (s.pmcSeq n ev k).hst = s.hst := by
  obtain ⟨_, h⟩ := s.pmcSeq_only n ev k; rw [h]
@[simp] theorem State.pmcSeq_sbd (s : State) (n ev k : Nat) : (s.pmcSeq n ev k).sbd = s.sbd := by
  obtain ⟨_, h⟩ := s.pmcSeq_only n ev k; rw [h]
@[simp] theorem State.pmcSeq_mem (s : State) (n ev k : Nat) : (s.pmcSeq n ev k).mem = s.mem := by
  obtain ⟨_, h⟩ := s.pmcSeq_only n ev k; rw [h]
@[simp] theorem State.pmcSeq_cast_ (s : State) (n ev k : Nat) : (s.pmcSeq n ev k).cast_ = s.cast_ := by
  obtain ⟨_, h⟩ := s.pmcSeq_only n ev k; rw [h]
@[simp] theorem State.pmcSeq_dram (s : State) (n ev k : Nat) : (s.pmcSeq n ev k).dram = s.dram := by
  obtain ⟨_, h⟩ := s.pmcSeq_only n ev k; rw [h]
@[simp] theorem State.pmcSeq_coreOn (s : State) (n ev k : Nat) : (s.pmcSeq n ev k).coreOn = s.coreOn := by
  obtain ⟨_, h⟩ := s.pmcSeq_only n ev k; rw [h]
theorem State.pmcEth_only (s : State) (p ev k : Nat) : ∃ v0, s.pmcEth p ev k = { s with pmc := v0 } := by
  exact s.pmcEv_only _ _ _ _
@[simp] theorem State.pmcEth_pending (s : State) (p ev k : Nat) : (s.pmcEth p ev k).pending = s.pending := by
  obtain ⟨_, h⟩ := s.pmcEth_only p ev k; rw [h]
@[simp] theorem State.pmcEth_sent (s : State) (p ev k : Nat) : (s.pmcEth p ev k).sent = s.sent := by
  obtain ⟨_, h⟩ := s.pmcEth_only p ev k; rw [h]
@[simp] theorem State.pmcEth_free (s : State) (p ev k : Nat) : (s.pmcEth p ev k).free = s.free := by
  obtain ⟨_, h⟩ := s.pmcEth_only p ev k; rw [h]
@[simp] theorem State.pmcEth_wt (s : State) (p ev k : Nat) : (s.pmcEth p ev k).wt = s.wt := by
  obtain ⟨_, h⟩ := s.pmcEth_only p ev k; rw [h]
@[simp] theorem State.pmcEth_fired (s : State) (p ev k : Nat) : (s.pmcEth p ev k).fired = s.fired := by
  obtain ⟨_, h⟩ := s.pmcEth_only p ev k; rw [h]
@[simp] theorem State.pmcEth_regs (s : State) (p ev k : Nat) : (s.pmcEth p ev k).regs = s.regs := by
  obtain ⟨_, h⟩ := s.pmcEth_only p ev k; rw [h]
@[simp] theorem State.pmcEth_force (s : State) (p ev k : Nat) : (s.pmcEth p ev k).force = s.force := by
  obtain ⟨_, h⟩ := s.pmcEth_only p ev k; rw [h]
@[simp] theorem State.pmcEth_hw (s : State) (p ev k : Nat) : (s.pmcEth p ev k).hw = s.hw := by
  obtain ⟨_, h⟩ := s.pmcEth_only p ev k; rw [h]
@[simp] theorem State.pmcEth_staged (s : State) (p ev k : Nat) : (s.pmcEth p ev k).staged = s.staged := by
  obtain ⟨_, h⟩ := s.pmcEth_only p ev k; rw [h]
@[simp] theorem State.pmcEth_latches (s : State) (p ev k : Nat) : (s.pmcEth p ev k).latches = s.latches := by
  obtain ⟨_, h⟩ := s.pmcEth_only p ev k; rw [h]
@[simp] theorem State.pmcEth_hostErr (s : State) (p ev k : Nat) : (s.pmcEth p ev k).hostErr = s.hostErr := by
  obtain ⟨_, h⟩ := s.pmcEth_only p ev k; rw [h]
@[simp] theorem State.pmcEth_sbdErr (s : State) (p ev k : Nat) : (s.pmcEth p ev k).sbdErr = s.sbdErr := by
  obtain ⟨_, h⟩ := s.pmcEth_only p ev k; rw [h]
@[simp] theorem State.pmcEth_warden (s : State) (p ev k : Nat) : (s.pmcEth p ev k).warden = s.warden := by
  obtain ⟨_, h⟩ := s.pmcEth_only p ev k; rw [h]
@[simp] theorem State.pmcEth_log (s : State) (p ev k : Nat) : (s.pmcEth p ev k).log = s.log := by
  obtain ⟨_, h⟩ := s.pmcEth_only p ev k; rw [h]
@[simp] theorem State.pmcEth_gau (s : State) (p ev k : Nat) : (s.pmcEth p ev k).gau = s.gau := by
  obtain ⟨_, h⟩ := s.pmcEth_only p ev k; rw [h]
@[simp] theorem State.pmcEth_sel (s : State) (p ev k : Nat) : (s.pmcEth p ev k).sel = s.sel := by
  obtain ⟨_, h⟩ := s.pmcEth_only p ev k; rw [h]
@[simp] theorem State.pmcEth_hld (s : State) (p ev k : Nat) : (s.pmcEth p ev k).hld = s.hld := by
  obtain ⟨_, h⟩ := s.pmcEth_only p ev k; rw [h]
@[simp] theorem State.pmcEth_out (s : State) (p ev k : Nat) : (s.pmcEth p ev k).out = s.out := by
  obtain ⟨_, h⟩ := s.pmcEth_only p ev k; rw [h]
@[simp] theorem State.pmcEth_seqs (s : State) (p ev k : Nat) : (s.pmcEth p ev k).seqs = s.seqs := by
  obtain ⟨_, h⟩ := s.pmcEth_only p ev k; rw [h]
@[simp] theorem State.pmcEth_clus (s : State) (p ev k : Nat) : (s.pmcEth p ev k).clus = s.clus := by
  obtain ⟨_, h⟩ := s.pmcEth_only p ev k; rw [h]
@[simp] theorem State.pmcEth_flt (s : State) (p ev k : Nat) : (s.pmcEth p ev k).flt = s.flt := by
  obtain ⟨_, h⟩ := s.pmcEth_only p ev k; rw [h]
@[simp] theorem State.pmcEth_rcd (s : State) (p ev k : Nat) : (s.pmcEth p ev k).rcd = s.rcd := by
  obtain ⟨_, h⟩ := s.pmcEth_only p ev k; rw [h]
@[simp] theorem State.pmcEth_links (s : State) (p ev k : Nat) : (s.pmcEth p ev k).links = s.links := by
  obtain ⟨_, h⟩ := s.pmcEth_only p ev k; rw [h]
@[simp] theorem State.pmcEth_twin (s : State) (p ev k : Nat) : (s.pmcEth p ev k).twin = s.twin := by
  obtain ⟨_, h⟩ := s.pmcEth_only p ev k; rw [h]
@[simp] theorem State.pmcEth_tdc (s : State) (p ev k : Nat) : (s.pmcEth p ev k).tdc = s.tdc := by
  obtain ⟨_, h⟩ := s.pmcEth_only p ev k; rw [h]
@[simp] theorem State.pmcEth_gnb (s : State) (p ev k : Nat) : (s.pmcEth p ev k).gnb = s.gnb := by
  obtain ⟨_, h⟩ := s.pmcEth_only p ev k; rw [h]
@[simp] theorem State.pmcEth_key (s : State) (p ev k : Nat) : (s.pmcEth p ev k).key = s.key := by
  obtain ⟨_, h⟩ := s.pmcEth_only p ev k; rw [h]
@[simp] theorem State.pmcEth_fuses (s : State) (p ev k : Nat) : (s.pmcEth p ev k).fuses = s.fuses := by
  obtain ⟨_, h⟩ := s.pmcEth_only p ev k; rw [h]
@[simp] theorem State.pmcEth_att (s : State) (p ev k : Nat) : (s.pmcEth p ev k).att = s.att := by
  obtain ⟨_, h⟩ := s.pmcEth_only p ev k; rw [h]
@[simp] theorem State.pmcEth_eth (s : State) (p ev k : Nat) : (s.pmcEth p ev k).eth = s.eth := by
  obtain ⟨_, h⟩ := s.pmcEth_only p ev k; rw [h]
@[simp] theorem State.pmcEth_tsv (s : State) (p ev k : Nat) : (s.pmcEth p ev k).tsv = s.tsv := by
  obtain ⟨_, h⟩ := s.pmcEth_only p ev k; rw [h]
@[simp] theorem State.pmcEth_aud (s : State) (p ev k : Nat) : (s.pmcEth p ev k).aud = s.aud := by
  obtain ⟨_, h⟩ := s.pmcEth_only p ev k; rw [h]
@[simp] theorem State.pmcEth_mix (s : State) (p ev k : Nat) : (s.pmcEth p ev k).mix = s.mix := by
  obtain ⟨_, h⟩ := s.pmcEth_only p ev k; rw [h]
@[simp] theorem State.pmcEth_hst (s : State) (p ev k : Nat) : (s.pmcEth p ev k).hst = s.hst := by
  obtain ⟨_, h⟩ := s.pmcEth_only p ev k; rw [h]
@[simp] theorem State.pmcEth_sbd (s : State) (p ev k : Nat) : (s.pmcEth p ev k).sbd = s.sbd := by
  obtain ⟨_, h⟩ := s.pmcEth_only p ev k; rw [h]
@[simp] theorem State.pmcEth_mem (s : State) (p ev k : Nat) : (s.pmcEth p ev k).mem = s.mem := by
  obtain ⟨_, h⟩ := s.pmcEth_only p ev k; rw [h]
@[simp] theorem State.pmcEth_cast_ (s : State) (p ev k : Nat) : (s.pmcEth p ev k).cast_ = s.cast_ := by
  obtain ⟨_, h⟩ := s.pmcEth_only p ev k; rw [h]
@[simp] theorem State.pmcEth_dram (s : State) (p ev k : Nat) : (s.pmcEth p ev k).dram = s.dram := by
  obtain ⟨_, h⟩ := s.pmcEth_only p ev k; rw [h]
@[simp] theorem State.pmcEth_coreOn (s : State) (p ev k : Nat) : (s.pmcEth p ev k).coreOn = s.coreOn := by
  obtain ⟨_, h⟩ := s.pmcEth_only p ev k; rw [h]
theorem State.recEvent_only (s : State) (code arg : Nat) : ∃ v0 v1, s.recEvent code arg = { s with rcd := v0, hw := v1 } := by
  unfold State.recEvent
  dsimp only
  repeat' split
  all_goals exact ⟨_, _, rfl⟩
@[simp] theorem State.recEvent_pending (s : State) (code arg : Nat) : (s.recEvent code arg).pending = s.pending := by
  obtain ⟨_, _, h⟩ := s.recEvent_only code arg; rw [h]
@[simp] theorem State.recEvent_sent (s : State) (code arg : Nat) : (s.recEvent code arg).sent = s.sent := by
  obtain ⟨_, _, h⟩ := s.recEvent_only code arg; rw [h]
@[simp] theorem State.recEvent_free (s : State) (code arg : Nat) : (s.recEvent code arg).free = s.free := by
  obtain ⟨_, _, h⟩ := s.recEvent_only code arg; rw [h]
@[simp] theorem State.recEvent_wt (s : State) (code arg : Nat) : (s.recEvent code arg).wt = s.wt := by
  obtain ⟨_, _, h⟩ := s.recEvent_only code arg; rw [h]
@[simp] theorem State.recEvent_fired (s : State) (code arg : Nat) : (s.recEvent code arg).fired = s.fired := by
  obtain ⟨_, _, h⟩ := s.recEvent_only code arg; rw [h]
@[simp] theorem State.recEvent_regs (s : State) (code arg : Nat) : (s.recEvent code arg).regs = s.regs := by
  obtain ⟨_, _, h⟩ := s.recEvent_only code arg; rw [h]
@[simp] theorem State.recEvent_force (s : State) (code arg : Nat) : (s.recEvent code arg).force = s.force := by
  obtain ⟨_, _, h⟩ := s.recEvent_only code arg; rw [h]
@[simp] theorem State.recEvent_staged (s : State) (code arg : Nat) : (s.recEvent code arg).staged = s.staged := by
  obtain ⟨_, _, h⟩ := s.recEvent_only code arg; rw [h]
@[simp] theorem State.recEvent_latches (s : State) (code arg : Nat) : (s.recEvent code arg).latches = s.latches := by
  obtain ⟨_, _, h⟩ := s.recEvent_only code arg; rw [h]
@[simp] theorem State.recEvent_hostErr (s : State) (code arg : Nat) : (s.recEvent code arg).hostErr = s.hostErr := by
  obtain ⟨_, _, h⟩ := s.recEvent_only code arg; rw [h]
@[simp] theorem State.recEvent_sbdErr (s : State) (code arg : Nat) : (s.recEvent code arg).sbdErr = s.sbdErr := by
  obtain ⟨_, _, h⟩ := s.recEvent_only code arg; rw [h]
@[simp] theorem State.recEvent_warden (s : State) (code arg : Nat) : (s.recEvent code arg).warden = s.warden := by
  obtain ⟨_, _, h⟩ := s.recEvent_only code arg; rw [h]
@[simp] theorem State.recEvent_log (s : State) (code arg : Nat) : (s.recEvent code arg).log = s.log := by
  obtain ⟨_, _, h⟩ := s.recEvent_only code arg; rw [h]
@[simp] theorem State.recEvent_gau (s : State) (code arg : Nat) : (s.recEvent code arg).gau = s.gau := by
  obtain ⟨_, _, h⟩ := s.recEvent_only code arg; rw [h]
@[simp] theorem State.recEvent_sel (s : State) (code arg : Nat) : (s.recEvent code arg).sel = s.sel := by
  obtain ⟨_, _, h⟩ := s.recEvent_only code arg; rw [h]
@[simp] theorem State.recEvent_hld (s : State) (code arg : Nat) : (s.recEvent code arg).hld = s.hld := by
  obtain ⟨_, _, h⟩ := s.recEvent_only code arg; rw [h]
@[simp] theorem State.recEvent_out (s : State) (code arg : Nat) : (s.recEvent code arg).out = s.out := by
  obtain ⟨_, _, h⟩ := s.recEvent_only code arg; rw [h]
@[simp] theorem State.recEvent_seqs (s : State) (code arg : Nat) : (s.recEvent code arg).seqs = s.seqs := by
  obtain ⟨_, _, h⟩ := s.recEvent_only code arg; rw [h]
@[simp] theorem State.recEvent_clus (s : State) (code arg : Nat) : (s.recEvent code arg).clus = s.clus := by
  obtain ⟨_, _, h⟩ := s.recEvent_only code arg; rw [h]
@[simp] theorem State.recEvent_flt (s : State) (code arg : Nat) : (s.recEvent code arg).flt = s.flt := by
  obtain ⟨_, _, h⟩ := s.recEvent_only code arg; rw [h]
@[simp] theorem State.recEvent_pmc (s : State) (code arg : Nat) : (s.recEvent code arg).pmc = s.pmc := by
  obtain ⟨_, _, h⟩ := s.recEvent_only code arg; rw [h]
@[simp] theorem State.recEvent_links (s : State) (code arg : Nat) : (s.recEvent code arg).links = s.links := by
  obtain ⟨_, _, h⟩ := s.recEvent_only code arg; rw [h]
@[simp] theorem State.recEvent_twin (s : State) (code arg : Nat) : (s.recEvent code arg).twin = s.twin := by
  obtain ⟨_, _, h⟩ := s.recEvent_only code arg; rw [h]
@[simp] theorem State.recEvent_tdc (s : State) (code arg : Nat) : (s.recEvent code arg).tdc = s.tdc := by
  obtain ⟨_, _, h⟩ := s.recEvent_only code arg; rw [h]
@[simp] theorem State.recEvent_gnb (s : State) (code arg : Nat) : (s.recEvent code arg).gnb = s.gnb := by
  obtain ⟨_, _, h⟩ := s.recEvent_only code arg; rw [h]
@[simp] theorem State.recEvent_key (s : State) (code arg : Nat) : (s.recEvent code arg).key = s.key := by
  obtain ⟨_, _, h⟩ := s.recEvent_only code arg; rw [h]
@[simp] theorem State.recEvent_fuses (s : State) (code arg : Nat) : (s.recEvent code arg).fuses = s.fuses := by
  obtain ⟨_, _, h⟩ := s.recEvent_only code arg; rw [h]
@[simp] theorem State.recEvent_att (s : State) (code arg : Nat) : (s.recEvent code arg).att = s.att := by
  obtain ⟨_, _, h⟩ := s.recEvent_only code arg; rw [h]
@[simp] theorem State.recEvent_eth (s : State) (code arg : Nat) : (s.recEvent code arg).eth = s.eth := by
  obtain ⟨_, _, h⟩ := s.recEvent_only code arg; rw [h]
@[simp] theorem State.recEvent_tsv (s : State) (code arg : Nat) : (s.recEvent code arg).tsv = s.tsv := by
  obtain ⟨_, _, h⟩ := s.recEvent_only code arg; rw [h]
@[simp] theorem State.recEvent_aud (s : State) (code arg : Nat) : (s.recEvent code arg).aud = s.aud := by
  obtain ⟨_, _, h⟩ := s.recEvent_only code arg; rw [h]
@[simp] theorem State.recEvent_mix (s : State) (code arg : Nat) : (s.recEvent code arg).mix = s.mix := by
  obtain ⟨_, _, h⟩ := s.recEvent_only code arg; rw [h]
@[simp] theorem State.recEvent_hst (s : State) (code arg : Nat) : (s.recEvent code arg).hst = s.hst := by
  obtain ⟨_, _, h⟩ := s.recEvent_only code arg; rw [h]
@[simp] theorem State.recEvent_sbd (s : State) (code arg : Nat) : (s.recEvent code arg).sbd = s.sbd := by
  obtain ⟨_, _, h⟩ := s.recEvent_only code arg; rw [h]
@[simp] theorem State.recEvent_mem (s : State) (code arg : Nat) : (s.recEvent code arg).mem = s.mem := by
  obtain ⟨_, _, h⟩ := s.recEvent_only code arg; rw [h]
@[simp] theorem State.recEvent_cast_ (s : State) (code arg : Nat) : (s.recEvent code arg).cast_ = s.cast_ := by
  obtain ⟨_, _, h⟩ := s.recEvent_only code arg; rw [h]
@[simp] theorem State.recEvent_dram (s : State) (code arg : Nat) : (s.recEvent code arg).dram = s.dram := by
  obtain ⟨_, _, h⟩ := s.recEvent_only code arg; rw [h]
@[simp] theorem State.recEvent_coreOn (s : State) (code arg : Nat) : (s.recEvent code arg).coreOn = s.coreOn := by
  obtain ⟨_, _, h⟩ := s.recEvent_only code arg; rw [h]
/-- A fold of steps that each touch the recorder alone touches the recorder alone. -/
theorem foldl_rcd (f : State → Nat → State) (hf : ∀ s i, ∃ v, f s i = { s with rcd := v }) (l : List Nat) (s : State) :
    ∃ v, l.foldl f s = { s with rcd := v } := by
  induction l generalizing s with
  | nil => exact ⟨s.rcd, rfl⟩
  | cons i r ih =>
    obtain ⟨v, hv⟩ := hf s i
    obtain ⟨w, hw⟩ := ih (f s i)
    exact ⟨w, by rw [List.foldl_cons, hw, hv]⟩

theorem State.sample_only (s : State) (meas arg : Nat) (v : Int) : ∃ v0, s.sample meas arg v = { s with rcd := v0 } := by
  unfold State.sample
  split
  · refine foldl_rcd _ (fun t u => ?_) _ s
    dsimp only
    split
    · exact ⟨_, rfl⟩
    · exact ⟨t.rcd, rfl⟩
  · exact ⟨s.rcd, rfl⟩
@[simp] theorem State.sample_pending (s : State) (meas arg : Nat) (v : Int) : (s.sample meas arg v).pending = s.pending := by
  obtain ⟨_, h⟩ := s.sample_only meas arg v; rw [h]
@[simp] theorem State.sample_sent (s : State) (meas arg : Nat) (v : Int) : (s.sample meas arg v).sent = s.sent := by
  obtain ⟨_, h⟩ := s.sample_only meas arg v; rw [h]
@[simp] theorem State.sample_free (s : State) (meas arg : Nat) (v : Int) : (s.sample meas arg v).free = s.free := by
  obtain ⟨_, h⟩ := s.sample_only meas arg v; rw [h]
@[simp] theorem State.sample_wt (s : State) (meas arg : Nat) (v : Int) : (s.sample meas arg v).wt = s.wt := by
  obtain ⟨_, h⟩ := s.sample_only meas arg v; rw [h]
@[simp] theorem State.sample_fired (s : State) (meas arg : Nat) (v : Int) : (s.sample meas arg v).fired = s.fired := by
  obtain ⟨_, h⟩ := s.sample_only meas arg v; rw [h]
@[simp] theorem State.sample_regs (s : State) (meas arg : Nat) (v : Int) : (s.sample meas arg v).regs = s.regs := by
  obtain ⟨_, h⟩ := s.sample_only meas arg v; rw [h]
@[simp] theorem State.sample_force (s : State) (meas arg : Nat) (v : Int) : (s.sample meas arg v).force = s.force := by
  obtain ⟨_, h⟩ := s.sample_only meas arg v; rw [h]
@[simp] theorem State.sample_hw (s : State) (meas arg : Nat) (v : Int) : (s.sample meas arg v).hw = s.hw := by
  obtain ⟨_, h⟩ := s.sample_only meas arg v; rw [h]
@[simp] theorem State.sample_staged (s : State) (meas arg : Nat) (v : Int) : (s.sample meas arg v).staged = s.staged := by
  obtain ⟨_, h⟩ := s.sample_only meas arg v; rw [h]
@[simp] theorem State.sample_latches (s : State) (meas arg : Nat) (v : Int) : (s.sample meas arg v).latches = s.latches := by
  obtain ⟨_, h⟩ := s.sample_only meas arg v; rw [h]
@[simp] theorem State.sample_hostErr (s : State) (meas arg : Nat) (v : Int) : (s.sample meas arg v).hostErr = s.hostErr := by
  obtain ⟨_, h⟩ := s.sample_only meas arg v; rw [h]
@[simp] theorem State.sample_sbdErr (s : State) (meas arg : Nat) (v : Int) : (s.sample meas arg v).sbdErr = s.sbdErr := by
  obtain ⟨_, h⟩ := s.sample_only meas arg v; rw [h]
@[simp] theorem State.sample_warden (s : State) (meas arg : Nat) (v : Int) : (s.sample meas arg v).warden = s.warden := by
  obtain ⟨_, h⟩ := s.sample_only meas arg v; rw [h]
@[simp] theorem State.sample_log (s : State) (meas arg : Nat) (v : Int) : (s.sample meas arg v).log = s.log := by
  obtain ⟨_, h⟩ := s.sample_only meas arg v; rw [h]
@[simp] theorem State.sample_gau (s : State) (meas arg : Nat) (v : Int) : (s.sample meas arg v).gau = s.gau := by
  obtain ⟨_, h⟩ := s.sample_only meas arg v; rw [h]
@[simp] theorem State.sample_sel (s : State) (meas arg : Nat) (v : Int) : (s.sample meas arg v).sel = s.sel := by
  obtain ⟨_, h⟩ := s.sample_only meas arg v; rw [h]
@[simp] theorem State.sample_hld (s : State) (meas arg : Nat) (v : Int) : (s.sample meas arg v).hld = s.hld := by
  obtain ⟨_, h⟩ := s.sample_only meas arg v; rw [h]
@[simp] theorem State.sample_out (s : State) (meas arg : Nat) (v : Int) : (s.sample meas arg v).out = s.out := by
  obtain ⟨_, h⟩ := s.sample_only meas arg v; rw [h]
@[simp] theorem State.sample_seqs (s : State) (meas arg : Nat) (v : Int) : (s.sample meas arg v).seqs = s.seqs := by
  obtain ⟨_, h⟩ := s.sample_only meas arg v; rw [h]
@[simp] theorem State.sample_clus (s : State) (meas arg : Nat) (v : Int) : (s.sample meas arg v).clus = s.clus := by
  obtain ⟨_, h⟩ := s.sample_only meas arg v; rw [h]
@[simp] theorem State.sample_flt (s : State) (meas arg : Nat) (v : Int) : (s.sample meas arg v).flt = s.flt := by
  obtain ⟨_, h⟩ := s.sample_only meas arg v; rw [h]
@[simp] theorem State.sample_pmc (s : State) (meas arg : Nat) (v : Int) : (s.sample meas arg v).pmc = s.pmc := by
  obtain ⟨_, h⟩ := s.sample_only meas arg v; rw [h]
@[simp] theorem State.sample_links (s : State) (meas arg : Nat) (v : Int) : (s.sample meas arg v).links = s.links := by
  obtain ⟨_, h⟩ := s.sample_only meas arg v; rw [h]
@[simp] theorem State.sample_twin (s : State) (meas arg : Nat) (v : Int) : (s.sample meas arg v).twin = s.twin := by
  obtain ⟨_, h⟩ := s.sample_only meas arg v; rw [h]
@[simp] theorem State.sample_tdc (s : State) (meas arg : Nat) (v : Int) : (s.sample meas arg v).tdc = s.tdc := by
  obtain ⟨_, h⟩ := s.sample_only meas arg v; rw [h]
@[simp] theorem State.sample_gnb (s : State) (meas arg : Nat) (v : Int) : (s.sample meas arg v).gnb = s.gnb := by
  obtain ⟨_, h⟩ := s.sample_only meas arg v; rw [h]
@[simp] theorem State.sample_key (s : State) (meas arg : Nat) (v : Int) : (s.sample meas arg v).key = s.key := by
  obtain ⟨_, h⟩ := s.sample_only meas arg v; rw [h]
@[simp] theorem State.sample_fuses (s : State) (meas arg : Nat) (v : Int) : (s.sample meas arg v).fuses = s.fuses := by
  obtain ⟨_, h⟩ := s.sample_only meas arg v; rw [h]
@[simp] theorem State.sample_att (s : State) (meas arg : Nat) (v : Int) : (s.sample meas arg v).att = s.att := by
  obtain ⟨_, h⟩ := s.sample_only meas arg v; rw [h]
@[simp] theorem State.sample_eth (s : State) (meas arg : Nat) (v : Int) : (s.sample meas arg v).eth = s.eth := by
  obtain ⟨_, h⟩ := s.sample_only meas arg v; rw [h]
@[simp] theorem State.sample_tsv (s : State) (meas arg : Nat) (v : Int) : (s.sample meas arg v).tsv = s.tsv := by
  obtain ⟨_, h⟩ := s.sample_only meas arg v; rw [h]
@[simp] theorem State.sample_aud (s : State) (meas arg : Nat) (v : Int) : (s.sample meas arg v).aud = s.aud := by
  obtain ⟨_, h⟩ := s.sample_only meas arg v; rw [h]
@[simp] theorem State.sample_mix (s : State) (meas arg : Nat) (v : Int) : (s.sample meas arg v).mix = s.mix := by
  obtain ⟨_, h⟩ := s.sample_only meas arg v; rw [h]
@[simp] theorem State.sample_hst (s : State) (meas arg : Nat) (v : Int) : (s.sample meas arg v).hst = s.hst := by
  obtain ⟨_, h⟩ := s.sample_only meas arg v; rw [h]
@[simp] theorem State.sample_sbd (s : State) (meas arg : Nat) (v : Int) : (s.sample meas arg v).sbd = s.sbd := by
  obtain ⟨_, h⟩ := s.sample_only meas arg v; rw [h]
@[simp] theorem State.sample_mem (s : State) (meas arg : Nat) (v : Int) : (s.sample meas arg v).mem = s.mem := by
  obtain ⟨_, h⟩ := s.sample_only meas arg v; rw [h]
@[simp] theorem State.sample_cast_ (s : State) (meas arg : Nat) (v : Int) : (s.sample meas arg v).cast_ = s.cast_ := by
  obtain ⟨_, h⟩ := s.sample_only meas arg v; rw [h]
@[simp] theorem State.sample_dram (s : State) (meas arg : Nat) (v : Int) : (s.sample meas arg v).dram = s.dram := by
  obtain ⟨_, h⟩ := s.sample_only meas arg v; rw [h]
@[simp] theorem State.sample_coreOn (s : State) (meas arg : Nat) (v : Int) : (s.sample meas arg v).coreOn = s.coreOn := by
  obtain ⟨_, h⟩ := s.sample_only meas arg v; rw [h]
theorem State.wakeFor_only (s : State) (n port : Nat) : ∃ v0, s.wakeFor n port = { s with seqs := v0 } := by
  unfold State.wakeFor
  split
  · exact ⟨s.seqs, rfl⟩
  · split
    · exact ⟨_, rfl⟩
    · exact ⟨s.seqs, rfl⟩
@[simp] theorem State.wakeFor_pending (s : State) (n port : Nat) : (s.wakeFor n port).pending = s.pending := by
  obtain ⟨_, h⟩ := s.wakeFor_only n port; rw [h]
@[simp] theorem State.wakeFor_sent (s : State) (n port : Nat) : (s.wakeFor n port).sent = s.sent := by
  obtain ⟨_, h⟩ := s.wakeFor_only n port; rw [h]
@[simp] theorem State.wakeFor_free (s : State) (n port : Nat) : (s.wakeFor n port).free = s.free := by
  obtain ⟨_, h⟩ := s.wakeFor_only n port; rw [h]
@[simp] theorem State.wakeFor_wt (s : State) (n port : Nat) : (s.wakeFor n port).wt = s.wt := by
  obtain ⟨_, h⟩ := s.wakeFor_only n port; rw [h]
@[simp] theorem State.wakeFor_fired (s : State) (n port : Nat) : (s.wakeFor n port).fired = s.fired := by
  obtain ⟨_, h⟩ := s.wakeFor_only n port; rw [h]
@[simp] theorem State.wakeFor_regs (s : State) (n port : Nat) : (s.wakeFor n port).regs = s.regs := by
  obtain ⟨_, h⟩ := s.wakeFor_only n port; rw [h]
@[simp] theorem State.wakeFor_force (s : State) (n port : Nat) : (s.wakeFor n port).force = s.force := by
  obtain ⟨_, h⟩ := s.wakeFor_only n port; rw [h]
@[simp] theorem State.wakeFor_hw (s : State) (n port : Nat) : (s.wakeFor n port).hw = s.hw := by
  obtain ⟨_, h⟩ := s.wakeFor_only n port; rw [h]
@[simp] theorem State.wakeFor_staged (s : State) (n port : Nat) : (s.wakeFor n port).staged = s.staged := by
  obtain ⟨_, h⟩ := s.wakeFor_only n port; rw [h]
@[simp] theorem State.wakeFor_latches (s : State) (n port : Nat) : (s.wakeFor n port).latches = s.latches := by
  obtain ⟨_, h⟩ := s.wakeFor_only n port; rw [h]
@[simp] theorem State.wakeFor_hostErr (s : State) (n port : Nat) : (s.wakeFor n port).hostErr = s.hostErr := by
  obtain ⟨_, h⟩ := s.wakeFor_only n port; rw [h]
@[simp] theorem State.wakeFor_sbdErr (s : State) (n port : Nat) : (s.wakeFor n port).sbdErr = s.sbdErr := by
  obtain ⟨_, h⟩ := s.wakeFor_only n port; rw [h]
@[simp] theorem State.wakeFor_warden (s : State) (n port : Nat) : (s.wakeFor n port).warden = s.warden := by
  obtain ⟨_, h⟩ := s.wakeFor_only n port; rw [h]
@[simp] theorem State.wakeFor_log (s : State) (n port : Nat) : (s.wakeFor n port).log = s.log := by
  obtain ⟨_, h⟩ := s.wakeFor_only n port; rw [h]
@[simp] theorem State.wakeFor_gau (s : State) (n port : Nat) : (s.wakeFor n port).gau = s.gau := by
  obtain ⟨_, h⟩ := s.wakeFor_only n port; rw [h]
@[simp] theorem State.wakeFor_sel (s : State) (n port : Nat) : (s.wakeFor n port).sel = s.sel := by
  obtain ⟨_, h⟩ := s.wakeFor_only n port; rw [h]
@[simp] theorem State.wakeFor_hld (s : State) (n port : Nat) : (s.wakeFor n port).hld = s.hld := by
  obtain ⟨_, h⟩ := s.wakeFor_only n port; rw [h]
@[simp] theorem State.wakeFor_out (s : State) (n port : Nat) : (s.wakeFor n port).out = s.out := by
  obtain ⟨_, h⟩ := s.wakeFor_only n port; rw [h]
@[simp] theorem State.wakeFor_clus (s : State) (n port : Nat) : (s.wakeFor n port).clus = s.clus := by
  obtain ⟨_, h⟩ := s.wakeFor_only n port; rw [h]
@[simp] theorem State.wakeFor_flt (s : State) (n port : Nat) : (s.wakeFor n port).flt = s.flt := by
  obtain ⟨_, h⟩ := s.wakeFor_only n port; rw [h]
@[simp] theorem State.wakeFor_rcd (s : State) (n port : Nat) : (s.wakeFor n port).rcd = s.rcd := by
  obtain ⟨_, h⟩ := s.wakeFor_only n port; rw [h]
@[simp] theorem State.wakeFor_pmc (s : State) (n port : Nat) : (s.wakeFor n port).pmc = s.pmc := by
  obtain ⟨_, h⟩ := s.wakeFor_only n port; rw [h]
@[simp] theorem State.wakeFor_links (s : State) (n port : Nat) : (s.wakeFor n port).links = s.links := by
  obtain ⟨_, h⟩ := s.wakeFor_only n port; rw [h]
@[simp] theorem State.wakeFor_twin (s : State) (n port : Nat) : (s.wakeFor n port).twin = s.twin := by
  obtain ⟨_, h⟩ := s.wakeFor_only n port; rw [h]
@[simp] theorem State.wakeFor_tdc (s : State) (n port : Nat) : (s.wakeFor n port).tdc = s.tdc := by
  obtain ⟨_, h⟩ := s.wakeFor_only n port; rw [h]
@[simp] theorem State.wakeFor_gnb (s : State) (n port : Nat) : (s.wakeFor n port).gnb = s.gnb := by
  obtain ⟨_, h⟩ := s.wakeFor_only n port; rw [h]
@[simp] theorem State.wakeFor_key (s : State) (n port : Nat) : (s.wakeFor n port).key = s.key := by
  obtain ⟨_, h⟩ := s.wakeFor_only n port; rw [h]
@[simp] theorem State.wakeFor_fuses (s : State) (n port : Nat) : (s.wakeFor n port).fuses = s.fuses := by
  obtain ⟨_, h⟩ := s.wakeFor_only n port; rw [h]
@[simp] theorem State.wakeFor_att (s : State) (n port : Nat) : (s.wakeFor n port).att = s.att := by
  obtain ⟨_, h⟩ := s.wakeFor_only n port; rw [h]
@[simp] theorem State.wakeFor_eth (s : State) (n port : Nat) : (s.wakeFor n port).eth = s.eth := by
  obtain ⟨_, h⟩ := s.wakeFor_only n port; rw [h]
@[simp] theorem State.wakeFor_tsv (s : State) (n port : Nat) : (s.wakeFor n port).tsv = s.tsv := by
  obtain ⟨_, h⟩ := s.wakeFor_only n port; rw [h]
@[simp] theorem State.wakeFor_aud (s : State) (n port : Nat) : (s.wakeFor n port).aud = s.aud := by
  obtain ⟨_, h⟩ := s.wakeFor_only n port; rw [h]
@[simp] theorem State.wakeFor_mix (s : State) (n port : Nat) : (s.wakeFor n port).mix = s.mix := by
  obtain ⟨_, h⟩ := s.wakeFor_only n port; rw [h]
@[simp] theorem State.wakeFor_hst (s : State) (n port : Nat) : (s.wakeFor n port).hst = s.hst := by
  obtain ⟨_, h⟩ := s.wakeFor_only n port; rw [h]
@[simp] theorem State.wakeFor_sbd (s : State) (n port : Nat) : (s.wakeFor n port).sbd = s.sbd := by
  obtain ⟨_, h⟩ := s.wakeFor_only n port; rw [h]
@[simp] theorem State.wakeFor_mem (s : State) (n port : Nat) : (s.wakeFor n port).mem = s.mem := by
  obtain ⟨_, h⟩ := s.wakeFor_only n port; rw [h]
@[simp] theorem State.wakeFor_cast_ (s : State) (n port : Nat) : (s.wakeFor n port).cast_ = s.cast_ := by
  obtain ⟨_, h⟩ := s.wakeFor_only n port; rw [h]
@[simp] theorem State.wakeFor_dram (s : State) (n port : Nat) : (s.wakeFor n port).dram = s.dram := by
  obtain ⟨_, h⟩ := s.wakeFor_only n port; rw [h]
@[simp] theorem State.wakeFor_coreOn (s : State) (n port : Nat) : (s.wakeFor n port).coreOn = s.coreOn := by
  obtain ⟨_, h⟩ := s.wakeFor_only n port; rw [h]
theorem State.deliver_only (s : State) (n port : Nat) (m : Msg) : ∃ v0 v1 v2, s.deliver n port m = { s with seqs := v0, pmc := v1, hw := v2 } := by
  unfold State.deliver
  split
  · dsimp only
    obtain ⟨v, hv⟩ := (s.setSq n { s.sq n with inbox := (s.sq n).inbox.set port ((s.sq n).inbox.get port [] ++ [m]) }).wakeFor_only n port
    obtain ⟨w, hw⟩ := State.pmcSeq_only ((s.setSq n { s.sq n with inbox := (s.sq n).inbox.set port ((s.sq n).inbox.get port [] ++ [m]) }).wakeFor n port) n 9 1
    exact ⟨v, w, s.hw, by rw [hw, hv]; rfl⟩
  · exact ⟨s.seqs, s.pmc, _, rfl⟩
@[simp] theorem State.deliver_pending (s : State) (n port : Nat) (m : Msg) : (s.deliver n port m).pending = s.pending := by
  obtain ⟨_, _, _, h⟩ := s.deliver_only n port m; rw [h]
@[simp] theorem State.deliver_sent (s : State) (n port : Nat) (m : Msg) : (s.deliver n port m).sent = s.sent := by
  obtain ⟨_, _, _, h⟩ := s.deliver_only n port m; rw [h]
@[simp] theorem State.deliver_free (s : State) (n port : Nat) (m : Msg) : (s.deliver n port m).free = s.free := by
  obtain ⟨_, _, _, h⟩ := s.deliver_only n port m; rw [h]
@[simp] theorem State.deliver_wt (s : State) (n port : Nat) (m : Msg) : (s.deliver n port m).wt = s.wt := by
  obtain ⟨_, _, _, h⟩ := s.deliver_only n port m; rw [h]
@[simp] theorem State.deliver_fired (s : State) (n port : Nat) (m : Msg) : (s.deliver n port m).fired = s.fired := by
  obtain ⟨_, _, _, h⟩ := s.deliver_only n port m; rw [h]
@[simp] theorem State.deliver_regs (s : State) (n port : Nat) (m : Msg) : (s.deliver n port m).regs = s.regs := by
  obtain ⟨_, _, _, h⟩ := s.deliver_only n port m; rw [h]
@[simp] theorem State.deliver_force (s : State) (n port : Nat) (m : Msg) : (s.deliver n port m).force = s.force := by
  obtain ⟨_, _, _, h⟩ := s.deliver_only n port m; rw [h]
@[simp] theorem State.deliver_staged (s : State) (n port : Nat) (m : Msg) : (s.deliver n port m).staged = s.staged := by
  obtain ⟨_, _, _, h⟩ := s.deliver_only n port m; rw [h]
@[simp] theorem State.deliver_latches (s : State) (n port : Nat) (m : Msg) : (s.deliver n port m).latches = s.latches := by
  obtain ⟨_, _, _, h⟩ := s.deliver_only n port m; rw [h]
@[simp] theorem State.deliver_hostErr (s : State) (n port : Nat) (m : Msg) : (s.deliver n port m).hostErr = s.hostErr := by
  obtain ⟨_, _, _, h⟩ := s.deliver_only n port m; rw [h]
@[simp] theorem State.deliver_sbdErr (s : State) (n port : Nat) (m : Msg) : (s.deliver n port m).sbdErr = s.sbdErr := by
  obtain ⟨_, _, _, h⟩ := s.deliver_only n port m; rw [h]
@[simp] theorem State.deliver_warden (s : State) (n port : Nat) (m : Msg) : (s.deliver n port m).warden = s.warden := by
  obtain ⟨_, _, _, h⟩ := s.deliver_only n port m; rw [h]
@[simp] theorem State.deliver_log (s : State) (n port : Nat) (m : Msg) : (s.deliver n port m).log = s.log := by
  obtain ⟨_, _, _, h⟩ := s.deliver_only n port m; rw [h]
@[simp] theorem State.deliver_gau (s : State) (n port : Nat) (m : Msg) : (s.deliver n port m).gau = s.gau := by
  obtain ⟨_, _, _, h⟩ := s.deliver_only n port m; rw [h]
@[simp] theorem State.deliver_sel (s : State) (n port : Nat) (m : Msg) : (s.deliver n port m).sel = s.sel := by
  obtain ⟨_, _, _, h⟩ := s.deliver_only n port m; rw [h]
@[simp] theorem State.deliver_hld (s : State) (n port : Nat) (m : Msg) : (s.deliver n port m).hld = s.hld := by
  obtain ⟨_, _, _, h⟩ := s.deliver_only n port m; rw [h]
@[simp] theorem State.deliver_out (s : State) (n port : Nat) (m : Msg) : (s.deliver n port m).out = s.out := by
  obtain ⟨_, _, _, h⟩ := s.deliver_only n port m; rw [h]
@[simp] theorem State.deliver_clus (s : State) (n port : Nat) (m : Msg) : (s.deliver n port m).clus = s.clus := by
  obtain ⟨_, _, _, h⟩ := s.deliver_only n port m; rw [h]
@[simp] theorem State.deliver_flt (s : State) (n port : Nat) (m : Msg) : (s.deliver n port m).flt = s.flt := by
  obtain ⟨_, _, _, h⟩ := s.deliver_only n port m; rw [h]
@[simp] theorem State.deliver_rcd (s : State) (n port : Nat) (m : Msg) : (s.deliver n port m).rcd = s.rcd := by
  obtain ⟨_, _, _, h⟩ := s.deliver_only n port m; rw [h]
@[simp] theorem State.deliver_links (s : State) (n port : Nat) (m : Msg) : (s.deliver n port m).links = s.links := by
  obtain ⟨_, _, _, h⟩ := s.deliver_only n port m; rw [h]
@[simp] theorem State.deliver_twin (s : State) (n port : Nat) (m : Msg) : (s.deliver n port m).twin = s.twin := by
  obtain ⟨_, _, _, h⟩ := s.deliver_only n port m; rw [h]
@[simp] theorem State.deliver_tdc (s : State) (n port : Nat) (m : Msg) : (s.deliver n port m).tdc = s.tdc := by
  obtain ⟨_, _, _, h⟩ := s.deliver_only n port m; rw [h]
@[simp] theorem State.deliver_gnb (s : State) (n port : Nat) (m : Msg) : (s.deliver n port m).gnb = s.gnb := by
  obtain ⟨_, _, _, h⟩ := s.deliver_only n port m; rw [h]
@[simp] theorem State.deliver_key (s : State) (n port : Nat) (m : Msg) : (s.deliver n port m).key = s.key := by
  obtain ⟨_, _, _, h⟩ := s.deliver_only n port m; rw [h]
@[simp] theorem State.deliver_fuses (s : State) (n port : Nat) (m : Msg) : (s.deliver n port m).fuses = s.fuses := by
  obtain ⟨_, _, _, h⟩ := s.deliver_only n port m; rw [h]
@[simp] theorem State.deliver_att (s : State) (n port : Nat) (m : Msg) : (s.deliver n port m).att = s.att := by
  obtain ⟨_, _, _, h⟩ := s.deliver_only n port m; rw [h]
@[simp] theorem State.deliver_eth (s : State) (n port : Nat) (m : Msg) : (s.deliver n port m).eth = s.eth := by
  obtain ⟨_, _, _, h⟩ := s.deliver_only n port m; rw [h]
@[simp] theorem State.deliver_tsv (s : State) (n port : Nat) (m : Msg) : (s.deliver n port m).tsv = s.tsv := by
  obtain ⟨_, _, _, h⟩ := s.deliver_only n port m; rw [h]
@[simp] theorem State.deliver_aud (s : State) (n port : Nat) (m : Msg) : (s.deliver n port m).aud = s.aud := by
  obtain ⟨_, _, _, h⟩ := s.deliver_only n port m; rw [h]
@[simp] theorem State.deliver_mix (s : State) (n port : Nat) (m : Msg) : (s.deliver n port m).mix = s.mix := by
  obtain ⟨_, _, _, h⟩ := s.deliver_only n port m; rw [h]
@[simp] theorem State.deliver_hst (s : State) (n port : Nat) (m : Msg) : (s.deliver n port m).hst = s.hst := by
  obtain ⟨_, _, _, h⟩ := s.deliver_only n port m; rw [h]
@[simp] theorem State.deliver_sbd (s : State) (n port : Nat) (m : Msg) : (s.deliver n port m).sbd = s.sbd := by
  obtain ⟨_, _, _, h⟩ := s.deliver_only n port m; rw [h]
@[simp] theorem State.deliver_mem (s : State) (n port : Nat) (m : Msg) : (s.deliver n port m).mem = s.mem := by
  obtain ⟨_, _, _, h⟩ := s.deliver_only n port m; rw [h]
@[simp] theorem State.deliver_cast_ (s : State) (n port : Nat) (m : Msg) : (s.deliver n port m).cast_ = s.cast_ := by
  obtain ⟨_, _, _, h⟩ := s.deliver_only n port m; rw [h]
@[simp] theorem State.deliver_dram (s : State) (n port : Nat) (m : Msg) : (s.deliver n port m).dram = s.dram := by
  obtain ⟨_, _, _, h⟩ := s.deliver_only n port m; rw [h]
@[simp] theorem State.deliver_coreOn (s : State) (n port : Nat) (m : Msg) : (s.deliver n port m).coreOn = s.coreOn := by
  obtain ⟨_, _, _, h⟩ := s.deliver_only n port m; rw [h]
theorem State.stepRes_only (s : State) (by_ : Option Nat) (code seq t : Nat) : ∃ v0 v1 v2, s.stepRes by_ code seq t = { s with seqs := v0, pmc := v1, hw := v2 } := by
  unfold State.stepRes
  split
  · exact ⟨s.seqs, s.pmc, s.hw, rfl⟩
  · exact s.deliver_only _ _ _
@[simp] theorem State.stepRes_pending (s : State) (by_ : Option Nat) (code seq t : Nat) : (s.stepRes by_ code seq t).pending = s.pending := by
  obtain ⟨_, _, _, h⟩ := s.stepRes_only by_ code seq t; rw [h]
@[simp] theorem State.stepRes_sent (s : State) (by_ : Option Nat) (code seq t : Nat) : (s.stepRes by_ code seq t).sent = s.sent := by
  obtain ⟨_, _, _, h⟩ := s.stepRes_only by_ code seq t; rw [h]
@[simp] theorem State.stepRes_free (s : State) (by_ : Option Nat) (code seq t : Nat) : (s.stepRes by_ code seq t).free = s.free := by
  obtain ⟨_, _, _, h⟩ := s.stepRes_only by_ code seq t; rw [h]
@[simp] theorem State.stepRes_wt (s : State) (by_ : Option Nat) (code seq t : Nat) : (s.stepRes by_ code seq t).wt = s.wt := by
  obtain ⟨_, _, _, h⟩ := s.stepRes_only by_ code seq t; rw [h]
@[simp] theorem State.stepRes_fired (s : State) (by_ : Option Nat) (code seq t : Nat) : (s.stepRes by_ code seq t).fired = s.fired := by
  obtain ⟨_, _, _, h⟩ := s.stepRes_only by_ code seq t; rw [h]
@[simp] theorem State.stepRes_regs (s : State) (by_ : Option Nat) (code seq t : Nat) : (s.stepRes by_ code seq t).regs = s.regs := by
  obtain ⟨_, _, _, h⟩ := s.stepRes_only by_ code seq t; rw [h]
@[simp] theorem State.stepRes_force (s : State) (by_ : Option Nat) (code seq t : Nat) : (s.stepRes by_ code seq t).force = s.force := by
  obtain ⟨_, _, _, h⟩ := s.stepRes_only by_ code seq t; rw [h]
@[simp] theorem State.stepRes_staged (s : State) (by_ : Option Nat) (code seq t : Nat) : (s.stepRes by_ code seq t).staged = s.staged := by
  obtain ⟨_, _, _, h⟩ := s.stepRes_only by_ code seq t; rw [h]
@[simp] theorem State.stepRes_latches (s : State) (by_ : Option Nat) (code seq t : Nat) : (s.stepRes by_ code seq t).latches = s.latches := by
  obtain ⟨_, _, _, h⟩ := s.stepRes_only by_ code seq t; rw [h]
@[simp] theorem State.stepRes_hostErr (s : State) (by_ : Option Nat) (code seq t : Nat) : (s.stepRes by_ code seq t).hostErr = s.hostErr := by
  obtain ⟨_, _, _, h⟩ := s.stepRes_only by_ code seq t; rw [h]
@[simp] theorem State.stepRes_sbdErr (s : State) (by_ : Option Nat) (code seq t : Nat) : (s.stepRes by_ code seq t).sbdErr = s.sbdErr := by
  obtain ⟨_, _, _, h⟩ := s.stepRes_only by_ code seq t; rw [h]
@[simp] theorem State.stepRes_warden (s : State) (by_ : Option Nat) (code seq t : Nat) : (s.stepRes by_ code seq t).warden = s.warden := by
  obtain ⟨_, _, _, h⟩ := s.stepRes_only by_ code seq t; rw [h]
@[simp] theorem State.stepRes_log (s : State) (by_ : Option Nat) (code seq t : Nat) : (s.stepRes by_ code seq t).log = s.log := by
  obtain ⟨_, _, _, h⟩ := s.stepRes_only by_ code seq t; rw [h]
@[simp] theorem State.stepRes_gau (s : State) (by_ : Option Nat) (code seq t : Nat) : (s.stepRes by_ code seq t).gau = s.gau := by
  obtain ⟨_, _, _, h⟩ := s.stepRes_only by_ code seq t; rw [h]
@[simp] theorem State.stepRes_sel (s : State) (by_ : Option Nat) (code seq t : Nat) : (s.stepRes by_ code seq t).sel = s.sel := by
  obtain ⟨_, _, _, h⟩ := s.stepRes_only by_ code seq t; rw [h]
@[simp] theorem State.stepRes_hld (s : State) (by_ : Option Nat) (code seq t : Nat) : (s.stepRes by_ code seq t).hld = s.hld := by
  obtain ⟨_, _, _, h⟩ := s.stepRes_only by_ code seq t; rw [h]
@[simp] theorem State.stepRes_out (s : State) (by_ : Option Nat) (code seq t : Nat) : (s.stepRes by_ code seq t).out = s.out := by
  obtain ⟨_, _, _, h⟩ := s.stepRes_only by_ code seq t; rw [h]
@[simp] theorem State.stepRes_clus (s : State) (by_ : Option Nat) (code seq t : Nat) : (s.stepRes by_ code seq t).clus = s.clus := by
  obtain ⟨_, _, _, h⟩ := s.stepRes_only by_ code seq t; rw [h]
@[simp] theorem State.stepRes_flt (s : State) (by_ : Option Nat) (code seq t : Nat) : (s.stepRes by_ code seq t).flt = s.flt := by
  obtain ⟨_, _, _, h⟩ := s.stepRes_only by_ code seq t; rw [h]
@[simp] theorem State.stepRes_rcd (s : State) (by_ : Option Nat) (code seq t : Nat) : (s.stepRes by_ code seq t).rcd = s.rcd := by
  obtain ⟨_, _, _, h⟩ := s.stepRes_only by_ code seq t; rw [h]
@[simp] theorem State.stepRes_links (s : State) (by_ : Option Nat) (code seq t : Nat) : (s.stepRes by_ code seq t).links = s.links := by
  obtain ⟨_, _, _, h⟩ := s.stepRes_only by_ code seq t; rw [h]
@[simp] theorem State.stepRes_twin (s : State) (by_ : Option Nat) (code seq t : Nat) : (s.stepRes by_ code seq t).twin = s.twin := by
  obtain ⟨_, _, _, h⟩ := s.stepRes_only by_ code seq t; rw [h]
@[simp] theorem State.stepRes_tdc (s : State) (by_ : Option Nat) (code seq t : Nat) : (s.stepRes by_ code seq t).tdc = s.tdc := by
  obtain ⟨_, _, _, h⟩ := s.stepRes_only by_ code seq t; rw [h]
@[simp] theorem State.stepRes_gnb (s : State) (by_ : Option Nat) (code seq t : Nat) : (s.stepRes by_ code seq t).gnb = s.gnb := by
  obtain ⟨_, _, _, h⟩ := s.stepRes_only by_ code seq t; rw [h]
@[simp] theorem State.stepRes_key (s : State) (by_ : Option Nat) (code seq t : Nat) : (s.stepRes by_ code seq t).key = s.key := by
  obtain ⟨_, _, _, h⟩ := s.stepRes_only by_ code seq t; rw [h]
@[simp] theorem State.stepRes_fuses (s : State) (by_ : Option Nat) (code seq t : Nat) : (s.stepRes by_ code seq t).fuses = s.fuses := by
  obtain ⟨_, _, _, h⟩ := s.stepRes_only by_ code seq t; rw [h]
@[simp] theorem State.stepRes_att (s : State) (by_ : Option Nat) (code seq t : Nat) : (s.stepRes by_ code seq t).att = s.att := by
  obtain ⟨_, _, _, h⟩ := s.stepRes_only by_ code seq t; rw [h]
@[simp] theorem State.stepRes_eth (s : State) (by_ : Option Nat) (code seq t : Nat) : (s.stepRes by_ code seq t).eth = s.eth := by
  obtain ⟨_, _, _, h⟩ := s.stepRes_only by_ code seq t; rw [h]
@[simp] theorem State.stepRes_tsv (s : State) (by_ : Option Nat) (code seq t : Nat) : (s.stepRes by_ code seq t).tsv = s.tsv := by
  obtain ⟨_, _, _, h⟩ := s.stepRes_only by_ code seq t; rw [h]
@[simp] theorem State.stepRes_aud (s : State) (by_ : Option Nat) (code seq t : Nat) : (s.stepRes by_ code seq t).aud = s.aud := by
  obtain ⟨_, _, _, h⟩ := s.stepRes_only by_ code seq t; rw [h]
@[simp] theorem State.stepRes_mix (s : State) (by_ : Option Nat) (code seq t : Nat) : (s.stepRes by_ code seq t).mix = s.mix := by
  obtain ⟨_, _, _, h⟩ := s.stepRes_only by_ code seq t; rw [h]
@[simp] theorem State.stepRes_hst (s : State) (by_ : Option Nat) (code seq t : Nat) : (s.stepRes by_ code seq t).hst = s.hst := by
  obtain ⟨_, _, _, h⟩ := s.stepRes_only by_ code seq t; rw [h]
@[simp] theorem State.stepRes_sbd (s : State) (by_ : Option Nat) (code seq t : Nat) : (s.stepRes by_ code seq t).sbd = s.sbd := by
  obtain ⟨_, _, _, h⟩ := s.stepRes_only by_ code seq t; rw [h]
@[simp] theorem State.stepRes_mem (s : State) (by_ : Option Nat) (code seq t : Nat) : (s.stepRes by_ code seq t).mem = s.mem := by
  obtain ⟨_, _, _, h⟩ := s.stepRes_only by_ code seq t; rw [h]
@[simp] theorem State.stepRes_cast_ (s : State) (by_ : Option Nat) (code seq t : Nat) : (s.stepRes by_ code seq t).cast_ = s.cast_ := by
  obtain ⟨_, _, _, h⟩ := s.stepRes_only by_ code seq t; rw [h]
@[simp] theorem State.stepRes_dram (s : State) (by_ : Option Nat) (code seq t : Nat) : (s.stepRes by_ code seq t).dram = s.dram := by
  obtain ⟨_, _, _, h⟩ := s.stepRes_only by_ code seq t; rw [h]
@[simp] theorem State.stepRes_coreOn (s : State) (by_ : Option Nat) (code seq t : Nat) : (s.stepRes by_ code seq t).coreOn = s.coreOn := by
  obtain ⟨_, _, _, h⟩ := s.stepRes_only by_ code seq t; rw [h]
theorem State.sbdSend_only (s : State) (seq status : Nat) (pay : List Byte) : ∃ v0, s.sbdSend seq status pay = { s with sent := v0 } := by
  unfold State.sbdSend
  obtain ⟨v, hv⟩ := (s.send (.sbd (sbdResponse seq status pay))).ibi_only 1
  exact ⟨v, by rw [hv]; rfl⟩
@[simp] theorem State.sbdSend_pending (s : State) (seq status : Nat) (pay : List Byte) : (s.sbdSend seq status pay).pending = s.pending := by
  obtain ⟨_, h⟩ := s.sbdSend_only seq status pay; rw [h]
@[simp] theorem State.sbdSend_free (s : State) (seq status : Nat) (pay : List Byte) : (s.sbdSend seq status pay).free = s.free := by
  obtain ⟨_, h⟩ := s.sbdSend_only seq status pay; rw [h]
@[simp] theorem State.sbdSend_wt (s : State) (seq status : Nat) (pay : List Byte) : (s.sbdSend seq status pay).wt = s.wt := by
  obtain ⟨_, h⟩ := s.sbdSend_only seq status pay; rw [h]
@[simp] theorem State.sbdSend_fired (s : State) (seq status : Nat) (pay : List Byte) : (s.sbdSend seq status pay).fired = s.fired := by
  obtain ⟨_, h⟩ := s.sbdSend_only seq status pay; rw [h]
@[simp] theorem State.sbdSend_regs (s : State) (seq status : Nat) (pay : List Byte) : (s.sbdSend seq status pay).regs = s.regs := by
  obtain ⟨_, h⟩ := s.sbdSend_only seq status pay; rw [h]
@[simp] theorem State.sbdSend_force (s : State) (seq status : Nat) (pay : List Byte) : (s.sbdSend seq status pay).force = s.force := by
  obtain ⟨_, h⟩ := s.sbdSend_only seq status pay; rw [h]
@[simp] theorem State.sbdSend_hw (s : State) (seq status : Nat) (pay : List Byte) : (s.sbdSend seq status pay).hw = s.hw := by
  obtain ⟨_, h⟩ := s.sbdSend_only seq status pay; rw [h]
@[simp] theorem State.sbdSend_staged (s : State) (seq status : Nat) (pay : List Byte) : (s.sbdSend seq status pay).staged = s.staged := by
  obtain ⟨_, h⟩ := s.sbdSend_only seq status pay; rw [h]
@[simp] theorem State.sbdSend_latches (s : State) (seq status : Nat) (pay : List Byte) : (s.sbdSend seq status pay).latches = s.latches := by
  obtain ⟨_, h⟩ := s.sbdSend_only seq status pay; rw [h]
@[simp] theorem State.sbdSend_hostErr (s : State) (seq status : Nat) (pay : List Byte) : (s.sbdSend seq status pay).hostErr = s.hostErr := by
  obtain ⟨_, h⟩ := s.sbdSend_only seq status pay; rw [h]
@[simp] theorem State.sbdSend_sbdErr (s : State) (seq status : Nat) (pay : List Byte) : (s.sbdSend seq status pay).sbdErr = s.sbdErr := by
  obtain ⟨_, h⟩ := s.sbdSend_only seq status pay; rw [h]
@[simp] theorem State.sbdSend_warden (s : State) (seq status : Nat) (pay : List Byte) : (s.sbdSend seq status pay).warden = s.warden := by
  obtain ⟨_, h⟩ := s.sbdSend_only seq status pay; rw [h]
@[simp] theorem State.sbdSend_log (s : State) (seq status : Nat) (pay : List Byte) : (s.sbdSend seq status pay).log = s.log := by
  obtain ⟨_, h⟩ := s.sbdSend_only seq status pay; rw [h]
@[simp] theorem State.sbdSend_gau (s : State) (seq status : Nat) (pay : List Byte) : (s.sbdSend seq status pay).gau = s.gau := by
  obtain ⟨_, h⟩ := s.sbdSend_only seq status pay; rw [h]
@[simp] theorem State.sbdSend_sel (s : State) (seq status : Nat) (pay : List Byte) : (s.sbdSend seq status pay).sel = s.sel := by
  obtain ⟨_, h⟩ := s.sbdSend_only seq status pay; rw [h]
@[simp] theorem State.sbdSend_hld (s : State) (seq status : Nat) (pay : List Byte) : (s.sbdSend seq status pay).hld = s.hld := by
  obtain ⟨_, h⟩ := s.sbdSend_only seq status pay; rw [h]
@[simp] theorem State.sbdSend_out (s : State) (seq status : Nat) (pay : List Byte) : (s.sbdSend seq status pay).out = s.out := by
  obtain ⟨_, h⟩ := s.sbdSend_only seq status pay; rw [h]
@[simp] theorem State.sbdSend_seqs (s : State) (seq status : Nat) (pay : List Byte) : (s.sbdSend seq status pay).seqs = s.seqs := by
  obtain ⟨_, h⟩ := s.sbdSend_only seq status pay; rw [h]
@[simp] theorem State.sbdSend_clus (s : State) (seq status : Nat) (pay : List Byte) : (s.sbdSend seq status pay).clus = s.clus := by
  obtain ⟨_, h⟩ := s.sbdSend_only seq status pay; rw [h]
@[simp] theorem State.sbdSend_flt (s : State) (seq status : Nat) (pay : List Byte) : (s.sbdSend seq status pay).flt = s.flt := by
  obtain ⟨_, h⟩ := s.sbdSend_only seq status pay; rw [h]
@[simp] theorem State.sbdSend_rcd (s : State) (seq status : Nat) (pay : List Byte) : (s.sbdSend seq status pay).rcd = s.rcd := by
  obtain ⟨_, h⟩ := s.sbdSend_only seq status pay; rw [h]
@[simp] theorem State.sbdSend_pmc (s : State) (seq status : Nat) (pay : List Byte) : (s.sbdSend seq status pay).pmc = s.pmc := by
  obtain ⟨_, h⟩ := s.sbdSend_only seq status pay; rw [h]
@[simp] theorem State.sbdSend_links (s : State) (seq status : Nat) (pay : List Byte) : (s.sbdSend seq status pay).links = s.links := by
  obtain ⟨_, h⟩ := s.sbdSend_only seq status pay; rw [h]
@[simp] theorem State.sbdSend_twin (s : State) (seq status : Nat) (pay : List Byte) : (s.sbdSend seq status pay).twin = s.twin := by
  obtain ⟨_, h⟩ := s.sbdSend_only seq status pay; rw [h]
@[simp] theorem State.sbdSend_tdc (s : State) (seq status : Nat) (pay : List Byte) : (s.sbdSend seq status pay).tdc = s.tdc := by
  obtain ⟨_, h⟩ := s.sbdSend_only seq status pay; rw [h]
@[simp] theorem State.sbdSend_gnb (s : State) (seq status : Nat) (pay : List Byte) : (s.sbdSend seq status pay).gnb = s.gnb := by
  obtain ⟨_, h⟩ := s.sbdSend_only seq status pay; rw [h]
@[simp] theorem State.sbdSend_key (s : State) (seq status : Nat) (pay : List Byte) : (s.sbdSend seq status pay).key = s.key := by
  obtain ⟨_, h⟩ := s.sbdSend_only seq status pay; rw [h]
@[simp] theorem State.sbdSend_fuses (s : State) (seq status : Nat) (pay : List Byte) : (s.sbdSend seq status pay).fuses = s.fuses := by
  obtain ⟨_, h⟩ := s.sbdSend_only seq status pay; rw [h]
@[simp] theorem State.sbdSend_att (s : State) (seq status : Nat) (pay : List Byte) : (s.sbdSend seq status pay).att = s.att := by
  obtain ⟨_, h⟩ := s.sbdSend_only seq status pay; rw [h]
@[simp] theorem State.sbdSend_eth (s : State) (seq status : Nat) (pay : List Byte) : (s.sbdSend seq status pay).eth = s.eth := by
  obtain ⟨_, h⟩ := s.sbdSend_only seq status pay; rw [h]
@[simp] theorem State.sbdSend_tsv (s : State) (seq status : Nat) (pay : List Byte) : (s.sbdSend seq status pay).tsv = s.tsv := by
  obtain ⟨_, h⟩ := s.sbdSend_only seq status pay; rw [h]
@[simp] theorem State.sbdSend_aud (s : State) (seq status : Nat) (pay : List Byte) : (s.sbdSend seq status pay).aud = s.aud := by
  obtain ⟨_, h⟩ := s.sbdSend_only seq status pay; rw [h]
@[simp] theorem State.sbdSend_mix (s : State) (seq status : Nat) (pay : List Byte) : (s.sbdSend seq status pay).mix = s.mix := by
  obtain ⟨_, h⟩ := s.sbdSend_only seq status pay; rw [h]
@[simp] theorem State.sbdSend_hst (s : State) (seq status : Nat) (pay : List Byte) : (s.sbdSend seq status pay).hst = s.hst := by
  obtain ⟨_, h⟩ := s.sbdSend_only seq status pay; rw [h]
@[simp] theorem State.sbdSend_sbd (s : State) (seq status : Nat) (pay : List Byte) : (s.sbdSend seq status pay).sbd = s.sbd := by
  obtain ⟨_, h⟩ := s.sbdSend_only seq status pay; rw [h]
@[simp] theorem State.sbdSend_mem (s : State) (seq status : Nat) (pay : List Byte) : (s.sbdSend seq status pay).mem = s.mem := by
  obtain ⟨_, h⟩ := s.sbdSend_only seq status pay; rw [h]
@[simp] theorem State.sbdSend_cast_ (s : State) (seq status : Nat) (pay : List Byte) : (s.sbdSend seq status pay).cast_ = s.cast_ := by
  obtain ⟨_, h⟩ := s.sbdSend_only seq status pay; rw [h]
@[simp] theorem State.sbdSend_dram (s : State) (seq status : Nat) (pay : List Byte) : (s.sbdSend seq status pay).dram = s.dram := by
  obtain ⟨_, h⟩ := s.sbdSend_only seq status pay; rw [h]
@[simp] theorem State.sbdSend_coreOn (s : State) (seq status : Nat) (pay : List Byte) : (s.sbdSend seq status pay).coreOn = s.coreOn := by
  obtain ⟨_, h⟩ := s.sbdSend_only seq status pay; rw [h]
theorem State.mbxAnswer_only (s : State) (status : Nat) (pay : List Byte) : ∃ v0 v1 v2, s.mbxAnswer status pay = { s with hst := v0, hw := v1, sent := v2 } := by
  unfold State.mbxAnswer
  split
  · exact ⟨s.hst, s.hw, s.sent, rfl⟩
  · rename_i h r e
    obtain ⟨a, b, hv⟩ := ({ s with hst := { s.hst with
      mbx := r, began := false, rsp := some (sbdResponse (leNat (h.take 1)) status pay) } } : State).irq_only 16
    exact ⟨_, a, b, by rw [hv]⟩
@[simp] theorem State.mbxAnswer_pending (s : State) (status : Nat) (pay : List Byte) : (s.mbxAnswer status pay).pending = s.pending := by
  obtain ⟨_, _, _, h⟩ := s.mbxAnswer_only status pay; rw [h]
@[simp] theorem State.mbxAnswer_free (s : State) (status : Nat) (pay : List Byte) : (s.mbxAnswer status pay).free = s.free := by
  obtain ⟨_, _, _, h⟩ := s.mbxAnswer_only status pay; rw [h]
@[simp] theorem State.mbxAnswer_wt (s : State) (status : Nat) (pay : List Byte) : (s.mbxAnswer status pay).wt = s.wt := by
  obtain ⟨_, _, _, h⟩ := s.mbxAnswer_only status pay; rw [h]
@[simp] theorem State.mbxAnswer_fired (s : State) (status : Nat) (pay : List Byte) : (s.mbxAnswer status pay).fired = s.fired := by
  obtain ⟨_, _, _, h⟩ := s.mbxAnswer_only status pay; rw [h]
@[simp] theorem State.mbxAnswer_regs (s : State) (status : Nat) (pay : List Byte) : (s.mbxAnswer status pay).regs = s.regs := by
  obtain ⟨_, _, _, h⟩ := s.mbxAnswer_only status pay; rw [h]
@[simp] theorem State.mbxAnswer_force (s : State) (status : Nat) (pay : List Byte) : (s.mbxAnswer status pay).force = s.force := by
  obtain ⟨_, _, _, h⟩ := s.mbxAnswer_only status pay; rw [h]
@[simp] theorem State.mbxAnswer_staged (s : State) (status : Nat) (pay : List Byte) : (s.mbxAnswer status pay).staged = s.staged := by
  obtain ⟨_, _, _, h⟩ := s.mbxAnswer_only status pay; rw [h]
@[simp] theorem State.mbxAnswer_latches (s : State) (status : Nat) (pay : List Byte) : (s.mbxAnswer status pay).latches = s.latches := by
  obtain ⟨_, _, _, h⟩ := s.mbxAnswer_only status pay; rw [h]
@[simp] theorem State.mbxAnswer_hostErr (s : State) (status : Nat) (pay : List Byte) : (s.mbxAnswer status pay).hostErr = s.hostErr := by
  obtain ⟨_, _, _, h⟩ := s.mbxAnswer_only status pay; rw [h]
@[simp] theorem State.mbxAnswer_sbdErr (s : State) (status : Nat) (pay : List Byte) : (s.mbxAnswer status pay).sbdErr = s.sbdErr := by
  obtain ⟨_, _, _, h⟩ := s.mbxAnswer_only status pay; rw [h]
@[simp] theorem State.mbxAnswer_warden (s : State) (status : Nat) (pay : List Byte) : (s.mbxAnswer status pay).warden = s.warden := by
  obtain ⟨_, _, _, h⟩ := s.mbxAnswer_only status pay; rw [h]
@[simp] theorem State.mbxAnswer_log (s : State) (status : Nat) (pay : List Byte) : (s.mbxAnswer status pay).log = s.log := by
  obtain ⟨_, _, _, h⟩ := s.mbxAnswer_only status pay; rw [h]
@[simp] theorem State.mbxAnswer_gau (s : State) (status : Nat) (pay : List Byte) : (s.mbxAnswer status pay).gau = s.gau := by
  obtain ⟨_, _, _, h⟩ := s.mbxAnswer_only status pay; rw [h]
@[simp] theorem State.mbxAnswer_sel (s : State) (status : Nat) (pay : List Byte) : (s.mbxAnswer status pay).sel = s.sel := by
  obtain ⟨_, _, _, h⟩ := s.mbxAnswer_only status pay; rw [h]
@[simp] theorem State.mbxAnswer_hld (s : State) (status : Nat) (pay : List Byte) : (s.mbxAnswer status pay).hld = s.hld := by
  obtain ⟨_, _, _, h⟩ := s.mbxAnswer_only status pay; rw [h]
@[simp] theorem State.mbxAnswer_out (s : State) (status : Nat) (pay : List Byte) : (s.mbxAnswer status pay).out = s.out := by
  obtain ⟨_, _, _, h⟩ := s.mbxAnswer_only status pay; rw [h]
@[simp] theorem State.mbxAnswer_seqs (s : State) (status : Nat) (pay : List Byte) : (s.mbxAnswer status pay).seqs = s.seqs := by
  obtain ⟨_, _, _, h⟩ := s.mbxAnswer_only status pay; rw [h]
@[simp] theorem State.mbxAnswer_clus (s : State) (status : Nat) (pay : List Byte) : (s.mbxAnswer status pay).clus = s.clus := by
  obtain ⟨_, _, _, h⟩ := s.mbxAnswer_only status pay; rw [h]
@[simp] theorem State.mbxAnswer_flt (s : State) (status : Nat) (pay : List Byte) : (s.mbxAnswer status pay).flt = s.flt := by
  obtain ⟨_, _, _, h⟩ := s.mbxAnswer_only status pay; rw [h]
@[simp] theorem State.mbxAnswer_rcd (s : State) (status : Nat) (pay : List Byte) : (s.mbxAnswer status pay).rcd = s.rcd := by
  obtain ⟨_, _, _, h⟩ := s.mbxAnswer_only status pay; rw [h]
@[simp] theorem State.mbxAnswer_pmc (s : State) (status : Nat) (pay : List Byte) : (s.mbxAnswer status pay).pmc = s.pmc := by
  obtain ⟨_, _, _, h⟩ := s.mbxAnswer_only status pay; rw [h]
@[simp] theorem State.mbxAnswer_links (s : State) (status : Nat) (pay : List Byte) : (s.mbxAnswer status pay).links = s.links := by
  obtain ⟨_, _, _, h⟩ := s.mbxAnswer_only status pay; rw [h]
@[simp] theorem State.mbxAnswer_twin (s : State) (status : Nat) (pay : List Byte) : (s.mbxAnswer status pay).twin = s.twin := by
  obtain ⟨_, _, _, h⟩ := s.mbxAnswer_only status pay; rw [h]
@[simp] theorem State.mbxAnswer_tdc (s : State) (status : Nat) (pay : List Byte) : (s.mbxAnswer status pay).tdc = s.tdc := by
  obtain ⟨_, _, _, h⟩ := s.mbxAnswer_only status pay; rw [h]
@[simp] theorem State.mbxAnswer_gnb (s : State) (status : Nat) (pay : List Byte) : (s.mbxAnswer status pay).gnb = s.gnb := by
  obtain ⟨_, _, _, h⟩ := s.mbxAnswer_only status pay; rw [h]
@[simp] theorem State.mbxAnswer_key (s : State) (status : Nat) (pay : List Byte) : (s.mbxAnswer status pay).key = s.key := by
  obtain ⟨_, _, _, h⟩ := s.mbxAnswer_only status pay; rw [h]
@[simp] theorem State.mbxAnswer_fuses (s : State) (status : Nat) (pay : List Byte) : (s.mbxAnswer status pay).fuses = s.fuses := by
  obtain ⟨_, _, _, h⟩ := s.mbxAnswer_only status pay; rw [h]
@[simp] theorem State.mbxAnswer_att (s : State) (status : Nat) (pay : List Byte) : (s.mbxAnswer status pay).att = s.att := by
  obtain ⟨_, _, _, h⟩ := s.mbxAnswer_only status pay; rw [h]
@[simp] theorem State.mbxAnswer_eth (s : State) (status : Nat) (pay : List Byte) : (s.mbxAnswer status pay).eth = s.eth := by
  obtain ⟨_, _, _, h⟩ := s.mbxAnswer_only status pay; rw [h]
@[simp] theorem State.mbxAnswer_tsv (s : State) (status : Nat) (pay : List Byte) : (s.mbxAnswer status pay).tsv = s.tsv := by
  obtain ⟨_, _, _, h⟩ := s.mbxAnswer_only status pay; rw [h]
@[simp] theorem State.mbxAnswer_aud (s : State) (status : Nat) (pay : List Byte) : (s.mbxAnswer status pay).aud = s.aud := by
  obtain ⟨_, _, _, h⟩ := s.mbxAnswer_only status pay; rw [h]
@[simp] theorem State.mbxAnswer_mix (s : State) (status : Nat) (pay : List Byte) : (s.mbxAnswer status pay).mix = s.mix := by
  obtain ⟨_, _, _, h⟩ := s.mbxAnswer_only status pay; rw [h]
@[simp] theorem State.mbxAnswer_sbd (s : State) (status : Nat) (pay : List Byte) : (s.mbxAnswer status pay).sbd = s.sbd := by
  obtain ⟨_, _, _, h⟩ := s.mbxAnswer_only status pay; rw [h]
@[simp] theorem State.mbxAnswer_mem (s : State) (status : Nat) (pay : List Byte) : (s.mbxAnswer status pay).mem = s.mem := by
  obtain ⟨_, _, _, h⟩ := s.mbxAnswer_only status pay; rw [h]
@[simp] theorem State.mbxAnswer_cast_ (s : State) (status : Nat) (pay : List Byte) : (s.mbxAnswer status pay).cast_ = s.cast_ := by
  obtain ⟨_, _, _, h⟩ := s.mbxAnswer_only status pay; rw [h]
@[simp] theorem State.mbxAnswer_dram (s : State) (status : Nat) (pay : List Byte) : (s.mbxAnswer status pay).dram = s.dram := by
  obtain ⟨_, _, _, h⟩ := s.mbxAnswer_only status pay; rw [h]
@[simp] theorem State.mbxAnswer_coreOn (s : State) (status : Nat) (pay : List Byte) : (s.mbxAnswer status pay).coreOn = s.coreOn := by
  obtain ⟨_, _, _, h⟩ := s.mbxAnswer_only status pay; rw [h]
theorem State.sbdEnds_only (s : State) (org : Origin) (cmd status : Nat) (pay : List Byte) : ∃ v0 v1 v2 v3, s.sbdEnds org cmd status pay = { s with sbd := v0, hst := v1, hw := v2, sent := v3 } := by
  unfold State.sbdEnds
  split
  · split
    · split
      · rename_i q c _ _
        obtain ⟨v, hv⟩ := ({ s with sbd := { s.sbd with owes := none } } : State).sbdSend_only q status pay
        exact ⟨_, s.hst, s.hw, v, by rw [hv]⟩
      · exact ⟨s.sbd, s.hst, s.hw, s.sent, rfl⟩
    · exact ⟨s.sbd, s.hst, s.hw, s.sent, rfl⟩
  · split
    · obtain ⟨a, b, c, hv⟩ := s.mbxAnswer_only status pay
      exact ⟨s.sbd, a, b, c, by rw [hv]⟩
    · exact ⟨s.sbd, s.hst, s.hw, s.sent, rfl⟩
  · exact ⟨s.sbd, s.hst, s.hw, s.sent, rfl⟩
@[simp] theorem State.sbdEnds_pending (s : State) (org : Origin) (cmd status : Nat) (pay : List Byte) : (s.sbdEnds org cmd status pay).pending = s.pending := by
  obtain ⟨_, _, _, _, h⟩ := s.sbdEnds_only org cmd status pay; rw [h]
@[simp] theorem State.sbdEnds_free (s : State) (org : Origin) (cmd status : Nat) (pay : List Byte) : (s.sbdEnds org cmd status pay).free = s.free := by
  obtain ⟨_, _, _, _, h⟩ := s.sbdEnds_only org cmd status pay; rw [h]
@[simp] theorem State.sbdEnds_wt (s : State) (org : Origin) (cmd status : Nat) (pay : List Byte) : (s.sbdEnds org cmd status pay).wt = s.wt := by
  obtain ⟨_, _, _, _, h⟩ := s.sbdEnds_only org cmd status pay; rw [h]
@[simp] theorem State.sbdEnds_fired (s : State) (org : Origin) (cmd status : Nat) (pay : List Byte) : (s.sbdEnds org cmd status pay).fired = s.fired := by
  obtain ⟨_, _, _, _, h⟩ := s.sbdEnds_only org cmd status pay; rw [h]
@[simp] theorem State.sbdEnds_regs (s : State) (org : Origin) (cmd status : Nat) (pay : List Byte) : (s.sbdEnds org cmd status pay).regs = s.regs := by
  obtain ⟨_, _, _, _, h⟩ := s.sbdEnds_only org cmd status pay; rw [h]
@[simp] theorem State.sbdEnds_force (s : State) (org : Origin) (cmd status : Nat) (pay : List Byte) : (s.sbdEnds org cmd status pay).force = s.force := by
  obtain ⟨_, _, _, _, h⟩ := s.sbdEnds_only org cmd status pay; rw [h]
@[simp] theorem State.sbdEnds_staged (s : State) (org : Origin) (cmd status : Nat) (pay : List Byte) : (s.sbdEnds org cmd status pay).staged = s.staged := by
  obtain ⟨_, _, _, _, h⟩ := s.sbdEnds_only org cmd status pay; rw [h]
@[simp] theorem State.sbdEnds_latches (s : State) (org : Origin) (cmd status : Nat) (pay : List Byte) : (s.sbdEnds org cmd status pay).latches = s.latches := by
  obtain ⟨_, _, _, _, h⟩ := s.sbdEnds_only org cmd status pay; rw [h]
@[simp] theorem State.sbdEnds_hostErr (s : State) (org : Origin) (cmd status : Nat) (pay : List Byte) : (s.sbdEnds org cmd status pay).hostErr = s.hostErr := by
  obtain ⟨_, _, _, _, h⟩ := s.sbdEnds_only org cmd status pay; rw [h]
@[simp] theorem State.sbdEnds_sbdErr (s : State) (org : Origin) (cmd status : Nat) (pay : List Byte) : (s.sbdEnds org cmd status pay).sbdErr = s.sbdErr := by
  obtain ⟨_, _, _, _, h⟩ := s.sbdEnds_only org cmd status pay; rw [h]
@[simp] theorem State.sbdEnds_warden (s : State) (org : Origin) (cmd status : Nat) (pay : List Byte) : (s.sbdEnds org cmd status pay).warden = s.warden := by
  obtain ⟨_, _, _, _, h⟩ := s.sbdEnds_only org cmd status pay; rw [h]
@[simp] theorem State.sbdEnds_log (s : State) (org : Origin) (cmd status : Nat) (pay : List Byte) : (s.sbdEnds org cmd status pay).log = s.log := by
  obtain ⟨_, _, _, _, h⟩ := s.sbdEnds_only org cmd status pay; rw [h]
@[simp] theorem State.sbdEnds_gau (s : State) (org : Origin) (cmd status : Nat) (pay : List Byte) : (s.sbdEnds org cmd status pay).gau = s.gau := by
  obtain ⟨_, _, _, _, h⟩ := s.sbdEnds_only org cmd status pay; rw [h]
@[simp] theorem State.sbdEnds_sel (s : State) (org : Origin) (cmd status : Nat) (pay : List Byte) : (s.sbdEnds org cmd status pay).sel = s.sel := by
  obtain ⟨_, _, _, _, h⟩ := s.sbdEnds_only org cmd status pay; rw [h]
@[simp] theorem State.sbdEnds_hld (s : State) (org : Origin) (cmd status : Nat) (pay : List Byte) : (s.sbdEnds org cmd status pay).hld = s.hld := by
  obtain ⟨_, _, _, _, h⟩ := s.sbdEnds_only org cmd status pay; rw [h]
@[simp] theorem State.sbdEnds_out (s : State) (org : Origin) (cmd status : Nat) (pay : List Byte) : (s.sbdEnds org cmd status pay).out = s.out := by
  obtain ⟨_, _, _, _, h⟩ := s.sbdEnds_only org cmd status pay; rw [h]
@[simp] theorem State.sbdEnds_seqs (s : State) (org : Origin) (cmd status : Nat) (pay : List Byte) : (s.sbdEnds org cmd status pay).seqs = s.seqs := by
  obtain ⟨_, _, _, _, h⟩ := s.sbdEnds_only org cmd status pay; rw [h]
@[simp] theorem State.sbdEnds_clus (s : State) (org : Origin) (cmd status : Nat) (pay : List Byte) : (s.sbdEnds org cmd status pay).clus = s.clus := by
  obtain ⟨_, _, _, _, h⟩ := s.sbdEnds_only org cmd status pay; rw [h]
@[simp] theorem State.sbdEnds_flt (s : State) (org : Origin) (cmd status : Nat) (pay : List Byte) : (s.sbdEnds org cmd status pay).flt = s.flt := by
  obtain ⟨_, _, _, _, h⟩ := s.sbdEnds_only org cmd status pay; rw [h]
@[simp] theorem State.sbdEnds_rcd (s : State) (org : Origin) (cmd status : Nat) (pay : List Byte) : (s.sbdEnds org cmd status pay).rcd = s.rcd := by
  obtain ⟨_, _, _, _, h⟩ := s.sbdEnds_only org cmd status pay; rw [h]
@[simp] theorem State.sbdEnds_pmc (s : State) (org : Origin) (cmd status : Nat) (pay : List Byte) : (s.sbdEnds org cmd status pay).pmc = s.pmc := by
  obtain ⟨_, _, _, _, h⟩ := s.sbdEnds_only org cmd status pay; rw [h]
@[simp] theorem State.sbdEnds_links (s : State) (org : Origin) (cmd status : Nat) (pay : List Byte) : (s.sbdEnds org cmd status pay).links = s.links := by
  obtain ⟨_, _, _, _, h⟩ := s.sbdEnds_only org cmd status pay; rw [h]
@[simp] theorem State.sbdEnds_twin (s : State) (org : Origin) (cmd status : Nat) (pay : List Byte) : (s.sbdEnds org cmd status pay).twin = s.twin := by
  obtain ⟨_, _, _, _, h⟩ := s.sbdEnds_only org cmd status pay; rw [h]
@[simp] theorem State.sbdEnds_tdc (s : State) (org : Origin) (cmd status : Nat) (pay : List Byte) : (s.sbdEnds org cmd status pay).tdc = s.tdc := by
  obtain ⟨_, _, _, _, h⟩ := s.sbdEnds_only org cmd status pay; rw [h]
@[simp] theorem State.sbdEnds_gnb (s : State) (org : Origin) (cmd status : Nat) (pay : List Byte) : (s.sbdEnds org cmd status pay).gnb = s.gnb := by
  obtain ⟨_, _, _, _, h⟩ := s.sbdEnds_only org cmd status pay; rw [h]
@[simp] theorem State.sbdEnds_key (s : State) (org : Origin) (cmd status : Nat) (pay : List Byte) : (s.sbdEnds org cmd status pay).key = s.key := by
  obtain ⟨_, _, _, _, h⟩ := s.sbdEnds_only org cmd status pay; rw [h]
@[simp] theorem State.sbdEnds_fuses (s : State) (org : Origin) (cmd status : Nat) (pay : List Byte) : (s.sbdEnds org cmd status pay).fuses = s.fuses := by
  obtain ⟨_, _, _, _, h⟩ := s.sbdEnds_only org cmd status pay; rw [h]
@[simp] theorem State.sbdEnds_att (s : State) (org : Origin) (cmd status : Nat) (pay : List Byte) : (s.sbdEnds org cmd status pay).att = s.att := by
  obtain ⟨_, _, _, _, h⟩ := s.sbdEnds_only org cmd status pay; rw [h]
@[simp] theorem State.sbdEnds_eth (s : State) (org : Origin) (cmd status : Nat) (pay : List Byte) : (s.sbdEnds org cmd status pay).eth = s.eth := by
  obtain ⟨_, _, _, _, h⟩ := s.sbdEnds_only org cmd status pay; rw [h]
@[simp] theorem State.sbdEnds_tsv (s : State) (org : Origin) (cmd status : Nat) (pay : List Byte) : (s.sbdEnds org cmd status pay).tsv = s.tsv := by
  obtain ⟨_, _, _, _, h⟩ := s.sbdEnds_only org cmd status pay; rw [h]
@[simp] theorem State.sbdEnds_aud (s : State) (org : Origin) (cmd status : Nat) (pay : List Byte) : (s.sbdEnds org cmd status pay).aud = s.aud := by
  obtain ⟨_, _, _, _, h⟩ := s.sbdEnds_only org cmd status pay; rw [h]
@[simp] theorem State.sbdEnds_mix (s : State) (org : Origin) (cmd status : Nat) (pay : List Byte) : (s.sbdEnds org cmd status pay).mix = s.mix := by
  obtain ⟨_, _, _, _, h⟩ := s.sbdEnds_only org cmd status pay; rw [h]
@[simp] theorem State.sbdEnds_mem (s : State) (org : Origin) (cmd status : Nat) (pay : List Byte) : (s.sbdEnds org cmd status pay).mem = s.mem := by
  obtain ⟨_, _, _, _, h⟩ := s.sbdEnds_only org cmd status pay; rw [h]
@[simp] theorem State.sbdEnds_cast_ (s : State) (org : Origin) (cmd status : Nat) (pay : List Byte) : (s.sbdEnds org cmd status pay).cast_ = s.cast_ := by
  obtain ⟨_, _, _, _, h⟩ := s.sbdEnds_only org cmd status pay; rw [h]
@[simp] theorem State.sbdEnds_dram (s : State) (org : Origin) (cmd status : Nat) (pay : List Byte) : (s.sbdEnds org cmd status pay).dram = s.dram := by
  obtain ⟨_, _, _, _, h⟩ := s.sbdEnds_only org cmd status pay; rw [h]
@[simp] theorem State.sbdEnds_coreOn (s : State) (org : Origin) (cmd status : Nat) (pay : List Byte) : (s.sbdEnds org cmd status pay).coreOn = s.coreOn := by
  obtain ⟨_, _, _, _, h⟩ := s.sbdEnds_only org cmd status pay; rw [h]
theorem State.place_only (s : State) (r : LogRec) : ∃ v0 v1 v2, s.place r = { s with log := v0, hw := v1, sent := v2 } := by
  unfold State.place
  dsimp only
  split
  · obtain ⟨a, b, h1⟩ := State.irq_only { s with log := { s.log with
      ring := s.log.ring ++ [s.numbered r], seq := (s.numbered r).seq, link := (s.numbered r).link } } 18
    rw [h1]
    obtain ⟨c, h2⟩ := State.ibi_only { s with
      log := { s.log with ring := s.log.ring ++ [s.numbered r], seq := (s.numbered r).seq, link := (s.numbered r).link }
      hw := a, sent := b } 3
    exact ⟨_, a, c, h2⟩
  · exact ⟨_, s.hw, s.sent, rfl⟩
@[simp] theorem State.place_pending (s : State) (r : LogRec) : (s.place r).pending = s.pending := by
  obtain ⟨_, _, _, h⟩ := s.place_only r; rw [h]
@[simp] theorem State.place_free (s : State) (r : LogRec) : (s.place r).free = s.free := by
  obtain ⟨_, _, _, h⟩ := s.place_only r; rw [h]
@[simp] theorem State.place_wt (s : State) (r : LogRec) : (s.place r).wt = s.wt := by
  obtain ⟨_, _, _, h⟩ := s.place_only r; rw [h]
@[simp] theorem State.place_fired (s : State) (r : LogRec) : (s.place r).fired = s.fired := by
  obtain ⟨_, _, _, h⟩ := s.place_only r; rw [h]
@[simp] theorem State.place_regs (s : State) (r : LogRec) : (s.place r).regs = s.regs := by
  obtain ⟨_, _, _, h⟩ := s.place_only r; rw [h]
@[simp] theorem State.place_force (s : State) (r : LogRec) : (s.place r).force = s.force := by
  obtain ⟨_, _, _, h⟩ := s.place_only r; rw [h]
@[simp] theorem State.place_staged (s : State) (r : LogRec) : (s.place r).staged = s.staged := by
  obtain ⟨_, _, _, h⟩ := s.place_only r; rw [h]
@[simp] theorem State.place_latches (s : State) (r : LogRec) : (s.place r).latches = s.latches := by
  obtain ⟨_, _, _, h⟩ := s.place_only r; rw [h]
@[simp] theorem State.place_hostErr (s : State) (r : LogRec) : (s.place r).hostErr = s.hostErr := by
  obtain ⟨_, _, _, h⟩ := s.place_only r; rw [h]
@[simp] theorem State.place_sbdErr (s : State) (r : LogRec) : (s.place r).sbdErr = s.sbdErr := by
  obtain ⟨_, _, _, h⟩ := s.place_only r; rw [h]
@[simp] theorem State.place_warden (s : State) (r : LogRec) : (s.place r).warden = s.warden := by
  obtain ⟨_, _, _, h⟩ := s.place_only r; rw [h]
@[simp] theorem State.place_gau (s : State) (r : LogRec) : (s.place r).gau = s.gau := by
  obtain ⟨_, _, _, h⟩ := s.place_only r; rw [h]
@[simp] theorem State.place_sel (s : State) (r : LogRec) : (s.place r).sel = s.sel := by
  obtain ⟨_, _, _, h⟩ := s.place_only r; rw [h]
@[simp] theorem State.place_hld (s : State) (r : LogRec) : (s.place r).hld = s.hld := by
  obtain ⟨_, _, _, h⟩ := s.place_only r; rw [h]
@[simp] theorem State.place_out (s : State) (r : LogRec) : (s.place r).out = s.out := by
  obtain ⟨_, _, _, h⟩ := s.place_only r; rw [h]
@[simp] theorem State.place_seqs (s : State) (r : LogRec) : (s.place r).seqs = s.seqs := by
  obtain ⟨_, _, _, h⟩ := s.place_only r; rw [h]
@[simp] theorem State.place_clus (s : State) (r : LogRec) : (s.place r).clus = s.clus := by
  obtain ⟨_, _, _, h⟩ := s.place_only r; rw [h]
@[simp] theorem State.place_flt (s : State) (r : LogRec) : (s.place r).flt = s.flt := by
  obtain ⟨_, _, _, h⟩ := s.place_only r; rw [h]
@[simp] theorem State.place_rcd (s : State) (r : LogRec) : (s.place r).rcd = s.rcd := by
  obtain ⟨_, _, _, h⟩ := s.place_only r; rw [h]
@[simp] theorem State.place_pmc (s : State) (r : LogRec) : (s.place r).pmc = s.pmc := by
  obtain ⟨_, _, _, h⟩ := s.place_only r; rw [h]
@[simp] theorem State.place_links (s : State) (r : LogRec) : (s.place r).links = s.links := by
  obtain ⟨_, _, _, h⟩ := s.place_only r; rw [h]
@[simp] theorem State.place_twin (s : State) (r : LogRec) : (s.place r).twin = s.twin := by
  obtain ⟨_, _, _, h⟩ := s.place_only r; rw [h]
@[simp] theorem State.place_tdc (s : State) (r : LogRec) : (s.place r).tdc = s.tdc := by
  obtain ⟨_, _, _, h⟩ := s.place_only r; rw [h]
@[simp] theorem State.place_gnb (s : State) (r : LogRec) : (s.place r).gnb = s.gnb := by
  obtain ⟨_, _, _, h⟩ := s.place_only r; rw [h]
@[simp] theorem State.place_key (s : State) (r : LogRec) : (s.place r).key = s.key := by
  obtain ⟨_, _, _, h⟩ := s.place_only r; rw [h]
@[simp] theorem State.place_fuses (s : State) (r : LogRec) : (s.place r).fuses = s.fuses := by
  obtain ⟨_, _, _, h⟩ := s.place_only r; rw [h]
@[simp] theorem State.place_att (s : State) (r : LogRec) : (s.place r).att = s.att := by
  obtain ⟨_, _, _, h⟩ := s.place_only r; rw [h]
@[simp] theorem State.place_eth (s : State) (r : LogRec) : (s.place r).eth = s.eth := by
  obtain ⟨_, _, _, h⟩ := s.place_only r; rw [h]
@[simp] theorem State.place_tsv (s : State) (r : LogRec) : (s.place r).tsv = s.tsv := by
  obtain ⟨_, _, _, h⟩ := s.place_only r; rw [h]
@[simp] theorem State.place_aud (s : State) (r : LogRec) : (s.place r).aud = s.aud := by
  obtain ⟨_, _, _, h⟩ := s.place_only r; rw [h]
@[simp] theorem State.place_mix (s : State) (r : LogRec) : (s.place r).mix = s.mix := by
  obtain ⟨_, _, _, h⟩ := s.place_only r; rw [h]
@[simp] theorem State.place_hst (s : State) (r : LogRec) : (s.place r).hst = s.hst := by
  obtain ⟨_, _, _, h⟩ := s.place_only r; rw [h]
@[simp] theorem State.place_sbd (s : State) (r : LogRec) : (s.place r).sbd = s.sbd := by
  obtain ⟨_, _, _, h⟩ := s.place_only r; rw [h]
@[simp] theorem State.place_mem (s : State) (r : LogRec) : (s.place r).mem = s.mem := by
  obtain ⟨_, _, _, h⟩ := s.place_only r; rw [h]
@[simp] theorem State.place_cast_ (s : State) (r : LogRec) : (s.place r).cast_ = s.cast_ := by
  obtain ⟨_, _, _, h⟩ := s.place_only r; rw [h]
@[simp] theorem State.place_dram (s : State) (r : LogRec) : (s.place r).dram = s.dram := by
  obtain ⟨_, _, _, h⟩ := s.place_only r; rw [h]
@[simp] theorem State.place_coreOn (s : State) (r : LogRec) : (s.place r).coreOn = s.coreOn := by
  obtain ⟨_, _, _, h⟩ := s.place_only r; rw [h]
theorem State.placeGap_only (s : State) : ∃ v0 v1 v2, s.placeGap = { s with log := v0, hw := v1, sent := v2 } := by
  unfold State.placeGap
  split
  · obtain ⟨a, b, c, h⟩ := s.place_only (s.mkRec 8 0 s.log.gapUnaud s.log.gapFull .warden .none)
    exact ⟨_, b, c, by rw [h]⟩
  · exact ⟨s.log, s.hw, s.sent, rfl⟩
@[simp] theorem State.placeGap_pending (s : State) : s.placeGap.pending = s.pending := by
  obtain ⟨_, _, _, h⟩ := s.placeGap_only; rw [h]
@[simp] theorem State.placeGap_free (s : State) : s.placeGap.free = s.free := by
  obtain ⟨_, _, _, h⟩ := s.placeGap_only; rw [h]
@[simp] theorem State.placeGap_wt (s : State) : s.placeGap.wt = s.wt := by
  obtain ⟨_, _, _, h⟩ := s.placeGap_only; rw [h]
@[simp] theorem State.placeGap_fired (s : State) : s.placeGap.fired = s.fired := by
  obtain ⟨_, _, _, h⟩ := s.placeGap_only; rw [h]
@[simp] theorem State.placeGap_regs (s : State) : s.placeGap.regs = s.regs := by
  obtain ⟨_, _, _, h⟩ := s.placeGap_only; rw [h]
@[simp] theorem State.placeGap_force (s : State) : s.placeGap.force = s.force := by
  obtain ⟨_, _, _, h⟩ := s.placeGap_only; rw [h]
@[simp] theorem State.placeGap_staged (s : State) : s.placeGap.staged = s.staged := by
  obtain ⟨_, _, _, h⟩ := s.placeGap_only; rw [h]
@[simp] theorem State.placeGap_latches (s : State) : s.placeGap.latches = s.latches := by
  obtain ⟨_, _, _, h⟩ := s.placeGap_only; rw [h]
@[simp] theorem State.placeGap_hostErr (s : State) : s.placeGap.hostErr = s.hostErr := by
  obtain ⟨_, _, _, h⟩ := s.placeGap_only; rw [h]
@[simp] theorem State.placeGap_sbdErr (s : State) : s.placeGap.sbdErr = s.sbdErr := by
  obtain ⟨_, _, _, h⟩ := s.placeGap_only; rw [h]
@[simp] theorem State.placeGap_warden (s : State) : s.placeGap.warden = s.warden := by
  obtain ⟨_, _, _, h⟩ := s.placeGap_only; rw [h]
@[simp] theorem State.placeGap_gau (s : State) : s.placeGap.gau = s.gau := by
  obtain ⟨_, _, _, h⟩ := s.placeGap_only; rw [h]
@[simp] theorem State.placeGap_sel (s : State) : s.placeGap.sel = s.sel := by
  obtain ⟨_, _, _, h⟩ := s.placeGap_only; rw [h]
@[simp] theorem State.placeGap_hld (s : State) : s.placeGap.hld = s.hld := by
  obtain ⟨_, _, _, h⟩ := s.placeGap_only; rw [h]
@[simp] theorem State.placeGap_out (s : State) : s.placeGap.out = s.out := by
  obtain ⟨_, _, _, h⟩ := s.placeGap_only; rw [h]
@[simp] theorem State.placeGap_seqs (s : State) : s.placeGap.seqs = s.seqs := by
  obtain ⟨_, _, _, h⟩ := s.placeGap_only; rw [h]
@[simp] theorem State.placeGap_clus (s : State) : s.placeGap.clus = s.clus := by
  obtain ⟨_, _, _, h⟩ := s.placeGap_only; rw [h]
@[simp] theorem State.placeGap_flt (s : State) : s.placeGap.flt = s.flt := by
  obtain ⟨_, _, _, h⟩ := s.placeGap_only; rw [h]
@[simp] theorem State.placeGap_rcd (s : State) : s.placeGap.rcd = s.rcd := by
  obtain ⟨_, _, _, h⟩ := s.placeGap_only; rw [h]
@[simp] theorem State.placeGap_pmc (s : State) : s.placeGap.pmc = s.pmc := by
  obtain ⟨_, _, _, h⟩ := s.placeGap_only; rw [h]
@[simp] theorem State.placeGap_links (s : State) : s.placeGap.links = s.links := by
  obtain ⟨_, _, _, h⟩ := s.placeGap_only; rw [h]
@[simp] theorem State.placeGap_twin (s : State) : s.placeGap.twin = s.twin := by
  obtain ⟨_, _, _, h⟩ := s.placeGap_only; rw [h]
@[simp] theorem State.placeGap_tdc (s : State) : s.placeGap.tdc = s.tdc := by
  obtain ⟨_, _, _, h⟩ := s.placeGap_only; rw [h]
@[simp] theorem State.placeGap_gnb (s : State) : s.placeGap.gnb = s.gnb := by
  obtain ⟨_, _, _, h⟩ := s.placeGap_only; rw [h]
@[simp] theorem State.placeGap_key (s : State) : s.placeGap.key = s.key := by
  obtain ⟨_, _, _, h⟩ := s.placeGap_only; rw [h]
@[simp] theorem State.placeGap_fuses (s : State) : s.placeGap.fuses = s.fuses := by
  obtain ⟨_, _, _, h⟩ := s.placeGap_only; rw [h]
@[simp] theorem State.placeGap_att (s : State) : s.placeGap.att = s.att := by
  obtain ⟨_, _, _, h⟩ := s.placeGap_only; rw [h]
@[simp] theorem State.placeGap_eth (s : State) : s.placeGap.eth = s.eth := by
  obtain ⟨_, _, _, h⟩ := s.placeGap_only; rw [h]
@[simp] theorem State.placeGap_tsv (s : State) : s.placeGap.tsv = s.tsv := by
  obtain ⟨_, _, _, h⟩ := s.placeGap_only; rw [h]
@[simp] theorem State.placeGap_aud (s : State) : s.placeGap.aud = s.aud := by
  obtain ⟨_, _, _, h⟩ := s.placeGap_only; rw [h]
@[simp] theorem State.placeGap_mix (s : State) : s.placeGap.mix = s.mix := by
  obtain ⟨_, _, _, h⟩ := s.placeGap_only; rw [h]
@[simp] theorem State.placeGap_hst (s : State) : s.placeGap.hst = s.hst := by
  obtain ⟨_, _, _, h⟩ := s.placeGap_only; rw [h]
@[simp] theorem State.placeGap_sbd (s : State) : s.placeGap.sbd = s.sbd := by
  obtain ⟨_, _, _, h⟩ := s.placeGap_only; rw [h]
@[simp] theorem State.placeGap_mem (s : State) : s.placeGap.mem = s.mem := by
  obtain ⟨_, _, _, h⟩ := s.placeGap_only; rw [h]
@[simp] theorem State.placeGap_cast_ (s : State) : s.placeGap.cast_ = s.cast_ := by
  obtain ⟨_, _, _, h⟩ := s.placeGap_only; rw [h]
@[simp] theorem State.placeGap_dram (s : State) : s.placeGap.dram = s.dram := by
  obtain ⟨_, _, _, h⟩ := s.placeGap_only; rw [h]
@[simp] theorem State.placeGap_coreOn (s : State) : s.placeGap.coreOn = s.coreOn := by
  obtain ⟨_, _, _, h⟩ := s.placeGap_only; rw [h]

end Sys2Proof.Machine
end

