-- ==== Sys2Proof/Laws/Gate.lean ====
section
/-! SUPPORT. The write gate: a write that the gate admits has its record and its effect at once. -/

namespace Sys2Proof.Machine

/-! ### What a record touches -/

/-- What a record leaves of the log: it joins the ring, and takes the next number and LINK (R310). -/
theorem State.place_log (s : State) (r : LogRec) :
    (s.place r).log = { s.log with
      ring := s.log.ring ++ [s.numbered r], seq := (s.numbered r).seq, link := (s.numbered r).link } := by
  unfold State.place
  dsimp only
  split <;> simp

@[simp] theorem State.placeGap_gate (s : State) : s.placeGap.log.gate = s.log.gate := by
  unfold State.placeGap
  split
  · simp [State.place_log]
  · rfl

@[simp] theorem State.placeGap_held (s : State) : s.placeGap.log.held = s.log.held := by
  unfold State.placeGap
  split
  · simp [State.place_log]
  · rfl

/-- A record with room is written, whatever precedes it. -/
theorem State.recordNormal_room {s : State} {r : LogRec} (h : s.logRoom r.slots = true) :
    s.recordNormal r = some (s.placeGap.place r) := by rw [State.recordNormal, if_pos h]

theorem State.recordNormal_only (s : State) (r : LogRec) :
    ∃ v0 v1 v2, s.placeGap.place r = { s with log := v0, hw := v1, sent := v2 } ∧
      v0.gate = s.log.gate ∧ v0.held = s.log.held := by
  obtain ⟨a, b, c, h1⟩ := s.placeGap_only
  obtain ⟨d, e, f, h2⟩ := s.placeGap.place_only r
  have h3 := congrArg (fun t : State => t.log.gate) h2
  have h4 := congrArg (fun t : State => t.log.held) h2
  exact ⟨d, e, f, by rw [h2, h1], by simpa [State.place_log] using h3.symm, by simpa [State.place_log] using h4.symm⟩

/-- A record has one slot or two. -/
theorem LogRec.slots_le (r : LogRec) : r.slots ≤ 2 := by unfold LogRec.slots; split <;> omega

/-- Room for an extended record is room for every record. -/
theorem State.logRoom_mono {s : State} (r : LogRec) (h : s.logRoom 2 = true) : s.logRoom r.slots = true := by
  have := r.slots_le
  simp only [State.logRoom, decide_eq_true_eq] at h ⊢
  omega

@[simp] theorem State.gated_logRoom (s : State) (e : GateEntry) (k : Nat) : (s.gated e).logRoom k = s.logRoom k := rfl

/-- The record of a change that finds room, exempt or not. -/
theorem State.record_room {s : State} {r : LogRec} (h : s.logRoom r.slots = true) :
    (if exemptKind r.kind then some (s.recordExempt r) else s.recordNormal r) = some (s.placeGap.place r) := by
  simp [State.recordExempt, State.recordNormal_room h]

/-- What the record of a change touches. -/
theorem State.withRecord_only (s : State) (e : GateEntry) (h : s.logRoom 2 = true) :
    ∃ v0 v1 v2, s.withRecord e = { s with log := v0, hw := v1, sent := v2 } ∧ v0.held = s.log.held ∧ v0.gate = [] := by
  have hr : (s.gated e).logRoom ((s.gated e).recOf e .none).slots = true := State.logRoom_mono _ (by simpa using h)
  obtain ⟨a, b, c, h1, -, h2⟩ := (s.gated e).recordNormal_only ((s.gated e).recOf e .none)
  unfold State.withRecord
  simp only [State.recordExempt, State.recordNormal_room hr, Option.getD_some, ite_self, h1]
  exact ⟨_, b, c, rfl, h2, rfl⟩

theorem State.counted_only (s : State) (r : Requester) : ∃ v0, s.counted r = { s with pmc := v0 } := by
  unfold State.counted
  split
  · exact s.pmcEv_only _ _ _ _
  · exact ⟨s.pmc, rfl⟩

/-! ### The write -/

/-- A change that is not mirrored goes on as it is. -/
theorem State.mirrorOut_none {s : State} {e : GateEntry} (ht : s.mirrors e.ch.addr = false) : s.mirrorOut e = (e.apply, s) := by
  unfold State.mirrorOut
  unfold State.mirrors at ht
  cases he : e.ch <;> simp only [he, Change.addr] at ht ⊢ <;>
    (split <;> [(split <;> [(exfalso; simp_all); rfl]); rfl])

/-- The gate records a change that it may admit. -/
theorem State.recordNext_gated {s : State} {e : GateEntry} (hn : e.recorded = none) (ha : e.apply = none)
    (hh : s.log.held = false) (hw : s.warden.up = true) (ht : s.mirrors e.ch.addr = false) (hr : s.logRoom 2 = true)
    (hj : (s.gated e).judge e false = .none) :
    (s.gated e).recordNext =
      let t := s.withRecord e
      { t with log := { t.log with gate := [{ e with recorded := some t.log.seq }] } } := by
  have hroom : (s.gated e).logRoom ((s.gated e).recOf e .none).slots = true := State.logRoom_mono _ (by simpa using hr)
  obtain ⟨a, b, c, h1, h2, -⟩ := (s.gated e).recordNormal_only ((s.gated e).recOf e .none)
  have ho : (s.gated e).gateOpens = true := by simp [State.gateOpens, State.gated, hw, hh]
  have hf : (s.gated e).log.gate.find? (fun e => e.recorded.isNone) = some e := by simp [State.gated, hn]
  have h3 : (s.gated e).recordEntry e =
      { s with log := { a with gate := [{ e with recorded := some a.seq }] }, hw := b, sent := c } := by
    unfold State.recordEntry
    simp only [hj, State.record_room hroom, ne_eq, not_true_eq_false, if_false, h1]
    rw [State.mirrorOut_none (s := { s.gated e with log := a, hw := b, sent := c }) ht]
    simp [h2, State.gated, replaceFirst, hn, ha]
  unfold State.recordNext
  simp only [ho, if_true, hf, h3]
  unfold State.withRecord
  simp only [State.recordExempt, State.recordNormal_room hroom, Option.getD_some, ite_self, h1]
  rfl

/-- A recorded register write that nothing holds is released, with its effect. -/
theorem State.releaseNext_single {s t : State} {r : Requester} {x : RegAt} {v : Nat} (hh : t.log.held = false)
    (hj : ({ t with log := { t.log with gate := [] } } : State).judgeReg (Origin.ofReq r)
      (s.ownerMay (Origin.ofReq r) x.first) x.first v = .none)
    (hwt : t.wt = s.wt) :
    ({ t with log := { t.log with gate := [{ s.entryOf r x v with recorded := some t.log.seq }] } } : State).releaseNext =
      (((({ t with log := { t.log with gate := [] } } : State).applyChange
        { s.entryOf r x v with recorded := some t.log.seq }).originDone (s.entryOf r x v)).sample 11 0 0) := by
  have hrel : ({ t with log := { t.log with gate := [{ s.entryOf r x v with recorded := some t.log.seq }] } } : State).releasable
      { s.entryOf r x v with recorded := some t.log.seq } = true := by
    simp [State.releasable, hh, State.entryOf, State.entry]
  have hsub : t.wt - s.wt = 0 := by omega
  have hr : ∀ e : GateEntry, ({ t with log := { t.log with gate := [e] } } : State).releaseNext =
      if ({ t with log := { t.log with gate := [e] } } : State).releasable e then
        ({ t with log := { t.log with gate := [] } } : State).releaseEntry e
      else { t with log := { t.log with gate := [e] } } := fun _ => rfl
  rw [hr, if_pos hrel]
  unfold State.releaseEntry
  have hj2 : ({ t with log := { t.log with gate := [] } } : State).judge
      { s.entryOf r x v with recorded := some t.log.seq } true = .none := hj
  simp only [hj2, if_true]
  have ha : t.wt - ({ s.entryOf r x v with recorded := some t.log.seq } : GateEntry).at_ = 0 := hsub
  rw [show ({ t with log := { t.log with gate := [] } } : State).wt = t.wt from rfl] at *
  cases r <;> simp only [ha] <;> rfl

/-- A write that the gate admits has its record, then its effect. -/
theorem State.submitChange_admitted {s : State} {r : Requester} {x : RegAt} {v : Nat}
    (hg : s.log.gate = []) (hh : s.log.held = false) (hw : s.warden.up = true) (ht : s.mirrors x.first = false)
    (hr : s.logRoom 2 = true)
    (h1 : (s.gated (s.entryOf r x v)).judgeReg (Origin.ofReq r) (s.ownerMay (Origin.ofReq r) x.first) x.first v = .none)
    (h2 : (s.withRecord (s.entryOf r x v)).judgeReg (Origin.ofReq r) (s.ownerMay (Origin.ofReq r) x.first) x.first v = .none) :
    s.submitChange (.reg x.first v) (Origin.ofReq r) =
      let e := s.entryOf r x v
      let t := s.withRecord e
      ((t.applyChange { e with recorded := some t.log.seq }).originDone e).sample 11 0 0 := by
  have hrn := State.recordNext_gated (s := s) (e := s.entryOf r x v) rfl rfl hh hw ht hr h1
  obtain ⟨a, b, c, hwr, hheld, hgt⟩ := s.withRecord_only (s.entryOf r x v) hr
  have hs : s.submitChange (.reg x.first v) (Origin.ofReq r) = (s.gated (s.entryOf r x v)).recordNext.releaseNext := by
    unfold State.submitChange
    simp [Warden.down, hw, hg, Change.addr, State.entryOf, State.gated]
  rw [hs, hrn]
  dsimp only
  have hth : (s.withRecord (s.entryOf r x v)).log.held = false := by rw [hwr]; exact hheld.trans hh
  have hwt : (s.withRecord (s.entryOf r x v)).wt = s.wt := by rw [hwr]
  have hgate : (s.withRecord (s.entryOf r x v)).log.gate = [] := by rw [hwr]; exact hgt
  generalize s.withRecord (s.entryOf r x v) = t at h2 hth hwt hgate
  have ht0 : ({ t with log := { t.log with gate := [] } } : State) = t := by rw [← hgate]
  have h3 := State.releaseNext_single (s := s) (t := t) (r := r) (x := x) (v := v) hth (by rw [ht0]; exact h2) hwt
  rw [ht0] at h3
  exact h3

/-- A write command whose write the gate admits (R303, R404): the record, then the effect. -/
theorem State.submit_admitted {s : State} {r : Requester} {n : RegName} {i j l v : Nat}
    (h : Admits s r ⟨n, i, j, l, 0⟩ v) : s.submit r n v i j l = s.written r ⟨n, i, j, l, 0⟩ v := by
  obtain ⟨hk, hg, hh, hw, ht, hr, hro, hua, -, h1, h2⟩ := h
  obtain ⟨p, hp⟩ := s.counted_only r
  have hro' : (⟨n, i, j, l, n.geo.words - 1⟩ : RegAt).readOnly = false := hro
  have hua' : (⟨n, i, j, l, n.geo.words - 1⟩ : RegAt).unaudited = false := hua
  have hf : (⟨n, i, j, l, n.geo.words - 1⟩ : RegAt).first = (⟨n, i, j, l, 0⟩ : RegAt).first := rfl
  rw [State.submit, if_pos hk, State.submitReg, hro', hua', hf]
  exact State.submitChange_admitted (by rw [hp]; exact hg) (by rw [hp]; exact hh) (by rw [hp]; exact hw)
    (by rw [hp]; exact ht) (by rw [hp]; exact hr) h1 h2

/-- A released write of a register other than SEL_HOSTSET is the write itself. -/
theorem State.applyChange_reg {s : State} {e : GateEntry} {x : RegAt} {v : Nat} (he : e.ch = .reg x.first v)
    (hl : lookupReg x.first = some x) (hx : x.reg ≠ .SEL_HOSTSET) :
    s.applyChange e = s.doWrite x v (e.recorded.getD 0) := by
  simp [State.applyChange, he, hl, hx]

/-- What a record before an admitted write touches. -/
theorem State.written_from {s : State} {r : Requester} {x : RegAt} {v : Nat} (h : Admits s r x v) (hx : x.reg ≠ .SEL_HOSTSET) :
    ∃ v0 v1 v2 v3 q, s.written r x v =
      ((({ s with pmc := v0, log := v1, hw := v2, sent := v3 } : State).doWrite x v q).originDone
        (s.entryOf r x v)).sample 11 0 0 := by
  obtain ⟨-, hg, hh, hw, ht, hr, -, -, hl, -⟩ := h
  obtain ⟨p, hp⟩ := s.counted_only r
  have hr' : (s.counted r).logRoom 2 = true := by rw [hp]; exact hr
  obtain ⟨a, b, c, hwr, -⟩ := (s.counted r).withRecord_only ((s.counted r).entryOf r x v) hr'
  refine ⟨p, a, b, c, a.seq, ?_⟩
  have he : (s.counted r).entryOf r x v = s.entryOf r x v := by rw [hp]; rfl
  unfold State.written
  simp only [he] at hwr ⊢
  rw [hwr, State.applyChange_reg rfl hl hx]
  simp only [hp]
  rfl

/-! ### What the end of a write touches -/

theorem State.wrDone_only (s : State) (n : Nat) (c : Bool) : ∃ v0, s.wrDone n c = { s with seqs := v0 } := by
  unfold State.wrDone
  split
  · exact ⟨_, rfl⟩
  · exact ⟨s.seqs, rfl⟩
@[simp] theorem State.wrDone_pending (s : State) (n : Nat) (c : Bool) : (s.wrDone n c).pending = s.pending := by
  obtain ⟨_, h⟩ := s.wrDone_only n c; rw [h]
@[simp] theorem State.wrDone_sent (s : State) (n : Nat) (c : Bool) : (s.wrDone n c).sent = s.sent := by
  obtain ⟨_, h⟩ := s.wrDone_only n c; rw [h]
@[simp] theorem State.wrDone_free (s : State) (n : Nat) (c : Bool) : (s.wrDone n c).free = s.free := by
  obtain ⟨_, h⟩ := s.wrDone_only n c; rw [h]
@[simp] theorem State.wrDone_wt (s : State) (n : Nat) (c : Bool) : (s.wrDone n c).wt = s.wt := by
  obtain ⟨_, h⟩ := s.wrDone_only n c; rw [h]
@[simp] theorem State.wrDone_fired (s : State) (n : Nat) (c : Bool) : (s.wrDone n c).fired = s.fired := by
  obtain ⟨_, h⟩ := s.wrDone_only n c; rw [h]
@[simp] theorem State.wrDone_regs (s : State) (n : Nat) (c : Bool) : (s.wrDone n c).regs = s.regs := by
  obtain ⟨_, h⟩ := s.wrDone_only n c; rw [h]
@[simp] theorem State.wrDone_force (s : State) (n : Nat) (c : Bool) : (s.wrDone n c).force = s.force := by
  obtain ⟨_, h⟩ := s.wrDone_only n c; rw [h]
@[simp] theorem State.wrDone_hw (s : State) (n : Nat) (c : Bool) : (s.wrDone n c).hw = s.hw := by
  obtain ⟨_, h⟩ := s.wrDone_only n c; rw [h]
@[simp] theorem State.wrDone_staged (s : State) (n : Nat) (c : Bool) : (s.wrDone n c).staged = s.staged := by
  obtain ⟨_, h⟩ := s.wrDone_only n c; rw [h]
@[simp] theorem State.wrDone_latches (s : State) (n : Nat) (c : Bool) : (s.wrDone n c).latches = s.latches := by
  obtain ⟨_, h⟩ := s.wrDone_only n c; rw [h]
@[simp] theorem State.wrDone_hostErr (s : State) (n : Nat) (c : Bool) : (s.wrDone n c).hostErr = s.hostErr := by
  obtain ⟨_, h⟩ := s.wrDone_only n c; rw [h]
@[simp] theorem State.wrDone_sbdErr (s : State) (n : Nat) (c : Bool) : (s.wrDone n c).sbdErr = s.sbdErr := by
  obtain ⟨_, h⟩ := s.wrDone_only n c; rw [h]
@[simp] theorem State.wrDone_warden (s : State) (n : Nat) (c : Bool) : (s.wrDone n c).warden = s.warden := by
  obtain ⟨_, h⟩ := s.wrDone_only n c; rw [h]
@[simp] theorem State.wrDone_log (s : State) (n : Nat) (c : Bool) : (s.wrDone n c).log = s.log := by
  obtain ⟨_, h⟩ := s.wrDone_only n c; rw [h]
@[simp] theorem State.wrDone_gau (s : State) (n : Nat) (c : Bool) : (s.wrDone n c).gau = s.gau := by
  obtain ⟨_, h⟩ := s.wrDone_only n c; rw [h]
@[simp] theorem State.wrDone_sel (s : State) (n : Nat) (c : Bool) : (s.wrDone n c).sel = s.sel := by
  obtain ⟨_, h⟩ := s.wrDone_only n c; rw [h]
@[simp] theorem State.wrDone_hld (s : State) (n : Nat) (c : Bool) : (s.wrDone n c).hld = s.hld := by
  obtain ⟨_, h⟩ := s.wrDone_only n c; rw [h]
@[simp] theorem State.wrDone_out (s : State) (n : Nat) (c : Bool) : (s.wrDone n c).out = s.out := by
  obtain ⟨_, h⟩ := s.wrDone_only n c; rw [h]
@[simp] theorem State.wrDone_clus (s : State) (n : Nat) (c : Bool) : (s.wrDone n c).clus = s.clus := by
  obtain ⟨_, h⟩ := s.wrDone_only n c; rw [h]
@[simp] theorem State.wrDone_flt (s : State) (n : Nat) (c : Bool) : (s.wrDone n c).flt = s.flt := by
  obtain ⟨_, h⟩ := s.wrDone_only n c; rw [h]
@[simp] theorem State.wrDone_rcd (s : State) (n : Nat) (c : Bool) : (s.wrDone n c).rcd = s.rcd := by
  obtain ⟨_, h⟩ := s.wrDone_only n c; rw [h]
@[simp] theorem State.wrDone_pmc (s : State) (n : Nat) (c : Bool) : (s.wrDone n c).pmc = s.pmc := by
  obtain ⟨_, h⟩ := s.wrDone_only n c; rw [h]
@[simp] theorem State.wrDone_links (s : State) (n : Nat) (c : Bool) : (s.wrDone n c).links = s.links := by
  obtain ⟨_, h⟩ := s.wrDone_only n c; rw [h]
@[simp] theorem State.wrDone_twin (s : State) (n : Nat) (c : Bool) : (s.wrDone n c).twin = s.twin := by
  obtain ⟨_, h⟩ := s.wrDone_only n c; rw [h]
@[simp] theorem State.wrDone_tdc (s : State) (n : Nat) (c : Bool) : (s.wrDone n c).tdc = s.tdc := by
  obtain ⟨_, h⟩ := s.wrDone_only n c; rw [h]
@[simp] theorem State.wrDone_gnb (s : State) (n : Nat) (c : Bool) : (s.wrDone n c).gnb = s.gnb := by
  obtain ⟨_, h⟩ := s.wrDone_only n c; rw [h]
@[simp] theorem State.wrDone_key (s : State) (n : Nat) (c : Bool) : (s.wrDone n c).key = s.key := by
  obtain ⟨_, h⟩ := s.wrDone_only n c; rw [h]
@[simp] theorem State.wrDone_fuses (s : State) (n : Nat) (c : Bool) : (s.wrDone n c).fuses = s.fuses := by
  obtain ⟨_, h⟩ := s.wrDone_only n c; rw [h]
@[simp] theorem State.wrDone_att (s : State) (n : Nat) (c : Bool) : (s.wrDone n c).att = s.att := by
  obtain ⟨_, h⟩ := s.wrDone_only n c; rw [h]
@[simp] theorem State.wrDone_eth (s : State) (n : Nat) (c : Bool) : (s.wrDone n c).eth = s.eth := by
  obtain ⟨_, h⟩ := s.wrDone_only n c; rw [h]
@[simp] theorem State.wrDone_tsv (s : State) (n : Nat) (c : Bool) : (s.wrDone n c).tsv = s.tsv := by
  obtain ⟨_, h⟩ := s.wrDone_only n c; rw [h]
@[simp] theorem State.wrDone_aud (s : State) (n : Nat) (c : Bool) : (s.wrDone n c).aud = s.aud := by
  obtain ⟨_, h⟩ := s.wrDone_only n c; rw [h]
@[simp] theorem State.wrDone_mix (s : State) (n : Nat) (c : Bool) : (s.wrDone n c).mix = s.mix := by
  obtain ⟨_, h⟩ := s.wrDone_only n c; rw [h]
@[simp] theorem State.wrDone_hst (s : State) (n : Nat) (c : Bool) : (s.wrDone n c).hst = s.hst := by
  obtain ⟨_, h⟩ := s.wrDone_only n c; rw [h]
@[simp] theorem State.wrDone_sbd (s : State) (n : Nat) (c : Bool) : (s.wrDone n c).sbd = s.sbd := by
  obtain ⟨_, h⟩ := s.wrDone_only n c; rw [h]
@[simp] theorem State.wrDone_mem (s : State) (n : Nat) (c : Bool) : (s.wrDone n c).mem = s.mem := by
  obtain ⟨_, h⟩ := s.wrDone_only n c; rw [h]
@[simp] theorem State.wrDone_cast_ (s : State) (n : Nat) (c : Bool) : (s.wrDone n c).cast_ = s.cast_ := by
  obtain ⟨_, h⟩ := s.wrDone_only n c; rw [h]
@[simp] theorem State.wrDone_dram (s : State) (n : Nat) (c : Bool) : (s.wrDone n c).dram = s.dram := by
  obtain ⟨_, h⟩ := s.wrDone_only n c; rw [h]
@[simp] theorem State.wrDone_coreOn (s : State) (n : Nat) (c : Bool) : (s.wrDone n c).coreOn = s.coreOn := by
  obtain ⟨_, h⟩ := s.wrDone_only n c; rw [h]
theorem State.sbdWordDone_only (s : State) : ∃ v0, s.sbdWordDone = { s with sbd := v0 } := by
  unfold State.sbdWordDone
  split
  · exact ⟨s.sbd, rfl⟩
  · split
    · exact ⟨_, rfl⟩
    · exact ⟨s.sbd, rfl⟩
@[simp] theorem State.sbdWordDone_pending (s : State) : s.sbdWordDone.pending = s.pending := by
  obtain ⟨_, h⟩ := s.sbdWordDone_only; rw [h]
@[simp] theorem State.sbdWordDone_sent (s : State) : s.sbdWordDone.sent = s.sent := by
  obtain ⟨_, h⟩ := s.sbdWordDone_only; rw [h]
@[simp] theorem State.sbdWordDone_free (s : State) : s.sbdWordDone.free = s.free := by
  obtain ⟨_, h⟩ := s.sbdWordDone_only; rw [h]
@[simp] theorem State.sbdWordDone_wt (s : State) : s.sbdWordDone.wt = s.wt := by
  obtain ⟨_, h⟩ := s.sbdWordDone_only; rw [h]
@[simp] theorem State.sbdWordDone_fired (s : State) : s.sbdWordDone.fired = s.fired := by
  obtain ⟨_, h⟩ := s.sbdWordDone_only; rw [h]
@[simp] theorem State.sbdWordDone_regs (s : State) : s.sbdWordDone.regs = s.regs := by
  obtain ⟨_, h⟩ := s.sbdWordDone_only; rw [h]
@[simp] theorem State.sbdWordDone_force (s : State) : s.sbdWordDone.force = s.force := by
  obtain ⟨_, h⟩ := s.sbdWordDone_only; rw [h]
@[simp] theorem State.sbdWordDone_hw (s : State) : s.sbdWordDone.hw = s.hw := by
  obtain ⟨_, h⟩ := s.sbdWordDone_only; rw [h]
@[simp] theorem State.sbdWordDone_staged (s : State) : s.sbdWordDone.staged = s.staged := by
  obtain ⟨_, h⟩ := s.sbdWordDone_only; rw [h]
@[simp] theorem State.sbdWordDone_latches (s : State) : s.sbdWordDone.latches = s.latches := by
  obtain ⟨_, h⟩ := s.sbdWordDone_only; rw [h]
@[simp] theorem State.sbdWordDone_hostErr (s : State) : s.sbdWordDone.hostErr = s.hostErr := by
  obtain ⟨_, h⟩ := s.sbdWordDone_only; rw [h]
@[simp] theorem State.sbdWordDone_sbdErr (s : State) : s.sbdWordDone.sbdErr = s.sbdErr := by
  obtain ⟨_, h⟩ := s.sbdWordDone_only; rw [h]
@[simp] theorem State.sbdWordDone_warden (s : State) : s.sbdWordDone.warden = s.warden := by
  obtain ⟨_, h⟩ := s.sbdWordDone_only; rw [h]
@[simp] theorem State.sbdWordDone_log (s : State) : s.sbdWordDone.log = s.log := by
  obtain ⟨_, h⟩ := s.sbdWordDone_only; rw [h]
@[simp] theorem State.sbdWordDone_gau (s : State) : s.sbdWordDone.gau = s.gau := by
  obtain ⟨_, h⟩ := s.sbdWordDone_only; rw [h]
@[simp] theorem State.sbdWordDone_sel (s : State) : s.sbdWordDone.sel = s.sel := by
  obtain ⟨_, h⟩ := s.sbdWordDone_only; rw [h]
@[simp] theorem State.sbdWordDone_hld (s : State) : s.sbdWordDone.hld = s.hld := by
  obtain ⟨_, h⟩ := s.sbdWordDone_only; rw [h]
@[simp] theorem State.sbdWordDone_out (s : State) : s.sbdWordDone.out = s.out := by
  obtain ⟨_, h⟩ := s.sbdWordDone_only; rw [h]
@[simp] theorem State.sbdWordDone_seqs (s : State) : s.sbdWordDone.seqs = s.seqs := by
  obtain ⟨_, h⟩ := s.sbdWordDone_only; rw [h]
@[simp] theorem State.sbdWordDone_clus (s : State) : s.sbdWordDone.clus = s.clus := by
  obtain ⟨_, h⟩ := s.sbdWordDone_only; rw [h]
@[simp] theorem State.sbdWordDone_flt (s : State) : s.sbdWordDone.flt = s.flt := by
  obtain ⟨_, h⟩ := s.sbdWordDone_only; rw [h]
@[simp] theorem State.sbdWordDone_rcd (s : State) : s.sbdWordDone.rcd = s.rcd := by
  obtain ⟨_, h⟩ := s.sbdWordDone_only; rw [h]
@[simp] theorem State.sbdWordDone_pmc (s : State) : s.sbdWordDone.pmc = s.pmc := by
  obtain ⟨_, h⟩ := s.sbdWordDone_only; rw [h]
@[simp] theorem State.sbdWordDone_links (s : State) : s.sbdWordDone.links = s.links := by
  obtain ⟨_, h⟩ := s.sbdWordDone_only; rw [h]
@[simp] theorem State.sbdWordDone_twin (s : State) : s.sbdWordDone.twin = s.twin := by
  obtain ⟨_, h⟩ := s.sbdWordDone_only; rw [h]
@[simp] theorem State.sbdWordDone_tdc (s : State) : s.sbdWordDone.tdc = s.tdc := by
  obtain ⟨_, h⟩ := s.sbdWordDone_only; rw [h]
@[simp] theorem State.sbdWordDone_gnb (s : State) : s.sbdWordDone.gnb = s.gnb := by
  obtain ⟨_, h⟩ := s.sbdWordDone_only; rw [h]
@[simp] theorem State.sbdWordDone_key (s : State) : s.sbdWordDone.key = s.key := by
  obtain ⟨_, h⟩ := s.sbdWordDone_only; rw [h]
@[simp] theorem State.sbdWordDone_fuses (s : State) : s.sbdWordDone.fuses = s.fuses := by
  obtain ⟨_, h⟩ := s.sbdWordDone_only; rw [h]
@[simp] theorem State.sbdWordDone_att (s : State) : s.sbdWordDone.att = s.att := by
  obtain ⟨_, h⟩ := s.sbdWordDone_only; rw [h]
@[simp] theorem State.sbdWordDone_eth (s : State) : s.sbdWordDone.eth = s.eth := by
  obtain ⟨_, h⟩ := s.sbdWordDone_only; rw [h]
@[simp] theorem State.sbdWordDone_tsv (s : State) : s.sbdWordDone.tsv = s.tsv := by
  obtain ⟨_, h⟩ := s.sbdWordDone_only; rw [h]
@[simp] theorem State.sbdWordDone_aud (s : State) : s.sbdWordDone.aud = s.aud := by
  obtain ⟨_, h⟩ := s.sbdWordDone_only; rw [h]
@[simp] theorem State.sbdWordDone_mix (s : State) : s.sbdWordDone.mix = s.mix := by
  obtain ⟨_, h⟩ := s.sbdWordDone_only; rw [h]
@[simp] theorem State.sbdWordDone_hst (s : State) : s.sbdWordDone.hst = s.hst := by
  obtain ⟨_, h⟩ := s.sbdWordDone_only; rw [h]
@[simp] theorem State.sbdWordDone_mem (s : State) : s.sbdWordDone.mem = s.mem := by
  obtain ⟨_, h⟩ := s.sbdWordDone_only; rw [h]
@[simp] theorem State.sbdWordDone_cast_ (s : State) : s.sbdWordDone.cast_ = s.cast_ := by
  obtain ⟨_, h⟩ := s.sbdWordDone_only; rw [h]
@[simp] theorem State.sbdWordDone_dram (s : State) : s.sbdWordDone.dram = s.dram := by
  obtain ⟨_, h⟩ := s.sbdWordDone_only; rw [h]
@[simp] theorem State.sbdWordDone_coreOn (s : State) : s.sbdWordDone.coreOn = s.coreOn := by
  obtain ⟨_, h⟩ := s.sbdWordDone_only; rw [h]
theorem State.originDone_only (s : State) (e : GateEntry) : ∃ v0 v1, s.originDone e = { s with seqs := v0, sbd := v1 } := by
  unfold State.originDone
  split
  · obtain ⟨a, ha⟩ := s.wrDone_only _ true
    exact ⟨a, s.sbd, ha⟩
  · obtain ⟨a, ha⟩ := s.sbdWordDone_only
    exact ⟨s.seqs, a, ha⟩
  · obtain ⟨a, ha⟩ := s.sbdWordDone_only
    exact ⟨s.seqs, a, ha⟩
  · exact ⟨s.seqs, s.sbd, rfl⟩
@[simp] theorem State.originDone_pending (s : State) (e : GateEntry) : (s.originDone e).pending = s.pending := by
  obtain ⟨_, _, h⟩ := s.originDone_only e; rw [h]
@[simp] theorem State.originDone_sent (s : State) (e : GateEntry) : (s.originDone e).sent = s.sent := by
  obtain ⟨_, _, h⟩ := s.originDone_only e; rw [h]
@[simp] theorem State.originDone_free (s : State) (e : GateEntry) : (s.originDone e).free = s.free := by
  obtain ⟨_, _, h⟩ := s.originDone_only e; rw [h]
@[simp] theorem State.originDone_wt (s : State) (e : GateEntry) : (s.originDone e).wt = s.wt := by
  obtain ⟨_, _, h⟩ := s.originDone_only e; rw [h]
@[simp] theorem State.originDone_fired (s : State) (e : GateEntry) : (s.originDone e).fired = s.fired := by
  obtain ⟨_, _, h⟩ := s.originDone_only e; rw [h]
@[simp] theorem State.originDone_regs (s : State) (e : GateEntry) : (s.originDone e).regs = s.regs := by
  obtain ⟨_, _, h⟩ := s.originDone_only e; rw [h]
@[simp] theorem State.originDone_force (s : State) (e : GateEntry) : (s.originDone e).force = s.force := by
  obtain ⟨_, _, h⟩ := s.originDone_only e; rw [h]
@[simp] theorem State.originDone_hw (s : State) (e : GateEntry) : (s.originDone e).hw = s.hw := by
  obtain ⟨_, _, h⟩ := s.originDone_only e; rw [h]
@[simp] theorem State.originDone_staged (s : State) (e : GateEntry) : (s.originDone e).staged = s.staged := by
  obtain ⟨_, _, h⟩ := s.originDone_only e; rw [h]
@[simp] theorem State.originDone_latches (s : State) (e : GateEntry) : (s.originDone e).latches = s.latches := by
  obtain ⟨_, _, h⟩ := s.originDone_only e; rw [h]
@[simp] theorem State.originDone_hostErr (s : State) (e : GateEntry) : (s.originDone e).hostErr = s.hostErr := by
  obtain ⟨_, _, h⟩ := s.originDone_only e; rw [h]
@[simp] theorem State.originDone_sbdErr (s : State) (e : GateEntry) : (s.originDone e).sbdErr = s.sbdErr := by
  obtain ⟨_, _, h⟩ := s.originDone_only e; rw [h]
@[simp] theorem State.originDone_warden (s : State) (e : GateEntry) : (s.originDone e).warden = s.warden := by
  obtain ⟨_, _, h⟩ := s.originDone_only e; rw [h]
@[simp] theorem State.originDone_log (s : State) (e : GateEntry) : (s.originDone e).log = s.log := by
  obtain ⟨_, _, h⟩ := s.originDone_only e; rw [h]
@[simp] theorem State.originDone_gau (s : State) (e : GateEntry) : (s.originDone e).gau = s.gau := by
  obtain ⟨_, _, h⟩ := s.originDone_only e; rw [h]
@[simp] theorem State.originDone_sel (s : State) (e : GateEntry) : (s.originDone e).sel = s.sel := by
  obtain ⟨_, _, h⟩ := s.originDone_only e; rw [h]
@[simp] theorem State.originDone_hld (s : State) (e : GateEntry) : (s.originDone e).hld = s.hld := by
  obtain ⟨_, _, h⟩ := s.originDone_only e; rw [h]
@[simp] theorem State.originDone_out (s : State) (e : GateEntry) : (s.originDone e).out = s.out := by
  obtain ⟨_, _, h⟩ := s.originDone_only e; rw [h]
@[simp] theorem State.originDone_clus (s : State) (e : GateEntry) : (s.originDone e).clus = s.clus := by
  obtain ⟨_, _, h⟩ := s.originDone_only e; rw [h]
@[simp] theorem State.originDone_flt (s : State) (e : GateEntry) : (s.originDone e).flt = s.flt := by
  obtain ⟨_, _, h⟩ := s.originDone_only e; rw [h]
@[simp] theorem State.originDone_rcd (s : State) (e : GateEntry) : (s.originDone e).rcd = s.rcd := by
  obtain ⟨_, _, h⟩ := s.originDone_only e; rw [h]
@[simp] theorem State.originDone_pmc (s : State) (e : GateEntry) : (s.originDone e).pmc = s.pmc := by
  obtain ⟨_, _, h⟩ := s.originDone_only e; rw [h]
@[simp] theorem State.originDone_links (s : State) (e : GateEntry) : (s.originDone e).links = s.links := by
  obtain ⟨_, _, h⟩ := s.originDone_only e; rw [h]
@[simp] theorem State.originDone_twin (s : State) (e : GateEntry) : (s.originDone e).twin = s.twin := by
  obtain ⟨_, _, h⟩ := s.originDone_only e; rw [h]
@[simp] theorem State.originDone_tdc (s : State) (e : GateEntry) : (s.originDone e).tdc = s.tdc := by
  obtain ⟨_, _, h⟩ := s.originDone_only e; rw [h]
@[simp] theorem State.originDone_gnb (s : State) (e : GateEntry) : (s.originDone e).gnb = s.gnb := by
  obtain ⟨_, _, h⟩ := s.originDone_only e; rw [h]
@[simp] theorem State.originDone_key (s : State) (e : GateEntry) : (s.originDone e).key = s.key := by
  obtain ⟨_, _, h⟩ := s.originDone_only e; rw [h]
@[simp] theorem State.originDone_fuses (s : State) (e : GateEntry) : (s.originDone e).fuses = s.fuses := by
  obtain ⟨_, _, h⟩ := s.originDone_only e; rw [h]
@[simp] theorem State.originDone_att (s : State) (e : GateEntry) : (s.originDone e).att = s.att := by
  obtain ⟨_, _, h⟩ := s.originDone_only e; rw [h]
@[simp] theorem State.originDone_eth (s : State) (e : GateEntry) : (s.originDone e).eth = s.eth := by
  obtain ⟨_, _, h⟩ := s.originDone_only e; rw [h]
@[simp] theorem State.originDone_tsv (s : State) (e : GateEntry) : (s.originDone e).tsv = s.tsv := by
  obtain ⟨_, _, h⟩ := s.originDone_only e; rw [h]
@[simp] theorem State.originDone_aud (s : State) (e : GateEntry) : (s.originDone e).aud = s.aud := by
  obtain ⟨_, _, h⟩ := s.originDone_only e; rw [h]
@[simp] theorem State.originDone_mix (s : State) (e : GateEntry) : (s.originDone e).mix = s.mix := by
  obtain ⟨_, _, h⟩ := s.originDone_only e; rw [h]
@[simp] theorem State.originDone_hst (s : State) (e : GateEntry) : (s.originDone e).hst = s.hst := by
  obtain ⟨_, _, h⟩ := s.originDone_only e; rw [h]
@[simp] theorem State.originDone_mem (s : State) (e : GateEntry) : (s.originDone e).mem = s.mem := by
  obtain ⟨_, _, h⟩ := s.originDone_only e; rw [h]
@[simp] theorem State.originDone_cast_ (s : State) (e : GateEntry) : (s.originDone e).cast_ = s.cast_ := by
  obtain ⟨_, _, h⟩ := s.originDone_only e; rw [h]
@[simp] theorem State.originDone_dram (s : State) (e : GateEntry) : (s.originDone e).dram = s.dram := by
  obtain ⟨_, _, h⟩ := s.originDone_only e; rw [h]
@[simp] theorem State.originDone_coreOn (s : State) (e : GateEntry) : (s.originDone e).coreOn = s.coreOn := by
  obtain ⟨_, _, h⟩ := s.originDone_only e; rw [h]
/-- A command whose write ends leaves every sequencer but its own, and of that one all but C, the stall and where it goes on. -/
theorem State.originDone_sq (s : State) (e : GateEntry) (n : Nat) :
    (s.originDone e).sq n = s.sq n ∨
      e.org = .seq n ∧ (s.originDone e).sq n = ({ s.sq n with c := true, stall := false } : Seq).retire 1 := by
  unfold State.originDone
  split
  · rename_i m _ h
    unfold State.wrDone
    split
    · by_cases hm : n = m
      · subst hm; right; exact ⟨h, by simp [State.sq, State.setSq]⟩
      · left; simp [State.sq, State.setSq, Tab.get_set_ne _ _ _ hm]
    · exact .inl rfl
  · left; simp [State.sq]
  · left; simp [State.sq]
  · exact .inl rfl

end Sys2Proof.Machine
end

