-- ==== Sys2Proof/Laws/Hook.lean ====
section
/-! SUPPORT. The write of a register that commands write: what its fields leave alone, and the chapter its effect is in. -/

namespace Sys2Proof.Machine

/-! ### The fields -/

theorem State.putReg_only (s : State) (x : RegAt) (v : Nat) :
    ∃ a b c, (s.putReg x v).clear1 x v = { s with regs := a, force := b, hw := c } := by
  unfold State.clear1
  split
  · exact ⟨_, _, _, rfl⟩
  · exact ⟨_, _, s.hw, rfl⟩

theorem State.putReg_force (s : State) (x : RegAt) (v : Nat) :
    ((s.putReg x v).clear1 x v).force = if landsLater x.reg then s.force else s.force.set x.first
      (putFields (fun f => f.acc == .rw && !f.isE) x.fs (s.forceAt x) (if x.reg = .KEY_TAMPER then v ||| s.forceAt x else v)) := by
  unfold State.clear1
  split <;> rfl

theorem State.putReg_regs (s : State) (x : RegAt) (v : Nat) :
    ((s.putReg x v).clear1 x v).regs = s.regs.set x.first
      (putFields (fun f => f.acc == .rw) x.fs (s.lastAt x) (if x.reg = .KEY_TAMPER then v ||| s.forceAt x else v)) := by
  unfold State.clear1
  split <;> rfl

theorem State.putReg_inForce_ne {s : State} {x : RegAt} {v : Nat} {r : RegName} {i j l : Nat} (h : r.addr i j l ≠ x.first) :
    ((s.putReg x v).clear1 x v).inForce r i j l = s.inForce r i j l := by
  rw [State.inForce, State.putReg_force]
  split
  · rfl
  · exact Tab.get_set_ne _ _ _ h

theorem State.putReg_lastOf_ne {s : State} {x : RegAt} {v : Nat} {r : RegName} {i j l : Nat} (h : r.addr i j l ≠ x.first) :
    ((s.putReg x v).clear1 x v).lastOf r i j l = s.lastOf r i j l := by
  rw [State.lastOf, State.putReg_regs]
  exact Tab.get_set_ne _ _ _ h

/-- The last written value after the write of a register. -/
theorem State.putReg_lastAt (s : State) (x : RegAt) (v : Nat) (h : x.reg ≠ .KEY_TAMPER) :
    ((s.putReg x v).clear1 x v).lastAt x = putFields (fun f => f.acc == .rw) x.fs (s.lastAt x) v := by
  rw [State.lastAt, State.putReg_regs, Tab.get_set_same, if_neg h]

theorem findRange_skip {a g lo hi : Nat} {l : List (Nat × Nat)} (h : a < lo ∨ hi < a) :
    findRange a g ((lo, hi) :: l) = findRange a (g + 1) l := by
  rw [findRange, if_neg (by omega)]

theorem findRange_hit {a g lo hi : Nat} {l : List (Nat × Nat)} (h : lo ≤ a ∧ a ≤ hi) :
    findRange a g ((lo, hi) :: l) = some g := by
  rw [findRange, if_pos h]

/-! ### The effect of the write, by register -/

theorem GAU_SLEW_AMT_write (s : State) (w v q : Nat) : s.doWrite ⟨.GAU_SLEW_AMT, 0, 0, 0, w⟩ v q =
    ((s.putReg ⟨.GAU_SLEW_AMT, 0, 0, 0, w⟩ v).clear1 ⟨.GAU_SLEW_AMT, 0, 0, 0, w⟩ v).hookTime (⟨.GAU_SLEW_AMT, 0, 0, 0, w⟩ : RegAt) v := by
  have hg : groupOf (RegName.GAU_SLEW_AMT.addr 0 0 0) = some 1 := by decide
  simp only [State.doWrite, State.hook, RegAt.first, hg]

theorem GAU_STEP_AT_write (s : State) (w v q : Nat) : s.doWrite ⟨.GAU_STEP_AT, 0, 0, 0, w⟩ v q =
    ((s.putReg ⟨.GAU_STEP_AT, 0, 0, 0, w⟩ v).clear1 ⟨.GAU_STEP_AT, 0, 0, 0, w⟩ v).hookTime (⟨.GAU_STEP_AT, 0, 0, 0, w⟩ : RegAt) v := by
  have hg : groupOf (RegName.GAU_STEP_AT.addr 0 0 0) = some 1 := by decide
  simp only [State.doWrite, State.hook, RegAt.first, hg]

theorem GAU_STEP_CTL_write (s : State) (w v q : Nat) : s.doWrite ⟨.GAU_STEP_CTL, 0, 0, 0, w⟩ v q =
    ((s.putReg ⟨.GAU_STEP_CTL, 0, 0, 0, w⟩ v).clear1 ⟨.GAU_STEP_CTL, 0, 0, 0, w⟩ v).hookTime (⟨.GAU_STEP_CTL, 0, 0, 0, w⟩ : RegAt) v := by
  have hg : groupOf (RegName.GAU_STEP_CTL.addr 0 0 0) = some 1 := by decide
  simp only [State.doWrite, State.hook, RegAt.first, hg]

theorem GAU_STEP_ACK_write (s : State) (w v q : Nat) : s.doWrite ⟨.GAU_STEP_ACK, 0, 0, 0, w⟩ v q =
    ((s.putReg ⟨.GAU_STEP_ACK, 0, 0, 0, w⟩ v).clear1 ⟨.GAU_STEP_ACK, 0, 0, 0, w⟩ v).hookTime (⟨.GAU_STEP_ACK, 0, 0, 0, w⟩ : RegAt) v := by
  have hg : groupOf (RegName.GAU_STEP_ACK.addr 0 0 0) = some 1 := by decide
  simp only [State.doWrite, State.hook, RegAt.first, hg]

theorem SEL_CFG_write (s : State) (i : Fin 31) (w v q : Nat) : s.doWrite ⟨.SEL_CFG, i, 0, 0, w⟩ v q =
    ((s.putReg ⟨.SEL_CFG, i, 0, 0, w⟩ v).clear1 ⟨.SEL_CFG, i, 0, 0, w⟩ v).hookSel s (⟨.SEL_CFG, i, 0, 0, w⟩ : RegAt) v := by
  have hg : groupOf (RegName.SEL_CFG.addr i 0 0) = some 2 := by
    have e : RegName.SEL_CFG.addr i 0 0 = 1576960 + i * 64 := by simp [RegName.addr, show RegName.SEL_CFG.geo = ⟨_, _, _, _⟩ from rfl]
    rw [e, groupOf, groupRange]
    iterate 2 rw [findRange_skip (by omega)]
    exact findRange_hit (by omega)
  simp only [State.doWrite, State.hook, RegAt.first, hg]

theorem SEL_HOSTSET_write (s : State) (w v q : Nat) : s.doWrite ⟨.SEL_HOSTSET, 0, 0, 0, w⟩ v q =
    ((s.putReg ⟨.SEL_HOSTSET, 0, 0, 0, w⟩ v).clear1 ⟨.SEL_HOSTSET, 0, 0, 0, w⟩ v).hookSel s (⟨.SEL_HOSTSET, 0, 0, 0, w⟩ : RegAt) v := by
  have hg : groupOf (RegName.SEL_HOSTSET.addr 0 0 0) = some 2 := by decide
  simp only [State.doWrite, State.hook, RegAt.first, hg]

theorem OUT_GRPC_write (s : State) (w v q : Nat) : s.doWrite ⟨.OUT_GRPC, 0, 0, 0, w⟩ v q =
    ((s.putReg ⟨.OUT_GRPC, 0, 0, 0, w⟩ v).clear1 ⟨.OUT_GRPC, 0, 0, 0, w⟩ v).hookOut s (⟨.OUT_GRPC, 0, 0, 0, w⟩ : RegAt) v := by
  have hg : groupOf (RegName.OUT_GRPC.addr 0 0 0) = some 4 := by decide
  simp only [State.doWrite, State.hook, RegAt.first, hg]

theorem OUT_CFG_write (s : State) (i : Fin 20) (w v q : Nat) : s.doWrite ⟨.OUT_CFG, i, 0, 0, w⟩ v q =
    ((s.putReg ⟨.OUT_CFG, i, 0, 0, w⟩ v).clear1 ⟨.OUT_CFG, i, 0, 0, w⟩ v).hookOut s (⟨.OUT_CFG, i, 0, 0, w⟩ : RegAt) v := by
  have hg : groupOf (RegName.OUT_CFG.addr i 0 0) = some 4 := by
    have e : RegName.OUT_CFG.addr i 0 0 = 2625536 + i * 32 := by simp [RegName.addr, show RegName.OUT_CFG.geo = ⟨_, _, _, _⟩ from rfl]
    rw [e, groupOf, groupRange]
    iterate 4 rw [findRange_skip (by omega)]
    exact findRange_hit (by omega)
  simp only [State.doWrite, State.hook, RegAt.first, hg]

theorem OUT_SKIP_write (s : State) (i : Fin 20) (w v q : Nat) : s.doWrite ⟨.OUT_SKIP, i, 0, 0, w⟩ v q =
    ((s.putReg ⟨.OUT_SKIP, i, 0, 0, w⟩ v).clear1 ⟨.OUT_SKIP, i, 0, 0, w⟩ v).hookOut s (⟨.OUT_SKIP, i, 0, 0, w⟩ : RegAt) v := by
  have hg : groupOf (RegName.OUT_SKIP.addr i 0 0) = some 4 := by
    have e : RegName.OUT_SKIP.addr i 0 0 = 2625564 + i * 32 := by simp [RegName.addr, show RegName.OUT_SKIP.geo = ⟨_, _, _, _⟩ from rfl]
    rw [e, groupOf, groupRange]
    iterate 4 rw [findRange_skip (by omega)]
    exact findRange_hit (by omega)
  simp only [State.doWrite, State.hook, RegAt.first, hg]

theorem GNS_SPI_TX_write (s : State) (w v q : Nat) : s.doWrite ⟨.GNS_SPI_TX, 0, 0, 0, w⟩ v q =
    ((s.putReg ⟨.GNS_SPI_TX, 0, 0, 0, w⟩ v).clear1 ⟨.GNS_SPI_TX, 0, 0, 0, w⟩ v).hookMeas s (⟨.GNS_SPI_TX, 0, 0, 0, w⟩ : RegAt) v := by
  have hg : groupOf (RegName.GNS_SPI_TX.addr 0 0 0) = some 6 := by decide
  simp only [State.doWrite, State.hook, RegAt.first, hg]

theorem CH_CFG_write (s : State) (i : Fin 192) (w v q : Nat) : s.doWrite ⟨.CH_CFG, i, 0, 0, w⟩ v q =
    ((s.putReg ⟨.CH_CFG, i, 0, 0, w⟩ v).clear1 ⟨.CH_CFG, i, 0, 0, w⟩ v).hookMeas s (⟨.CH_CFG, i, 0, 0, w⟩ : RegAt) v := by
  have hg : groupOf (RegName.CH_CFG.addr i 0 0) = some 6 := by
    have e : RegName.CH_CFG.addr i 0 0 = 4259840 + i * 128 := by simp [RegName.addr, show RegName.CH_CFG.geo = ⟨_, _, _, _⟩ from rfl]
    rw [e, groupOf, groupRange]
    iterate 6 rw [findRange_skip (by omega)]
    exact findRange_hit (by omega)
  simp only [State.doWrite, State.hook, RegAt.first, hg]

theorem ACQ_CFG_write (s : State) (i : Fin 16) (w v q : Nat) : s.doWrite ⟨.ACQ_CFG, i, 0, 0, w⟩ v q =
    ((s.putReg ⟨.ACQ_CFG, i, 0, 0, w⟩ v).clear1 ⟨.ACQ_CFG, i, 0, 0, w⟩ v).hookMeas s (⟨.ACQ_CFG, i, 0, 0, w⟩ : RegAt) v := by
  have hg : groupOf (RegName.ACQ_CFG.addr i 0 0) = some 6 := by
    have e : RegName.ACQ_CFG.addr i 0 0 = 4202752 + i * 64 := by simp [RegName.addr, show RegName.ACQ_CFG.geo = ⟨_, _, _, _⟩ from rfl]
    rw [e, groupOf, groupRange]
    iterate 6 rw [findRange_skip (by omega)]
    exact findRange_hit (by omega)
  simp only [State.doWrite, State.hook, RegAt.first, hg]

theorem SW_CTL_write (s : State) (w v q : Nat) : s.doWrite ⟨.SW_CTL, 0, 0, 0, w⟩ v q =
    ((s.putReg ⟨.SW_CTL, 0, 0, 0, w⟩ v).clear1 ⟨.SW_CTL, 0, 0, 0, w⟩ v).hookMeas s (⟨.SW_CTL, 0, 0, 0, w⟩ : RegAt) v := by
  have hg : groupOf (RegName.SW_CTL.addr 0 0 0) = some 6 := by decide
  simp only [State.doWrite, State.hook, RegAt.first, hg]

theorem SEQ_CTL_write (s : State) (i : Fin 160) (w v q : Nat) : s.doWrite ⟨.SEQ_CTL, i, 0, 0, w⟩ v q =
    ((s.putReg ⟨.SEQ_CTL, i, 0, 0, w⟩ v).clear1 ⟨.SEQ_CTL, i, 0, 0, w⟩ v).hookSeq (⟨.SEQ_CTL, i, 0, 0, w⟩ : RegAt) v := by
  have hg : groupOf (RegName.SEQ_CTL.addr i 0 0) = some 7 := by
    have e : RegName.SEQ_CTL.addr i 0 0 = 8388608 + i * 16384 := by simp [RegName.addr, show RegName.SEQ_CTL.geo = ⟨_, _, _, _⟩ from rfl]
    rw [e, groupOf, groupRange]
    iterate 7 rw [findRange_skip (by omega)]
    exact findRange_hit (by omega)
  simp only [State.doWrite, State.hook, RegAt.first, hg]

theorem CLU_LOAD_CTL_write (s : State) (i : Fin 10) (w v q : Nat) : s.doWrite ⟨.CLU_LOAD_CTL, i, 0, 0, w⟩ v q =
    ((s.putReg ⟨.CLU_LOAD_CTL, i, 0, 0, w⟩ v).clear1 ⟨.CLU_LOAD_CTL, i, 0, 0, w⟩ v).hookSeq (⟨.CLU_LOAD_CTL, i, 0, 0, w⟩ : RegAt) v := by
  have hg : groupOf (RegName.CLU_LOAD_CTL.addr i 0 0) = some 7 := by
    have e : RegName.CLU_LOAD_CTL.addr i 0 0 = 11010056 + i * 4096 := by simp [RegName.addr, show RegName.CLU_LOAD_CTL.geo = ⟨_, _, _, _⟩ from rfl]
    rw [e, groupOf, groupRange]
    iterate 7 rw [findRange_skip (by omega)]
    exact findRange_hit (by omega)
  simp only [State.doWrite, State.hook, RegAt.first, hg]

theorem ETH_ROW_CTL_write (s : State) (i : Fin 8) (w v q : Nat) : s.doWrite ⟨.ETH_ROW_CTL, i, 0, 0, w⟩ v q =
    ((s.putReg ⟨.ETH_ROW_CTL, i, 0, 0, w⟩ v).clear1 ⟨.ETH_ROW_CTL, i, 0, 0, w⟩ v).hookNet s (⟨.ETH_ROW_CTL, i, 0, 0, w⟩ : RegAt) v := by
  have hg : groupOf (RegName.ETH_ROW_CTL.addr i 0 0) = some 8 := by
    have e : RegName.ETH_ROW_CTL.addr i 0 0 = 12582960 + i * 65536 := by simp [RegName.addr, show RegName.ETH_ROW_CTL.geo = ⟨_, _, _, _⟩ from rfl]
    rw [e, groupOf, groupRange]
    iterate 8 rw [findRange_skip (by omega)]
    exact findRange_hit (by omega)
  simp only [State.doWrite, State.hook, RegAt.first, hg]

theorem ROWA_OFS_write (s : State) (i : Fin 8) (j : Fin 256) (w v q : Nat) : s.doWrite ⟨.ROWA_OFS, i, j, 0, w⟩ v q =
    ((s.putReg ⟨.ROWA_OFS, i, j, 0, w⟩ v).clear1 ⟨.ROWA_OFS, i, j, 0, w⟩ v).hookNet s (⟨.ROWA_OFS, i, j, 0, w⟩ : RegAt) v := by
  have hg : groupOf (RegName.ROWA_OFS.addr i j 0) = some 8 := by
    have e : RegName.ROWA_OFS.addr i j 0 = 12603648 + i * 65536 + j * 8 := by simp [RegName.addr, show RegName.ROWA_OFS.geo = ⟨_, _, _, _⟩ from rfl]
    rw [e, groupOf, groupRange]
    iterate 8 rw [findRange_skip (by omega)]
    exact findRange_hit (by omega)
  simp only [State.doWrite, State.hook, RegAt.first, hg]

theorem ROWA_GATE_write (s : State) (i : Fin 8) (j : Fin 256) (w v q : Nat) : s.doWrite ⟨.ROWA_GATE, i, j, 0, w⟩ v q =
    ((s.putReg ⟨.ROWA_GATE, i, j, 0, w⟩ v).clear1 ⟨.ROWA_GATE, i, j, 0, w⟩ v).hookNet s (⟨.ROWA_GATE, i, j, 0, w⟩ : RegAt) v := by
  have hg : groupOf (RegName.ROWA_GATE.addr i j 0) = some 8 := by
    have e : RegName.ROWA_GATE.addr i j 0 = 12603652 + i * 65536 + j * 8 := by simp [RegName.addr, show RegName.ROWA_GATE.geo = ⟨_, _, _, _⟩ from rfl]
    rw [e, groupOf, groupRange]
    iterate 8 rw [findRange_skip (by omega)]
    exact findRange_hit (by omega)
  simp only [State.doWrite, State.hook, RegAt.first, hg]

theorem TSV_NTS_ROT_AT_write (s : State) (w v q : Nat) : s.doWrite ⟨.TSV_NTS_ROT_AT, 0, 0, 0, w⟩ v q =
    ((s.putReg ⟨.TSV_NTS_ROT_AT, 0, 0, 0, w⟩ v).clear1 ⟨.TSV_NTS_ROT_AT, 0, 0, 0, w⟩ v).hookNet s (⟨.TSV_NTS_ROT_AT, 0, 0, 0, w⟩ : RegAt) v := by
  have hg : groupOf (RegName.TSV_NTS_ROT_AT.addr 0 0 0) = some 9 := by decide
  simp only [State.doWrite, State.hook, RegAt.first, hg]

theorem TSV_NTS_KEY_write (s : State) (w v q : Nat) : s.doWrite ⟨.TSV_NTS_KEY, 0, 0, 0, w⟩ v q =
    ((s.putReg ⟨.TSV_NTS_KEY, 0, 0, 0, w⟩ v).clear1 ⟨.TSV_NTS_KEY, 0, 0, 0, w⟩ v).hookNet s (⟨.TSV_NTS_KEY, 0, 0, 0, w⟩ : RegAt) v := by
  have hg : groupOf (RegName.TSV_NTS_KEY.addr 0 0 0) = some 9 := by decide
  simp only [State.doWrite, State.hook, RegAt.first, hg]

theorem AUD_CTL_write (s : State) (w v q : Nat) : s.doWrite ⟨.AUD_CTL, 0, 0, 0, w⟩ v q =
    ((s.putReg ⟨.AUD_CTL, 0, 0, 0, w⟩ v).clear1 ⟨.AUD_CTL, 0, 0, 0, w⟩ v).hookAud s (⟨.AUD_CTL, 0, 0, 0, w⟩ : RegAt) v := by
  have hg : groupOf (RegName.AUD_CTL.addr 0 0 0) = some 10 := by decide
  simp only [State.doWrite, State.hook, RegAt.first, hg]

theorem RXS_CFG_write (s : State) (i : Fin 512) (w v q : Nat) : s.doWrite ⟨.RXS_CFG, i, 0, 0, w⟩ v q =
    ((s.putReg ⟨.RXS_CFG, i, 0, 0, w⟩ v).clear1 ⟨.RXS_CFG, i, 0, 0, w⟩ v).hookAud s (⟨.RXS_CFG, i, 0, 0, w⟩ : RegAt) v := by
  have hg : groupOf (RegName.RXS_CFG.addr i 0 0) = some 10 := by
    have e : RegName.RXS_CFG.addr i 0 0 = 14745600 + i * 64 := by simp [RegName.addr, show RegName.RXS_CFG.geo = ⟨_, _, _, _⟩ from rfl]
    rw [e, groupOf, groupRange]
    iterate 10 rw [findRange_skip (by omega)]
    exact findRange_hit (by omega)
  simp only [State.doWrite, State.hook, RegAt.first, hg]

theorem TXS_CFG_write (s : State) (i : Fin 512) (w v q : Nat) : s.doWrite ⟨.TXS_CFG, i, 0, 0, w⟩ v q =
    ((s.putReg ⟨.TXS_CFG, i, 0, 0, w⟩ v).clear1 ⟨.TXS_CFG, i, 0, 0, w⟩ v).hookAud s (⟨.TXS_CFG, i, 0, 0, w⟩ : RegAt) v := by
  have hg : groupOf (RegName.TXS_CFG.addr i 0 0) = some 10 := by
    have e : RegName.TXS_CFG.addr i 0 0 = 14811136 + i * 64 := by simp [RegName.addr, show RegName.TXS_CFG.geo = ⟨_, _, _, _⟩ from rfl]
    rw [e, groupOf, groupRange]
    iterate 10 rw [findRange_skip (by omega)]
    exact findRange_hit (by omega)
  simp only [State.doWrite, State.hook, RegAt.first, hg]

theorem AESI_CFG_write (s : State) (i : Fin 16) (w v q : Nat) : s.doWrite ⟨.AESI_CFG, i, 0, 0, w⟩ v q =
    ((s.putReg ⟨.AESI_CFG, i, 0, 0, w⟩ v).clear1 ⟨.AESI_CFG, i, 0, 0, w⟩ v).hookAud s (⟨.AESI_CFG, i, 0, 0, w⟩ : RegAt) v := by
  have hg : groupOf (RegName.AESI_CFG.addr i 0 0) = some 10 := by
    have e : RegName.AESI_CFG.addr i 0 0 = 14876672 + i * 256 := by simp [RegName.addr, show RegName.AESI_CFG.geo = ⟨_, _, _, _⟩ from rfl]
    rw [e, groupOf, groupRange]
    iterate 10 rw [findRange_skip (by omega)]
    exact findRange_hit (by omega)
  simp only [State.doWrite, State.hook, RegAt.first, hg]

theorem AESO_CFG_write (s : State) (i : Fin 16) (w v q : Nat) : s.doWrite ⟨.AESO_CFG, i, 0, 0, w⟩ v q =
    ((s.putReg ⟨.AESO_CFG, i, 0, 0, w⟩ v).clear1 ⟨.AESO_CFG, i, 0, 0, w⟩ v).hookAud s (⟨.AESO_CFG, i, 0, 0, w⟩ : RegAt) v := by
  have hg : groupOf (RegName.AESO_CFG.addr i 0 0) = some 10 := by
    have e : RegName.AESO_CFG.addr i 0 0 = 14942208 + i * 256 := by simp [RegName.addr, show RegName.AESO_CFG.geo = ⟨_, _, _, _⟩ from rfl]
    rw [e, groupOf, groupRange]
    iterate 10 rw [findRange_skip (by omega)]
    exact findRange_hit (by omega)
  simp only [State.doWrite, State.hook, RegAt.first, hg]

theorem AUD_TRIG_AT_write (s : State) (w v q : Nat) : s.doWrite ⟨.AUD_TRIG_AT, 0, 0, 0, w⟩ v q =
    ((s.putReg ⟨.AUD_TRIG_AT, 0, 0, 0, w⟩ v).clear1 ⟨.AUD_TRIG_AT, 0, 0, 0, w⟩ v).hookAud s (⟨.AUD_TRIG_AT, 0, 0, 0, w⟩ : RegAt) v := by
  have hg : groupOf (RegName.AUD_TRIG_AT.addr 0 0 0) = some 10 := by decide
  simp only [State.doWrite, State.hook, RegAt.first, hg]

theorem MIX_NODE_write (s : State) (i : Fin 1024) (j : Fin 1024) (w v q : Nat) : s.doWrite ⟨.MIX_NODE, i, j, 0, w⟩ v q =
    ((s.putReg ⟨.MIX_NODE, i, j, 0, w⟩ v).clear1 ⟨.MIX_NODE, i, j, 0, w⟩ v).hookAud s (⟨.MIX_NODE, i, j, 0, w⟩ : RegAt) v := by
  have hg : groupOf (RegName.MIX_NODE.addr i j 0) = some 11 := by
    have e : RegName.MIX_NODE.addr i j 0 = 16777216 + i * 4096 + j * 4 := by simp [RegName.addr, show RegName.MIX_NODE.geo = ⟨_, _, _, _⟩ from rfl]
    rw [e, groupOf, groupRange]
    iterate 11 rw [findRange_skip (by omega)]
    exact findRange_hit (by omega)
  simp only [State.doWrite, State.hook, RegAt.first, hg]

theorem MIX_IBQ_write (s : State) (i : Fin 1024) (j : Fin 4) (l : Fin 5) (w v q : Nat) : s.doWrite ⟨.MIX_IBQ, i, j, l, w⟩ v q =
    ((s.putReg ⟨.MIX_IBQ, i, j, l, w⟩ v).clear1 ⟨.MIX_IBQ, i, j, l, w⟩ v).hookAud s (⟨.MIX_IBQ, i, j, l, w⟩ : RegAt) v := by
  have hg : groupOf (RegName.MIX_IBQ.addr i j l) = some 11 := by
    have e : RegName.MIX_IBQ.addr i j l = 21037072 + i * 128 + j * 20 + l * 4 := by simp [RegName.addr, show RegName.MIX_IBQ.geo = ⟨_, _, _, _⟩ from rfl]
    rw [e, groupOf, groupRange]
    iterate 11 rw [findRange_skip (by omega)]
    exact findRange_hit (by omega)
  simp only [State.doWrite, State.hook, RegAt.first, hg]

theorem MIX_OBQ_write (s : State) (i : Fin 1024) (j : Fin 8) (l : Fin 5) (w v q : Nat) : s.doWrite ⟨.MIX_OBQ, i, j, l, w⟩ v q =
    ((s.putReg ⟨.MIX_OBQ, i, j, l, w⟩ v).clear1 ⟨.MIX_OBQ, i, j, l, w⟩ v).hookAud s (⟨.MIX_OBQ, i, j, l, w⟩ : RegAt) v := by
  have hg : groupOf (RegName.MIX_OBQ.addr i j l) = some 11 := by
    have e : RegName.MIX_OBQ.addr i j l = 21168144 + i * 256 + j * 20 + l * 4 := by simp [RegName.addr, show RegName.MIX_OBQ.geo = ⟨_, _, _, _⟩ from rfl]
    rw [e, groupOf, groupRange]
    iterate 11 rw [findRange_skip (by omega)]
    exact findRange_hit (by omega)
  simp only [State.doWrite, State.hook, RegAt.first, hg]

theorem KEY_OP_write (s : State) (w v q : Nat) : s.doWrite ⟨.KEY_OP, 0, 0, 0, w⟩ v q =
    ((s.putReg ⟨.KEY_OP, 0, 0, 0, w⟩ v).clear1 ⟨.KEY_OP, 0, 0, 0, w⟩ v).hookKey (⟨.KEY_OP, 0, 0, 0, w⟩ : RegAt) v := by
  have hg : groupOf (RegName.KEY_OP.addr 0 0 0) = some 12 := by decide
  simp only [State.doWrite, State.hook, RegAt.first, hg]

theorem ATT_FUSE_ARM_write (s : State) (w v q : Nat) : s.doWrite ⟨.ATT_FUSE_ARM, 0, 0, 0, w⟩ v q =
    ((s.putReg ⟨.ATT_FUSE_ARM, 0, 0, 0, w⟩ v).clear1 ⟨.ATT_FUSE_ARM, 0, 0, 0, w⟩ v).hookKey (⟨.ATT_FUSE_ARM, 0, 0, 0, w⟩ : RegAt) v := by
  have hg : groupOf (RegName.ATT_FUSE_ARM.addr 0 0 0) = some 13 := by decide
  simp only [State.doWrite, State.hook, RegAt.first, hg]

theorem ATT_FUSE_CMD_write (s : State) (w v q : Nat) : s.doWrite ⟨.ATT_FUSE_CMD, 0, 0, 0, w⟩ v q =
    ((s.putReg ⟨.ATT_FUSE_CMD, 0, 0, 0, w⟩ v).clear1 ⟨.ATT_FUSE_CMD, 0, 0, 0, w⟩ v).hookKey (⟨.ATT_FUSE_CMD, 0, 0, 0, w⟩ : RegAt) v := by
  have hg : groupOf (RegName.ATT_FUSE_CMD.addr 0 0 0) = some 13 := by decide
  simp only [State.doWrite, State.hook, RegAt.first, hg]

theorem LOG_ACK_write (s : State) (w v q : Nat) : s.doWrite ⟨.LOG_ACK, 0, 0, 0, w⟩ v q =
    ((s.putReg ⟨.LOG_ACK, 0, 0, 0, w⟩ v).clear1 ⟨.LOG_ACK, 0, 0, 0, w⟩ v).hookKey (⟨.LOG_ACK, 0, 0, 0, w⟩ : RegAt) v := by
  have hg : groupOf (RegName.LOG_ACK.addr 0 0 0) = some 13 := by decide
  simp only [State.doWrite, State.hook, RegAt.first, hg]

theorem STL_TWIN_CFG_write (s : State) (w v q : Nat) : s.doWrite ⟨.STL_TWIN_CFG, 0, 0, 0, w⟩ v q =
    ((s.putReg ⟨.STL_TWIN_CFG, 0, 0, 0, w⟩ v).clear1 ⟨.STL_TWIN_CFG, 0, 0, 0, w⟩ v).hookStl s (⟨.STL_TWIN_CFG, 0, 0, 0, w⟩ : RegAt) v := by
  have hg : groupOf (RegName.STL_TWIN_CFG.addr 0 0 0) = some 14 := by decide
  simp only [State.doWrite, State.hook, RegAt.first, hg]

theorem STL_TWIN_CTL_write (s : State) (w v q : Nat) : s.doWrite ⟨.STL_TWIN_CTL, 0, 0, 0, w⟩ v q =
    ((s.putReg ⟨.STL_TWIN_CTL, 0, 0, 0, w⟩ v).clear1 ⟨.STL_TWIN_CTL, 0, 0, 0, w⟩ v).hookStl s (⟨.STL_TWIN_CTL, 0, 0, 0, w⟩ : RegAt) v := by
  have hg : groupOf (RegName.STL_TWIN_CTL.addr 0 0 0) = some 14 := by decide
  simp only [State.doWrite, State.hook, RegAt.first, hg]

theorem FLT_CTL_write (s : State) (w v q : Nat) : s.doWrite ⟨.FLT_CTL, 0, 0, 0, w⟩ v q =
    ((s.putReg ⟨.FLT_CTL, 0, 0, 0, w⟩ v).clear1 ⟨.FLT_CTL, 0, 0, 0, w⟩ v).hookCtl (⟨.FLT_CTL, 0, 0, 0, w⟩ : RegAt) v q := by
  have hg : groupOf (RegName.FLT_CTL.addr 0 0 0) = some 15 := by decide
  simp only [State.doWrite, State.hook, RegAt.first, hg]

theorem FLT_INJ_write (s : State) (w v q : Nat) : s.doWrite ⟨.FLT_INJ, 0, 0, 0, w⟩ v q =
    ((s.putReg ⟨.FLT_INJ, 0, 0, 0, w⟩ v).clear1 ⟨.FLT_INJ, 0, 0, 0, w⟩ v).hookCtl (⟨.FLT_INJ, 0, 0, 0, w⟩ : RegAt) v q := by
  have hg : groupOf (RegName.FLT_INJ.addr 0 0 0) = some 15 := by decide
  simp only [State.doWrite, State.hook, RegAt.first, hg]

theorem REC_UNIT_write (s : State) (i : Fin 12) (w v q : Nat) : s.doWrite ⟨.REC_UNIT, i, 0, 0, w⟩ v q =
    ((s.putReg ⟨.REC_UNIT, i, 0, 0, w⟩ v).clear1 ⟨.REC_UNIT, i, 0, 0, w⟩ v).hookCtl (⟨.REC_UNIT, i, 0, 0, w⟩ : RegAt) v q := by
  have hg : groupOf (RegName.REC_UNIT.addr i 0 0) = some 16 := by
    have e : RegName.REC_UNIT.addr i 0 0 = 29360384 + i * 16 := by simp [RegName.addr, show RegName.REC_UNIT.geo = ⟨_, _, _, _⟩ from rfl]
    rw [e, groupOf, groupRange]
    iterate 16 rw [findRange_skip (by omega)]
    exact findRange_hit (by omega)
  simp only [State.doWrite, State.hook, RegAt.first, hg]

theorem PMC_CNT_write (s : State) (i : Fin 1024) (w v q : Nat) : s.doWrite ⟨.PMC_CNT, i, 0, 0, w⟩ v q =
    ((s.putReg ⟨.PMC_CNT, i, 0, 0, w⟩ v).clear1 ⟨.PMC_CNT, i, 0, 0, w⟩ v).hookCtl (⟨.PMC_CNT, i, 0, 0, w⟩ : RegAt) v q := by
  have hg : groupOf (RegName.PMC_CNT.addr i 0 0) = some 17 := by
    have e : RegName.PMC_CNT.addr i 0 0 = 30412800 + i * 4 := by simp [RegName.addr, show RegName.PMC_CNT.geo = ⟨_, _, _, _⟩ from rfl]
    rw [e, groupOf, groupRange]
    iterate 17 rw [findRange_skip (by omega)]
    exact findRange_hit (by omega)
  simp only [State.doWrite, State.hook, RegAt.first, hg]

theorem PMC_SWEEP_write (s : State) (w v q : Nat) : s.doWrite ⟨.PMC_SWEEP, 0, 0, 0, w⟩ v q =
    ((s.putReg ⟨.PMC_SWEEP, 0, 0, 0, w⟩ v).clear1 ⟨.PMC_SWEEP, 0, 0, 0, w⟩ v).hookCtl (⟨.PMC_SWEEP, 0, 0, 0, w⟩ : RegAt) v q := by
  have hg : groupOf (RegName.PMC_SWEEP.addr 0 0 0) = some 17 := by decide
  simp only [State.doWrite, State.hook, RegAt.first, hg]

theorem TOP_OWNER_write (s : State) (w v q : Nat) : s.doWrite ⟨.TOP_OWNER, 0, 0, 0, w⟩ v q =
    ((s.putReg ⟨.TOP_OWNER, 0, 0, 0, w⟩ v).clear1 ⟨.TOP_OWNER, 0, 0, 0, w⟩ v).hookCtl (⟨.TOP_OWNER, 0, 0, 0, w⟩ : RegAt) v q := by
  have hg : groupOf (RegName.TOP_OWNER.addr 0 0 0) = some 0 := by decide
  simp only [State.doWrite, State.hook, RegAt.first, hg]

theorem DMA_PROD_write (s : State) (i : Fin 16) (w v q : Nat) : s.doWrite ⟨.DMA_PROD, i, 0, 0, w⟩ v q =
    ((s.putReg ⟨.DMA_PROD, i, 0, 0, w⟩ v).clear1 ⟨.DMA_PROD, i, 0, 0, w⟩ v).hookCtl (⟨.DMA_PROD, i, 0, 0, w⟩ : RegAt) v q := by
  have hg : groupOf (RegName.DMA_PROD.addr i 0 0) = some 18 := by
    have e : RegName.DMA_PROD.addr i 0 0 = 31473684 + i * 64 := by simp [RegName.addr, show RegName.DMA_PROD.geo = ⟨_, _, _, _⟩ from rfl]
    rw [e, groupOf, groupRange]
    iterate 18 rw [findRange_skip (by omega)]
    exact findRange_hit (by omega)
  simp only [State.doWrite, State.hook, RegAt.first, hg]

theorem MEM_SPARE_write (s : State) (i : Fin 2) (w v q : Nat) : s.doWrite ⟨.MEM_SPARE, i, 0, 0, w⟩ v q =
    ((s.putReg ⟨.MEM_SPARE, i, 0, 0, w⟩ v).clear1 ⟨.MEM_SPARE, i, 0, 0, w⟩ v).hookCtl (⟨.MEM_SPARE, i, 0, 0, w⟩ : RegAt) v q := by
  have hg : groupOf (RegName.MEM_SPARE.addr i 0 0) = some 19 := by
    have e : RegName.MEM_SPARE.addr i 0 0 = 32505920 + i * 4 := by simp [RegName.addr, show RegName.MEM_SPARE.geo = ⟨_, _, _, _⟩ from rfl]
    rw [e, groupOf, groupRange]
    iterate 19 rw [findRange_skip (by omega)]
    exact findRange_hit (by omega)
  simp only [State.doWrite, State.hook, RegAt.first, hg]

theorem TOP_CAST_write (s : State) (w v q : Nat) : s.doWrite ⟨.TOP_CAST, 0, 0, 0, w⟩ v q =
    ((s.putReg ⟨.TOP_CAST, 0, 0, 0, w⟩ v).clear1 ⟨.TOP_CAST, 0, 0, 0, w⟩ v).hookCtl (⟨.TOP_CAST, 0, 0, 0, w⟩ : RegAt) v q := by
  have hg : groupOf (RegName.TOP_CAST.addr 0 0 0) = some 0 := by decide
  simp only [State.doWrite, State.hook, RegAt.first, hg]

theorem TOP_CONFIG_write (s : State) (w v q : Nat) : s.doWrite ⟨.TOP_CONFIG, 0, 0, 0, w⟩ v q =
    ((s.putReg ⟨.TOP_CONFIG, 0, 0, 0, w⟩ v).clear1 ⟨.TOP_CONFIG, 0, 0, 0, w⟩ v).hookCtl (⟨.TOP_CONFIG, 0, 0, 0, w⟩ : RegAt) v q := by
  have hg : groupOf (RegName.TOP_CONFIG.addr 0 0 0) = some 0 := by decide
  simp only [State.doWrite, State.hook, RegAt.first, hg]

theorem TOP_BINDOFF_write (s : State) (w v q : Nat) : s.doWrite ⟨.TOP_BINDOFF, 0, 0, 0, w⟩ v q =
    ((s.putReg ⟨.TOP_BINDOFF, 0, 0, 0, w⟩ v).clear1 ⟨.TOP_BINDOFF, 0, 0, 0, w⟩ v).hookCtl (⟨.TOP_BINDOFF, 0, 0, 0, w⟩ : RegAt) v q := by
  have hg : groupOf (RegName.TOP_BINDOFF.addr 0 0 0) = some 0 := by decide
  simp only [State.doWrite, State.hook, RegAt.first, hg]

end Sys2Proof.Machine
end

