-- ==== Sys2Proof/Laws/Mem.lean ====
section
/-! SUPPORT. The addressed memories: a byte stored reads back, every other byte stays, and every store keeps the canonical form. -/

namespace Sys2Proof.Machine

/-! ### Canonical form -/

theorem memAbove_mono {a b : Nat} (h : a ≤ b) (m : List Host.Cell) (hm : memAbove b m = true) : memAbove a m = true := by
  induction m with
  | nil => rfl
  | cons p r ih =>
    obtain ⟨k, v⟩ := p
    simp only [memAbove, Bool.and_eq_true, decide_eq_true_eq] at hm ⊢
    exact ⟨⟨by omega, hm.1.2⟩, hm.2⟩

theorem memWf_of_above {a : Nat} {m : List Host.Cell} (h : memAbove a m = true) : memWf m = true := by
  cases m with
  | nil => rfl
  | cons p r =>
    simp only [memAbove, Bool.and_eq_true, decide_eq_true_eq] at h
    simp_all [memWf]

theorem memAbove_set {lo a : Nat} (h : lo < a) (b : Byte) (m : List Host.Cell) (hm : memAbove lo m = true) :
    memAbove lo (memSet m a b) = true := by
  induction m generalizing lo with
  | nil =>
    by_cases hb : b = 0 <;> simp_all [memSet, memAbove]
  | cons p r ih =>
    obtain ⟨k, v⟩ := p
    simp only [memAbove, Bool.and_eq_true, decide_eq_true_eq] at hm
    obtain ⟨⟨hk, hv⟩, hr⟩ := hm
    unfold memSet
    split
    · split <;> simp_all [memAbove]
    · split
      · split
        · exact memAbove_mono (by omega) r hr
        · rename_i h1 h2 h3
          subst h2
          simp_all [memAbove]
      · have := ih (lo := k) (by omega) hr
        simp_all [memAbove]

/-- A store of one byte keeps the canonical form. -/
theorem memWf_set (m : List Host.Cell) (a : Nat) (b : Byte) (h : memWf m = true) : memWf (memSet m a b) = true := by
  cases m with
  | nil => by_cases hb : b = 0 <;> simp_all [memSet, memWf, memAbove]
  | cons p r =>
    obtain ⟨k, v⟩ := p
    simp only [memWf, Bool.and_eq_true, decide_eq_true_eq] at h
    obtain ⟨hv, hr⟩ := h
    unfold memSet
    split
    · split <;> simp_all [memWf, memAbove]
    · split
      · split
        · exact memWf_of_above hr
        · rename_i h1 h2 h3
          subst h2
          simp_all [memWf]
      · have := memAbove_set (lo := k) (a := a) (by omega) b r hr
        simp_all [memWf]

/-- Stores keep the canonical form. -/
theorem memWf_put (m : List Host.Cell) (a : Nat) (l : List Byte) (h : memWf m = true) : memWf (memPut m a l) = true := by
  induction l generalizing m a with
  | nil => exact h
  | cons b r ih => exact ih _ _ (memWf_set m a b h)

theorem memWf_putWord (m : List Host.Cell) (a : Nat) (w : Word) (h : memWf m = true) : memWf (memPutWord m a w) = true :=
  memWf_put m a _ h

/-! ### Reading back -/

theorem memGet_of_above {a : Nat} (m : List Host.Cell) (h : memAbove a m = true) : memGet m a = 0 := by
  induction m with
  | nil => rfl
  | cons p r ih =>
    obtain ⟨k, v⟩ := p
    simp only [memAbove, Bool.and_eq_true, decide_eq_true_eq] at h
    have hk : k ≠ a := by omega
    simp [memGet, hk, ih (memAbove_mono (by omega) r h.2)]

/-- In canonical form the byte stored is the byte read. -/
theorem memGet_set_same (m : List Host.Cell) (a : Nat) (b : Byte) (h : memWf m = true) : memGet (memSet m a b) a = b := by
  induction m with
  | nil => by_cases hb : b = 0 <;> simp_all [memSet, memGet]
  | cons p r ih =>
    obtain ⟨k, v⟩ := p
    simp only [memWf, Bool.and_eq_true, decide_eq_true_eq] at h
    unfold memSet
    split
    · rename_i hk
      split
      · rename_i hb
        have hka : k ≠ a := by omega
        have h0 := memGet_of_above r (memAbove_mono (Nat.le_of_lt hk) r h.2)
        simp_all [memGet]
      · simp [memGet]
    · split
      · rename_i h1 h2
        split
        · rename_i hb
          subst h2
          have h0 := memGet_of_above r h.2
          simp_all
        · simp [memGet]
      · rename_i h1 h2
        have hka : k ≠ a := fun e => h2 e.symm
        simp only [memGet, if_neg hka]
        exact ih (memWf_of_above h.2)

/-- A store leaves every other byte. -/
theorem memGet_set_ne (m : List Host.Cell) {a c : Nat} (b : Byte) (hc : c ≠ a) : memGet (memSet m a b) c = memGet m c := by
  induction m with
  | nil => have := Ne.symm hc; by_cases hb : b = 0 <;> simp_all [memSet, memGet]
  | cons p r ih =>
    obtain ⟨k, v⟩ := p
    unfold memSet
    split
    · split <;> simp [memGet, Ne.symm hc]
    · split
      · rename_i h1 h2
        subst h2
        split <;> simp [memGet, Ne.symm hc]
      · simp only [memGet]
        split
        · rfl
        · exact ih

/-- Stores of a byte string leave every byte outside it. -/
theorem memGet_put_out (m : List Host.Cell) (a : Nat) (l : List Byte) {c : Nat} (h : c < a ∨ a + l.length ≤ c) :
    memGet (memPut m a l) c = memGet m c := by
  induction l generalizing m a with
  | nil => rfl
  | cons b r ih =>
    have hl : (b :: r).length = r.length + 1 := rfl
    rw [memPut, ih _ _ (by omega), memGet_set_ne _ _ (by omega)]

/-- Stored bytes read back in canonical form. -/
theorem memGet_put_in (m : List Host.Cell) (a : Nat) (l : List Byte) (i : Nat) (hi : i < l.length) (h : memWf m = true) :
    memGet (memPut m a l) (a + i) = l[i] := by
  induction l generalizing m a i with
  | nil => simp at hi
  | cons b r ih =>
    rw [memPut]
    cases i with
    | zero => rw [memGet_put_out _ _ _ (by omega)]; simpa using memGet_set_same m a b h
    | succ j =>
      have := ih (memSet m a b) (a + 1) j (by simpa using hi) (memWf_set m a b h)
      rw [show a + (j + 1) = a + 1 + j by omega, this]
      simp

/-- A string of bytes stored reads back whole. -/
theorem memTake_put (m : List Host.Cell) (a : Nat) (l : List Byte) (h : memWf m = true) :
    memTake (memPut m a l) a l.length = l := by
  induction l generalizing m a with
  | nil => rfl
  | cons b r ih =>
    rw [show (b :: r).length = r.length + 1 from rfl, memTake, memPut, ih _ _ (memWf_set m a b h),
      memGet_put_out _ _ _ (by omega), memGet_set_same _ _ _ h]

/-! ### Words -/

theorem bytesLE_length (n v : Nat) : (bytesLE n v).length = n := by
  induction n generalizing v with
  | zero => rfl
  | succ n ih => simp [bytesLE, ih]

theorem leNat_bytesLE (n v : Nat) : leNat (bytesLE n v) = v % 256 ^ n := by
  induction n generalizing v with
  | zero => simp [bytesLE, leNat, Nat.mod_one]
  | succ n ih =>
    rw [bytesLE, leNat, ih, BitVec.toNat_ofNat, Nat.pow_succ 256, Nat.mul_comm (256 ^ n) 256, Nat.mod_mul]

/-- In canonical form a stored word reads back (R4). -/
theorem memWord_putWord (m : List Host.Cell) (a : Nat) (w : Word) (h : memWf m = true) :
    memWord (memPutWord m a w) a = w := by
  have hl := memTake_put m a (bytesLE 4 w.toNat) h
  rw [bytesLE_length] at hl
  rw [memWord, memPutWord, hl, leNat_bytesLE]
  apply BitVec.eq_of_toNat_eq
  simp only [BitVec.toNat_ofNat]
  have := w.isLt
  omega

/-- In canonical form a stored half reads back (R4). -/
theorem memHalf_put (m : List Host.Cell) (a v : Nat) (h : memWf m = true) :
    memHalf (memPut m a (bytesLE 2 v)) a = BitVec.ofNat 16 v := by
  have hl := memTake_put m a (bytesLE 2 v) h
  rw [bytesLE_length] at hl
  rw [memHalf, hl, leNat_bytesLE]
  apply BitVec.eq_of_toNat_eq
  simp

/-- In canonical form a word stored as bytes reads back (R4). -/
theorem memWord_put (m : List Host.Cell) (a v : Nat) (h : memWf m = true) :
    memWord (memPut m a (bytesLE 4 v)) a = BitVec.ofNat 32 v := by
  have hl := memTake_put m a (bytesLE 4 v) h
  rw [bytesLE_length] at hl
  rw [memWord, hl, leNat_bytesLE]
  apply BitVec.eq_of_toNat_eq
  simp

end Sys2Proof.Machine
end

