-- ==== Sys2Proof/Laws/Seq.lean ====
section
/-! SUPPORT. What each operation on a sequencer leaves of it, and how an instruction that meets no trap runs. -/

namespace Sys2Proof.Machine

@[simp] theorem Seq.setG_st (q : Seq) (k : Nat) (w : Word) : (q.setG k w).st = q.st := rfl
@[simp] theorem Seq.setG_trap (q : Seq) (k : Nat) (w : Word) : (q.setG k w).trap = q.trap := rfl
@[simp] theorem Seq.setG_pc (q : Seq) (k : Nat) (w : Word) : (q.setG k w).pc = q.pc := rfl
@[simp] theorem Seq.setG_z (q : Seq) (k : Nat) (w : Word) : (q.setG k w).z = q.z := rfl
@[simp] theorem Seq.setG_n (q : Seq) (k : Nat) (w : Word) : (q.setG k w).n = q.n := rfl
@[simp] theorem Seq.setG_v (q : Seq) (k : Nat) (w : Word) : (q.setG k w).v = q.v := rfl
@[simp] theorem Seq.setG_c (q : Seq) (k : Nat) (w : Word) : (q.setG k w).c = q.c := rfl
@[simp] theorem Seq.setG_s (q : Seq) (k : Nat) (w : Word) : (q.setG k w).s = q.s := rfl
@[simp] theorem Seq.setG_t (q : Seq) (k : Nat) (w : Word) : (q.setG k w).t = q.t := rfl
@[simp] theorem Seq.setG_a0 (q : Seq) (k : Nat) (w : Word) : (q.setG k w).a0 = q.a0 := rfl
@[simp] theorem Seq.setG_a1 (q : Seq) (k : Nat) (w : Word) : (q.setG k w).a1 = q.a1 := rfl
@[simp] theorem Seq.setG_x (q : Seq) (k : Nat) (w : Word) : (q.setG k w).x = q.x := rfl
@[simp] theorem Seq.setG_m (q : Seq) (k : Nat) (w : Word) : (q.setG k w).m = q.m := rfl
@[simp] theorem Seq.setG_l (q : Seq) (k : Nat) (w : Word) : (q.setG k w).l = q.l := rfl
@[simp] theorem Seq.setG_calls (q : Seq) (k : Nat) (w : Word) : (q.setG k w).calls = q.calls := rfl
@[simp] theorem Seq.setG_reps (q : Seq) (k : Nat) (w : Word) : (q.setG k w).reps = q.reps := rfl
@[simp] theorem Seq.setG_rpt (q : Seq) (k : Nat) (w : Word) : (q.setG k w).rpt = q.rpt := rfl
@[simp] theorem Seq.setG_start (q : Seq) (k : Nat) (w : Word) : (q.setG k w).start = q.start := rfl
@[simp] theorem Seq.setG_wait (q : Seq) (k : Nat) (w : Word) : (q.setG k w).wait = q.wait := rfl
@[simp] theorem Seq.setG_kick (q : Seq) (k : Nat) (w : Word) : (q.setG k w).kick = q.kick := rfl
@[simp] theorem Seq.setG_missed (q : Seq) (k : Nat) (w : Word) : (q.setG k w).missed = q.missed := rfl
@[simp] theorem Seq.setG_inbox (q : Seq) (k : Nat) (w : Word) : (q.setG k w).inbox = q.inbox := rfl
@[simp] theorem Seq.setG_pMem (q : Seq) (k : Nat) (w : Word) : (q.setG k w).pMem = q.pMem := rfl
@[simp] theorem Seq.setG_cMem (q : Seq) (k : Nat) (w : Word) : (q.setG k w).cMem = q.cMem := rfl
@[simp] theorem Seq.setG_dMem (q : Seq) (k : Nat) (w : Word) : (q.setG k w).dMem = q.dMem := rfl
@[simp] theorem Seq.setG_img (q : Seq) (k : Nat) (w : Word) : (q.setG k w).img = q.img := rfl
@[simp] theorem Seq.setG_stall (q : Seq) (k : Nat) (w : Word) : (q.setG k w).stall = q.stall := rfl

@[simp] theorem Seq.setX_st (q : Seq) (k : Nat) (w : Half) : (q.setX k w).st = q.st := rfl
@[simp] theorem Seq.setX_trap (q : Seq) (k : Nat) (w : Half) : (q.setX k w).trap = q.trap := rfl
@[simp] theorem Seq.setX_pc (q : Seq) (k : Nat) (w : Half) : (q.setX k w).pc = q.pc := rfl
@[simp] theorem Seq.setX_z (q : Seq) (k : Nat) (w : Half) : (q.setX k w).z = q.z := rfl
@[simp] theorem Seq.setX_n (q : Seq) (k : Nat) (w : Half) : (q.setX k w).n = q.n := rfl
@[simp] theorem Seq.setX_v (q : Seq) (k : Nat) (w : Half) : (q.setX k w).v = q.v := rfl
@[simp] theorem Seq.setX_c (q : Seq) (k : Nat) (w : Half) : (q.setX k w).c = q.c := rfl
@[simp] theorem Seq.setX_s (q : Seq) (k : Nat) (w : Half) : (q.setX k w).s = q.s := rfl
@[simp] theorem Seq.setX_t (q : Seq) (k : Nat) (w : Half) : (q.setX k w).t = q.t := rfl
@[simp] theorem Seq.setX_g (q : Seq) (k : Nat) (w : Half) : (q.setX k w).g = q.g := rfl
@[simp] theorem Seq.setX_a0 (q : Seq) (k : Nat) (w : Half) : (q.setX k w).a0 = q.a0 := rfl
@[simp] theorem Seq.setX_a1 (q : Seq) (k : Nat) (w : Half) : (q.setX k w).a1 = q.a1 := rfl
@[simp] theorem Seq.setX_m (q : Seq) (k : Nat) (w : Half) : (q.setX k w).m = q.m := rfl
@[simp] theorem Seq.setX_l (q : Seq) (k : Nat) (w : Half) : (q.setX k w).l = q.l := rfl
@[simp] theorem Seq.setX_calls (q : Seq) (k : Nat) (w : Half) : (q.setX k w).calls = q.calls := rfl
@[simp] theorem Seq.setX_reps (q : Seq) (k : Nat) (w : Half) : (q.setX k w).reps = q.reps := rfl
@[simp] theorem Seq.setX_rpt (q : Seq) (k : Nat) (w : Half) : (q.setX k w).rpt = q.rpt := rfl
@[simp] theorem Seq.setX_start (q : Seq) (k : Nat) (w : Half) : (q.setX k w).start = q.start := rfl
@[simp] theorem Seq.setX_wait (q : Seq) (k : Nat) (w : Half) : (q.setX k w).wait = q.wait := rfl
@[simp] theorem Seq.setX_kick (q : Seq) (k : Nat) (w : Half) : (q.setX k w).kick = q.kick := rfl
@[simp] theorem Seq.setX_missed (q : Seq) (k : Nat) (w : Half) : (q.setX k w).missed = q.missed := rfl
@[simp] theorem Seq.setX_inbox (q : Seq) (k : Nat) (w : Half) : (q.setX k w).inbox = q.inbox := rfl
@[simp] theorem Seq.setX_pMem (q : Seq) (k : Nat) (w : Half) : (q.setX k w).pMem = q.pMem := rfl
@[simp] theorem Seq.setX_cMem (q : Seq) (k : Nat) (w : Half) : (q.setX k w).cMem = q.cMem := rfl
@[simp] theorem Seq.setX_dMem (q : Seq) (k : Nat) (w : Half) : (q.setX k w).dMem = q.dMem := rfl
@[simp] theorem Seq.setX_img (q : Seq) (k : Nat) (w : Half) : (q.setX k w).img = q.img := rfl
@[simp] theorem Seq.setX_stall (q : Seq) (k : Nat) (w : Half) : (q.setX k w).stall = q.stall := rfl

@[simp] theorem Seq.setAcc_st (q : Seq) (a : Acc) (w : AccWord) : (q.setAcc a w).st = q.st := by cases a <;> rfl
@[simp] theorem Seq.setAcc_trap (q : Seq) (a : Acc) (w : AccWord) : (q.setAcc a w).trap = q.trap := by cases a <;> rfl
@[simp] theorem Seq.setAcc_pc (q : Seq) (a : Acc) (w : AccWord) : (q.setAcc a w).pc = q.pc := by cases a <;> rfl
@[simp] theorem Seq.setAcc_z (q : Seq) (a : Acc) (w : AccWord) : (q.setAcc a w).z = q.z := by cases a <;> rfl
@[simp] theorem Seq.setAcc_n (q : Seq) (a : Acc) (w : AccWord) : (q.setAcc a w).n = q.n := by cases a <;> rfl
@[simp] theorem Seq.setAcc_v (q : Seq) (a : Acc) (w : AccWord) : (q.setAcc a w).v = q.v := by cases a <;> rfl
@[simp] theorem Seq.setAcc_c (q : Seq) (a : Acc) (w : AccWord) : (q.setAcc a w).c = q.c := by cases a <;> rfl
@[simp] theorem Seq.setAcc_s (q : Seq) (a : Acc) (w : AccWord) : (q.setAcc a w).s = q.s := by cases a <;> rfl
@[simp] theorem Seq.setAcc_t (q : Seq) (a : Acc) (w : AccWord) : (q.setAcc a w).t = q.t := by cases a <;> rfl
@[simp] theorem Seq.setAcc_g (q : Seq) (a : Acc) (w : AccWord) : (q.setAcc a w).g = q.g := by cases a <;> rfl
@[simp] theorem Seq.setAcc_x (q : Seq) (a : Acc) (w : AccWord) : (q.setAcc a w).x = q.x := by cases a <;> rfl
@[simp] theorem Seq.setAcc_m (q : Seq) (a : Acc) (w : AccWord) : (q.setAcc a w).m = q.m := by cases a <;> rfl
@[simp] theorem Seq.setAcc_l (q : Seq) (a : Acc) (w : AccWord) : (q.setAcc a w).l = q.l := by cases a <;> rfl
@[simp] theorem Seq.setAcc_calls (q : Seq) (a : Acc) (w : AccWord) : (q.setAcc a w).calls = q.calls := by cases a <;> rfl
@[simp] theorem Seq.setAcc_reps (q : Seq) (a : Acc) (w : AccWord) : (q.setAcc a w).reps = q.reps := by cases a <;> rfl
@[simp] theorem Seq.setAcc_rpt (q : Seq) (a : Acc) (w : AccWord) : (q.setAcc a w).rpt = q.rpt := by cases a <;> rfl
@[simp] theorem Seq.setAcc_start (q : Seq) (a : Acc) (w : AccWord) : (q.setAcc a w).start = q.start := by cases a <;> rfl
@[simp] theorem Seq.setAcc_wait (q : Seq) (a : Acc) (w : AccWord) : (q.setAcc a w).wait = q.wait := by cases a <;> rfl
@[simp] theorem Seq.setAcc_kick (q : Seq) (a : Acc) (w : AccWord) : (q.setAcc a w).kick = q.kick := by cases a <;> rfl
@[simp] theorem Seq.setAcc_missed (q : Seq) (a : Acc) (w : AccWord) : (q.setAcc a w).missed = q.missed := by cases a <;> rfl
@[simp] theorem Seq.setAcc_inbox (q : Seq) (a : Acc) (w : AccWord) : (q.setAcc a w).inbox = q.inbox := by cases a <;> rfl
@[simp] theorem Seq.setAcc_pMem (q : Seq) (a : Acc) (w : AccWord) : (q.setAcc a w).pMem = q.pMem := by cases a <;> rfl
@[simp] theorem Seq.setAcc_cMem (q : Seq) (a : Acc) (w : AccWord) : (q.setAcc a w).cMem = q.cMem := by cases a <;> rfl
@[simp] theorem Seq.setAcc_dMem (q : Seq) (a : Acc) (w : AccWord) : (q.setAcc a w).dMem = q.dMem := by cases a <;> rfl
@[simp] theorem Seq.setAcc_img (q : Seq) (a : Acc) (w : AccWord) : (q.setAcc a w).img = q.img := by cases a <;> rfl
@[simp] theorem Seq.setAcc_stall (q : Seq) (a : Acc) (w : AccWord) : (q.setAcc a w).stall = q.stall := by cases a <;> rfl

@[simp] theorem Seq.setAx_st (q : Seq) (kind : AxKind) (k : Nat) (w : Half) : (q.setAx kind k w).st = q.st := by cases kind <;> rfl
@[simp] theorem Seq.setAx_trap (q : Seq) (kind : AxKind) (k : Nat) (w : Half) : (q.setAx kind k w).trap = q.trap := by cases kind <;> rfl
@[simp] theorem Seq.setAx_pc (q : Seq) (kind : AxKind) (k : Nat) (w : Half) : (q.setAx kind k w).pc = q.pc := by cases kind <;> rfl
@[simp] theorem Seq.setAx_z (q : Seq) (kind : AxKind) (k : Nat) (w : Half) : (q.setAx kind k w).z = q.z := by cases kind <;> rfl
@[simp] theorem Seq.setAx_n (q : Seq) (kind : AxKind) (k : Nat) (w : Half) : (q.setAx kind k w).n = q.n := by cases kind <;> rfl
@[simp] theorem Seq.setAx_v (q : Seq) (kind : AxKind) (k : Nat) (w : Half) : (q.setAx kind k w).v = q.v := by cases kind <;> rfl
@[simp] theorem Seq.setAx_c (q : Seq) (kind : AxKind) (k : Nat) (w : Half) : (q.setAx kind k w).c = q.c := by cases kind <;> rfl
@[simp] theorem Seq.setAx_s (q : Seq) (kind : AxKind) (k : Nat) (w : Half) : (q.setAx kind k w).s = q.s := by cases kind <;> rfl
@[simp] theorem Seq.setAx_t (q : Seq) (kind : AxKind) (k : Nat) (w : Half) : (q.setAx kind k w).t = q.t := by cases kind <;> rfl
@[simp] theorem Seq.setAx_g (q : Seq) (kind : AxKind) (k : Nat) (w : Half) : (q.setAx kind k w).g = q.g := by cases kind <;> rfl
@[simp] theorem Seq.setAx_a0 (q : Seq) (kind : AxKind) (k : Nat) (w : Half) : (q.setAx kind k w).a0 = q.a0 := by cases kind <;> rfl
@[simp] theorem Seq.setAx_a1 (q : Seq) (kind : AxKind) (k : Nat) (w : Half) : (q.setAx kind k w).a1 = q.a1 := by cases kind <;> rfl
@[simp] theorem Seq.setAx_calls (q : Seq) (kind : AxKind) (k : Nat) (w : Half) : (q.setAx kind k w).calls = q.calls := by cases kind <;> rfl
@[simp] theorem Seq.setAx_reps (q : Seq) (kind : AxKind) (k : Nat) (w : Half) : (q.setAx kind k w).reps = q.reps := by cases kind <;> rfl
@[simp] theorem Seq.setAx_rpt (q : Seq) (kind : AxKind) (k : Nat) (w : Half) : (q.setAx kind k w).rpt = q.rpt := by cases kind <;> rfl
@[simp] theorem Seq.setAx_start (q : Seq) (kind : AxKind) (k : Nat) (w : Half) : (q.setAx kind k w).start = q.start := by cases kind <;> rfl
@[simp] theorem Seq.setAx_wait (q : Seq) (kind : AxKind) (k : Nat) (w : Half) : (q.setAx kind k w).wait = q.wait := by cases kind <;> rfl
@[simp] theorem Seq.setAx_kick (q : Seq) (kind : AxKind) (k : Nat) (w : Half) : (q.setAx kind k w).kick = q.kick := by cases kind <;> rfl
@[simp] theorem Seq.setAx_missed (q : Seq) (kind : AxKind) (k : Nat) (w : Half) : (q.setAx kind k w).missed = q.missed := by cases kind <;> rfl
@[simp] theorem Seq.setAx_inbox (q : Seq) (kind : AxKind) (k : Nat) (w : Half) : (q.setAx kind k w).inbox = q.inbox := by cases kind <;> rfl
@[simp] theorem Seq.setAx_pMem (q : Seq) (kind : AxKind) (k : Nat) (w : Half) : (q.setAx kind k w).pMem = q.pMem := by cases kind <;> rfl
@[simp] theorem Seq.setAx_cMem (q : Seq) (kind : AxKind) (k : Nat) (w : Half) : (q.setAx kind k w).cMem = q.cMem := by cases kind <;> rfl
@[simp] theorem Seq.setAx_dMem (q : Seq) (kind : AxKind) (k : Nat) (w : Half) : (q.setAx kind k w).dMem = q.dMem := by cases kind <;> rfl
@[simp] theorem Seq.setAx_img (q : Seq) (kind : AxKind) (k : Nat) (w : Half) : (q.setAx kind k w).img = q.img := by cases kind <;> rfl
@[simp] theorem Seq.setAx_stall (q : Seq) (kind : AxKind) (k : Nat) (w : Half) : (q.setAx kind k w).stall = q.stall := by cases kind <;> rfl

@[simp] theorem Seq.setMem_st (q : Seq) (k : SMem) (w : List Host.Cell) : (q.setMem k w).st = q.st := by cases k <;> rfl
@[simp] theorem Seq.setMem_trap (q : Seq) (k : SMem) (w : List Host.Cell) : (q.setMem k w).trap = q.trap := by cases k <;> rfl
@[simp] theorem Seq.setMem_pc (q : Seq) (k : SMem) (w : List Host.Cell) : (q.setMem k w).pc = q.pc := by cases k <;> rfl
@[simp] theorem Seq.setMem_z (q : Seq) (k : SMem) (w : List Host.Cell) : (q.setMem k w).z = q.z := by cases k <;> rfl
@[simp] theorem Seq.setMem_n (q : Seq) (k : SMem) (w : List Host.Cell) : (q.setMem k w).n = q.n := by cases k <;> rfl
@[simp] theorem Seq.setMem_v (q : Seq) (k : SMem) (w : List Host.Cell) : (q.setMem k w).v = q.v := by cases k <;> rfl
@[simp] theorem Seq.setMem_c (q : Seq) (k : SMem) (w : List Host.Cell) : (q.setMem k w).c = q.c := by cases k <;> rfl
@[simp] theorem Seq.setMem_s (q : Seq) (k : SMem) (w : List Host.Cell) : (q.setMem k w).s = q.s := by cases k <;> rfl
@[simp] theorem Seq.setMem_t (q : Seq) (k : SMem) (w : List Host.Cell) : (q.setMem k w).t = q.t := by cases k <;> rfl
@[simp] theorem Seq.setMem_g (q : Seq) (k : SMem) (w : List Host.Cell) : (q.setMem k w).g = q.g := by cases k <;> rfl
@[simp] theorem Seq.setMem_a0 (q : Seq) (k : SMem) (w : List Host.Cell) : (q.setMem k w).a0 = q.a0 := by cases k <;> rfl
@[simp] theorem Seq.setMem_a1 (q : Seq) (k : SMem) (w : List Host.Cell) : (q.setMem k w).a1 = q.a1 := by cases k <;> rfl
@[simp] theorem Seq.setMem_x (q : Seq) (k : SMem) (w : List Host.Cell) : (q.setMem k w).x = q.x := by cases k <;> rfl
@[simp] theorem Seq.setMem_m (q : Seq) (k : SMem) (w : List Host.Cell) : (q.setMem k w).m = q.m := by cases k <;> rfl
@[simp] theorem Seq.setMem_l (q : Seq) (k : SMem) (w : List Host.Cell) : (q.setMem k w).l = q.l := by cases k <;> rfl
@[simp] theorem Seq.setMem_calls (q : Seq) (k : SMem) (w : List Host.Cell) : (q.setMem k w).calls = q.calls := by cases k <;> rfl
@[simp] theorem Seq.setMem_reps (q : Seq) (k : SMem) (w : List Host.Cell) : (q.setMem k w).reps = q.reps := by cases k <;> rfl
@[simp] theorem Seq.setMem_rpt (q : Seq) (k : SMem) (w : List Host.Cell) : (q.setMem k w).rpt = q.rpt := by cases k <;> rfl
@[simp] theorem Seq.setMem_start (q : Seq) (k : SMem) (w : List Host.Cell) : (q.setMem k w).start = q.start := by cases k <;> rfl
@[simp] theorem Seq.setMem_wait (q : Seq) (k : SMem) (w : List Host.Cell) : (q.setMem k w).wait = q.wait := by cases k <;> rfl
@[simp] theorem Seq.setMem_kick (q : Seq) (k : SMem) (w : List Host.Cell) : (q.setMem k w).kick = q.kick := by cases k <;> rfl
@[simp] theorem Seq.setMem_missed (q : Seq) (k : SMem) (w : List Host.Cell) : (q.setMem k w).missed = q.missed := by cases k <;> rfl
@[simp] theorem Seq.setMem_inbox (q : Seq) (k : SMem) (w : List Host.Cell) : (q.setMem k w).inbox = q.inbox := by cases k <;> rfl
@[simp] theorem Seq.setMem_pMem (q : Seq) (k : SMem) (w : List Host.Cell) : (q.setMem k w).pMem = q.pMem := by cases k <;> rfl
@[simp] theorem Seq.setMem_img (q : Seq) (k : SMem) (w : List Host.Cell) : (q.setMem k w).img = q.img := by cases k <;> rfl
@[simp] theorem Seq.setMem_stall (q : Seq) (k : SMem) (w : List Host.Cell) : (q.setMem k w).stall = q.stall := by cases k <;> rfl

@[simp] theorem Seq.zn_st (q : Seq) (r : Word) : (q.zn r).st = q.st := rfl
@[simp] theorem Seq.zn_trap (q : Seq) (r : Word) : (q.zn r).trap = q.trap := rfl
@[simp] theorem Seq.zn_pc (q : Seq) (r : Word) : (q.zn r).pc = q.pc := rfl
@[simp] theorem Seq.zn_v (q : Seq) (r : Word) : (q.zn r).v = q.v := rfl
@[simp] theorem Seq.zn_c (q : Seq) (r : Word) : (q.zn r).c = q.c := rfl
@[simp] theorem Seq.zn_s (q : Seq) (r : Word) : (q.zn r).s = q.s := rfl
@[simp] theorem Seq.zn_t (q : Seq) (r : Word) : (q.zn r).t = q.t := rfl
@[simp] theorem Seq.zn_g (q : Seq) (r : Word) : (q.zn r).g = q.g := rfl
@[simp] theorem Seq.zn_a0 (q : Seq) (r : Word) : (q.zn r).a0 = q.a0 := rfl
@[simp] theorem Seq.zn_a1 (q : Seq) (r : Word) : (q.zn r).a1 = q.a1 := rfl
@[simp] theorem Seq.zn_x (q : Seq) (r : Word) : (q.zn r).x = q.x := rfl
@[simp] theorem Seq.zn_m (q : Seq) (r : Word) : (q.zn r).m = q.m := rfl
@[simp] theorem Seq.zn_l (q : Seq) (r : Word) : (q.zn r).l = q.l := rfl
@[simp] theorem Seq.zn_calls (q : Seq) (r : Word) : (q.zn r).calls = q.calls := rfl
@[simp] theorem Seq.zn_reps (q : Seq) (r : Word) : (q.zn r).reps = q.reps := rfl
@[simp] theorem Seq.zn_rpt (q : Seq) (r : Word) : (q.zn r).rpt = q.rpt := rfl
@[simp] theorem Seq.zn_start (q : Seq) (r : Word) : (q.zn r).start = q.start := rfl
@[simp] theorem Seq.zn_wait (q : Seq) (r : Word) : (q.zn r).wait = q.wait := rfl
@[simp] theorem Seq.zn_kick (q : Seq) (r : Word) : (q.zn r).kick = q.kick := rfl
@[simp] theorem Seq.zn_missed (q : Seq) (r : Word) : (q.zn r).missed = q.missed := rfl
@[simp] theorem Seq.zn_inbox (q : Seq) (r : Word) : (q.zn r).inbox = q.inbox := rfl
@[simp] theorem Seq.zn_pMem (q : Seq) (r : Word) : (q.zn r).pMem = q.pMem := rfl
@[simp] theorem Seq.zn_cMem (q : Seq) (r : Word) : (q.zn r).cMem = q.cMem := rfl
@[simp] theorem Seq.zn_dMem (q : Seq) (r : Word) : (q.zn r).dMem = q.dMem := rfl
@[simp] theorem Seq.zn_img (q : Seq) (r : Word) : (q.zn r).img = q.img := rfl
@[simp] theorem Seq.zn_stall (q : Seq) (r : Word) : (q.zn r).stall = q.stall := rfl

@[simp] theorem Seq.znAcc_st (q : Seq) (r : AccWord) : (q.znAcc r).st = q.st := rfl
@[simp] theorem Seq.znAcc_trap (q : Seq) (r : AccWord) : (q.znAcc r).trap = q.trap := rfl
@[simp] theorem Seq.znAcc_pc (q : Seq) (r : AccWord) : (q.znAcc r).pc = q.pc := rfl
@[simp] theorem Seq.znAcc_v (q : Seq) (r : AccWord) : (q.znAcc r).v = q.v := rfl
@[simp] theorem Seq.znAcc_c (q : Seq) (r : AccWord) : (q.znAcc r).c = q.c := rfl
@[simp] theorem Seq.znAcc_s (q : Seq) (r : AccWord) : (q.znAcc r).s = q.s := rfl
@[simp] theorem Seq.znAcc_t (q : Seq) (r : AccWord) : (q.znAcc r).t = q.t := rfl
@[simp] theorem Seq.znAcc_g (q : Seq) (r : AccWord) : (q.znAcc r).g = q.g := rfl
@[simp] theorem Seq.znAcc_a0 (q : Seq) (r : AccWord) : (q.znAcc r).a0 = q.a0 := rfl
@[simp] theorem Seq.znAcc_a1 (q : Seq) (r : AccWord) : (q.znAcc r).a1 = q.a1 := rfl
@[simp] theorem Seq.znAcc_x (q : Seq) (r : AccWord) : (q.znAcc r).x = q.x := rfl
@[simp] theorem Seq.znAcc_m (q : Seq) (r : AccWord) : (q.znAcc r).m = q.m := rfl
@[simp] theorem Seq.znAcc_l (q : Seq) (r : AccWord) : (q.znAcc r).l = q.l := rfl
@[simp] theorem Seq.znAcc_calls (q : Seq) (r : AccWord) : (q.znAcc r).calls = q.calls := rfl
@[simp] theorem Seq.znAcc_reps (q : Seq) (r : AccWord) : (q.znAcc r).reps = q.reps := rfl
@[simp] theorem Seq.znAcc_rpt (q : Seq) (r : AccWord) : (q.znAcc r).rpt = q.rpt := rfl
@[simp] theorem Seq.znAcc_start (q : Seq) (r : AccWord) : (q.znAcc r).start = q.start := rfl
@[simp] theorem Seq.znAcc_wait (q : Seq) (r : AccWord) : (q.znAcc r).wait = q.wait := rfl
@[simp] theorem Seq.znAcc_kick (q : Seq) (r : AccWord) : (q.znAcc r).kick = q.kick := rfl
@[simp] theorem Seq.znAcc_missed (q : Seq) (r : AccWord) : (q.znAcc r).missed = q.missed := rfl
@[simp] theorem Seq.znAcc_inbox (q : Seq) (r : AccWord) : (q.znAcc r).inbox = q.inbox := rfl
@[simp] theorem Seq.znAcc_pMem (q : Seq) (r : AccWord) : (q.znAcc r).pMem = q.pMem := rfl
@[simp] theorem Seq.znAcc_cMem (q : Seq) (r : AccWord) : (q.znAcc r).cMem = q.cMem := rfl
@[simp] theorem Seq.znAcc_dMem (q : Seq) (r : AccWord) : (q.znAcc r).dMem = q.dMem := rfl
@[simp] theorem Seq.znAcc_img (q : Seq) (r : AccWord) : (q.znAcc r).img = q.img := rfl
@[simp] theorem Seq.znAcc_stall (q : Seq) (r : AccWord) : (q.znAcc r).stall = q.stall := rfl

@[simp] theorem Seq.cvAdd_st (q : Seq) (a b : Word) (k : Bool) : (q.cvAdd a b k).st = q.st := rfl
@[simp] theorem Seq.cvAdd_trap (q : Seq) (a b : Word) (k : Bool) : (q.cvAdd a b k).trap = q.trap := rfl
@[simp] theorem Seq.cvAdd_pc (q : Seq) (a b : Word) (k : Bool) : (q.cvAdd a b k).pc = q.pc := rfl
@[simp] theorem Seq.cvAdd_z (q : Seq) (a b : Word) (k : Bool) : (q.cvAdd a b k).z = q.z := rfl
@[simp] theorem Seq.cvAdd_n (q : Seq) (a b : Word) (k : Bool) : (q.cvAdd a b k).n = q.n := rfl
@[simp] theorem Seq.cvAdd_s (q : Seq) (a b : Word) (k : Bool) : (q.cvAdd a b k).s = q.s := rfl
@[simp] theorem Seq.cvAdd_t (q : Seq) (a b : Word) (k : Bool) : (q.cvAdd a b k).t = q.t := rfl
@[simp] theorem Seq.cvAdd_g (q : Seq) (a b : Word) (k : Bool) : (q.cvAdd a b k).g = q.g := rfl
@[simp] theorem Seq.cvAdd_a0 (q : Seq) (a b : Word) (k : Bool) : (q.cvAdd a b k).a0 = q.a0 := rfl
@[simp] theorem Seq.cvAdd_a1 (q : Seq) (a b : Word) (k : Bool) : (q.cvAdd a b k).a1 = q.a1 := rfl
@[simp] theorem Seq.cvAdd_x (q : Seq) (a b : Word) (k : Bool) : (q.cvAdd a b k).x = q.x := rfl
@[simp] theorem Seq.cvAdd_m (q : Seq) (a b : Word) (k : Bool) : (q.cvAdd a b k).m = q.m := rfl
@[simp] theorem Seq.cvAdd_l (q : Seq) (a b : Word) (k : Bool) : (q.cvAdd a b k).l = q.l := rfl
@[simp] theorem Seq.cvAdd_calls (q : Seq) (a b : Word) (k : Bool) : (q.cvAdd a b k).calls = q.calls := rfl
@[simp] theorem Seq.cvAdd_reps (q : Seq) (a b : Word) (k : Bool) : (q.cvAdd a b k).reps = q.reps := rfl
@[simp] theorem Seq.cvAdd_rpt (q : Seq) (a b : Word) (k : Bool) : (q.cvAdd a b k).rpt = q.rpt := rfl
@[simp] theorem Seq.cvAdd_start (q : Seq) (a b : Word) (k : Bool) : (q.cvAdd a b k).start = q.start := rfl
@[simp] theorem Seq.cvAdd_wait (q : Seq) (a b : Word) (k : Bool) : (q.cvAdd a b k).wait = q.wait := rfl
@[simp] theorem Seq.cvAdd_kick (q : Seq) (a b : Word) (k : Bool) : (q.cvAdd a b k).kick = q.kick := rfl
@[simp] theorem Seq.cvAdd_missed (q : Seq) (a b : Word) (k : Bool) : (q.cvAdd a b k).missed = q.missed := rfl
@[simp] theorem Seq.cvAdd_inbox (q : Seq) (a b : Word) (k : Bool) : (q.cvAdd a b k).inbox = q.inbox := rfl
@[simp] theorem Seq.cvAdd_pMem (q : Seq) (a b : Word) (k : Bool) : (q.cvAdd a b k).pMem = q.pMem := rfl
@[simp] theorem Seq.cvAdd_cMem (q : Seq) (a b : Word) (k : Bool) : (q.cvAdd a b k).cMem = q.cMem := rfl
@[simp] theorem Seq.cvAdd_dMem (q : Seq) (a b : Word) (k : Bool) : (q.cvAdd a b k).dMem = q.dMem := rfl
@[simp] theorem Seq.cvAdd_img (q : Seq) (a b : Word) (k : Bool) : (q.cvAdd a b k).img = q.img := rfl
@[simp] theorem Seq.cvAdd_stall (q : Seq) (a b : Word) (k : Bool) : (q.cvAdd a b k).stall = q.stall := rfl

@[simp] theorem Seq.cvSub_st (q : Seq) (a b : Word) (k : Bool) : (q.cvSub a b k).st = q.st := rfl
@[simp] theorem Seq.cvSub_trap (q : Seq) (a b : Word) (k : Bool) : (q.cvSub a b k).trap = q.trap := rfl
@[simp] theorem Seq.cvSub_pc (q : Seq) (a b : Word) (k : Bool) : (q.cvSub a b k).pc = q.pc := rfl
@[simp] theorem Seq.cvSub_z (q : Seq) (a b : Word) (k : Bool) : (q.cvSub a b k).z = q.z := rfl
@[simp] theorem Seq.cvSub_n (q : Seq) (a b : Word) (k : Bool) : (q.cvSub a b k).n = q.n := rfl
@[simp] theorem Seq.cvSub_s (q : Seq) (a b : Word) (k : Bool) : (q.cvSub a b k).s = q.s := rfl
@[simp] theorem Seq.cvSub_t (q : Seq) (a b : Word) (k : Bool) : (q.cvSub a b k).t = q.t := rfl
@[simp] theorem Seq.cvSub_g (q : Seq) (a b : Word) (k : Bool) : (q.cvSub a b k).g = q.g := rfl
@[simp] theorem Seq.cvSub_a0 (q : Seq) (a b : Word) (k : Bool) : (q.cvSub a b k).a0 = q.a0 := rfl
@[simp] theorem Seq.cvSub_a1 (q : Seq) (a b : Word) (k : Bool) : (q.cvSub a b k).a1 = q.a1 := rfl
@[simp] theorem Seq.cvSub_x (q : Seq) (a b : Word) (k : Bool) : (q.cvSub a b k).x = q.x := rfl
@[simp] theorem Seq.cvSub_m (q : Seq) (a b : Word) (k : Bool) : (q.cvSub a b k).m = q.m := rfl
@[simp] theorem Seq.cvSub_l (q : Seq) (a b : Word) (k : Bool) : (q.cvSub a b k).l = q.l := rfl
@[simp] theorem Seq.cvSub_calls (q : Seq) (a b : Word) (k : Bool) : (q.cvSub a b k).calls = q.calls := rfl
@[simp] theorem Seq.cvSub_reps (q : Seq) (a b : Word) (k : Bool) : (q.cvSub a b k).reps = q.reps := rfl
@[simp] theorem Seq.cvSub_rpt (q : Seq) (a b : Word) (k : Bool) : (q.cvSub a b k).rpt = q.rpt := rfl
@[simp] theorem Seq.cvSub_start (q : Seq) (a b : Word) (k : Bool) : (q.cvSub a b k).start = q.start := rfl
@[simp] theorem Seq.cvSub_wait (q : Seq) (a b : Word) (k : Bool) : (q.cvSub a b k).wait = q.wait := rfl
@[simp] theorem Seq.cvSub_kick (q : Seq) (a b : Word) (k : Bool) : (q.cvSub a b k).kick = q.kick := rfl
@[simp] theorem Seq.cvSub_missed (q : Seq) (a b : Word) (k : Bool) : (q.cvSub a b k).missed = q.missed := rfl
@[simp] theorem Seq.cvSub_inbox (q : Seq) (a b : Word) (k : Bool) : (q.cvSub a b k).inbox = q.inbox := rfl
@[simp] theorem Seq.cvSub_pMem (q : Seq) (a b : Word) (k : Bool) : (q.cvSub a b k).pMem = q.pMem := rfl
@[simp] theorem Seq.cvSub_cMem (q : Seq) (a b : Word) (k : Bool) : (q.cvSub a b k).cMem = q.cMem := rfl
@[simp] theorem Seq.cvSub_dMem (q : Seq) (a b : Word) (k : Bool) : (q.cvSub a b k).dMem = q.dMem := rfl
@[simp] theorem Seq.cvSub_img (q : Seq) (a b : Word) (k : Bool) : (q.cvSub a b k).img = q.img := rfl
@[simp] theorem Seq.cvSub_stall (q : Seq) (a b : Word) (k : Bool) : (q.cvSub a b k).stall = q.stall := rfl

@[simp] theorem Seq.cShl_st (q : Seq) (a : Word) (k : Nat) : (q.cShl a k).st = q.st := by unfold Seq.cShl; split <;> rfl
@[simp] theorem Seq.cShl_trap (q : Seq) (a : Word) (k : Nat) : (q.cShl a k).trap = q.trap := by unfold Seq.cShl; split <;> rfl
@[simp] theorem Seq.cShl_pc (q : Seq) (a : Word) (k : Nat) : (q.cShl a k).pc = q.pc := by unfold Seq.cShl; split <;> rfl
@[simp] theorem Seq.cShl_z (q : Seq) (a : Word) (k : Nat) : (q.cShl a k).z = q.z := by unfold Seq.cShl; split <;> rfl
@[simp] theorem Seq.cShl_n (q : Seq) (a : Word) (k : Nat) : (q.cShl a k).n = q.n := by unfold Seq.cShl; split <;> rfl
@[simp] theorem Seq.cShl_v (q : Seq) (a : Word) (k : Nat) : (q.cShl a k).v = q.v := by unfold Seq.cShl; split <;> rfl
@[simp] theorem Seq.cShl_s (q : Seq) (a : Word) (k : Nat) : (q.cShl a k).s = q.s := by unfold Seq.cShl; split <;> rfl
@[simp] theorem Seq.cShl_t (q : Seq) (a : Word) (k : Nat) : (q.cShl a k).t = q.t := by unfold Seq.cShl; split <;> rfl
@[simp] theorem Seq.cShl_g (q : Seq) (a : Word) (k : Nat) : (q.cShl a k).g = q.g := by unfold Seq.cShl; split <;> rfl
@[simp] theorem Seq.cShl_a0 (q : Seq) (a : Word) (k : Nat) : (q.cShl a k).a0 = q.a0 := by unfold Seq.cShl; split <;> rfl
@[simp] theorem Seq.cShl_a1 (q : Seq) (a : Word) (k : Nat) : (q.cShl a k).a1 = q.a1 := by unfold Seq.cShl; split <;> rfl
@[simp] theorem Seq.cShl_x (q : Seq) (a : Word) (k : Nat) : (q.cShl a k).x = q.x := by unfold Seq.cShl; split <;> rfl
@[simp] theorem Seq.cShl_m (q : Seq) (a : Word) (k : Nat) : (q.cShl a k).m = q.m := by unfold Seq.cShl; split <;> rfl
@[simp] theorem Seq.cShl_l (q : Seq) (a : Word) (k : Nat) : (q.cShl a k).l = q.l := by unfold Seq.cShl; split <;> rfl
@[simp] theorem Seq.cShl_calls (q : Seq) (a : Word) (k : Nat) : (q.cShl a k).calls = q.calls := by unfold Seq.cShl; split <;> rfl
@[simp] theorem Seq.cShl_reps (q : Seq) (a : Word) (k : Nat) : (q.cShl a k).reps = q.reps := by unfold Seq.cShl; split <;> rfl
@[simp] theorem Seq.cShl_rpt (q : Seq) (a : Word) (k : Nat) : (q.cShl a k).rpt = q.rpt := by unfold Seq.cShl; split <;> rfl
@[simp] theorem Seq.cShl_start (q : Seq) (a : Word) (k : Nat) : (q.cShl a k).start = q.start := by unfold Seq.cShl; split <;> rfl
@[simp] theorem Seq.cShl_wait (q : Seq) (a : Word) (k : Nat) : (q.cShl a k).wait = q.wait := by unfold Seq.cShl; split <;> rfl
@[simp] theorem Seq.cShl_kick (q : Seq) (a : Word) (k : Nat) : (q.cShl a k).kick = q.kick := by unfold Seq.cShl; split <;> rfl
@[simp] theorem Seq.cShl_missed (q : Seq) (a : Word) (k : Nat) : (q.cShl a k).missed = q.missed := by unfold Seq.cShl; split <;> rfl
@[simp] theorem Seq.cShl_inbox (q : Seq) (a : Word) (k : Nat) : (q.cShl a k).inbox = q.inbox := by unfold Seq.cShl; split <;> rfl
@[simp] theorem Seq.cShl_pMem (q : Seq) (a : Word) (k : Nat) : (q.cShl a k).pMem = q.pMem := by unfold Seq.cShl; split <;> rfl
@[simp] theorem Seq.cShl_cMem (q : Seq) (a : Word) (k : Nat) : (q.cShl a k).cMem = q.cMem := by unfold Seq.cShl; split <;> rfl
@[simp] theorem Seq.cShl_dMem (q : Seq) (a : Word) (k : Nat) : (q.cShl a k).dMem = q.dMem := by unfold Seq.cShl; split <;> rfl
@[simp] theorem Seq.cShl_img (q : Seq) (a : Word) (k : Nat) : (q.cShl a k).img = q.img := by unfold Seq.cShl; split <;> rfl
@[simp] theorem Seq.cShl_stall (q : Seq) (a : Word) (k : Nat) : (q.cShl a k).stall = q.stall := by unfold Seq.cShl; split <;> rfl

@[simp] theorem Seq.cShr_st (q : Seq) (a : Word) (k : Nat) : (q.cShr a k).st = q.st := by unfold Seq.cShr; split <;> rfl
@[simp] theorem Seq.cShr_trap (q : Seq) (a : Word) (k : Nat) : (q.cShr a k).trap = q.trap := by unfold Seq.cShr; split <;> rfl
@[simp] theorem Seq.cShr_pc (q : Seq) (a : Word) (k : Nat) : (q.cShr a k).pc = q.pc := by unfold Seq.cShr; split <;> rfl
@[simp] theorem Seq.cShr_z (q : Seq) (a : Word) (k : Nat) : (q.cShr a k).z = q.z := by unfold Seq.cShr; split <;> rfl
@[simp] theorem Seq.cShr_n (q : Seq) (a : Word) (k : Nat) : (q.cShr a k).n = q.n := by unfold Seq.cShr; split <;> rfl
@[simp] theorem Seq.cShr_v (q : Seq) (a : Word) (k : Nat) : (q.cShr a k).v = q.v := by unfold Seq.cShr; split <;> rfl
@[simp] theorem Seq.cShr_s (q : Seq) (a : Word) (k : Nat) : (q.cShr a k).s = q.s := by unfold Seq.cShr; split <;> rfl
@[simp] theorem Seq.cShr_t (q : Seq) (a : Word) (k : Nat) : (q.cShr a k).t = q.t := by unfold Seq.cShr; split <;> rfl
@[simp] theorem Seq.cShr_g (q : Seq) (a : Word) (k : Nat) : (q.cShr a k).g = q.g := by unfold Seq.cShr; split <;> rfl
@[simp] theorem Seq.cShr_a0 (q : Seq) (a : Word) (k : Nat) : (q.cShr a k).a0 = q.a0 := by unfold Seq.cShr; split <;> rfl
@[simp] theorem Seq.cShr_a1 (q : Seq) (a : Word) (k : Nat) : (q.cShr a k).a1 = q.a1 := by unfold Seq.cShr; split <;> rfl
@[simp] theorem Seq.cShr_x (q : Seq) (a : Word) (k : Nat) : (q.cShr a k).x = q.x := by unfold Seq.cShr; split <;> rfl
@[simp] theorem Seq.cShr_m (q : Seq) (a : Word) (k : Nat) : (q.cShr a k).m = q.m := by unfold Seq.cShr; split <;> rfl
@[simp] theorem Seq.cShr_l (q : Seq) (a : Word) (k : Nat) : (q.cShr a k).l = q.l := by unfold Seq.cShr; split <;> rfl
@[simp] theorem Seq.cShr_calls (q : Seq) (a : Word) (k : Nat) : (q.cShr a k).calls = q.calls := by unfold Seq.cShr; split <;> rfl
@[simp] theorem Seq.cShr_reps (q : Seq) (a : Word) (k : Nat) : (q.cShr a k).reps = q.reps := by unfold Seq.cShr; split <;> rfl
@[simp] theorem Seq.cShr_rpt (q : Seq) (a : Word) (k : Nat) : (q.cShr a k).rpt = q.rpt := by unfold Seq.cShr; split <;> rfl
@[simp] theorem Seq.cShr_start (q : Seq) (a : Word) (k : Nat) : (q.cShr a k).start = q.start := by unfold Seq.cShr; split <;> rfl
@[simp] theorem Seq.cShr_wait (q : Seq) (a : Word) (k : Nat) : (q.cShr a k).wait = q.wait := by unfold Seq.cShr; split <;> rfl
@[simp] theorem Seq.cShr_kick (q : Seq) (a : Word) (k : Nat) : (q.cShr a k).kick = q.kick := by unfold Seq.cShr; split <;> rfl
@[simp] theorem Seq.cShr_missed (q : Seq) (a : Word) (k : Nat) : (q.cShr a k).missed = q.missed := by unfold Seq.cShr; split <;> rfl
@[simp] theorem Seq.cShr_inbox (q : Seq) (a : Word) (k : Nat) : (q.cShr a k).inbox = q.inbox := by unfold Seq.cShr; split <;> rfl
@[simp] theorem Seq.cShr_pMem (q : Seq) (a : Word) (k : Nat) : (q.cShr a k).pMem = q.pMem := by unfold Seq.cShr; split <;> rfl
@[simp] theorem Seq.cShr_cMem (q : Seq) (a : Word) (k : Nat) : (q.cShr a k).cMem = q.cMem := by unfold Seq.cShr; split <;> rfl
@[simp] theorem Seq.cShr_dMem (q : Seq) (a : Word) (k : Nat) : (q.cShr a k).dMem = q.dMem := by unfold Seq.cShr; split <;> rfl
@[simp] theorem Seq.cShr_img (q : Seq) (a : Word) (k : Nat) : (q.cShr a k).img = q.img := by unfold Seq.cShr; split <;> rfl
@[simp] theorem Seq.cShr_stall (q : Seq) (a : Word) (k : Nat) : (q.cShr a k).stall = q.stall := by unfold Seq.cShr; split <;> rfl

@[simp] theorem Seq.vAcc_st (q : Seq) (r : Int) : (q.vAcc r).st = q.st := rfl
@[simp] theorem Seq.vAcc_trap (q : Seq) (r : Int) : (q.vAcc r).trap = q.trap := rfl
@[simp] theorem Seq.vAcc_pc (q : Seq) (r : Int) : (q.vAcc r).pc = q.pc := rfl
@[simp] theorem Seq.vAcc_z (q : Seq) (r : Int) : (q.vAcc r).z = q.z := rfl
@[simp] theorem Seq.vAcc_n (q : Seq) (r : Int) : (q.vAcc r).n = q.n := rfl
@[simp] theorem Seq.vAcc_c (q : Seq) (r : Int) : (q.vAcc r).c = q.c := rfl
@[simp] theorem Seq.vAcc_s (q : Seq) (r : Int) : (q.vAcc r).s = q.s := rfl
@[simp] theorem Seq.vAcc_t (q : Seq) (r : Int) : (q.vAcc r).t = q.t := rfl
@[simp] theorem Seq.vAcc_g (q : Seq) (r : Int) : (q.vAcc r).g = q.g := rfl
@[simp] theorem Seq.vAcc_a0 (q : Seq) (r : Int) : (q.vAcc r).a0 = q.a0 := rfl
@[simp] theorem Seq.vAcc_a1 (q : Seq) (r : Int) : (q.vAcc r).a1 = q.a1 := rfl
@[simp] theorem Seq.vAcc_x (q : Seq) (r : Int) : (q.vAcc r).x = q.x := rfl
@[simp] theorem Seq.vAcc_m (q : Seq) (r : Int) : (q.vAcc r).m = q.m := rfl
@[simp] theorem Seq.vAcc_l (q : Seq) (r : Int) : (q.vAcc r).l = q.l := rfl
@[simp] theorem Seq.vAcc_calls (q : Seq) (r : Int) : (q.vAcc r).calls = q.calls := rfl
@[simp] theorem Seq.vAcc_reps (q : Seq) (r : Int) : (q.vAcc r).reps = q.reps := rfl
@[simp] theorem Seq.vAcc_rpt (q : Seq) (r : Int) : (q.vAcc r).rpt = q.rpt := rfl
@[simp] theorem Seq.vAcc_start (q : Seq) (r : Int) : (q.vAcc r).start = q.start := rfl
@[simp] theorem Seq.vAcc_wait (q : Seq) (r : Int) : (q.vAcc r).wait = q.wait := rfl
@[simp] theorem Seq.vAcc_kick (q : Seq) (r : Int) : (q.vAcc r).kick = q.kick := rfl
@[simp] theorem Seq.vAcc_missed (q : Seq) (r : Int) : (q.vAcc r).missed = q.missed := rfl
@[simp] theorem Seq.vAcc_inbox (q : Seq) (r : Int) : (q.vAcc r).inbox = q.inbox := rfl
@[simp] theorem Seq.vAcc_pMem (q : Seq) (r : Int) : (q.vAcc r).pMem = q.pMem := rfl
@[simp] theorem Seq.vAcc_cMem (q : Seq) (r : Int) : (q.vAcc r).cMem = q.cMem := rfl
@[simp] theorem Seq.vAcc_dMem (q : Seq) (r : Int) : (q.vAcc r).dMem = q.dMem := rfl
@[simp] theorem Seq.vAcc_img (q : Seq) (r : Int) : (q.vAcc r).img = q.img := rfl
@[simp] theorem Seq.vAcc_stall (q : Seq) (r : Int) : (q.vAcc r).stall = q.stall := rfl

@[simp] theorem Seq.storeFlags_st (q : Seq) (w : Nat) (r : Int) (sat : Bool) : (q.storeFlags w r sat).st = q.st := by unfold Seq.storeFlags; split <;> split <;> rfl
@[simp] theorem Seq.storeFlags_trap (q : Seq) (w : Nat) (r : Int) (sat : Bool) : (q.storeFlags w r sat).trap = q.trap := by unfold Seq.storeFlags; split <;> split <;> rfl
@[simp] theorem Seq.storeFlags_pc (q : Seq) (w : Nat) (r : Int) (sat : Bool) : (q.storeFlags w r sat).pc = q.pc := by unfold Seq.storeFlags; split <;> split <;> rfl
@[simp] theorem Seq.storeFlags_z (q : Seq) (w : Nat) (r : Int) (sat : Bool) : (q.storeFlags w r sat).z = q.z := by unfold Seq.storeFlags; split <;> split <;> rfl
@[simp] theorem Seq.storeFlags_n (q : Seq) (w : Nat) (r : Int) (sat : Bool) : (q.storeFlags w r sat).n = q.n := by unfold Seq.storeFlags; split <;> split <;> rfl
@[simp] theorem Seq.storeFlags_c (q : Seq) (w : Nat) (r : Int) (sat : Bool) : (q.storeFlags w r sat).c = q.c := by unfold Seq.storeFlags; split <;> split <;> rfl
@[simp] theorem Seq.storeFlags_t (q : Seq) (w : Nat) (r : Int) (sat : Bool) : (q.storeFlags w r sat).t = q.t := by unfold Seq.storeFlags; split <;> split <;> rfl
@[simp] theorem Seq.storeFlags_g (q : Seq) (w : Nat) (r : Int) (sat : Bool) : (q.storeFlags w r sat).g = q.g := by unfold Seq.storeFlags; split <;> split <;> rfl
@[simp] theorem Seq.storeFlags_a0 (q : Seq) (w : Nat) (r : Int) (sat : Bool) : (q.storeFlags w r sat).a0 = q.a0 := by unfold Seq.storeFlags; split <;> split <;> rfl
@[simp] theorem Seq.storeFlags_a1 (q : Seq) (w : Nat) (r : Int) (sat : Bool) : (q.storeFlags w r sat).a1 = q.a1 := by unfold Seq.storeFlags; split <;> split <;> rfl
@[simp] theorem Seq.storeFlags_x (q : Seq) (w : Nat) (r : Int) (sat : Bool) : (q.storeFlags w r sat).x = q.x := by unfold Seq.storeFlags; split <;> split <;> rfl
@[simp] theorem Seq.storeFlags_m (q : Seq) (w : Nat) (r : Int) (sat : Bool) : (q.storeFlags w r sat).m = q.m := by unfold Seq.storeFlags; split <;> split <;> rfl
@[simp] theorem Seq.storeFlags_l (q : Seq) (w : Nat) (r : Int) (sat : Bool) : (q.storeFlags w r sat).l = q.l := by unfold Seq.storeFlags; split <;> split <;> rfl
@[simp] theorem Seq.storeFlags_calls (q : Seq) (w : Nat) (r : Int) (sat : Bool) : (q.storeFlags w r sat).calls = q.calls := by unfold Seq.storeFlags; split <;> split <;> rfl
@[simp] theorem Seq.storeFlags_reps (q : Seq) (w : Nat) (r : Int) (sat : Bool) : (q.storeFlags w r sat).reps = q.reps := by unfold Seq.storeFlags; split <;> split <;> rfl
@[simp] theorem Seq.storeFlags_rpt (q : Seq) (w : Nat) (r : Int) (sat : Bool) : (q.storeFlags w r sat).rpt = q.rpt := by unfold Seq.storeFlags; split <;> split <;> rfl
@[simp] theorem Seq.storeFlags_start (q : Seq) (w : Nat) (r : Int) (sat : Bool) : (q.storeFlags w r sat).start = q.start := by unfold Seq.storeFlags; split <;> split <;> rfl
@[simp] theorem Seq.storeFlags_wait (q : Seq) (w : Nat) (r : Int) (sat : Bool) : (q.storeFlags w r sat).wait = q.wait := by unfold Seq.storeFlags; split <;> split <;> rfl
@[simp] theorem Seq.storeFlags_kick (q : Seq) (w : Nat) (r : Int) (sat : Bool) : (q.storeFlags w r sat).kick = q.kick := by unfold Seq.storeFlags; split <;> split <;> rfl
@[simp] theorem Seq.storeFlags_missed (q : Seq) (w : Nat) (r : Int) (sat : Bool) : (q.storeFlags w r sat).missed = q.missed := by unfold Seq.storeFlags; split <;> split <;> rfl
@[simp] theorem Seq.storeFlags_inbox (q : Seq) (w : Nat) (r : Int) (sat : Bool) : (q.storeFlags w r sat).inbox = q.inbox := by unfold Seq.storeFlags; split <;> split <;> rfl
@[simp] theorem Seq.storeFlags_pMem (q : Seq) (w : Nat) (r : Int) (sat : Bool) : (q.storeFlags w r sat).pMem = q.pMem := by unfold Seq.storeFlags; split <;> split <;> rfl
@[simp] theorem Seq.storeFlags_cMem (q : Seq) (w : Nat) (r : Int) (sat : Bool) : (q.storeFlags w r sat).cMem = q.cMem := by unfold Seq.storeFlags; split <;> split <;> rfl
@[simp] theorem Seq.storeFlags_dMem (q : Seq) (w : Nat) (r : Int) (sat : Bool) : (q.storeFlags w r sat).dMem = q.dMem := by unfold Seq.storeFlags; split <;> split <;> rfl
@[simp] theorem Seq.storeFlags_img (q : Seq) (w : Nat) (r : Int) (sat : Bool) : (q.storeFlags w r sat).img = q.img := by unfold Seq.storeFlags; split <;> split <;> rfl
@[simp] theorem Seq.storeFlags_stall (q : Seq) (w : Nat) (r : Int) (sat : Bool) : (q.storeFlags w r sat).stall = q.stall := by unfold Seq.storeFlags; split <;> split <;> rfl

@[simp] theorem Seq.postMod_st (q : Seq) (k : Nat) (md : Mod) : (q.postMod k md).st = q.st := by cases md <;> rfl
@[simp] theorem Seq.postMod_trap (q : Seq) (k : Nat) (md : Mod) : (q.postMod k md).trap = q.trap := by cases md <;> rfl
@[simp] theorem Seq.postMod_pc (q : Seq) (k : Nat) (md : Mod) : (q.postMod k md).pc = q.pc := by cases md <;> rfl
@[simp] theorem Seq.postMod_z (q : Seq) (k : Nat) (md : Mod) : (q.postMod k md).z = q.z := by cases md <;> rfl
@[simp] theorem Seq.postMod_n (q : Seq) (k : Nat) (md : Mod) : (q.postMod k md).n = q.n := by cases md <;> rfl
@[simp] theorem Seq.postMod_v (q : Seq) (k : Nat) (md : Mod) : (q.postMod k md).v = q.v := by cases md <;> rfl
@[simp] theorem Seq.postMod_c (q : Seq) (k : Nat) (md : Mod) : (q.postMod k md).c = q.c := by cases md <;> rfl
@[simp] theorem Seq.postMod_s (q : Seq) (k : Nat) (md : Mod) : (q.postMod k md).s = q.s := by cases md <;> rfl
@[simp] theorem Seq.postMod_t (q : Seq) (k : Nat) (md : Mod) : (q.postMod k md).t = q.t := by cases md <;> rfl
@[simp] theorem Seq.postMod_g (q : Seq) (k : Nat) (md : Mod) : (q.postMod k md).g = q.g := by cases md <;> rfl
@[simp] theorem Seq.postMod_a0 (q : Seq) (k : Nat) (md : Mod) : (q.postMod k md).a0 = q.a0 := by cases md <;> rfl
@[simp] theorem Seq.postMod_a1 (q : Seq) (k : Nat) (md : Mod) : (q.postMod k md).a1 = q.a1 := by cases md <;> rfl
@[simp] theorem Seq.postMod_m (q : Seq) (k : Nat) (md : Mod) : (q.postMod k md).m = q.m := by cases md <;> rfl
@[simp] theorem Seq.postMod_l (q : Seq) (k : Nat) (md : Mod) : (q.postMod k md).l = q.l := by cases md <;> rfl
@[simp] theorem Seq.postMod_calls (q : Seq) (k : Nat) (md : Mod) : (q.postMod k md).calls = q.calls := by cases md <;> rfl
@[simp] theorem Seq.postMod_reps (q : Seq) (k : Nat) (md : Mod) : (q.postMod k md).reps = q.reps := by cases md <;> rfl
@[simp] theorem Seq.postMod_rpt (q : Seq) (k : Nat) (md : Mod) : (q.postMod k md).rpt = q.rpt := by cases md <;> rfl
@[simp] theorem Seq.postMod_start (q : Seq) (k : Nat) (md : Mod) : (q.postMod k md).start = q.start := by cases md <;> rfl
@[simp] theorem Seq.postMod_wait (q : Seq) (k : Nat) (md : Mod) : (q.postMod k md).wait = q.wait := by cases md <;> rfl
@[simp] theorem Seq.postMod_kick (q : Seq) (k : Nat) (md : Mod) : (q.postMod k md).kick = q.kick := by cases md <;> rfl
@[simp] theorem Seq.postMod_missed (q : Seq) (k : Nat) (md : Mod) : (q.postMod k md).missed = q.missed := by cases md <;> rfl
@[simp] theorem Seq.postMod_inbox (q : Seq) (k : Nat) (md : Mod) : (q.postMod k md).inbox = q.inbox := by cases md <;> rfl
@[simp] theorem Seq.postMod_pMem (q : Seq) (k : Nat) (md : Mod) : (q.postMod k md).pMem = q.pMem := by cases md <;> rfl
@[simp] theorem Seq.postMod_cMem (q : Seq) (k : Nat) (md : Mod) : (q.postMod k md).cMem = q.cMem := by cases md <;> rfl
@[simp] theorem Seq.postMod_dMem (q : Seq) (k : Nat) (md : Mod) : (q.postMod k md).dMem = q.dMem := by cases md <;> rfl
@[simp] theorem Seq.postMod_img (q : Seq) (k : Nat) (md : Mod) : (q.postMod k md).img = q.img := by cases md <;> rfl
@[simp] theorem Seq.postMod_stall (q : Seq) (k : Nat) (md : Mod) : (q.postMod k md).stall = q.stall := by cases md <;> rfl

@[simp] theorem Seq.advance_st (q : Seq) (w : Nat) : (q.advance w).st = q.st := rfl
@[simp] theorem Seq.advance_trap (q : Seq) (w : Nat) : (q.advance w).trap = q.trap := rfl
@[simp] theorem Seq.advance_z (q : Seq) (w : Nat) : (q.advance w).z = q.z := rfl
@[simp] theorem Seq.advance_n (q : Seq) (w : Nat) : (q.advance w).n = q.n := rfl
@[simp] theorem Seq.advance_v (q : Seq) (w : Nat) : (q.advance w).v = q.v := rfl
@[simp] theorem Seq.advance_c (q : Seq) (w : Nat) : (q.advance w).c = q.c := rfl
@[simp] theorem Seq.advance_s (q : Seq) (w : Nat) : (q.advance w).s = q.s := rfl
@[simp] theorem Seq.advance_t (q : Seq) (w : Nat) : (q.advance w).t = q.t := rfl
@[simp] theorem Seq.advance_g (q : Seq) (w : Nat) : (q.advance w).g = q.g := rfl
@[simp] theorem Seq.advance_a0 (q : Seq) (w : Nat) : (q.advance w).a0 = q.a0 := rfl
@[simp] theorem Seq.advance_a1 (q : Seq) (w : Nat) : (q.advance w).a1 = q.a1 := rfl
@[simp] theorem Seq.advance_x (q : Seq) (w : Nat) : (q.advance w).x = q.x := rfl
@[simp] theorem Seq.advance_m (q : Seq) (w : Nat) : (q.advance w).m = q.m := rfl
@[simp] theorem Seq.advance_l (q : Seq) (w : Nat) : (q.advance w).l = q.l := rfl
@[simp] theorem Seq.advance_calls (q : Seq) (w : Nat) : (q.advance w).calls = q.calls := rfl
@[simp] theorem Seq.advance_rpt (q : Seq) (w : Nat) : (q.advance w).rpt = q.rpt := rfl
@[simp] theorem Seq.advance_start (q : Seq) (w : Nat) : (q.advance w).start = q.start := rfl
@[simp] theorem Seq.advance_wait (q : Seq) (w : Nat) : (q.advance w).wait = q.wait := rfl
@[simp] theorem Seq.advance_kick (q : Seq) (w : Nat) : (q.advance w).kick = q.kick := rfl
@[simp] theorem Seq.advance_missed (q : Seq) (w : Nat) : (q.advance w).missed = q.missed := rfl
@[simp] theorem Seq.advance_inbox (q : Seq) (w : Nat) : (q.advance w).inbox = q.inbox := rfl
@[simp] theorem Seq.advance_pMem (q : Seq) (w : Nat) : (q.advance w).pMem = q.pMem := rfl
@[simp] theorem Seq.advance_cMem (q : Seq) (w : Nat) : (q.advance w).cMem = q.cMem := rfl
@[simp] theorem Seq.advance_dMem (q : Seq) (w : Nat) : (q.advance w).dMem = q.dMem := rfl
@[simp] theorem Seq.advance_img (q : Seq) (w : Nat) : (q.advance w).img = q.img := rfl
@[simp] theorem Seq.advance_stall (q : Seq) (w : Nat) : (q.advance w).stall = q.stall := rfl

@[simp] theorem Seq.retire_st (q : Seq) (w : Nat) : (q.retire w).st = q.st := by unfold Seq.retire; split <;> rfl
@[simp] theorem Seq.retire_trap (q : Seq) (w : Nat) : (q.retire w).trap = q.trap := by unfold Seq.retire; split <;> rfl
@[simp] theorem Seq.retire_z (q : Seq) (w : Nat) : (q.retire w).z = q.z := by unfold Seq.retire; split <;> rfl
@[simp] theorem Seq.retire_n (q : Seq) (w : Nat) : (q.retire w).n = q.n := by unfold Seq.retire; split <;> rfl
@[simp] theorem Seq.retire_v (q : Seq) (w : Nat) : (q.retire w).v = q.v := by unfold Seq.retire; split <;> rfl
@[simp] theorem Seq.retire_c (q : Seq) (w : Nat) : (q.retire w).c = q.c := by unfold Seq.retire; split <;> rfl
@[simp] theorem Seq.retire_s (q : Seq) (w : Nat) : (q.retire w).s = q.s := by unfold Seq.retire; split <;> rfl
@[simp] theorem Seq.retire_t (q : Seq) (w : Nat) : (q.retire w).t = q.t := by unfold Seq.retire; split <;> rfl
@[simp] theorem Seq.retire_g (q : Seq) (w : Nat) : (q.retire w).g = q.g := by unfold Seq.retire; split <;> rfl
@[simp] theorem Seq.retire_a0 (q : Seq) (w : Nat) : (q.retire w).a0 = q.a0 := by unfold Seq.retire; split <;> rfl
@[simp] theorem Seq.retire_a1 (q : Seq) (w : Nat) : (q.retire w).a1 = q.a1 := by unfold Seq.retire; split <;> rfl
@[simp] theorem Seq.retire_x (q : Seq) (w : Nat) : (q.retire w).x = q.x := by unfold Seq.retire; split <;> rfl
@[simp] theorem Seq.retire_m (q : Seq) (w : Nat) : (q.retire w).m = q.m := by unfold Seq.retire; split <;> rfl
@[simp] theorem Seq.retire_l (q : Seq) (w : Nat) : (q.retire w).l = q.l := by unfold Seq.retire; split <;> rfl
@[simp] theorem Seq.retire_calls (q : Seq) (w : Nat) : (q.retire w).calls = q.calls := by unfold Seq.retire; split <;> rfl
@[simp] theorem Seq.retire_start (q : Seq) (w : Nat) : (q.retire w).start = q.start := by unfold Seq.retire; split <;> rfl
@[simp] theorem Seq.retire_wait (q : Seq) (w : Nat) : (q.retire w).wait = q.wait := by unfold Seq.retire; split <;> rfl
@[simp] theorem Seq.retire_kick (q : Seq) (w : Nat) : (q.retire w).kick = q.kick := by unfold Seq.retire; split <;> rfl
@[simp] theorem Seq.retire_missed (q : Seq) (w : Nat) : (q.retire w).missed = q.missed := by unfold Seq.retire; split <;> rfl
@[simp] theorem Seq.retire_inbox (q : Seq) (w : Nat) : (q.retire w).inbox = q.inbox := by unfold Seq.retire; split <;> rfl
@[simp] theorem Seq.retire_pMem (q : Seq) (w : Nat) : (q.retire w).pMem = q.pMem := by unfold Seq.retire; split <;> rfl
@[simp] theorem Seq.retire_cMem (q : Seq) (w : Nat) : (q.retire w).cMem = q.cMem := by unfold Seq.retire; split <;> rfl
@[simp] theorem Seq.retire_dMem (q : Seq) (w : Nat) : (q.retire w).dMem = q.dMem := by unfold Seq.retire; split <;> rfl
@[simp] theorem Seq.retire_img (q : Seq) (w : Nat) : (q.retire w).img = q.img := by unfold Seq.retire; split <;> rfl
@[simp] theorem Seq.retire_stall (q : Seq) (w : Nat) : (q.retire w).stall = q.stall := by unfold Seq.retire; split <;> rfl

@[simp] theorem Seq.jump_st (q : Seq) (k : Nat) : (q.jump k).st = q.st := rfl
@[simp] theorem Seq.jump_trap (q : Seq) (k : Nat) : (q.jump k).trap = q.trap := rfl
@[simp] theorem Seq.jump_z (q : Seq) (k : Nat) : (q.jump k).z = q.z := rfl
@[simp] theorem Seq.jump_n (q : Seq) (k : Nat) : (q.jump k).n = q.n := rfl
@[simp] theorem Seq.jump_v (q : Seq) (k : Nat) : (q.jump k).v = q.v := rfl
@[simp] theorem Seq.jump_c (q : Seq) (k : Nat) : (q.jump k).c = q.c := rfl
@[simp] theorem Seq.jump_s (q : Seq) (k : Nat) : (q.jump k).s = q.s := rfl
@[simp] theorem Seq.jump_t (q : Seq) (k : Nat) : (q.jump k).t = q.t := rfl
@[simp] theorem Seq.jump_g (q : Seq) (k : Nat) : (q.jump k).g = q.g := rfl
@[simp] theorem Seq.jump_a0 (q : Seq) (k : Nat) : (q.jump k).a0 = q.a0 := rfl
@[simp] theorem Seq.jump_a1 (q : Seq) (k : Nat) : (q.jump k).a1 = q.a1 := rfl
@[simp] theorem Seq.jump_x (q : Seq) (k : Nat) : (q.jump k).x = q.x := rfl
@[simp] theorem Seq.jump_m (q : Seq) (k : Nat) : (q.jump k).m = q.m := rfl
@[simp] theorem Seq.jump_l (q : Seq) (k : Nat) : (q.jump k).l = q.l := rfl
@[simp] theorem Seq.jump_calls (q : Seq) (k : Nat) : (q.jump k).calls = q.calls := rfl
@[simp] theorem Seq.jump_rpt (q : Seq) (k : Nat) : (q.jump k).rpt = q.rpt := rfl
@[simp] theorem Seq.jump_start (q : Seq) (k : Nat) : (q.jump k).start = q.start := rfl
@[simp] theorem Seq.jump_wait (q : Seq) (k : Nat) : (q.jump k).wait = q.wait := rfl
@[simp] theorem Seq.jump_kick (q : Seq) (k : Nat) : (q.jump k).kick = q.kick := rfl
@[simp] theorem Seq.jump_missed (q : Seq) (k : Nat) : (q.jump k).missed = q.missed := rfl
@[simp] theorem Seq.jump_inbox (q : Seq) (k : Nat) : (q.jump k).inbox = q.inbox := rfl
@[simp] theorem Seq.jump_pMem (q : Seq) (k : Nat) : (q.jump k).pMem = q.pMem := rfl
@[simp] theorem Seq.jump_cMem (q : Seq) (k : Nat) : (q.jump k).cMem = q.cMem := rfl
@[simp] theorem Seq.jump_dMem (q : Seq) (k : Nat) : (q.jump k).dMem = q.dMem := rfl
@[simp] theorem Seq.jump_img (q : Seq) (k : Nat) : (q.jump k).img = q.img := rfl
@[simp] theorem Seq.jump_stall (q : Seq) (k : Nat) : (q.jump k).stall = q.stall := rfl

@[simp] theorem Seq.passMsg_st (q : Seq) (k len : Nat) (inc : Bool) : (q.passMsg k len inc).st = q.st := by unfold Seq.passMsg; split <;> rfl
@[simp] theorem Seq.passMsg_trap (q : Seq) (k len : Nat) (inc : Bool) : (q.passMsg k len inc).trap = q.trap := by unfold Seq.passMsg; split <;> rfl
@[simp] theorem Seq.passMsg_pc (q : Seq) (k len : Nat) (inc : Bool) : (q.passMsg k len inc).pc = q.pc := by unfold Seq.passMsg; split <;> rfl
@[simp] theorem Seq.passMsg_z (q : Seq) (k len : Nat) (inc : Bool) : (q.passMsg k len inc).z = q.z := by unfold Seq.passMsg; split <;> rfl
@[simp] theorem Seq.passMsg_n (q : Seq) (k len : Nat) (inc : Bool) : (q.passMsg k len inc).n = q.n := by unfold Seq.passMsg; split <;> rfl
@[simp] theorem Seq.passMsg_v (q : Seq) (k len : Nat) (inc : Bool) : (q.passMsg k len inc).v = q.v := by unfold Seq.passMsg; split <;> rfl
@[simp] theorem Seq.passMsg_c (q : Seq) (k len : Nat) (inc : Bool) : (q.passMsg k len inc).c = q.c := by unfold Seq.passMsg; split <;> rfl
@[simp] theorem Seq.passMsg_s (q : Seq) (k len : Nat) (inc : Bool) : (q.passMsg k len inc).s = q.s := by unfold Seq.passMsg; split <;> rfl
@[simp] theorem Seq.passMsg_t (q : Seq) (k len : Nat) (inc : Bool) : (q.passMsg k len inc).t = q.t := by unfold Seq.passMsg; split <;> rfl
@[simp] theorem Seq.passMsg_g (q : Seq) (k len : Nat) (inc : Bool) : (q.passMsg k len inc).g = q.g := by unfold Seq.passMsg; split <;> rfl
@[simp] theorem Seq.passMsg_a0 (q : Seq) (k len : Nat) (inc : Bool) : (q.passMsg k len inc).a0 = q.a0 := by unfold Seq.passMsg; split <;> rfl
@[simp] theorem Seq.passMsg_a1 (q : Seq) (k len : Nat) (inc : Bool) : (q.passMsg k len inc).a1 = q.a1 := by unfold Seq.passMsg; split <;> rfl
@[simp] theorem Seq.passMsg_m (q : Seq) (k len : Nat) (inc : Bool) : (q.passMsg k len inc).m = q.m := by unfold Seq.passMsg; split <;> rfl
@[simp] theorem Seq.passMsg_l (q : Seq) (k len : Nat) (inc : Bool) : (q.passMsg k len inc).l = q.l := by unfold Seq.passMsg; split <;> rfl
@[simp] theorem Seq.passMsg_calls (q : Seq) (k len : Nat) (inc : Bool) : (q.passMsg k len inc).calls = q.calls := by unfold Seq.passMsg; split <;> rfl
@[simp] theorem Seq.passMsg_reps (q : Seq) (k len : Nat) (inc : Bool) : (q.passMsg k len inc).reps = q.reps := by unfold Seq.passMsg; split <;> rfl
@[simp] theorem Seq.passMsg_rpt (q : Seq) (k len : Nat) (inc : Bool) : (q.passMsg k len inc).rpt = q.rpt := by unfold Seq.passMsg; split <;> rfl
@[simp] theorem Seq.passMsg_start (q : Seq) (k len : Nat) (inc : Bool) : (q.passMsg k len inc).start = q.start := by unfold Seq.passMsg; split <;> rfl
@[simp] theorem Seq.passMsg_wait (q : Seq) (k len : Nat) (inc : Bool) : (q.passMsg k len inc).wait = q.wait := by unfold Seq.passMsg; split <;> rfl
@[simp] theorem Seq.passMsg_kick (q : Seq) (k len : Nat) (inc : Bool) : (q.passMsg k len inc).kick = q.kick := by unfold Seq.passMsg; split <;> rfl
@[simp] theorem Seq.passMsg_missed (q : Seq) (k len : Nat) (inc : Bool) : (q.passMsg k len inc).missed = q.missed := by unfold Seq.passMsg; split <;> rfl
@[simp] theorem Seq.passMsg_inbox (q : Seq) (k len : Nat) (inc : Bool) : (q.passMsg k len inc).inbox = q.inbox := by unfold Seq.passMsg; split <;> rfl
@[simp] theorem Seq.passMsg_pMem (q : Seq) (k len : Nat) (inc : Bool) : (q.passMsg k len inc).pMem = q.pMem := by unfold Seq.passMsg; split <;> rfl
@[simp] theorem Seq.passMsg_cMem (q : Seq) (k len : Nat) (inc : Bool) : (q.passMsg k len inc).cMem = q.cMem := by unfold Seq.passMsg; split <;> rfl
@[simp] theorem Seq.passMsg_dMem (q : Seq) (k len : Nat) (inc : Bool) : (q.passMsg k len inc).dMem = q.dMem := by unfold Seq.passMsg; split <;> rfl
@[simp] theorem Seq.passMsg_img (q : Seq) (k len : Nat) (inc : Bool) : (q.passMsg k len inc).img = q.img := by unfold Seq.passMsg; split <;> rfl
@[simp] theorem Seq.passMsg_stall (q : Seq) (k len : Nat) (inc : Bool) : (q.passMsg k len inc).stall = q.stall := by unfold Seq.passMsg; split <;> rfl

/-! ### Values -/

@[simp] theorem Seq.setG_gr (q : Seq) (k : Nat) (w : Word) : (q.setG k w).gr k = w := by simp [Seq.gr, Seq.setG]

theorem Seq.setG_gr_ne (q : Seq) {k j : Nat} (w : Word) (h : j ≠ k) : (q.setG k w).gr j = q.gr j := by
  simp [Seq.gr, Seq.setG, Tab.get_set_ne _ _ _ h]

@[simp] theorem Seq.setX_xr (q : Seq) (k : Nat) (w : Half) : (q.setX k w).xr k = w := by simp [Seq.xr, Seq.setX]

@[simp] theorem Seq.setAcc_acc (q : Seq) (a : Acc) (w : AccWord) : (q.setAcc a w).acc a = w := by cases a <;> rfl

@[simp] theorem Seq.setAcc_other (q : Seq) (a : Acc) (w : AccWord) : (q.setAcc a w).acc (accOther a) = q.acc (accOther a) := by
  cases a <;> rfl

@[simp] theorem Seq.gr_g (q : Seq) (k : Nat) : q.g.get k 0 = q.gr k := rfl

@[simp] theorem Seq.zn_z (q : Seq) (r : Word) : (q.zn r).z = decide (r = 0) := rfl
@[simp] theorem Seq.zn_n (q : Seq) (r : Word) : (q.zn r).n = r.msb := rfl
@[simp] theorem Seq.znAcc_z (q : Seq) (r : AccWord) : (q.znAcc r).z = decide (r = 0) := rfl
@[simp] theorem Seq.znAcc_n (q : Seq) (r : AccWord) : (q.znAcc r).n = r.msb := rfl
@[simp] theorem Seq.cvAdd_c (q : Seq) (a b : Word) (k : Bool) :
    (q.cvAdd a b k).c = decide (2 ^ 32 ≤ a.toNat + b.toNat + k.toNat) := rfl
@[simp] theorem Seq.cvAdd_v (q : Seq) (a b : Word) (k : Bool) :
    (q.cvAdd a b k).v = !inSigned 32 (a.toInt + b.toInt + k.toNat) := rfl
@[simp] theorem Seq.cvSub_c (q : Seq) (a b : Word) (k : Bool) :
    (q.cvSub a b k).c = decide (b.toNat + k.toNat ≤ a.toNat) := rfl
@[simp] theorem Seq.cvSub_v (q : Seq) (a b : Word) (k : Bool) :
    (q.cvSub a b k).v = !inSigned 32 (a.toInt - b.toInt - k.toNat) := rfl
@[simp] theorem Seq.vAcc_v (q : Seq) (r : Int) : (q.vAcc r).v = !inSigned 40 r := rfl
theorem Seq.cShl_c (q : Seq) (a : Word) (k : Nat) : (q.cShl a k).c = if k = 0 then q.c else bitOn a.toNat (32 - k) := by
  unfold Seq.cShl; split <;> rfl
theorem Seq.cShr_c (q : Seq) (a : Word) (k : Nat) : (q.cShr a k).c = if k = 0 then q.c else bitOn a.toNat (k - 1) := by
  unfold Seq.cShr; split <;> rfl
theorem Seq.storeFlags_v (q : Seq) (w : Nat) (r : Int) (sat : Bool) :
    (q.storeFlags w r sat).v = if sat then q.v else !inSigned w r := by
  unfold Seq.storeFlags; split <;> cases sat <;> simp_all
theorem Seq.storeFlags_s (q : Seq) (w : Nat) (r : Int) (sat : Bool) :
    (q.storeFlags w r sat).s = (q.s || (sat && !inSigned w r)) := by
  unfold Seq.storeFlags; split <;> cases sat <;> simp_all

@[simp] theorem Seq.acc_a0 (q : Seq) : q.acc .a0 = q.a0 := rfl
@[simp] theorem Seq.acc_a1 (q : Seq) : q.acc .a1 = q.a1 := rfl

/-- Register `k` after an update that leaves the registers. -/
@[simp] theorem Seq.zn_gr (q : Seq) (r : Word) (k : Nat) : (q.zn r).gr k = q.gr k := rfl
@[simp] theorem Seq.cvAdd_gr (q : Seq) (a b : Word) (c : Bool) (k : Nat) : (q.cvAdd a b c).gr k = q.gr k := rfl
@[simp] theorem Seq.cvSub_gr (q : Seq) (a b : Word) (c : Bool) (k : Nat) : (q.cvSub a b c).gr k = q.gr k := rfl
@[simp] theorem Seq.cShl_gr (q : Seq) (a : Word) (j k : Nat) : (q.cShl a j).gr k = q.gr k := by simp [Seq.gr, -Seq.gr_g]
@[simp] theorem Seq.cShr_gr (q : Seq) (a : Word) (j k : Nat) : (q.cShr a j).gr k = q.gr k := by simp [Seq.gr, -Seq.gr_g]
@[simp] theorem Seq.storeFlags_gr (q : Seq) (w : Nat) (r : Int) (b : Bool) (k : Nat) : (q.storeFlags w r b).gr k = q.gr k := by
  simp [Seq.gr, -Seq.gr_g]
@[simp] theorem Seq.retire_gr (q : Seq) (w k : Nat) : (q.retire w).gr k = q.gr k := by simp [Seq.gr, -Seq.gr_g]
@[simp] theorem Seq.retire_acc (q : Seq) (w : Nat) (a : Acc) : (q.retire w).acc a = q.acc a := by cases a <;> simp [Seq.acc]
@[simp] theorem Seq.retire_xr (q : Seq) (w k : Nat) : (q.retire w).xr k = q.xr k := by simp [Seq.xr]
@[simp] theorem Seq.retire_mr (q : Seq) (w k : Nat) : (q.retire w).mr k = q.mr k := by simp [Seq.mr]
@[simp] theorem Seq.retire_lr (q : Seq) (w k : Nat) : (q.retire w).lr k = q.lr k := by simp [Seq.lr]
@[simp] theorem Seq.retire_memOf (q : Seq) (w : Nat) (m : SMem) : (q.retire w).memOf m = q.memOf m := by
  cases m <;> simp [Seq.memOf]
@[simp] theorem Seq.postMod_memOf (q : Seq) (k : Nat) (md : Mod) (m : SMem) : (q.postMod k md).memOf m = q.memOf m := by
  cases m <;> simp [Seq.memOf]
@[simp] theorem Seq.storeFlags_memOf (q : Seq) (w : Nat) (r : Int) (b : Bool) (m : SMem) :
    (q.storeFlags w r b).memOf m = q.memOf m := by
  cases m <;> simp [Seq.memOf]
@[simp] theorem Seq.postMod_gr (q : Seq) (k j : Nat) (md : Mod) : (q.postMod k md).gr j = q.gr j := by
  simp [Seq.gr, -Seq.gr_g]
@[simp] theorem Seq.postMod_acc (q : Seq) (k : Nat) (md : Mod) (a : Acc) : (q.postMod k md).acc a = q.acc a := by
  cases a <;> simp [Seq.acc]

/-- What an update that leaves the registers leaves of one register. -/
theorem Seq.gr_of_g {q p : Seq} (h : p.g = q.g) (k : Nat) : p.gr k = q.gr k := by simp [Seq.gr, h]

theorem Seq.xr_of_x {q p : Seq} (h : p.x = q.x) (k : Nat) : p.xr k = q.xr k := by simp [Seq.xr, h]

/-- With no repeat in hand an instruction goes on behind its words (R147, R148). -/
theorem Seq.retire_pc {q : Seq} (w : Nat) (hr : q.reps = []) (hp : q.rpt = none) (hw : 1 ≤ w) :
    (q.retire w).pc = (q.pc + 4 * w) % 2 ^ 14 := by
  simp only [Seq.retire, hp, Seq.advance, hr, advanceFrom]
  congr 1
  omega

/-! ### An instruction that runs -/

@[simp] theorem State.setSq_sq (s : State) (n : Nat) (q : Seq) : (s.setSq n q).sq n = q := by
  simp [State.sq, State.setSq]

theorem State.setSq_sq_ne (s : State) {n m : Nat} (q : Seq) (h : m ≠ n) : (s.setSq n q).sq m = s.sq m := by
  simp [State.sq, State.setSq, Tab.get_set_ne _ _ _ h]

@[simp] theorem State.pmcSeq_sq (s : State) (n ev k m : Nat) : (s.pmcSeq n ev k).sq m = s.sq m := by simp [State.sq]

theorem Seq.placeTrap_plain (q : Seq) : q.placeTrap .plain 1 = none := by simp [Seq.placeTrap]

/-- An instruction that meets no trap has its effect and is counted. -/
theorem State.issue_runs {s : State} {n words : Nat} {cls : IClass} {f : State → State} (hr : s.runs n = true)
    (hp : (s.sq n).placeTrap cls words = none) : s.issue n words cls false none f = (f s).pmcSeq n 2 := by
  simp [State.issue, hr, hp]

/-- A plain instruction of one word has its effect wherever it stands. -/
theorem State.issue_plain {s : State} {n : Nat} {f : State → State} (hr : s.runs n = true) :
    s.issue n 1 .plain false none f = (f s).pmcSeq n 2 :=
  State.issue_runs hr (Seq.placeTrap_plain _)

/-- An instruction of a sequencer that does not run has no effect. -/
theorem State.issue_idle {s : State} {n words : Nat} {cls : IClass} {ill : Bool} {bad : Option Trap} {f : State → State}
    (hr : s.runs n = false) : s.issue n words cls ill bad f = s := by
  simp [State.issue, hr]

/-- What `alu` does where the sequencer runs. -/
theorem State.alu_runs {s : State} {n : Nat} {f : Seq → Seq} (hr : s.runs n = true) :
    s.alu n f = (s.setSq n ((f (s.sq n)).retire 1)).pmcSeq n 2 :=
  State.issue_plain hr

/-- What `alu` leaves of its own sequencer. -/
theorem State.alu_sq {s : State} {n : Nat} {f : Seq → Seq} (hr : s.runs n = true) :
    (s.alu n f).sq n = (f (s.sq n)).retire 1 := by
  simp [State.alu_runs hr]

/-- `alu` leaves every other sequencer. -/
theorem State.alu_sq_ne {s : State} {n m : Nat} {f : Seq → Seq} (h : m ≠ n) : (s.alu n f).sq m = s.sq m := by
  cases hr : s.runs n with
  | true => simp [State.alu_runs hr, State.setSq_sq_ne _ _ h]
  | false => simp [State.alu, State.issue_idle hr]

/-- A plain instruction of two words has its effect where no repeat level ends. -/
theorem Seq.placeTrap_two {q : Seq} (h : ∀ r ∈ q.reps, r.last ≠ q.pc) : q.placeTrap .plain 2 = none := by
  have : (q.reps.any fun r => decide (r.last = q.pc)) = false := by simpa using h
  simp [Seq.placeTrap, this]

/-- A branch, RPT, RPTB or WAITT has its effect where no repeat level ends and no RPT has it in hand. -/
theorem Seq.placeTrap_noEnd {q : Seq} (h : ∀ r ∈ q.reps, r.last ≠ q.pc) (hp : q.rpt = none) :
    q.placeTrap .noEnd 1 = none := by
  have : (q.reps.any fun r => decide (r.last = q.pc)) = false := by simpa using h
  simp [Seq.placeTrap, this, hp]

/-- A port, mailbox or time instruction has its effect where no RPT has it in hand. -/
theorem Seq.placeTrap_noRepeat {q : Seq} (hp : q.rpt = none) : q.placeTrap .noRepeat 1 = none := by
  simp [Seq.placeTrap, hp]

/-- A CALL has its effect in no repeat level, where no RPT has it in hand. -/
theorem Seq.placeTrap_call {q : Seq} (h : q.reps = []) (hp : q.rpt = none) : q.placeTrap .call 1 = none := by
  simp [Seq.placeTrap, h, hp]

/-- `alu` in two words. -/
theorem State.alu2_sq {s : State} {n : Nat} {f : Seq → Seq} (hr : s.runs n = true)
    (h : ∀ r ∈ (s.sq n).reps, r.last ≠ (s.sq n).pc) : (s.alu n f 2).sq n = (f (s.sq n)).retire 2 := by
  simp [State.alu, State.issue_runs hr (Seq.placeTrap_two h)]

/-- A plain instruction with memory operands that meets no trap. -/
theorem State.memOp_runs {s : State} {n words : Nat} {ill : Bool} {bad : Option Trap} {f : Seq → Seq} (hr : s.runs n = true)
    (hp : (s.sq n).placeTrap .plain words = none) (hi : ill = false) (hb : bad = none) :
    s.memOp n words ill bad f = (s.setSq n ((f (s.sq n)).retire words)).pmcSeq n 2 := by
  subst hi hb; exact State.issue_runs hr hp

/-- What such an instruction leaves of its sequencer. -/
theorem State.memOp_sq {s : State} {n words : Nat} {ill : Bool} {bad : Option Trap} {f : Seq → Seq} (hr : s.runs n = true)
    (hp : (s.sq n).placeTrap .plain words = none) (hi : ill = false) (hb : bad = none) :
    (s.memOp n words ill bad f).sq n = (f (s.sq n)).retire words := by
  simp [State.memOp_runs hr hp hi hb]

/-- A branch that meets no trap. -/
theorem State.branch_sq {s : State} {n : Nat} {cls : IClass} {bad : Option Trap} {f : Seq → Seq} (hr : s.runs n = true)
    (hp : (s.sq n).placeTrap cls 1 = none) (hb : bad = none) : (s.branch n cls bad f).sq n = f (s.sq n) := by
  subst hb; simp [State.branch, State.issue_runs hr hp]

/-- An aligned access within its memory meets no trap (R174). -/
theorem accessTrap_none {l : List (SMem × Nat × Nat)} (h : ∀ p ∈ l, p.2.1 % p.2.2 = 0 ∧ p.2.1 + p.2.2 ≤ memSize p.1) :
    accessTrap l = none := by
  have h1 : (l.any fun p => misaligned p.2.1 p.2.2) = false := by
    simp only [List.any_eq_false, misaligned, decide_eq_true_eq]
    exact fun p hp => by simp [(h p hp).1]
  have h2 : (l.any fun p => beyond p.1 p.2.1 p.2.2) = false := by
    simp only [List.any_eq_false, beyond, decide_eq_true_eq]
    exact fun p hp => by have := (h p hp).2; omega
  simp [accessTrap, h1, h2]

theorem Seq.mdTrap_none {q : Seq} {md : MD} {w : Nat} (h1 : (q.xr md.x).toNat % w = 0)
    (h2 : (q.xr md.x).toNat + w ≤ memSize md.mem) : q.mdTrap md w = none :=
  accessTrap_none (by simpa [Seq.ea] using ⟨h1, h2⟩)

/-- xk after its post-modify. -/
theorem Seq.postMod_xr (q : Seq) (k : Nat) (md : Mod) : (q.postMod k md).xr k = match md with
    | .keep => q.xr k
    | .byM => q.wrap k ((q.xr k).toNat + (q.mr k).toInt)
    | .byImm i => q.wrap k ((q.xr k).toNat + i.toInt) := by
  cases md <;> simp [Seq.postMod]

/-- A memory that a program may write holds what it was given. -/
theorem Seq.setMem_memOf (q : Seq) {m : SMem} (c : List Host.Cell) (h : m ≠ .P) : (q.setMem m c).memOf m = c := by
  cases m <;> simp_all [Seq.setMem, Seq.memOf]

end Sys2Proof.Machine
end

