-- ==== Sys2Proof/Tests/Slice0.lean ====
section
/-! SUPPORT. Tests: the checks of WellFormed, words that decode, single steps, and for each statement states that meet its
hypotheses. -/

namespace Sys2Proof.Tests

open Sys2Proof Sys2Proof.Machine

set_option Elab.async false

/-! ### Small states -/

/-- The core on, Warden up and the Gauge running, all else at reset. -/
def up : State := { State.reset with
  coreOn := true
  warden := ⟨true, none, none⟩
  cast_ := { Cast.reset with rstn := true, pwrgood := true, xo := true, st := 4 }
  gau := { Gau.reset with running := true } }

/-- A register as written and in force. -/
def put (s : State) (r : RegName) (v : Nat) (i : Nat := 0) (j : Nat := 0) (l : Nat := 0) : State :=
  { s with regs := s.regs.set (r.addr i j l) v, force := s.force.set (r.addr i j l) v }

/-- A running sequencer. -/
def seq : Seq := { Seq.reset with st := .running }

/-- Sequencer `n` runs. -/
def runs (n : Nat) (q : Seq := seq) : State := up.setSq n q

/-- `Admits` as a test. -/
def admits (s : State) (r : Requester) (x : RegAt) (v : Nat) : Bool :=
  let u := s.counted r
  let e := u.entryOf r x v
  s.hostTakes r && decide (s.log.gate = []) && !s.log.held && s.warden.up && !s.mirrors x.first && s.logRoom 2 && !x.readOnly &&
  !x.unaudited && decide (lookupReg x.first = some x) && decide ((u.gated e).judgeReg e.org e.ownerOk x.first v = .none) &&
  decide ((u.withRecord e).judgeReg e.org e.ownerOk x.first v = .none)

theorem admits_of {s : State} {r : Requester} {x : RegAt} {v : Nat} (h : admits s r x v = true) : Admits s r x v := by
  simpa [admits, Admits, and_assoc] using h


/-! ### Commands that no sender can form -/

theorem test_tx_data : Instr.wellFormed (.dmaTx 0 ⟨0, 0, 2, 1, false, 0, 0, false, false, 0⟩ [0]) = false := by decide
theorem test_copy_data : Instr.wellFormed (.dmaCopyIn 0 ⟨0, 0, 2, 3, false, 0, 0, false, false, 0⟩ []) = false := by decide
theorem test_bulk_data : Instr.wellFormed (.dmaBulkWr 0 ⟨0, 0, 8, 5, false, 0, 0, false, false, 0⟩ [0]) = false := by decide
theorem test_read_none : Instr.wellFormed (.read 0 0 0) = false := by decide
theorem test_read_many : Instr.wellFormed (.read 0 0 257) = false := by decide
theorem test_write_none : Instr.wellFormed (.write 0 0 []) = false := by decide
theorem test_marker_frame :
    Instr.wellFormed (.markerReceive 0 ⟨15625000, 0, false, false, 0, 0, 0, 0, false⟩ ⟨0, 0, 0, false, 0, 0, 0, false, 0⟩ 0) = false := by
  decide
theorem test_marker_severity :
    Instr.wellFormed (.markerReceive 0 ⟨0, 0, false, false, 5, 0, 0, 0, false⟩ ⟨0, 0, 0, false, 0, 0, 0, false, 0⟩ 0) = false := by
  decide

/-! ### Words of the table in "Example: the mix partial loop, encoded" of chapter 8 -/

theorem test_decode_clr : decodeTabxo 16 0x50010000 0 = some (.clr 16 .a1) := by decide
theorem test_decode_rptb : decodeTabxo 16 0x6A010100 0 = some (.rptb 16 256 1) := by decide
theorem test_decode_mac :
    decodeTabxo 16 0x600900C0 0 = some (.mac 16 ⟨.a0, ⟨false, false⟩, .S24H, .L, ⟨.D, 0, .keep⟩, ⟨.C, 4, .keep⟩, none⟩) := by
  decide +kernel
theorem test_decode_st32 : decodeTabxo 16 0x49120086 0 = some (.st32 16 ⟨.D, 2, .byM⟩ .a0 6 true) := by decide +kernel
/-- A reserved bit of CLR is 1 (R172). -/
theorem test_decode_reserved : decodeTabxo 16 0x50010001 0 = none := by decide +kernel

/-! ### Single steps, with the results that the spec's examples give -/

/-- The sequencer after a command. -/
def after (n : Nat) (i : Instr) (q : Seq) : Option Seq := match exec i (runs n q) with
  | .next t => some (t.sq n)
  | _ => none

/-- R182: with K = 6 the accumulators 416, 480 and −416 store 6, 8 and −6. -/
theorem test_st32_half_to_even :
    ([416, 480, -416].map fun v => (after 16 (.st32 16 ⟨.D, 0, .keep⟩ .a0 6 true) { seq with a0 := BitVec.ofInt 40 v }).map
      fun q => (memWord q.dMem 0).toInt) = [some 6, some 8, some (-6)] := by
  decide +kernel

/-- R183: EXP and NORM of 0x00_0012_3456. -/
theorem test_exp : (after 16 (.exp 16 2 .a0) { seq with a0 := 0x123456 }).map (fun q => q.gr 2) = some 10 := by decide +kernel
theorem test_norm : (after 16 (.norm 16 .a0 3) { seq with a0 := 0x123456 }).map (fun q => (q.gr 3, q.a0)) =
    some (18, 0x48D1580000) := by
  decide +kernel

/-- A sum that wraps carries. -/
theorem test_add_wraps :
    (after 16 (.add 16 2 0 1) { seq with g := [(0, 0xFFFFFFFF), (1, 1)] }).map (fun q => (q.gr 2, q.z, q.n, q.c, q.v)) =
      some (0, true, false, true, false) := by
  decide +kernel
/-! ### Witnesses: Tabxo -/

/-- An access at offset 0 of D memory. -/
def atD : MD := ⟨.D, 0, .keep⟩
def atC : MD := ⟨.C, 1, .keep⟩

theorem witness_TabxoArithmeticCompletes : (runs 0).runs 0 = true := by decide +kernel

theorem witness_TabxoLogicAndShiftsComplete : (runs 159).runs 159 = true ∧ ∀ r ∈ ((runs 159).sq 159).reps, r.last ≠ ((runs 159).sq 159).pc := by
  decide +kernel

/-- A watchdog in INTERVAL mode, a call in hand, and Z clear or set. -/
theorem witness_TabxoControlCompletes :
    let s := runs 3 { seq with calls := [8] }
    s.runs 3 = true ∧ Placed (s.sq 3) ∧ (s.sq 3).calls = 8 :: [] ∧ Taken (s.sq 3) 2 ∧ ¬ Taken (s.sq 3) 1 ∧ Taken (s.sq 3) 0 ∧
    ¬ Taken (s.sq 3) 14 ∧ Taken (s.sq 3) 15 ∧ (s.sq 3).reps = [] ∧ (s.sq 3).rpt = none ∧ (s.sq 3).calls.length < 8 ∧
    ((s.sq 3).gr 0).toNat % 4 = 0 ∧ s.fl .SEQ_WD 31 30 3 = 0 ∧ (put s .SEQ_WD (2 ^ 30) 3).fl .SEQ_WD 31 30 3 ≠ 0 ∧
    (put s .SEQ_WD (2 ^ 30) 3).runs 3 = true := by
  simp only [Placed, Taken]; decide +kernel

theorem witness_TabxoAddressingCompletes :
    let s := runs 0 { seq with x := [(0, 0xFFFC)] }
    s.runs 0 = true ∧ atD.mem = .D ∧ atD.mem ≠ .P ∧ Reaches (s.sq 0) atD 4 ∧ Reaches (s.sq 0) atD 2 ∧
    memWf ((s.sq 0).memOf atD.mem) = true := by
  simp only [Reaches]; decide +kernel

theorem witness_TabxoAccumulatorsComplete :
    (runs 0).runs 0 = true ∧ Reaches ((runs 0).sq 0) atD 4 ∧ (8 : BitVec 6).toNat ≤ 8 ∧ (39 : BitVec 6).toNat ≤ 39 := by
  simp only [Reaches]; decide +kernel

theorem witness_TabxoReadOutCompletes :
    (runs 0).runs 0 = true ∧ Reaches ((runs 0).sq 0) atC 2 ∧ Reaches ((runs 0).sq 0) atC 4 ∧ atC.mem ≠ .P ∧
    memWf (((runs 0).sq 0).memOf atC.mem) = true ∧ (31 : BitVec 6).toNat ≤ 31 := by
  simp only [Reaches]; decide +kernel

theorem witness_TabxoMultiplyCompletes :
    let m : MulMem := ⟨.a0, ⟨true, true⟩, .S24H, .L, atD, atC, some ⟨1, 2, true⟩⟩
    let q := (runs 0).sq 0
    (runs 0).runs 0 = true ∧ (∀ x ∈ q.reps, x.last ≠ q.pc) ∧ mulIllegal m = false ∧ Reaches q m.mda (selWidth m.selA) ∧
    Reaches q m.mdb (selWidth m.selB) ∧ ∀ l, m.pl = some l → Reaches q ⟨.P, l.xp, .keep⟩ 4 := by
  refine ⟨by decide +kernel, by decide +kernel, by decide +kernel, by simp only [Reaches]; decide +kernel,
    by simp only [Reaches]; decide +kernel, ?_⟩
  intro l h; cases h; simp only [Reaches]; decide +kernel

theorem witness_TabxoRepeatsComplete :
    let s := runs 0 { seq with g := [(1, 7)] }
    s.runs 0 = true ∧ Placed (s.sq 0) ∧ 0 < (1 : Half).toNat ∧ 0 < ((s.sq 0).gr 1).toNat % 2 ^ 16 ∧ (s.sq 0).reps = [] ∧
    (s.sq 0).pc + 4 + 4 * (255 : Byte).toNat < 2 ^ 14 ∧ (s.sq 0).reps.length < 3 := by
  simp only [Placed]; decide +kernel

/-- An instant that is due and one that is not, a message behind the mask, and a full queue of events. -/
theorem witness_TabxoTimeCompletes :
    let s := runs 0
    let m := runs 0 { seq with g := [(0, 1000000)], inbox := [(0, [⟨0, 0, []⟩])] }
    let w := runs 0 { seq with g := [(0, 1000000)] }
    let full := s.setClu 0 { Clu.reset with evs := List.replicate 64 ⟨0, 0, 0, 0⟩ }
    s.runs 0 = true ∧ (s.sq 0).rpt = none ∧ Placed (s.sq 0) ∧ maskOk 0 1 = true ∧ s.due40 0 = true ∧
    (m.runs 0 = true ∧ Placed (m.sq 0) ∧ m.due40 1000000 = false ∧ (m.sq 0).masked 1 = true) ∧
    (w.runs 0 = true ∧ Placed (w.sq 0) ∧ w.due40 1000000 = false ∧ (w.sq 0).masked 1 = false) ∧
    (portsOf 0).contains 0 = true ∧ (s.clu 0).evs.length < 64 ∧ (full.runs 0 = true ∧ 64 ≤ (full.clu 0).evs.length) ∧
    s.gau.breach = false ∧ fadjOk ((s.sq 0).gr 0).toInt = true := by
  simp only [Placed]; decide +kernel

/-- A message of TYPE 0x80 for the mailbox, its receiver with and without room, and a receiver that does not listen. -/
theorem witness_TabxoMessagesComplete :
    let q : Seq := { seq with dMem := [(3, 0x80)] }
    let two := (runs 0 q).setSq 1 seq
    let full := (runs 0 q).setSq 1 { seq with inbox := [(14, List.replicate 300 ⟨0, 0, []⟩)] }
    let c : Seq := { seq with dMem := [(3, 0x11)] }
    (q.msgAt 0).type = 0x80 ∧ (runs 0 q).runs 0 = true ∧ q.rpt = none ∧
    (q.recvTrap 0 0 0 = none ∧ q.inbox.get 0 [] = []) ∧
    (q.recvTrap 0 14 0 = none) ∧ q.sendTrap 0 true (decide (0x80 ≤ (q.msgAt 0).type)) = none ∧
    (two.runs 0 = true ∧ two.listens 1 = true ∧ two.room 1 14 (q.msgAt 0) = true) ∧
    (full.runs 0 = true ∧ full.listens 1 = true ∧ full.room 1 14 (q.msgAt 0) = false) ∧
    two.listens 2 = false ∧
    (c.sendTrap 0 ((portsOf 0).contains 1 && decide (1 < 14)) ((runs 0 c).accepts 0 1 (c.msgAt 0)) = none) := by
  decide +kernel

/-- A read at any address, and a write of a one-word register that the gate takes at once. -/
theorem witness_TabxoRegisterPortCompletes :
    let a := RegName.GAU_BND_FLOOR.addr
    let s := put (runs 0 { seq with g := [(0, w32 a), (1, 5)] }) .TOP_SEQ_WPERM 2
    let x := regAt .GAU_BND_FLOOR
    let u := (s.onSeq 0 fun p => { p with stall := true }).unstage 3 x
    s.runs 0 = true ∧ (s.sq 0).rpt = none ∧ ((s.sq 0).gr 0).toNat % 4 = 0 ∧ groupOf a ≠ some 21 ∧ lookupReg a = some x ∧
    x.word = 0 ∧ x.reg.geo.words = 1 ∧ Admits u (.seq 0) x 5 := by
  refine ⟨by decide +kernel, by decide +kernel, by decide +kernel, by decide +kernel, by decide +kernel, by decide +kernel,
    by decide +kernel, admits_of (by decide +kernel)⟩

theorem witness_GstepCompletes :
    let s := runs 0 { seq with g := [(4, 1)] }
    s.runs 0 = true ∧ (s.sq 0).rpt = none ∧ s.log.gate = [] ∧ s.log.held = false ∧ s.warden.up = true ∧ s.logRoom 2 = true ∧
    s.coreOn = true ∧ s.judgeStep (2 ^ 32) 0 = .none := by
  decide +kernel

theorem witness_TabxoRegisterFrame : (runs 159).runs 159 = true := by decide +kernel

theorem witness_TabxoMemoryFrame : (runs 16).runs 16 = true := by decide +kernel
/-! ### Witnesses: register access -/

/-- A register of one word, the highest word of a wide register, and a word of sequencer memory. -/
theorem witness_WritesByAddressComplete :
    let x := regAt .GAU_BND_FLOOR
    let y : RegAt := { regAt .GAU_SLEW_AMT with word := 1 }
    let b : Nat := 0x02020000
    let e := up.entry (.seqmem b 7) .host (up.ownerMay .host b)
    (x.first % 4 = 0 ∧ groupOf x.first ≠ some 21 ∧ lookupReg x.first = some x ∧ x.word + 1 = x.reg.geo.words ∧ x.word = 0 ∧
      Admits (up.unstage 0 x) .host x 5) ∧
    ((y.first + 4) % 4 = 0 ∧ groupOf (y.first + 4) ≠ some 21 ∧ lookupReg (y.first + 4) = some y ∧ y.word + 1 = y.reg.geo.words ∧
      Admits (up.unstage 0 y) .host { y with word := 0 } (up.assemble 0 y 0)) ∧
    (b % 4 = 0 ∧ groupOf b = some 21 ∧ (seqMemAt b).isSome = true ∧ up.log.gate = [] ∧ up.log.held = false ∧ up.warden.up = true ∧
      up.twin.role ≠ .active ∧ up.logRoom 2 = true ∧ ((up.counted .host).gated e).judge e false = .none ∧
      ((up.counted .host).withRecord e).judge e true = .none ∧ up.memOk = true) := by
  refine ⟨⟨by decide +kernel, by decide +kernel, by decide +kernel, by decide +kernel, by decide +kernel,
    admits_of (by decide +kernel)⟩, ⟨by decide +kernel, by decide +kernel, by decide +kernel, by decide +kernel,
    admits_of (by decide +kernel)⟩, by decide +kernel⟩

theorem witness_WritesAreRecordedFirst :
    let x := regAt .SEQ_WD 159
    Admits up .host x 0 ∧ x.reg.geo.words = 1 ∧ ∀ k ∈ [RegName.KEY_OP, .ATT_FUSE_CMD, .STL_TWIN_CTL, .TOP_BINDOFF], x.reg ≠ k :=
  ⟨admits_of (by decide +kernel), by decide +kernel, by decide +kernel⟩

/-- The core on, and the Gauge not started. -/
def still : State := { up with gau := Gau.reset }

/-- One write for each register that the statement names. -/
def plain : List (RegName × Nat × Nat) :=
  [(.GAU_HB_MAX, 0, 5), (.SEL_PER, 0, 1000000000), (.HLD_AVG, 0, 100 * 2 ^ 16 + 10), (.OUT_OFFSET, 0, 0), (.TDC_DIV, 23, 1),
    (.FE_FS, 3, 81840000), (.SEQ_WD, 159, 0), (.CLU_SPARE, 9, 0), (.ETH_TX_COMP, 7, 0), (.PTP_NET, 0, 0), (.AUD_DOM, 0, 0),
    (.MIX_OMAP, 0, 0), (.STL_TWIN_MIRROR, 0, 0), (.FLT_SRC_CFG, 31, 4), (.REC_CODE, 0, 0), (.PMC_SAMP_RING, 0, 0), (.DMA_CFG, 15, 0),
    (.MEM_REQ, 0, 0)]

theorem witness_PlainWritesLand : ∀ p ∈ plain, Admits still .host (regAt p.1 p.2.1) p.2.2 := by
  have h : plain.all (fun p => admits still .host (regAt p.1 p.2.1) p.2.2) = true := by decide +kernel
  exact fun p hp => admits_of (List.all_eq_true.mp h p hp)

/-- A wide register, a register with fields that a read clears, set and clear, and a stamp that waits or does not. -/
theorem witness_ReadsComplete :
    let wide := regAt .GAU_SLEW_AMT
    let rc := regAt .ETH_DROP 7
    let s : State := { up with hw := [(rc.first, 0x30001)], eth := [(7, { EthP.reset with txts := [[1, 2]] })] }
    (s.hostWaits = 0 ∧ s.hst.reads = []) ∧
    (wide.first % 4 = 0 ∧ seqBlind .host wide.first = false ∧ groupOf wide.first ≠ some 21 ∧ lookupReg wide.first = some wide ∧
      wide.word = 0 ∧ 1 < wide.reg.geo.words ∧ ∀ k ∈ [RegName.ETH_TXTS, .LOG_TAIL, .LOG_TAIL2], wide.reg ≠ k) ∧
    (rc.first % 4 = 0 ∧ seqBlind .host rc.first = false ∧ groupOf rc.first ≠ some 21 ∧ lookupReg rc.first = some rc ∧ rc.word = 0 ∧
      (∀ k ∈ [RegName.ETH_TXTS, .LOG_TAIL, .LOG_TAIL2], rc.reg ≠ k) ∧ s.readReg 0 rc ≠ 0 ∧ up.readReg 0 rc = 0) ∧
    (s.coreOn = true ∧ s.regs.get RegName.GAU_SNAP.addr 0 = 0 ∧ s.hw.get RegName.GAU_SNAP.addr 0 = 0) ∧
    (s.ep 7).txts = [1, 2] :: [] ∧ (up.ep 7).txts = [] := by
  decide +kernel

/-- Writes with the states that meet their conditions: the state, the register, the value, and what else is asked. -/
abbrev Cases := List (State × RegAt × Nat × Bool)

/-- Every case is taken at once, and what else is asked holds. -/
def Cases.ok (l : Cases) (r : Requester := .host) : Bool := l.all fun p => admits p.1 r p.2.1 p.2.2.1 && p.2.2.2

theorem Cases.admitted {l : Cases} {r : Requester} (h : l.ok r = true) :
    ∀ p ∈ l, Admits p.1 r p.2.1 p.2.2.1 ∧ p.2.2.2 = true := fun p hp => by
  have := List.all_eq_true.mp h p hp
  rw [Bool.and_eq_true] at this
  exact ⟨admits_of this.1, this.2⟩

/-- A Gauge that holds a correction. -/
def holding (h : Held) (s : State := up) : State := { s with gau := { s.gau with held := some h } }

/-- A candidate. -/
def cand (k : Nat) (c : Cand) (s : State := up) : State := { s with sel := { s.sel with cands := s.sel.cands.set k c } }

/-- The guard in force, at its reset limits. -/
def guarded : State := { put up .GAU_CTL 0x101 with gau := { up.gau with guardOn := true, st := .locked } }

def timing : Cases :=
  let far : State := put up .GAU_STEP_AMT (2 ^ 62)
  [(up, regAt .GAU_SLEW_AMT, 5, up.guardHolds up.outstanding 5 = false),
   (guarded, regAt .GAU_SLEW_AMT, 2 ^ 62, guarded.guardHolds guarded.outstanding (2 ^ 62) = true ∧
     guarded.agrees guarded.source guarded.sourceGrp (2 ^ 62) = false),
   (far, regAt .GAU_STEP_AT, 10000000, far.inForce .GAU_BND_FLOOR * 2 ^ 32 < (sext 96 (far.inForce .GAU_STEP_AMT)).natAbs ∧
     far.guardHolds 0 (sext 96 (far.inForce .GAU_STEP_AMT)) = false),
   (up, regAt .GAU_STEP_CTL, up.lastWith .GAU_STEP_CTL 8 8 1, true),
   (holding ⟨true, 5, false, none, 0, none, 0, 0, 1⟩, regAt .GAU_STEP_ACK, 0, true),
   (holding ⟨false, 5, false, none, 0, none, 0, 0, 1⟩, regAt .GAU_STEP_ACK, 0, (up.gau.rem + 5 * 256).natAbs < 2 ^ 71),
   ({ up with gau := { up.gau with breach := true } }, regAt .GAU_STEP_ACK, 0, up.gau.held = none),
   (up, regAt .SEL_CFG 30, up.lastWith .SEL_CFG 31 31 1 30, (up.cand 30).st = .off),
   (up, regAt .SEL_CFG 0, up.lastWith .SEL_CFG 31 31 0 0, true),
   (cand 30 { Cand.reset with st := .wait } (put up .SEL_CFG (2 ^ 31) 30), regAt .SEL_HOSTSET, 0, true),
   (up, regAt .OUT_GRPC, up.lastWith .OUT_GRPC 31 31 1, true),
   (up, regAt .OUT_CFG 19, up.lastWith .OUT_CFG 31 31 1 19, up.on .OUT_CFG 31 19 = false),
   (up, regAt .OUT_SKIP 18, up.lastWith .OUT_SKIP 0 0 1 18, true),
   (up, regAt .OUT_SKIP 19, up.lastWith .OUT_SKIP 0 0 1 19, true)]
theorem witness_TimingWritesComplete : ∀ p ∈ timing, Admits p.1 .host p.2.1 p.2.2.1 ∧ p.2.2.2 = true :=
  Cases.admitted (by decide +kernel)

def program : Cases :=
  let gns := put up .GNS_CTL (2 ^ 31)
  let ok : State := put gns .CH_CFG (2 ^ 8)
  let wok := ok.lastWith .CH_CFG 31 31 1 0
  [(up, regAt .GNS_SPI_TX, 7, true),
   (put ok .CH_START_SCNT 1000000000, regAt .CH_CFG, wok, (ok.chan 0).st = .stopped && ok.on .GNS_CTL 31 &&
     ((put ok .CH_START_SCNT 1000000000).putReg (regAt .CH_CFG) wok).judgeChan 0 1000000000 = .none),
   (up, regAt .CH_CFG 191, up.lastWith .CH_CFG 31 31 0 191, true),
   (put (put up .ACQ_STAGE_LEN 0xFFFFFF) .ACQ_INT 0x101, regAt .ACQ_CFG, up.lastWith .ACQ_CFG 31 31 1, true),
   ({ up with gnb := { up.gnb with acqQ := [3] } }, regAt .ACQ_CFG 3, up.lastWith .ACQ_CFG 30 30 1 3, bitOn (up.lastOf .ACQ_CFG 3) 31 = false),
   (put up .SW_LEN 64, regAt .SW_CTL, (put (put up .SW_LEN 64) .SW_CTL 1).lastWith .SW_CTL 31 31 1, true),
   ({ up with gnb := { up.gnb with swSt := 1 } }, regAt .SW_CTL, up.lastWith .SW_CTL 30 30 1, bitOn (up.lastOf .SW_CTL) 31 = false),
   ({ up with gnb := { up.gnb with swSt := 2 } }, regAt .SW_CTL, up.lastWith .SW_CTL 30 30 1, bitOn (up.lastOf .SW_CTL) 31 = false),
   (up, regAt .SEQ_CTL 159, up.lastWith .SEQ_CTL 31 29 6 159, (up.sq 159).st = .stopped),
   (runs 0, regAt .SEQ_CTL, up.lastWith .SEQ_CTL 31 31 0, ((runs 0).sq 0).st ≠ .fenced),
   (runs 0 { seq with st := .fenced }, regAt .SEQ_CTL, putBits (up.lastWith .SEQ_CTL 29 29 1) 31 31 0, true),
   (up, regAt .CLU_LOAD_CTL 9, 2 ^ 31 + 1, true)]

theorem witness_ProgramWritesComplete : ∀ p ∈ program, Admits p.1 .host p.2.1 p.2.2.1 ∧ p.2.2.2 = true :=
  Cases.admitted (by decide +kernel)

/-- The audio clocks on. -/
def audio : State := put up .AUD_CTL (up.lastWith .AUD_CTL 31 31 1)

def network : Cases :=
  let live := put up .ETH_ROW_CTL (2 ^ 28) 7
  let on_ (n : RegName) (i : Nat) : Nat := up.lastWith n 31 31 1 i
  let rxs (st : Nat) : State := { put audio .RXS_CFG (on_ .RXS_CFG 511) 511 with aud := { audio.aud with rxs := [(511, { Rxs.reset with st := st })] } }
  let aeso (st : Nat) : State :=
    { put audio .AESO_CFG (2 ^ 31) 15 with aud := { audio.aud with aeso := [(15, { AesOut.reset with st := st })] } }
  [(up, regAt .ETH_ROW_CTL 7, up.lastWith .ETH_ROW_CTL 29 29 1 7, true),
   (live, regAt .ROWA_GATE 7 255, 0x1FF, true),
   (live, regAt .ROWA_OFS 7 255, 0x1FF, true),
   (up, regAt .TSV_NTS_ROT_AT, 2000, true),
   (up, regAt .TSV_NTS_KEY, up.lastWith .TSV_NTS_KEY 31 31 1, true),
   (audio, regAt .AUD_CTL, audio.lastWith .AUD_CTL 31 31 0, audio.on .AUD_CTL 31),
   (audio, regAt .RXS_CFG 511, on_ .RXS_CFG 511, audio.audOn && decide (audio.on .RXS_CFG 31 511 = false)),
   (audio, regAt .TXS_CFG 511, on_ .TXS_CFG 511, audio.on .TXS_CFG 31 511 = false),
   (audio, regAt .AESI_CFG 15, audio.lastWith .AESI_CFG 31 31 1 15, audio.on .AESI_CFG 31 15 = false),
   (audio, regAt .AESO_CFG 15, audio.lastWith .AESO_CFG 31 31 1 15, audio.on .AESO_CFG 31 15 = false),
   (rxs 2, regAt .RXS_CFG 511, (rxs 2).lastWith .RXS_CFG 31 31 0 511, (rxs 2).audOn && (rxs 2).on .RXS_CFG 31 511 &&
     decide (((rxs 2).rxs 511).st ≠ 0)),
   (aeso 3, regAt .AESO_CFG 15, (aeso 3).lastWith .AESO_CFG 31 31 0 15, (aeso 3).on .AESO_CFG 31 15 &&
     decide (((aeso 3).aeso 15).st ≠ 0)),
   (up, regAt .AUD_TRIG_AT, 125000, up.tc + 125000 * 2 ^ 40 ≤ (125000 : Int) * 2 ^ 40),
   (up, regAt .MIX_NODE 1023 1023, 5, true),
   (up, regAt .MIX_IBQ 1023 3 4, 5, true),
   (up, regAt .MIX_OBQ 1023 7 4, 5, true)]

theorem witness_NetworkAndAudioWritesComplete : ∀ p ∈ network, Admits p.1 .host p.2.1 p.2.2.1 ∧ p.2.2.2 = true :=
  Cases.admitted (by decide +kernel)

/-- TYPE and USE staged, and a slot with a key that has been invalidated. -/
def keyed (k : Key) : State := { put up .KEY_CTL 1 with key := k }

/-- A fuse command armed. -/
def armed (f : Fuses) : State := { up with fuses := { f with armAt := some 0 } }

/-- A log with one record. -/
def logged : State := { up with log := { up.log with ring := [up.mkRec 0 0 0 0 .host .none], seq := 0 } }

def keyFuseLog : Cases :=
  let k : Key := { Key.reset with attr := 0x103 }
  let dead : Key := { k with slots := [(5, ⟨KeyBank.zero, KeyBank.zero, commitWord (2 ^ 25 + 1), false⟩)] }
  let staged : Fuses := { Fuses.reset with staged := [(0, 1)] }
  [(keyed k, regAt .KEY_OP, 2 ^ 31 + 2 ^ 24 + 63 * 2 ^ 8, true),
   (keyed k, regAt .KEY_OP, 2 ^ 31 + 2 * 2 ^ 24 + 63 * 2 ^ 8, true),
   (keyed dead, regAt .KEY_OP, 2 ^ 31 + 5 * 2 ^ 24 + 5 * 2 ^ 8, true),
   (keyed dead, regAt .KEY_OP, 2 ^ 31 + 6 * 2 ^ 24, true),
   (up, regAt .ATT_FUSE_ARM, 0x46555345, true),
   (up, regAt .ATT_FUSE_ARM, 0, true),
   (armed Fuses.reset, regAt .ATT_FUSE_CMD, 2 ^ 31, true),
   (armed { Fuses.reset with hashv := true }, regAt .ATT_FUSE_CMD, 2 ^ 31 + 2 ^ 16, true),
   (armed staged, regAt .ATT_FUSE_CMD, 2 ^ 31 + 2 * 2 ^ 16, true),
   (armed Fuses.reset, regAt .ATT_FUSE_CMD, 2 ^ 31 + 7 * 2 ^ 16 + 63, true),
   (logged, regAt .LOG_ACK, 0, (logged.log.ring.find? (fun x => x.seq % 2 ^ 32 == 0 && x.link == 0)).isSome)]

def supervision : Cases :=
  let twin (r : Role) : State := { put up .STL_TWIN_CFG (2 ^ 31 + 2 ^ 16) with twin := { Twin.reset with role := r, peerReady := true } }
  let cmp := put up .STL_TWIN_CFG (2 ^ 30 + 2 ^ 16)
  let relinq : State := { up with flt := { up.flt with relinq := true } }
  let armed_ : State := { up with flt := { up.flt with inj := ⟨1, 0, 2, 0, false, 0⟩ } }
  let hold : State := { up with cast_ := { up.cast_ with st := 1 } }
  let img : State := { up with cast_ := { up.cast_ with slots := [(3, some ⟨[], []⟩)] } }
  [(twin .standby, regAt .STL_TWIN_CFG, (twin .standby).lastWith .STL_TWIN_CFG 31 31 0, (twin .standby).flt.relinq = false),
   (cmp, regAt .STL_TWIN_CFG, cmp.lastWith .STL_TWIN_CFG 31 31 1, decide (cmp.on .STL_TWIN_CFG 31 = false) &&
     bitOn (cmp.lastOf .STL_TWIN_CFG) 30),
   (up, regAt .STL_TWIN_CTL, 2 ^ 30, true),
   (twin .active, regAt .STL_TWIN_CTL, 2 ^ 31, true),
   (relinq, regAt .FLT_CTL, relinq.lastWith .FLT_CTL 30 30 1, relinq.flt.halt = false),
   (up, regAt .FLT_INJ, 2 ^ 31 + 2 ^ 30 + 2 * 2 ^ 16, true),
   (armed_, regAt .FLT_INJ, armed_.lastWith .FLT_INJ 29 29 1, bitOn (armed_.lastOf .FLT_INJ) 31 = false),
   (up, regAt .REC_UNIT 11, 10 * 2 ^ 24, bits (10 * 2 ^ 24) 31 24 ≠ 11),
   (up, regAt .PMC_CNT 1023, 2 ^ 30, bitOn (2 ^ 30) 30),
   (up, regAt .PMC_SWEEP, up.lastWith .PMC_SWEEP 31 31 1, true),
   (up, regAt .TOP_OWNER, 2 ^ 22 - 1, true),
   (up, regAt .DMA_PROD 15, 7, true),
   (up, regAt .MEM_SPARE 1, putBits (up.lastWith .MEM_SPARE 19 16 8 1) 31 31 1, true),
   (hold, regAt .TOP_CAST, 2 ^ 31, true),
   (up, regAt .TOP_CONFIG, 2 ^ 31 + 3 * 2 ^ 24, true),
   (img, regAt .TOP_CONFIG, 2 ^ 30 + 3 * 2 ^ 24, true),
   (up, regAt .TOP_CONFIG, 2 ^ 30 + 2 ^ 29, true),
   (up, regAt .TOP_BINDOFF, 2 ^ 31 + 2 ^ 30, true)]

theorem witness_KeyFuseAndLogWritesComplete : ∀ p ∈ keyFuseLog, Admits p.1 .host p.2.1 p.2.2.1 ∧ p.2.2.2 = true :=
  Cases.admitted (by decide +kernel)

theorem witness_SupervisionWritesComplete : ∀ p ∈ supervision, Admits p.1 .host p.2.1 p.2.2.1 ∧ p.2.2.2 = true :=
  Cases.admitted (by decide +kernel)

/-- Registers whose writes are not audited, with their states. -/
def unaudited : List (State × RegAt × Nat) :=
  let busy : State := { up with rcd := { up.rcd with bufs := [⟨0, 0, 0, 0, 0, 0, 0, 0, 0, 0, [], false⟩] } }
  [(up, regAt .KEY_OP_ATTR, 0x103), (up, regAt .KEY_CTX, 7), (up, regAt .KEY_DATA 9, 7), (up, regAt .ATT_CTL 15, 2 ^ 31),
    (up, regAt .REC_CTL, 2 ^ 31), (busy, regAt .REC_CTL, 2 ^ 31), (up, regAt .REC_CTL, 2 ^ 30), (up, regAt .REC_CTL, 2 ^ 29),
    (up, regAt .REC_UNIT_CLR 11, 2 ^ 31), (up, regAt .HST_MBX_CTL, 2 ^ 31), (up, regAt .HST_MBX_CTL, 2 ^ 30)]

theorem witness_UnauditedWritesComplete : up.rcd.bufs = [] ∧ ∀ p ∈ unaudited, p.1.hostTakes .host = true ∧
    (p.1.counted .host).judgeAccess .host (p.2.1.anyOwner || p.1.ownerMay .host p.2.1.first) p.2.1.first = .none ∧
    (p.1.counted .host).judgeUnaudited p.2.1 p.2.2 = .none := by
  decide +kernel
/-! A parent key, whatever the function of tags is. -/

def parent (attr : Nat) : KeySlot := ⟨⟨[], attr, (Config.keyTag 0 0 1 attr []).toNat⟩, KeyBank.zero, commitWord 1, false⟩

def withParent (attr : Nat) : State := keyed { Key.reset with attr := 0x103, slots := [(0, parent attr)] }

theorem parent_cur (attr : Nat) : (parent attr).cur = ⟨[], attr, (Config.keyTag 0 0 1 attr []).toNat⟩ := by
  have hb : (parent attr).bank = 0 := show bits (commitWord 1) 24 24 = 0 by decide +kernel
  simp only [KeySlot.cur, hb]; rfl

theorem parent_tag (attr : Nat) : (parent attr).tagOk 0 = true := by
  have hb : (parent attr).bank = 0 := show bits (commitWord 1) 24 24 = 0 by decide +kernel
  have hg : (parent attr).gen = 1 := show bits (commitWord 1) 23 0 = 1 by decide +kernel
  simp only [KeySlot.tagOk, parent_cur, hb, hg, decide_true]

theorem parent_valid (attr : Nat) (h : bitOn attr 23 = false) : (withParent attr).kst 0 = 1 := by
  have h0 : (withParent attr).kslot 0 = parent attr := rfl
  have h1 : (parent attr).commit ≠ 0 := show commitWord 1 ≠ 0 by decide +kernel
  have h2 : (parent attr).corrupt = false :=
    show decide (commitWord 1 ≠ 0 ∧ commitWord (bits (commitWord 1) 31 0) ≠ commitWord 1) = false by decide +kernel
  have h3 : bitOn (parent attr).commit 25 = false := show bitOn (commitWord 1) 25 = false by decide +kernel
  have h5 : (parent attr).bad = false := rfl
  unfold State.kst State.slotState
  simp [h0, h1, h2, h3, h5, parent_cur, parent_tag, h]

theorem parent_use (attr b : Nat) (h : bitOn attr 23 = false) (hu : bitOn attr (8 + b) = true) :
    (withParent attr).judgeParent 0 b = .none := by
  have ha : ((withParent attr).kslot 0).cur.attr = attr := by
    rw [show (withParent attr).kslot 0 = parent attr from rfl, parent_cur]
  simp [State.judgeParent, parent_valid attr h, ha, hu]

/-- KEY_DERIVE of slot 1 from slot 0. -/
def deriveWord : Nat := 2 ^ 31 + 4 * 2 ^ 24 + 2 ^ 8
/-- KEY_UNWRAP into slot 1 under slot 0. -/
def unwrapWord : Nat := 2 ^ 31 + 3 * 2 ^ 24 + 2 ^ 8

theorem derive_judged : (withParent 0x405).judgeKey deriveWord = .none := by
  have hp := parent_use 0x405 2 (by decide) (by decide)
  have ha : ((withParent 0x405).kslot 0).cur.attr = 0x405 := by
    rw [show (withParent 0x405).kslot 0 = parent 0x405 from rfl, parent_cur]
  have hn : (withParent 0x405).judgeNewKey 1 = .none := by decide +kernel
  have hd : (withParent 0x405).descends 1 6 0 = false := by decide +kernel
  have hb : bits ((withParent 0x405).hwOf .KEY_STAT) 31 30 = 0 := by decide +kernel
  have hc : (withParent 0x405).key.conds = [] := rfl
  have h1 : bits deriveWord 26 24 = 4 := by decide +kernel
  have h2 : bits deriveWord 21 16 = 0 := by decide +kernel
  have h3 : bits deriveWord 13 8 = 1 := by decide +kernel
  have h4 : ¬ 4 ≤ bits 0x405 51 48 := by decide
  unfold State.judgeKey
  simp [h1, h2, h3, h4, hb, hc, hp, ha, hd, hn]

theorem unwrap_judged {k : List Byte} (hk : Config.unwrap ((withParent 0x802).kslot 0).cur.key ((withParent 0x802).keyData 10) = some k) :
    (withParent 0x802).judgeKey unwrapWord = .none := by
  have hp := parent_use 0x802 3 (by decide) (by decide)
  have hn : (withParent 0x802).judgeNewKey 1 = .none := by decide +kernel
  have hb : bits ((withParent 0x802).hwOf .KEY_STAT) 31 30 = 0 := by decide +kernel
  have hc : (withParent 0x802).key.conds = [] := rfl
  have h1 : bits unwrapWord 26 24 = 3 := by decide +kernel
  have h2 : bits unwrapWord 21 16 = 0 := by decide +kernel
  have h3 : bits unwrapWord 13 8 = 1 := by decide +kernel
  unfold State.judgeKey
  simp [h1, h2, h3, hb, hc, hp, hn, hk]

theorem witness_KeyDerive : Admits (withParent 0x405) .host (regAt .KEY_OP) deriveWord := by
  unfold Admits
  refine ⟨by decide +kernel, by decide +kernel, by decide +kernel, by decide +kernel, by decide +kernel, by decide +kernel,
    by decide +kernel, by decide +kernel, by decide +kernel, Eq.trans (by rfl) derive_judged, Eq.trans (by rfl) derive_judged⟩

/-- The hypothesis is on the free function that unwraps: wherever it opens the data. -/
theorem witness_KeyUnwrap {k : List Byte}
    (hk : Config.unwrap ((withParent 0x802).kslot 0).cur.key ((withParent 0x802).keyData 10) = some k) :
    Admits (withParent 0x802) .host (regAt .KEY_OP) unwrapWord := by
  unfold Admits
  refine ⟨by decide +kernel, by decide +kernel, by decide +kernel, by decide +kernel, by decide +kernel, by decide +kernel,
    by decide +kernel, by decide +kernel, by decide +kernel, Eq.trans (by rfl) (unwrap_judged hk), Eq.trans (by rfl) (unwrap_judged hk)⟩
/-! ### Witnesses: the Gauge and selection -/

/-- The Gauge as given. -/
def gauge (g : Gau) (s : State := up) : State := { s with gau := g }

/-- The Gauge at an edge at which a whole second, and every divisor of it, begins. -/
def second : Gau := { up.gau with l := 5000000000, g := 3 * 10 ^ 9 * 2 ^ 40, prev := some (3 * 10 ^ 9 * 2 ^ 40 - 1), st := .locked }

/-- Candidate 9, in QUAL and of a group of its own, publishes an offset of 0. -/
def near (s : State) : State :=
  cand 9 { Cand.reset with st := .qual, post := some ⟨0, 0, 0, ((s.g32 : Nat) : Int), 0⟩ } (put (put s .SEL_CTL 1) .SEL_CFG (2 ^ 31 + 2 ^ 24) 9)

/-- The guard on, at a second of its window. -/
def guard (g : Gau) : State := put (put (gauge { g with guardOn := true }) .GAU_CTL 0x101) .GAU_GUARD (60 * 2 ^ 16 + 3)

theorem witness_GaugeEventsComplete :
    let lost := put (put (gauge second) .GAU_CTL 1) .GAU_HB_MAX 100
    let hold := gauge { second with st := .holdover }
    let leap (b : Nat) := put (put (gauge second) .GAU_UTC (2 ^ b)) .GAU_LEAP_AT (3 * 10 ^ 9)
    let h (b : Bool) : Held := ⟨b, 5, false, none, 0, none, 0, 0, 1⟩
    let held (b : Bool) := near (gauge { second with held := some (h b) })
    let old := gauge { second with held := some (h true), l := 3600000000000 }
    let off := guard { second with p := 0 }
    let shut := near (gauge { second with breach := true })
    let even := guard { second with p := second.g }
    (lost.gau.st = .locked ∧ lost.on .GAU_CTL 0 = true ∧ lost.gau.hbAt + lost.fl .GAU_HB_MAX 13 0 * 1000000 ≤ lost.gau.l) ∧
    (hold.gau.st = .holdover ∧ hold.atMs = true ∧ hold.fresh 0x20 = true) ∧
    (∀ b, (held b).gau.held = some (h b) ∧ (held b).agrees (h b).src (h b).grp (h b).amt = true ∧
      ((held b).gau.rem + (h b).amt * 256).natAbs < 2 ^ 71) ∧
    (old.gau.held = some (h true) ∧ (h true).at_ + old.fl .GAU_GUARD 27 16 * 1000000000 ≤ old.gau.l) ∧
    (off.breachNow = true ∧ off.witnessNear = false) ∧ ((near off).breachNow = true ∧ (near off).witnessNear = true) ∧
    (shut.gau.breach = true ∧ shut.witnessNear = true) ∧ (even.windowDue = true ∧ even.fresh 0x23 = true) ∧
    ((leap 17).on .GAU_UTC 17 = true ∧ (leap 17).atGns ((leap 17).inForce .GAU_LEAP_AT) = true) ∧
    ((leap 18).on .GAU_UTC 17 = false ∧ (leap 18).on .GAU_UTC 18 = true ∧ (leap 18).atGns ((leap 18).inForce .GAU_LEAP_AT) = true) := by
  decide +kernel

theorem witness_StepEdgeCompletes :
    let d : Sched := ⟨0, 5, true, none, 0⟩
    let s := gauge { up.gau with sched := some d }
    s.gau.running = true ∧ s.gau.sched = some d ∧ s.stepNext = true := by
  decide +kernel

theorem witness_CandidateEventsComplete :
    let c (k : Nat) (x : Cand) (s : State := gauge second) := cand k x s
    let nosig := c 0 { Cand.reset with st := .nosig }
    let one := c 0 { Cand.reset with st := .wait, obs := [(0, 0)], acc := 1, seen := some 4000000000 } (put (gauge second) .SEL_PER 1000000000)
    let gone := c 29 { Cand.reset with st := .wait, seen := some 0 }
    let good := c 0 { Cand.reset with st := .wait, wtr := some 0, hist := List.replicate 12 (0, 0) } (gauge { second with l := 10 ^ 13 })
    let set := c 30 { Cand.reset with st := .nosig, hostAt := some 0 }
    let heard := (c 9 { Cand.reset with st := .qual }).setSq 15 seq
    let stale := c 29 { Cand.reset with st := .qual, post := some ⟨0, 0, 0, 0, 0⟩ } (gauge { second with g := 3600 * 10 ^ 9 * 2 ^ 40 })
    let locked : State := { gauge second with hld := { Hld.reset with whole := true } }
    (ownTime 9 = true ∧ ownTime 17 = true ∧ ownTime 26 = true ∧ ownTime 29 = true ∧ ownTime 0 = false ∧ ownTime 8 = false ∧
      ownTime 18 = false ∧ ownTime 25 = false) ∧
    (nosig.fresh (obsKey 0) = true ∧ (nosig.cand 0).st = .nosig ∧ one.fresh (obsKey 0) = true) ∧
    ((one.cand 0).st = .wait ∧ (one.cand 0).obs = [(0, 0)] ∧ (one.cand 0).seen = some 4000000000 ∧
      7 * one.inForce .SEL_PER 0 ≤ 8 * (one.gau.l - 4000000000) ∧ 8 * (one.gau.l - 4000000000) ≤ 9 * one.inForce .SEL_PER 0) ∧
    (gone.lost 29 = true) ∧
    (one.atSec = true ∧ one.fresh 0x22 = true ∧ (one.cand 0).acc ≠ 0 ∧ (one.cand 0).hist.length < 9) ∧
    (good.atSec = true ∧ good.qualifies 0 = true) ∧
    ((set.cand 30).hostAt = some 0 ∧ set.atSec = true ∧ 0 < set.gau.l ∧ (set.cand 30).st ≠ .off ∧ (set.cand 30).st ≠ .qual) ∧
    (heard.runs 15 = true ∧ heard.deaf 9 = false ∧ heard.isTime 9 = true ∧
      ({ heard with gnb := { Gns.reset with latches := [(7, 0, 0)] } } : State).latchKnown 7 = true ∧ (heard.cand 9).st = .qual) ∧
    ((stale.cand 29).post = some ⟨0, 0, 0, 0, 0⟩ ∧ ((stale.fl .SEL_SPAN 31 16 * 1000000 * 2 ^ 32 : Nat) : Int) < (stale.g32 : Int) - 0) ∧
    (locked.atSec = true ∧ locked.fresh 0x21 = true ∧ locked.gau.st = .locked) ∧
    locked.gau.running = true ∧ locked.atomV = false := by
  decide +kernel

theorem witness_SelectionTransactionsComplete :
    let x : Txn := ⟨1, 9, 0, 0, 0, none⟩
    let asked : Txn := { x with req := some 0 }
    let e (c : Change) : GateEntry := { (gauge second).entry c .hardware with recorded := some 1 }
    let with_ (t : Txn) (s : State := gauge second) : State := { s with sel := { s.sel with txn := some t } }
    let s := with_ x
    let r := with_ asked
    let u := with_ asked (near (gauge second))
    let w : State := { u with log := { u.log with gate := [e (.commit 1 9)] } }
    let out : State := { with_ asked with log := w.log }
    let bare : State := { with_ asked (cand 9 { Cand.reset with st := .qual } (near (gauge second))) with log := w.log }
    let f := cand 0 { Cand.reset with st := .qual } (put (put (gauge second) .SEL_CTL 1) .SEL_CFG (2 ^ 31))
    (s.hst.reads = [] ∧ s.sbd.wr = none ∧ s.sel.txn = some x ∧ x.at_ + x.align * 1000000000 ≤ s.gau.l ∧ s.warden.down = false ∧
      ({ s with warden := { s.warden with up := false, downAt := some 0 } } : State).warden.down = true) ∧
    (r.sel.txn = some asked ∧ 0 + 10000000 ≤ r.gau.l) ∧
    (w.log.gate = [e (.commit 1 9)] ∧ w.releasable (e (.commit 1 9)) = true ∧ w.sel.txn = some asked ∧ w.eligT 9 = true ∧
      w.winnerT = some 9 ∧ w.postReady asked = true) ∧
    (out.releasable (e (.commit 1 9)) = true ∧ out.sel.txn = some asked ∧ out.eligT 9 = false) ∧
    (bare.releasable (e (.commit 1 9)) = true ∧ bare.sel.txn = some asked ∧ bare.eligT 9 = true ∧ bare.winnerT = some 9 ∧
      bare.postReady asked = false) ∧
    (f.releasable (e (.fsel 0)) = true ∧ f.winnerF = some 0) := by
  decide +kernel
/-! ### Witnesses: outputs, measurement and calibration -/

/-- An output. -/
def out (i : Nat) (o : OutU) (s : State := gauge second) : State := s.setOutU i o

/-- A measurement channel. -/
def tdc (c : Nat) (x : TdcCh) (s : State) : State := { s with tdc := { s.tdc with chs := s.tdc.chs.set c x } }

/-- A calibrated unit. -/
def cal (i : Nat) (x : CalU) (s : State := gauge second) : State := { s with tdc := { s.tdc with units := s.tdc.units.set i x } }

theorem witness_OutputEventsComplete :
    let snap : State := { gauge second with out := { up.out with snap := some 0 } }
    let pps := out 15 { OutU.reset with sq := false, armed := some 0 } (put (gauge second) .OUT_CFG (2 ^ 31) 15)
    let m : TodMsg := ⟨0, 0, 0, 0, 0, 0, 0⟩
    let over_ := out 12 { OutU.reset with until_ := some 5000000000 }
    let open_ := put (out 14 { OutU.reset with sq := false } (out 16 { OutU.reset with todDue := [m] })) .OUT_CFG (2 ^ 31 + 2 * 2 ^ 15) 16
    let shut := out 17 { OutU.reset with todDue := [m] }
    let clk := out 19 { OutU.reset with realign := some 0 }
    let free := out 0 { OutU.reset with armed := some 0 } (put (gauge second) .OUT_CFG (2 ^ 31) 0)
    let word := out 19 { OutU.reset with armed := some 0, frame := 1 } (put (gauge second) .OUT_CFG (2 ^ 31) 19)
    let ready := out 12 { OutU.reset with armed := some 0 } (put (gauge second) .OUT_CFG (2 ^ 31) 12)
    (snap.out.snap = some 0 ∧ snap.atSec = true ∧ 0 + 2000 ≤ snap.gau.l) ∧
    (pps.ppsHere 3 = true ∧ (pps.outU (12 + 3)).sq = false ∧ (pps.outU (12 + 3)).until_ = none ∧
      (put pps .OUT_CFG (2 ^ 31 + 3 * 2 ^ 15) 17).on .OUT_CFG 31 17 = true ∧
      (put pps .OUT_CFG (2 ^ 31 + 3 * 2 ^ 15) 17).fl .OUT_CFG 16 15 17 = 3) ∧
    (over_.ppsHere 0 = false ∧ (over_.outU 12).until_ = some 5000000000 ∧ 5000000000 ≤ over_.gau.l) ∧
    ((open_.outU 16).todDue = [m] ∧ (open_.outU 16).txAt = none ∧ m.due ≤ open_.gau.l ∧ open_.squelchFull 16 = false) ∧
    ((shut.outU 17).todDue = [m] ∧ (shut.outU 17).txAt = none ∧ m.due ≤ shut.gau.l ∧ shut.squelchFull 17 = true) ∧
    ((clk.outU 19).realign = some 0 ∧ clk.tcEdge 1000000000 = true ∧ 0 + 2000 ≤ clk.gau.l) ∧
    (ready.squelchFull 12 = false ∧ ready.beginsHere 12 = true) ∧
    (free.gau.running = true ∧ free.squelchFull 0 = false ∧ (free.outU 0).half = none ∧ free.frameMode 0 = false ∧
      (free.clockBegins 0).isSome = true) ∧
    (word.squelchFull 19 = false ∧ (word.outU 19).half = none ∧ (word.outU 19).frame ≠ 0 ∧ (word.clockBegins 19).isSome = true) := by
  decide +kernel

/-- Channel `c` alone takes the edge. -/
def only (s : State) (c src : Nat) (stop fall : Bool) : Prop :=
  s.flt.halt = false ∧ src < 49 ∧ (fall = false → edgeCand src = none) ∧ s.isLbk c = false ∧ s.on .TDC_CFG 31 c = true ∧
    s.feeds c stop src fall = true ∧ s.feeds c (!stop) src fall = false ∧
    ((List.range 24).all fun d => d == c || !(s.feeds d false src fall || s.feeds d true src fall)) = true

/-- A channel of the interval mode between start source 0, falling, and stop source 48, rising. -/
def twoEdges : State := put (put (gauge second) .TDC_CFG (2 ^ 31 + 2 ^ 30 + 2 ^ 29 + 48 * 2 ^ 8) 0) .TDC_DIV 1 0

theorem witness_MeasurementEventsComplete :
    let en (v : Nat) (c : Nat) : State := put (put (gauge second) .TDC_CFG v c) .TDC_DIV 1 c
    let many := put (en (2 ^ 31 + 48 * 2 ^ 16) 22) .TDC_DIV 5 22
    let one := (en (2 ^ 31 + 2 ^ 29) 0).setSq 0 seq
    let st := one.stampNow 639 false 0
    let m : Msg := ⟨0x20, 0, recordWords 1 0 0 st none false 0⟩
    (only many 22 48 false false ∧ many.on .TDC_CFG 30 22 = false ∧ (many.tdcCh 22).nStart + 1 < many.fl .TDC_DIV 23 0 22) ∧
    (only one 0 0 false true ∧ one.on .TDC_CFG 30 0 = false ∧ one.fl .TDC_DIV 23 0 0 ≤ (one.tdcCh 0).nStart + 1 ∧
      inDead ((one.tdcCh 0).seen (one.tdcCh 0).turnB) one.gau.l 639 = false ∧ one.fl .TDC_CFG 27 26 0 = 0 ∧
      (one.tdcCh 0).fifo = [] ∧ (one.tdcCh 0).drainAt ≤ one.gau.l ∧
      one.fl .CLU_TDC_MAP 3 0 0 = 0 ∧ one.listens 0 = true ∧ one.room 0 2 m = true) := by
  unfold only; decide +kernel

theorem witness_MeasurementPairsComplete :
    let st := twoEdges.stampNow 639 true 1
    let stop := tdc 0 { TdcCh.reset with stop := some st } twoEdges
    let late := tdc 0 { TdcCh.reset with start := some { st with l := 0 } } twoEdges
    let idle : State := put (gauge second) .TDC_CTL 2
    (only twoEdges 0 0 false true ∧ only twoEdges 0 48 true false ∧ twoEdges.on .TDC_CFG 30 0 = true ∧
      inDead ((twoEdges.tdcCh 0).seen false) twoEdges.gau.l 0 = false ∧ inDead ((twoEdges.tdcCh 0).seen true) twoEdges.gau.l 639 = false ∧
      (twoEdges.tdcCh 0).rearm = none ∧ (twoEdges.tdcCh 0).start = none ∧ (twoEdges.tdcCh 0).stop = none ∧
      twoEdges.fl .TDC_DIV 23 0 0 ≤ (twoEdges.tdcCh 0).nStart + 1 ∧ twoEdges.fl .TDC_DIV 23 0 0 ≤ (twoEdges.tdcCh 0).nStop + 1) ∧
    (only stop 0 0 false true ∧ stop.on .TDC_CFG 30 0 = true ∧ inDead ((stop.tdcCh 0).seen false) stop.gau.l 0 = false ∧
      (stop.tdcCh 0).rearm = none ∧ (stop.tdcCh 0).start = none ∧ (stop.tdcCh 0).stop = some st ∧
      stop.fl .TDC_DIV 23 0 0 ≤ (stop.tdcCh 0).nStart + 1) ∧
    (late.tdcLate 0 = true) ∧ (idle.visitOver = true ∧ idle.flt.halt = false) := by
  unfold only; decide +kernel

theorem witness_CalibrationEventsComplete :
    let u : CalUnit := .tdc 23 true
    let s := cal 47 CalU.reset
    let hit := cal 47 { CalU.reset with live := some 4999999997 }
    let soon := cal 47 { CalU.reset with injAt := some 4999999961 }
    let old := gauge { second with l := 10 ^ 14 }
    let due := cal 47 { CalU.reset with ready := some [] }
    calIdx u = 47 ∧
    (hit.flt.halt = false ∧ (hit.calU (calIdx u)).injAt.all (fun t => decide (t + 40 ≤ hit.gau.l)) = true ∧
      hit.collides (calIdx u) = true) ∧
    ((soon.calU (calIdx u)).injAt = some 4999999961 ∧ soon.gau.l < 4999999961 + 40) ∧
    (s.flt.halt = false ∧ (s.calU (calIdx u)).injAt.all (fun t => decide (t + 40 ≤ s.gau.l)) = true ∧
      s.collides (calIdx u) = false ∧ s.calFrozen u = false ∧ (s.calU (calIdx u)).ready = none ∧
      (s.calU (calIdx u)).hits + 1 < 2 ^ 20) ∧
    ((old.calU (calIdx u)).ready = none ∧ (old.calU (calIdx u)).passAt + old.fl .TDC_CAL 15 0 * 1000000000 ≤ old.gau.l) ∧
    due.swapDue u = true := by
  decide +kernel
/-! ### Witnesses: the baseband, sequencers and Ethernet -/

/-- The baseband. -/
def gns (g : Gns) (s : State := put (gauge second) .GNS_CTL (2 ^ 31)) : State := { s with gnb := g }

/-- Channel 191, of port 0. -/
def chan (x : Chan) (s : State := put (gauge second) .GNS_CTL (2 ^ 31)) : State := gns { s.gnb with chs := [(191, x)] } s

/-- Port 3, enabled, at `x`. -/
def fe (x : Fe) : State := put (gns { Gns.reset with fes := [(3, x)] }) .FE_CFG (2 ^ 31) 3

/-- Port 0 has sample 1023 at the present edge. -/
def sampled : State := put (gns { Gns.reset with fes := [(0, { Fe.reset with scnt := 1023, now := some 0 })] }) .CH_CFG (2 ^ 8) 191

theorem witness_BasebandTrackingCompletes :
    let lost := fe Fe.reset
    let rate (p n : Nat) := put (fe { Fe.reset with secAt := some p, scnt := n }) .FE_FS 4000000 3
    let cnt (p n : Nat) : Nat := (n + 2 ^ 64 - p) % 2 ^ 64
    let spi := gns { Gns.reset with spiBusy := true } (put (gauge second) .GNS_SPI_CTL (8 * 2 ^ 16))
    let go := put (put up .GNS_CTL (2 ^ 31)) .CH_CFG (2 ^ 8) 191 |>.setSq 0 seq
    let own := (put (chan { Chan.reset with st := .armed } (gauge second)) .CH_CFG 15 191).setSq 15 seq
    let first := chan { Chan.reset with st := .armed, at_ := 1023 } sampled
    let ends (st : ChState) := chan { Chan.reset with st := st, cw := 2 ^ 32, pend := some (1, 1) } sampled
    let heard := (ends .tracking).setSq 0 seq
    let ind := gns { Gns.reset with ind := [(3, (true, 0))] } (put (gauge second) .GNS_IND_CTL 1)
    (lost.feOn 3 = true ∧ lost.clockGone 3 = true ∧ lost.fl .FLT_SRC_CFG 2 0 17 ≠ 2) ∧
    (lost.atSec = true ∧ lost.fresh (0x1F0 + 3) = true ∧ (lost.fe 3).secAt = none) ∧
    ((rate (2 ^ 64 - 1) 3999599).feOn 3 = true ∧ (rate (2 ^ 64 - 1) 3999599).atSec = true ∧
      (((cnt (2 ^ 64 - 1) 3999599 : Nat) : Int) - 4000000).natAbs * 10000 ≤ 4000000 ∧ (rate 0 3999599).inForce .FE_FS 3 = 4000000 ∧
      4000000 < (((cnt 0 3999599 : Nat) : Int) - 4000000).natAbs * 10000) ∧
    (spi.gnb.spiBusy = true ∧ spi.gnb.spiEnd ≤ spi.gau.l ∧ spi.fl .GNS_SPI_CTL 19 16 ≤ 8) ∧
    (go.runs 0 = true ∧ (go.chan 191).st ≠ .armed ∧ (go.chan 191).st ≠ .tracking ∧ go.on .GNS_CTL 31 = true ∧ go.flt.halt = false ∧
      go.judgeChan 191 1000000000 = .none) ∧
    (first.trackDue 191 = true) ∧
    (own.runs 15 = true ∧ own.fl .CH_CFG 3 0 191 = 15 ∧ (own.chan 191).st = .armed) ∧
    ((ends .tracking).dumpDue 191 = true ∧ (ends .coast).dumpDue 191 = true ∧ ((ends .coast).chan 191).st = .coast) ∧
    (heard.dumpDue 191 = true ∧ (heard.chan 191).st = .tracking ∧ heard.fl .CH_CFG 3 0 191 = 0 ∧ heard.listens 0 = true ∧
      (heard.sq 0).inbox.get 3 [] = []) ∧
    (ind.gnb.ind.get 3 (false, 0) = (true, 0) ∧ ind.atSec = true ∧ 0 < ind.gau.l ∧
      0 + ind.fl .GNS_IND_CTL 15 0 * 1000000000 ≤ ind.gau.l) := by
  decide +kernel

/-- A job of slot 15 over 1 ms of a swatch, with one bin, whose evaluation is over. -/
def job : State :=
  let s := put (put (put (gauge second) .ACQ_CFG (2 ^ 28) 15) .ACQ_INT 0x101 15) .ACQ_DOP (2 ^ 8) 15
  gns { Gns.reset with acqQ := [15, 3], acqRun := some ⟨0, none, 0, [], none⟩ } s

theorem bestCell_some (r : List AcqCell) : r ≠ [] → ∃ b, bestCell r = some b := by
  intro h
  match r with
  | [] => exact absurd rfl h
  | x :: r =>
    simp only [bestCell]
    split <;> exact ⟨_, rfl⟩

/-- Whatever the powers of the cells, one of them is the best. -/
theorem witness_BasebandReportComplete (xs : List Byte) :
    ∃ b second sum num, acqReport ((gnssSignal (job.jobSig 15)).chips * 2 ^ 32) (job.acqCells 15 xs) none = some (b, second, sum, num) := by
  have hb : job.fl .ACQ_DOP 15 8 15 = 1 := by decide +kernel
  have hc : (gnssSignal (job.jobSig 15)).chips = 1023 := by decide +kernel
  have hn : job.acqCells 15 xs ≠ [] := by
    intro h
    have := congrArg List.length h
    simp [State.acqCells, hb, hc] at this
  obtain ⟨b, e⟩ := bestCell_some _ hn
  simp [acqReport, e]

theorem witness_BasebandCapturesComplete :
    let bad : State := { job with mem := { job.mem with failed := true } }
    let rd (s : State) := s.memRead 4 (s.inForce .ACQ_SWADDR 15) (s.jobNeed 15)
    let sw (w : Swatch) (st : Nat) := gns { Gns.reset with swSt := st, sw := w }
    let part (n : Nat) : Swatch := { Swatch.reset with mask := 8, part := 4, ports := [(3, ⟨some (0, 0), n, []⟩)] }
    let s := gns Gns.reset (put (put (gauge second) .GNS_CTL (2 ^ 31)) .GNS_LATCH 1000)
    (job.gnb.acqQ = 15 :: [3] ∧ job.gnb.acqRun = some ⟨0, none, 0, [], none⟩ ∧ 15 ∉ [3] ∧ job.acqReady.any (fun t => decide (t ≤ job.gau.l)) = true ∧
      job.on .ACQ_CFG 28 15 = true ∧ job.on .ACQ_CFG 29 15 = false ∧ (rd job).2.1 = false) ∧
    (bad.gnb.acqQ = 15 :: [3] ∧ bad.acqReady.any (fun t => decide (t ≤ bad.gau.l)) = true ∧ (rd bad).2.1 = true) ∧
    (s.latchDue = true ∧ s.fresh 0x100 = true) ∧
    ((sw Swatch.reset 1).gnb.swSt = 1 ∧ (sw Swatch.reset 1).due40 (sw Swatch.reset 1).gnb.sw.at_ = true) ∧
    (sw { part 0 with stuck := true } 2).gnb.sw.stuck = true ∧
    ((sw (part 4096) 2).gnb.swSt = 2 ∧ (sw (part 4096) 2).gnb.sw.stuck = false ∧ (sw (part 4096) 2).swFull = true) := by
  decide +kernel

theorem witness_SequencerEventsComplete :
    let wait := (gauge second).setSq 0 { seq with st := .waiting, wait := some (0, 1) }
    let at_ := (gauge second).setSq 159 { Seq.reset with st := .starting, start := some (0, true) }
    let wd := put (put ((gauge second).setSq 0 seq) .SEQ_WD (2 ^ 30 + 5) 0) .FLT_SRC_CFG 1 12
    let fence := put wd .FLT_SRC_CFG 2 12
    let e : Ev := ⟨3, 15, 0, 7⟩
    let ev := ((gauge second).setSq 3 seq).setClu 9 { Clu.reset with evs := [e] }
    let load := (gauge second).setClu 9 { Clu.reset with load := 1, mask := 1 }
    let down : State := { load with warden := ⟨false, none, none⟩ }
    ((wait.sq 0).st = .waiting ∧ (wait.sq 0).wait = some (0, 1) ∧ wait.due40 0 = true) ∧
    at_.startDue 159 = true ∧ (wd.wdMissed 0 = true ∧ wd.fl .FLT_SRC_CFG 2 0 12 < 2 ∧ wd.fl .SEQ_WD 31 30 0 = 1) ∧
    (fence.wdMissed 0 = true ∧ fence.fl .FLT_SRC_CFG 2 0 12 = 2) ∧
    (ev.firstDue (ev.clu 9).evs = some e ∧ e.port = 15 ∧ e.n < 160 ∧ ev.listens e.n = true) ∧
    ((down.clu 9).load = 1 ∧ down.warden.up = false) ∧
    ((load.clu 9).load = 1 ∧ load.warden.up = true ∧ load.log.gate = [] ∧ load.log.held = false ∧
      (load.readImage (load.inForce .CLU_LOAD_ADDR 9)).2.logRoom 2 = true) := by
  decide +kernel

/-- Port 7 enabled in mode 1 with its link up. -/
def port (x : EthP) (s : State := gauge second) : State := put { s with eth := [(7, { x with link := true })] } .ETH_CFG (2 ^ 31 + 2 ^ 28 + 1518) 7

/-- A frame of 60 bytes. -/
def frame : TxFrame := ⟨0, .raw (List.replicate 60 0), [], 64, true, false, 0, none⟩

/-- A stamp of the present edge. -/
def stamp : StampV := (gauge second).stampNow 639 false 0

theorem witness_EthernetReceiveCompletes :
    let s := port EthP.reset
    let l : List Byte := List.replicate 64 0
    let to_ := put (put s .ETH_RXQ_CFG (2 ^ 30 + 100) 7) .DMA_CFG (2 * 2 ^ 28)
    let u := to_.boundary (.frame 7)
    let tsv := put s .ETH_RXQ_CFG (2 * 2 ^ 30 + 1) 7
    let full : EthP := { EthP.reset with rx := [⟨0, 2, [], stamp, (gauge second).qualNow, 0, l, false, 0⟩] }
    let off (t : Nat) := put (put (port { full with xoff := [(8, t)] }) .ETH_PAUSE (2 ^ 29 + 100) 7) .ETH_LOWM 0 7
    let pfc := put s .ETH_PAUSE (2 ^ 31 + 2 ^ 23) 7
    let edge (s : State) : Prop := (s.ep 7).xoff.get 8 0 - 2 + s.bitsNs 7 (s.fl .ETH_PAUSE 15 0 7 * 256) ≤ s.gau.l
    ((s.ep 7).link = true ∧ s.portOn 7 = true ∧ pauseIn l = none ∧ 8 ∉ s.pauseClasses 7) ∧
    ((to_.ep 7).link = true ∧ to_.portOn 7 = true ∧ l.length ≤ to_.fl .ETH_CFG 13 0 7 ∧
      u.queueOf 7 (parseFrame l) ((parseFrame l).dport l) = 0 ∧ u.fl .ETH_RXQ_CFG 31 30 7 0 = 1 ∧ u.fl .ETH_RXQ_CFG 19 16 7 0 = 0 ∧
      u.fl .DMA_CFG 30 28 0 = 2 ∧ u.on .ETH_RXQ_CFG 26 7 0 = false ∧
      (to_.ep 7).occ (fun g => decide (g.q = 0)) + units l.length ≤ u.fl .ETH_RXQ_CFG 13 0 7 0 ∧
      (to_.ep 7).occ (fun _ => true) + units l.length ≤ 8192) ∧
    ((tsv.boundary (.frame 7)).fl .ETH_RXQ_CFG 31 30 7 0 = 2 ∧ (tsv.boundary (.frame 7)).on .ETH_RXQ_CFG 26 7 0 = false ∧
      units l.length ≤ (tsv.boundary (.frame 7)).fl .ETH_RXQ_CFG 13 0 7 0) ∧
    (8 ∈ (off 2).pauseClasses 7 ∧ (off 2).portOn 7 = true ∧ 2 ≤ ((off 2).ep 7).xoff.get 8 0 ∧
      (off 2).inForce .ETH_LOWM 7 < ((off 2).ep 7).occ (fun _ => true) ∧ edge (off 2) ∧ ¬ edge (off 5000000002)) ∧
    (pfc.portOn 7 = true ∧ pfc.on .ETH_PAUSE 31 7 = true ∧ bitOn (0x80 : Byte).toNat 7 = true ∧ pfc.on .ETH_PAUSE (16 + 7) 7 = true ∧
      pfc.on .ETH_PAUSE (16 + 6) 7 = false ∧ (put s .ETH_PAUSE 0 7).on .ETH_PAUSE 31 7 = false) ∧
    s.paused 7 7 = false := by
  decide +kernel

theorem witness_EthernetTransmitCompletes :
    let q := port { EthP.reset with txq := [frame] }
    let xoff : TxFrame := tsvFrame 7 (.pause 8 65535 true) 60
    let own := put (port { EthP.reset with ctl := [xoff], xoff := [(8, 1)] }) .ETH_PAUSE (2 ^ 29) 7
    let done := port { EthP.reset with cur := some ⟨frame, 0, 0, 0, false, false, some stamp, none⟩ }
    let st (n : Nat) := port { EthP.reset with stamps := [(frame, stamp)], txts := List.replicate n [] }
    (q.portOn 7 = true ∧ (q.ep 7).link = true ∧ (q.ep 7).ctl = [] ∧ (q.ep 7).cur = none ∧ (q.ep 7).held = none ∧ q.ready 7 = [frame] ∧
      frame.pay = .raw (List.replicate 60 0) ∧ frame.oneStep = false) ∧
    (own.portOn 7 = true ∧ (own.ep 7).ctl = [xoff] ∧ (own.ep 7).cur = none ∧ xoff.pay = .pause 8 65535 true ∧ 8 ∈ own.pauseClasses 7 ∧
      (own.ep 7).xoffOn 8 = true) ∧
    ((done.ep 7).ctl = [] ∧ (done.ep 7).txq = [] ∧ (done.ep 7).held = none ∧
      (done.ep 7).cur = some ⟨frame, 0, 0, 0, false, false, some stamp, none⟩ ∧ 0 ≤ done.lineNs) ∧
    (((st 0).ep 7).stamps = [(frame, stamp)] ∧ ((st 0).ep 7).txts.length < 1024) ∧ 1024 ≤ ((st 1024).ep 7).txts.length := by
  decide +kernel

theorem witness_EthernetRowsComplete :
    let row := put (port EthP.reset) .ETH_ROW_CTL (2 ^ 31) 7
    let swap := put (put (put (port EthP.reset) .ETH_ROW_CTL (2 ^ 31 + 2 ^ 29) 7) .ROWT_CYCLE 125000 7) .ROWT_NSLOT 1 7
    let slot := put (port { EthP.reset with rowRun := true, slot := 3 }) .ETH_ROW_CTL (2 ^ 31) 7
    let pre (v t : Nat) := put (port { EthP.reset with verify := v, tries := t, verifyAt := 4990000000 }) .ETH_PREEMPT (2 ^ 31 + 10) 7
    let soon := put (pre 2 1) .ETH_PREEMPT (2 ^ 31 + 11) 7
    let waited (s : State) : Prop := (s.ep 7).verifyAt + s.fl .ETH_PREEMPT 7 0 7 * 1000000 ≤ s.gau.l
    let marked (t : Nat) := put (port { EthP.reset with markAt := some t }) .ETH_TEN (1000 * 2 ^ 16) 7
    (row.fresh (0x400 + 7) = true ∧ row.on .ETH_ROW_CTL 29 7 = false ∧ row.on .ETH_ROW_CTL 31 7 = true ∧
      row.cycleAt 7 (row.ep 7).act.1 (row.ep 7).act.2.1 = true) ∧
    (swap.fresh (0x400 + 7) = true ∧ swap.swapDueRow 7 = true ∧ swap.shadowValid 7 = true) ∧
    (slot.on .ETH_ROW_CTL 31 7 = true ∧ (slot.ep 7).rowRun = true ∧ slot.slotAt 7 ≠ (slot.ep 7).slot) ∧
    (((pre 1 0).ep 7).verify = 1 ∧ (pre 1 0).portOn 7 = true ∧ ((pre 2 2).ep 7).verify = 2 ∧ waited (pre 2 2) ∧ waited (pre 2 3) ∧
      ((pre 2 2).ep 7).tries < 3 ∧ 3 ≤ ((pre 2 3).ep 7).tries ∧ (soon.ep 7).verify = 2 ∧ ¬ waited soon) ∧
    (row.portOn 7 = true ∧ (row.ep 7).cur = none ∧ (row.ep 7).markAt = none) ∧
    (((marked 4000000000).ep 7).markAt = some 4000000000 ∧
      4000000000 + (marked 4000000000).fl .ETH_TEN 31 16 7 * 1000000 ≤ (marked 4000000000).gau.l) := by
  decide +kernel

/-! ### Witnesses: the time service -/

/-- TSV on, and the instance of port 7 in state `st` with the profile `pr`; its port is up. -/
def ptp (x : PtpI) (pr : Nat := 0) (s : State := gauge second) : State :=
  let t := put (put (put (port EthP.reset s) .TSV_CTL (2 ^ 31 + 1)) .PTP_CFG (2 ^ 31 + pr * 2 ^ 28 + 3 * 2 ^ 23) 7) .TSV_CLOCKID 9
  t.setInst 7 x

/-- A MASTER. -/
def master : State := ptp { PtpI.reset with st := 2 }

/-- A session of port 7 that holds three grants; two run until a minute of local time has passed. -/
def session : Session := ⟨7, 5, 1, false, 0, some ⟨0, none, 60000000000⟩, some ⟨0, some 1, 60000000000⟩, some ⟨0, none, 3⟩⟩

/-- A state with entry 4095 of the session table taken. -/
def inSession (s : State) (x : Session := session) : State := { s with tsv := { s.tsv with sess := [(4095, x)] } }

/-- A foreign master at address `a` of IPv4. -/
def foreign (a : Nat) (uc : Bool) : Foreign := ⟨5, 1, (false, a), uc, ⟨0, 0, 0, 0, 0, 0, 0, 0⟩, 10 ^ 9, [0], true⟩

/-- Port 7 takes frames, and its instance sends without authentication. -/
def sender (s : State) : Prop := (s.ep 7).link = true ∧ s.portOn 7 = true ∧ s.on .PTP_AUTH 31 7 = false ∧ s.flt.relinq = false

/-- An edge half a second into the period of Delay_Req or Pdelay_Req. -/
def half (x : PtpI) (pr : Nat) : State := put (ptp x pr) .PTP_SYNC_OFS 500000000 7

theorem witness_PtpInstantsComplete :
    let fast := put master .PTP_RATE 0 7
    let m := put (inSession master) .PTP_SYNC_OFS (10 ^ 9 - 4095 * 10 ^ 9 / 4096) 7
    let group (k : Nat) (s : State) := s.masterOn 7 = true ∧ s.on .PTP_CFG 24 7 = true ∧
      s.atPhase (logNs (s.logOf 7 k)) (s.syncOfs 7 % logNs (s.logOf 7 k)) = true ∧ s.fresh (0x1000 + 16 * 7 + k) = true
    let single (key : Nat) (s : State) := s.masterOn 7 = true ∧ s.sess 4095 = some session ∧ session.port = 7 ∧
      s.gau.l < 60000000000 ∧ s.atPhase (logNs 0) (s.sessOfs 7 4095 0) = true ∧ s.fresh key = true
    let f := port { EthP.reset with fup := [frame] }
    (sender fast ∧ group 0 fast ∧ group 1 fast) ∧
    (sender m ∧ single (0x10000 + 4095) m ∧ single (0x20000 + 4095) m) ∧
    ((f.ep 7).cur = none ∧ (f.ep 7).fup = frame :: [] ∧ f.mayLaunch frame.pay = true) := by
  unfold sender; decide +kernel

theorem witness_PtpDelayInstantsComplete :
    let slave (uc : Bool) := half { PtpI.reset with st := 3, foreign := [foreign 0 uc] } 0
    let p2p := ptp { PtpI.reset with st := 3 } 3
    let asks (s : State) := s.ptpOn 7 = true ∧ s.standby = false ∧ (s.inst 7).st = 3 ∧ s.profile 7 ≠ 3 ∧
      s.atPhase (logNs (s.logOf 7 2)) ((s.syncOfs 7 + logNs (s.logOf 7 2) / 2) % logNs (s.logOf 7 2)) = true ∧
      s.fresh (0x1002 + 16 * 7) = true
    (sender (slave false) ∧ asks (slave false) ∧ (slave false).erbest 7 = some (foreign 0 false)) ∧
    (asks (slave true) ∧ (slave true).erbest 7 = some (foreign 0 true)) ∧
    (sender p2p ∧ p2p.ptpOn 7 = true ∧ p2p.standby = false ∧ p2p.profile 7 = 3 ∧
      p2p.atPhase (logNs (p2p.logOf 7 3)) (p2p.syncOfs 7 % logNs (p2p.logOf 7 3)) = true ∧ p2p.fresh (0x1003 + 16 * 7) = true) := by
  unfold sender; decide +kernel

/-- A PTP message from clock 5: messageType with sdoId, its first flag octet, and what follows the header. -/
def ptpBytes (type flag : Nat) (body : List Byte) : List Byte :=
  bytesLE 1 type ++ [2, 0, BitVec.ofNat 8 (34 + body.length), 0, 0] ++ bytesLE 1 flag ++ List.replicate 13 0 ++
    [0, 0, 0, 0, 0, 0, 0, 5, 0, 1, 0, 7, 0, 0] ++ body

/-- The frame that brings it, by multicast on Ethernet. -/
def l2 (m : List Byte) : List Byte := List.replicate 12 1 ++ [0x88, 0xF7] ++ m

/-- A received frame on chip, for TSV. -/
def rx (l : List Byte) : RxFrame := ⟨0, 2, List.replicate 8 0, stamp, (gauge second).qualNow, 0, l, false, 0⟩

/-- The frame waits in port 7. -/
def heard (l : List Byte) (s : State) : State := { s with eth := s.eth.set 7 { s.ep 7 with rx := [rx l] } }

/-- A frame of this kind waits, its message is accepted (or not), and of the message `q` holds. -/
def comes (s : State) (k : TsvKind) (l : List Byte) (ok : Bool) (q : PtpIn → Bool) : Prop :=
  Waits s 7 k (rx l) ∧ s.ptpOn 7 = true ∧ s.on .PTP_AUTH 31 7 = false ∧
    ((ptpIn (rx l)).any fun m => decide (m.srcId ≠ s.inForce .TSV_CLOCKID) && (s.ptpMatches 7 m == ok) && q m) = true

theorem witness_PtpReceiveCompletes :
    let z (n : Nat) : List Byte := List.replicate n 0
    let slave := ptp { PtpI.reset with st := 3, parent := some (5, 1) }
    let p2p := ptp PtpI.reset 3
    let open_ (s : State) := (s.ep 7).link = true ∧ s.portOn 7 = true ∧ s.flt.relinq = false ∧ (s.inst 7).answered < 16384
    let is (k : PtpKind) (two : Bool) (m : PtpIn) : Bool := m.kind == some k && m.twoStep == two && m.srcId == 5 && m.srcPort == 1
    let sync (b : Nat) := l2 (ptpBytes 0 b (z 10))
    let dreq := l2 (ptpBytes 1 0 (z 10))
    comes (heard (sync 0) p2p) .ptp (sync 0) false (fun _ => true) ∧
    comes (heard (l2 (ptpBytes 11 0 (z 30))) slave) .ptp (l2 (ptpBytes 11 0 (z 30))) true (is .announce false) ∧
    (comes (heard (sync 2) slave) .ptp (sync 2) true (is .sync true) ∧ (slave.inst 7).st = 3 ∧ (slave.inst 7).parent = some (5, 1)) ∧
    (comes (heard dreq master) .ptp dreq true (fun m => is .delayReq false m && !m.uc) ∧ open_ master ∧ master.masterOn 7 = true ∧
      master.profile 7 ≠ 3 ∧ master.on .PTP_CFG 24 7 = true) ∧
    (comes (heard (l2 (ptpBytes 18 0 (z 20))) p2p) .ptp (l2 (ptpBytes 18 0 (z 20))) true (is .pdelayReq false) ∧ open_ p2p ∧
      p2p.profile 7 = 3) ∧
    (master.atSec = true ∧ master.fresh 0x25 = true ∧ master.tsvOn = true) := by
  unfold comes Waits; decide +kernel

theorem witness_PtpSyncCompletes :
    let sync := l2 (ptpBytes 0 0 (List.replicate 10 0))
    let s := heard sync ((ptp { PtpI.reset with st := 3, parent := some (5, 1) }).setSq 0 seq)
    let u (m : PtpIn) := ((s.rxLeave 7 (rx sync)).setInst 7 { s.inst 7 with wait := none }).syncObs 7 stamp m.sec m.ns m.corr
    comes s .ptp sync true (fun m => m.kind == some .sync && m.srcId == 5 && m.srcPort == 1 && !m.twoStep &&
      decide ((u m).fl .TSV_CTL 27 24 = s.fl .TSV_CTL 27 24) && (u m).listens 0 &&
      (u m).room 0 4 ⟨0x40, 7, syncWords m.seqId m.sec m.ns m.corr 0 (rx sync).stamp⟩) ∧ s.fl .TSV_CTL 27 24 = 0 := by
  unfold comes Waits; decide +kernel

/-- A negotiation message with one TLV of Sync or Announce. -/
def uc (b : List Byte) : List Byte := l2 (ptpBytes 12 0 (List.replicate 10 0xFF ++ b))

theorem witness_UnicastNegotiationCompletes :
    let req := uc [0, 4, 0, 6, 0, 0, 0, 0, 1, 0x2C]
    let can := uc [0, 6, 0, 2, 0xB0, 0]
    let mine (s : State) := s.on .PTP_CFG 23 7 = true ∧ s.masterOn 7 = true
    let has (k : Nat) (t : List Byte) (g : GrantKind) (m : PtpIn) : Bool :=
      m.kind == some .signaling && m.tlvs == [(k, t)] && grantOf (fb t 0) == some g
    let s := heard req master
    let c := heard can (inSession master { session with addr := 0x010101010101 })
    (mine s ∧ comes s .request req true (fun m => has 4 [0, 0, 0, 0, 1, 0x2C] .sync m && decide (s.minLog .sync ≤ sext 8 0) &&
      decide (s.findSess 7 m.srcId m.srcPort m.v6 m.addr = none)) ∧ s.freeSess = some 0) ∧
    (mine c ∧ (c.sess 4095).isSome = true ∧ comes c .cancel can true (fun m => has 6 [0xB0, 0] .announce m &&
      decide (c.findSess 7 m.srcId m.srcPort m.v6 m.addr = some 4095))) := by
  unfold comes Waits; decide +kernel

theorem witness_UnicastClientCompletes :
    let a (cs : List ClientGrant) :=
      (put (put master .PTP_UCM (2 ^ 31) 7 3) .PTP_RATE 0 7).setInst 7 { PtpI.reset with st := 3, parent := some (5, 1), foreign := [foreign 0 true], clients := cs }
    let held : ClientGrant := ⟨3, .delayResp, true, false, 3000000000, 4⟩
    let no : ClientGrant := ⟨3, .announce, false, true, 4000000000, 4⟩
    (session.grant .delayResp = some ⟨0, none, 3⟩ ∧ 3 ≤ (inSession master).gau.l) ∧
    ((a []).mayAsk 7 3 .sync = true ∧ (a []).clientOf 7 3 .sync = none) ∧
    ((a [held]).mayAsk 7 3 .delayResp = true ∧ (a [held]).clientOf 7 3 .delayResp = some held ∧
      held.at_ + held.dur * 500000000 ≤ (a [held]).gau.l) ∧
    ((a [no]).mayAsk 7 3 .announce = true ∧ (a [no]).clientOf 7 3 .announce = some no ∧
      no.at_ + logNs ((a [no]).logOf 7 1) ≤ (a [no]).gau.l) := by
  decide +kernel

/-- An NTP packet in a frame over IPv4. -/
def ip4 (m : List Byte) : List Byte :=
  List.replicate 12 0 ++ [8, 0, 0x45, 0, 0, 0, 0, 0, 0, 0, 64, 17] ++ List.replicate 10 0 ++ [0, 123, 0, 123, 0, BitVec.ofNat 8 (8 + m.length), 0, 0] ++ m

/-- A request of version 4, or what is none by its mode. -/
def ntpAsk (mode : Byte := 3) : List Byte := [4 * 8 + mode] ++ List.replicate 47 0

/-- A cookie of 104 bytes of the first generation of slot 0. -/
def cookie : List Byte := [0, 0, 0, 1] ++ List.replicate 100 0

/-- A request with a cookie. -/
def ntsAsk (c : List Byte) : List Byte :=
  ntpAsk ++ [1, 4, 0, 36] ++ List.replicate 32 0 ++ [2, 4, 0, BitVec.ofNat 8 (4 + c.length)] ++ c ++ [4, 4, 0, 40, 0, 16, 0, 16] ++
    List.replicate 32 0

/-- A state that answers NTP and NTS: slot 0 holds the current master key, which lane 0 has loaded. -/
def ntpUp : State :=
  let s := put master .TSV_NTP_CTL (7 * 2 ^ 29)
  { s with
    tsv := { s.tsv with cur := some 0 }
    key := { s.key with slots := [(0, ⟨KeyBank.zero, KeyBank.zero, commitWord 1, false⟩)], lanes := [(0, (0, 1))] } }

theorem witness_TimeServiceRequestsComplete :
    let live (s : State) := (s.ep 7).link = true ∧ s.portOn 7 = true ∧ s.flt.relinq = false
    let mint := put (put ntpUp .TSV_MINT_REQ_PROD 1) .TSV_MINT_LEN 64
    let rot : State := { master with tsv := { master.tsv with rot := some 1000 } }
    let at_ (k : TsvKind) (m : List Byte) (s : State) := Waits s 7 k (rx (ip4 m)) ∧ ntpIn (rx (ip4 m)) = some m ∧ live s ∧ s.ntpOn = true ∧
      s.tsv.ntpAt ≤ 6 * s.gau.l ∧ s.tsv.ntsAt ≤ 6 * s.gau.l
    let ntp (m : List Byte) := heard (ip4 m) ntpUp
    let nts (c : List Byte) (q : NtsIn → Bool) := at_ .nts (ntsAsk c) (ntp (ntsAsk c)) ∧ 0 < ntpUp.ntsLanes ∧
      ntpUp.ntpTakes (ntsAsk c) = true ∧ ntpUp.on .TSV_NTP_CTL 30 = true ∧
      ((ntsIn (ntsAsk c)).any fun x => x.uid == List.replicate 32 0 && x.cookie == c && q x) = true
    (at_ .ntp ntpAsk (ntp ntpAsk) ∧ ntpUp.ntpTakes ntpAsk = true ∧ ntpUp.on .TSV_NTP_CTL 29 = true) ∧
    (at_ .ntp (ntpAsk 4) (ntp (ntpAsk 4)) ∧ ntpUp.ntpTakes (ntpAsk 4) = false) ∧
    (nts [] fun _ => true) ∧ (nts cookie fun q => decide (q.at_ = 192)) ∧ mint.mintReady = true ∧
    (rot.tsv.rot = some 1000 ∧ rot.tsvOn = true ∧ rot.gau.running = true ∧ 1000 ≤ rot.gns) := by
  unfold Waits; decide +kernel

/-- What the statement asks of a cookie that opens, up to what the free functions of Config give. -/
theorem witness_NtsCookie :
    cookie.length = 104 ∧ ntpUp.tsv.cur = some 0 ∧ fb cookie 0 = 0 ∧ beNat (sub cookie 1 3) = (ntpUp.kslot 0).gen ∧
      (ntpUp.key.lanes.any fun l => l.1 == ntpUp.ntsLane && l.2 == (0, (ntpUp.kslot 0).gen)) = true := by
  decide +kernel

/-! ### Witnesses: the write gate -/

/-- The gate as given. -/
def gated (l : List GateEntry) (s : State := up) : State := { s with log := { s.log with gate := l } }

/-- A write of GAU_HB_MAX by the host that arrived at 0. -/
def hostWrite (own : Bool := true) : GateEntry := ⟨.reg (regAt .GAU_BND_FLOOR).first 5, .host, own, 0, none, none, 0, false⟩

theorem witness_GateEventsComplete :
    let quiet (s : State) := s.hst.reads = [] ∧ s.sbd.wr = none
    let opens (s : State) := s.warden.up = true ∧ s.log.held = false ∧ s.twin.role ≠ .active ∧ s.logRoom 2 = true
    let freed (s : State) : State := gated [] s
    let x := regAt .TXS_LOFS 511
    let e := hostWrite
    let sm : GateEntry := { e with ch := .seqmem 0x0202C000 7, recorded := some 1 }
    let bulk : GateEntry := { e with ch := .bulk 0x7FFFFFFC [] 0, recorded := some 1, ownerOk := false }
    let r := up.mkRec 0 0 0 0 .host .none
    let late : State := { gated [e] with wt := 10000000 }
    let owed : State := { up with log := { up.log with owed := [r] } }
    let down : State := { up with warden := ⟨false, some 0, none⟩, wt := 100000000 }
    let again : State := { down with warden := ⟨false, some 0, some 0⟩ }
    let row := put (gauge second) .TXS_LOFS 5 511
    (quiet (gated [e]) ∧ (gated [e]).log.gate = [e] ∧ e.recorded = none ∧ e.ch = .reg (regAt .GAU_BND_FLOOR).first 5 ∧ e.org = .host ∧
      opens (gated [e]) ∧ (gated [e]).judge e false = .none) ∧
    (opens (gated [hostWrite false]) ∧ (gated [hostWrite false]).judge (hostWrite false) false ≠ .none) ∧
    (quiet (gated [sm]) ∧ sm.recorded.isSome = true ∧ sm.apply = none ∧ (gated [sm]).log.held = false ∧
      (seqMemAt 0x0202C000).isSome = true ∧ (gated [sm]).memOk = true ∧ (freed (gated [sm])).judge sm true = .none) ∧
    (opens (gated [bulk]) ∧ (freed (gated [bulk])).judge bulk true ≠ .none) ∧
    (quiet late ∧ e.at_ + 10000000 ≤ late.wt ∧ ¬ e.at_ + 10000000 ≤ (gated [e]).wt ∧ e.ch.isZeroize = false) ∧
    (owed.warden.up = true ∧ owed.log.owed = [r] ∧ owed.logUsed + r.slots + 2 ≤ ringSlots) ∧
    (down.mayRestart = true ∧ down.coreOn = true ∧ again.mayRestart = false) ∧
    (row.atEdge .row = true ∧ Boundary.row ≠ .second ∧ lookupReg x.first = some x ∧ atBoundary .row x = true ∧
      row.regs.filter (fun p => p.1 = x.first) = [(x.first, 5)]) := by
  decide +kernel

/-! ### Witnesses: audio and the mix -/

/-- `n` ns after a whole second, with the audio clocks on and a sequencer of the mix running. -/
def rowAt (n : Nat) (s : State := (put up .AUD_CTL (up.lastWith .AUD_CTL 31 31 1)).setSq 159 seq) : State :=
  gauge { second with l := second.l + n, g := (3 * 10 ^ 9 + n) * 2 ^ 40, prev := some ((3 * 10 ^ 9 + n) * 2 ^ 40 - 1) } s

/-- An audio input, an audio output and a transmit stream. -/
def aesIn (x : AesIn) (cfg : Nat) (s : State := rowAt 0) : State := (put s .AESI_CFG cfg 15).setAesi 15 x
def aesOut (x : AesOut) (cfg : Nat) (s : State := rowAt 0) : State := (put s .AESO_CFG cfg 15).setAeso 15 x
def txStream (x : Txs) (cfg : Nat) (s : State := rowAt 0) : State := (put s .TXS_CFG cfg 511).setTxs 511 x

/-- A frame of port 7 that brings a packet with one channel of 6 samples to address `dst`. -/
def packet (dst : Byte) : RxFrame :=
  let l : List Byte := List.replicate 12 0 ++ [8, 0, 0x45, 0, 0, 0, 0, 0, 0, 0, 64, 17] ++ List.replicate 9 0 ++ [dst, 0, 0, 0x13, 0x8C, 0, 32, 0, 0,
    0x80, 96, 0, 2, 0, 2, 0x32, 0x80, 0, 0, 0, 1] ++ List.replicate 12 7 ++ List.replicate 4 0
  ⟨0, 3, [], (rowAt 0).stampNow 0 false 0, (rowAt 0).qualNow, (rowAt 0).tc, l, false, 0⟩

/-- Stream 511 runs and takes packets to address 1; a packet waits. -/
def rxStream (dst : Byte := 1) : State :=
  let s := put (put (put (rowAt 0) .RXS_CFG (2 ^ 31 + 2 ^ 16 + 2 * 2 ^ 8 + 96) 511) .RXS_LEG (2 ^ 31 + 7 * 2 ^ 28 + 5004) 511 0) .RXS_LEG_ADDR 1 511 0
  { s.setRxs 511 { Rxs.reset with st := 2 } with eth := [(7, { EthP.reset with rx := [packet dst] })] }

theorem witness_StreamPacketCompletes :
    let s := rxStream
    let g := packet 1
    let r := udpPay g.bytes 34
    let idx := s.packetIdx 511 r
    let fs := s.domFs (s.fl .RXS_CFG 30 29 511)
    let row := rowOfIdx fs idx + s.fl .RXS_CFG 12 8 511 + 1
    ((rxStream 2).audOn = true ∧ (rxStream 2).rxFirst 7 3 (fun _ => true) = some (packet 2) ∧ rtpAt (packet 2).bytes = some 42 ∧
      (rxStream 2).legHits 7 (packet 2).bytes 42 = []) ∧
    (s.audOn = true ∧ s.rxFirst 7 3 (fun _ => true) = some g ∧ g.spilled = false ∧ rtpAt g.bytes = some 42 ∧
      s.legHits 7 g.bytes 42 = [(511, 0)] ∧ udpSumOk g.bytes = true ∧ s.packetOk 511 r = true) ∧
    ((s.rxs 511).st = 2 ∧ 0 ≤ idx ∧ 0 < packetLen fs (s.on .RXS_CFG 27 511) ∧
      g.tc + (s.bitsNs 7 (8 * g.bytes.length) : Int) * 2 ^ 40 ≤ (row * 125000 - 5000) * 2 ^ 40 ∧
      row ≤ s.rowNum + s.fl .RXS_CFG 12 8 511 + 1 ∧ (s.rxs 511).buf.get idx.toNat [] = []) := by
  decide +kernel

theorem witness_AudioInputsComplete :
    (let a := aesIn { AesIn.reset with st := 1 } (2 ^ 31 + 2 ^ 28)
     a.audOn = true ∧ a.on .AESI_CFG 28 15 = true ∧ (a.aesi 15).st = 1) ∧
    (let a := aesIn { AesIn.reset with st := 2, run := 47 } (2 ^ 31)
     a.on .AESI_CFG 28 15 = false ∧ (a.aesi 15).st = 2 ∧ (a.nearest (a.objFs (.aesi 15))).2 = true) ∧
    (let a := aesIn { AesIn.reset with st := 3 } (2 ^ 31)
     a.on .AESI_CFG 28 15 = false ∧ (a.aesi 15).st = 3 ∧ 4 * 10 ^ 9 ≤ (a.gau.l - 0) * a.objFs (.aesi 15)) ∧
    (let a := aesIn { AesIn.reset with st := 3 } (2 ^ 31 + 2 ^ 28)
     a.on .AESI_CFG 28 15 = true ∧ (a.aesi 15).st = 3 ∧ 0 + 100000 ≤ a.gau.l) ∧
    (let a := aesIn { AesIn.reset with st := 2, settle := some 0 } (2 ^ 31 + 2 ^ 28)
     (a.aesi 15).st = 2 ∧ (a.aesi 15).settle = some 0 ∧ 0 + 50000000 ≤ a.gau.l) := by
  decide +kernel

theorem witness_AudioStreamsComplete :
    let s := rxStream
    let tx (st : Nat) := txStream { Txs.reset with st := st, next := some 23990 } (2 ^ 31)
    let o : AudObj := .rxs 511
    let w : ZcWait := ⟨o, 0, true, 143990⟩
    let wait (w : ZcWait) : State := { s with aud := { s.aud with waits := [w] } }
    let loud : State := (wait { w with k0 := 100 }).setRxs 511
      { Rxs.reset with st := 2, buf := (List.range 4001).map (fun n => (n + 99, [1])), gate := [(0, (true, 0))] }
    let short := put loud .AUD_CTL (up.lastWith .AUD_CTL 31 31 1 / 128 * 128 + 1)
    let stop := txStream { Txs.reset with st := 3 } (2 ^ 31)
    let start : State := { s with aud := { s.aud with starts := [o] } }
    let trig : State := { put (gauge second) .AUD_CTL (2 ^ 31) with aud := { up.aud with trigAt := 3 * 10 ^ 9 } }.setHw .AUD_TRIG_CTL 1 0 1
    let trigT := put (txStream { Txs.reset with st := 1 } (2 ^ 31 + 2 ^ 26) trig) .AUD_TRIG_TXS (2 ^ 31) 15
    let trigO := put (aesOut { AesOut.reset with st := 5 } (2 ^ 31 + 2 ^ 26) trig) .AUD_TRIG_AESO (2 ^ 15)
    let send := aesOut { AesOut.reset with st := 3, start := some 143990, low := false } (2 ^ 31)
    ((tx 2).audOn = true ∧ ((tx 2).txs 511).next = some 23990 ∧ (tx 2).txDue 511 23990 = true ∧ (tx 2).withheld 511 23990 = false ∧
      (tx 1).withheld 511 23990 = true) ∧
    (send.audOn = true ∧ (send.aeso 15).st = 3 ∧ 143990 ≤ (send.mediaNow (send.objFs (.aeso 15))).toNat ∧
      (send.aeso 15).last ≠ some (send.mediaNow (send.objFs (.aeso 15))).toNat ∧ send.aesHeld 15 = false ∧
      ((send.mediaNow (send.objFs (.aeso 15))).toNat - 143990) % 192 ≠ 0) ∧
    ((wait w).waitOf o 0 = some w ∧ (wait w).firstCross w (min ((wait w).zcLimit w) ((wait w).knownTo o)) = some 143990) ∧
    (short.waitOf o 0 = some { w with k0 := 100 } ∧ short.zcLimit { w with k0 := 100 } < short.knownTo o ∧
      short.firstCross { w with k0 := 100 } (short.zcLimit { w with k0 := 100 }) = none) ∧
    (stop.waiting (.txs 511) = false ∧ stop.objSt (.txs 511) = stopping (.txs 511)) ∧
    (start.waiting o = false ∧ start.objSt o ≠ stopping o ∧ o ∈ start.aud.starts ∧ start.entered o = true) ∧
    (trigT.audOn = true ∧ bits (trigT.hwOf .AUD_TRIG_CTL) 1 0 = 1 ∧ (trigT.aud.trigAt : Int) * 2 ^ 40 ≤ trigT.tc ∧
      trigT.trigHits (.txs 511) = true ∧ trigO.trigHits (.aeso 15) = true) := by
  decide +kernel

theorem witness_MixRowsComplete :
    let six : List Word := List.replicate 6 7
    let s := rowAt 0
    let late := rowAt 115000
    let mix (s : State) := s.runs 159 = true ∧ 16 ≤ 159
    let strip : State := { rowAt 123500 with aud := { up.aud with stripRow := some 24000 } }
    let lay := put s .SEQ_ROLE 136 159
    let met := put s .MIX_MET 0
    let linked (st : LState) : State := put ({ s with links := [(3, { Link.reset with st := st, psRow := 24000, psN := 1023 })] }) .STL_LCFG (2 ^ 30) 3
    let q : Partial := ⟨3, 1023, 24000, six⟩
    let to_ := put ((linked .up).setSq 151 seq) .MIX_OMAP 135 1023
    (s.coreOn = true ∧ s.rowEdge = true ∧ s.fresh 0x300 = true) ∧
    (mix s ∧ six.length = s.rowLen ∧ s.audOn = true ∧ (BitVec.ofNat 16 24000).toNat = (s.rowNum % 65536).toNat ∧
      s.aud.stripRow ≠ some s.rowNum ∧ s.rowNs < 110000) ∧
    (mix late ∧ six.length = late.rowLen ∧ late.audOn = true ∧ 110000 ≤ late.rowNs ∧ late.aud.stripRow ≠ some late.rowNum) ∧
    (strip.audOn = true ∧ 122000 ≤ strip.rowNs ∧ strip.aud.stripRow = some strip.rowNum ∧ strip.fresh (0x30000 + 1023) = true) ∧
    (mix lay ∧ 136 ≤ lay.fl .SEQ_ROLE 7 0 159) ∧
    (late.coreOn = true ∧ late.gau.running = true ∧ late.rowNs < 123000 ∧ late.mix.plan = none) ∧
    (met.coreOn = true ∧ met.fl .MIX_MET 12 0 ≤ met.mix.metRows) ∧
    (mix (linked .up) ∧ q.words.length = (linked .up).psLen ∧ (linked .up).psLate 24000 = false ∧ ((linked .up).link 3).st = .up ∧ (linked .up).on .STL_LCFG 30 3 = true ∧
      ((linked .up).link 3).psRow = (linked .up).rowNum.toNat ∧ ((linked .up).link 3).psN < 1024) ∧
    (q.words.length = (linked .training).psLen ∧ ¬ (((linked .training).link 3).st = .up ∧ (linked .training).on .STL_LCFG 30 3 = true) ∧
      (linked .up).psLate 23999 = true) ∧
    ((to_.link 3).st = .up ∧ to_.on .STL_LCFG 30 3 = true ∧ (∀ k : Fin 4, (to_.link k).ps = []) ∧ to_.roleSeq 1023 = some 151 ∧
      to_.listens 151 = true) := by
  decide +kernel

/-! ### Witnesses: keys and supervision -/

theorem witness_KeyEventsComplete :
    let torn : State := gauge second (keyed { Key.reset with slots := [(63, ⟨KeyBank.zero, KeyBank.zero, 1, false⟩)] })
    let off : State := put { State.reset with warden := up.warden } .KEY_TAMPER 8
    let blow (f v : Nat) : State := { up with fuses := { Fuses.reset with blow := some (f, v) } }
    let closed : State := { up with fuses := { Fuses.reset with debugClose := true } }
    let asked : State := { up with att := { up.att with slots := [(15, { AttSlot.reset with st := 1 })] } }
    (torn.atSec = true ∧ torn.fresh 0x24 = true ∧ torn.coreOn = true ∧ (torn.kslot 63).commit ≠ 0 ∧ (torn.kslot 63).corrupt = true ∧
      (torn.kslot 0).commit = 0) ∧
    (off.tamperOn 0 = true ∧ off.tamperOn 3 = true ∧ off.coreOn = false ∧ off.warden.up = true ∧ off.logRoom 1 = true) ∧
    (put up .KEY_TAMPER 6).tamperOn 3 = false ∧ (blow 2 0).fuses.blow = some (2, 0) ∧ (blow 67 9).fuses.blow = some (67, 9) ∧
    up.fuses.debugClose = false ∧ closed.fuses.debugClose = true ∧ ((asked.attSlot 15).st = 1 ∧ asked.warden.up = true) := by
  decide +kernel

theorem witness_SupervisionEventsComplete :
    let sev (src v : Nat) (s : State := up) := put s .FLT_SRC_CFG v src
    let plain (s : State) (src u : Nat) := s.coreOn = true ∧ hasUnit src u = true ∧ s.flt.inj.state ≠ 1 ∧ src ∉ [0, 10, 22, 25]
    let armed_ : State := { gauge second with flt := { up.flt with inj := ⟨1, 0, 16, 23, true, 0⟩ } }
    let beat := put (gauge second) .FLT_CTL (2 ^ 31)
    let r : RecRecord := ⟨0, 0, 0, 0, 0, 0, 0, 0, 0, 0, [], false⟩
    let full : State := { up with rcd := { up.rcd with bufs := [r] } }
    (plain (sev 31 0) 31 0 ∧ (sev 31 0).fl .FLT_SRC_CFG 2 0 31 ≤ 1 ∧ (sev 31 1).fl .FLT_SRC_CFG 2 0 31 ≤ 1) ∧
    (plain (sev 16 2) 16 23 ∧ (sev 16 2).fl .FLT_SRC_CFG 2 0 16 = 2) ∧
    (plain (sev 11 2) 11 159 ∧ (sev 11 2).fl .FLT_SRC_CFG 2 0 11 = 2 ∧ 136 ≤ (sev 11 2).fl .SEQ_ROLE 7 0 159) ∧
    (plain (sev 31 3) 31 0 ∧ (sev 31 3).fl .FLT_SRC_CFG 2 0 31 = 3 ∧ (sev 31 3).twin.role = .solo ∧ (sev 31 3).flt.relinq = false ∧
      (sev 31 3).warden.up = true ∧ (sev 31 3).logRoom 1 = true) ∧
    (plain (sev 31 4) 31 0 ∧ (sev 31 4).fl .FLT_SRC_CFG 2 0 31 = 4 ∧ (sev 31 4).twin.role = .solo) ∧
    (armed_.coreOn = true ∧ hasUnit 16 23 = true ∧ armed_.flt.inj.state = 1 ∧ armed_.flt.inj.src = 16 ∧ armed_.flt.inj.unit = 23 ∧
      armed_.flt.inj.dry = true ∧ armed_.flt.inj.at_ + 1000000000 ≤ armed_.gau.l) ∧
    (beat.coreOn = true ∧ beat.on .FLT_CTL 31 = true ∧ beat.flt.relinq = false ∧ beat.flt.halt = false ∧ beat.atPeriod 500000 = true ∧
      beat.ranBefore (beat.lastGrid 500000) = false ∧ beat.fresh 0x26 = true) ∧
    (full.rcd.bufs = r :: [] ∧ full.rcd.clr = []) := by
  decide +kernel

theorem witness_SupervisionEventsComplete_sweep :
    let per := put (gauge second) .PMC_SWEEP_PER 1000
    let w : Sweep := ⟨0, 0, 1023, 1⟩
    let busy : State := { per with pmc := { up.pmc with sweep := some w } }
    let samp := put (put (runs 159) .PMC_SAMP (2 ^ 31 + 2 ^ 15) 9) .PMC_SAMP_LEN 1
    let sampled (s : State) := s.runs 159 = true ∧ s.on .PMC_SAMP 31 (cluOf 159) = true ∧ s.on .PMC_SAMP (159 % 16) (cluOf 159) = true
    let room := put samp .PMC_SAMP_LEN 64
    (per.coreOn = true ∧ per.fl .PMC_SWEEP_PER 15 0 ≠ 0 ∧ per.atPeriod (per.fl .PMC_SWEEP_PER 15 0 * 1000000) = true ∧
      per.fresh 0x27 = true ∧ per.pmc.sweep = none) ∧
    (busy.atPeriod (busy.fl .PMC_SWEEP_PER 15 0 * 1000000) = true ∧ busy.fresh 0x27 = true ∧ busy.pmc.sweep = some w ∧
      w.e0 + 2 * (w.last - w.first) ≤ busy.gau.l) ∧
    (sampled samp ∧ (samp.pmc.sampProd % max 1 (samp.inForce .PMC_SAMP_LEN) + 1) % max 1 (samp.inForce .PMC_SAMP_LEN) =
      samp.inForce .PMC_SAMP_CONS) ∧
    (sampled room ∧ (room.pmc.sampProd % max 1 (room.inForce .PMC_SAMP_LEN) + 1) % max 1 (room.inForce .PMC_SAMP_LEN) ≠
      room.inForce .PMC_SAMP_CONS ∧ room.memOk = true ∧ 31 < 32) := by
  decide +kernel

/-! ### Witnesses: Stitch links and the twin -/

/-- Link 3 enabled, as given. -/
def stl (x : Link) (s : State := gauge second) : State := put { s with links := [(3, x)] } .STL_LCFG (2 ^ 31) 3

/-- A marker and an identity block. -/
def mark (f : Nat) : Marker := ⟨f, 0, false, false, 0, 0, 0, 0, false⟩
def ident : Identity := ⟨1, 2, 0, false, 0, 0, 0, false, 0⟩

theorem witness_StitchLinksComplete :
    let st (x : LState) : State := stl { Link.reset with st := x, frame := some 7 }
    let jump (k : Nat) : State := stl { Link.reset with jumpAt := some k }
    let peer (x : LState) := (st x).setSq 15 seq
    let d := put (st .training) .STL_CFG (2 ^ 16 + 2)
    let u := put (st .training) .STL_CFG (2 ^ 16 + 3)
    ((st .up).linkOn 3 = true ∧ (st .up).quiet = false ∧ (st .up).atPeriod 1600 = true ∧ (st .up).afterNotice = true ∧
      (st .up).fresh (0x200 + 3) = true) ∧
    ((mark 8).frame.toNat % 625 ≠ 0 ∧ ((st .up).link 3).st = .up ∧ markerFollows ((st .up).link 3) (mark 8) = true ∧
      markerFollows ((st .up).link 3) (mark (frameMod - 1)) = false ∧ (mark (frameMod - 1)).frame.toNat % 625 ≠ 0) ∧
    ((mark 0).frame.toNat % 625 = 0 ∧ ((st .training).link 3).st = .training ∧ (st .training).linkOn 3 = true ∧
      ident.domain.toNat ≠ (st .training).fl .STL_CFG 31 16 ∧ ident.domain.toNat = d.fl .STL_CFG 31 16 ∧
      ident.devnum.toNat = d.devnum ∧ ident.domain.toNat = u.fl .STL_CFG 31 16 ∧ ident.devnum.toNat ≠ u.devnum) ∧
    (up.linkOn 3 = false ∧ (st .domain).linkOn 3 = true ∧ ((st .domain).link 3).st = .domain) ∧
    (((jump 4000000000).link 3).jumpAt = some 4000000000 ∧ 4000000000 + 1000000000 ≤ (jump 4000000000).gau.l) ∧
    (((jump 5000000000).link 3).jumpAt = some 5000000000 ∧ (jump 5000000000).gau.l < 5000000000 + 1000000000) ∧
    (1 ≤ (List.replicate 31 (0 : Word)).length ∧ (List.replicate 31 (0 : Word)).length ≤ 31 ∧ (peer .up).runs 15 = true ∧
      ((peer .up).link 3).st = .up ∧ (peer .up).quiet = false ∧ (peer .training).runs 15 = true ∧ ((peer .training).link 3).st ≠ .up) ∧
    31 < (List.replicate 32 (0 : Word)).length := by
  decide +kernel

/-- A unit of a pair in a role. -/
def unitIn (t : Twin) (s : State := gauge second) : State := put { s with twin := t } .STL_TWIN_CFG (2 ^ 31 + 2 ^ 19)

/-- Link 3 as a twin link that is UP, its peer of the pair's other unit and in a role. -/
def peered (role : Nat) (t : Twin) : State :=
  let s := unitIn t
  { s with links := [(3, { Link.reset with st := .up, role := role, pairid := 0, unit := true })] }

theorem witness_TwinEventsComplete :
    let role (r : Role) : Twin := { Twin.reset with role := r }
    let sb := role .standby
    let a1 : Word := BitVec.ofNat 32 (regAt .GAU_SLEW_AMT).first
    let a2 : Word := BitVec.ofNat 32 (regAt .GAU_HB_MAX).first
    let x : RegAt := regAt .GAU_HB_MAX
    let e : GateEntry := ⟨.reg x.first 5, .twin, true, 0, none, some 5, 0, false⟩
    let t2 (k : Nat) := put (unitIn { role .active with t2 := some k }) .STL_TWIN_TIME (1000 * 2 ^ 16)
    ((unitIn (role .pairing)).twin.role = .pairing ∧ (unitIn (role .pairing)).twinFirst = none ∧
      max 0 0 + (put (unitIn (role .pairing)) .STL_TWIN_TIME 5).fl .STL_TWIN_TIME 15 0 * 1000000000 ≤ (unitIn (role .pairing)).gau.l) ∧
    ((peered 3 sb).twinUp 3 = true ∧ ((peered 3 sb).link 3).role = 3 ∧ (peered 3 sb).twin.role = .standby) ∧
    (let s := t2 4999990000
     s.twin.t2 = some 4999990000 ∧ 4999990000 + 10000 ≤ s.gau.l ∧ s.gau.l ≤ 4999990000 + s.fl .STL_TWIN_TIME 31 16 * 1000) ∧
    ((t2 4999990001).gau.l < 4999990001 + 10000) ∧
    (groupOf a1.toNat ≠ some 21 ∧ lookupReg a1.toNat = some (regAt .GAU_SLEW_AMT) ∧
      (regAt .GAU_SLEW_AMT).word + 1 < (regAt .GAU_SLEW_AMT).reg.geo.words) ∧
    (groupOf a2.toNat ≠ some 21 ∧ lookupReg a2.toNat = some x ∧ x.word + 1 = x.reg.geo.words ∧ (gated [e] (unitIn sb)).warden.up = true ∧
      (gated [e] (unitIn sb)).log.gate ≠ [] ∧ (gated [e] (unitIn sb)).twin.role = .standby) := by
  decide +kernel

theorem witness_TwinEventsComplete_mirror :
    let role (r : Role) : Twin := { Twin.reset with role := r }
    let sb := role .standby
    let x : RegAt := regAt .GAU_HB_MAX
    let e : GateEntry := ⟨.reg x.first 5, .twin, true, 0, none, some 5, 0, false⟩
    let far : GateEntry := { e with apply := some (10 ^ 10) }
    let sm : GateEntry := { e with ch := .seqmem 0x0202C000 7, recorded := some 1 }
    let conf := unitIn { Twin.reset with mirrored := [3 * 10 ^ 9 + 20000] }
    let fresh_ (t : Twin) : State := put (unitIn t) .STL_TWIN_CFG 0
    (let s := gated [e] (unitIn sb)
     (s.hst.reads = [] ∧ s.sbd.wr = none) ∧ s.log.gate = [e] ∧ e.apply = some 5 ∧ e.recorded = none ∧ e.org = .twin ∧
      e.ch = .reg x.first 5 ∧ 5 ≤ s.gns) ∧
    (let s := gated [sm] (unitIn sb)
     sm.recorded.isSome = true ∧ s.log.held = false ∧ (seqMemAt 0x0202C000).isSome = true ∧ 0x0202C000 % 4 = 0 ∧ s.memOk = true ∧
      (gated [] s).judge sm true = .none) ∧
    ((gated [far] (unitIn sb)).gns < 10 ^ 10) ∧ (∃ m ∈ conf.twin.mirrored, m ≤ conf.gns + 20000) ∧
    (sb.synced = false ∧ (role .active).role = .active) ∧
    (let s := put (fresh_ sb) .STL_TWIN_MIRROR (2 ^ 32 - 1)
     let y := regAt .SEQ_WD 159
     let a := BitVec.ofNat 32 y.first
     s.twin.role = .standby ∧ s.warden.up = true ∧ s.logRoom 2 = true ∧ s.on .STL_TWIN_CFG 31 = false ∧ s.syncable ⟨a, 5⟩ = true ∧
      lookupReg a.toNat = some y ∧ y.word = 0 ∧ y.reg.geo.words = 1 ∧ y.reg ≠ .STL_TWIN_CFG ∧ y.reg ≠ .SEQ_CTL) ∧
    ({ fresh_ sb with warden := ⟨false, none, none⟩ } : State).warden.up = false ∧ (unitIn sb).standby = true ∧
    (bitOn (0x84000000 : Word).toNat 31 = true ∧ bitOn (0x84000000 : Word).toNat 26 = true ∧ bitOn (0 : Word).toNat 31 = false) ∧
    (let s := unitIn { sb with alignRun := 8 }
     s.atSec = true ∧ s.fresh 0x210 = true ∧ s.on .STL_TWIN_CFG 31 = true ∧ s.aligned = false ∧ s.twin.alignRun + 1 ≠ 10) := by
  decide +kernel

theorem witness_TwinEventsComplete_digest :
    let role (r : Role) : Twin := { Twin.reset with role := r }
    let sb := role .standby
    let ho := unitIn { role .active with hoPend := some 5000000000 }
    let dig (n : Nat) (v : Nat) := put (unitIn { sb with digRun := n, digest := [(7, v)] }) .STL_TWIN_LIM (3 * 2 ^ 8)
    ((dig 1 9).twin.lastTag = none ∧ (dig 1 9).twin.digest.get 7 (2 ^ 64) = 9) ∧
    ((dig 1 9).twin.digest.get 7 (2 ^ 64) ≠ 8 ∧ (dig 1 9).twin.digRun + 1 < (dig 1 9).fl .STL_TWIN_LIM 15 8) ∧
    ((dig 2 9).fl .STL_TWIN_LIM 15 8 ≤ (dig 2 9).twin.digRun + 1) ∧
    (ho.twin.role = .active ∧ ho.twin.hoPend = some 5000000000 ∧ 5000000000 ≤ ho.gau.l ∧ ho.atSec = true) ∧
    (let s := peered 3 { sb with ready := true }
     s.twin.role = .standby ∧ s.atSec = true ∧ s.twin.ready = true ∧ s.peerRole = some 3) ∧
    (role .compare).role = .compare := by
  decide +kernel

/-! ### Witnesses: the host interface, the sideband, external memory and cast-on -/

/-- Queue 15 of a kind, with a descriptor to take and memory of the largest size. -/
def queue (kind : Nat) (x : Dma := Dma.reset) (s : State := port EthP.reset) : State :=
  let t := put (put (put s .DMA_CFG (2 ^ 31 + kind * 2 ^ 28) 15) .DMA_RING_LEN 16 15) .DMA_PROD 1 15
  let u : State := { put t .MEM_CFG 0x11 with hst := { t.hst with pcie := some (5, 4) }, mem := { t.mem with ready := true } }
  u.setDq 15 x

/-- A descriptor of queue 15 for port 7. -/
def desc (op len : Nat) (daddr : DWord := 64) : Desc := ⟨0, daddr, BitVec.ofNat 24 len, BitVec.ofNat 4 op, true, 7, 0, false, false, 0⟩

theorem witness_HostEventsComplete :
    let takes (s : State) (d : Desc) (kind op : Nat) := s.dmaReady 15 = true ∧ s.dmaKind 15 = kind ∧ d.op.toNat = op ∧
      ∀ f ∈ (s.dq 15).flight, f.id ≠ (s.dq 15).next
    let bytes (n : Nat) : List Byte := List.replicate n 0
    let f : RxFrame := ⟨0, 1, List.replicate 8 0, stamp, (gauge second).qualNow, 0, bytes 60, false, 0⟩
    let rx := put (queue 2 Dma.reset (port { EthP.reset with rx := [f] })) .ETH_RXQ_CFG (2 ^ 30 + 15 * 2 ^ 16) 7 0
    let clean (s : State) := s.mem.ready = true ∧ s.mem.failed = false ∧ s.mem.errs = []
    ((bytes 1514).length = (desc 1 1514).len.toNat ∧ takes (queue 1) (desc 1 1514) 1 1 ∧ 60 ≤ (desc 1 1514).len.toNat ∧
      (desc 1 1514).len.toNat + 4 ≤ (queue 1).fl .ETH_CFG 13 0 7 ∧ ((queue 1).ep 7).link = true ∧ (queue 1).portOn 7 = true) ∧
    ((bytes 59).length = (desc 1 59).len.toNat ∧ takes (queue 1) (desc 1 59) 1 1 ∧ (desc 1 59).len.toNat < 60) ∧
    (takes (queue 1) (desc 2 60) 1 2 ∧ up.dmaReady 15 = false ∧ up.mem.ready = false ∧ up.mem.failed = false) ∧
    (takes rx (desc 2 92) 2 2 ∧ rx.rxNext 15 = some (7, f) ∧ f.spilled = false ∧ 32 + f.bytes.length ≤ (desc 2 92).len.toNat ∧ (queue 2).rxNext 15 = none) ∧
    (takes (queue 3) (desc 3 8) 3 3 ∧ (queue 3).dmaRange (desc 3 8) = true ∧ clean (queue 3) ∧ (queue 3).memOk = true ∧
      7 < (desc 3 8).len.toNat ∧ (bytes 8).length = (desc 3 8).len.toNat) ∧
    (takes (queue 3) (desc 3 8 2) 3 3 ∧ (queue 3).dmaRange (desc 3 8 2) = false) ∧
    (takes (queue 3) (desc 4 8) 3 4 ∧ (queue 3).dmaRange (desc 4 8) = true) := by
  decide +kernel

theorem witness_HostEventsComplete_bulk :
    let takes (s : State) (d : Desc) (kind op : Nat) := s.dmaReady 15 = true ∧ s.dmaKind 15 = kind ∧ d.op.toNat = op ∧
      ∀ f ∈ (s.dq 15).flight, f.id ≠ (s.dq 15).next
    let g := gated [hostWrite] (queue 3)
    let done : DmaFl := ⟨9, true, some (0, 0, 60)⟩
    let fin := queue 1 { Dma.reset with flight := [done] }
    let req := sbdRequest (255 : Byte).toNat 3 []
    let mbx : State := { up with hst := { up.hst with mbx := [req] } }
    ((List.replicate 2 (0 : Word)).length * 4 = (desc 5 8).len.toNat / 4 * 4 ∧ takes g (desc 5 8) 3 5 ∧ aligned4 (desc 5 8) = true ∧
      g.warden.up = true ∧ g.log.gate ≠ []) ∧
    ((List.replicate 2 (0 : Word)).length * 4 = (desc 5 9).len.toNat / 4 * 4 ∧ takes (queue 3) (desc 5 9) 3 5 ∧
      aligned4 (desc 5 9) = false) ∧
    (takes (queue 3) (desc 6 1048576) 3 6 ∧ aligned4 (desc 6 1048576) = true ∧ (desc 6 1048576).len.toNat ≤ 1048576 ∧
      (groupOf (desc 6 1048576).daddr.toNat).isSome = true) ∧
    (takes (queue 3) (desc 6 1048577) 3 6 ∧ 1048576 < (desc 6 1048577).len.toNat) ∧
    (fin.coreOn = true ∧ fin.hst.pcie.isSome = true ∧ (fin.dq 15).flight = done :: [] ∧ done.result = some (0, 0, 60)) ∧
    (mbx.hst.mbx = req :: [] ∧ mbx.warden.up = true ∧ mbx.auditIdle = true ∧ mbx.hst.rsp = none ∧ mbx.hst.began = false) ∧
    ((desc 6 1048576).daddr.toNat % 4 = 0 ∧ up.coreOn = true) := by
  decide +kernel

/-- Warden with these frames in its sideband queue. -/
def queued (l : List (List Byte)) (s : State := up) : State := { s with sbd := { s.sbd with queue := l } }

/-- A frame with its CRC. -/
def framed (b : List Byte) : List Byte := b ++ bytesLE 2 (crc16 b)

theorem witness_SidebandEventsComplete :
    let i3c : State := { up with sbd := { up.sbd with daddr := some 8 } }
    let body := sbdRequest 255 1 (bytesLE 4 0 ++ bytesLE 2 256)
    let idle (s : State) := s.warden.up = true ∧ s.auditIdle = true ∧ s.sbd.wr = none ∧ s.sbd.owes = none
    let a := (regAt .GAU_BND_FLOOR).first
    let begun : GateEntry := { hostWrite with recorded := some 1 }
    let h (cmd : Nat) (pay : List Byte) := gated [begun] (queued [sbdRequest 255 cmd pay])
    (i3c.warden.up = true ∧ i3c.sbdPath .i3c = true ∧ SbdPath.i3c ≠ .uart ∧ up.sbdPath .i2c = true ∧ frameOk (framed body) = true ∧
      i3c.sbd.queue.length < 8 ∧ (framed body).take ((framed body).length - 2) = body ∧
      sbdLen (leNat ((body.drop 1).take 1)) (body.drop 4) = some true) ∧
    (8 ≤ (queued (List.replicate 8 body)).sbd.queue.length ∧ frameOk body = false ∧ State.reset.warden.up = false) ∧
    (1 ≤ 256 ∧ idle (queued [body]) ∧ (queued [body]).sbd.queue = sbdRequest 255 1 (bytesLE 4 0 ++ bytesLE 2 256) :: []) ∧
    (let s := h 2 (bytesLE 4 a ++ bytesLE 2 1 ++ bytesOfWords [5])
     idle s ∧ a % 4 = 0 ∧ groupOf a ≠ some 21 ∧ lookupReg a = some (regAt .GAU_BND_FLOOR) ∧
      (regAt .GAU_BND_FLOOR).reg.geo.words = 1 ∧ (regAt .GAU_BND_FLOOR).readOnly = false ∧ (regAt .GAU_BND_FLOOR).unaudited = false ∧
      s.log.gate ≠ []) ∧
    (idle (h 3 []) ∧ idle (h 0x10 [3]) ∧ idle (h 0x11 [3]) ∧ idle (h 0x12 [1]) ∧ (h 0x10 [3]).log.gate ≠ []) ∧
    ((0 : Byte) ≠ 0xFF ∧ (queued []).sbd.queue.head? = none) ∧
    (up.cast_.rstn = true ∧ up.cast_.aon = true ∧ up.sbd.daddr = none ∧ i3c.sbd.daddr ≠ none ∧ (1 : Byte).getLsbD 0 = true) := by
  decide +kernel

theorem witness_MemoryEventsComplete :
    let spare (n : Nat) : State :=
      { put (put (gauge second) .MEM_CFG 0x11) .MEM_SPARE (2 ^ 30 + 1) 0 with mem := { up.mem with ready := true, spare := [(0, n)] } }
    let f : SymErr := ⟨64, 0, 8, 1⟩
    let g : SymErr := ⟨79, 3, 8, 15⟩
    let met (s : State) (e : SymErr) := e.flip ≠ 0 ∧ (List.range 9).any (fun d => decide (s.devAt 0 d = e.dev.val)) = true
    let old (r : Nat) : State :=
      { put (gauge second) .MEM_STARVE 1 15 with mem := { up.mem with txs := [⟨15, 0, [(1, 1)], [], some r⟩] } }
    ((spare 0).coreOn = true ∧ (spare 0).mem.ready = true ∧ (spare 0).mem.errs = [] ∧ 64 < (spare 0).memSize ∧ (spare 0).memChan 64 = 0) ∧
    (met (spare 0) f ∧ met (spare 0) g ∧ g.addr.toNat / 16 * 16 = f.addr.toNat / 16 * 16 ∧ (f.xfer, f.dev) ≠ (g.xfer, g.dev) ∧
      bitOn ((spare 0).hwOf .MEM_UE_INFO) 31 = false) ∧
    ((spare 0).on .MEM_SPARE 30 0 = true ∧ (spare 0).fl .MEM_SPARE 15 0 0 ≤ (spare 0).mem.passCorr.get (16 * 0 + 8) 0 + 1 ∧
      f.dev.val ≤ 8 ∧ (spare 0).spareSt 0 = 0 ∧ (spare 1).spareSt 0 = 1) ∧
    ((old 4999998999).memWaits 15 = true ∧ (old 4999998999).fl .MEM_STARVE 15 0 15 * 1000 < (old 4999998999).memAge 15 ∧
      (old 4999999000).memAge 15 ≤ (old 4999999000).fl .MEM_STARVE 15 0 15 * 1000 ∧ up.memWaits 15 = false) := by
  decide +kernel

/-- Power and cast-on as given. -/
def castOn (f : Cast → Cast) (s : State := { up with coreOn := false, gau := Gau.reset }) : State := { s with cast_ := f s.cast_ }

theorem witness_CastEventsComplete :
    let down := castOn (fun c => { c with rstn := false })
    let asleep (g : Bool) : State := { castOn (fun c => { c with pwrgood := g, st := 0 }) with warden := ⟨false, none, none⟩ }
    let cold := castOn (fun c => { c with pwrgood := false })
    let xo := castOn (fun c => { c with st := 5, code := 4, xo := false })
    let rel (w l : Bool) : State :=
      let s := castOn (fun c => { c with st := 0, warm := w })
      { s with flt := { s.flt with haltLatch := l } }
    let go := castOn (fun c => { c with go := true }) { up with gau := Gau.reset }
    let train (t : Nat) (w : Bool) : State :=
      let s := put (castOn (fun c => { c with st := 3, warm := w }) up) .MEM_CFG 0x11
      { s with mem := { s.mem with trained := t } }
    let save : State := castOn (fun c => { c with save := some (3, ⟨[], []⟩) }) up
    (down.cast_.rstn = false) ∧
    ((asleep true).aonRuns = true ∧ (asleep true).warden.up = false ∧ (asleep true).warden.downAt = none ∧
      (asleep true).cast_.pwrgood = true ∧ (asleep true).cast_.xo = true ∧ (asleep false).cast_.pwrgood = false ∧
      (asleep false).aonRuns = true) ∧
    (cold.cast_.pwrgood = false ∧ cold.aonRuns = true ∧ cold.warden.up = true) ∧
    (xo.cast_.st = 5 ∧ xo.cast_.code = 4 ∧ xo.cast_.pwrgood = true ∧ xo.warden.up = true) ∧
    (∀ w l, (rel w l).casting = true ∧ (rel w l).flt.haltLatch = l ∧ (rel w l).cast_.warm = w) ∧ up.casting = false ∧
    (go.coreOn = true ∧ go.cast_.go = true ∧ go.gau.running = false) ∧
    ((train 0 false).cast_.st = 3 ∧ (train 0 false).gau.running = true ∧ bitOn (train 0 false).mem.trained 2 = false ∧
      (train 0 false).fl .MEM_CFG 3 0 ≠ 0 ∧ (train 0 false).fl .MEM_CFG 7 4 ≠ 0) ∧
    (∀ w, (train 7 w).cast_.st = 3 ∧ bitOn (train 7 w).mem.trained 2 = true ∧ (train 7 w).mem.ready = false ∧ (train 7 w).cast_.warm = w) ∧
    (save.cast_.save = some (3, ⟨[], []⟩) ∧ save.hst.reads = [] ∧ save.sbd.wr = none ∧ save.log.gate = []) ∧
    ((castOn (fun c => { c with bind := 1 }) up).cast_.bind = 1 ∧ up.cast_.bind ≠ 1 ∧ up.cast_.st ≠ 3) := by
  decide +kernel

/-! ### Witnesses: the step, and what holds of every command -/

theorem witness_StepRunsTheFrontCommand :
    ({ up with pending := [.xoPresent, .rstdaa] } : State).pending = .xoPresent :: [.rstdaa] := rfl

theorem witness_IdleStepPassesTime :
    let s := State.reset
    s.pending = [] ∧ s.gau.running = false ∧ s.log.gate = [] ∧ s.hst.reads = [] ∧ s.sbd.wr = none ∧ s.coreOn = false := by
  decide +kernel

theorem witness_TabxoDecodeEncode :
    let i : Instr := .mac 159 ⟨.a0, ⟨false, false⟩, .S24H, .L, ⟨.D, 0, .keep⟩, ⟨.C, 4, .keep⟩, none⟩
    let j : Instr := .rptb 159 65535 255
    tabxoSeq i = some 159 ∧ encodeTabxo i = some (0x600900C0, 0) ∧ tabxoSeq j = some 159 ∧ encodeTabxo j = some (0x6AFFFFFF, 0) := by
  decide +kernel

theorem witness_TabxoEncodeDecode : 0x6A010100 < 2 ^ 32 ∧ 0 < 2 ^ 32 ∧ decodeTabxo 159 0x6A010100 0 = some (.rptb 159 256 1) := by
  decide +kernel

theorem witness_WellFormedCommandsRun : ∃ i : Instr, i.wellFormed = true := ⟨.xoPresent, rfl⟩

theorem witness_StepsKeepMemoriesCanonical :
    let s : State := { runs 159 with pending := [.st32 159 ⟨.D, 0, .keep⟩ .a0 0 true] }
    s.memOk = true ∧ (match step s with | .next _ => true | _ => false) = true := by
  decide +kernel

theorem witness_BranchConditions : (runs 159).runs 159 = true ∧ Placed ((runs 159).sq 159) ∧ Taken ((runs 159).sq 159) 15 ∧
    ¬ Taken ((runs 159).sq 159) 14 := by
  simp only [Placed, Taken]; decide +kernel

theorem witness_LocalTimeAdvances : up.gau.sched = none := by decide +kernel

end Sys2Proof.Tests
end

section
/-! Every command has a next state. No condition of the spec stops the device as a whole: a refused write (R402), a trap of a sequencer
(R166) and a row whose conditions do not hold are next states themselves. -/

namespace Sys2Proof.Machine

/-- The one meaning that branches before it answers: each kind of key parameter is a write of a register of its own. -/
theorem keyParamWrite_runs (r : Requester) (k : KeyParam) (v : Word) (s : State) : Runs (.keyParamWrite r k v) s := by
  cases k with
  | attr => exact ⟨s.submit r .KEY_OP_ATTR v.toNat, rfl⟩
  | ctx => exact ⟨s.submit r .KEY_CTX v.toNat, rfl⟩
  | data w => exact ⟨s.submit r .KEY_DATA v.toNat w, rfl⟩

/-- Stronger than O56: also a command that no sender forms runs. By cases on the command: every arm of `exec` but that of a key
parameter is `.next` of one state expression, which is the witness. -/
theorem exec_runs (i : Instr) (s : State) : Runs i s := by
  cases i with
  | keyParamWrite r k v => exact keyParamWrite_runs r k v s
  | _ => exact ⟨_, rfl⟩

/-- Settles O56: every command runs, so those that a sender can form do. -/
theorem wellFormedCommandsRun : Obligations.WellFormedCommandsRun :=
  fun i s _ => exec_runs i s

end Sys2Proof.Machine
end

section
/-! The G-clock edge and the Gauge (R37, R64). Of all that happens at an edge, only the advance, the amount of a step, the bus and the end
of the scheduled step touch the Gauge block; everything else an edge does leaves it as it is, and of those four only the advance moves the
local time. -/

namespace Sys2Proof.Machine

theorem State.foldl_gau {α : Type} {f : State → α → State} (hf : ∀ s a, (f s a).gau = s.gau) (l : List α) (s : State) :
    (l.foldl f s).gau = s.gau :=
  List.foldlRecOn (motive := fun t => t.gau = s.gau) l f rfl fun t ht a _ => (hf t a).trans ht

/-! ### What is taken at every edge -/

@[simp] theorem State.pulls_gau (s : State) : s.pulls.gau = s.gau := rfl

@[simp] theorem State.rowMark_gau (s : State) : s.rowMark.gau = s.gau := by
  unfold State.rowMark; split <;> rfl

@[simp] theorem State.sweepEdge_gau (s : State) : s.sweepEdge.gau = s.gau := by
  unfold State.sweepEdge
  split
  · rfl
  · dsimp only; split <;> rfl

@[simp] theorem State.launchEdge_gau (s : State) (src : Nat) (fall : Bool) (d : Int) : (s.launchEdge src fall d).gau = s.gau := by
  unfold State.launchEdge; split <;> rfl

@[simp] theorem State.loopEdge_gau (s : State) (i : Nat) (level : Bool) (d : Int) : (s.loopEdge i level d).gau = s.gau := by
  unfold State.loopEdge
  split
  · exact s.launchEdge_gau _ _ d
  · rfl

@[simp] theorem State.setPin_gau (s : State) (i : Nat) (o : OutU) (active : Bool) (at_ : Int) :
    (s.setPin i o active at_).gau = s.gau := by
  unfold State.setPin
  split
  · rfl
  · simp

@[simp] theorem State.squelchOne_gau (s : State) (i : Nat) : (s.squelchOne i).gau = s.gau := by
  unfold State.squelchOne
  split
  · exact s.setPin_gau i _ _ _
  · split <;> rfl

@[simp] theorem State.squelch_gau (s : State) : s.squelch.gau = s.gau := State.foldl_gau State.squelchOne_gau _ s

/-- Of the Gauge block, what an edge takes once the Gauge has moved sets only what is on the bus (R14, R55). -/
theorem State.edgeTakes_gau (s : State) (sl : Int) :
    ∃ b, (s.edgeTakes sl).gau = { s.gau with busB := b, busSt := s.gau.st } := by
  unfold State.edgeTakes
  by_cases h : sl = 0 <;> simp [h, State.latchBus]

@[simp] theorem State.edgeTakes_l (s : State) (sl : Int) : (s.edgeTakes sl).gau.l = s.gau.l := by
  obtain ⟨b, h⟩ := s.edgeTakes_gau sl
  rw [h]

@[simp] theorem State.edgeTakes_g (s : State) (sl : Int) : (s.edgeTakes sl).gau.g = s.gau.g := by
  obtain ⟨b, h⟩ := s.edgeTakes_gau sl
  rw [h]

/-! ### What follows from a step -/

@[simp] theorem State.stepPosts_gau (s : State) (amt : Int) : (s.stepPosts amt).gau = s.gau := rfl

@[simp] theorem State.stepGroupB_gau (s : State) (a : Int) : (s.stepGroupB a).gau = s.gau := by
  unfold State.stepGroupB
  split
  · rfl
  · split
    · simp
    · rfl

@[simp] theorem State.moveAudio_gau (s : State) (w : Int) : (s.moveAudio w).gau = s.gau := rfl

@[simp] theorem State.moveFrame_gau (w : Int) (s : State) (i : Nat) : (State.moveFrame w s i).gau = s.gau := rfl

@[simp] theorem State.stepGroupC_gau (s : State) (a : Int) : (s.stepGroupC a).gau = s.gau := by
  unfold State.stepGroupC
  dsimp only
  split
  · rfl
  · exact State.foldl_gau (State.moveFrame_gau _) _ _

@[simp] theorem State.stepTsv_gau (s : State) (amt : Int) : (s.stepTsv amt).gau = s.gau := rfl

theorem State.eachTod_gau {f : State → Nat → State} (hf : ∀ s i, (f s i).gau = s.gau) (s : State) (j : Nat) :
    (s.eachTod j f).gau = s.gau := by
  refine State.foldl_gau (fun t i => ?_) _ s
  split
  · exact hf t i
  · rfl

@[simp] theorem State.suppress_gau (s : State) (j n : Nat) : (s.suppress j n).gau = s.gau :=
  State.eachTod_gau (fun t i => t.bump_gau _ _ _ _ i 0 0) _ j

@[simp] theorem State.ppsSkip_gau (s : State) (j : Nat) : (s.ppsSkip j).gau = s.gau := by
  unfold State.ppsSkip
  dsimp only
  split
  · rfl
  · exact s.suppress_gau j _

@[simp] theorem State.landWrites_gau (s : State) (p : Nat) : (s.landWrites p).gau = s.gau := by
  unfold State.landWrites
  split
  · refine (State.setEp_gau _ p _).trans (State.foldl_gau (fun t i => ?_) _ s)
    simp
  · rfl

@[simp] theorem State.countLate_gau (s : State) (p : Nat) (c : TxCur) : (s.countLate p c).gau = s.gau := by
  simp [State.countLate, apply_ite State.gau]

@[simp] theorem State.overrunCheck_gau (s : State) (p : Nat) : (s.overrunCheck p).gau = s.gau := by
  unfold State.overrunCheck
  split
  · rfl
  · split
    · rfl
    · exact s.countLate_gau p _

@[simp] theorem State.startSlot_gau (s : State) (p i : Nat) : (s.startSlot p i).gau = s.gau := by
  simp [State.startSlot]

@[simp] theorem State.stepTable_gau (s : State) (p : Nat) : (s.stepTable p).gau = s.gau := by
  unfold State.stepTable
  dsimp only
  split
  · exact s.startSlot_gau p _
  · rfl

@[simp] theorem State.stepLink_gau (s : State) (l : Nat) : (s.stepLink l).gau = s.gau := by
  unfold State.stepLink; split <;> rfl

/-- Taking the scheduled step off clears it and reports a status; nothing else of the Gauge block changes. -/
theorem State.dropSched_gau (s : State) (code : Nat) :
    ∃ c, (s.dropSched code).gau = { s.gau with sched := none, stepCode := c } := by
  unfold State.dropSched
  split
  case h_1 hs => exact ⟨s.gau.stepCode, by rw [← hs]⟩
  case h_2 d hs => exact ⟨code, by simp [State.status]⟩

/-- What follows from a step leaves the Gauge block as it is, but for the step that is done (R43). -/
theorem State.stepEffects_gau (s : State) (d : Sched) :
    ∃ c, (s.stepEffects d).gau = { s.gau with sched := none, stepCode := c } := by
  unfold State.stepEffects
  dsimp only
  obtain ⟨c, hc⟩ := State.dropSched_gau (State.pmcTime _ 5 0) 2
  refine ⟨c, hc.trans ?_⟩
  rw [State.pmcTime_gau, State.foldl_gau State.stepLink_gau, State.foldl_gau State.stepTable_gau,
    State.foldl_gau State.ppsSkip_gau]
  simp

@[simp] theorem State.stepEffects_l (s : State) (d : Sched) : (s.stepEffects d).gau.l = s.gau.l := by
  obtain ⟨c, h⟩ := s.stepEffects_gau d
  rw [h]

/-! ### The edge -/

@[simp] theorem State.advance_l (s : State) (rem sl : Int) : (s.advance rem sl).gau.l = s.gau.l + 1 := rfl

@[simp] theorem State.advance_g (s : State) (rem sl : Int) : (s.advance rem sl).gau.g = accOfSum s.gau.g (s.incOf sl) := rfl

@[simp] theorem State.stepGauge_l (s : State) (old : Nat) (d : Sched) : (s.stepGauge old d).gau.l = s.gau.l := rfl

theorem State.plainEdge_l (s : State) : s.plainEdge.gau.l = s.gau.l + 1 := by
  simp [State.plainEdge]

theorem State.plainEdge_g (s : State) : s.plainEdge.gau.g = accOfSum s.gau.g (s.incOf (s.slewPart s.gau.rem)) := by
  simp [State.plainEdge]

theorem State.stepEdgeOf_l (s : State) (d : Sched) : (s.stepEdgeOf d).gau.l = s.gau.l + 1 := by
  simp [State.stepEdgeOf]

/-- An edge is an ordinary one, or the step edge of the scheduled step. -/
theorem State.gEdge_cases (s : State) :
    (s.stepNext = false ∧ s.gEdge = s.plainEdge) ∨
    (∃ d, s.gau.sched = some d ∧ s.stepNext = true ∧ s.gEdge = s.stepEdgeOf d) := by
  unfold State.gEdge
  split
  case h_1 hs => exact .inl ⟨by simp [State.stepNext, hs], rfl⟩
  case h_2 d hs =>
    by_cases hn : s.stepNext = true
    · exact .inr ⟨d, hs, hn, if_pos hn⟩
    · exact .inl ⟨Bool.eq_false_iff.mpr hn, if_neg hn⟩

theorem State.gEdge_l (s : State) : s.gEdge.gau.l = s.gau.l + 1 := by
  obtain ⟨-, h⟩ | ⟨d, -, -, h⟩ := s.gEdge_cases
  · rw [h, s.plainEdge_l]
  · rw [h, s.stepEdgeOf_l d]

/-- Settles O60: the local time by both kinds of edge; with no step scheduled the edge is an ordinary one, whose advance is the Gauge's. -/
theorem localTimeAdvances : Obligations.LocalTimeAdvances := by
  intro s
  refine ⟨s.gEdge_l, fun hs => ?_⟩
  obtain ⟨-, h⟩ | ⟨d, hd, -, -⟩ := s.gEdge_cases
  · rw [h, s.plainEdge_g, accOfSum]
  · simp [hs] at hd

end Sys2Proof.Machine
end

section
/-! DEFINITION. Canonical memories as predicates over a sequencer, a device and a next state. PROOFS. The rules by which a proof goes on:
what a record update leaves, a choice, a fold, a table; then the memories after the operations that every block uses. Most operations write no
memory, and their lemma is the chain of the operations that they are made of. -/

namespace Sys2Proof.Machine

/-- The memories of a sequencer are canonical. -/
def Seq.Canon (q : Seq) : Prop := q.memOk = true

/-- Every addressed memory of the device is canonical. -/
def State.Canon (s : State) : Prop := s.memOk = true

/-- A next state with canonical memories. -/
def Res.Canon : Res → Prop
  | .next t => t.Canon
  | _ => True

theorem Seq.canon_iff (q : Seq) : q.Canon ↔ memWf q.pMem = true ∧ memWf q.cMem = true ∧ memWf q.dMem = true := by
  simp [Seq.Canon, Seq.memOk, and_assoc]

theorem State.canon_iff (s : State) : s.Canon ↔ memWf s.dram = true ∧ ∀ p ∈ s.seqs, p.2.Canon := by
  simp [State.Canon, State.memOk, Seq.Canon]

/-- The frame rule of a sequencer: an update that writes none of its memories. The fields are variables of the lemma, so that its
conclusion unifies with a record update as the model writes it. -/
theorem Seq.Canon.frame {q : Seq} (h : q.Canon) {st trap pc z n v c s t g a0 a1 x m l calls reps rpt start wait kick missed inbox img
    stall ext} :
    (Seq.mk st trap pc z n v c s t g a0 a1 x m l calls reps rpt start wait kick missed inbox q.pMem q.cMem q.dMem img stall ext).Canon := h

/-- The frame rule of the device: an update that leaves the sequencers and external memory. -/
theorem State.Canon.frame {s : State} (h : s.Canon) {pending sent free wt fired regs force hw staged latches hostErr sbdErr warden log gau
    sel hld out clus flt rcd pmc links twin tdc gnb key fuses att eth tsv aud mix hst sbd mem cast_ coreOn} :
    (State.mk pending sent free wt fired regs force hw staged latches hostErr sbdErr warden log gau sel hld out s.seqs clus flt rcd pmc
      links twin tdc gnb key fuses att eth tsv aud mix hst sbd mem cast_ s.dram coreOn).Canon := h

theorem State.Canon.ite {c : Prop} {_ : Decidable c} {s t : State} (hs : s.Canon) (ht : t.Canon) :
    (if c then s else t).Canon := by
  split
  · exact hs
  · exact ht

theorem Seq.Canon.ite {c : Prop} {_ : Decidable c} {q r : Seq} (hq : q.Canon) (hr : r.Canon) :
    (if c then q else r).Canon := by
  split
  · exact hq
  · exact hr

theorem State.Canon.foldl {α : Type} {f : State → α → State} {l : List α} {s : State} (h : s.Canon)
    (hf : ∀ t a, t.Canon → (f t a).Canon) : (l.foldl f s).Canon :=
  List.foldlRecOn l f h fun t ht a _ => hf t a ht

theorem Tab.get_of_all {α : Type} {P : α → Prop} {d : α} (hd : P d) (t : Tab α) (n : Nat) (h : ∀ p ∈ t, P p.2) :
    P (t.get n d) := by
  induction t with
  | nil => exact hd
  | cons p r ih =>
    obtain ⟨k, v⟩ := p
    rw [Tab.get]
    split
    · exact h (k, v) (by simp)
    · exact ih fun p hp => h p (by simp [hp])

theorem Tab.all_set {α : Type} {P : α → Prop} {v : α} (hv : P v) (t : Tab α) (n : Nat) (h : ∀ p ∈ t, P p.2) :
    ∀ p ∈ t.set n v, P p.2 := by
  induction t with
  | nil => simpa [Tab.set] using hv
  | cons p r ih =>
    obtain ⟨k, w⟩ := p
    have hr : ∀ p ∈ r, P p.2 := fun p hp => h p (by simp [hp])
    have hw : P w := h (k, w) (by simp)
    rw [Tab.set]
    split
    · simpa [hv] using hr
    · split
      · simpa [hv, hw] using hr
      · simpa [hw] using ih hr

theorem Seq.Canon.reset : Seq.reset.Canon := rfl

theorem State.Canon.sq {s : State} {n : Nat} (h : s.Canon) : (s.sq n).Canon :=
  Tab.get_of_all Seq.Canon.reset _ _ (s.canon_iff.mp h).2

theorem State.Canon.setSq {s : State} {n : Nat} {q : Seq} (h : s.Canon) (hq : q.Canon) : (s.setSq n q).Canon :=
  (State.canon_iff _).mpr ⟨(s.canon_iff.mp h).1, Tab.all_set hq _ _ (s.canon_iff.mp h).2⟩

/-- A fold over the device that collects a result beside it. -/
theorem State.Canon.foldl_snd {α β : Type} {f : β × State → α → β × State} {l : List α} {b : β} {s : State} (h : s.Canon)
    (hf : ∀ a x, a.2.Canon → (f a x).2.Canon) : (l.foldl f (b, s)).2.Canon :=
  List.foldlRecOn (motive := fun a : β × State => a.2.Canon) l f h fun a ha x _ => hf a x ha

theorem Seq.Canon.dMem {q : Seq} (h : q.Canon) : memWf q.dMem = true := (q.canon_iff.mp h).2.2

theorem Seq.Canon.memOf {q : Seq} (h : q.Canon) (m : SMem) : memWf (q.memOf m) = true := by
  obtain ⟨hp, hc, hd⟩ := q.canon_iff.mp h
  cases m with
  | P => exact hp
  | C => exact hc
  | D => exact hd

/-- A fold that writes words keeps a memory canonical. -/
theorem memWf_putWords {α : Type} {f : α → Nat × Word} {l : List α} {d : List Host.Cell} (h : memWf d = true) :
    memWf (l.foldl (fun d e => memPutWord d (f e).1 (f e).2) d) = true :=
  List.foldlRecOn (motive := fun d => memWf d = true) l _ h fun d hd _ _ => memWf_putWord d _ _ hd

theorem State.Canon.snd {β : Type} {b : β} {s : State} (h : s.Canon) : ((b, s) : β × State).2.Canon := h

theorem State.Canon.fst {β : Type} {b : β} {s : State} (h : s.Canon) : ((s, b) : State × β).1.Canon := h

theorem Seq.Canon.setD {q : Seq} (h : q.Canon) {d : List Host.Cell} (hd : memWf d = true) : ({ q with dMem := d } : Seq).Canon :=
  (Seq.canon_iff _).mpr ⟨(q.canon_iff.mp h).1, (q.canon_iff.mp h).2.1, hd⟩

section

variable {s : State} {q : Seq}

/-! ### The flags -/

theorem Seq.Canon.zn (h : q.Canon) {r : Word} : (q.zn r).Canon := h.frame

theorem Seq.Canon.znAcc (h : q.Canon) {r : AccWord} : (q.znAcc r).Canon := h.frame

theorem Seq.Canon.cvAdd (h : q.Canon) {a b : Word} {c : Bool} : (q.cvAdd a b c).Canon := h.frame

theorem Seq.Canon.cvSub (h : q.Canon) {a b : Word} {borrow : Bool} : (q.cvSub a b borrow).Canon := h.frame

theorem Seq.Canon.cShl (h : q.Canon) {a : Word} {k : Nat} : (q.cShl a k).Canon := .ite h h.frame

theorem Seq.Canon.cShr (h : q.Canon) {a : Word} {k : Nat} : (q.cShr a k).Canon := .ite h h.frame

theorem Seq.Canon.vAcc (h : q.Canon) {r : Int} : (q.vAcc r).Canon := h.frame

theorem Seq.Canon.storeFlags (h : q.Canon) {w : Nat} {v : Int} {sat : Bool} : (q.storeFlags w v sat).Canon :=
  .ite (.ite h h.frame) (.ite h.frame h.frame)

/-! ### The operands of the instructions -/

theorem Seq.Canon.setG (h : q.Canon) {k : Nat} {v : Word} : (q.setG k v).Canon := h.frame

theorem Seq.Canon.setX (h : q.Canon) {k : Nat} {v : Half} : (q.setX k v).Canon := h.frame

theorem Seq.Canon.setAcc (h : q.Canon) {a : Sys2Proof.Acc} {v : AccWord} : (q.setAcc a v).Canon := by
  unfold Seq.setAcc
  split
  · exact h.frame
  · exact h.frame

theorem Seq.Canon.setAx (h : q.Canon) {kind : AxKind} {k : Nat} {v : Half} : (q.setAx kind k v).Canon := by
  unfold Seq.setAx
  split
  · exact h.frame
  · exact h.frame
  · exact h.frame

theorem Seq.Canon.postMod (h : q.Canon) {k : Nat} {x : Sys2Proof.Mod} : (q.postMod k x).Canon := by
  unfold Seq.postMod
  split
  · exact h
  · exact h.setX
  · exact h.setX

theorem Seq.Canon.setMem (h : q.Canon) {m : SMem} {c : List Host.Cell} (hc : memWf c = true) : (q.setMem m c).Canon := by
  obtain ⟨hp, hC, hd⟩ := q.canon_iff.mp h
  cases m with
  | P => exact h
  | C => exact (Seq.canon_iff _).mpr ⟨hp, hc, hd⟩
  | D => exact (Seq.canon_iff _).mpr ⟨hp, hC, hc⟩

theorem Seq.Canon.jump (h : q.Canon) {t : Nat} : (q.jump t).Canon := h.frame

theorem Seq.Canon.advance (h : q.Canon) {w : Nat} : (q.advance w).Canon := h.frame

theorem Seq.Canon.retire (h : q.Canon) {w : Nat} : (q.retire w).Canon := by
  unfold Seq.retire
  split
  · exact h.frame
  · exact h.frame.advance

/-! ### Registers, units, interrupts, counters and messages -/

theorem State.Canon.setReg (h : s.Canon) {r : RegName} {v i j l : Nat} : (s.setReg r v i j l).Canon := h.frame

theorem State.Canon.setFl (h : s.Canon) {r : RegName} {hi lo w i j l : Nat} : (s.setFl r hi lo w i j l).Canon := h.frame

theorem State.Canon.setHw (h : s.Canon) {r : RegName} {hi lo w i j l : Nat} : (s.setHw r hi lo w i j l).Canon := h.frame

theorem State.Canon.bump (h : s.Canon) {r : RegName} {hi lo k i j l : Nat} : (s.bump r hi lo k i j l).Canon := h.setHw

theorem State.Canon.setClu (h : s.Canon) {k : Nat} {c : Clu} : (s.setClu k c).Canon := h.frame

theorem State.Canon.setCand (h : s.Canon) {k : Nat} {c : Cand} : (s.setCand k c).Canon := h.frame

theorem State.Canon.setOutU (h : s.Canon) {i : Nat} {o : OutU} : (s.setOutU i o).Canon := h.frame

theorem State.Canon.setFsrc (h : s.Canon) {k : Nat} {f : FltSrc} : (s.setFsrc k f).Canon := h.frame

theorem State.Canon.send (h : s.Canon) {x : Sent} : (s.send x).Canon := h.frame

theorem State.Canon.draw (h : s.Canon) {w : Nat} : (s.draw w).2.Canon := by
  unfold State.draw
  exact h.frame

theorem State.Canon.setTdcCh (h : s.Canon) {c : Nat} {x : TdcCh} : (s.setTdcCh c x).Canon := h.frame

theorem State.Canon.setCalU (h : s.Canon) {u : Nat} {x : CalU} : (s.setCalU u x).Canon := h.frame

theorem State.Canon.setFe (h : s.Canon) {f : Nat} {x : Fe} : (s.setFe f x).Canon := h.frame

theorem State.Canon.setChan (h : s.Canon) {c : Nat} {x : Chan} : (s.setChan c x).Canon := h.frame

theorem State.Canon.setLink (h : s.Canon) {l : Nat} {x : Link} : (s.setLink l x).Canon := h.frame

theorem State.Canon.latchBus (h : s.Canon) : s.latchBus.Canon := h.frame

theorem State.Canon.fire (h : s.Canon) {key : Nat} : (s.fire key).Canon := h.frame

theorem State.Canon.irq (h : s.Canon) {v : Nat} : (s.irq v).Canon := .ite (.ite h.setHw h.setHw.send) h

theorem State.Canon.ibi (h : s.Canon) {c : Nat} : (s.ibi c).Canon := .ite h h.send

theorem State.Canon.pmcOne (h : s.Canon) {i k : Nat} : (s.pmcOne i k).Canon := h.frame

theorem State.Canon.pmcEv (h : s.Canon) {lo hi sel k : Nat} : (s.pmcEv lo hi sel k).Canon := h.foldl fun _ _ ht => ht.pmcOne

theorem State.Canon.pmcTime (h : s.Canon) {ev obj k : Nat} : (s.pmcTime ev obj k).Canon := h.pmcEv

theorem State.Canon.pmcSeq (h : s.Canon) {n ev k : Nat} : (s.pmcSeq n ev k).Canon := h.pmcEv

theorem State.Canon.pmcEth (h : s.Canon) {p ev k : Nat} : (s.pmcEth p ev k).Canon := h.pmcEv

theorem State.Canon.recEvent (h : s.Canon) {code arg : Nat} : (s.recEvent code arg).Canon :=
  .ite (.ite h.frame.frame h.frame.bump.bump) h.frame.bump

theorem State.Canon.sample (h : s.Canon) {meas arg : Nat} {v : Int} : (s.sample meas arg v).Canon :=
  .ite (h.foldl (fun _ _ ht => .ite ht.frame ht)) h

theorem Seq.Canon.wakeSeq (h : q.Canon) {t : Bool} : (wakeSeq q t).Canon := h.frame

theorem State.Canon.wakeFor (h : s.Canon) {n port : Nat} : (s.wakeFor n port).Canon := by
  unfold State.wakeFor
  split
  · exact h
  · exact .ite (h.setSq h.sq.wakeSeq) h

theorem State.Canon.deliver (h : s.Canon) {n port : Nat} {m : Msg} : (s.deliver n port m).Canon :=
  .ite (h.setSq h.sq.frame).wakeFor.pmcSeq h.bump

theorem State.Canon.stepRes (h : s.Canon) {by_ : Option Nat} {code seq t : Nat} : (s.stepRes by_ code seq t).Canon := by
  unfold State.stepRes
  split
  · exact h
  · exact h.deliver

theorem State.Canon.setDq (h : s.Canon) {q : Nat} {x : Dma} : (s.setDq q x).Canon := h.frame

theorem State.Canon.dmaResult (h : s.Canon) {q id : Nat} {r : Nat × Nat × Nat} : (s.dmaResult q id r).Canon := h.setDq

theorem State.Canon.sbdSend (h : s.Canon) {seq status : Nat} {pay : List Byte} : (s.sbdSend seq status pay).Canon := h.send.ibi

theorem State.Canon.mbxAnswer (h : s.Canon) {status : Nat} {pay : List Byte} : (s.mbxAnswer status pay).Canon := by
  unfold State.mbxAnswer
  split
  · exact h
  · exact h.frame.irq

theorem State.Canon.sbdEnds (h : s.Canon) {org : Machine.Origin} {cmd status : Nat} {pay : List Byte} :
    (s.sbdEnds org cmd status pay).Canon := by
  unfold State.sbdEnds
  split
  · split
    · exact .ite h.frame.sbdSend h
    · exact h
  · exact .ite h.mbxAnswer h
  · exact h

end

end Sys2Proof.Machine
end

section
/-! PROOFS. Canonical memories after the operations of the time blocks, the audit log, the faults, external memory, the sequencers and the keys
(chapters 2, 3, 7, 13, 15 and 16). -/

namespace Sys2Proof.Machine

variable {s : State} {q : Seq}

/-! ### The Gauge and holdover -/

theorem State.Canon.restart (h : s.Canon) : s.restart.Canon := h.frame

theorem State.Canon.status (h : s.Canon) {by_ : Option Nat} {code t num : Nat} : (s.status by_ code t num).Canon := h.frame.stepRes

theorem State.Canon.dropSched (h : s.Canon) {code : Nat} : (s.dropSched code).Canon := by
  unfold State.dropSched
  split
  · exact h
  · exact h.frame.status

theorem State.Canon.dropHeld (h : s.Canon) {code : Nat} : (s.dropHeld code).Canon := by
  unfold State.dropHeld
  split
  · exact h
  · exact h.frame.status

theorem State.Canon.schedule (h : s.Canon) {d : Sched} : (s.schedule d).Canon := h.dropSched.frame.status

theorem State.Canon.releaseHeld (h : s.Canon) {code : Nat} : (s.releaseHeld code).Canon := by
  unfold State.releaseHeld
  split
  · exact h
  · exact .ite h.frame.dropSched.frame.status.restart (.ite h.frame.status h.frame.frame.status.restart)

theorem State.Canon.witnessTest (h : s.Canon) : s.witnessTest.Canon := by
  unfold State.witnessTest
  split
  · exact h
  · exact .ite h.releaseHeld h

theorem State.Canon.hold (h : s.Canon) {step : Bool} {amt : Int} {clr : Bool} {by_ : Option Nat} {t : Nat} :
    (s.hold step amt clr by_ t).Canon :=
  h.frame.status.witnessTest

theorem State.Canon.takeSlew (h : s.Canon) {amt : Int} {by_ : Option Nat} {t : Nat} : (s.takeSlew amt by_ t).Canon :=
  .ite h.hold h.frame.status

theorem State.Canon.takeStep (h : s.Canon) {t : Nat} {amt : Int} {clr : Bool} {by_ : Option Nat} :
    (s.takeStep t amt clr by_).Canon :=
  .ite h.takeSlew (.ite h.hold h.schedule)

theorem State.Canon.latchAtom (h : s.Canon) : s.latchAtom.Canon := by
  unfold State.latchAtom
  split
  · exact h.frame
  · exact .ite h.frame h.frame

theorem State.Canon.ageStart (h : s.Canon) : s.ageStart.Canon := .ite h h.frame

theorem State.Canon.ageFold (h : s.Canon) : s.ageFold.Canon := .ite (.ite h.frame h.frame.setHw) h

theorem State.Canon.ageCheck (h : s.Canon) : s.ageCheck.Canon := .ite (.ite h.ageStart h.ageFold) h

theorem State.Canon.ageUpdate (h : s.Canon) {m : Nat} : (s.ageUpdate m).Canon := h.frame

theorem State.Canon.rebase (h : s.Canon) : s.rebase.Canon := .ite h.frame h

theorem State.Canon.fselEffects (h : s.Canon) {old : Option Nat} : (State.fselEffects old s).Canon :=
  (State.Canon.ite h h.rebase).ageCheck

theorem State.Canon.stateEvent (h : s.Canon) : s.stateEvent.Canon := h.recEvent

theorem State.Canon.enterHoldover (h : s.Canon) {cause : Nat} : (s.enterHoldover cause).Canon := by
  refine .stateEvent (.ite (.ageStart ?_) ?_) <;> exact .ite h.latchAtom.frame.dropSched h.latchAtom.frame

theorem State.Canon.enterLocked (h : s.Canon) {b : Nat} : (s.enterLocked b).Canon :=
  (State.Canon.ite h.ageFold.frame.restart h.ageFold.frame).stateEvent

theorem State.Canon.gbnd (h : s.Canon) {n b : Nat} {lock : Bool} : (s.gbnd n b lock).Canon := by
  unfold State.gbnd
  dsimp only
  split
  · exact h.frame
  · exact h.frame.frame
  · exact h.frame.frame.enterHoldover
  · exact .ite h.frame.enterLocked (.ite (State.Canon.ite h.frame.bump h.frame).frame (.ite h.frame.bump h.frame))

theorem State.Canon.noRef (h : s.Canon) : s.noRef.Canon := .ite h.enterHoldover h

theorem State.Canon.servoFenced (h : s.Canon) {n : Nat} : (s.servoFenced n).Canon := .ite h.enterHoldover h

theorem State.Canon.closeBreach (h : s.Canon) {code : Nat} : (s.closeBreach code).Canon := h.frame.restart

theorem State.Canon.advance (h : s.Canon) {rem sl : Int} : (s.advance rem sl).Canon := h.frame

theorem State.Canon.pulls (h : s.Canon) : s.pulls.Canon := h.frame

/-! ### The audit log -/

theorem State.Canon.place (h : s.Canon) {r : LogRec} : (s.place r).Canon := .ite h.frame.irq.ibi h.frame

theorem State.Canon.placeGap (h : s.Canon) : s.placeGap.Canon := .ite h.place.frame h

theorem State.Canon.countFull (h : s.Canon) : s.countFull.Canon := h.frame

theorem State.Canon.recordNormal {t : State} (h : s.Canon) {r : LogRec} (ht : s.recordNormal r = some t) : t.Canon := by
  unfold State.recordNormal at ht
  split at ht
  · obtain rfl := Option.some.inj ht
    exact h.placeGap.place
  · cases ht

theorem State.Canon.recordExempt (h : s.Canon) {r : LogRec} : (s.recordExempt r).Canon := by
  unfold State.recordExempt
  split
  case h_1 ht => exact h.recordNormal ht
  case h_2 =>
    split
    · exact h.frame
    · exact h.countFull

theorem State.Canon.recordDeferred (h : s.Canon) {r : LogRec} : (s.recordDeferred r).Canon := by
  unfold State.recordDeferred
  split
  · split
    case h_1 ht => exact h.recordNormal ht
    case h_2 => exact h.countFull
  · exact h.frame

theorem State.Canon.gapAlone (h : s.Canon) : s.gapAlone.Canon := .ite h.placeGap h

theorem State.Canon.recordOwed (h : s.Canon) : s.recordOwed.Canon :=
  (State.Canon.ite h.placeGap h).frame.foldl fun _ _ ht => ht.recordDeferred

/-! ### The reference selector -/

theorem State.Canon.outcome (h : s.Canon) {t : Txn} {code : Nat} : (s.outcome t code).Canon := h.frame.recEvent

theorem State.Canon.abandon (h : s.Canon) : s.abandon.Canon := by
  unfold State.abandon
  split
  · exact h
  · exact h.outcome

theorem State.Canon.prepare (h : s.Canon) {w : Nat} : (s.prepare w).Canon := h.frame.deliver

theorem State.Canon.clearDisputes (h : s.Canon) {freq : Bool} : (s.clearDisputes freq).Canon := h.frame

theorem State.Canon.deselect (h : s.Canon) : s.deselect.Canon := by
  unfold State.deselect
  split
  · exact h
  · exact .ite h h.frame.clearDisputes.recordDeferred.noRef

theorem State.Canon.deselectF (h : s.Canon) : s.deselectF.Canon := by
  unfold State.deselectF
  split
  · exact h
  · exact .ite h h.frame.clearDisputes.recordDeferred.fselEffects

theorem State.Canon.enqueue (h : s.Canon) {ch : Change} {org : Machine.Origin} : (s.enqueue ch org).Canon := h.frame

theorem State.Canon.requestF (h : s.Canon) : s.requestF.Canon := by
  unfold State.requestF
  split
  · exact h
  · exact .ite h (.ite h.frame h.frame.enqueue)

theorem State.Canon.requestT (h : s.Canon) : s.requestT.Canon := by
  unfold State.requestT
  split
  · exact h.abandon
  · exact .ite h h.abandon.prepare

theorem State.Canon.determine (h : s.Canon) : s.determine.Canon := h.deselect.deselectF.requestF.requestT

theorem State.Canon.commitSel (h : s.Canon) {t : Txn} : (s.commitSel t).Canon := h.frame.clearDisputes.outcome.deliver.determine

theorem State.Canon.commitEdge (h : s.Canon) {num : Nat} : (s.commitEdge num).Canon := by
  unfold State.commitEdge
  split
  · exact h
  · exact .ite h (.ite h.outcome (.ite h.outcome.determine (.ite h.outcome h.commitSel)))

theorem State.Canon.takeFsel (h : s.Canon) {k : Nat} : (s.takeFsel k).Canon := h.frame.clearDisputes.fselEffects.determine

theorem State.Canon.qualEvent (h : s.Canon) {k : Nat} {entered : Bool} {cause : Nat} : (s.qualEvent k entered cause).Canon := h.recEvent

theorem State.Canon.disqualify (h : s.Canon) {k cause : Nat} {dest : CState} {obs : List (Int × Int)} :
    (s.disqualify k cause dest obs).Canon := by
  unfold State.disqualify
  dsimp only
  split
  · exact .ite h.setCand.bump.pmcTime.qualEvent h.setCand.bump.pmcTime
  · exact .ite h.setCand.bump.pmcTime.qualEvent h.setCand.bump.pmcTime
  · exact h

theorem State.Canon.disq (h : s.Canon) {k cause : Nat} : (s.disq k cause).Canon := h.disqualify.determine

theorem State.Canon.external (h : s.Canon) {k : Nat} {link on : Bool} : (s.external k link on).Canon :=
  .ite h (.ite h.setCand.disq (.ite h.setCand h.setCand))

theorem State.Canon.candEnable (h : s.Canon) {k : Nat} {en : Bool} : (s.candEnable k en).Canon :=
  .ite (.ite h.setCand.determine h) h.disqualify.setCand.determine

theorem State.Canon.firstObs (h : s.Canon) {k : Nat} {e t : Int} {seen : Nat} : (s.firstObs k e t seen).Canon := h.setCand.determine

theorem State.Canon.observe (h : s.Canon) {k e : Nat} {tau : Option Int} : (s.observe k e tau).Canon := by
  unfold State.observe
  dsimp only
  split
  · exact h
  · exact h.pmcTime.firstObs
  · split
    · split
      · exact h.pmcTime.disqualify.firstObs
      · split
        · exact h.pmcTime.disqualify.setCand.determine
        · split
          · exact h.pmcTime.disqualify.setCand.determine
          · split
            · exact h.pmcTime.bump.setCand
            · exact .ite h.pmcTime.bump.setCand (.ite h.pmcTime.bump.sample.disqualify.setCand.determine h.pmcTime.bump.sample.setCand)
    · exact h.pmcTime.firstObs

theorem State.Canon.observeNow (h : s.Canon) {k : Nat} {tau : Option Int} : (s.observeNow k tau).Canon := .ite h.fire.observe h

theorem State.Canon.edgeObs (h : s.Canon) {k : Nat} : (s.edgeObs k).Canon := h.setCand.observeNow

theorem State.Canon.candEdge (h : s.Canon) {k : Nat} : (s.candEdge k).Canon := .ite h.setCand h.edgeObs

theorem State.Canon.candSecond (h : s.Canon) {k : Nat} : (s.candSecond k).Canon := by
  unfold State.candSecond
  dsimp only
  split
  · exact .ite h (.ite h.setCand.setCand.disqualify h.setCand.setCand)
  · exact .ite h (.ite h.setCand.setCand.disqualify h.setCand.setCand)
  · exact h

theorem State.Canon.disputeOne (h : s.Canon) {cur k : Nat} : (s.disputeOne cur k).Canon :=
  .ite (.ite (.ite h h.setCand.recEvent) h.setCand) h

theorem State.Canon.disputes (h : s.Canon) : s.disputes.Canon := by
  unfold State.disputes
  extract_lets s1
  have hs1 : s1.Canon := by
    unfold s1
    split
    · exact h
    · exact h.foldl fun _ _ ht => ht.disputeOne
  split
  · exact hs1
  · exact hs1.foldl fun _ _ ht => ht.disputeOne

theorem State.Canon.enterQual (h : s.Canon) {k : Nat} : (s.enterQual k).Canon := h.setCand.qualEvent.determine

theorem State.Canon.holdPost (h : s.Canon) {k : Nat} {p : Post} : (s.holdPost k p).Canon := h.setCand.sample

theorem State.Canon.stepPosts (h : s.Canon) {amt : Int} : (s.stepPosts amt).Canon := h.frame

theorem State.Canon.hostset (h : s.Canon) {t gauge : Nat} {en : Bool} : (s.hostset t gauge en).Canon := .ite h h.setCand

/-! ### Refusals -/

theorem State.Canon.werr (h : s.Canon) {org : Machine.Origin} {addr : Nat} {c : Code} : (s.werr org addr c).Canon := by
  unfold State.werr
  split
  · exact h.frame.bump.irq.pmcEv
  · exact h.frame.bump.ibi
  · exact h

theorem State.Canon.wrDone (h : s.Canon) {n : Nat} {c : Bool} : (s.wrDone n c).Canon := .ite (h.setSq h.sq.frame.retire) h

theorem State.Canon.opStatus (h : s.Canon) {r : RegName} {st : Nat} {c : Code} : (s.opStatus r st c).Canon := h.setHw.setHw

theorem State.Canon.clearStaged (h : s.Canon) : s.clearStaged.Canon := h.frame

theorem State.Canon.configRefused (h : s.Canon) {c : Code} : (s.configRefused c).Canon := .ite h h.frame

theorem State.Canon.bulkDone (h : s.Canon) {q result code : Nat} : (s.bulkDone q result code).Canon :=
  h.foldl fun _ _ ht => ht.dmaResult

theorem State.Canon.keyRefused (h : s.Canon) {c : Code} : (s.keyRefused c).Canon := h.opStatus.clearStaged

theorem State.Canon.chanRefused (h : s.Canon) {a : Nat} {c : Code} : (s.chanRefused a c).Canon := by
  unfold State.chanRefused
  split
  · exact h.setChan
  · exact h

theorem State.Canon.regRefused (h : s.Canon) {a v : Nat} {c : Code} : (s.regRefused a v c).Canon := by
  unfold State.regRefused
  split
  · split
    · exact h.status
    · exact h.status
    · exact h.status
    · exact h.status
    · exact h.status
    · exact h.status
    · exact h.status
    · exact h
  · exact .ite (.ite h.keyRefused h) (.ite (.ite h.opStatus h) (.ite (.ite h.setHw h) (.ite (.ite h.configRefused h) h.chanRefused)))

theorem State.Canon.sbdWordRefused (h : s.Canon) {c : Code} : (s.sbdWordRefused c).Canon := by
  unfold State.sbdWordRefused
  split
  · exact h
  · exact .ite h.frame.sbdSend h

theorem State.Canon.originTold (h : s.Canon) {org : Machine.Origin} {c : Code} : (s.originTold org c).Canon := by
  unfold State.originTold
  split
  · exact h.wrDone
  · exact h.sbdWordRefused
  · exact h

theorem State.Canon.tellRefused (h : s.Canon) {ch : Change} {org : Machine.Origin} {c : Code} : (s.tellRefused ch org c).Canon := by
  unfold State.tellRefused
  split
  · exact h.originTold.regRefused
  · exact h.originTold
  · exact h.originTold
  · exact h.bulkDone
  · exact h.status
  · split
    · exact .ite h.outcome h
    · exact h
  · exact .ite h.frame h
  · exact h.configRefused.sbdEnds
  · exact h.configRefused.sbdEnds
  · exact h.sbdEnds

theorem State.Canon.refuseUnrecorded (h : s.Canon) {e : GateEntry} {c : Code} : (s.refuseUnrecorded e c).Canon := by
  refine .ite (.frame ?_) ?_ <;>
  · refine .tellRefused (.werr ?_)
    split
    · exact h.countFull
    · exact h.frame

theorem State.Canon.wardenDown (h : s.Canon) : s.wardenDown.Canon := h.frame.foldl fun _ _ ht => ht.refuseUnrecorded

/-! ### Faults and their actions -/

theorem State.Canon.launchEdge (h : s.Canon) {src : Nat} {fall : Bool} {d : Int} : (s.launchEdge src fall d).Canon := .ite h.frame h

theorem State.Canon.loopEdge (h : s.Canon) {i : Nat} {level : Bool} {d : Int} : (s.loopEdge i level d).Canon := by
  unfold State.loopEdge
  split
  · exact h.launchEdge
  · exact h

theorem State.Canon.setPin (h : s.Canon) {i : Nat} {o : OutU} {active : Bool} {at_ : Int} : (s.setPin i o active at_).Canon :=
  .ite h.setOutU h.setOutU.loopEdge.send

theorem State.Canon.cutOut (h : s.Canon) {i : Nat} : (s.cutOut i).Canon := h.setPin

theorem State.Canon.squelchOne (h : s.Canon) {i : Nat} : (s.squelchOne i).Canon := .ite h.cutOut (.ite h.setOutU h)

theorem State.Canon.squelch (h : s.Canon) : s.squelch.Canon := h.foldl fun _ _ ht => ht.squelchOne

theorem State.Canon.twinLinkCond (h : s.Canon) {on : Bool} : (s.twinLinkCond on).Canon := h.foldl fun _ _ ht => .ite ht.external ht

theorem State.Canon.setRole (h : s.Canon) {r : Role} : (s.setRole r).Canon :=
  .ite h (State.Canon.ite h.frame.twinLinkCond h.frame).squelch.determine

theorem State.Canon.takeover (h : s.Canon) {how : Nat} : (s.takeover how).Canon := by
  refine .ite h (.ite (.frame ?_) ?_) <;> exact (State.Canon.ite h.frame.recEvent h).setRole.bump.recEvent

theorem State.Canon.dropEvents (h : s.Canon) {n : Nat} : (s.dropEvents n).Canon := h.setClu

theorem State.Canon.haltSeq (h : s.Canon) {n : Nat} {st : SState} : (s.haltSeq n st).Canon := (h.setSq h.sq.frame).dropEvents

theorem State.Canon.startSeq (h : s.Canon) {n : Nat} {atRow : Bool} : (s.startSeq n atRow).Canon := h.setSq h.sq.frame

theorem State.Canon.tsFenced (h : s.Canon) {n : Nat} : (s.tsFenced n).Canon := h.servoFenced.foldl fun _ _ ht => .ite ht.setChan ht

theorem State.Canon.spare (h : s.Canon) {n : Nat} : (s.spare n).1.Canon := by
  unfold State.spare
  dsimp only
  split
  · exact h
  · split
    · exact h
    · exact h.setFl.setFl.setFl.startSeq.setFl.recEvent

theorem State.Canon.fenceSeq (h : s.Canon) {n : Nat} : (s.fenceSeq n).1.Canon := by
  unfold State.fenceSeq
  extract_lets s1 q s2
  have h1 : s1.Canon := h.haltSeq.setFl
  have h2 : s2.Canon := h1.setSq h1.sq.frame
  clear_value s2
  split
  · exact .fst h2.tsFenced
  · exact h2.spare

theorem State.Canon.setEp (h : s.Canon) {p : Nat} {x : EthP} : (s.setEp p x).Canon := h.frame

theorem State.Canon.ethCheck (h : s.Canon) {p : Nat} : (s.ethCheck p).Canon := h.external.external

theorem State.Canon.setLinkUp (h : s.Canon) {p : Nat} {up : Bool} : (s.setLinkUp p up).Canon :=
  .ite h (.ite h.setEp.ethCheck h.setEp.ethCheck.bump)

theorem State.Canon.apllOutputs (h : s.Canon) {x : Nat} : (s.apllOutputs x).Canon := h.foldl fun _ _ ht => ht.setFl

theorem State.Canon.fenceAction (h : s.Canon) {src unit : Nat} : (s.fenceAction src unit).1.Canon := by
  unfold State.fenceAction
  split
  · exact h.apllOutputs.squelch
  · exact h.fenceSeq
  · exact h.fenceSeq
  · exact h.fenceSeq
  · exact h.fenceSeq
  · exact h.setFl
  · exact h.setFl.setFe
  · exact h.setFl.setLinkUp
  · exact h.setFl.setLinkUp
  · exact h.setFl
  · exact h.setFl.squelch
  · exact h

theorem State.Canon.sendRelinq (h : s.Canon) : s.sendRelinq.Canon := h.foldl fun _ _ ht => .ite ht.send ht

theorem State.Canon.enterRelinq (h : s.Canon) : s.enterRelinq.Canon :=
  .ite h (State.Canon.ite h.frame.sendRelinq.frame h.frame.sendRelinq.setRole).squelch

theorem State.Canon.stopSeqs (h : s.Canon) : s.stopSeqs.Canon := by
  unfold State.stopSeqs
  refine h.foldl fun _ _ ht => ?_
  split
  · exact ht
  · exact ht
  · exact ht.haltSeq

theorem State.Canon.enterHalt (h : s.Canon) : s.enterHalt.Canon := h.enterRelinq.frame.stopSeqs.squelch

theorem State.Canon.faultRecord (h : s.Canon) {src unit : Nat} {inj : Bool} : (s.faultRecord src unit inj).Canon := by
  refine .ite (.ibi (.irq ?_)) ?_ <;> exact h.bump.setHw.setFsrc.frame.recEvent

theorem State.Canon.faultRelinq (h : s.Canon) {src : Nat} : (s.faultRelinq src).Canon := .ite h h.enterRelinq.recordDeferred

theorem State.Canon.faultDevice (h : s.Canon) {src sev : Nat} : (s.faultDevice src sev).Canon :=
  .ite h.faultRelinq (.ite (State.Canon.ite h h.recordDeferred).enterHalt h)

theorem State.Canon.fault1 (h : s.Canon) {src unit : Nat} {inj : Bool} : (s.fault1 src unit inj).1.Canon := by
  unfold State.fault1
  dsimp only
  split
  · exact h.faultRecord.fenceAction.recEvent
  · exact h.faultRecord.faultDevice

theorem State.Canon.fault (h : s.Canon) {src unit : Nat} {inj : Bool} : (s.fault src unit inj).Canon := by
  have h1 : (s.fault1 src unit inj).1.Canon := h.fault1
  unfold State.fault
  split
  case h_1 he => rwa [he] at h1
  case h_2 he => rw [he] at h1; exact h1.fault1

/-! ### External memory -/

theorem State.Canon.reported (h : s.Canon) {src unit : Nat} : (s.reported src unit).Canon := .ite h.frame h

theorem State.Canon.pmcMem (h : s.Canon) {r ev k : Nat} : (s.pmcMem r ev k).Canon := h.pmcEv

theorem State.Canon.setMemCh (h : s.Canon) {c : Nat} {x : MemCh} : (s.setMemCh c x).Canon := h.frame

theorem State.Canon.settleTxs (h : s.Canon) : s.settleTxs.Canon := h.frame

theorem State.Canon.memPost (h : s.Canon) {r addr len : Nat} : (s.memPost r addr len).Canon := .ite h h.frame

theorem State.Canon.finishTx (h : s.Canon) {c : Nat} : (s.finishTx c).Canon := by
  unfold State.finishTx
  split
  · exact h
  · split
    · exact h
    · exact .ite h.frame.settleTxs.pmcMem.sample h

theorem State.Canon.issueBeat (h : s.Canon) {c r : Nat} : (s.issueBeat c r).Canon := by
  unfold State.issueBeat
  split
  · exact h
  · exact h.setMemCh.pmcMem.frame

theorem State.Canon.memDecide (h : s.Canon) {c : Nat} : (s.memDecide c).Canon := by
  unfold State.memDecide
  split
  · exact h.setMemCh
  · refine .issueBeat ?_
    split
    · exact .ite h.pmcMem h
    · exact h

theorem State.Canon.memEdge (h : s.Canon) {c : Nat} : (s.memEdge c).Canon :=
  .ite h.memDecide (.ite h.setMemCh h.setMemCh.finishTx.memDecide)

theorem State.Canon.waitEdge (h : s.Canon) {r : Nat} : (s.waitEdge r).Canon := .ite (State.Canon.ite h.setHw h).pmcMem h

theorem State.Canon.arbiter (h : s.Canon) : s.arbiter.Canon :=
  .ite h ((State.Canon.ite h.settleTxs.memEdge.memEdge h.settleTxs).foldl fun _ _ ht => ht.waitEdge)

theorem State.Canon.addErr (h : s.Canon) {e : SymErr} : (s.addErr e).Canon := h.frame

theorem State.Canon.memUe (h : s.Canon) {r addr : Nat} : (s.memUe r addr).Canon :=
  (State.Canon.ite h h.setHw.setHw.setHw).bump.pmcMem.reported.fault.irq

theorem State.Canon.startSpare (h : s.Canon) {c : Nat} : (s.startSpare c).Canon := h.frame

theorem State.Canon.corrected (h : s.Canon) {r c d : Nat} : (s.corrected r c d).Canon :=
  .ite h.frame.bump.pmcMem.setFl.startSpare h.frame.bump.pmcMem

theorem State.Canon.cwDetects (h : s.Canon) {cw : Nat} : (s.cwDetects cw).2.Canon := by
  unfold State.cwDetects
  split
  · exact h
  · exact h
  · exact h
  · exact .snd h.draw

theorem State.Canon.readCw (h : s.Canon) {r : Nat} {wb : Bool} {cw : Nat} : (s.readCw r wb cw).2.Canon := by
  unfold State.readCw
  split
  · exact h
  · exact .ite h.corrected.frame h.corrected
  · exact .ite h.cwDetects.memUe h.cwDetects

theorem State.Canon.readCws (h : s.Canon) {r : Nat} {wb : Bool} {cws : List Nat} : (s.readCws r wb cws).2.Canon :=
  .foldl_snd h fun _ _ ht => ht.readCw

theorem State.Canon.memRead (h : s.Canon) {r addr len : Nat} : (s.memRead r addr len).2.2.Canon := by
  unfold State.memRead
  split
  · exact h.bump
  · split
    · exact h.memUe
    · exact h.memPost.readCws

theorem State.Canon.memPutBy (h : s.Canon) {r addr : Nat} {data : List Byte} : (s.memPutBy r addr data).2.Canon := by
  unfold State.memPutBy
  split
  · exact h
  · split
    · exact h.bump
    · split
      · exact h
      · have hx := h.memPost (r := r) (addr := addr) (len := data.length)
        dsimp only
        split
        · exact hx.readCws
        · obtain ⟨hd, hq⟩ := (State.canon_iff _).mp hx.readCws
          exact (State.canon_iff _).mpr ⟨memWf_put _ _ _ hd, hq⟩

theorem State.Canon.memWrite (h : s.Canon) {r addr : Nat} {data : List Byte} : (s.memWrite r addr data).Canon := h.memPutBy

/-! ### Class E boundaries -/

theorem State.Canon.applyReg (h : s.Canon) {a v : Nat} {x : RegAt} : (s.applyReg a v x).Canon := h.frame

theorem State.Canon.applyE (h : s.Canon) {b : Boundary} : (s.applyE b).Canon := h.foldl fun _ _ ht => ht.applyReg

theorem State.Canon.modelWritten (h : s.Canon) : s.modelWritten.Canon := .ite h.frame.rebase h.frame

theorem State.Canon.boundary (h : s.Canon) {b : Boundary} : (s.boundary b).Canon := by
  unfold State.boundary
  split
  · exact h.applyE.modelWritten
  · exact h.applyE

/-! ### How a sequencer goes through its instructions -/

theorem State.Canon.trap (h : s.Canon) {n : Nat} {t : Trap} : (s.trap n t).Canon := (h.setSq h.sq.frame).pmcSeq.haltSeq.fault

theorem State.Canon.issue (h : s.Canon) {n words : Nat} {cls : IClass} {illegal : Bool} {bad : Option Trap} {f : State → State}
    (hf : ∀ t, t.Canon → (f t).Canon) :
    (s.issue n words cls illegal bad f).Canon := by
  unfold State.issue
  split
  · split
    · exact h.trap
    · split
      · exact h.trap
      · split
        · exact h.trap
        · exact (hf _ h).pmcSeq
  · exact h

theorem State.Canon.alu (h : s.Canon) {n : Nat} {f : Seq → Seq} {words : Nat} (hf : ∀ t, t.Canon → (f t).Canon) :
    (s.alu n f words).Canon :=
  h.issue fun _ ht => ht.setSq (hf _ ht.sq).retire

theorem State.Canon.memOp (h : s.Canon) {n words : Nat} {illegal : Bool} {bad : Option Trap} {f : Seq → Seq}
    (hf : ∀ t, t.Canon → (f t).Canon) :
    (s.memOp n words illegal bad f).Canon :=
  h.issue fun _ ht => ht.setSq (hf _ ht.sq).retire

theorem State.Canon.branch (h : s.Canon) {n : Nat} {cls : IClass} {bad : Option Trap} {f : Seq → Seq} (hf : ∀ t, t.Canon → (f t).Canon) :
    (s.branch n cls bad f).Canon :=
  h.issue fun _ ht => (ht.setSq (hf _ ht.sq)).pmcSeq

theorem State.Canon.beginSeq (h : s.Canon) {n : Nat} : (s.beginSeq n).Canon := h.setSq h.sq.frame

theorem State.Canon.unfenceSeq (h : s.Canon) {n : Nat} : (s.unfenceSeq n).Canon :=
  .setFl (.setSq h ((Seq.canon_iff _).mpr ⟨rfl, rfl, rfl⟩))

theorem State.Canon.takeSeqCtl (h : s.Canon) {n : Nat} {run atRow unfence : Bool} : (s.takeSeqCtl n run atRow unfence).Canon := by
  unfold State.takeSeqCtl
  split
  · exact .ite h.startSeq h
  · exact .ite h.unfenceSeq h
  · exact .ite h h.haltSeq

theorem State.Canon.kick (h : s.Canon) {n : Nat} : (s.kick n).Canon := by
  unfold State.kick
  extract_lets q s1
  have hs1 : s1.Canon := (h.setSq h.sq.frame).pmcSeq
  exact .ite hs1.sample hs1

theorem State.Canon.eventDue (h : s.Canon) {k : Nat} : (s.eventDue k).Canon := by
  unfold State.eventDue
  split
  · exact h
  · exact .ite h.setClu.deliver h.setClu

theorem State.Canon.loadOne (h : s.Canon) {n : Nat} {img : List Byte} : (s.loadOne n img).Canon :=
  .setFl (.setSq h ((Seq.canon_iff _).mpr ⟨memWf_put _ _ _ rfl, memWf_put _ _ _ rfl, memWf_put _ _ _ rfl⟩))

theorem State.Canon.loadAll (h : s.Canon) {k mask : Nat} {img : List Byte} : (s.loadAll k mask img).Canon :=
  h.foldl fun _ _ ht => .ite ht.loadOne ht

/-! ### Keys, fuses and reports -/

theorem State.Canon.setKslot (h : s.Canon) {n : Nat} {k : KeySlot} : (s.setKslot n k).Canon := h.frame

theorem State.Canon.checkSlot (h : s.Canon) {n : Nat} : (s.checkSlot n).Canon := .ite h.setKslot.fault h

theorem State.Canon.clearLanes (h : s.Canon) {n : Nat} : (s.clearLanes n).Canon := h.frame

theorem State.Canon.commitKey (h : s.Canon) {slot attr : Nat} {key : List Byte} : (s.commitKey slot attr key).Canon :=
  h.clearLanes.setKslot

theorem State.Canon.zeroize (h : s.Canon) {src : Nat} : (s.zeroize src).Canon := .ite h.frame.setHw.fault h.frame.setHw

theorem State.Canon.runKeyOp (h : s.Canon) {v : Nat} : (s.runKeyOp v).Canon := by
  unfold State.runKeyOp
  dsimp only
  split
  · exact h.draw.commitKey
  · exact h.commitKey
  · split
    · exact h.commitKey
    · exact h
  · exact h.commitKey
  · exact h.clearLanes.setKslot
  · exact h.zeroize

theorem State.Canon.checkRead (h : s.Canon) {v : Nat} : (s.checkRead v).Canon := .ite h.checkSlot h

theorem State.Canon.doneKey (h : s.Canon) {v : Nat} : (s.doneKey v).Canon := h.runKeyOp.clearStaged.setHw.setHw

theorem State.Canon.keyParam (h : s.Canon) {r : Requester} {k : KeyParam} {v : Nat} : (s.keyParam r k v).Canon := by
  unfold State.keyParam
  extract_lets s0 q
  have hs0 : s0.Canon := .ite h h.clearStaged
  split
  · exact hs0.frame
  · exact hs0.frame
  · exact hs0.frame

theorem State.Canon.laneKey (h : s.Canon) {lane slot use typ : Nat} : (s.laneKey lane slot use typ).2.Canon := by
  unfold State.laneKey
  dsimp only
  split
  · exact h
  · split
    · exact h.checkSlot.frame
    · exact h.checkSlot

theorem State.Canon.startBlow (h : s.Canon) {v : Nat} : (s.startBlow v).Canon := h.frame.setHw.setHw

theorem State.Canon.blown (h : s.Canon) {f v : Nat} : (s.blown f v).Canon := h.frame.setHw

theorem State.Canon.armFuse (h : s.Canon) {v : Nat} : (s.armFuse v).Canon := h.frame

theorem State.Canon.setAttSlot (h : s.Canon) {q : Nat} {x : AttSlot} : (s.setAttSlot q x).Canon := h.frame

theorem State.Canon.attGo (h : s.Canon) {q : Nat} : (s.attGo q).Canon := .ite h (.ite h.setAttSlot (.ite h.setAttSlot h.frame.setAttSlot))

end Sys2Proof.Machine
end

section
/-! PROOFS. Canonical memories after the operations of interval measurement, the twins, the Ethernet ports and the time service (chapters 5, 9,
10 and 14). -/

namespace Sys2Proof.Machine

variable {s : State} {q : Seq}

/-! ### Interval measurement -/

theorem State.Canon.newPass (h : s.Canon) {u : Nat} : (s.newPass u).Canon := h.setCalU

theorem State.Canon.testPass (h : s.Canon) {u : CalUnit} : (s.testPass u).Canon := by
  unfold State.testPass
  dsimp only
  split
  · exact h.setCalU
  · exact h.newPass.bump.fault

theorem State.Canon.inject (h : s.Canon) {u : CalUnit} {code : Nat} : (s.inject u code).Canon := by
  unfold State.inject
  extract_lets x s0
  have hs0 : s0.Canon := by
    unfold s0
    split
    · exact h.pmcTime
    · exact h
  exact .ite hs0 (.ite hs0.setCalU hs0.setCalU.testPass)

theorem State.Canon.swapTable (h : s.Canon) {u : CalUnit} : (s.swapTable u).Canon := h.setCalU

theorem State.Canon.enterDelay (h : s.Canon) {u : Nat} : (s.enterDelay u).Canon := h.setCalU

theorem State.Canon.markStamp (h : s.Canon) {u : Nat} : (s.markStamp u).Canon := h.setCalU

theorem State.Canon.emitPort (h : s.Canon) {c : Nat} {w : Nat → List Word} : (s.emitPort c w).Canon :=
  .ite h.deliver (.ite h.setTdcCh.bump.pmcTime h.setTdcCh.deliver)

theorem State.Canon.emitRing (h : s.Canon) {c : Nat} {w : Nat → List Word} : (s.emitRing c w).Canon :=
  .ite h.setTdcCh.bump.pmcTime h.setTdcCh.memWrite

theorem State.Canon.storeRec (h : s.Canon) {c : Nat} {r : TdcRec} : (s.storeRec c r).Canon := by
  unfold State.storeRec
  extract_lets w s1
  have hs1 : s1.Canon := .ite h.emitPort h
  exact .ite hs1.emitRing hs1

theorem State.Canon.drainRec (h : s.Canon) {c : Nat} : (s.drainRec c).Canon := by
  unfold State.drainRec
  dsimp only
  split
  · exact h
  · exact .ite h.setTdcCh.storeRec h

theorem State.Canon.emit (h : s.Canon) {c type src : Nat} {a : StampV} {b : Option StampV} {lone : Bool} :
    (s.emit c type src a b lone).Canon :=
  .ite h.setTdcCh.bump.pmcTime h.setTdcCh.drainRec

theorem State.Canon.rearm (h : s.Canon) {c l : Nat} : (s.rearm c l).Canon := h.setTdcCh

theorem State.Canon.armTdc (h : s.Canon) {c : Nat} : (s.armTdc c).Canon := h.setTdcCh

theorem State.Canon.stampEdge (h : s.Canon) {c div type src code : Nat} : (s.stampEdge c div type src code).2.Canon := by
  unfold State.stampEdge
  dsimp only
  split
  · exact h.setTdcCh
  · split
    · exact h.setTdcCh.bump
    · exact h.setTdcCh.markStamp.pmcTime.emit

theorem State.Canon.closePair (h : s.Canon) {c : Nat} : (s.closePair c).Canon := by
  unfold State.closePair
  dsimp only
  split
  · exact h.rearm.emit
  · exact h

theorem State.Canon.pairEdge (h : s.Canon) {c : Nat} {stop : Bool} {code : Nat} : (s.pairEdge c stop code).Canon :=
  .ite h (.ite h.setTdcCh (.ite h.setTdcCh.bump h.setTdcCh.markStamp.pmcTime.closePair))

theorem State.Canon.tdcEdgeOp (h : s.Canon) {c : Nat} {stop : Bool} {code : Nat} : (s.tdcEdgeOp c stop code).Canon := by
  unfold State.tdcEdgeOp
  extract_lets lbk pair s0
  have hs0 : s0.Canon := .ite h.enterDelay h.enterDelay.enterDelay
  split
  · split
    · exact .ite hs0.stampEdge.frame hs0.stampEdge
    · exact hs0
  · exact .ite hs0 (.ite hs0.pairEdge hs0.stampEdge)

theorem State.Canon.feedCh (h : s.Canon) {codes : Nat → Nat} {src : Nat} {fall : Bool} {c : Nat} :
    (State.feedCh codes src fall s c).Canon := by
  unfold State.feedCh
  extract_lets ip s1
  have hs1 : s1.Canon := .ite h.tdcEdgeOp h
  exact .ite hs1.tdcEdgeOp hs1

theorem State.Canon.srcEdge (h : s.Canon) {src : Nat} {fall : Bool} {codes : Nat → Nat} : (s.srcEdge src fall codes).Canon :=
  .ite h (h.foldl fun _ _ ht => ht.feedCh)

theorem State.Canon.ownEdge (h : s.Canon) {src : Nat} {fall : Bool} : (s.ownEdge src fall).Canon := h.frame.srcEdge

theorem State.Canon.ownEdges (h : s.Canon) : s.ownEdges.Canon := h.frame.foldl fun _ _ ht => ht.ownEdge

theorem State.Canon.launchGtick (h : s.Canon) : s.launchGtick.Canon := .ite h.launchEdge h

theorem State.Canon.drainRecs (h : s.Canon) : s.drainRecs.Canon := h.foldl fun _ _ ht => ht.drainRec

theorem State.Canon.endVisit (h : s.Canon) : s.endVisit.Canon := .ite h.frame h.frame.setFl

theorem State.Canon.lbkOff (h : s.Canon) : s.lbkOff.Canon := .ite h h.setFl

theorem State.Canon.selEdge (h : s.Canon) {src : Nat} {fall : Bool} : (s.selEdge src fall).Canon := by
  unfold State.selEdge
  split
  · exact .ite h h.candEdge
  · exact h

/-! ### Stitch links and twins -/

theorem State.Canon.pmcStl (h : s.Canon) {l ev k : Nat} : (s.pmcStl l ev k).Canon := h.pmcEv

theorem State.Canon.stlCheck (h : s.Canon) {l : Nat} : (s.stlCheck l).Canon := h.external

theorem State.Canon.stlMsg (h : s.Canon) {l : Nat} {m : Msg} : (s.stlMsg l m).Canon := .ite h.bump.pmcStl h.deliver

theorem State.Canon.linkSay (h : s.Canon) {l : Nat} : (s.linkSay l).Canon := .ite h h.setLink.stlMsg

theorem State.Canon.twinDecide1 (h : s.Canon) : s.twinDecide1.Canon := by
  unfold State.twinDecide1
  split
  · exact .ite h.setRole h
  · exact .ite h.setRole h
  · exact .ite h h.setRole
  · exact .ite h.setRole h
  · exact h.setRole
  · exact h

theorem State.Canon.twinDecide (h : s.Canon) : s.twinDecide.Canon := by
  refine .ite (.ite (.foldl (.frame ?_) fun _ _ ht => ht.stlCheck) ?_) h <;> exact (State.Canon.ite h.frame h).twinDecide1

theorem State.Canon.takeoverT2 (h : s.Canon) {peerActive : Bool} : (s.takeoverT2 peerActive).Canon := by
  unfold State.takeoverT2
  split
  · exact .ite h.takeover h
  · exact .ite h.takeover h
  · exact h

theorem State.Canon.cancelHandover (h : s.Canon) : s.cancelHandover.Canon := .ite h.frame.recEvent h

theorem State.Canon.linkEnd (h : s.Canon) {l : Nat} : (s.linkEnd l).Canon := by
  unfold State.linkEnd
  extract_lets x wasTwin s1 s2
  have hs2 : s2.Canon := h.setLink.bump.fault.stlCheck.linkSay
  exact (State.Canon.ite hs2.takeoverT2 hs2).twinDecide

theorem State.Canon.frameStart (h : s.Canon) {l : Nat} : (s.frameStart l).Canon :=
  .ite h.send.setLink.markStamp.draw.setLink.send h.send.setLink.markStamp

theorem State.Canon.checkTrip (h : s.Canon) {l echo : Nat} : (s.checkTrip l echo).Canon := by
  unfold State.checkTrip
  dsimp only
  split
  · exact h
  · split
    · exact h.setLink.sample
    · exact .ite h.setLink.sample.setLink.bump.pmcStl h.setLink.sample

theorem State.Canon.takeIdent (h : s.Canon) {l : Nat} {m : Marker} {i : Identity} {code : Nat} : (s.takeIdent l m i code).Canon :=
  (State.Canon.ite h.linkEnd h).setLink.stlMsg.observeNow

theorem State.Canon.takeMarker (h : s.Canon) {l : Nat} {m : Marker} {code : Nat} : (s.takeMarker l m code).Canon := h.setLink

theorem State.Canon.takePeerReady (h : s.Canon) {l : Nat} : (s.takePeerReady l).Canon := .ite (.ite h.frame h.frame.cancelHandover) h

theorem State.Canon.markerOp (h : s.Canon) {l : Nat} {m : Marker} {i : Option Identity} {code : Nat} :
    (s.markerOp l m i code).Canon := by
  unfold State.markerOp
  extract_lets s0 s1 s2 s3
  have hs2 : s2.Canon := (State.Canon.ite h.pmcStl.markStamp.linkEnd h.pmcStl.markStamp).takeMarker.checkTrip
  have hs3 : s3.Canon := by
    cases i with
    | none => exact hs2
    | some x => exact hs2.takeIdent
  exact hs3.takePeerReady.stlCheck.linkSay.twinDecide

theorem State.Canon.psendOp (h : s.Canon) {l out tag : Nat} {words : List Word} : (s.psendOp l out tag words).Canon :=
  .ite h.bump.pmcStl h.setLink

theorem State.Canon.crossLink (h : s.Canon) {l : Nat} : (s.crossLink l).Canon :=
  .ite (h.setLink.foldl (fun _ _ ht => ht.send.pmcStl)) h.setLink.bump.pmcStl

theorem State.Canon.precv (h : s.Canon) {q : Partial} : (s.precv q).Canon := by
  unfold State.precv
  dsimp only
  split
  · exact h
  · split
    · exact h.bump
    · exact h.deliver

theorem State.Canon.takeSeq (h : s.Canon) {q : Fin 512 × Half} : (s.takeSeq q).Canon := h.frame

theorem State.Canon.syncWord (h : s.Canon) {q : AddrWord} : (s.syncWord q).Canon := by
  unfold State.syncWord
  split
  · exact h
  · exact .ite h.frame.startSeq h.frame

theorem State.Canon.syncApply (h : s.Canon) {ws : List AddrWord} {imgs : List (Fin 160 × List Byte)}
    {seqs : List (Fin 512 × Half)} : (s.syncApply ws imgs seqs).Canon := by
  unfold State.syncApply
  dsimp only
  split
  case h_1 => exact h.frame
  case h_2 s1 hr =>
    have h1 : s1.Canon := by
      split at hr
      · exact h.recordNormal hr
      · cases hr
    exact (((h1.foldl fun _ _ ht => .ite ht.loadOne ht).foldl fun _ _ ht => ht.syncWord).foldl fun _ _ ht => ht.takeSeq).frame

theorem State.Canon.alignTest (h : s.Canon) : s.alignTest.Canon := .ite (.ite h.frame.fault h.frame) h.frame

theorem State.Canon.adviseTest (h : s.Canon) : s.adviseTest.Canon := .ite h.frame h.frame.recEvent

theorem State.Canon.autoHandover (h : s.Canon) : s.autoHandover.Canon := by
  unfold State.autoHandover
  split
  · exact h
  · exact .ite h.enqueue h

theorem State.Canon.twinSecondOp (h : s.Canon) : s.twinSecondOp.Canon := h.alignTest.adviseTest.frame.autoHandover

theorem State.Canon.digestBad (h : s.Canon) {k : Nat} : (s.digestBad k).Canon := .ite h.frame.bump.frame.fault h.frame.bump

theorem State.Canon.digestOp (h : s.Canon) {tag digest : Nat} : (s.digestOp tag digest).Canon := by
  unfold State.digestOp
  extract_lets miss s0 s1
  have hs0 : s0.Canon := .ite h h.digestBad
  exact .ite hs0.frame.frame hs0.frame.digestBad

theorem State.Canon.takeHandover (h : s.Canon) : s.takeHandover.Canon := h.frame

theorem State.Canon.relinqCmd (h : s.Canon) : s.relinqCmd.Canon := h.enterRelinq

theorem State.Canon.takeTwinCfg (h : s.Canon) {was : Bool} : (s.takeTwinCfg was).Canon :=
  .ite h (.ite (.ite h.setRole h.setRole.twinDecide) (.ite (h.frame.setRole.foldl (fun _ _ ht => ht.stlCheck)) h))

theorem State.Canon.lockLoss (h : s.Canon) {l : Nat} : (s.lockLoss l).Canon := by
  unfold State.lockLoss
  split
  · split
    · exact h.linkEnd
    · exact h
    · exact h.setLink.linkSay
  · exact h

theorem State.Canon.peersendOp (h : s.Canon) {l : Nat} {words : List Word} : (s.peersendOp l words).Canon :=
  .ite h.send.pmcStl h.bump.pmcStl

/-! ### The messages of the time service at their launch -/

theorem State.Canon.setInst (h : s.Canon) {p : Nat} {x : PtpI} : (s.setInst p x).Canon := h.frame

theorem State.Canon.pmcTsv (h : s.Canon) {ev k : Nat} : (s.pmcTsv ev k).Canon := h.pmcEv

theorem State.Canon.withQual (h : s.Canon) {q : Qual} : (s.withQual q).Canon := h.frame.setFl

theorem State.Canon.tsvStamp (h : s.Canon) {p : Nat} {m : PtpOut} {w : List Word} : (s.tsvStamp p m w).Canon := by
  unfold State.tsvStamp
  split
  · exact h.setInst
  · exact h.setInst
  · exact h

theorem State.Canon.laneOp (h : s.Canon) {lane slot use typ : Nat} : (s.laneOp lane slot use typ).2.Canon := by
  unfold State.laneOp
  exact .ite h.laneKey h.laneKey.pmcTsv

theorem State.Canon.saKey (h : s.Canon) {a : Nat} : (s.saKey a).2.Canon := by
  unfold State.saKey
  dsimp only
  split
  · exact h.laneOp
  · exact h.laneOp.bump

theorem State.Canon.fillFrame (h : s.Canon) {p : Nat} {f : TxFrame} {v : Int} : (s.fillFrame p f v).2.Canon := by
  unfold State.fillFrame
  split
  · dsimp only
    split
    · exact h
    · exact h.saKey
  · exact h
  · exact h
  · exact h

/-! ### The Ethernet ports -/

theorem State.Canon.frameResult (h : s.Canon) {f : TxFrame} {r : Nat} : (s.frameResult f r).Canon := by
  unfold State.frameResult
  split
  · exact h
  · exact h.dmaResult

theorem State.Canon.queuePause (h : s.Canon) {p c quanta : Nat} {xoff : Bool} : (s.queuePause p c quanta xoff).Canon := h.setEp

theorem State.Canon.pauseTest (h : s.Canon) {p c occ : Nat} : (s.pauseTest p c occ).Canon := .ite h.queuePause (.ite h.queuePause h)

theorem State.Canon.pauseCheck (h : s.Canon) {p : Nat} : (s.pauseCheck p).Canon :=
  .ite (h.setEp.foldl (fun _ _ ht => ht.pauseTest)) h.setEp

theorem State.Canon.rxDrop (h : s.Canon) {p q : Nat} : (s.rxDrop p q).Canon := h.bump.pmcEth

theorem State.Canon.spillFrame (h : s.Canon) {p : Nat} {f : RxFrame} : (s.spillFrame p f).Canon := .ite h.rxDrop h.setEp.memWrite.pmcEth

theorem State.Canon.storeFrame (h : s.Canon) {p : Nat} {f : RxFrame} : (s.storeFrame p f).Canon :=
  .ite h.spillFrame (.ite h.setEp.pauseCheck h.rxDrop)

theorem State.Canon.handFrame (h : s.Canon) {p q : Nat} {x : Parsed} {bytes : List Byte} {v : StampV} :
    (s.handFrame p q x bytes v).Canon :=
  .ite h.pmcEth (.ite h.rxDrop h.storeFrame)

theorem State.Canon.rxLeave (h : s.Canon) {p : Nat} {f : RxFrame} : (s.rxLeave p f).Canon := h.setEp.pauseCheck

theorem State.Canon.rxTake (h : s.Canon) {p : Nat} {f : RxFrame} : (s.rxTake p f).2.Canon := by
  unfold State.rxTake
  dsimp only
  split
  · split
    · exact h.memRead.rxLeave.rxDrop
    · exact h.memRead.rxLeave
  · exact h.rxLeave

theorem State.Canon.loadPause (h : s.Canon) {p c quanta d : Nat} : (s.loadPause p c quanta d).Canon := h.setEp

theorem State.Canon.pauseOp (h : s.Canon) {p : Nat} {k : PauseFrame} {d : Nat} : (s.pauseOp p k d).Canon := by
  unfold State.pauseOp
  split
  · exact h.bump
  · refine .pmcEth ?_
    refine .bump ?_
    refine h.foldl fun _ _ ht => ?_
    split
    · exact .ite ht.loadPause ht
    · exact ht

theorem State.Canon.receiveFrame (h : s.Canon) {p : Nat} {bytes : List Byte} {fcsOk : Bool} {code : Nat} :
    (s.receiveFrame p bytes fcsOk code).Canon := by
  unfold State.receiveFrame
  extract_lets s0
  have hs0 : s0.Canon := h.boundary.markStamp.pmcEth.pmcEth
  split
  · exact hs0.bump.pmcEth
  · split
    · exact hs0.bump.pmcEth
    · split
      · exact hs0.pauseOp
      · exact hs0.handFrame

theorem State.Canon.swapEntry (h : s.Canon) {p i : Nat} : (s.swapEntry p i).Canon := h.setReg.setReg.setReg.setReg

theorem State.Canon.swapTables (h : s.Canon) {p : Nat} : (s.swapTables p).Canon :=
  (h.setReg.setReg.setReg.foldl (fun _ _ ht => ht.swapEntry)).setEp.setFl

theorem State.Canon.landWrites (h : s.Canon) {p : Nat} : (s.landWrites p).Canon := .ite (h.foldl (fun _ _ ht => ht.setReg.setReg)).setEp h

theorem State.Canon.countLate (h : s.Canon) {p : Nat} {c : TxCur} : (s.countLate p c).Canon := .ite h.setEp.bump.pmcEth h

theorem State.Canon.overrunCheck (h : s.Canon) {p : Nat} : (s.overrunCheck p).Canon := by
  unfold State.overrunCheck
  split
  · exact h
  · exact .ite h h.countLate

theorem State.Canon.startSlot (h : s.Canon) {p i : Nat} : (s.startSlot p i).Canon := h.landWrites.setEp.overrunCheck

theorem State.Canon.trySwap (h : s.Canon) {p : Nat} : (s.trySwap p).Canon := .ite (.ite h.swapTables h.setEp.setFl) h

theorem State.Canon.cycleStart (h : s.Canon) {p : Nat} : (s.cycleStart p).Canon := .ite h.setEp.startSlot h

theorem State.Canon.submitFrame (h : s.Canon) {p : Nat} {f : TxFrame} : (s.submitFrame p f).Canon := .ite h.setEp h.bump.frameResult

theorem State.Canon.stampCur (h : s.Canon) {p : Nat} : (s.stampCur p).Canon := by
  unfold State.stampCur
  split
  · exact h
  · exact .ite h.draw.setEp.markStamp h

theorem State.Canon.txDone {s0 : State} (h : s0.Canon) {p : Nat} : (s0.txDone p).Canon := by
  unfold State.txDone
  dsimp only
  split
  · exact h.stampCur
  · exact .ite h.stampCur h.stampCur.setEp.pmcEth.pmcEth.frameResult

theorem State.Canon.predict (h : s.Canon) {p : Nat} : (s.predict p).2.Canon := by
  unfold State.predict
  exact .snd h.draw

theorem State.Canon.oneStepDrop (h : s.Canon) {p : Nat} {f : TxFrame} : (s.oneStepDrop p f).Canon := h.bump.frameResult

theorem State.Canon.beginFrame (h : s.Canon) {p : Nat} {f : TxFrame} {fup : Option TxFrame} : (s.beginFrame p f fup).Canon := h.setEp.send

theorem State.Canon.launchBuilt (h : s.Canon) {p : Nat} {f : TxFrame} : (s.launchBuilt p f).Canon := by
  unfold State.launchBuilt
  split
  · dsimp only
    split
    · exact h.predict.fillFrame
    · exact .ite h.predict.fillFrame.beginFrame.pmcEth h.predict.fillFrame.beginFrame
  · exact h

theorem State.Canon.launch (h : s.Canon) {p : Nat} {f : TxFrame} : (s.launch p f).Canon := by
  unfold State.launch
  dsimp only
  split
  · exact h.setEp.oneStepDrop
  · split
    · split
      · split
        · exact h.setEp.oneStepDrop
        · exact h.setEp.predict.beginFrame.pmcEth
      · exact h.setEp.beginFrame
    · exact h.setEp.launchBuilt

theorem State.Canon.launchCtl (h : s.Canon) {p : Nat} {f : TxFrame} {r : List TxFrame} : (s.launchCtl p f r).Canon := by
  unfold State.launchCtl
  dsimp only
  split
  · exact .ite (.ite h.setEp.setEp.send.pmcEth h.setEp.setEp.send) h.setEp
  · exact h.setEp

theorem State.Canon.cutFrame (h : s.Canon) {p : Nat} {c : TxCur} : (s.cutFrame p c).Canon := h.setEp.send.pmcEth

theorem State.Canon.continueFrame (h : s.Canon) {p : Nat} {x : TxCur} : (s.continueFrame p x).Canon := h.setEp.send.bump.countLate

theorem State.Canon.choose (h : s.Canon) {p : Nat} : (s.choose p).Canon := by
  unfold State.choose
  split
  · exact h.launchCtl
  · dsimp only
    split
    · split
      · exact h
      · exact h.launch
    · split
      · exact h.launch
      · exact .ite h h.continueFrame

theorem State.Canon.decide_ (h : s.Canon) {p : Nat} : (s.decide_ p).Canon := by
  unfold State.decide_
  dsimp only
  split
  · exact .ite h.txDone.choose h.txDone
  · exact .ite (.ite h.txDone.cutFrame.choose (.ite h.txDone.cutFrame h.txDone)) h.txDone

theorem State.Canon.storeStamp (h : s.Canon) {p : Nat} : (s.storeStamp p).Canon := by
  unfold State.storeStamp
  dsimp only
  split
  · exact h
  · split
    · exact h.setEp.tsvStamp
    · exact .ite h.setEp.pmcEth.sample h.setEp.bump.pmcEth

theorem State.Canon.setLatch (h : s.Canon) {r : Requester} {addr val : Nat} : (s.setLatch r addr val).Canon := h.frame

theorem State.Canon.popStamp (h : s.Canon) {r : Requester} {p : Nat} : (s.popStamp r p).Canon := by
  unfold State.popStamp
  dsimp only
  split
  · exact h.setLatch
  · exact h.setEp.setLatch

theorem State.Canon.sendVerify (h : s.Canon) {p n : Nat} : (s.sendVerify p n).Canon := h.setEp.send

theorem State.Canon.verifyStep (h : s.Canon) {p : Nat} {responded : Bool} : (s.verifyStep p responded).Canon := by
  unfold State.verifyStep
  dsimp only
  split
  · exact .ite h h.sendVerify
  · exact .ite h.setEp (.ite h (.ite h.sendVerify h.setEp))
  · exact h

/-! ### The time service -/

theorem State.Canon.tsvSubmit (h : s.Canon) {p : Nat} {f : TxFrame} : (s.tsvSubmit p f).Canon := .ite h.submitFrame h

theorem State.Canon.sendPtp (h : s.Canon) {p : Nat} {m : PtpOut} : (s.sendPtp p m).Canon := h.tsvSubmit

theorem State.Canon.twinSay (h : s.Canon) {x : Sent} : (s.twinSay x).Canon := .ite h.send h

theorem State.Canon.nextSeq (h : s.Canon) {p : Nat} {k : PtpKind} {dest : Nat} : (s.nextSeq p k dest).2.Canon := by
  unfold State.nextSeq
  exact h.setInst.twinSay

theorem State.Canon.tsvSay (h : s.Canon) {type p : Nat} {pay : List Word} : (s.tsvSay type p pay).Canon := .ite h.bump h.deliver

theorem State.Canon.sendUc (h : s.Canon) {p id port : Nat} {to_ : Bool × Nat} {tlv : List Byte} :
    (s.sendUc p id port to_ tlv).Canon :=
  h.nextSeq.sendPtp

theorem State.Canon.putSess (h : s.Canon) {n : Nat} {x : Session} : (s.putSess n x).Canon := h.frame.twinSay

theorem State.Canon.cancelAll (h : s.Canon) {p : Nat} : (s.cancelAll p).Canon :=
  (h.foldl (fun _ _ ht => ht.foldl (fun _ _ ht => ht.sendUc))).frame

theorem State.Canon.parentChange (h : s.Canon) {p st : Nat} {f : Option Foreign} : (s.parentChange p st f).Canon :=
  h.recEvent.tsvSay.external.ethCheck

theorem State.Canon.decideInst (h : s.Canon) {p : Nat} : (s.decideInst p).Canon := by
  unfold State.decideInst
  extract_lets st x f parent gm s1 s2
  have hs2 : s2.Canon := .ite h.setInst.cancelAll h.setInst
  exact .ite hs2 hs2.parentChange

theorem State.Canon.decideAll (h : s.Canon) : s.decideAll.Canon := h.foldl fun _ _ ht => ht.decideInst

theorem State.Canon.sendSync (h : s.Canon) {p : Nat} {to_ : Option (Bool × Nat)} {seq log : Nat} :
    (s.sendSync p to_ seq log).Canon :=
  h.sendPtp.pmcTsv

theorem State.Canon.sendAnn (h : s.Canon) {p : Nat} {to_ : Option (Bool × Nat)} {seq log : Nat} :
    (s.sendAnn p to_ seq log).Canon :=
  h.sendPtp.pmcTsv

theorem State.Canon.mcastOp (h : s.Canon) {p k : Nat} {kind : PtpKind} {send : State → Nat → Nat → State}
    (hsend : ∀ t a b, t.Canon → (send t a b).Canon) :
    (s.mcastOp p k kind send).Canon :=
  .ite (hsend _ _ _ h.fire.nextSeq) h

theorem State.Canon.ucastOp (h : s.Canon) {p n : Nat} {g : GrantKind} {kind : PtpKind} {key : Nat}
    {send : State → Option (Bool × Nat) → Nat → Nat → State} (hsend : ∀ t a b c, t.Canon → (send t a b c).Canon) :
    (s.ucastOp p n g kind key send).Canon := by
  unfold State.ucastOp
  split
  · exact h
  · split
    · exact h
    · exact .ite (hsend _ _ _ _ h.fire.putSess.nextSeq) h

theorem State.Canon.authFail (h : s.Canon) {p : Nat} {a : Option Nat} : (s.authFail p a).Canon := by
  unfold State.authFail
  dsimp only
  split
  · exact h.bump.pmcTsv.bump
  · exact h.bump.pmcTsv

theorem State.Canon.authCheck (h : s.Canon) {p : Nat} {m : PtpIn} : (s.authCheck p m).2.Canon := by
  unfold State.authCheck
  split
  · exact h
  · split
    · exact h.authFail
    · split
      · exact h.authFail
      · dsimp only
        split
        · exact h.saKey
        · split
          · exact h.saKey
          · exact h.saKey.authFail

theorem State.Canon.syncObs (h : s.Canon) {p : Nat} {v : StampV} {sec ns : Nat} {corr : Int} : (s.syncObs p v sec ns corr).Canon :=
  h.observe

theorem State.Canon.takeSync (h : s.Canon) {p : Nat} {m : PtpIn} : (s.takeSync p m).Canon :=
  .ite (.ite h.setInst h.setInst.syncObs.tsvSay) h

theorem State.Canon.takeFup (h : s.Canon) {p : Nat} {m : PtpIn} : (s.takeFup p m).Canon := by
  unfold State.takeFup
  dsimp only
  split
  · exact h
  · exact .ite h.setInst.syncObs.tsvSay h

theorem State.Canon.answer {t : State} (h : s.Canon) {p : Nat} (ht : s.answer p = some t) : t.Canon := by
  unfold State.answer at ht
  dsimp only at ht
  split at ht
  · obtain rfl := Option.some.inj ht
    exact h.setInst
  · cases ht

theorem State.Canon.noGrant (h : s.Canon) {p : Nat} : (s.noGrant p).Canon := h.bump

theorem State.Canon.sendDresp (h : s.Canon) {p : Nat} {m : PtpIn} {to_ : Option (Bool × Nat)} {log : Nat} :
    (s.sendDresp p m to_ log).Canon := by
  unfold State.sendDresp
  split
  case h_1 => exact h.noGrant
  case h_2 ha => exact (h.answer ha).sendPtp.pmcTsv

theorem State.Canon.takeDreq (h : s.Canon) {p : Nat} {m : PtpIn} : (s.takeDreq p m).Canon := by
  unfold State.takeDreq
  split
  · split
    · split
      · exact h.noGrant
      · split
        · exact .ite h.sendDresp h.noGrant
        · exact h.noGrant
    · exact .ite h.sendDresp h.noGrant
  · exact h.noGrant

theorem State.Canon.takeDresp (h : s.Canon) {p : Nat} {m : PtpIn} : (s.takeDresp p m).Canon := by
  unfold State.takeDresp
  dsimp only
  split
  · exact h
  · exact .ite h.setInst.tsvSay h

theorem State.Canon.takePdreq (h : s.Canon) {p : Nat} {m : PtpIn} : (s.takePdreq p m).Canon := by
  unfold State.takePdreq
  split
  · split
    case h_1 => exact h.noGrant
    case h_2 ha => exact (h.answer ha).sendPtp
  · exact h

theorem State.Canon.takePdresp (h : s.Canon) {p : Nat} {m : PtpIn} : (s.takePdresp p m).Canon := by
  unfold State.takePdresp
  dsimp only
  split
  · exact h
  · exact .ite h.setInst h

theorem State.Canon.takePdfup (h : s.Canon) {p : Nat} {m : PtpIn} : (s.takePdfup p m).Canon := by
  unfold State.takePdfup
  dsimp only
  split
  · exact h
  · exact .ite h.setInst.tsvSay h

theorem State.Canon.takeAnn (h : s.Canon) {p : Nat} {m : PtpIn} : (s.takeAnn p m).Canon := h.setInst.decideInst

theorem State.Canon.deny (h : s.Canon) {p : Nat} {m : PtpIn} {t : List Byte} : (s.deny p m t).Canon := h.bump.sendUc

theorem State.Canon.giveGrant (h : s.Canon) {p n : Nat} {x : Session} {k : GrantKind} {t : List Byte} :
    (s.giveGrant p n x k t).Canon :=
  h.putSess.sendUc

theorem State.Canon.ucRequestOp (h : s.Canon) {p : Nat} {m : PtpIn} {t : List Byte} : (s.ucRequestOp p m t).Canon := by
  unfold State.ucRequestOp
  split
  · exact h.deny
  · split
    · exact h.deny
    · split
      · split
        · exact h.giveGrant
        · exact h
      · split
        · exact h.giveGrant
        · exact h.deny

theorem State.Canon.ucCancelOp (h : s.Canon) {p : Nat} {m : PtpIn} {t : List Byte} : (s.ucCancelOp p m t).Canon := by
  unfold State.ucCancelOp
  split
  · refine .sendUc ?_
    split
    · split
      · exact h.putSess
      · exact h
    · exact h
  · exact h

theorem State.Canon.setClient (h : s.Canon) {p u : Nat} {k : GrantKind} {g : Option ClientGrant} : (s.setClient p u k g).Canon :=
  h.setInst

theorem State.Canon.ucGrantOp (h : s.Canon) {p : Nat} {m : PtpIn} {t : List Byte} : (s.ucGrantOp p m t).Canon := by
  unfold State.ucGrantOp
  split
  · exact .ite h.setClient h
  · exact h

theorem State.Canon.ucOp (h : s.Canon) {p : Nat} {m : PtpIn} {t : Nat × List Byte} : (State.ucOp p m s t).Canon := by
  unfold State.ucOp
  split
  · exact h
  · split
    · exact h.ucRequestOp
    · exact h.ucGrantOp
    · exact h.ucCancelOp
    · exact h

theorem State.Canon.ptpHandle (h : s.Canon) {p : Nat} {m : PtpIn} : (s.ptpHandle p m).Canon := by
  unfold State.ptpHandle
  split
  · exact h
  · exact h.takeSync
  · exact h.takeFup
  · exact h.takeDreq
  · exact h.takeDresp
  · exact h.takePdreq
  · exact h.takePdresp
  · exact h.takePdfup
  · exact h.takeAnn
  · exact h.foldl fun _ _ ht => ht.ucOp

theorem State.Canon.ptpReceive (h : s.Canon) {p : Nat} {m : PtpIn} : (s.ptpReceive p m).Canon :=
  .ite h (.ite h (.ite h.bump (.ite h.authCheck.ptpHandle h.authCheck)))

theorem State.Canon.tsvTake (h : s.Canon) {p : Nat} {k : TsvKind} {f : RxFrame → State → State} (hf : ∀ a t, t.Canon → (f a t).Canon) :
    (s.tsvTake p k f).Canon := by
  unfold State.tsvTake
  split
  · exact h
  · exact .ite (hf _ _ h.rxTake) h.rxTake

theorem State.Canon.ptpTake (h : s.Canon) {p : Nat} {k : TsvKind} : (s.ptpTake p k).Canon := by
  unfold State.ptpTake
  refine h.tsvTake fun _ _ ht => ?_
  split
  · exact ht.ptpReceive
  · exact ht

theorem State.Canon.tsvDiscard (h : s.Canon) {p : Nat} : (s.tsvDiscard p).Canon := by
  unfold State.tsvDiscard
  split
  · exact h
  · exact h.rxTake

theorem State.Canon.ask (h : s.Canon) {p u : Nat} {k : GrantKind} {held : Bool} : (s.ask p u k held).Canon := h.setClient.sendUc

theorem State.Canon.ntpDrop (h : s.Canon) : s.ntpDrop.Canon := h.bump.pmcTsv

theorem State.Canon.sendNtp (h : s.Canon) {p : Nat} {m : NtpOut} : (s.sendNtp p m).Canon := h.tsvSubmit

theorem State.Canon.ntsNak (h : s.Canon) {p : Nat} {f : RxFrame} {m uid : List Byte} : (s.ntsNak p f m uid).Canon := h.bump.pmcTsv.sendNtp

theorem State.Canon.makeCookie (h : s.Canon) {slot : Nat} {master keys : List Byte} : (s.makeCookie slot master keys).2.Canon := by
  unfold State.makeCookie
  exact h.draw.frame.pmcTsv

theorem State.Canon.makeCookies (h : s.Canon) {slot : Nat} {master keys : List Byte} {n : Nat} :
    (s.makeCookies slot master keys n).2.Canon := by
  induction n generalizing s with
  | zero => exact h
  | succ n ih => exact ih h.makeCookie

theorem State.Canon.openCookie (h : s.Canon) {c : List Byte} : (s.openCookie c).2.Canon := by
  unfold State.openCookie
  dsimp only
  split
  · split
    · exact h.laneOp
    · split
      · split
        · exact h.laneOp
        · exact h.laneOp
      · exact h.laneOp
  · exact h

theorem State.Canon.ntsReply (h : s.Canon) {p : Nat} {f : RxFrame} {m uid plain : List Byte} {cookies : Nat} :
    (s.ntsReply p f m uid plain cookies).Canon := by
  refine .sendNtp (.pmcTsv (.bump ?_))
  split
  · exact .makeCookies (.laneOp h.draw)
  · exact .laneOp h.draw

theorem State.Canon.ntsBusy (h : s.Canon) {n : Nat} : (s.ntsBusy n).Canon := h.frame

theorem State.Canon.ntsOp {s0 : State} (h : s0.Canon) {p : Nat} {f : RxFrame} {m : List Byte} : (s0.ntsOp p f m).Canon := by
  unfold State.ntsOp
  dsimp only
  split
  · exact h.ntsBusy.ntpDrop
  · split
    · exact h.ntsBusy.ntpDrop
    · split
      · exact h.ntsBusy.openCookie.ntsNak
      · split
        · exact h.ntsBusy.openCookie.ntpDrop
        · exact h.ntsBusy.openCookie.frame.ntsReply

theorem State.Canon.mintDone (h : s.Canon) {tag : List Byte} {status : Nat} {cookies : List (List Byte)} :
    (s.mintDone tag status cookies).Canon :=
  h.frame.memWrite

theorem State.Canon.mintEntry (h : s.Canon) {e : List Byte} : (s.mintEntry e).Canon := by
  unfold State.mintEntry
  dsimp only
  split
  · exact h.mintDone
  · split
    · exact h.mintDone
    · split
      · exact h.mintDone
      · split
        · exact h.laneOp.mintDone
        · exact h.laneOp.makeCookies.ntsBusy.frame.mintDone

theorem State.Canon.mintOp (h : s.Canon) : s.mintOp.Canon := .ite h.memRead.frame h.memRead.mintEntry

theorem State.Canon.ntpOp (h : s.Canon) {p : Nat} {f : RxFrame} {m : List Byte} : (s.ntpOp p f m).Canon :=
  .ite h (.ite h.bump.pmcTsv.sendNtp h.ntpDrop)

theorem State.Canon.takeTwinUpdate (h : s.Canon) {q : TwinUpdate} : (s.takeTwinUpdate q).Canon := by
  unfold State.takeTwinUpdate
  split
  · exact .ite h.putSess h.frame
  · exact h.setInst

end Sys2Proof.Machine
end

section
/-! PROOFS. Canonical memories after the operations of audio, the mix fabric, the recorder, the baseband, the host interface and cast-on
(chapters 6, 11, 12 and 15 to 17). -/

namespace Sys2Proof.Machine

variable {s : State} {q : Seq}

/-! ### The mix fabric -/

theorem State.Canon.pmcMix (h : s.Canon) {ev k : Nat} : (s.pmcMix ev k).Canon := h.pmcEv

theorem State.Canon.nodeWritten (h : s.Canon) {n v : Nat} : (s.nodeWritten n v).Canon := h.frame

theorem State.Canon.planNew (h : s.Canon) {row : Int} : (s.planNew row).Canon := h.frame.pmcMix.pmcMix.pmcMix

theorem State.Canon.planRow (h : s.Canon) {row : Int} : (s.planRow row).Canon := by
  unfold State.planRow
  split
  · exact .ite h h.planNew
  · exact h.planNew

theorem State.Canon.applyPlan (h : s.Canon) : s.applyPlan.Canon := h.planRow.frame

theorem State.Canon.sendUpds (h : s.Canon) {row : Nat} {ups : List (Nat × Nat)} {n : Nat} : (s.sendUpds row ups n).Canon :=
  .ite (h.foldl (fun _ _ ht => ht.deliver)).deliver.pmcMix h

theorem State.Canon.fetchOp (h : s.Canon) {n : Nat} : (s.fetchOp n).Canon :=
  (h.deliver.foldl (fun _ _ ht => ht.foldl (fun _ _ ht => ht.deliver))).deliver

theorem State.Canon.setStrip (h : s.Canon) {k : Nat} {x : StripSt} : (s.setStrip k x).Canon := h.frame

theorem State.Canon.stripFlags (h : s.Canon) {r : RegName} {k : Nat} {p : Pass} : (s.stripFlags r k p).Canon := by
  unfold State.stripFlags
  extract_lets s1 s2
  have hs2 : s2.Canon := .ite (State.Canon.ite h.setHw h).setHw (.ite h.setHw h)
  exact .ite hs2.setHw.pmcMix hs2

theorem State.Canon.runInput (h : s.Canon) {i : Nat} {xs : List Int} : (s.runInput i xs).2.Canon := by
  unfold State.runInput
  exact h.setStrip.stripFlags

theorem State.Canon.runOutput (h : s.Canon) {o : Nat} {xs : List Int} : (s.runOutput o xs).2.Canon := by
  unfold State.runOutput
  exact h.setStrip.stripFlags

theorem State.Canon.readLine (h : s.Canon) {o n len : Nat} : (s.readLine o n len).2.Canon :=
  .foldl_snd h fun _ _ ht => .snd ht.memRead

theorem State.Canon.writeLine (h : s.Canon) {o n : Nat} {xs : List Int} : (s.writeLine o n xs).Canon :=
  .foldl_snd h fun _ _ ht => ht.memWrite

theorem State.Canon.delayOutput (h : s.Canon) {o n : Nat} {xs : List Int} : (s.delayOutput o n xs).2.Canon := by
  unfold State.delayOutput
  exact h.readLine.writeLine

theorem State.Canon.endMeters (h : s.Canon) : s.endMeters.Canon := h.frame.pmcMix

theorem State.Canon.commitBqs (h : s.Canon) : s.commitBqs.Canon := h.frame

theorem State.Canon.bqWritten (h : s.Canon) {a : Nat} : (s.bqWritten a).Canon := h.frame

/-! ### Audio -/

theorem State.Canon.pmcAud (h : s.Canon) {ev k : Nat} : (s.pmcAud ev k).Canon := h.pmcEv

theorem State.Canon.setRxs (h : s.Canon) {i : Nat} {x : Rxs} : (s.setRxs i x).Canon := h.frame

theorem State.Canon.setTxs (h : s.Canon) {i : Nat} {x : Txs} : (s.setTxs i x).Canon := h.frame

theorem State.Canon.setAesi (h : s.Canon) {p : Nat} {x : AesIn} : (s.setAesi p x).Canon := h.frame

theorem State.Canon.setAeso (h : s.Canon) {p : Nat} {x : AesOut} : (s.setAeso p x).Canon := h.frame

theorem State.Canon.setObjSt (h : s.Canon) {o : AudObj} {st : Nat} : (s.setObjSt o st).Canon := by
  unfold State.setObjSt
  split
  · exact h.setRxs
  · exact h.setTxs
  · exact h.setAesi
  · exact h.setAeso

theorem State.Canon.setGate (h : s.Canon) {o : AudObj} {g : ChGate} : (s.setGate o g).Canon := by
  unfold State.setGate
  split
  · exact h.setRxs
  · exact h.setTxs
  · exact h.setAesi
  · exact h.setAeso

theorem State.Canon.addWait (h : s.Canon) {o : AudObj} {ch : Nat} {on : Bool} {k0 : Nat} : (s.addWait o ch on k0).Canon := h.frame

theorem State.Canon.waitAll (h : s.Canon) {o : AudObj} {on : Bool} {k0 : Nat} : (s.waitAll o on k0).Canon :=
  h.foldl fun _ _ ht => ht.addWait

theorem State.Canon.applyWait (h : s.Canon) {w : ZcWait} {n : Nat} : (s.applyWait w n).Canon := h.setGate.frame

theorem State.Canon.openAll (h : s.Canon) {o : AudObj} {n : Nat} : (s.openAll o n).Canon := h.foldl fun _ _ ht => ht.setGate

theorem State.Canon.startPending (h : s.Canon) {o : AudObj} : (s.startPending o).Canon := h.frame

theorem State.Canon.startOut (h : s.Canon) {o : AudObj} {r : Int} {zc : Bool} : (s.startOut o r zc).Canon := by
  unfold State.startOut
  extract_lets n s1
  have hs1 : s1.Canon := by
    unfold s1
    split
    · exact h.setTxs
    · exact h.setAeso
    · exact h
  exact (State.Canon.ite hs1.waitAll hs1.openAll).startPending

theorem State.Canon.startObj (h : s.Canon) {o : AudObj} : (s.startObj o).Canon := by
  unfold State.startObj
  split
  · exact h.setRxs.startPending
  · exact h.setAesi.startPending
  · exact .ite h.setTxs h.startOut
  · exact .ite h.setAeso h.startOut

theorem State.Canon.stopObj (h : s.Canon) {o : AudObj} : (s.stopObj o).Canon := .ite h h.frame.setObjSt.waitAll

theorem State.Canon.offObj (h : s.Canon) {o : AudObj} : (s.offObj o).Canon := by
  unfold State.offObj
  dsimp only
  split
  · exact h.frame.setRxs
  · exact h.frame.setTxs
  · exact h.frame.setAesi
  · exact h.frame.setAeso

theorem State.Canon.audStopAll (h : s.Canon) : s.audStopAll.Canon := (h.foldl (fun _ _ ht => .ite ht ht.offObj.recEvent)).frame

theorem State.Canon.audStartAll (h : s.Canon) : s.audStartAll.Canon := h.foldl fun _ _ ht => .ite ht.startObj ht

theorem State.Canon.completeObj (h : s.Canon) {o : AudObj} : (s.completeObj o).Canon :=
  .ite h (.ite h.offObj.recEvent (.ite h.frame.recEvent h))

theorem State.Canon.armTrig (h : s.Canon) {at_ : Nat} : (s.armTrig at_).Canon := .ite h.frame.setHw h.setHw

theorem State.Canon.fireTrig (h : s.Canon) : s.fireTrig.Canon := h.setHw.foldl fun _ _ ht => ht.startOut

theorem State.Canon.legSeq (h : s.Canon) {i k seq : Nat} : (s.legSeq i k seq).Canon := by
  unfold State.legSeq
  dsimp only
  split
  · exact h.setRxs
  · exact .ite h.setRxs.bump h.setRxs

theorem State.Canon.placeRtp (h : s.Canon) {i : Nat} {n : Int} {r : List Byte} : (s.placeRtp i n r).Canon := h.setRxs.pmcAud

theorem State.Canon.classify (h : s.Canon) {i k : Nat} {t : Int} {r : List Byte} : (s.classify i k t r).Canon :=
  .ite h.bump.pmcAud (.ite h.bump.pmcAud h.placeRtp)

theorem State.Canon.beginRxs (h : s.Canon) {i : Fin 512} {r : List Byte} : (s.beginRxs i r).Canon := .ite h.setRxs.waitAll h

theorem State.Canon.legPacket (h : s.Canon) {i : Fin 512} {k : Nat} {t : Int} {r : List Byte} : (s.legPacket i k t r).Canon :=
  .ite h.setRxs.pmcAud.legSeq.beginRxs.classify h.bump

theorem State.Canon.rtpIn (h : s.Canon) {p : Nat} {f : RxFrame} : (s.rtpIn p f).Canon := by
  unfold State.rtpIn
  dsimp only
  split
  · exact h.bump
  · exact .ite h.bump (.ite (h.foldl (fun _ _ ht => ht.legPacket)) h)

theorem State.Canon.audTake (h : s.Canon) {p : Nat} : (s.audTake p).Canon := by
  unfold State.audTake
  split
  · exact h
  · exact .ite h.rxTake.rtpIn h.rxTake

theorem State.Canon.outValue (h : s.Canon) {o : AudObj} {ch n : Nat} : (s.outValue o ch n).2.Canon := by
  unfold State.outValue
  split
  · split
    · exact h
    · split
      · exact .snd h.draw
      · exact h
  · exact h

theorem State.Canon.outValues (h : s.Canon) {o : AudObj} {l : List (Nat × Nat)} : (s.outValues o l).2.Canon := by
  induction l generalizing s with
  | nil => exact h
  | cons x r ih => exact ih h.outValue

theorem State.Canon.sendRtp (h : s.Canon) {i : Fin 512} {m : Nat} : (s.sendRtp i m).Canon :=
  h.outValues.foldl fun _ _ ht => .ite ht.submitFrame ht

theorem State.Canon.launchRtp (h : s.Canon) {i : Fin 512} {m : Nat} : (s.launchRtp i m).Canon :=
  (State.Canon.ite h.bump.pmcAud h.sendRtp.pmcAud).setTxs

theorem State.Canon.aesLost (h : s.Canon) {p : Fin 16} {st : Nat} : (s.aesLost p st).Canon := h.setAesi.bump.waitAll

theorem State.Canon.aesRun (h : s.Canon) {p : Fin 16} : (s.aesRun p).Canon := h.setAesi.waitAll

theorem State.Canon.aesGone (h : s.Canon) {p : Fin 16} : (s.aesGone p).Canon := by
  unfold State.aesGone
  split
  · exact h.aesLost
  · exact h.setAesi
  · exact h

theorem State.Canon.latchBits (h : s.Canon) {r : RegName} {p v : Nat} : (s.latchBits r p v).Canon := h.foldl fun _ _ ht => ht.setHw

theorem State.Canon.endBlock (h : s.Canon) {p : Nat} : (s.endBlock p).Canon :=
  .ite h.setAesi.bump h.setAesi.latchBits.latchBits.latchBits.latchBits.setHw

theorem State.Canon.blockFrame (h : s.Canon) {p : Nat} {f : Aes3Frame} : (s.blockFrame p f).Canon := by
  unfold State.blockFrame
  dsimp only
  split
  · exact h
  · exact .ite h.setAesi.endBlock h.setAesi

theorem State.Canon.aesSamples (h : s.Canon) {p : Nat} {f : Aes3Frame} : (s.aesSamples p f).Canon := h.setAesi.bump

theorem State.Canon.aesRate (h : s.Canon) {p : Nat} : (s.aesRate p).Canon := (State.Canon.ite h.recEvent h).setHw.setAesi

theorem State.Canon.aesLock (h : s.Canon) {p : Fin 16} : (s.aesLock p).Canon :=
  .ite (.ite h.setAesi.aesRun h.setAesi) (.ite h.aesLost h.setAesi)

theorem State.Canon.aesTrack (h : s.Canon) {p : Fin 16} : (s.aesTrack p).Canon := .ite h.aesLost h

theorem State.Canon.aesFrame (h : s.Canon) {p : Fin 16} {f : Aes3Frame} : (s.aesFrame p f).Canon := by
  refine .ite (.aesTrack ?_) (.aesLock ?_) <;> exact (State.Canon.ite h.setAesi h).aesSamples.blockFrame.aesRate

theorem State.Canon.sendAes (h : s.Canon) {p : Fin 16} {m k : Nat} : (s.sendAes p m k).Canon := h.outValue.outValue.send

theorem State.Canon.aesInstant (h : s.Canon) {p : Fin 16} {m n0 : Nat} : (s.aesInstant p m n0).Canon := by
  unfold State.aesInstant
  extract_lets k s1 low s2
  have hs1 : s1.Canon := .ite h.boundary h
  exact .ite hs1.setAeso hs1.setAeso.sendAes

theorem State.Canon.inValue (h : s.Canon) {o : AudObj} {ch n : Nat} : (s.inValue o ch n).2.Canon := by
  unfold State.inValue
  dsimp only
  split
  · exact h
  · split
    · exact .snd h.draw
    · exact h

theorem State.Canon.inValues (h : s.Canon) {o : AudObj} {ch n k : Nat} : (s.inValues o ch n k).2.Canon := by
  induction k generalizing s n with
  | zero => exact h
  | succ k ih => exact ih h.inValue

theorem State.Canon.inputRow (h : s.Canon) {p : Int} {i : Nat} : (s.inputRow p i).2.Canon := by
  unfold State.inputRow
  dsimp only
  split
  · exact h
  · split
    · split
      · exact h
      · exact h.inValues
    · split
      · exact h
      · exact h.inValues
    · exact h

theorem State.Canon.skeinInput {a : List (List Int) × State} (h : a.2.Canon) {p : Int} {i : Nat} : (skeinInput p a i).2.Canon :=
  h.inputRow.runInput

theorem memWf_skeinD {rows : List (List Int)} {len k : Nat} {d : List Host.Cell} (h : memWf d = true) :
    memWf (skeinD rows len k d) = true :=
  List.foldlRecOn (motive := fun m => memWf m = true) _ _ h fun m hm _ _ => memWf_put m _ _ hm

theorem State.Canon.skein (h : s.Canon) {rows : List (List Int)} {k : Nat} : (s.skein rows k).Canon :=
  h.foldl fun _ _ ht => .ite ht (ht.setSq (ht.sq.setD (memWf_skeinD ht.sq.dMem)))

theorem State.Canon.skeinNext (h : s.Canon) : s.skeinNext.Canon := by
  unfold State.skeinNext
  split
  · exact .ite h.frame.skein h
  · exact h

theorem State.Canon.missingRow (h : s.Canon) {p : Int} {i : Nat} : (s.missingRow p i).Canon := .ite h (.ite h.setRxs.bump h.setRxs)

theorem State.Canon.aesPrune (h : s.Canon) {p : Int} {i : Nat} : (s.aesPrune p i).Canon := h.setAesi

theorem State.Canon.meterOuts (h : s.Canon) {p : Int} : (s.meterOuts p).Canon := (h.foldl (fun _ _ ht => ht.setStrip)).frame

theorem State.Canon.sampleRx (h : s.Canon) : s.sampleRx.Canon := h.foldl fun _ _ ht => ht.sample

theorem State.Canon.freeze (h : s.Canon) {p : Int} : (s.freeze p).Canon := by
  unfold State.freeze
  extract_lets r
  have hr : r.2.Canon := .foldl_snd h fun _ _ ht => ht.skeinInput
  exact hr.frame

theorem State.Canon.startRow (h : s.Canon) : s.startRow.Canon := by
  unfold State.startRow
  extract_lets p s1 s2 s3 s4
  have hs1 : s1.Canon := h.boundary.commitBqs.applyPlan.sampleRx.meterOuts
  have hs3 : s3.Canon := (State.Canon.ite (hs1.foldl (fun _ _ ht => ht.missingRow)) hs1).freeze
  exact (State.Canon.ite (hs3.foldl (fun _ _ ht => ht.aesPrune)) hs3).frame

theorem State.Canon.outrowOp (h : s.Canon) {o tag : Nat} {samples : List Int} : (s.outrowOp o tag samples).Canon :=
  .ite h (.ite h.bump h.frame.pmcAud.sample)

theorem State.Canon.sendDigest (h : s.Canon) {rows : List (List Int)} : (s.sendDigest rows).Canon := .ite h h.frame.send

theorem State.Canon.stripOut {a : OutAcc} (h : a.s.Canon) {o : Nat} : (stripOut a o).s.Canon :=
  (State.Canon.ite h.bump.pmcAud h).runOutput.delayOutput

theorem State.Canon.stripRow (h : s.Canon) : s.stripRow.Canon :=
  .frame (.sendDigest (List.foldlRecOn (motive := fun a : OutAcc => a.s.Canon) _ _ h fun _ ha _ _ => ha.stripOut))

/-! ### Injection, the recorder and the counters -/

theorem State.Canon.ownEffect (h : s.Canon) {src unit : Nat} : (s.ownEffect src unit).Canon := by
  unfold State.ownEffect
  split
  · exact h.frame
  · exact h.frame
  · exact h.frame
  · exact .ite h.wardenDown h
  · exact h.draw.frame
  · exact h.setKslot
  · exact h

theorem State.Canon.assert (h : s.Canon) {src unit : Nat} : (s.assert src unit).Canon := by
  refine .ite (.setFsrc ?_) ?_ <;> exact (State.Canon.ite (.ite h.frame h) (State.Canon.ite h.frame h).ownEffect).fault

theorem State.Canon.takeResume (h : s.Canon) : s.takeResume.Canon := .ite h.frame.takeTwinCfg h

theorem State.Canon.takeInject (h : s.Canon) {v : Nat} : (s.takeInject v).Canon :=
  .ite (State.Canon.ite h.frame h).frame.setHw (.ite h.frame h)

theorem State.Canon.clearRecs (h : s.Canon) {path : Nat} : (s.clearRecs path).Canon := h.frame.recEvent

theorem State.Canon.clrAll (h : s.Canon) {path : Nat} : (s.clrAll path).Canon := .ite h.clearRecs h.frame

theorem State.Canon.commitRec (h : s.Canon) : s.commitRec.Canon := by
  unfold State.commitRec
  split
  · exact h
  · exact h.frame.foldl fun _ _ ht => ht.clearRecs

theorem State.Canon.clrCnt (h : s.Canon) : s.clrCnt.Canon := h.frame

theorem State.Canon.clrUnit (h : s.Canon) {u : Nat} : (s.clrUnit u).Canon := h.frame

theorem State.Canon.takePmc (h : s.Canon) {i v : Nat} : (s.takePmc i v).Canon := .ite h.frame h

theorem State.Canon.capture (h : s.Canon) {w : Sweep} {i : Nat} : (s.capture w i).Canon := h.frame

theorem State.Canon.sweepEdge (h : s.Canon) : s.sweepEdge.Canon := by
  unfold State.sweepEdge
  split
  · exact h
  · exact .ite h.capture h

theorem State.Canon.startSweep (h : s.Canon) : s.startSweep.Canon := h.frame.sweepEdge

theorem State.Canon.endSweep (h : s.Canon) {w : Sweep} : (s.endSweep w).Canon := h.frame

theorem State.Canon.takeInsSample (h : s.Canon) {rec_ : List Byte} : (s.takeInsSample rec_).Canon := .ite h.frame.bump h.frame.memWrite

/-! ### The satellite baseband -/

theorem State.Canon.armChan (h : s.Canon) {c cw rw ph scnt : Nat} : (s.armChan c cw rw ph scnt).Canon := h.setChan

theorem State.Canon.mateWord (h : s.Canon) {a b rw : Nat} : (s.mateWord a b rw).2.Canon := by
  unfold State.mateWord
  exact .snd h.draw

theorem State.Canon.startChan (h : s.Canon) {c cw rw ph scnt : Nat} : (s.startChan c cw rw ph scnt).Canon :=
  .ite h.armChan.mateWord.armChan h.armChan

theorem State.Canon.tryStart (h : s.Canon) {c cw rw ph scnt : Nat} : (s.tryStart c cw rw ph scnt).Canon := by
  unfold State.tryStart
  split
  · exact h.startChan
  · exact h.setChan
  · exact h

theorem State.Canon.startByRegs (h : s.Canon) {c : Nat} : (s.startByRegs c).Canon := h.tryStart

theorem State.Canon.moveChans (h : s.Canon) {l : List Nat} {st : ChState} : (s.moveChans l st).Canon :=
  h.foldl fun _ _ ht => .ite ht ht.setChan

theorem State.Canon.stopChan (h : s.Canon) {c : Nat} : (s.stopChan c).Canon := h.moveChans

theorem State.Canon.startMsg (h : s.Canon) {c cw rw ph scnt : Nat} : (s.startMsg c cw rw ph scnt).Canon := by
  unfold State.startMsg
  split
  · exact h
  · exact h
  · exact .ite h.tryStart h

theorem State.Canon.updateMsg (h : s.Canon) {n c cw rw : Nat} : (s.updateMsg n c cw rw).Canon := by
  unfold State.updateMsg
  split
  · exact h.bump
  · split
    · exact h.setChan
    · exact h.setChan
    · exact h

theorem State.Canon.dropDump (h : s.Canon) {n c : Nat} : (s.dropDump n c).Canon := .ite (h.setSq h.sq.frame).bump.pmcEv h

theorem State.Canon.correlate (h : s.Canon) {c n y : Nat} : (s.correlate c n y).Canon := h.setChan

theorem State.Canon.dumpOp (h : s.Canon) {c : Nat} : (s.dumpOp c).Canon := by
  unfold State.dumpOp
  extract_lets x n s0 s1 y
  have hs1 : s1.Canon := .ite h.boundary.bump h.boundary
  split
  · exact .ite hs1.dropDump.deliver.pmcEv.setChan.pmcEv hs1.dropDump.deliver.pmcEv.setChan
  · exact hs1.setChan

theorem State.Canon.accumulate (h : s.Canon) : s.accumulate.Canon := by
  unfold State.accumulate
  refine h.foldl fun _ _ ht => ?_
  split
  · exact ht
  · exact ht.foldl fun _ _ ht => ht.correlate

theorem State.Canon.indCheck (h : s.Canon) : s.indCheck.Canon := h.external

theorem State.Canon.indSet (h : s.Canon) {b : Nat} : (s.indSet b).Canon := h.frame.indCheck

theorem State.Canon.driftTest (h : s.Canon) : s.driftTest.Canon := by
  unfold State.driftTest
  split
  · exact h
  · exact .ite h.indSet h

theorem State.Canon.feDeclare (h : s.Canon) {f st : Nat} : (s.feDeclare f st).Canon := h.setFe.moveChans.bump.fault

theorem State.Canon.feArrive (h : s.Canon) : s.feArrive.Canon := by
  unfold State.feArrive
  refine h.foldl fun _ _ ht => ?_
  split
  · dsimp only
    split
    · exact .ite ht ht.setFe
    · exact .ite ht.setFe.frame ht.setFe
  · exact ht

theorem State.Canon.rateTest (h : s.Canon) {f cnt : Nat} : (s.rateTest f cnt).Canon := .ite h.feDeclare h.setFe

theorem State.Canon.feSecondOp (h : s.Canon) {f : Nat} : (s.feSecondOp f).Canon := by
  refine .ite (.indSet ?_) ?_ <;>
  · refine .sample ?_
    split
    · exact h.setFe
    · exact h.setFe.rateTest

theorem State.Canon.setAcq (h : s.Canon) {j st : Nat} : (s.setAcq j st).Canon := h.frame

theorem State.Canon.runAcq (h : s.Canon) : s.runAcq.Canon := by
  unfold State.runAcq
  split
  · exact h.setAcq.frame
  · exact h

theorem State.Canon.queueAcq (h : s.Canon) {j : Nat} : (s.queueAcq j).Canon := h.setAcq.frame.runAcq

theorem State.Canon.leaveAcq (h : s.Canon) {j st : Nat} : (s.leaveAcq j st).Canon := h.setAcq.frame.runAcq

theorem State.Canon.cancelAcq (h : s.Canon) {j : Nat} : (s.cancelAcq j).Canon := .ite h.leaveAcq h

theorem State.Canon.acqSample (h : s.Canon) : s.acqSample.Canon := by
  unfold State.acqSample
  split
  · dsimp only
    split
    · exact h
    · exact .ite h (State.Canon.ite h.memWrite h).frame
  · exact h

theorem State.Canon.swadrScnt (h : s.Canon) {a : Nat} : (s.swadrScnt a).2.Canon := by
  unfold State.swadrScnt
  dsimp only
  split
  · split
    · exact h
    · exact h.draw
  · exact h.draw

theorem State.Canon.acqDone (h : s.Canon) : s.acqDone.Canon := by
  -- The kernel must not compare projections of `memRead` itself: it would unfold the reading of the memory.
  obtain ⟨read, hread, hm⟩ : ∃ read, s.memRead 4 = read ∧ ∀ a n, (read a n).2.2.Canon :=
    ⟨_, rfl, fun _ _ => h.memRead⟩
  unfold State.acqDone
  rw [hread]
  split
  · extract_lets sw rd c n f tell mon
    have hf : f.2.Canon := by
      unfold f
      split
      · exact hm _ _
      · exact (hm _ _).swadrScnt
    have ht : ∀ t st, t.Canon → (tell t st).Canon := fun t st ht => ht.leaveAcq.deliver
    clear_value f tell
    split
    · exact ht _ _ hf
    · split
      · exact ht _ _ hf
      · refine .ite (.indSet ?_) ?_ <;> exact ht _ _ hf.draw.draw.setHw.setHw.setHw.setHw.setHw.setHw
  · exact h

theorem State.Canon.keepLatch (h : s.Canon) {ln n c : Nat} : (s.keepLatch ln n c).1.Canon := by
  unfold State.keepLatch
  exact h.setChan

theorem State.Canon.biasStep (h : s.Canon) : s.biasStep.Canon := .ite h.boundary.frame h.boundary

theorem State.Canon.latchChan (h : s.Canon) {n c : Nat} : (State.latchChan n s c).Canon := by
  unfold State.latchChan
  split
  · exact h
  · exact .ite h.keepLatch.frame (.ite h.setChan h)

theorem State.Canon.latchPort (h : s.Canon) {f : Nat} : (s.latchPort f).Canon := by
  unfold State.latchPort
  split
  · exact h
  · exact .ite h (.ite h.frame (.ite h (h.frame.foldl fun _ _ ht => ht.latchChan)))

theorem State.Canon.closeLatch (h : s.Canon) : s.closeLatch.Canon := by
  unfold State.closeLatch
  split
  · exact h
  · exact .ite (.ite h.frame.deliver.pmcEv.indSet h.frame.deliver.pmcEv) h

theorem State.Canon.fillLatch (h : s.Canon) : s.fillLatch.Canon := (h.foldl fun _ _ ht => ht.latchPort).closeLatch

theorem State.Canon.latchOp (h : s.Canon) : s.latchOp.Canon := h.biasStep.frame.fillLatch

theorem State.Canon.goSwatch (h : s.Canon) : s.goSwatch.Canon := h.frame

theorem State.Canon.setSw (h : s.Canon) {w : Swatch} : (s.setSw w).Canon := h.frame

theorem State.Canon.flushSw (h : s.Canon) {f : Nat} : (s.flushSw f).Canon := h.setSw.memWrite

theorem State.Canon.beginSwatch (h : s.Canon) : s.beginSwatch.Canon := h.frame

theorem State.Canon.swTake (h : s.Canon) {f : Nat} : (s.swTake f).Canon := by
  unfold State.swTake
  dsimp only
  split
  · exact h
  · refine .ite h (.ite h.setSw (.ite (.memWrite (.frame ?_)) (.frame ?_))) <;> exact .ite h.setSw.flushSw h.setSw

theorem State.Canon.swSample (h : s.Canon) : s.swSample.Canon := .ite (h.foldl fun _ _ ht => ht.swTake) h

theorem State.Canon.endSwatch (h : s.Canon) {st : Nat} : (s.endSwatch st).Canon := (h.foldl fun _ _ ht => ht.flushSw).frame.memWrite.pmcEv

theorem State.Canon.abortSwatch (h : s.Canon) : s.abortSwatch.Canon := by
  unfold State.abortSwatch
  split
  · exact h.frame
  · exact h.endSwatch
  · exact h

theorem State.Canon.gnsStop (h : s.Canon) : s.gnsStop.Canon := h.moveChans.abortSwatch.frame.foldl fun _ _ ht => ht.cancelAcq

theorem State.Canon.spiRx (h : s.Canon) {rx : Nat} : (s.spiRx rx).2.Canon := by
  unfold State.spiRx
  exact .snd h.draw

theorem State.Canon.setInd (h : s.Canon) {b : Nat} : (s.setInd b).Canon := h.setHw.indCheck

theorem State.Canon.clrInd (h : s.Canon) {b : Nat} : (s.clrInd b).Canon := h.setHw.indCheck

/-! ### The commands of the time blocks -/

theorem State.Canon.msTick (h : s.Canon) : s.msTick.Canon := (State.Canon.ite h.frame.frame.ageUpdate h.frame.frame).squelch

theorem State.Canon.openBreach (h : s.Canon) : s.openBreach.Canon := h.dropHeld.enterHoldover.frame

theorem State.Canon.postOp (h : s.Canon) {k : Nat} {p : Post} : (s.postOp k p).Canon := by
  unfold State.postOp
  split
  · exact h
  · refine .witnessTest ?_
    split
    · exact h.holdPost
    · exact h.holdPost.observe

theorem State.Canon.disqOp (h : s.Canon) {k : Nat} : (s.disqOp k).Canon := .ite h h.disq

theorem State.Canon.hldSec (h : s.Canon) : s.hldSec.Canon := .ite h.frame.frame h.frame

theorem State.Canon.eachTod (h : s.Canon) {j : Nat} {f : State → Nat → State} (hf : ∀ t a, t.Canon → (f t a).Canon) :
    (s.eachTod j f).Canon :=
  h.foldl fun _ _ ht => .ite (hf _ _ ht) ht

theorem State.Canon.todsFor (h : s.Canon) {j : Nat} : (s.todsFor j).Canon := h.eachTod fun _ _ ht => ht.setOutU

theorem State.Canon.suppress (h : s.Canon) {j n : Nat} : (s.suppress j n).Canon := h.bump.eachTod fun _ _ ht => ht.bump

theorem State.Canon.ppsTrail (h : s.Canon) {j : Nat} : (s.ppsTrail j).Canon := by
  unfold State.ppsTrail
  dsimp only
  split
  · exact h
  · exact .ite h.setPin h

theorem State.Canon.ppsLead (h : s.Canon) {j : Nat} : (s.ppsLead j).Canon := .ite h.fire.suppress h.setPin.fire.send.todsFor

theorem State.Canon.todBits (h : s.Canon) {i : Nat} : (s.todBits i).Canon := by
  unfold State.todBits
  dsimp only
  split
  · exact h
  · split
    · exact .ite h.setOutU h
    · exact .ite h.setPin h

theorem State.Canon.todStart (h : s.Canon) {i : Nat} {m : TodMsg} : (s.todStart i m).Canon := .ite h (.ite h.bump h.setOutU.send.todBits)

theorem State.Canon.halfCycle (h : s.Canon) {i : Nat} : (State.halfCycle i s).Canon := by
  unfold State.halfCycle
  dsimp only
  split
  · exact h
  · exact .ite h (.ite h.setPin (.ite h.setOutU h.setPin))

theorem State.Canon.halfCycles (h : s.Canon) {i n : Nat} : (State.halfCycles i n s).Canon := by
  induction n generalizing s with
  | zero => exact h
  | succ k ih => exact ih h.halfCycle

theorem State.Canon.reanchor (h : s.Canon) {i : Nat} : (s.reanchor i).Canon := by
  unfold State.reanchor
  dsimp only
  split
  · exact h.setOutU
  · exact h

theorem State.Canon.frameGrid (h : s.Canon) {i : Nat} : (s.frameGrid i).Canon := .ite (.ite h.setOutU (.ite h.setOutU h)) h

theorem State.Canon.clockStart (h : s.Canon) {i : Nat} : (s.clockStart i).Canon := by
  unfold State.clockStart
  split
  · exact h
  · split
    · exact h
    · exact h.setOutU

theorem State.Canon.clockRow (h : s.Canon) {i : Nat} : (s.clockRow i).Canon := by
  unfold State.clockRow
  extract_lets s1
  have hs1 : s1.Canon := h.reanchor.frameGrid.clockStart
  split
  · exact hs1
  · exact hs1.halfCycles

/-! ### The host interface -/

theorem State.Canon.scrub (h : s.Canon) : s.scrub.Canon := (h.foldl (fun _ _ ht => ht.memPost)).readCws.frame

theorem State.Canon.dmaTake (h : s.Canon) {q : Nat} {irq : Bool} : (s.dmaTake q irq).Canon := h.setDq.pmcEv

theorem State.Canon.dmaOp (h : s.Canon) {q : Nat} {d : Desc} {op : Nat} {f : Nat → State → State} (hf : ∀ a t, t.Canon → (f a t).Canon) :
    (s.dmaOp q d op f).Canon :=
  .ite (.ite (hf _ _ h.dmaTake) h.dmaTake.dmaResult) h

theorem State.Canon.dmaBytes (h : s.Canon) {n : Nat} : (s.dmaBytes n).Canon := h.pmcEv

theorem State.Canon.dmaTxOp (h : s.Canon) {q id : Nat} {d : Desc} {frame : List Byte} : (s.dmaTxOp q id d frame).Canon :=
  .ite h.dmaResult h.dmaBytes.submitFrame

theorem State.Canon.dmaRxOp (h : s.Canon) {q : Nat} {d : Desc} : (s.dmaRxOp q d).Canon := by
  unfold State.dmaRxOp
  split
  · exact h
  case h_2 p f _ =>
    extract_lets n r
    have hr : r.2.2.Canon := by
      unfold r
      split
      · exact h.memRead
      · exact h
    exact .ite h.rxLeave.bump (.ite hr.rxLeave.rxDrop (hr.dmaOp fun _ _ ht => ht.rxLeave.send.dmaBytes.dmaResult))

theorem State.Canon.dmaBadRange (h : s.Canon) {q id : Nat} {d : Desc} : (s.dmaBadRange q id d).Canon :=
  (State.Canon.ite h.bump h).dmaResult

theorem State.Canon.copyIn (h : s.Canon) {q id : Nat} {d : Desc} {data : List Byte} : (s.copyIn q id d data).Canon :=
  .ite h.memPutBy.dmaBytes.dmaResult h.dmaBadRange

theorem State.Canon.copyOut (h : s.Canon) {q id : Nat} {d : Desc} : (s.copyOut q id d).Canon :=
  .ite h.memRead.send.dmaBytes.dmaResult h.dmaBadRange

theorem State.Canon.dmaFinish (h : s.Canon) {q : Nat} : (s.dmaFinish q).Canon := by
  unfold State.dmaFinish
  dsimp only
  split
  · exact h
  · split
    · exact h
    · exact .ite (State.Canon.ite h.setDq.send h.setDq.send.bump).irq (.ite h.setDq.send h.setDq.send.bump)

theorem State.Canon.sbdTake (h : s.Canon) {f : List Byte} : (s.sbdTake f).Canon := by
  unfold State.sbdTake
  dsimp only
  split
  · exact h.bump.sbdSend
  · split
    · exact h.sbdSend
    · exact h.sbdSend
    · exact h.frame

theorem State.Canon.sbdFrame (h : s.Canon) {path : SbdPath} {bytes : List Byte} : (s.sbdFrame path bytes).Canon :=
  .ite h.frame (.ite h.boundary.frame.sbdTake h.boundary.frame.bump)

theorem State.Canon.i3c (h : s.Canon) {f : Sbd → Sbd} : (s.i3c f).Canon := .ite h.frame h

/-! ### Cast-on and the configuration -/

theorem State.Canon.coreReset (h : s.Canon) : s.coreReset.Canon := by
  have hd : ∀ t : State, t.dram = s.dram → t.seqs = [] → t.Canon := fun t hd hq =>
    t.canon_iff.mpr ⟨hd ▸ (s.canon_iff.mp h).1, by simp [hq]⟩
  unfold State.coreReset
  dsimp only
  split
  · exact hd _ rfl rfl
  · exact hd _ rfl rfl

theorem State.Canon.aonReset (h : s.Canon) : s.aonReset.Canon := h.coreReset.frame

theorem State.Canon.castStart (h : s.Canon) : s.castStart.Canon := h.coreReset.frame

theorem State.Canon.takeSave (h : s.Canon) {org : Machine.Origin} {slot : Nat} : (s.takeSave org slot).Canon := h.frame

theorem State.Canon.takeSelect (h : s.Canon) {img : Option Nat} : (s.takeSelect img).Canon := h.frame

theorem State.Canon.saveDone (h : s.Canon) : s.saveDone.Canon := by
  unfold State.saveDone
  split
  · exact h
  · exact h.frame.sbdEnds

theorem State.Canon.takeBind (h : s.Canon) {org : Machine.Origin} {z : Bool} {seq : Nat} : (s.takeBind org z seq).Canon := by
  refine .ite (.audStopAll (.stopSeqs ?_)) ?_ <;>
    refine .ite (.zeroize ?_) ?_ <;> exact .ite h.frame.enterRelinq h.frame

theorem State.Canon.bindDone (h : s.Canon) : s.bindDone.Canon := by
  unfold State.bindDone
  split
  · extract_lets s1 s2 s3
    have hs1 : s1.Canon := h.foldl fun _ _ ht => ht.commitRec
    exact (State.Canon.ite hs1.recordOwed hs1).coreReset.frame.sbdEnds
  · exact h

end Sys2Proof.Machine
end

section
/-! PROOFS. Canonical memories after a register access: the effects of a write, the write gate, reads, the sideband; and after an edge. -/

namespace Sys2Proof.Machine

variable {s : State} {q : Seq}

/-! ### Register writes as they land -/

theorem State.Canon.putReg (h : s.Canon) {x : RegAt} {v : Nat} : (s.putReg x v).Canon := h.frame

theorem State.Canon.clear1 (h : s.Canon) {x : RegAt} {v : Nat} : (s.clear1 x v).Canon := .ite h.frame h

theorem State.Canon.putSeqMem (h : s.Canon) {a v : Nat} : (s.putSeqMem a v).Canon := by
  unfold State.putSeqMem
  split
  · exact h
  · refine h.setSq (.ite (.frame ?_) ?_) <;> exact h.sq.setMem (memWf_putWord _ _ _ (h.sq.memOf _))

theorem State.Canon.keepOutside (h : s.Canon) {n : Fin 160} : (s.keepOutside n).Canon := by
  unfold State.keepOutside
  split
  · exact h
  · exact h.setSq (h.sq.setD (memWf_putWords h.sq.dMem))

/-! ### The effects of a register write -/

theorem State.Canon.ackStep (h : s.Canon) : s.ackStep.Canon := .ite h.releaseHeld (.ite h.closeBreach h)

theorem State.Canon.hookTime (h : s.Canon) {x : RegAt} {v : Nat} : (s.hookTime x v).Canon := by
  unfold State.hookTime
  split
  · exact h.takeSlew
  · exact h.takeStep
  · exact .ite h.dropSched.dropHeld h
  · exact h.ackStep
  · exact h.squelch
  · exact h.ageCheck
  · exact h.frame
  · exact h.frame
  · exact h

theorem State.Canon.hookSel {old : State} (h : s.Canon) {x : RegAt} {v : Nat} : (s.hookSel old x v).Canon := by
  unfold State.hookSel
  dsimp only
  split
  · exact .ite (State.Canon.ite h.candEnable h).determine (.ite h.candEnable h)
  · exact .ite h.determine h
  · exact .ite h.determine h
  · exact .ite h.determine h
  · exact h

theorem State.Canon.outCfg (h : s.Canon) {old : State} {i : Nat} : (s.outCfg old i).Canon := by
  refine .squelch (.ite (.setOutU ?_) ?_) <;> exact .ite h.setOutU h

theorem State.Canon.hookOut {old : State} (h : s.Canon) {x : RegAt} {v : Nat} : (s.hookOut old x v).Canon := by
  unfold State.hookOut
  split
  · exact h.outCfg
  · exact h.squelch
  · exact .ite h.frame h
  · exact .ite h.setOutU h
  · exact h

theorem State.Canon.startSpi (h : s.Canon) {tx : Nat} : (s.startSpi tx).Canon := h.frame.send

theorem State.Canon.chanCfg (h : s.Canon) {c v : Nat} : (s.chanCfg c v).Canon := .ite (.ite h.startByRegs h) h.stopChan

theorem State.Canon.hookMeas {old : State} (h : s.Canon) {x : RegAt} {v : Nat} : (s.hookMeas old x v).Canon := by
  unfold State.hookMeas
  dsimp only
  split
  · exact .ite h.lbkOff h
  · exact .ite h.armTdc h
  · exact .ite h.gnsStop h
  · exact h.startSpi
  · exact h.indCheck
  · exact .ite h.setFe (.ite h.setFe h)
  · exact h.chanCfg
  · exact .ite h.queueAcq (.ite h.cancelAcq h)
  · exact .ite h.goSwatch (.ite h.abortSwatch h)
  · exact h

theorem State.Canon.beginLoad (h : s.Canon) {k mask : Nat} : (s.beginLoad k mask).Canon := h.setClu

theorem State.Canon.hookSeq (h : s.Canon) {x : RegAt} {v : Nat} : (s.hookSeq x v).Canon := by
  unfold State.hookSeq
  split
  · exact h.takeSeqCtl
  · exact .ite h.beginLoad h
  · exact h

theorem State.Canon.hookNet {old : State} (h : s.Canon) {x : RegAt} {v : Nat} : (s.hookNet old x v).Canon := by
  unfold State.hookNet
  split
  · exact .ite h.setLinkUp h
  · exact h.pauseCheck
  · exact h.pauseCheck
  · exact h.pauseCheck
  · exact .ite h h.setEp
  · exact h.setEp
  · exact h.setEp
  · exact .ite h h.setEp
  · exact h.decideAll
  · exact h.decideInst
  · exact h.frame
  · exact .ite h.frame h
  · exact h

theorem State.Canon.objCfgWritten (h : s.Canon) {o : AudObj} {was now : Nat} : (s.objCfgWritten o was now).Canon :=
  .ite h (.ite h.startObj (.ite h.stopObj h))

theorem State.Canon.hookAud {old : State} (h : s.Canon) {x : RegAt} {v : Nat} : (s.hookAud old x v).Canon := by
  unfold State.hookAud
  dsimp only
  split
  · exact .ite (.ite h.audStartAll h) (.ite h.audStopAll h)
  · exact h.objCfgWritten
  · exact h.objCfgWritten
  · exact h.objCfgWritten
  · exact h.objCfgWritten
  · exact h.armTrig
  · exact h.nodeWritten
  · exact .ite h.bqWritten h
  · exact .ite h.bqWritten h
  · exact h

theorem State.Canon.ackFree (h : s.Canon) {r : LogRec} : (s.ackFree r).Canon := h.frame.gapAlone

theorem State.Canon.hookKey (h : s.Canon) {x : RegAt} {v : Nat} : (s.hookKey x v).Canon := by
  unfold State.hookKey
  split
  · exact .ite h.checkRead.doneKey h
  · exact h.armFuse
  · exact .ite h.startBlow h
  · exact h.frame
  · split
    · exact h.ackFree
    · exact h
  · exact .ite h.irq.ibi h
  · exact h

theorem State.Canon.linkCfg (h : s.Canon) {l was now : Nat} : (s.linkCfg l was now).Canon :=
  .ite h.setLink.linkSay (.ite (State.Canon.ite h.linkEnd h).setLink.stlCheck.linkSay h)

theorem State.Canon.hookStl {old : State} (h : s.Canon) {x : RegAt} {v : Nat} : (s.hookStl old x v).Canon := by
  unfold State.hookStl
  split
  · exact h.linkCfg
  · exact h.takeTwinCfg
  · extract_lets s1
    have hs1 : s1.Canon := .ite h.takeHandover h
    exact .ite hs1.relinqCmd hs1
  · exact h

theorem State.Canon.fltCtl (h : s.Canon) {v : Nat} : (s.fltCtl v).Canon := by
  unfold State.fltCtl
  extract_lets s1
  have hs1 : s1.Canon := .ite h.takeResume h
  exact .ite hs1.frame.send hs1

theorem State.Canon.castGo (h : s.Canon) : s.castGo.Canon := h.frame

theorem State.Canon.takeConfig (h : s.Canon) {v : Nat} : (s.takeConfig v).Canon := by
  unfold State.takeConfig
  extract_lets s1
  have hs1 : s1.Canon := .ite h.takeSave h
  exact .ite hs1.takeSelect hs1

theorem State.Canon.hookCtl (h : s.Canon) {x : RegAt} {v q : Nat} : (s.hookCtl x v q).Canon := by
  unfold State.hookCtl
  split
  · exact .ite h.castGo h
  · exact h.takeConfig
  · exact .ite h.takeBind h
  · exact h.fltCtl
  · exact h.takeInject
  · exact h.clrUnit
  · exact h.takePmc
  · exact .ite h.startSweep h
  · exact .ite h.startSpare h
  · exact h

theorem State.Canon.hook {old : State} (h : s.Canon) {x : RegAt} {v q : Nat} : (s.hook old x v q).Canon := by
  unfold State.hook
  split
  · exact h.hookTime
  · exact h.hookTime
  · exact h.hookSel
  · exact h.hookOut
  · exact h.hookMeas
  · exact h.hookMeas
  · exact h.hookSeq
  · exact h.hookNet
  · exact h.hookNet
  · exact h.hookAud
  · exact h.hookAud
  · exact h.hookKey
  · exact h.hookKey
  · exact h.hookStl
  · exact h.hookCtl

theorem State.Canon.doWrite (h : s.Canon) {x : RegAt} {v q : Nat} : (s.doWrite x v q).Canon := h.putReg.clear1.hook

/-! ### The write gate -/

theorem State.Canon.bulkWord {b : BulkAcc} (h : b.s.Canon) {k : Nat} {p : Nat × Word} : (bulkWord k b p).s.Canon := by
  unfold Machine.bulkWord
  split
  · exact h
  · split
    · split
      · exact h.putSeqMem
      · exact h
    · split
      · exact h
      · split
        · exact h
        · dsimp only
          split
          · exact h.doWrite
          · exact h

theorem State.Canon.bulkAll (h : s.Canon) {a k : Nat} {d : List Word} : (s.bulkAll a d k).s.Canon :=
  List.foldlRecOn (motive := fun b : BulkAcc => b.s.Canon) _ _ h fun _ hb _ _ => hb.bulkWord

theorem State.Canon.refused (h : s.Canon) {e : GateEntry} {c : Code} : (s.refused e c).Canon := by
  unfold State.refused
  dsimp only
  split
  · exact h.werr.tellRefused.fault
  · exact h.werr.tellRefused

theorem State.Canon.mirrorOut (h : s.Canon) {e : GateEntry} : (s.mirrorOut e).2.Canon := by
  unfold State.mirrorOut
  dsimp only
  split
  · split
    · split
      · exact h.frame.send
      · exact h
    · exact h
  · split
    · split
      · exact h.frame.send
      · exact h
    · exact h
  · split
    · split
      · exact h.frame.send
      · exact h
    · exact h
  · exact h

theorem State.Canon.recordEntry (h : s.Canon) {e : GateEntry} : (s.recordEntry e).Canon := by
  unfold State.recordEntry
  dsimp only
  split
  case h_1 => exact h.frame.refuseUnrecorded
  case h_2 t hr =>
    have ht : t.Canon := by
      split at hr
      · obtain rfl := Option.some.inj hr
        exact h.recordExempt
      · exact h.recordNormal hr
    exact .ite ht.frame.refused ht.mirrorOut.frame

theorem State.Canon.recordNext (h : s.Canon) : s.recordNext.Canon := by
  unfold State.recordNext
  split
  · split
    · exact h.recordEntry
    · exact h
  · exact h

theorem State.Canon.applyChange (h : s.Canon) {e : GateEntry} : (s.applyChange e).Canon := by
  unfold State.applyChange
  dsimp only
  split
  · split
    · exact .ite h.doWrite.hostset h.doWrite
    · exact h
  · exact h
  · exact h.putSeqMem
  · exact h.bulkAll.bulkDone
  · exact h.commitEdge
  · exact h.takeFsel
  · exact h.takeStep
  · exact h.takeBind
  · exact h.takeSelect.sbdEnds
  · exact h.takeSave

theorem State.Canon.sbdWordDone (h : s.Canon) : s.sbdWordDone.Canon := by
  unfold State.sbdWordDone
  split
  · exact h
  · exact .ite h.frame h

theorem State.Canon.originDone (h : s.Canon) {e : GateEntry} : (s.originDone e).Canon := by
  unfold State.originDone
  split
  · exact h.wrDone
  · exact h.sbdWordDone
  · exact h.sbdWordDone
  · exact h

theorem State.Canon.releaseEntry (h : s.Canon) {e : GateEntry} : (s.releaseEntry e).Canon := by
  unfold State.releaseEntry
  dsimp only
  split
  · exact h.applyChange.originDone.sample
  · refine .recordDeferred ?_
    split
    · exact h.commitEdge
    · exact h.refused

theorem State.Canon.releaseNext (h : s.Canon) : s.releaseNext.Canon := by
  unfold State.releaseNext
  split
  · exact h
  · exact .ite h.frame.releaseEntry h

theorem State.Canon.auditBusyOp (h : s.Canon) : s.auditBusyOp.Canon :=
  h.frame.foldl fun _ _ ht => .ite ht.frame.applyChange.originDone ht.refuseUnrecorded

theorem State.Canon.submitChange (h : s.Canon) {ch : Change} {org : Machine.Origin} : (s.submitChange ch org).Canon :=
  .ite h.refuseUnrecorded (.ite h.frame.recordNext.releaseNext h.frame)

theorem State.Canon.mbxTake (h : s.Canon) : s.mbxTake.Canon := h.frame

theorem State.Canon.mbxCtl (h : s.Canon) {v : Nat} : (s.mbxCtl v).Canon := .ite (State.Canon.ite h.frame h).mbxTake (.ite h.frame h)

theorem State.Canon.mbxFull (h : s.Canon) {x : RegAt} : (s.mbxFull x).Canon := .ite h.frame.pmcEv h

theorem State.Canon.recCtl (h : s.Canon) {r : Requester} {v : Nat} : (s.recCtl r v).Canon := by
  unfold State.recCtl
  extract_lets s1 s2
  have hs1 : s1.Canon := .ite h.clrAll h
  have hs2 : s2.Canon := .ite hs1.clrCnt hs1
  exact .ite hs2.recEvent hs2

theorem State.Canon.actNow (h : s.Canon) {r : Requester} {x : RegAt} {v : Nat} : (s.actNow r x v).Canon := by
  unfold State.actNow
  split
  · exact h.recCtl
  · exact .ite h.clrUnit h
  · exact h.setAttSlot
  · exact .ite h.attGo h
  · exact h.keyParam
  · exact h.keyParam
  · exact h.keyParam
  · exact h.frame
  · exact h.mbxCtl
  · exact h.doWrite

theorem State.Canon.wordEnds (h : s.Canon) {x : Requester} : (s.wordEnds x).Canon := by
  unfold State.wordEnds
  split
  · exact h.wrDone
  · exact h.sbdWordDone
  · exact h

theorem State.Canon.submitPlain (h : s.Canon) {r : Requester} {x : RegAt} {v : Nat} : (s.submitPlain r x v).Canon := by
  unfold State.submitPlain
  dsimp only
  split
  · split
    · exact h.actNow.wordEnds
    · exact h.mbxFull.werr.originTold
  · exact h.submitChange

theorem State.Canon.submitRo (h : s.Canon) {r : Requester} {x : RegAt} {v : Nat} : (s.submitRo r x v).Canon := by
  unfold State.submitRo
  split
  · split
    · exact h.submitChange
    · exact h.submitChange
    · exact h.submitChange
    · exact h.wordEnds
  · exact h.submitChange

theorem State.Canon.submitReg (h : s.Canon) {r : Requester} {x : RegAt} {v : Nat} : (s.submitReg r x v).Canon :=
  .ite h.submitRo (.ite h.submitPlain h.submitChange)

theorem State.Canon.counted (h : s.Canon) {r : Requester} : (s.counted r).Canon := .ite h.pmcEv h

theorem State.Canon.submit (h : s.Canon) {r : Requester} {n : RegName} {v i j l : Nat} : (s.submit r n v i j l).Canon :=
  .ite h.counted.submitReg h

theorem State.Canon.unstage (h : s.Canon) {id : Nat} {x : RegAt} : (s.unstage id x).Canon := h.frame

theorem State.Canon.writeWord (h : s.Canon) {r : Requester} {a v : Nat} : (s.writeWord r a v).Canon := by
  unfold State.writeWord
  split
  · exact h
  · split
    · exact .ite h.submitChange h.submitChange
    · split
      · exact h.submitChange
      · exact .ite h.frame.wordEnds h.unstage.submitReg

theorem State.Canon.writeAccess (h : s.Canon) {r : Requester} {q : Access} {v : Nat} : (s.writeAccess r q v).Canon :=
  .ite h.counted.writeWord (.ite h.counted.submitChange h)

/-! ### Reads -/

theorem State.Canon.clearRc (h : s.Canon) {x : RegAt} : (s.clearRc x).Canon := .ite h.frame h

theorem State.Canon.readFirst (h : s.Canon) {r : Requester} {x : RegAt} : (s.readFirst r x).2.Canon := by
  unfold State.readFirst
  dsimp only
  split
  · exact h.popStamp
  · exact h.frame
  · exact h.frame
  · exact .ite (State.Canon.ite h h.clearRc).setLatch (.ite h h.clearRc)

theorem State.Canon.readWord (h : s.Canon) {r : Requester} {a : Nat} : (s.readWord r a).2.Canon := by
  unfold State.readWord
  split
  · exact h
  · split
    · exact h
    · split
      · exact h
      · split
        · exact h.readFirst
        · exact h

theorem State.Canon.readDone (h : s.Canon) {r : Requester} {a : Nat} : (s.readDone r a).Canon :=
  .ite h.readWord.send.pmcEv h.readWord.send

theorem State.Canon.readCmd (h : s.Canon) {r : Requester} {a : Nat} : (s.readCmd r a).Canon := .ite h (.ite h.frame h.readDone)

theorem State.Canon.serveReads (h : s.Canon) : s.serveReads.Canon := .ite (h.frame.foldl (fun _ _ ht => ht.readDone)) h

/-! ### The sideband and image loads -/

theorem State.Canon.sbdIssue (h : s.Canon) : s.sbdIssue.Canon := by
  unfold State.sbdIssue
  split
  · exact h
  · split
    · exact h
    · split
      · exact h.frame.sbdSend
      · exact h.frame.writeAccess

theorem State.Canon.sbdIssues (h : s.Canon) {n : Nat} : (s.sbdIssues n).Canon := by
  induction n generalizing s with
  | zero => exact h
  | succ k ih => exact ih h.sbdIssue

theorem State.Canon.sbdDrive (h : s.Canon) : s.sbdDrive.Canon := by
  unfold State.sbdDrive
  split
  · exact h
  · exact h.sbdIssues

theorem State.Canon.afterGate (h : s.Canon) : s.afterGate.Canon := h.serveReads.sbdDrive

theorem State.Canon.boundaryOp (h : s.Canon) {x : Boundary} : (s.boundaryOp x).Canon := by
  unfold State.boundaryOp
  split
  · exact h.biasStep
  · exact h.boundary

theorem State.Canon.releaseIf (h : s.Canon) {p : Change → Bool} : (s.releaseIf p).Canon := by
  unfold State.releaseIf
  split
  · exact .ite h.releaseNext.afterGate h
  · exact h

theorem State.Canon.submitTwin (h : s.Canon) {ch : Change} {at_ : Nat} : (s.submitTwin ch at_).Canon :=
  .ite h.refuseUnrecorded (.ite h.frame.recordNext h.frame)

theorem State.Canon.twinWord (h : s.Canon) {a v at_ : Nat} : (s.twinWord a v at_).Canon := by
  unfold State.twinWord
  split
  · exact h.submitTwin
  · split
    · exact h.submitTwin
    · exact .ite h.frame h.unstage.submitTwin

theorem State.Canon.readImage (h : s.Canon) {a : Nat} : (s.readImage a).2.Canon := by
  unfold State.readImage
  extract_lets r head n b
  have hr : r.2.2.Canon := h.memRead
  clear_value r
  split
  · exact .snd hr.memRead
  · exact hr

theorem State.Canon.endLoad (h : s.Canon) {k st code : Nat} : (s.endLoad k st code).Canon := h.setClu

theorem State.Canon.keepCopy (h : s.Canon) {img : List Byte} : (s.keepCopy img).Canon := h.frame

theorem State.Canon.finishLoad (h : s.Canon) {k : Nat} : (s.finishLoad k).Canon := by
  unfold State.finishLoad
  dsimp only
  split
  case h_1 => exact h.readImage.countFull.endLoad
  case h_2 hr =>
    have hu := h.readImage.recordNormal hr
    exact .ite hu.loadAll.keepCopy.endLoad hu.endLoad

theorem State.Canon.sbdPop (h : s.Canon) : s.sbdPop.Canon := h.frame

theorem State.Canon.sbdRead (h : s.Canon) {a n : Nat} : (s.sbdRead a n).2.Canon := by
  induction n generalizing s a with
  | zero => exact h
  | succ k ih => exact ih h.readWord

theorem State.Canon.sbdBegin (h : s.Canon) {seq cmd : Nat} {ch : Change} : (s.sbdBegin seq cmd ch).Canon := h.sbdPop.frame.submitChange

theorem State.Canon.mbxServe (h : s.Canon) {f : List Byte} : (s.mbxServe f).Canon := by
  unfold State.mbxServe
  dsimp only
  split
  · exact h.mbxAnswer
  · split
    · exact h.mbxAnswer
    · exact h.mbxAnswer
    · split
      · exact h.frame.submitChange
      · exact h.frame.submitChange
      · exact h.frame.submitChange
      · exact h.mbxAnswer

theorem State.Canon.bulkRead (h : s.Canon) {a n : Nat} : (s.bulkRead a n).2.Canon := by
  induction n generalizing s a with
  | zero => exact h
  | succ k ih => exact ih h.readWord

/-! ### Resets and cast-on -/

theorem State.Canon.vbatLost (h : s.Canon) : s.vbatLost.Canon := h.frame.setFl.setHw

theorem State.Canon.castRecord (h : s.Canon) {r : LogRec} : (s.castRecord r).Canon := by
  unfold State.castRecord
  split
  case h_1 ht => exact h.recordNormal ht
  case h_2 => exact h.countFull

theorem State.Canon.applyS (h : s.Canon) {p : Nat × Nat} : (s.applyS p).Canon := by
  unfold State.applyS
  split
  · exact h
  · exact h.frame

theorem State.Canon.castWarm (h : s.Canon) : s.castWarm.Canon := (h.castRecord.foldl fun _ _ ht => ht.applyS).frame

theorem State.Canon.coreUp (h : s.Canon) : s.coreUp.Canon :=
  .ite h.frame.castRecord.frame (.ite h.frame.castRecord.castWarm h.frame.castRecord.frame)

theorem State.Canon.memFails (h : s.Canon) {code : Nat} : (s.memFails code).Canon := h.frame

theorem State.Canon.applyPlain (h : s.Canon) {p : Nat × Nat} : (s.applyPlain p).Canon := by
  unfold State.applyPlain
  split
  · exact h
  · split
    · exact h.doWrite
    · exact h.doWrite

theorem State.Canon.applyEn (h : s.Canon) {p : Nat × Nat} : (s.applyEn p).Canon := by
  unfold State.applyEn
  split
  · exact h
  · split
    · exact h
    · split
      · exact h
      · exact .ite h h.doWrite

theorem State.Canon.applySeqImg {a : State × List Nat} (h : a.1.Canon) {p : Nat × List Byte} : (State.applySeqImg a p).1.Canon := by
  unfold State.applySeqImg
  dsimp only
  split
  · exact h
  · split
    · exact h.loadOne.keepCopy
    · exact h

theorem State.Canon.applyRun (h : s.Canon) {loaded : List Nat} {p : Nat × Nat} : (State.applyRun loaded s p).Canon := by
  unfold State.applyRun
  split
  · exact h
  · exact .ite h.doWrite h

theorem State.Canon.castRest (h : s.Canon) : s.castRest.Canon := by
  have ha : ∀ l : List (Nat × List Byte), (l.foldl State.applySeqImg (s.castImg.words.foldl State.applyPlain s, [])).1.Canon :=
    fun l => List.foldlRecOn (motive := fun a : State × List Nat => a.1.Canon) _ _ (h.foldl fun _ _ ht => ht.applyPlain)
      fun _ ha _ _ => ha.applySeqImg
  exact (((ha _).foldl fun _ _ ht => ht.applyEn).foldl fun _ _ ht => ht.applyRun).frame

theorem State.Canon.castCold (h : s.Canon) : s.castCold.Canon := h.frame

/-! ### The edge of the Gauge -/

theorem State.Canon.moveAudio (h : s.Canon) {w : Int} : (s.moveAudio w).Canon := h.frame

theorem State.Canon.moveFrame (h : s.Canon) {w : Int} {i : Nat} : (State.moveFrame w s i).Canon := h.setOutU

theorem State.Canon.stepGroupC (h : s.Canon) {a : Int} : (s.stepGroupC a).Canon :=
  .ite h.frame (h.frame.frame.moveAudio.foldl fun _ _ ht => ht.moveFrame)

theorem State.Canon.stepGroupB (h : s.Canon) {a : Int} : (s.stepGroupB a).Canon := .ite h.frame (.ite h.frame.recEvent h.frame)

theorem State.Canon.ppsSkip (h : s.Canon) {j : Nat} : (s.ppsSkip j).Canon := .ite h h.suppress

theorem State.Canon.stepTable (h : s.Canon) {p : Nat} : (s.stepTable p).Canon := .ite h.startSlot h

theorem State.Canon.stepLink (h : s.Canon) {l : Nat} : (s.stepLink l).Canon := .ite h.send h

theorem State.Canon.stepTsv (h : s.Canon) {amt : Int} : (s.stepTsv amt).Canon := h.frame

theorem State.Canon.stepGauge (h : s.Canon) {old : Nat} {d : Sched} : (s.stepGauge old d).Canon := h.frame

theorem State.Canon.stepEffects (h : s.Canon) {d : Sched} : (s.stepEffects d).Canon :=
  (((h.stepPosts.stepGroupB.stepGroupC.stepTsv.foldl fun _ _ ht => ht.ppsSkip).foldl
    fun _ _ ht => ht.stepTable).foldl fun _ _ ht => ht.stepLink).pmcTime.dropSched

theorem State.Canon.rowMark (h : s.Canon) : s.rowMark.Canon := .ite h.frame h

theorem State.Canon.edgeTakes (h : s.Canon) {sl : Int} : (s.edgeTakes sl).Canon :=
  (State.Canon.ite h.pulls.rowMark.sweepEdge h.pulls.rowMark.sweepEdge.pmcTime).latchBus.squelch

theorem State.Canon.edgeSamples (h : s.Canon) : s.edgeSamples.Canon := by
  unfold State.edgeSamples
  extract_lets s1
  have hs1 : s1.Canon := .ite h.sample.sample h
  exact .ite hs1.sample hs1

theorem State.Canon.plainEdge (h : s.Canon) : s.plainEdge.Canon := h.advance.edgeTakes

theorem State.Canon.stepEdgeOf (h : s.Canon) {d : Sched} : (s.stepEdgeOf d).Canon := h.advance.stepGauge.stepEffects.edgeTakes

theorem State.Canon.gEdge (h : s.Canon) : s.gEdge.Canon := by
  unfold State.gEdge
  split
  · exact h.plainEdge
  · exact .ite h.stepEdgeOf h.plainEdge

end Sys2Proof.Machine
end

section
/-! PROOFS. Canonical memories after every command (`exec_canon`). -/

namespace Sys2Proof.Machine

variable {s : State} {q : Seq}

/-! ### Integer instructions -/

theorem Seq.Canon.addTo (h : q.Canon) {gd : Nat} {a b : Word} {c : Bool} : (q.addTo gd a b c).Canon := h.setG.zn.cvAdd

theorem Seq.Canon.cmpFlags (h : q.Canon) {a b : Word} {borrow : Bool} : (q.cmpFlags a b borrow).Canon := h.zn.cvSub

theorem Seq.Canon.subTo (h : q.Canon) {gd : Nat} {a b : Word} {borrow : Bool} : (q.subTo gd a b borrow).Canon := h.setG.cmpFlags

theorem Seq.Canon.logTo (h : q.Canon) {gd : Nat} {r : Word} : (q.logTo gd r).Canon := h.setG.zn

theorem Seq.Canon.shlTo (h : q.Canon) {gd : Nat} {a : Word} {k : Nat} : (q.shlTo gd a k).Canon := h.logTo.cShl

theorem Seq.Canon.shrTo (h : q.Canon) {gd : Nat} {a : Word} {k : Nat} : (q.shrTo gd a k).Canon := h.logTo.cShr

theorem Seq.Canon.sarTo (h : q.Canon) {gd : Nat} {a : Word} {k : Nat} : (q.sarTo gd a k).Canon := h.logTo.cShr

/-! ### Memory and accumulator instructions -/

theorem State.Canon.loadOp (h : s.Canon) {n w : Nat} {md : MD} {f : Seq → Seq} (hf : ∀ t, t.Canon → (f t).Canon) :
    (s.loadOp n w md f).Canon :=
  h.memOp fun _ ht => (hf _ ht).postMod

theorem State.Canon.storeOp (h : s.Canon) {n w : Nat} {md : MD} {v : Seq → Nat} {f : Seq → Seq}
    (hf : ∀ x, x.Canon → (f x).Canon) : (s.storeOp n w md v f).Canon :=
  h.memOp fun _ ht => (hf _ (ht.setMem (memWf_put _ _ _ (ht.memOf _)))).postMod

theorem State.Canon.satHit (h : s.Canon) {n w : Nat} {v : Int} {sat : Bool} : (s.satHit n w v sat).Canon := .ite h.pmcSeq h

theorem State.Canon.storeAcc (h : s.Canon) {n w : Nat} {md : MD} {acc : Sys2Proof.Acc} {k : Nat} {sat : Bool} :
    (s.storeAcc n w md acc k sat).Canon :=
  (h.storeOp (fun _ ht => ht.storeFlags)).satHit

theorem Seq.Canon.accTo (h : q.Canon) {a : Sys2Proof.Acc} {v : Int} : (q.accTo a v).Canon := h.setAcc.znAcc.vAcc

theorem Seq.Canon.mulAcc (h : q.Canon) {kind : MulKind} {a : Sys2Proof.Acc} {p : Int} : (q.mulAcc kind a p).Canon := h.setAcc.vAcc

theorem Seq.Canon.mulMem (h : q.Canon) {kind : MulKind} {m : MulMem} : (q.mulMem kind m).Canon := by
  unfold Seq.mulMem
  dsimp only
  split
  · split
    · refine .postMod (.postMod (.postMod ?_))
      split
      · exact h.mulAcc
      · exact h.mulAcc.setG
    · refine .postMod (.postMod ?_)
      split
      · exact h.mulAcc
      · exact h.mulAcc.setG
  · refine .postMod (.postMod ?_)
    split
    · exact h.mulAcc
    · exact h.mulAcc.setG

theorem State.Canon.mulMemOp (h : s.Canon) {n : Nat} {kind : MulKind} {m : MulMem} : (s.mulMemOp n kind m).Canon :=
  h.memOp fun _ ht => ht.mulMem

theorem State.Canon.mulRegOp (h : s.Canon) {n : Nat} {kind : MulKind} {m : MulReg} : (s.mulRegOp n kind m).Canon :=
  h.alu fun _ ht => ht.mulAcc

theorem Seq.Canon.repeatNext (h : q.Canon) {cnt : Nat} : (q.repeatNext cnt).Canon := .ite h.frame.advance h.frame.frame

theorem State.Canon.rptOp (h : s.Canon) {n : Nat} {cnt : Seq → Nat} : (s.rptOp n cnt).Canon :=
  h.issue fun _ ht => ht.setSq ht.sq.repeatNext

theorem Seq.Canon.repeatBlock (h : q.Canon) {cnt e : Nat} : (q.repeatBlock cnt e).Canon := .ite h.frame.advance h.frame

theorem State.Canon.rptbOp (h : s.Canon) {n eofs : Nat} {cnt : Seq → Nat} : (s.rptbOp n eofs cnt).Canon :=
  h.issue fun _ ht => ht.setSq ht.sq.repeatBlock

/-! ### Time and port instructions -/

theorem State.Canon.portOp (h : s.Canon) {n : Nat} {illegal : Bool} {bad : Option Trap} {f : State → State}
    (hf : ∀ t, t.Canon → (f t).Canon) :
    (s.portOp n illegal bad f).Canon :=
  h.issue fun _ ht => hf _ (ht.setSq ht.sq.retire)

theorem State.Canon.onSeq (h : s.Canon) {n : Nat} {f : Seq → Seq} (hf : ∀ t, t.Canon → (f t).Canon) :
    (s.onSeq n f).Canon :=
  h.setSq (hf _ h.sq)

theorem Seq.Canon.setGs (h : q.Canon) {k : Nat} {l : List Word} : (q.setGs k l).Canon := by
  induction l generalizing q k with
  | nil => exact h
  | cons w r ih => exact ih h.setG

theorem State.Canon.postEvent (h : s.Canon) {n : Nat} {e : Ev} : (s.postEvent n e).Canon :=
  .ite (h.onSeq (fun _ ht => ht.frame)).bump (h.setClu.onSeq (fun _ ht => ht.frame))

theorem State.Canon.gadjFreq (h : s.Canon) {n : Nat} {f : Int} : (s.gadjFreq n f).Canon := .ite h.stepRes (.ite h.frame h.stepRes)

theorem State.Canon.gadjPhase (h : s.Canon) {n : Nat} {amt : Int} : (s.gadjPhase n amt).Canon := by
  unfold State.gadjPhase
  split
  · exact h.takeSlew
  · exact h.status

theorem Seq.Canon.passMsg (h : q.Canon) {k len : Nat} {inc : Bool} : (q.passMsg k len inc).Canon := .ite h.setX h

theorem State.Canon.takeMsg (h : s.Canon) {n port : Nat} {m : Msg} : (s.takeMsg n port m).Canon := by
  unfold State.takeMsg
  dsimp only
  split
  · exact .ite h.postOp h
  · exact .ite h.disqOp h
  · exact .ite h.startMsg h
  · exact .ite h.stopChan h
  · exact .ite h.updateMsg h
  · exact h.setInd
  · exact h.clrInd
  · exact .ite h.peersendOp h
  · exact h.fetchOp
  · exact h.outrowOp
  · exact h.psendOp
  · exact h

theorem Seq.Canon.takeInbox (h : q.Canon) {port k : Nat} {inc : Bool} : (q.takeInbox port k inc).Canon := by
  unfold Seq.takeInbox
  split
  · exact h.frame
  · extract_lets d
    have hd : memWf d = true := memWf_putWords (f := id) h.dMem
    exact (h.setD hd).frame.passMsg

theorem State.Canon.recvOp (h : s.Canon) {n port k : Nat} {inc : Bool} : (s.recvOp n port k inc).Canon :=
  h.portOp (fun _ ht => ht.onSeq (fun _ ht => ht.takeInbox))

theorem State.Canon.mailOp (h : s.Canon) {n d : Nat} {m : Msg} : (s.mailOp n d m).Canon := by
  have hc : ∀ (b : Bool) (t : State), t.Canon → (t.onSeq n fun q => { q with c := b }).Canon :=
    fun _ _ ht => ht.onSeq fun _ hq => hq.frame
  exact .ite (hc _ _ h) (.ite (hc _ _ h.deliver) (.ite (hc _ _ h).deliver (hc _ _ h)))

/-! ### Single fields written -/

theorem State.Canon.submitBit (h : s.Canon) {q : Requester} {r : RegName} {b : Nat} {v : Bool} {i j : Nat} :
    (s.submitBit q r b v i j).Canon :=
  h.submit

theorem State.Canon.submitObj (h : s.Canon) {r : Requester} {obj : AudObj} {en : Bool} : (s.submitObj r obj en).Canon := by
  unfold State.submitObj
  split
  · exact h.submitBit
  · exact h.submitBit
  · exact h.submitBit
  · exact h.submitBit

/-! ### What time brings by itself -/

theorem State.Canon.rowOf (h : s.Canon) {f : State → State} (hf : ∀ t, t.Canon → (f t).Canon) :
    Res.Canon (rowOf f s) :=
  hf _ h

theorem State.Canon.acqLimit (h : s.Canon) : s.acqLimit.Canon := .ite h.acqDone h

theorem State.Canon.seqCorrs (h : s.Canon) : s.seqCorrs.Canon := h.foldl fun _ _ ht => .ite ht ht.bump

theorem State.Canon.wTick (h : s.Canon) : s.wTick.Canon := h.frame.afterGate

/-! ### The commands whose proof is a case split -/

theorem execHoldExpiry_canon (h : s.Canon) : Res.Canon (execHoldExpiry s) := by
  unfold execHoldExpiry
  split
  · exact h
  · exact .ite h.dropHeld h

theorem execCommitRequest_canon (h : s.Canon) : Res.Canon (execCommitRequest s) := by
  unfold execCommitRequest
  split
  · exact h
  · exact .ite (.ite h.frame.refuseUnrecorded h.frame.enqueue) h

theorem execCommitAuditTimeout_canon (h : s.Canon) : Res.Canon (execCommitAuditTimeout s) := by
  unfold execCommitAuditTimeout
  split
  · exact h
  · split
    · exact h
    · exact .ite h.outcome h

theorem execHostsetQualify_canon (h : s.Canon) : Res.Canon (execHostsetQualify s) := by
  unfold execHostsetQualify
  split
  · exact h
  · exact .ite h.enterQual h

theorem execGrpcSnap_canon (h : s.Canon) : Res.Canon (execGrpcSnap s) := by
  unfold execGrpcSnap
  split
  · exact h
  · exact .ite h.frame h

theorem execTodMessage_canon (h : s.Canon) {j : Fin 2} : Res.Canon (execTodMessage j s) := by
  unfold execTodMessage
  dsimp only
  split
  · exact h.todBits
  · exact .ite h.todBits.setOutU.todStart h.todBits

theorem execWclkRealign_canon (h : s.Canon) {j : Fin 2} : Res.Canon (execWclkRealign j s) := by
  unfold execWclkRealign
  dsimp only
  split
  · exact h
  · exact .ite h.setOutU h

theorem execTdcTimeout_canon (h : s.Canon) {c : Fin 24} : Res.Canon (execTdcTimeout c s) := by
  unfold execTdcTimeout
  split
  · split
    · exact h
    · exact h.rearm.emit
  · exact h

theorem execIndicatorClear_canon (h : s.Canon) {b : Fin 4} : Res.Canon (execIndicatorClear b s) := by
  unfold execIndicatorClear
  split
  · exact .ite h.frame.indCheck h
  · exact h

theorem execWdk_canon (h : s.Canon) {n : Fin 160} : Res.Canon (execWdk n s) := by
  unfold execWdk
  refine h.issue fun _ ht => ?_
  extract_lets t1
  have ht1 : t1.Canon := .ite ht ht.kick
  exact ht1.setSq ht1.sq.retire

theorem execRet_canon (h : s.Canon) {n : Fin 160} : Res.Canon (execRet n s) := by
  unfold execRet
  refine h.branch fun _ ht => ?_
  split
  · exact ht
  · exact ht.frame.jump

theorem execGadj_canon (h : s.Canon) {n : Fin 160} {gk : Fin 16} {f p : Bool} : Res.Canon (execGadj n gk f p s) := by
  unfold execGadj
  refine h.portOp fun _ ht => ?_
  extract_lets t1
  have ht1 : t1.Canon := .ite ht.gadjFreq ht
  exact .ite ht1.gadjPhase ht1

theorem execSyncInstant_canon (h : s.Canon) {p : Fin 8} {n : Option (Fin 4096)} : Res.Canon (execSyncInstant p n s) := by
  unfold execSyncInstant
  split
  · exact h.mcastOp fun _ _ _ ht => ht.sendSync
  · exact h.ucastOp fun _ _ _ _ ht => ht.sendSync

theorem execAnnounceInstant_canon (h : s.Canon) {p : Fin 8} {n : Option (Fin 4096)} : Res.Canon (execAnnounceInstant p n s) := by
  unfold execAnnounceInstant
  split
  · exact h.mcastOp fun _ _ _ ht => ht.sendAnn
  · exact h.ucastOp fun _ _ _ _ ht => ht.sendAnn

theorem execFollowUpLaunch_canon (h : s.Canon) {p : Fin 8} : Res.Canon (execFollowUpLaunch p s) := by
  unfold execFollowUpLaunch
  dsimp only
  split
  · exact h.txDone
  · exact .ite h.txDone.setEp h.txDone.setEp

theorem execGrantExpiry_canon (h : s.Canon) {n : Fin 4096} {k : GrantKind} : Res.Canon (execGrantExpiry n k s) := by
  unfold execGrantExpiry
  split
  · exact h
  · split
    · exact h
    · exact .ite h.putSess h

theorem execUnicastRenew_canon (h : s.Canon) {p : Fin 8} {u : Fin 4} {k : GrantKind} : Res.Canon (execUnicastRenew p u k s) := by
  unfold execUnicastRenew
  split
  · exact .ite h.ask h
  · exact .ite h.setClient (.ite h.ask h)

theorem execNtsRotation_canon (h : s.Canon) : Res.Canon (execNtsRotation s) := by
  unfold execNtsRotation
  split
  · exact h
  · exact .ite h.frame h

theorem execStreamPacketLaunch_canon (h : s.Canon) {i : Fin 512} : Res.Canon (execStreamPacketLaunch i s) := by
  unfold execStreamPacketLaunch
  split
  · exact .ite h.launchRtp h
  · exact h

theorem execAes3FrameSend_canon (h : s.Canon) {p : Fin 16} : Res.Canon (execAes3FrameSend p s) := by
  unfold execAes3FrameSend
  split
  · exact .ite h.aesInstant h
  · exact h

theorem execZeroCrossingApply_canon (h : s.Canon) {obj : AudObj} {ch : Nat} : Res.Canon (execZeroCrossingApply obj ch s) := by
  unfold execZeroCrossingApply
  split
  · exact h
  · split
    · exact h.applyWait
    · exact h

theorem execZcTimeout_canon (h : s.Canon) {obj : AudObj} {ch : Nat} : Res.Canon (execZcTimeout obj ch s) := by
  unfold execZcTimeout
  split
  · exact h
  · exact .ite h.applyWait.bump.pmcAud h

theorem execBiquadCommit_canon (h : s.Canon) {r : Requester} {c : Fin 1024} {bq : BiquadNo} {a2 : Word} :
    Res.Canon (execBiquadCommit r c bq a2 s) := by
  unfold execBiquadCommit
  split
  · exact h.submit
  · exact h.submit

theorem execKeyParamWrite_canon (h : s.Canon) {r : Requester} {k : KeyParam} {v : Word} :
    Res.Canon (execKeyParamWrite r k v s) := by
  cases k with
  | attr | ctx | data => exact h.submit

theorem execFuseBlowDone_canon (h : s.Canon) : Res.Canon (execFuseBlowDone s) := by
  unfold execFuseBlowDone
  split
  · exact h.blown
  · exact h

theorem execRtjumpClear_canon (h : s.Canon) {l : Fin 4} : Res.Canon (execRtjumpClear l s) := by
  unfold execRtjumpClear
  split
  · exact h
  · exact .ite h.setLink.stlCheck.linkSay h

theorem execTwinAliveEdge_canon (h : s.Canon) : Res.Canon (execTwinAliveEdge s) := by
  unfold execTwinAliveEdge
  split
  · exact h
  · exact .ite h.frame.setRole h

theorem execMirrorApply_canon (h : s.Canon) : Res.Canon (execMirrorApply s) := by
  unfold execMirrorApply
  split
  · exact h
  · split
    · exact h
    · exact .ite h.releaseNext.afterGate (.ite h.frame.refuseUnrecorded.afterGate h)

theorem execTwinSyncRequest_canon (h : s.Canon) : Res.Canon (execTwinSyncRequest s) := by
  unfold execTwinSyncRequest
  split
  · exact .ite h h.frame.send
  · exact .ite h h.frame.send
  · exact h.send
  · exact h

theorem execTwinSyncApply_canon (h : s.Canon) {ws : List AddrWord} {d : SyncData} : Res.Canon (execTwinSyncApply ws d s) := by
  unfold execTwinSyncApply
  split
  · exact h.syncApply.twinDecide
  · exact h.syncApply.twinDecide
  · exact h

theorem execHandoverInstant_canon (h : s.Canon) : Res.Canon (execHandoverInstant s) := by
  unfold execHandoverInstant
  split
  · exact .ite h.frame.setRole h
  · exact .ite h.setRole h
  · exact h

theorem execSweepDone_canon (h : s.Canon) : Res.Canon (execSweepDone s) := by
  unfold execSweepDone
  split
  · exact h
  · exact .ite h.endSweep h

theorem execMbxResponse_canon (h : s.Canon) : Res.Canon (execMbxResponse s) := by
  unfold execMbxResponse
  split
  · exact h
  · exact .ite h.mbxServe h

theorem execTimeWaitDue_canon (h : s.Canon) {n : Fin 160} : Res.Canon (execTimeWaitDue n s) := by
  unfold execTimeWaitDue
  split
  · exact .ite (h.onSeq (fun _ ht => ht.wakeSeq)) h
  · exact h

/-- A command ends with canonical memories: commands of one shape by one argument, an argument a line. -/
theorem exec_canon (i : Instr) (h : s.Canon) : Res.Canon (exec i s) := by
  cases i with
  | registerWrite | wideWrite | seqmemWrite => exact h.writeAccess
  | lowWordRead | rcRead | logTailRead | logTail2Read | gauSnapRead | ethTxtsPop => exact h.readCmd
  | epochBoundaryApply => exact .ite h.boundaryOp h
  | auditRecordWrite => exact h.recordNext.afterGate
  | gateRelease => exact h.releaseNext.afterGate
  | auditBusyTimeout => exact h.auditBusyOp.afterGate
  | deferredRecord => exact .ite h.recordOwed h
  | logAck | slewAmtWrite | stepAtWrite | stepAck | hostsetWrite | spiTransaction | seqRun | unfence | imageLoad | rowLiveWrite |
    ntsRotAtWrite | triggerArm | nodeWrite | keyGenerate | keyImport | keyUnwrap | keyDerive | keyInvalidate | keyZeroize | fuseArm |
    fuseDebugClose | fuseOwnerLock | fuseOwnerKeyHash | fuseRollback | reportRequest | relinqCommand | handoverRequest | injectGo |
    recClrAll | recClrCnt | recSnap | unitClr | unitMeasWrite | pmcCounterWrite | topOwnerWrite | dmaDoorbell | mbxGo | mbxAck |
    spareGo | castGo | topConfigSave | topConfigSelect | topBindoffGo => exact h.submit
  | wardenRestart => exact .ite (.ite (.ite h.frame.recordOwed.castStart h.frame.recordOwed) h.frame) h
  | heartbeatTimeout => exact .ite h.enterHoldover h
  | holdoverMsTick => exact .ite h.fire.msTick h
  | stepEdge => exact .ite h.gEdge h
  | stepCancel | candidateEnable | grpcSnapWrite | outputEnable | wclkRealignWrite | channelEnable | acqGo | acqCancel | swatchGo |
    swatchAbort | seqStop | rowSwapRequest | ntsRetire | audStop | twinEnable | resume | injectCancel | sweepGo => exact h.submitBit
  | witnessRelease => exact h.witnessTest
  | holdExpiry => exact execHoldExpiry_canon h
  | guardBreach => exact .ite (.ite h.restart h.openBreach) h
  | breachWitnessClose => exact .ite h.closeBreach h
  | guardWindowRestart => exact .ite h.fire.restart h
  | leapSecond => exact .ite h.setFl.setFl h
  | candidateObservation => exact .ite h h.edgeObs
  | candidateLoss => exact .ite h.disqualify.determine h
  | selSecond => exact .ite (h.fire.foldl fun _ _ ht => ht.candSecond).disputes.driftTest.indCheck.determine h
  | candidateQualify => exact .ite h.enterQual h
  | commitRequest => exact execCommitRequest_canon h
  | switchCommit | fselChange => exact h.releaseIf
  | commitAuditTimeout => exact execCommitAuditTimeout_canon h
  | hostsetQualify => exact execHostsetQualify_canon h
  | post => exact .ite h.postOp h
  | disq => exact .ite h.disqOp h
  | hldSecond => exact .ite h.fire.hldSec h
  | atomPpsEdge | mirrorConfirmTimeout | injectExpiry | gaugeStart | pcieLinkUp => exact .ite h.frame h
  | grpcSnap => exact execGrpcSnap_canon h
  | ppsPulse => exact .ite h.ppsTrail.ppsLead h.ppsTrail
  | todMessage => exact execTodMessage_canon h
  | wclkRealign => exact execWclkRealign_canon h
  | squelchRelease => exact .ite (.ite h.clockRow h) (.ite h h.setOutU)
  | tdcEdge => exact h.srcEdge.selEdge
  | tdcTimeout => exact execTdcTimeout_canon h
  | calInjection => exact .ite h (.ite h.bump h.setCalU.inject)
  | calPassExpiry => exact .ite h.newPass.bump h
  | tableSwap => exact .ite h.swapTable h
  | tensionVisitEnd => exact .ite h.endVisit h
  | feClockLost => exact .ite h.setFe.feDeclare h
  | feSecond => exact .ite h.fire.feSecondOp h
  | spiDone => exact .ite h.spiRx.frame.setHw.setHw h
  | start => exact .ite h.startMsg h
  | stop => exact .ite h.stopChan h
  | channelTrack => exact .ite h.setChan h
  | update => exact .ite h.updateMsg h
  | dumpBoundary => exact .ite h.dumpOp h
  | acqJobDone => exact .ite h.acqDone h
  | measurementLatch => exact .ite h.fire.latchOp h
  | swatchStart => exact .ite h.beginSwatch h
  | swatchEnd => exact .ite h.endSwatch (.ite h.endSwatch h)
  | setind => exact .ite h.setInd h
  | clrind => exact .ite h.clrInd h
  | indicatorClear => exact execIndicatorClear_canon h
  | seqStart => exact .ite h.beginSeq h
  | watchdogExpiry => exact .ite (h.setSq (.ite h.sq.frame h.sq.frame)).fault h
  | schedEventDue => exact h.eventDue
  | imageLoadDone => exact .ite h (.ite h.endLoad (.ite h.finishLoad h))
  | nop => exact h.alu fun _ ht => ht
  | wdk => exact execWdk_canon h
  | clrs => exact h.alu fun _ ht => ht.frame
  | ret => exact execRet_canon h
  | rdid | ldi | lui | ldil | mvfa | exp => exact h.alu fun _ ht => ht.setG
  | b | br => exact h.branch fun _ ht => ht.jump
  | bcc => exact .ite (h.branch (fun _ ht => ht.jump)) (h.issue (fun _ ht => ht.setSq ht.sq.retire))
  | call => exact h.branch fun _ ht => ht.frame.jump
  | add | addc | addi => exact h.alu fun _ ht => ht.addTo
  | sub | subb | neg => exact h.alu fun _ ht => ht.subTo
  | and | or | xor | min | max | mov | not | andi | ori | xori => exact h.alu fun _ ht => ht.logTo
  | cmp | cmpi => exact h.alu fun _ ht => ht.cmpFlags
  | tst => exact h.alu fun _ ht => ht.zn
  | shl | shli => exact h.alu fun _ ht => ht.shlTo
  | shr | shri => exact h.alu fun _ ht => ht.shrTo
  | sar | sari => exact h.alu fun _ ht => ht.sarTo
  | abs => exact h.alu fun _ ht => ht.logTo.frame
  | ldx | mvta => exact h.alu fun _ ht => ht.setAx
  | lea => exact h.memOp fun _ ht => ht.postMod
  | ldw | ldh | ldhu => exact h.loadOp fun _ ht => ht.setG
  | stw | sth => exact h.storeOp fun _ ht => ht
  | lda => exact h.loadOp fun _ ht => ht.setAcc.znAcc
  | addm => exact h.loadOp fun _ ht => ht.setAcc.znAcc.vAcc
  | st16 | st32 => exact h.storeAcc
  | rda => exact (h.memOp (fun _ ht => ht.setG.storeFlags)).satHit
  | clr => exact h.alu fun _ ht => ht.setAcc
  | acmb | adda | suba | nega => exact h.alu fun _ ht => ht.accTo
  | mvga | sara => exact h.memOp fun _ ht => ht.setAcc.znAcc
  | addga | shla => exact h.memOp fun _ ht => ht.accTo
  | norm => exact h.alu fun _ ht => ht.setG.setAcc.frame
  | mac | msu | mpy => exact h.mulMemOp
  | macr | msur | mpyr => exact h.mulRegOp
  | rpt | rptReg => exact h.rptOp
  | rptb | rptbReg => exact h.rptbOp
  | grd => exact h.portOp (fun _ ht => ht.onSeq (fun _ ht => ht.setGs))
  | waitt => exact h.issue (fun _ ht => ht.onSeq (fun _ ht => .ite ht.frame.retire ht.frame))
  | sched => exact h.portOp fun _ ht => ht.postEvent
  | gadj => exact execGadj_canon h
  | gstep => exact h.portOp fun _ ht => ht.submitChange
  | gbnd => exact h.portOp fun _ ht => ht.gbnd
  | chsend => exact h.portOp (fun _ ht => (ht.onSeq (fun _ ht => ht.passMsg)).takeMsg)
  | chrecv | mbrecv => exact h.recvOp
  | mbsend => exact h.portOp (fun _ ht => (ht.onSeq (fun _ ht => ht.passMsg)).mailOp)
  | rdreg => exact h.portOp (fun _ ht => ht.readWord.onSeq (fun _ ht => ht.setG))
  | wrreg => exact h.issue (fun _ ht => (ht.onSeq (fun _ ht => ht.frame)).writeAccess)
  | linkDown => exact h.setLinkUp
  | linkUp => exact .ite h.setLinkUp h
  | frameReceive => exact .ite h.receiveFrame h
  | pauseRepeat => exact h.pauseCheck.foldl fun _ _ ht => .ite ht.queuePause ht
  | pauseReceive => exact .ite h (.ite h.pauseOp h.bump.pmcEth)
  | pauseExpiry => exact .ite h h.setEp
  | preemptVerify => exact .ite h.verifyStep h
  | launchDecision => exact h.decide_
  | txStampStore => exact h.storeStamp
  | rowCycleStart => exact .ite h.fire.trySwap.cycleStart h
  | slotStart => exact .ite h.startSlot h
  | ethMarker => exact .ite h.draw.draw.setEp.markStamp.pmcEth h
  | syncInstant => exact execSyncInstant_canon h
  | announceInstant => exact execAnnounceInstant_canon h
  | delayReqInstant | pdelayReqInstant => exact .ite h.fire.nextSeq.sendPtp h
  | followUpLaunch => exact execFollowUpLaunch_canon h
  | ptpMessageReceive | unicastRequest | unicastCancel => exact h.ptpTake
  | ptpSecond => exact .ite (.ite (h.fire.frame.decideAll.foldl (fun _ _ ht => ht.setInst)) h.fire.frame) h
  | foreignMasterTimeout => exact h.setInst
  | grantExpiry => exact execGrantExpiry_canon h
  | unicastRenew => exact execUnicastRenew_canon h
  | unicastRetry => exact .ite h.ask h
  | ntpRequest => exact .ite (h.tsvTake (fun _ _ ht => ht.frame.ntpOp)) h
  | ntsRequest => exact .ite (h.tsvTake (fun _ _ ht => .ite ht ht.ntsOp)) h
  | mintRequest => exact .ite h.mintOp h
  | ntsRotation => exact execNtsRotation_canon h
  | rowStart => exact .ite h.fire.startRow h
  | streamPacketReceive => exact h.audTake
  | streamPacketLaunch => exact execStreamPacketLaunch_canon h
  | aes3FrameReceive => exact .ite h.aesFrame h
  | aes3UnlockTimeout | aes3AsrcLoss => exact .ite h.aesGone h
  | aes3AsrcRun => exact .ite h.aesRun h
  | aes3FrameSend => exact execAes3FrameSend_canon h
  | outrow => exact .ite h (.ite h.trap (.ite h.trap h.outrowOp))
  | stripDeadline => exact .ite h.stripRow h
  | delayLineDeadline => exact .ite h.fire.frame.bump h
  | zeroCrossingApply => exact execZeroCrossingApply_canon h
  | zcTimeout => exact execZcTimeout_canon h
  | streamEnable | streamDisable => exact h.submitObj
  | stopComplete => exact h.completeObj
  | triggerFire => exact .ite h.fireTrig h
  | fetch => exact .ite h (.ite h.trap h.fetchOp)
  | mixRowUpdate => exact .ite (h.planRow.foldl (fun _ _ ht => ht.sendUpds)) h
  | biquadCommit => exact execBiquadCommit_canon h
  | meterBlockEnd => exact .ite h.endMeters h
  | psend => exact .ite h (.ite h.trap (.ite h.trap h.psendOp))
  | partialSumSlot => exact (State.Canon.ite (h.foldl fun _ _ ht => ht.crossLink) h).foldl fun _ _ ht => ht.precv
  | keyParamWrite => exact execKeyParamWrite_canon h
  | keySweep => exact .ite (h.fire.foldl fun _ _ ht => ht.checkSlot) h
  | tamperTrigger => exact .ite h.frame.zeroize.recordDeferred h
  | fuseBlowDone => exact execFuseBlowDone_canon h
  | jtagSession => exact .ite h h.frame.recordDeferred
  | reportSigned => exact .ite h.setAttSlot h
  | stlFrameStart => exact .ite h.fire.frameStart h
  | markerReceive => exact .ite h.markerOp h
  | stlLockLoss => exact h.lockLoss
  | rtjumpClear => exact execRtjumpClear_canon h
  | peersend => exact .ite h (.ite h.trap h.peersendOp)
  | pairTimeout => exact .ite h.setRole h
  | relinquishBlockReceive => exact .ite h.takeover h
  | twinAliveEdge => exact execTwinAliveEdge_canon h
  | mirrorWriteReceive => exact .ite h.twinWord h
  | mirrorApply => exact execMirrorApply_canon h
  | twinSyncRequest => exact execTwinSyncRequest_canon h
  | twinSyncApply => exact execTwinSyncApply_canon h
  | twinStateUpdate => exact .ite h.takeTwinUpdate h
  | twinSecond => exact .ite h.fire.twinSecondOp h
  | rowDigestReceive => exact .ite h.digestOp h
  | handoverInstant => exact execHandoverInstant_canon h
  | cmpVoteLow => exact .ite h.fault h
  | faultAssert => exact .ite h.assert h
  | faultInactive => exact h.setFsrc
  | aliveToggle => exact .ite h.frame.fire.send h
  | recorderCommit => exact h.commitRec
  | sweepPeriodic => exact .ite (.ite h.fire.bump h.fire.startSweep) h
  | sweepDone => exact execSweepDone_canon h
  | instructionSample => exact .ite h.takeInsSample h
  | dmaTx => exact h.dmaOp fun _ _ ht => ht.dmaTxOp
  | dmaRx => exact h.dmaRxOp
  | dmaCopyIn => exact h.dmaOp fun _ _ ht => ht.copyIn
  | dmaCopyOut => exact h.dmaOp fun _ _ ht => ht.copyOut
  | dmaBulkWr => exact h.dmaOp fun _ _ ht => .ite ht.dmaBytes.submitChange ht.dmaResult
  | dmaBulkRd => exact h.dmaOp fun _ _ ht => .ite ht.bulkRead.send.dmaBytes.dmaResult ht.dmaResult
  | dmaComplete => exact .ite h.dmaFinish h
  | mbxResponse => exact execMbxResponse_canon h
  | sidebandFrame => exact .ite h.sbdFrame h
  | uartFrameGap | tamperConditionEnd | pcieLinkDown => exact h.frame
  | read => exact .ite h.sbdPop.sbdRead.sbdSend h
  | write => exact .ite h.sbdPop.frame.sbdDrive h
  | info => exact .ite h.sbdPop.sbdSend h
  | configSave | configSelect | bindoff => exact .ite h.sbdBegin h
  | setdasa | entdaa | rstdaa | setmwl | setmrl | enec | disec => exact h.i3c
  | getstatus => exact .ite h.send h
  | scrubPass => exact .ite (h.foldl fun _ _ ht => ht.addErr).scrub h
  | spareCopyDone => exact .ite h.frame.irq h
  | starveLimit => exact .ite h.setHw.irq h
  | resetAssert => exact h.aonReset
  | resetRelease => exact .ite h (.ite h.frame.vbatLost h.frame)
  | huacheraRun => exact .ite (.ite h.frame.recordOwed.castStart h.frame.recordOwed) h
  | pwrgoodFall => exact (State.Canon.ite h.fault h).coreReset.frame
  | pwrgoodRise => exact .ite h (.ite h.frame.castStart h.frame)
  | xoPresent => exact .ite h.frame.castStart h.frame
  | coreResetRelease => exact .ite (.ite h.coreUp h.frame) h
  | memTrainDone => exact .ite (.ite h.frame.memFails h.frame) h
  | memSelftestDone => exact .ite (.ite (.ite h.frame.castRest h.frame.castCold) h.memFails) h
  | configSaveDone => exact h.frame.saveDone.afterGate
  | bindoffDone => exact h.bindDone
  | atomPpsTimeout => exact .ite h h.frame
  | postLifetimeExpiry => exact h
  | timeWaitDue => exact execTimeWaitDue_canon h
  | vbatLoss => exact h.frame.setFl
  | aonSupplyRemoval => exact h.aonReset.frame
  | stlBadSyncHeaders => exact .ite h.pmcStl.linkEnd h

end Sys2Proof.Machine
end

section
/-! PROOFS. Canonical memories after a step: of the rows that time brings, of a tick, and of the block (O57). -/

namespace Sys2Proof.Machine

section

variable {s : State}

/-- A row takes every state with canonical memories to such a state. -/
def RowKeeps (f : State → Res) : Prop := ∀ s : State, s.Canon → Res.Canon (f s)

theorem exec_keeps (i : Instr) : RowKeeps (exec i) := fun _ h => exec_canon i h

theorem rowOf_keeps {f : State → State} (hf : ∀ s : State, s.Canon → (f s).Canon) : RowKeeps (rowOf f) := hf

theorem State.Canon.happens (h : s.Canon) {f : State → Res} (hf : RowKeeps f) : (s.happens f).Canon := by
  have hr := hf s h
  unfold State.happens
  split
  case h_1 he => rwa [he] at hr
  case h_2 => exact h

/-- Each row of a group does. -/
def RowsKeep (l : List (State → Res)) : Prop := ∀ f ∈ l, RowKeeps f

theorem RowsKeep.nil : RowsKeep [] := List.forall_mem_nil _

theorem RowsKeep.cons {f : State → Res} {l : List (State → Res)} (hf : RowKeeps f) (hl : RowsKeep l) : RowsKeep (f :: l) :=
  List.forall_mem_cons.mpr ⟨hf, hl⟩

theorem RowsKeep.append {l m : List (State → Res)} (hl : RowsKeep l) (hm : RowsKeep m) : RowsKeep (l ++ m) :=
  List.forall_mem_append.mpr ⟨hl, hm⟩

theorem RowsKeep.map {α : Type} {f : α → State → Res} {l : List α} (hf : ∀ a, RowKeeps (f a)) : RowsKeep (l.map f) :=
  List.forall_mem_map.mpr fun a _ => hf a

theorem RowsKeep.flatMap {α : Type} {f : α → List (State → Res)} {l : List α} (hf : ∀ a, RowsKeep (f a)) :
    RowsKeep (l.flatMap f) :=
  List.forall_mem_flatMap.mpr fun a _ => hf a

theorem RowsKeep.ite {c : Prop} {_ : Decidable c} {l m : List (State → Res)} (hl : RowsKeep l) (hm : RowsKeep m) :
    RowsKeep (if c then l else m) := by
  split
  · exact hl
  · exact hm

/-- A list of commands is a list of rows. -/
theorem RowsKeep.execs (is : List Instr) : RowsKeep (is.map exec) := .map exec_keeps

theorem State.Canon.group (h : s.Canon) {g : State → List (State → Res)} (hg : RowsKeep (g s)) : (s.group g).Canon :=
  List.foldlRecOn (g s) State.happens h fun _ ht f hf => ht.happens (hg f hf)

theorem snapRows_keep : RowsKeep snapRows := .execs [.grpcSnap, .wclkRealign 0, .wclkRealign 1]

theorem boundaryRows_keep : RowsKeep boundaryRows :=
  .append (.execs [.epochBoundaryApply .second, .epochBoundaryApply .row]) (.map fun j => exec_keeps (.epochBoundaryApply (.pulse j)))

theorem holdRows_keep : RowsKeep holdRows := .execs [.hldSecond, .holdoverMsTick]

theorem lossRows_keep : RowsKeep lossRows :=
  .append (.map fun k => exec_keeps (.candidateLoss k)) (.execs [.selSecond, .commitRequest])

theorem gateRows_keep (s : State) : RowsKeep (gateRows s) :=
  .append (.ite .nil (.execs [.auditRecordWrite, .gateRelease, .mirrorApply, .auditBusyTimeout])) (.execs [.deferredRecord])

theorem qualifyRows_keep : RowsKeep qualifyRows :=
  .append (.append (.execs [.commitAuditTimeout]) (.map fun k => exec_keeps (.candidateQualify k))) (.execs [.hostsetQualify])

theorem gaugeRows_keep : RowsKeep gaugeRows :=
  .append (.execs [.heartbeatTimeout, .witnessRelease, .holdExpiry, .guardBreach, .breachWitnessClose, .guardWindowRestart, .leapSecond])
    (.cons (rowOf_keeps fun _ h => h.latchBus) (.cons (rowOf_keeps fun _ h => h.edgeSamples)
      (.cons (rowOf_keeps fun _ h => h.squelch) .nil)))

theorem outputRows_keep (s : State) : RowsKeep (outputRows s) :=
  .append (.append (.append (.execs [.atomPpsTimeout]) (.map fun i => exec_keeps (.squelchRelease i)))
    (.map fun j => exec_keeps (.ppsPulse j))) (.map fun j => exec_keeps (.todMessage j))

theorem gnssRows_keep (s : State) : RowsKeep (gnssRows s) :=
  .append (.append (.append (.append (.append (.cons (rowOf_keeps fun _ h => h.feArrive) .nil)
    (.map fun f => exec_keeps (.feClockLost f))) (.map fun f => exec_keeps (.feSecond f () ())))
    (.map fun c => exec_keeps (.channelTrack c))) (.map fun c => exec_keeps (.dumpBoundary c () () ())))
    (.cons (exec_keeps (.measurementLatch ())) (.cons (rowOf_keeps fun _ h => h.fillLatch) (.cons (exec_keeps (.swatchStart ()))
      (.cons (rowOf_keeps fun _ h => h.swSample) (.cons (exec_keeps (.swatchEnd () ())) (.cons (rowOf_keeps fun _ h => h.acqSample)
        (.cons (rowOf_keeps fun _ h => h.acqLimit) (.cons (rowOf_keeps fun _ h => h.accumulate) .nil))))))))

theorem measureRows_keep : RowsKeep measureRows :=
  .append (.append (.append
    (.cons (rowOf_keeps fun _ h => h.launchGtick) (.cons (rowOf_keeps fun _ h => h.ownEdges)
      (.cons (rowOf_keeps fun _ h => h.drainRecs) .nil)))
    (.flatMap fun u => .execs [.calPassExpiry u, .tableSwap u])) (.execs [.tensionVisitEnd]))
    (.map fun j => exec_keeps (.indicatorClear j))

theorem endRows_keep : RowsKeep endRows := .map fun c => exec_keeps (.tdcTimeout c)

theorem watchRows_keep (s : State) : RowsKeep (watchRows s) := .map fun n => exec_keeps (.watchdogExpiry n)

theorem seqRows_keep (s : State) : RowsKeep (seqRows s) :=
  .append (.flatMap fun n => .execs [.seqStart n, .timeWaitDue n])
    (.flatMap fun k => fun _ hf => List.eq_of_mem_replicate hf ▸ exec_keeps (.schedEventDue k))

theorem pauseRows_keep (s : State) (p : Fin 8) : RowsKeep (pauseRows s p) :=
  .append (.map fun c => exec_keeps (.pauseExpiry p c)) (.execs [.pauseRepeat p])

theorem ethRows_keep (s : State) : RowsKeep (ethRows s) :=
  .flatMap fun p => .append (.append (.execs [.rowCycleStart p, .slotStart p]) (pauseRows_keep s p))
    (.execs [.preemptVerify p false, .followUpLaunch p, .launchDecision p, .txStampStore p (), .ethMarker p () ()])

theorem rxRows_keep (s : State) : RowsKeep (rxRows s) :=
  .flatMap fun p => .ite .nil (.append
    (.execs [.ptpMessageReceive p (), .unicastRequest p (), .unicastCancel p (), .ntpRequest p (), .ntsRequest p ()])
    (.cons (rowOf_keeps fun _ h => h.tsvDiscard) (.execs [.streamPacketReceive p])))

theorem sessionRows_keep (s : State) (p : Fin 8) : RowsKeep (sessionRows s p) :=
  .flatMap fun n => .execs [.syncInstant p (some n), .announceInstant p (some n)]

theorem clientRows_keep (p : Fin 8) : RowsKeep (clientRows p) :=
  .flatMap fun u => .flatMap fun k => .execs [.unicastRenew p u k, .unicastRetry p u k]

theorem foreignRows_keep (s : State) (p : Fin 8) : RowsKeep (foreignRows s p) :=
  .map fun f => exec_keeps (.foreignMasterTimeout p (BitVec.ofNat 64 f.id) (BitVec.ofNat 16 f.port))

theorem tsvRows_keep (s : State) : RowsKeep (tsvRows s) :=
  .append (.ite
    (.append (.append
      (.flatMap fun p => .append (.append (.append (.append (foreignRows_keep s p)
        (.execs [.syncInstant p none, .announceInstant p none])) (sessionRows_keep s p))
        (.execs [.delayReqInstant p, .pdelayReqInstant p])) (clientRows_keep p))
      (.flatMap fun n => .execs [.grantExpiry n .announce, .grantExpiry n .sync, .grantExpiry n .delayResp]))
      (.execs [.mintRequest, .ntsRotation]))
    .nil) (.execs [.ptpSecond])

theorem audioRows_keep (s : State) : RowsKeep (audioRows s) :=
  .append (.append (.append (.append (.append
    (.cons (exec_keeps .rowStart) (.cons (rowOf_keeps fun _ h => h.skeinNext) (.execs [.stripDeadline, .triggerFire])))
    (.map fun i => exec_keeps (.streamPacketLaunch i)))
    (.flatMap fun p => .execs [.aes3UnlockTimeout p, .aes3AsrcLoss p, .aes3AsrcRun p]))
    (.map fun p => exec_keeps (.aes3FrameSend p)))
    (.flatMap fun w => .execs [.zeroCrossingApply w.obj w.ch, .zcTimeout w.obj w.ch]))
    (.map fun o => exec_keeps (.stopComplete o))

theorem mixRows_keep : RowsKeep mixRows := .execs [.mixRowUpdate, .meterBlockEnd]

theorem pairRows_keep (s : State) : RowsKeep (pairRows s) :=
  .append (.append (.append (.append (.append (.append (.execs [.keySweep]) (.map fun l => exec_keeps (.stlFrameStart l)))
    (.map fun l => exec_keeps (.rtjumpClear l))) (.execs [.pairTimeout, .mirrorConfirmTimeout, .twinSecond]))
    (.ite (.execs [.handoverInstant]) .nil)) (.ite (.execs [.twinSyncRequest]) .nil)) (.ite (.execs [.partialSumSlot []]) .nil)

theorem memRows_keep (s : State) : RowsKeep (memRows s) :=
  .cons (rowOf_keeps fun _ h => h.arbiter) (.map fun r => exec_keeps (.starveLimit r ()))

theorem superviseRows_keep : RowsKeep superviseRows :=
  .cons (rowOf_keeps fun _ h => h.seqCorrs) (.execs [.aliveToggle, .injectExpiry, .sweepPeriodic, .sweepDone])

theorem tickGroups_keep : ∀ g ∈ tickGroups, ∀ s, RowsKeep (g s) := by
  simp only [tickGroups, List.forall_mem_cons]
  exact ⟨fun _ => snapRows_keep, fun _ => boundaryRows_keep, fun _ => holdRows_keep, fun _ => lossRows_keep, gateRows_keep,
    fun _ => qualifyRows_keep, fun _ => gaugeRows_keep, outputRows_keep, gnssRows_keep, fun _ => measureRows_keep, pairRows_keep,
    seqRows_keep, ethRows_keep, rxRows_keep, tsvRows_keep, audioRows_keep, fun _ => mixRows_keep, memRows_keep,
    fun _ => superviseRows_keep, List.forall_mem_nil _⟩

theorem State.Canon.runSeq (h : s.Canon) {n : Fin 160} : (s.runSeq n).Canon := by
  unfold State.runSeq
  split
  · split
    · exact h.happens (exec_keeps _)
    · exact h.trap
  · exact h

theorem State.Canon.runSeqs (h : s.Canon) : s.runSeqs.Canon := h.foldl fun _ _ ht => ht.runSeq.keepOutside

theorem State.Canon.edgeRows (h : s.Canon) : s.edgeRows.Canon :=
  ((List.foldlRecOn tickGroups State.group h fun _ ht g hg => ht.group (tickGroups_keep g hg _)).runSeqs.group
    (watchRows_keep _)).squelch

theorem State.Canon.stillTick (h : s.Canon) : s.stillTick.Canon := by
  have h1 := (h.group (gateRows_keep s)).happens (exec_keeps .gaugeStart)
  exact .ite h1.edgeRows h1

theorem State.Canon.tick (h : s.Canon) : s.tick.Canon :=
  .ite (h.wTick.group (g := fun _ => endRows) endRows_keep).gEdge.edgeRows h.wTick.stillTick

/-- A step of the block keeps its memories canonical: of itself, by the command at the front, and by the passing of time. -/
theorem step_canon (h : s.Canon) : Res.Canon (step s) := by
  unfold step
  split
  · exact h.tick
  · exact exec_canon _ h.frame

end

/-- Settles O57: a step is a tick or the command at the front of the queue, and both are made of operations that write the memories only
through `memPut`, `memPutWord` and their folds, each of which keeps the canonical form. -/
theorem stepsKeepMemoriesCanonical : Obligations.StepsKeepMemoriesCanonical := by
  intro s t h ht
  have hs := step_canon h
  rwa [ht] at hs

end Sys2Proof.Machine
end

section
/-! Branches (R146 to R148, R176). A branch where `Placed` holds meets no trap, so what it leaves is `Seq.jump` of its sequencer, or, where its
condition does not hold, the retirement of one word, which ends no repeat level. -/

namespace Sys2Proof.Machine

/-- The model's condition is the rule's, row by row of R176. -/
theorem Seq.holds_iff_taken (q : Seq) (cond : Nat) : q.holds cond = true ↔ Taken q cond := by
  unfold Seq.holds
  split <;> simp [Taken]

theorem Placed.placeTrap_noEnd {q : Seq} (h : Placed q) : q.placeTrap .noEnd 1 = none :=
  Seq.placeTrap_noEnd h.1 h.2

/-- Behind a place at which no level ends, PC goes on to the next word in the same levels (R148). -/
theorem advanceFrom_of_last_ne {e : Nat} {reps : List Rep} (h : ∀ r ∈ reps, r.last ≠ e) :
    advanceFrom e reps = ((e + 4) % 2 ^ 14, reps) := by
  cases reps with
  | nil => rfl
  | cons r rs => simp [advanceFrom, h r List.mem_cons_self]

theorem Placed.retire_one {q : Seq} (h : Placed q) : q.retire 1 = { q with pc := (q.pc + 4) % 2 ^ 14 } := by
  obtain ⟨hlast, hrpt⟩ := h
  simp [Seq.retire, Seq.advance, hrpt, advanceFrom_of_last_ne hlast]

/-- The target of a branch is a word of P memory, so PC takes it whole (R178). -/
theorem Seq.jump_word (q : Seq) (tw : BitVec 12) :
    q.jump (4 * tw.toNat) = { q with pc := 4 * tw.toNat, reps := keepReps (4 * tw.toNat) q.reps } := by
  have h : 4 * tw.toNat < 2 ^ 14 := by omega
  simp only [Seq.jump, Nat.mod_eq_of_lt h]

theorem exec_bcc (n : Fin 160) (cond : Fin 16) (tw : BitVec 12) (s : State) : exec (.bcc n cond tw) s =
    .next (if (s.sq n).holds cond then s.branch n .noEnd none fun q => q.jump (4 * tw.toNat)
      else s.issue n 1 .noEnd false none fun t => t.setSq n ((t.sq n).retire 1)) := rfl

/-- Settles O58: a Bcc is a branch where its condition holds and the retirement of one word where it does not. -/
theorem branchConditions : Obligations.BranchConditions := by
  intro n c w s hr hp
  refine ⟨_, exec_bcc n c w s, fun ht => ?taken, fun ht => ?untaken⟩
  case taken =>
    rw [if_pos (((s.sq n).holds_iff_taken c).mpr ht), State.branch_sq hr hp.placeTrap_noEnd rfl]
    exact ⟨_, Seq.jump_word (s.sq n) w⟩
  case untaken =>
    rw [if_neg (mt ((s.sq n).holds_iff_taken c).mp ht), State.issue_runs hr hp.placeTrap_noEnd]
    simp [hp.retire_one]

end Sys2Proof.Machine
end

section
/-! The Row table (R204). The model compares each offset with the next one and the last with CYCLE; the rule speaks of every slot. The two
agree because offsets that rise from slot to slot rise over all slots, so that the last one is the largest. -/

namespace Sys2Proof.Machine

/-- Offsets that rise from each slot to the next rise strictly over all `n` slots. -/
theorem offsets_rise_iff_strictMonoOn (n : Nat) (ofs : Nat → Nat) :
    ((List.range (n - 1)).all fun i => decide (ofs i < ofs (i + 1))) = true ↔ StrictMonoOn ofs (Set.Iio n) := by
  simp only [List.all_eq_true, List.mem_range, decide_eq_true_eq]
  constructor
  case mp => exact fun h => strictMonoOn_of_lt_add_one Set.ordConnected_Iio fun i _ _ hi => h i (Nat.lt_sub_of_add_lt hi)
  case mpr =>
    intro h i hi
    have hn : i + 1 < n := Nat.add_lt_of_lt_sub hi
    exact h (Nat.lt_of_succ_lt hn) hn (Nat.lt_succ_self i)

/-- The last slot is the only one whose offset need be compared with CYCLE: a single slot has offset 0, and of more the last is largest. -/
theorem strictMonoOn_and_last_lt_iff {cycle n : Nat} {ofs : Nat → Nat} (hc : 0 < cycle) (hn : 1 ≤ n) (h0 : ofs 0 = 0) :
    (StrictMonoOn ofs (Set.Iio n) ∧ ofs (n - 1) < cycle) ↔
      ∀ i j, i < j → j < n → ofs i < ofs j ∧ ofs j < cycle := by
  have hlast : n - 1 < n := Nat.sub_lt hn Nat.one_pos
  constructor
  case mp =>
    rintro ⟨hmono, hlt⟩ i j hij hj
    exact ⟨hmono (hij.trans hj) hj hij, (hmono.monotoneOn hj hlast (Nat.le_sub_one_of_lt hj)).trans_lt hlt⟩
  case mpr =>
    refine fun h => ⟨fun i _ j hj hij => (h i j hij hj).1, ?_⟩
    rcases hn.eq_or_lt with rfl | hmany
    · rwa [Nat.sub_self, h0]
    · exact (h 0 (n - 1) (Nat.sub_pos_of_lt hmany) hlast).2

/-- The model's test of a table is R204's list. -/
theorem tableValid_iff (cycle base n : Nat) (ofs : Nat → Nat) : tableValid cycle base n ofs = true ↔
    1000 ≤ cycle ∧ cycle ≤ 10 ^ 9 ∧ cycle ∣ 10 ^ 9 ∧ base < cycle ∧ 1 ≤ n ∧ n ≤ 256 ∧ ofs 0 = 0 ∧
      ∀ i j, i < j → j < n → ofs i < ofs j ∧ ofs j < cycle := by
  rw [tableValid, Bool.and_eq_true, decide_eq_true_eq, offsets_rise_iff_strictMonoOn, ← Nat.dvd_iff_mod_eq_zero]
  constructor
  case mp =>
    rintro ⟨⟨hlo, hhi, hdvd, hbase, hn, hmax, h0, hlt⟩, hmono⟩
    exact ⟨hlo, hhi, hdvd, hbase, hn, hmax, h0, (strictMonoOn_and_last_lt_iff (Nat.zero_lt_of_lt hbase) hn h0).mp ⟨hmono, hlt⟩⟩
  case mpr =>
    rintro ⟨hlo, hhi, hdvd, hbase, hn, hmax, h0, hslots⟩
    obtain ⟨hmono, hlt⟩ := (strictMonoOn_and_last_lt_iff (Nat.zero_lt_of_lt hbase) hn h0).mpr hslots
    exact ⟨⟨hlo, hhi, hdvd, hbase, hn, hmax, h0, hlt⟩, hmono⟩

/-- Settles O59: the shadow is tested by `tableValid` on the values in force of its registers. -/
theorem rowTableValidity : Obligations.RowTableValidity :=
  fun s p => tableValid_iff (s.inForce .ROWT_CYCLE p) (s.inForce .ROWT_BASE p) (s.inForce .ROWT_NSLOT p) (s.inForce .ROWT_OFS p ·)

end Sys2Proof.Machine
end

section
/-! An idle step in which nothing waits (R303, R388). With the Gauge stopped and the core off, all that a nanosecond of the Warden clock
can bring is the records that Warden owes (R306), and those reach the log, what the hardware keeps and what is sent out, nothing else. -/

namespace Sys2Proof.Machine

/-- `t` is `s` with records written: the log, what the hardware keeps and what is sent out may differ, and a capture's hold stays. -/
def State.Records (s t : State) : Prop :=
  ∃ l h o, t = { s with log := l, hw := h, sent := o } ∧ l.held = s.log.held

section

variable {s t u : State}

theorem State.Records.refl (s : State) : s.Records s := ⟨s.log, s.hw, s.sent, rfl, rfl⟩

theorem State.Records.trans (h1 : s.Records t) (h2 : t.Records u) : s.Records u := by
  obtain ⟨_, _, _, rfl, hheld⟩ := h1
  obtain ⟨l, h, o, rfl, hheld'⟩ := h2
  exact ⟨l, h, o, rfl, hheld'.trans hheld⟩

theorem State.Records.of_log {l : Log} (h : l.held = s.log.held) : s.Records { s with log := l } :=
  ⟨l, s.hw, s.sent, rfl, h⟩

theorem State.Records.held (h : s.Records t) : t.log.held = s.log.held := by obtain ⟨_, _, _, rfl, hheld⟩ := h; exact hheld

theorem State.Records.wt (h : s.Records t) : t.wt = s.wt := by obtain ⟨_, _, _, rfl, -⟩ := h; rfl

theorem State.Records.regs (h : s.Records t) : t.regs = s.regs := by obtain ⟨_, _, _, rfl, -⟩ := h; rfl

theorem State.Records.gau (h : s.Records t) : t.gau = s.gau := by obtain ⟨_, _, _, rfl, -⟩ := h; rfl

theorem State.Records.coreOn (h : s.Records t) : t.coreOn = s.coreOn := by obtain ⟨_, _, _, rfl, -⟩ := h; rfl

theorem State.records_placeGap (s : State) : s.Records s.placeGap := by
  obtain ⟨l, h, o, he⟩ := s.placeGap_only
  have hheld := s.placeGap_held
  rw [he] at hheld ⊢
  exact ⟨l, h, o, rfl, hheld⟩

theorem State.records_recordNormal {r : LogRec} (h : s.recordNormal r = some t) : s.Records t := by
  unfold State.recordNormal at h
  split at h
  case isTrue =>
    obtain ⟨l, hw, o, he, -, hheld⟩ := s.recordNormal_only r
    cases h
    exact ⟨l, hw, o, he, hheld⟩
  case isFalse => contradiction

theorem State.records_recordDeferred (s : State) (r : LogRec) : s.Records (s.recordDeferred r) := by
  unfold State.recordDeferred
  split
  case isTrue =>
    split
    case h_1 h => exact State.records_recordNormal h
    case h_2 => exact .of_log rfl
  case isFalse => exact .of_log rfl

theorem State.records_recordOwed (s : State) : s.Records s.recordOwed := by
  have hgap : s.Records (if s.gapDue ∧ s.logUsed < ringSlots then s.placeGap else s) := by
    split
    · exact s.records_placeGap
    · exact .refl s
  exact List.foldlRecOn (motive := s.Records) _ State.recordDeferred (hgap.trans (.of_log rfl))
    fun t ht r _ => ht.trans (t.records_recordDeferred r)

/-- With no host read and no sideband WRITE waiting, nothing goes on behind the gate. -/
theorem State.afterGate_of_none_waits (hr : s.hst.reads = []) (hw : s.sbd.wr = none) : s.afterGate = s := by
  have hs : s.serveReads = s := by
    unfold State.serveReads
    split
    · rw [hr, List.foldl_nil, ← hr]
    · rfl
  rw [State.afterGate, hs, State.sbdDrive, hw]

/-- Then a nanosecond of the Warden clock moves that clock and ends the hold (R388). -/
theorem State.wTick_of_none_waits (hr : s.hst.reads = []) (hw : s.sbd.wr = none) :
    s.wTick = { s with wt := s.wt + 1, log := { s.log with held := false } } :=
  State.afterGate_of_none_waits hr hw

/-- An empty gate writes the records that are owed. -/
theorem State.group_gateRows_of_empty (hg : s.log.gate = []) :
    s.group gateRows = if s.warden.up then s.recordOwed else s := by
  simp only [State.group, gateRows, if_pos hg]
  rfl

theorem State.records_gateRows (hg : s.log.gate = []) : s.Records (s.group gateRows) := by
  rw [State.group_gateRows_of_empty hg]
  split
  · exact s.records_recordOwed
  · exact .refl s

/-- With the core off the Gauge does not start (R382). -/
theorem State.happens_gaugeStart_of_coreOff (hc : s.coreOn = false) : s.happens execGaugeStart = s := by
  simp [State.happens, execGaugeStart, hc]

/-- Where no Gauge runs and none can start, only records are written. -/
theorem State.records_stillTick (hg : s.log.gate = []) (hn : s.gau.running = false) (hc : s.coreOn = false) :
    s.Records s.stillTick := by
  have hrec := s.records_gateRows hg
  have hstart : (s.group gateRows).happens execGaugeStart = s.group gateRows :=
    State.happens_gaugeStart_of_coreOff (hrec.coreOn.trans hc)
  simpa [State.stillTick, hstart, hrec.gau, hn] using hrec

end

/-- Settles O51: the idle step is the nanosecond of the Warden clock, then the records that are owed, which keep the clock, the hold's end,
the registers and the local time. -/
theorem idleStepPassesTime : Obligations.IdleStepPassesTime := by
  intro s hq hn hg hr hw hc
  have htick : s.tick = s.wTick.stillTick := if_neg (by simp [State.wTick_of_none_waits hr hw, hn])
  have hrec : s.wTick.Records s.wTick.stillTick := by
    rw [State.wTick_of_none_waits hr hw]
    exact State.records_stillTick hg hn hc
  rw [← htick, State.wTick_of_none_waits hr hw] at hrec
  exact ⟨s.tick, by rw [step, hq], hrec.wt, hrec.held, hrec.regs, congrArg Gau.l hrec.gau⟩

end Sys2Proof.Machine
end

section
/-! The words of the Tabxo instructions (R172 to R191), format by format: what the decoder of a format finds in the word that the encoder
forms, and that a word which the decoder of a format takes is put together again by the encoder. -/

namespace Sys2Proof.Machine

-- One proof is elaborated after another, here and below: that bounds the memory that the whole text takes.
set_option Elab.async false

/-! ### Fields, and putting them together again -/

@[simp] theorem idx3_val (v : Nat) : (idx3 v).val = v % 8 := rfl

@[simp] theorem idx4_fin (k : Fin 16) : idx4 k.val = k := Fin.ofNat_val_eq_self k

@[simp] theorem idx3_fin (k : Fin 8) : idx3 k.val = k := Fin.ofNat_val_eq_self k

theorem bitOn_of_toNat {w k : Nat} {b : Bool} (h : w / 2 ^ k % 2 = b.toNat) : bitOn w k = b := by
  cases b <;> simp [bitOn, h]

theorem accOf1_of_accBit {w k : Nat} {a : Acc} (h : w / 2 ^ k % 2 = accBit a) : accOf1 (bitOn w k) = a := by
  cases a <;> simp [bitOn, h, accBit, accOf1]

theorem accBit_lt (a : Acc) : accBit a < 2 := by cases a <;> decide

theorem accBit_accOf1 (b : Bool) : accBit (accOf1 b) = b.toNat := by cases b <;> rfl

theorem bit1_eq (b : Bool) (k : Nat) : bit1 b k = b.toNat * 2 ^ k := by cases b <;> simp [bit1]

theorem bitOn_toNat (w k : Nat) : (bitOn w k).toNat = w / 2 ^ k % 2 := by
  unfold bitOn
  rcases Nat.mod_two_eq_zero_or_one (w / 2 ^ k) with h | h <;> simp [h]

theorem bits_lt (w hi lo : Nat) : bits w hi lo < 2 ^ (hi + 1 - lo) := Nat.mod_lt _ (Nat.two_pow_pos _)

/-- The bits of a word below bit `k`. -/
def lowBits (w k : Nat) : Nat := w % 2 ^ k

/-- A field is put back on top of what stands below it. -/
theorem lowBits_put {w up hi lo v r : Nat} (hv : v = bits w hi lo) (hr : r = lowBits w lo) (h : up = hi + 1 ∧ lo ≤ up := by decide) :
    v * 2 ^ lo + r = lowBits w up := by
  obtain ⟨rfl, hl⟩ := h
  rw [hv, hr, lowBits, lowBits, bits, ← Nat.mod_mul_right_div_self, ← Nat.pow_add, Nat.add_sub_cancel' hl, Nat.mul_comm]
  rw [← Nat.mod_mod_of_dvd w (Nat.pow_dvd_pow 2 hl)]
  exact Nat.div_add_mod _ _

/-- A field of zeros. -/
theorem lowBits_gap {w up hi lo r : Nat} (hz : bits w hi lo = 0) (hr : r = lowBits w lo) (h : up = hi + 1 ∧ lo ≤ up := by decide) :
    r = lowBits w up := by
  rw [← lowBits_put hz.symm hr h, Nat.zero_mul, Nat.zero_add]

theorem lowBits_field {w up hi v : Nat} (hv : v = bits w hi 0) (h : up = hi + 1 := by rfl) : v = lowBits w up := by
  rw [hv, h]; exact congrArg (· % 2 ^ (hi + 1)) (Nat.div_one w)

/-- Zeros down to bit 0. -/
theorem lowBits_zeros {w up hi : Nat} (hz : bits w hi 0 = 0) (h : up = hi + 1 := by rfl) : lowBits w up = 0 :=
  (lowBits_field hz.symm h).symm

/-- The last field that is not 0. -/
theorem lowBits_last {w up hi lo v : Nat} (hv : v = bits w hi lo) (hz : lowBits w lo = 0) (h : up = hi + 1 ∧ lo ≤ up := by decide) :
    v * 2 ^ lo = lowBits w up := lowBits_put hv hz.symm h

theorem lowBits_all {w : Nat} (hw : w < 2 ^ 32) : lowBits w 32 = w := Nat.mod_eq_of_lt hw

/-- A word is its code on top of its fields. -/
theorem word_of {w op v r : Nat} (hw : w < 2 ^ 32) (hop : bits w 31 24 = op) (he : v = op * 2 ^ 24 + r) (hr : r = lowBits w 24) : v = w :=
  he.trans ((lowBits_put hop.symm hr).trans (lowBits_all hw))

theorem idx4_bits {w hi lo : Nat} (h : hi + 1 - lo = 4 := by rfl) : (idx4 (bits w hi lo)).val = bits w hi lo :=
  Nat.mod_eq_of_lt (h ▸ bits_lt w hi lo : bits w hi lo < 2 ^ 4)

theorem idx3_bits {w hi lo : Nat} (h : hi + 1 - lo = 3 := by rfl) : (idx3 (bits w hi lo)).val = bits w hi lo :=
  Nat.mod_eq_of_lt (h ▸ bits_lt w hi lo : bits w hi lo < 2 ^ 3)

theorem ofNat_bits {m w hi lo : Nat} (h : hi + 1 - lo = m := by rfl) : (BitVec.ofNat m (bits w hi lo)).toNat = bits w hi lo :=
  (BitVec.toNat_ofNat _ _).trans (Nat.mod_eq_of_lt (h ▸ bits_lt w hi lo))

theorem bitOn_bits (w k : Nat) : (bitOn w k).toNat = bits w k k := by
  rw [bitOn_toNat, bits, Nat.add_sub_cancel_left, Nat.pow_one]

theorem accBit_bits {w k : Nat} : accBit (accOf1 (bitOn w k)) = bits w k k := (accBit_accOf1 _).trans (bitOn_bits w k)

theorem given_eq_some {p : Bool} {i j : Instr} : given p i = some j ↔ p = true ∧ i = j := by
  unfold given; split <;> simp_all

/-! ### Codes of the operands -/

theorem smemOf_smemCode (m : SMem) : smemOf (smemCode m) = some m := by cases m <;> rfl

theorem smemCode_of_smemOf {c : Nat} {m : SMem} (h : smemOf c = some m) : smemCode m = c := by
  unfold smemOf at h; split at h <;> cases h <;> rfl

theorem kindOf_kindCode (k : AxKind) : kindOf (kindCode k) = some k := by cases k <;> rfl

theorem kindCode_lt (k : AxKind) : kindCode k < 4 := by cases k <;> decide

theorem kindCode_of_kindOf {c : Nat} {k : AxKind} (h : kindOf c = some k) : kindCode k = c := by
  unfold kindOf at h; split at h <;> cases h <;> rfl

theorem selOf_selCode (x : HalfSel) : selOf (selCode x) = x := by cases x <;> rfl

theorem selCode_lt (x : HalfSel) : selCode x < 4 := by cases x <;> decide

theorem selCode_selOf {c : Nat} (h : c < 4) : selCode (selOf c) = c := by
  interval_cases c <;> rfl

theorem smOf_smCode (m : SMode) : smOf (smCode m) = m := by
  obtain ⟨a, b⟩ := m; cases a <;> cases b <;> rfl

theorem smCode_lt (m : SMode) : smCode m < 4 := by
  obtain ⟨a, b⟩ := m; cases a <;> cases b <;> decide

theorem smCode_smOf {c : Nat} (h : c < 4) : smCode (smOf c) = c := by
  interval_cases c <;> rfl

theorem modOf_modCode (m : Mod) : modOf (modCode m).1 (modCode m).2 = some m := by
  cases m <;> simp [modCode, modOf]

theorem modCode_of_modOf {c imm : Nat} {m : Mod} (hi : imm < 256) (h : modOf c imm = some m) : modCode m = (c, imm) := by
  unfold modOf at h
  split at h
  case h_1 => split at h <;> cases h; simp_all [modCode]
  case h_2 => split at h <;> cases h; simp_all [modCode]
  case h_3 => cases h; simp [modCode, Nat.mod_eq_of_lt hi]
  case h_4 => cases h

theorem smemCode_lt (m : SMem) : smemCode m < 3 := by cases m <;> decide

theorem modCode_fst_lt (m : Mod) : (modCode m).1 < 3 := by cases m <;> simp [modCode]

theorem mdCode_lt (d : MD) : mdCode d < 128 := by
  have := smemCode_lt d.mem
  have := modCode_fst_lt d.mod
  unfold mdCode
  omega

theorem mdImm_lt (d : MD) : mdImm d < 256 := by
  unfold mdImm
  cases d.mod with
  | byImm i => exact i.isLt
  | _ => decide

theorem mdOf_mdCode (d : MD) : mdOf (mdCode d) (mdImm d) = some d := by
  have hm := smemCode_lt d.mem
  have hd := modCode_fst_lt d.mod
  have h1 : mdCode d / 32 % 4 = smemCode d.mem := by unfold mdCode; omega
  have h2 : mdCode d / 4 % 8 = d.x.val := by unfold mdCode; omega
  have h3 : mdCode d % 4 = (modCode d.mod).1 := by unfold mdCode; omega
  simp only [mdOf, h1, h2, h3, mdImm, smemOf_smemCode, modOf_modCode, idx3_fin]

/-- A descriptor has one code. -/
theorem mdCode_of_mdOf {c imm : Nat} {d : MD} (hc : c < 128) (hi : imm < 256) (h : mdOf c imm = some d) :
    mdCode d = c ∧ mdImm d = imm := by
  unfold mdOf at h
  split at h
  case h_1 m k hm hk =>
    cases h
    simp only [mdCode, mdImm, smemCode_of_smemOf hm, modCode_of_modOf hi hk, idx3_val, and_true]
    omega
  case h_2 => cases h

/-! ### Reading the fields of a word -/

/-- The field on top of a word, with the rest below it. -/
theorem bits_top {v r hi lo : Nat} (hv : v < 2 ^ (hi + 1 - lo)) (hr : r < 2 ^ lo) : bits (v * 2 ^ lo + r) hi lo = v := by
  rw [bits, Nat.add_comm, Nat.add_mul_div_right _ _ (Nat.two_pow_pos lo), Nat.div_eq_of_lt hr, Nat.zero_add, Nat.mod_eq_of_lt hv]

/-- A field does not see what stands above it. -/
theorem bits_skip {v k r hi lo : Nat} (h : lo ≤ hi + 1 ∧ hi < k := by decide) : bits (v * 2 ^ k + r) hi lo = bits r hi lo := by
  obtain ⟨hl, hk⟩ := h
  have hm (n : Nat) : bits n hi lo = n % 2 ^ (hi + 1) / 2 ^ lo := by
    rw [bits, ← Nat.mod_mul_right_div_self, ← Nat.pow_add, Nat.add_sub_cancel' hl]
  have hd : 2 ^ (hi + 1) ∣ 2 ^ k := Nat.pow_dvd_pow 2 hk
  rw [hm, hm, ← Nat.mod_mod_of_dvd (v * 2 ^ k + r) hd, Nat.mul_add_mod', Nat.mod_mod_of_dvd _ hd]

theorem bits_under {v k r hi lo x : Nat} (h : bits r hi lo = x) (hk : lo ≤ hi + 1 ∧ hi < k := by decide) :
    bits (v * 2 ^ k + r) hi lo = x := (bits_skip hk).trans h

theorem bits_all {v hi : Nat} (hv : v < 2 ^ (hi + 1)) : bits v hi 0 = v := by
  rw [bits, Nat.pow_zero, Nat.div_one, Nat.sub_zero, Nat.mod_eq_of_lt hv]

theorem bits_zero (hi lo : Nat) : bits 0 hi lo = 0 := by rw [bits, Nat.zero_div, Nat.zero_mod]

/-- Two fields side by side stay below what is above them. -/
theorem join_lt {v r k lo : Nat} (hv : v < 2 ^ k) (hr : r < 2 ^ lo) : v * 2 ^ lo + r < 2 ^ (k + lo) :=
  calc v * 2 ^ lo + r < (v + 1) * 2 ^ lo := by rw [Nat.succ_mul]; exact Nat.add_lt_add_left hr _
    _ ≤ 2 ^ k * 2 ^ lo := Nat.mul_le_mul_right _ hv
    _ = 2 ^ (k + lo) := (Nat.pow_add 2 k lo).symm

theorem last_lt {v k lo : Nat} (hv : v < 2 ^ k) : v * 2 ^ lo < 2 ^ (k + lo) := join_lt hv (Nat.two_pow_pos lo)

/-- The field on top, with nothing below it. -/
theorem bits_last {v hi lo : Nat} (hv : v < 2 ^ (hi + 1 - lo)) : bits (v * 2 ^ lo) hi lo = v := bits_top hv (Nat.two_pow_pos lo)

theorem bits_below {v k hi lo : Nat} (hk : lo ≤ hi + 1 ∧ hi < k := by decide) : bits (v * 2 ^ k) hi lo = 0 :=
  (bits_skip (r := 0) hk).trans (bits_zero hi lo)

/-- Above a number there are zeros. -/
theorem bits_above {v hi lo : Nat} (hv : v < 2 ^ lo) : bits v hi lo = 0 := by rw [bits, Nat.div_eq_of_lt hv, Nat.zero_mod]

theorem lt_width {v k m : Nat} (hv : v < 2 ^ k) (h : k ≤ m := by decide) : v < 2 ^ m :=
  hv.trans_le (Nat.pow_le_pow_right Nat.two_pos h)

theorem accOf1_of_bits {w k : Nat} {a : Acc} (h : bits w k k = accBit a) : accOf1 (bitOn w k) = a := by
  rw [bits, Nat.add_sub_cancel_left] at h
  exact accOf1_of_accBit h

theorem bitOn_of_bits {w k : Nat} {b : Bool} (h : bits w k k = b.toNat) : bitOn w k = b := by
  rw [bits, Nat.add_sub_cancel_left] at h
  exact bitOn_of_toNat h

theorem idx4_of {v : Nat} {k : Fin 16} (h : v = k) : idx4 v = k := h ▸ idx4_fin k

theorem ofNat_of {m v : Nat} {b : BitVec m} (h : v = b.toNat) : BitVec.ofNat m v = b := by rw [h, BitVec.ofNat_toNat, BitVec.setWidth_eq]

theorem given_of {p : Bool} {i j : Instr} (hp : p = true) (hi : i = j) : given p i = some j := hi ▸ if_pos hp

theorem zeros_of {w hi lo : Nat} (h : bits w hi lo = 0) : zeros w hi lo = true := decide_eq_true h

theorem both_zeros {w hi lo hi' lo' : Nat} (h : bits w hi lo = 0) (h' : bits w hi' lo' = 0) :
    (zeros w hi lo && zeros w hi' lo') = true := Bool.and_eq_true_iff.mpr ⟨zeros_of h, zeros_of h'⟩

/-! ### The words as the sums of their fields -/

theorem encR_eq {op gd ga gb : Nat} : encR op gd ga gb = op * 2 ^ 24 + (gd * 2 ^ 20 + (ga * 2 ^ 16 + gb * 2 ^ 12)) := by
  simp only [encR, Nat.add_assoc]

theorem encR_zero {op gd ga : Nat} : encR op gd ga 0 = encI op gd ga 0 := by rw [encR, encI, Nat.zero_mul]

theorem encR_bare {op : Nat} : encR op 0 0 0 = op * 2 ^ 24 := by unfold encR; omega

theorem encI_eq {op g a imm : Nat} : encI op g a imm = op * 2 ^ 24 + (g * 2 ^ 20 + (a * 2 ^ 16 + imm)) := by simp only [encI, Nat.add_assoc]

theorem encI_branch {op c t : Nat} : encI op c 0 t = op * 2 ^ 24 + (c * 2 ^ 20 + t) := by
  simp only [encI, Nat.add_assoc, Nat.zero_mul, Nat.zero_add]

theorem encI_low {op t : Nat} : encI op 0 0 t = op * 2 ^ 24 + t := by simp only [encI, Nat.zero_mul, Nat.add_zero]

theorem encI_gd {op g : Nat} : encI op g 0 0 = op * 2 ^ 24 + g * 2 ^ 20 := by unfold encI; omega

theorem encAx_eq {op low : Nat} {k : AxKind} {i : Fin 8} :
    encAx op k i low = op * 2 ^ 24 + (kindCode k * 2 ^ 22 + (i * 2 ^ 19 + low)) := by simp only [encAx, Nat.add_assoc]

theorem encM_eq {op r : Nat} {d : MD} : encM op r d = op * 2 ^ 24 + (r * 2 ^ 20 + (mdCode d * 2 ^ 13 + mdImm d)) := by
  simp only [encM, Nat.add_assoc]

theorem encS_eq {op : Nat} {d : MD} {a : Acc} {k : Fin 32} {b : Bool} :
    encS op d a k b = op * 2 ^ 24 + (mdCode d * 2 ^ 17 + (accBit a * 2 ^ 16 + (mdImm d * 2 ^ 8 + (b.toNat * 2 ^ 7 + k.val)))) := by
  simp only [encS, bit1_eq, Nat.add_assoc]

theorem encAr_eq {op g low : Nat} {a : Acc} : encAr op g a low = op * 2 ^ 24 + (g * 2 ^ 20 + (accBit a * 2 ^ 16 + low)) := by
  simp only [encAr, Nat.add_assoc]

theorem encAr_low {op low : Nat} {a : Acc} : encAr op 0 a low = op * 2 ^ 24 + (accBit a * 2 ^ 16 + low) := by
  simp only [encAr, Nat.add_assoc, Nat.zero_mul, Nat.zero_add]

theorem encAr_rda {sat wide : Bool} {k : Nat} : bit1 sat 7 + bit1 wide 6 + k = sat.toNat * 2 ^ 7 + (wide.toNat * 2 ^ 6 + k) := by
  simp only [bit1_eq, Nat.add_assoc]

theorem encP_eq {op p g : Nat} {x : Fin 8} {b : Bool} :
    encP op p g x b = op * 2 ^ 24 + (p * 2 ^ 20 + (g * 2 ^ 16 + (b.toNat * 2 ^ 15 + x.val * 2 ^ 12))) := by
  simp only [encP, bit1_eq, Nat.add_assoc]

theorem encP_mbrecv {op : Nat} {x : Fin 8} {b : Bool} : encP op 0 0 x b = op * 2 ^ 24 + (b.toNat * 2 ^ 15 + x.val * 2 ^ 12) := by
  simp only [encP, bit1_eq, Nat.add_assoc, Nat.zero_mul, Nat.add_zero]

theorem encRp_eq {op e low : Nat} : encRp op e low = op * 2 ^ 24 + (e * 2 ^ 16 + low) := by simp only [encRp, Nat.add_assoc]

theorem encRp_low {op low : Nat} : encRp op 0 low = op * 2 ^ 24 + low := by simp only [encRp, Nat.zero_mul, Nat.add_zero]

theorem encX_eq {sub clr : Bool} {m : MulMem} :
    encX sub clr m = 0x60 * 2 ^ 24 + (accBit m.acc * 2 ^ 23 + (smCode m.sm * 2 ^ 21 + (sub.toNat * 2 ^ 20 + (selCode m.selA * 2 ^ 18 +
      (selCode m.selB * 2 ^ 16 + (mdCode m.mda * 2 ^ 9 + (mdCode m.mdb * 2 ^ 2 + (m.pl.isSome.toNat * 2 ^ 1 + clr.toNat)))))))) := by
  simp only [encX, bit1_eq, Nat.add_assoc, Nat.pow_zero, Nat.mul_one]

theorem encXr_eq {sub clr : Bool} {m : MulReg} :
    encXr sub clr m = 0x61 * 2 ^ 24 + (accBit m.acc * 2 ^ 23 + (smCode m.sm * 2 ^ 21 + (sub.toNat * 2 ^ 20 + (selCode m.selA * 2 ^ 18 +
      (selCode m.selB * 2 ^ 16 + (m.ga.val * 2 ^ 12 + (m.gb.val * 2 ^ 8 + clr.toNat))))))) := by
  simp only [encXr, bit1_eq, Nat.add_assoc, Nat.pow_zero, Nat.mul_one]

theorem encExt_none {m : MulMem} (h : m.pl = none) : encExt m = mdImm m.mda * 2 ^ 8 + mdImm m.mdb := by
  simp only [encExt, h, Nat.zero_add]

theorem encExt_some {m : MulMem} {p : PLoad} (h : m.pl = some p) :
    encExt m = p.gp.val * 2 ^ 28 + (p.xp.val * 2 ^ 25 + (p.byM.toNat * 2 ^ 23 + (mdImm m.mda * 2 ^ 8 + mdImm m.mdb))) := by
  simp only [encExt, h, bit1_eq, Nat.add_assoc]

/-! ### What the decoder of a format finds in the encoder's word -/

/-- A word of code `op` from which the decoder `d` takes `i`. -/
def Decodes (d : Nat → Option Instr) (op w : Nat) (i : Instr) : Prop := bits w 31 24 = op ∧ d w = some i

theorem fields_encR {op gd ga gb : Nat} (hop : op < 2 ^ 8) (hd : gd < 2 ^ 4) (ha : ga < 2 ^ 4) (hb : gb < 2 ^ 4) :
    bits (encR op gd ga gb) 31 24 = op ∧ bits (encR op gd ga gb) 23 20 = gd ∧ bits (encR op gd ga gb) 19 16 = ga ∧
      bits (encR op gd ga gb) 15 12 = gb ∧ bits (encR op gd ga gb) 11 0 = 0 := by
  have h1 : gb * 2 ^ 12 < 2 ^ 16 := last_lt hb
  have h2 : _ < 2 ^ 20 := join_lt ha h1
  have h3 : _ < 2 ^ 24 := join_lt hd h2
  rw [encR_eq]
  exact ⟨bits_top hop h3, bits_under (bits_top hd h2), bits_under (bits_under (bits_top ha h1)),
    bits_under (bits_under (bits_under (bits_last hb))),
    bits_under (bits_under (bits_under bits_below))⟩

theorem decR_encR (op : Nat) (gd ga gb : Fin 16) (f) (hop : op < 2 ^ 8 := by decide) :
    Decodes (decR · f) op (encR op gd ga gb) (f gd ga gb) := by
  obtain ⟨h0, h1, h2, h3, h4⟩ := fields_encR hop gd.isLt ga.isLt gb.isLt
  exact ⟨h0, given_of (zeros_of h4) (by rw [h1, h2, h3, idx4_fin, idx4_fin, idx4_fin])⟩

theorem decRab_encR (op : Nat) (ga gb : Fin 16) (f) (hop : op < 2 ^ 8 := by decide) :
    Decodes (decRab · f) op (encR op 0 ga gb) (f ga gb) := by
  obtain ⟨h0, h1, h2, h3, h4⟩ := fields_encR hop (show 0 < 2 ^ 4 by decide) ga.isLt gb.isLt
  exact ⟨h0, given_of (both_zeros h1 h4) (by rw [h2, h3, idx4_fin, idx4_fin])⟩

theorem fields_encI {op g a imm : Nat} (hop : op < 2 ^ 8) (hg : g < 2 ^ 4) (ha : a < 2 ^ 4) (hi : imm < 2 ^ 16) :
    bits (encI op g a imm) 31 24 = op ∧ bits (encI op g a imm) 23 20 = g ∧ bits (encI op g a imm) 19 16 = a ∧
      ∀ hi lo, lo ≤ hi + 1 ∧ hi < 16 → bits (encI op g a imm) hi lo = bits imm hi lo := by
  have h1 : _ < 2 ^ 20 := join_lt ha hi
  have h2 : _ < 2 ^ 24 := join_lt hg h1
  rw [encI_eq]
  refine ⟨bits_top hop h2, bits_under (bits_top hg h1), bits_under (bits_under (bits_top ha hi)), fun hi lo h => ?_⟩
  rw [bits_skip ⟨h.1, h.2.trans (by decide)⟩, bits_skip ⟨h.1, h.2.trans (by decide)⟩, bits_skip h]

theorem decR2_encR (op : Nat) (gd ga : Fin 16) (f) (hop : op < 2 ^ 8 := by decide) :
    Decodes (decR2 · f) op (encR op gd ga 0) (f gd ga) := by
  obtain ⟨h0, h1, h2, h3⟩ := fields_encI hop gd.isLt ga.isLt (show 0 < 2 ^ 16 by decide)
  rw [encR_zero]
  exact ⟨h0, given_of (zeros_of ((h3 15 0 (by decide)).trans (bits_zero _ _))) (by rw [h1, h2, idx4_fin, idx4_fin])⟩

theorem decI_encI (op : Nat) (g a : Fin 16) (i : Half) (f) (hop : op < 2 ^ 8 := by decide) :
    Decodes (decI · f) op (encI op g a i.toNat) (f g a i) := by
  obtain ⟨h0, h1, h2, h3⟩ := fields_encI hop g.isLt a.isLt i.isLt
  exact ⟨h0, congrArg some (by rw [h1, h2, idx4_fin, idx4_fin, ofNat_of ((h3 15 0 (by decide)).trans (bits_all i.isLt))])⟩

theorem decSh_encI (op : Nat) (g a : Fin 16) (k : BitVec 5) (f) (hop : op < 2 ^ 8 := by decide) :
    Decodes (decSh · f) op (encI op g a k.toNat) (f g a k) := by
  obtain ⟨h0, h1, h2, h3⟩ := fields_encI hop g.isLt a.isLt (lt_width k.isLt)
  have h4 := (h3 4 0 (by decide)).trans (bits_all k.isLt)
  have h5 := (h3 15 5 (by decide)).trans (bits_above k.isLt)
  exact ⟨h0, given_of (zeros_of h5) (by rw [h1, h2, idx4_fin, idx4_fin, ofNat_of h4])⟩

theorem decId_encI (op : Nat) (g : Fin 16) (i : Half) (f) (hop : op < 2 ^ 8 := by decide) :
    Decodes (decId · f) op (encI op g 0 i.toNat) (f g i) := by
  obtain ⟨h0, h1, h2, h3⟩ := fields_encI hop g.isLt (show 0 < 2 ^ 4 by decide) i.isLt
  exact ⟨h0, given_of (zeros_of h2) (by rw [h1, idx4_fin, ofNat_of ((h3 15 0 (by decide)).trans (bits_all i.isLt))])⟩

theorem cmpi_encI {n : Fin 160} (op : Nat) (a : Fin 16) (i : Half) (hop : op < 2 ^ 8 := by decide) :
    Decodes (fun v => given (zeros v 23 20) (.cmpi n (idx4 (bits v 19 16)) (BitVec.ofNat 16 (bits v 15 0)))) op
      (encI op 0 a i.toNat) (.cmpi n a i) := by
  obtain ⟨h0, h1, h2, h3⟩ := fields_encI hop (show 0 < 2 ^ 4 by decide) a.isLt i.isLt
  exact ⟨h0, given_of (zeros_of h1) (by rw [h2, idx4_fin, ofNat_of ((h3 15 0 (by decide)).trans (bits_all i.isLt))])⟩

theorem sched_encI {n : Fin 160} (op : Nat) (p k : Fin 16) (c : Half) (hop : op < 2 ^ 8 := by decide) :
    Decodes (fun v => some (.sched n (idx4 (bits v 23 20)) (idx4 (bits v 19 16)) (BitVec.ofNat 16 (bits v 15 0)))) op
      (encI op p k c.toNat) (.sched n p k c) :=
  decI_encI op p k c (.sched n) hop

theorem decT_encI {op i : Nat} (k : Fin 16) (hi : i < 2 ^ 16) {f : Fin 16 → Nat → Option Instr} {j : Instr} (hf : f k i = some j)
    (hop : op < 2 ^ 8 := by decide) : Decodes (decT · f) op (encI op 0 k i) j := by
  obtain ⟨h0, h1, h2, h3⟩ := fields_encI hop (show 0 < 2 ^ 4 by decide) k.isLt hi
  refine ⟨h0, (if_pos (zeros_of h1)).trans ?_⟩
  rw [h2, idx4_fin, h3 15 0 (by decide), bits_all hi, hf]

theorem gadj_encI {n : Fin 160} (op : Nat) (k : Fin 16) (f p : Bool) (hop : op < 2 ^ 8 := by decide) :
    Decodes (decT · fun k i => given (decide (i < 4)) (.gadj n k (bitOn i 1) (bitOn i 0))) op
      (encI op 0 k (bit1 f 1 + bit1 p 0)) (.gadj n k f p) :=
  decT_encI k (by cases f <;> cases p <;> decide) (by cases f <;> cases p <;> rfl) hop

theorem flag_encI (op : Nat) (k : Fin 16) (b : Bool) (f : Fin 16 → Bool → Instr) (hop : op < 2 ^ 8 := by decide) :
    Decodes (decT · fun k i => given (decide (i < 2)) (f k (bitOn i 0))) op (encI op 0 k (bit1 b 0)) (f k b) :=
  decT_encI k (by cases b <;> decide) (by cases b <;> rfl) hop

theorem fields_branch {op c t : Nat} (hop : op < 2 ^ 8) (hc : c < 2 ^ 4) (ht : t < 2 ^ 12) :
    bits (encI op c 0 t) 31 24 = op ∧ bits (encI op c 0 t) 23 20 = c ∧ bits (encI op c 0 t) 19 12 = 0 ∧
      bits (encI op c 0 t) 11 0 = t := by
  have h1 : t < 2 ^ 20 := lt_width ht
  rw [encI_branch]
  exact ⟨bits_top hop (join_lt hc h1), bits_under (bits_top hc h1), bits_under (bits_under (bits_above ht)),
    bits_under (bits_under (bits_all ht))⟩

theorem bcc_encI {n : Fin 160} (op : Nat) (c : Fin 16) (t : BitVec 12) (hop : op < 2 ^ 8 := by decide) :
    Decodes (fun v => given (zeros v 19 12) (.bcc n (idx4 (bits v 23 20)) (BitVec.ofNat 12 (bits v 11 0)))) op
      (encI op c 0 t.toNat) (.bcc n c t) := by
  obtain ⟨h0, h1, h2, h3⟩ := fields_branch hop c.isLt t.isLt
  exact ⟨h0, given_of (zeros_of h2) (by rw [h1, idx4_fin, ofNat_of h3])⟩

theorem decB_encI (op : Nat) (t : BitVec 12) (f) (hop : op < 2 ^ 8 := by decide) :
    Decodes (decB · f) op (encI op 0 0 t.toNat) (f t) := by
  rw [encI_low]
  exact ⟨bits_top hop (lt_width t.isLt), given_of (zeros_of (bits_under (bits_above t.isLt)))
    (by rw [ofNat_of (bits_under (bits_all t.isLt))])⟩

/-- A word with no operand but the one in bits [23:20]. -/
theorem fields_gd {op g : Nat} (hop : op < 2 ^ 8) (hg : g < 2 ^ 4) :
    bits (encI op g 0 0) 31 24 = op ∧ bits (encI op g 0 0) 23 20 = g ∧ bits (encI op g 0 0) 19 0 = 0 := by
  rw [encI_gd]
  exact ⟨bits_top hop (last_lt hg), bits_under (bits_last hg), bits_under bits_below⟩

theorem rdid_encR {n : Fin 160} (op : Nat) (g : Fin 16) (hop : op < 2 ^ 8 := by decide) :
    Decodes (fun v => given (zeros v 19 0) (.rdid n (idx4 (bits v 23 20)))) op (encR op g 0 0) (.rdid n g) := by
  obtain ⟨h0, h1, h2⟩ := fields_gd hop g.isLt
  rw [encR_zero]
  exact ⟨h0, given_of (zeros_of h2) (by rw [h1, idx4_fin])⟩

theorem ldil_encI {n : Fin 160} (op : Nat) (g : Fin 16) (k : Word) (hop : op < 2 ^ 8 := by decide) :
    Decodes (fun v => given (zeros v 19 0) (.ldil n (idx4 (bits v 23 20)) (BitVec.ofNat 32 k.toNat))) op (encI op g 0 0)
      (.ldil n g k) := by
  obtain ⟨h0, h1, h2⟩ := fields_gd hop g.isLt
  exact ⟨h0, given_of (zeros_of h2) (by rw [h1, idx4_fin, ofNat_of rfl])⟩

theorem br_encR {n : Fin 160} (op : Nat) (a : Fin 16) (hop : op < 2 ^ 8 := by decide) :
    Decodes (fun v => given (zeros v 23 20 && zeros v 15 0) (.br n (idx4 (bits v 19 16)))) op (encR op 0 a 0) (.br n a) := by
  obtain ⟨h0, h1, h2, h3⟩ := fields_encI hop (show 0 < 2 ^ 4 by decide) a.isLt (show 0 < 2 ^ 16 by decide)
  rw [encR_zero]
  exact ⟨h0, given_of (both_zeros h1 ((h3 15 0 (by decide)).trans (bits_zero _ _))) (by rw [h2, idx4_fin])⟩

/-- A word of a code alone. -/
theorem decodes_bare {op w : Nat} {i : Instr} (hw : w = op * 2 ^ 24) (hop : op < 2 ^ 8) :
    Decodes (fun v => given (zeros v 23 0) i) op w i :=
  hw ▸ ⟨bits_last hop, given_of (zeros_of bits_below) rfl⟩

theorem bare_encR (op : Nat) (i : Instr) (hop : op < 2 ^ 8 := by decide) :
    Decodes (fun v => given (zeros v 23 0) i) op (encR op 0 0 0) i :=
  decodes_bare encR_bare hop

theorem bare_encAr (op : Nat) (i : Instr) (hop : op < 2 ^ 8 := by decide) :
    Decodes (fun v => given (zeros v 23 0) i) op (encAr op 0 .a0 0) i :=
  decodes_bare (by simp only [encAr, accBit]; omega) hop

theorem fields_encAx {op : Nat} {k : AxKind} {i : Fin 8} {low : Nat} (hop : op < 2 ^ 8) (hl : low < 2 ^ 16) :
    bits (encAx op k i low) 31 24 = op ∧ bits (encAx op k i low) 23 22 = kindCode k ∧ bits (encAx op k i low) 21 19 = i ∧
      bits (encAx op k i low) 18 16 = 0 ∧ ∀ hi lo, lo ≤ hi + 1 ∧ hi < 16 → bits (encAx op k i low) hi lo = bits low hi lo := by
  have hk : kindCode k < 2 ^ 2 := kindCode_lt k
  have h1 : low < 2 ^ 19 := lt_width hl
  have h2 : _ < 2 ^ 22 := join_lt i.isLt h1
  have h3 : _ < 2 ^ 24 := join_lt hk h2
  rw [encAx_eq]
  refine ⟨bits_top hop h3, bits_under (bits_top hk h2), bits_under (bits_under (bits_top i.isLt h1)),
    bits_under (bits_under (bits_under (bits_above hl))), fun hi lo h => ?_⟩
  rw [bits_skip ⟨h.1, h.2.trans (by decide)⟩, bits_skip ⟨h.1, h.2.trans (by decide)⟩, bits_skip ⟨h.1, h.2.trans (by decide)⟩]

theorem decAx_of {w : Nat} {k : AxKind} {i : Fin 8} {g : Fin 16} {f : AxKind → Fin 8 → Fin 16 → Instr}
    (h1 : bits w 23 22 = kindCode k) (h2 : bits w 21 19 = i) (h3 : bits w 18 16 = 0) (h4 : bits w 15 12 = g) (h5 : bits w 11 0 = 0) :
    decAx w f = some (f k i g) := by
  simp only [decAx, h1, kindOf_kindCode]
  exact given_of (both_zeros h3 h5) (by rw [h2, h4, idx3_fin, idx4_fin])

theorem decAx_encAx (op : Nat) (k : AxKind) (i : Fin 8) (g : Fin 16) (f) (hop : op < 2 ^ 8 := by decide) :
    Decodes (decAx · f) op (encAx op k i (g.val * 2 ^ 12)) (f k i g) := by
  have hg : g.val * 2 ^ 12 < 2 ^ 16 := last_lt (k := 4) g.isLt
  have hl : bits (g.val * 2 ^ 12) 15 12 = g := bits_last (hi := 15) (lo := 12) g.isLt
  obtain ⟨h0, h1, h2, h3, h4⟩ := fields_encAx (k := k) (i := i) hop hg
  exact ⟨h0, decAx_of h1 h2 h3 ((h4 15 12 (by decide)).trans hl) ((h4 11 0 (by decide)).trans bits_below)⟩

/-- What the code of LDX selects. -/
def decLdx (n : Fin 160) (w : Nat) : Option Instr :=
  match kindOf (bits w 23 22) with
  | some k => given (zeros w 18 16) (.ldx n k (idx3 (bits w 21 19)) (BitVec.ofNat 16 (bits w 15 0)))
  | none => none

/-- What the code of LEA selects. -/
def decLea (n : Fin 160) (w : Nat) : Option Instr :=
  match mdOf (bits w 19 13) (bits w 7 0) with
  | some d => given (zeros w 23 20 && zeros w 12 8) (.lea n d)
  | none => none

theorem decLdx_of {n : Fin 160} {w : Nat} {k : AxKind} {i : Fin 8} {imm : Half} (h1 : bits w 23 22 = kindCode k)
    (h2 : bits w 21 19 = i) (h3 : bits w 18 16 = 0) (h4 : bits w 15 0 = imm.toNat) : decLdx n w = some (.ldx n k i imm) := by
  simp only [decLdx, h1, kindOf_kindCode]
  exact given_of (zeros_of h3) (by rw [h2, idx3_fin, ofNat_of h4])

theorem decLdx_encAx {n : Fin 160} (op : Nat) (k : AxKind) (i : Fin 8) (imm : Half) (hop : op < 2 ^ 8 := by decide) :
    Decodes (decLdx n) op (encAx op k i imm.toNat) (.ldx n k i imm) := by
  obtain ⟨h0, h1, h2, h3, h4⟩ := fields_encAx (k := k) (i := i) hop imm.isLt
  exact ⟨h0, decLdx_of h1 h2 h3 ((h4 15 0 (by decide)).trans (bits_all imm.isLt))⟩

theorem fields_encM {op r : Nat} {d : MD} (hop : op < 2 ^ 8) (hr : r < 2 ^ 4) :
    bits (encM op r d) 31 24 = op ∧ bits (encM op r d) 23 20 = r ∧ bits (encM op r d) 19 13 = mdCode d ∧
      bits (encM op r d) 12 8 = 0 ∧ bits (encM op r d) 7 0 = mdImm d := by
  have hc : mdCode d < 2 ^ 7 := mdCode_lt d
  have hi : mdImm d < 2 ^ 8 := mdImm_lt d
  have h1 : mdImm d < 2 ^ 13 := lt_width hi
  have h2 : _ < 2 ^ 20 := join_lt hc h1
  rw [encM_eq]
  exact ⟨bits_top hop (join_lt hr h2), bits_under (bits_top hr h2), bits_under (bits_under (bits_top hc h1)),
    bits_under (bits_under (bits_under (bits_above hi))),
    bits_under (bits_under (bits_under (bits_all hi)))⟩

theorem decM_of {w : Nat} {r : Fin 16} {d : MD} {f : Fin 16 → MD → Instr} (h1 : bits w 23 20 = r) (h2 : bits w 19 13 = mdCode d)
    (h3 : bits w 12 8 = 0) (h4 : bits w 7 0 = mdImm d) : decM w f = some (f r d) := by
  simp only [decM, h2, h4, mdOf_mdCode]
  exact given_of (zeros_of h3) (by rw [h1, idx4_fin])

theorem decM_encM (op : Nat) (r : Fin 16) (d : MD) (f) (hop : op < 2 ^ 8 := by decide) :
    Decodes (decM · f) op (encM op r d) (f r d) := by
  obtain ⟨h0, h1, h2, h3, h4⟩ := fields_encM (d := d) hop r.isLt
  exact ⟨h0, decM_of h1 h2 h3 h4⟩

theorem decLea_of {n : Fin 160} {w : Nat} {d : MD} (h1 : bits w 23 20 = 0) (h2 : bits w 19 13 = mdCode d) (h3 : bits w 12 8 = 0)
    (h4 : bits w 7 0 = mdImm d) : decLea n w = some (.lea n d) := by
  simp only [decLea, h2, h4, mdOf_mdCode]
  exact given_of (both_zeros h1 h3) rfl

theorem decLea_encM {n : Fin 160} (op : Nat) (d : MD) (hop : op < 2 ^ 8 := by decide) :
    Decodes (decLea n) op (encM op 0 d) (.lea n d) := by
  obtain ⟨h0, h1, h2, h3, h4⟩ := fields_encM (d := d) hop (show 0 < 2 ^ 4 by decide)
  exact ⟨h0, decLea_of h1 h2 h3 h4⟩

theorem decMa_of {w : Nat} {a : Acc} {d : MD} {f : Acc → MD → Instr} (h1 : bits w 23 21 = 0) (h2 : bits w 20 20 = accBit a)
    (h3 : bits w 19 13 = mdCode d) (h4 : bits w 12 8 = 0) (h5 : bits w 7 0 = mdImm d) : decMa w f = some (f a d) := by
  simp only [decMa, h3, h5, mdOf_mdCode]
  exact given_of (both_zeros h1 h4) (by rw [accOf1_of_bits h2])

theorem decMa_encM (op : Nat) (a : Acc) (d : MD) (f) (hop : op < 2 ^ 8 := by decide) :
    Decodes (decMa · f) op (encM op (accBit a) d) (f a d) := by
  have ha : accBit a < 2 ^ 1 := accBit_lt a
  obtain ⟨h0, -, h2, h3, h4⟩ := fields_encM (d := d) hop (lt_width ha)
  have hl : mdCode d * 2 ^ 13 + mdImm d < 2 ^ 20 := join_lt (k := 7) (mdCode_lt d) (lt_width (k := 8) (mdImm_lt d))
  have h5 : bits (encM op (accBit a) d) 20 20 = accBit a := by
    rw [encM_eq]; exact bits_under (bits_top ha hl)
  have h6 : bits (encM op (accBit a) d) 23 21 = 0 := by
    rw [encM_eq]; exact bits_under (bits_above (join_lt ha hl))
  exact ⟨h0, decMa_of h6 h5 h2 h3 h4⟩

theorem fields_encS {op : Nat} {d : MD} {a : Acc} {k : Fin 32} {b : Bool} (hop : op < 2 ^ 8) :
    bits (encS op d a k b) 31 24 = op ∧ bits (encS op d a k b) 23 17 = mdCode d ∧ bits (encS op d a k b) 16 16 = accBit a ∧
      bits (encS op d a k b) 15 8 = mdImm d ∧ bits (encS op d a k b) 7 7 = b.toNat ∧ bits (encS op d a k b) 6 5 = 0 ∧
      bits (encS op d a k b) 4 0 = k := by
  have hc : mdCode d < 2 ^ 7 := mdCode_lt d
  have hi : mdImm d < 2 ^ 8 := mdImm_lt d
  have hb : b.toNat < 2 ^ 1 := b.toNat_lt
  have h1 : k.val < 2 ^ 7 := lt_width (k := 5) k.isLt
  have h2 : _ < 2 ^ 8 := join_lt hb h1
  have h3 : _ < 2 ^ 16 := join_lt hi h2
  have h4 : _ < 2 ^ 17 := join_lt (accBit_lt a) h3
  rw [encS_eq]
  exact ⟨bits_top hop (join_lt hc h4), bits_under (bits_top hc h4), bits_under (bits_under (bits_top (accBit_lt a) h3)),
    bits_under (bits_under (bits_under (bits_top hi h2))), bits_under (bits_under (bits_under (bits_under (bits_top hb h1)))),
    bits_under (bits_under (bits_under (bits_under (bits_under (bits_above k.isLt))))),
    bits_under (bits_under (bits_under (bits_under (bits_under (bits_all k.isLt)))))⟩

theorem decS_of {w : Nat} {d : MD} {a : Acc} {k : Fin 32} {b : Bool} {f : MD → Acc → Fin 32 → Bool → Instr}
    (h1 : bits w 23 17 = mdCode d) (h2 : bits w 16 16 = accBit a) (h3 : bits w 15 8 = mdImm d) (h4 : bits w 7 7 = b.toNat)
    (h5 : bits w 6 5 = 0) (h6 : bits w 4 0 = k) : decS w f = some (f d a k b) := by
  simp only [decS, h1, h3, mdOf_mdCode]
  exact given_of (zeros_of h5) (by rw [accOf1_of_bits h2, h6, bitOn_of_bits h4, Fin.ofNat_val_eq_self])

theorem decS_encS (op : Nat) (d : MD) (a : Acc) (k : Fin 32) (b : Bool) (f) (hop : op < 2 ^ 8 := by decide) :
    Decodes (decS · f) op (encS op d a k b) (f d a k b) := by
  obtain ⟨h0, h1, h2, h3, h4, h5, h6⟩ := fields_encS (d := d) (a := a) (k := k) (b := b) hop
  exact ⟨h0, decS_of h1 h2 h3 h4 h5 h6⟩

theorem fields_encAr {op g low : Nat} {a : Acc} (hop : op < 2 ^ 8) (hg : g < 2 ^ 4) (hl : low < 2 ^ 16) :
    bits (encAr op g a low) 31 24 = op ∧ bits (encAr op g a low) 23 20 = g ∧ bits (encAr op g a low) 19 17 = 0 ∧
      bits (encAr op g a low) 16 16 = accBit a ∧
      ∀ hi lo, lo ≤ hi + 1 ∧ hi < 16 → bits (encAr op g a low) hi lo = bits low hi lo := by
  have h1 : _ < 2 ^ 17 := join_lt (accBit_lt a) hl
  have h2 : _ < 2 ^ 20 := lt_width h1
  rw [encAr_eq]
  refine ⟨bits_top hop (join_lt hg h2), bits_under (bits_top hg h2), bits_under (bits_under (bits_above h1)),
    bits_under (bits_under (bits_top (accBit_lt a) hl)), fun hi lo h => ?_⟩
  rw [bits_skip ⟨h.1, h.2.trans (by decide)⟩, bits_skip ⟨h.1, h.2.trans (by decide)⟩, bits_skip h]

/-- Bits [23:17] of a word of format AR without a register. -/
theorem high_encAr {op low : Nat} {a : Acc} (hl : low < 2 ^ 16) : bits (encAr op 0 a low) 23 17 = 0 := by
  rw [encAr_low]
  exact bits_under (bits_above (join_lt (accBit_lt a) hl))

/-- A count of six bits in the low half. -/
theorem count_half (k : BitVec 6) : k.toNat < 2 ^ 16 ∧ bits k.toNat 15 6 = 0 ∧ bits k.toNat 5 0 = k.toNat :=
  ⟨lt_width k.isLt, bits_above k.isLt, bits_all k.isLt⟩

theorem decA_encAr (op : Nat) (a : Acc) (f) (hop : op < 2 ^ 8 := by decide) : Decodes (decA · f) op (encAr op 0 a 0) (f a) := by
  obtain ⟨h0, -, -, h3, h4⟩ := fields_encAr (a := a) hop (show 0 < 2 ^ 4 by decide) (show 0 < 2 ^ 16 by decide)
  exact ⟨h0, given_of (both_zeros (high_encAr (by decide)) ((h4 15 0 (by decide)).trans (bits_zero _ _))) (by rw [accOf1_of_bits h3])⟩

theorem decAk_encAr (op : Nat) (a : Acc) (k : BitVec 6) (f) (hop : op < 2 ^ 8 := by decide) :
    Decodes (decAk · f) op (encAr op 0 a k.toNat) (f a k) := by
  obtain ⟨hk, hz, hv⟩ := count_half k
  obtain ⟨h0, -, -, h3, h4⟩ := fields_encAr (a := a) hop (show 0 < 2 ^ 4 by decide) hk
  exact ⟨h0, given_of (both_zeros (high_encAr hk) ((h4 15 6 (by decide)).trans hz))
    (by rw [accOf1_of_bits h3, ofNat_of ((h4 5 0 (by decide)).trans hv)])⟩

theorem decAgk_encAr (op : Nat) (g : Fin 16) (a : Acc) (k : BitVec 6) (f) (hop : op < 2 ^ 8 := by decide) :
    Decodes (decAgk · f) op (encAr op g a k.toNat) (f g a k) := by
  obtain ⟨hk, hz, hv⟩ := count_half k
  obtain ⟨h0, h1, h2, h3, h4⟩ := fields_encAr (a := a) hop g.isLt hk
  exact ⟨h0, given_of (both_zeros h2 ((h4 15 6 (by decide)).trans hz))
    (by rw [h1, idx4_fin, accOf1_of_bits h3, ofNat_of ((h4 5 0 (by decide)).trans hv)])⟩

theorem decAg_encAr (op : Nat) (g : Fin 16) (a : Acc) (f) (hop : op < 2 ^ 8 := by decide) :
    Decodes (decAg · f) op (encAr op g a 0) (f g a) := by
  obtain ⟨h0, h1, h2, h3, h4⟩ := fields_encAr (a := a) hop g.isLt (show 0 < 2 ^ 16 by decide)
  exact ⟨h0, given_of (both_zeros h2 ((h4 15 0 (by decide)).trans (bits_zero _ _))) (by rw [h1, idx4_fin, accOf1_of_bits h3])⟩

theorem rda_encAr {n : Fin 160} (op : Nat) (g : Fin 16) (a : Acc) (k : BitVec 6) (wide sat : Bool) (hop : op < 2 ^ 8 := by decide) :
    Decodes (fun v => given (zeros v 19 17 && zeros v 15 8)
      (.rda n (idx4 (bits v 23 20)) (accOf1 (bitOn v 16)) (BitVec.ofNat 6 (bits v 5 0)) (bitOn v 6) (bitOn v 7))) op
      (encAr op g a (bit1 sat 7 + bit1 wide 6 + k.toNat)) (.rda n g a k wide sat) := by
  have hw : wide.toNat < 2 ^ 1 := wide.toNat_lt
  have hs : sat.toNat < 2 ^ 1 := sat.toNat_lt
  have l1 : _ < 2 ^ 7 := join_lt hw k.isLt
  have l2 : _ < 2 ^ 8 := join_lt hs l1
  rw [encAr_rda]
  obtain ⟨h0, h1, h2, h3, h4⟩ := fields_encAr (a := a) hop g.isLt (lt_width l2)
  have hz := (h4 15 8 (by decide)).trans (bits_above l2)
  have h7 := (h4 7 7 (by decide)).trans (bits_top hs l1)
  have h6 := (h4 6 6 (by decide)).trans (bits_under (bits_top hw k.isLt))
  have h5 := (h4 5 0 (by decide)).trans (bits_under (bits_under (bits_all k.isLt)))
  exact ⟨h0, given_of (both_zeros h2 hz)
    (by rw [h1, idx4_fin, accOf1_of_bits h3, ofNat_of h5, bitOn_of_bits h6, bitOn_of_bits h7])⟩

theorem fields_encP {op p g : Nat} {x : Fin 8} {b : Bool} (hop : op < 2 ^ 8) (hp : p < 2 ^ 4) (hg : g < 2 ^ 4) :
    bits (encP op p g x b) 31 24 = op ∧ bits (encP op p g x b) 23 20 = p ∧ bits (encP op p g x b) 19 16 = g ∧
      bits (encP op p g x b) 15 15 = b.toNat ∧ bits (encP op p g x b) 14 12 = x ∧ bits (encP op p g x b) 11 0 = 0 := by
  have hb : b.toNat < 2 ^ 1 := b.toNat_lt
  have h1 : x.val * 2 ^ 12 < 2 ^ 15 := last_lt (k := 3) x.isLt
  have h2 : _ < 2 ^ 16 := join_lt hb h1
  have h3 : _ < 2 ^ 20 := join_lt hg h2
  rw [encP_eq]
  exact ⟨bits_top hop (join_lt hp h3), bits_under (bits_top hp h3), bits_under (bits_under (bits_top hg h2)),
    bits_under (bits_under (bits_under (bits_top hb h1))), bits_under (bits_under (bits_under (bits_under (bits_last x.isLt)))),
    bits_under (bits_under (bits_under (bits_under bits_below)))⟩

theorem decP_encP (op : Nat) (p : Fin 16) (x : Fin 8) (b : Bool) (f) (hop : op < 2 ^ 8 := by decide) :
    Decodes (decP · f) op (encP op p 0 x b) (f p x b) := by
  obtain ⟨h0, h1, h2, h3, h4, h5⟩ := fields_encP (x := x) (b := b) hop p.isLt (show 0 < 2 ^ 4 by decide)
  exact ⟨h0, given_of (both_zeros h2 h5) (by rw [h1, idx4_fin, h4, idx3_fin, bitOn_of_bits h3])⟩

theorem decPm_encP (op : Nat) (g : Fin 16) (x : Fin 8) (b : Bool) (f) (hop : op < 2 ^ 8 := by decide) :
    Decodes (decPm · f) op (encP op 0 g x b) (f g x b) := by
  obtain ⟨h0, h1, h2, h3, h4, h5⟩ := fields_encP (x := x) (b := b) hop (show 0 < 2 ^ 4 by decide) g.isLt
  exact ⟨h0, given_of (both_zeros h1 h5) (by rw [h2, idx4_fin, h4, idx3_fin, bitOn_of_bits h3])⟩

theorem mbrecv_encP {n : Fin 160} (op : Nat) (x : Fin 8) (b : Bool) (hop : op < 2 ^ 8 := by decide) :
    Decodes (fun v => given (zeros v 23 16 && zeros v 11 0) (.mbrecv n (idx3 (bits v 14 12)) (bitOn v 15))) op
      (encP op 0 0 x b) (.mbrecv n x b) := by
  obtain ⟨h0, -, -, h3, h4, h5⟩ := fields_encP (x := x) (b := b) hop (show 0 < 2 ^ 4 by decide) (show 0 < 2 ^ 4 by decide)
  have hl : b.toNat * 2 ^ 15 + x.val * 2 ^ 12 < 2 ^ 16 := join_lt (k := 1) b.toNat_lt (last_lt (k := 3) x.isLt)
  have hz : bits (encP op 0 0 x b) 23 16 = 0 := by rw [encP_mbrecv]; exact bits_under (bits_above hl)
  exact ⟨h0, given_of (both_zeros hz h5) (by rw [h4, idx3_fin, bitOn_of_bits h3])⟩

theorem fields_encRp {op e low : Nat} (hop : op < 2 ^ 8) (he : e < 2 ^ 8) (hl : low < 2 ^ 16) :
    bits (encRp op e low) 31 24 = op ∧ bits (encRp op e low) 23 16 = e ∧
      ∀ hi lo, lo ≤ hi + 1 ∧ hi < 16 → bits (encRp op e low) hi lo = bits low hi lo := by
  rw [encRp_eq]
  refine ⟨bits_top hop (join_lt he hl), bits_under (bits_top he hl), fun hi lo h => ?_⟩
  rw [bits_skip ⟨h.1, h.2.trans (by decide)⟩, bits_skip h]

theorem rpt_encRp {n : Fin 160} (op : Nat) (k : Half) (hop : op < 2 ^ 8 := by decide) :
    Decodes (fun v => given (zeros v 23 16) (.rpt n (BitVec.ofNat 16 (bits v 15 0)))) op (encRp op 0 k.toNat) (.rpt n k) := by
  obtain ⟨h0, h1, h2⟩ := fields_encRp hop (show 0 < 2 ^ 8 by decide) k.isLt
  exact ⟨h0, given_of (zeros_of h1) (by rw [ofNat_of ((h2 15 0 (by decide)).trans (bits_all k.isLt))])⟩

theorem rptb_encRp {n : Fin 160} (op : Nat) (k : Half) (e : BitVec 8) (hop : op < 2 ^ 8 := by decide) :
    Decodes (fun v => some (.rptb n (BitVec.ofNat 16 (bits v 15 0)) (BitVec.ofNat 8 (bits v 23 16)))) op
      (encRp op e.toNat k.toNat) (.rptb n k e) := by
  obtain ⟨h0, h1, h2⟩ := fields_encRp hop e.isLt k.isLt
  exact ⟨h0, congrArg some (by rw [ofNat_of h1, ofNat_of ((h2 15 0 (by decide)).trans (bits_all k.isLt))])⟩

theorem rptReg_encRp {n : Fin 160} (op : Nat) (g : Fin 16) (hop : op < 2 ^ 8 := by decide) :
    Decodes (fun v => given (zeros v 23 4) (.rptReg n (idx4 (bits v 3 0)))) op (encRp op 0 g) (.rptReg n g) := by
  rw [encRp_low]
  exact ⟨bits_top hop (lt_width (k := 4) g.isLt), given_of (zeros_of (bits_under (bits_above g.isLt)))
    (by rw [idx4_of (bits_under (bits_all g.isLt))])⟩

theorem rptbReg_encRp {n : Fin 160} (op : Nat) (g : Fin 16) (e : BitVec 8) (hop : op < 2 ^ 8 := by decide) :
    Decodes (fun v => given (zeros v 15 4) (.rptbReg n (idx4 (bits v 3 0)) (BitVec.ofNat 8 (bits v 23 16)))) op
      (encRp op e.toNat g) (.rptbReg n g e) := by
  obtain ⟨h0, h1, h2⟩ := fields_encRp hop e.isLt (lt_width (k := 4) g.isLt)
  exact ⟨h0, given_of (zeros_of ((h2 15 4 (by decide)).trans (bits_above g.isLt)))
    (by rw [ofNat_of h1, idx4_of ((h2 3 0 (by decide)).trans (bits_all g.isLt))])⟩

/-! ### The multiplies -/

theorem mdImm_of_not_byImm {d : MD} (h : (modCode d.mod).1 ≠ 2) : mdImm d = 0 := by
  unfold mdImm
  cases hd : d.mod <;> simp_all [modCode]

/-- The first word of format X carries every operand but the immediates and the parallel load. -/
structure XWord (w : Nat) (sub clr : Bool) (m : MulMem) : Prop where
  op : bits w 31 24 = 0x60
  acc : bits w 23 23 = accBit m.acc
  sm : bits w 22 21 = smCode m.sm
  sub : bits w 20 20 = sub.toNat
  selA : bits w 19 18 = selCode m.selA
  selB : bits w 17 16 = selCode m.selB
  mda : bits w 15 9 = mdCode m.mda
  modA : bits w 10 9 = (modCode m.mda.mod).1
  mdb : bits w 8 2 = mdCode m.mdb
  modB : bits w 3 2 = (modCode m.mdb.mod).1
  pl : bits w 1 1 = m.pl.isSome.toNat
  clr : bits w 0 0 = clr.toNat

theorem bits_mod {w hi up lo : Nat} {d : MD} (h : bits w hi lo = mdCode d) (hw : hi + 1 - lo = 7 ∧ up + 1 - lo = 2 := by decide) :
    bits w up lo = (modCode d.mod).1 := by
  have hd := modCode_fst_lt d.mod
  have hm : mdCode d % 4 = (modCode d.mod).1 := by unfold mdCode; omega
  rw [← hm, ← h, bits, bits, hw.1, hw.2]
  exact (Nat.mod_mod_of_dvd (w / 2 ^ lo) (by decide : 2 ^ 2 ∣ 2 ^ 7)).symm

theorem fields_encX (sub clr : Bool) (m : MulMem) :
    bits (encX sub clr m) 31 24 = 0x60 ∧ bits (encX sub clr m) 23 23 = accBit m.acc ∧ bits (encX sub clr m) 22 21 = smCode m.sm ∧
      bits (encX sub clr m) 20 20 = sub.toNat ∧ bits (encX sub clr m) 19 18 = selCode m.selA ∧
      bits (encX sub clr m) 17 16 = selCode m.selB ∧ bits (encX sub clr m) 15 9 = mdCode m.mda ∧
      bits (encX sub clr m) 8 2 = mdCode m.mdb ∧ bits (encX sub clr m) 1 1 = m.pl.isSome.toNat ∧
      bits (encX sub clr m) 0 0 = clr.toNat := by
  have hacc := accBit_lt m.acc
  have hsm : smCode m.sm < 2 ^ 2 := smCode_lt m.sm
  have hA : selCode m.selA < 2 ^ 2 := selCode_lt m.selA
  have hB : selCode m.selB < 2 ^ 2 := selCode_lt m.selB
  have ha : mdCode m.mda < 2 ^ 7 := mdCode_lt m.mda
  have hb : mdCode m.mdb < 2 ^ 7 := mdCode_lt m.mdb
  have hs : sub.toNat < 2 ^ 1 := sub.toNat_lt
  have hc : clr.toNat < 2 ^ 1 := clr.toNat_lt
  have hp : m.pl.isSome.toNat < 2 ^ 1 := m.pl.isSome.toNat_lt
  have l1 : _ < 2 ^ 2 := join_lt hp hc
  have l2 : _ < 2 ^ 9 := join_lt hb l1
  have l3 : _ < 2 ^ 16 := join_lt ha l2
  have l4 : _ < 2 ^ 18 := join_lt hB l3
  have l5 : _ < 2 ^ 20 := join_lt hA l4
  have l6 : _ < 2 ^ 21 := join_lt hs l5
  have l7 : _ < 2 ^ 23 := join_lt hsm l6
  have l8 : _ < 2 ^ 24 := join_lt hacc l7
  rw [encX_eq]
  exact ⟨bits_top (by decide) l8, bits_under (bits_top hacc l7), bits_under (bits_under (bits_top hsm l6)),
    bits_under (bits_under (bits_under (bits_top hs l5))), bits_under (bits_under (bits_under (bits_under (bits_top hA l4)))),
    bits_under (bits_under (bits_under (bits_under (bits_under (bits_top hB l3))))),
    bits_under (bits_under (bits_under (bits_under (bits_under (bits_under (bits_top ha l2)))))),
    bits_under (bits_under (bits_under (bits_under (bits_under (bits_under (bits_under (bits_top hb l1))))))),
    bits_under (bits_under (bits_under (bits_under (bits_under (bits_under (bits_under (bits_under (bits_top hp hc)))))))),
    bits_under (bits_under (bits_under (bits_under (bits_under (bits_under (bits_under (bits_under (bits_under (bits_all hc)))))))))⟩

theorem encX_xWord (sub clr : Bool) (m : MulMem) : XWord (encX sub clr m) sub clr m := by
  obtain ⟨hop, hacc, hsm, hs, hA, hB, ha, hb, hp, hc⟩ := fields_encX sub clr m
  exact ⟨hop, hacc, hsm, hs, hA, hB, ha, bits_mod ha, hb, bits_mod hb, hp, hc⟩

/-- Such a word has an extension word exactly where a descriptor has an immediate or there is a parallel load (R172). -/
theorem XWord.wordCount_two {w : Nat} {sub clr : Bool} {m : MulMem} (h : XWord w sub clr m) :
    wordCount w = 2 ↔ m.pl.isSome = true ∨ (modCode m.mda.mod).1 = 2 ∨ (modCode m.mdb.mod).1 = 2 := by
  cases hp : m.pl <;> simp [wordCount, h.op, bitOn_of_bits h.pl, h.modA, h.modB, hp, or_iff_not_imp_left]

theorem bits_encExt_imm (m : MulMem) : bits (encExt m) 15 8 = mdImm m.mda ∧ bits (encExt m) 7 0 = mdImm m.mdb := by
  have ha : mdImm m.mda < 2 ^ 8 := mdImm_lt m.mda
  have hb : mdImm m.mdb < 2 ^ 8 := mdImm_lt m.mdb
  cases h : m.pl with
  | none =>
    rw [encExt_none h]
    exact ⟨bits_top ha hb, bits_under (bits_all hb)⟩
  | some p =>
    rw [encExt_some h]
    exact ⟨bits_under (bits_under (bits_under (bits_top ha hb))),
      bits_under (bits_under (bits_under (bits_under (bits_all hb))))⟩

theorem plOf_encExt {m : MulMem} {p : PLoad} (h : m.pl = some p) : plOf (encExt m) = some p := by
  have hm : p.byM.toNat < 2 ^ 1 := p.byM.toNat_lt
  have l1 : mdImm m.mda * 2 ^ 8 + mdImm m.mdb < 2 ^ 16 := join_lt (k := 8) (mdImm_lt m.mda) (mdImm_lt m.mdb)
  have l2 : _ < 2 ^ 23 := lt_width l1
  have l3 : _ < 2 ^ 24 := join_lt hm l2
  have l4 : _ < 2 ^ 25 := lt_width l3
  have h1 : bits (encExt m) 24 24 = 0 ∧ bits (encExt m) 22 16 = 0 := by
    rw [encExt_some h]
    exact ⟨bits_under (bits_under (bits_above l3)), bits_under (bits_under (bits_under (bits_above l1)))⟩
  have h2 : bits (encExt m) 31 28 = p.gp ∧ bits (encExt m) 27 25 = p.xp ∧ bits (encExt m) 23 23 = p.byM.toNat := by
    rw [encExt_some h]
    exact ⟨bits_top p.gp.isLt (join_lt p.xp.isLt l4), bits_under (bits_top p.xp.isLt l4), bits_under (bits_under (bits_top hm l2))⟩
  obtain ⟨hgp, hxp, hby⟩ := h2
  rw [plOf, if_pos h1, hgp, hxp, bitOn_of_bits hby, idx4_fin, idx3_fin]

theorem bits_encExt_high {m : MulMem} (h : m.pl = none) : bits (encExt m) 31 16 = 0 := by
  rw [encExt_none h]
  exact bits_above (join_lt (k := 8) (mdImm_lt m.mda) (mdImm_lt m.mdb))

/-- The immediates of format X stand in its extension word, or are not there. -/
theorem XWord.imms {w : Nat} {sub clr : Bool} {m : MulMem} (h : XWord w sub clr m) :
    (if wordCount w = 2 then bits (encExt m) 15 8 else 0) = mdImm m.mda ∧
      (if wordCount w = 2 then bits (encExt m) 7 0 else 0) = mdImm m.mdb := by
  obtain ⟨ha, hb⟩ := bits_encExt_imm m
  by_cases hw : wordCount w = 2
  · simp [hw, ha, hb]
  · obtain ⟨-, hna, hnb⟩ : _ ∧ _ ∧ _ := by simpa only [h.wordCount_two, not_or] using hw
    simp [hw, mdImm_of_not_byImm hna, mdImm_of_not_byImm hnb]

theorem XWord.decX {n : Fin 160} {w : Nat} {sub clr : Bool} {m : MulMem} {f : MulMem → Instr} (h : XWord w sub clr m)
    (hf : mulPick sub clr (Instr.mac n) (Instr.msu n) (Instr.mpy n) = some f) : decX n w (encExt m) = some (f m) := by
  obtain ⟨hia, hib⟩ := h.imms
  simp only [Machine.decX, hia, hib, h.mda, h.mdb, mdOf_mdCode, bitOn_of_bits h.sub, bitOn_of_bits h.clr, hf, h.sm, h.selA, h.selB,
    accOf1_of_bits h.acc, smOf_smCode, selOf_selCode, bitOn_of_bits h.pl]
  cases hp : m.pl with
  | none => simp [bits_encExt_high hp, ← hp]
  | some p =>
    simp only [Option.isSome_some, if_true, plOf_encExt hp]
    rw [← hp]

theorem decX_encX {n : Fin 160} {sub clr : Bool} (m : MulMem) {f : MulMem → Instr}
    (hf : mulPick sub clr (Instr.mac n) (Instr.msu n) (Instr.mpy n) = some f) :
    Decodes (decX n · (encExt m)) 0x60 (encX sub clr m) (f m) :=
  ⟨(encX_xWord sub clr m).op, (encX_xWord sub clr m).decX hf⟩

theorem fields_encXr (sub clr : Bool) (m : MulReg) :
    bits (encXr sub clr m) 31 24 = 0x61 ∧ bits (encXr sub clr m) 23 23 = accBit m.acc ∧ bits (encXr sub clr m) 22 21 = smCode m.sm ∧
      bits (encXr sub clr m) 20 20 = sub.toNat ∧ bits (encXr sub clr m) 19 18 = selCode m.selA ∧
      bits (encXr sub clr m) 17 16 = selCode m.selB ∧ bits (encXr sub clr m) 15 12 = m.ga ∧ bits (encXr sub clr m) 11 8 = m.gb ∧
      bits (encXr sub clr m) 7 1 = 0 ∧ bits (encXr sub clr m) 0 0 = clr.toNat := by
  have hacc := accBit_lt m.acc
  have hsm : smCode m.sm < 2 ^ 2 := smCode_lt m.sm
  have hA : selCode m.selA < 2 ^ 2 := selCode_lt m.selA
  have hB : selCode m.selB < 2 ^ 2 := selCode_lt m.selB
  have hs : sub.toNat < 2 ^ 1 := sub.toNat_lt
  have hc : clr.toNat < 2 ^ 1 := clr.toNat_lt
  have l1 : _ < 2 ^ 8 := lt_width hc
  have l2 : _ < 2 ^ 12 := join_lt m.gb.isLt l1
  have l3 : _ < 2 ^ 16 := join_lt m.ga.isLt l2
  have l4 : _ < 2 ^ 18 := join_lt hB l3
  have l5 : _ < 2 ^ 20 := join_lt hA l4
  have l6 : _ < 2 ^ 21 := join_lt hs l5
  have l7 : _ < 2 ^ 23 := join_lt hsm l6
  have l8 : _ < 2 ^ 24 := join_lt hacc l7
  rw [encXr_eq]
  exact ⟨bits_top (by decide) l8, bits_under (bits_top hacc l7), bits_under (bits_under (bits_top hsm l6)),
    bits_under (bits_under (bits_under (bits_top hs l5))), bits_under (bits_under (bits_under (bits_under (bits_top hA l4)))),
    bits_under (bits_under (bits_under (bits_under (bits_under (bits_top hB l3))))),
    bits_under (bits_under (bits_under (bits_under (bits_under (bits_under (bits_top m.ga.isLt l2)))))),
    bits_under (bits_under (bits_under (bits_under (bits_under (bits_under (bits_under (bits_top m.gb.isLt l1))))))),
    bits_under (bits_under (bits_under (bits_under (bits_under (bits_under (bits_under (bits_under (bits_above hc)))))))),
    bits_under (bits_under (bits_under (bits_under (bits_under (bits_under (bits_under (bits_under (bits_all hc))))))))⟩

theorem decXr_of {n : Fin 160} {w : Nat} {sub clr : Bool} {m : MulReg} {f : MulReg → Instr}
    (hf : mulPick sub clr (Instr.macr n) (Instr.msur n) (Instr.mpyr n) = some f) (hacc : bits w 23 23 = accBit m.acc)
    (hsm : bits w 22 21 = smCode m.sm) (hsub : bits w 20 20 = sub.toNat) (hA : bits w 19 18 = selCode m.selA)
    (hB : bits w 17 16 = selCode m.selB) (hga : bits w 15 12 = m.ga) (hgb : bits w 11 8 = m.gb) (hz : bits w 7 1 = 0)
    (hclr : bits w 0 0 = clr.toNat) : decXr n w = some (f m) := by
  simp only [decXr, bitOn_of_bits hsub, bitOn_of_bits hclr, hf]
  exact given_of (zeros_of hz) (by rw [accOf1_of_bits hacc, hsm, smOf_smCode, hA, hB, selOf_selCode, selOf_selCode, hga, hgb,
    idx4_fin, idx4_fin])

theorem decXr_encXr {n : Fin 160} {sub clr : Bool} (m : MulReg) {f : MulReg → Instr}
    (hf : mulPick sub clr (Instr.macr n) (Instr.msur n) (Instr.mpyr n) = some f) : Decodes (decXr n) 0x61 (encXr sub clr m) (f m) := by
  obtain ⟨h0, hacc, hsm, hsub, hA, hB, hga, hgb, hz, hclr⟩ := fields_encXr sub clr m
  exact ⟨h0, decXr_of hf hacc hsm hsub hA hB hga hgb hz hclr⟩

/-! ### Decoding what the encoder gives (O54) -/

section

variable {n : Fin 160} {w x op : Nat} {i : Instr} {d : Nat → Option Instr}

/-- A word of the first part of the codes is decoded by the decoder `d` that its code selects. -/
theorem decode_low (h : Decodes d op w i) (hop : op < 0x38 := by decide)
    (harm : ∀ v, bits v 31 24 = op → decLow n v x = d v := by intro v hv; unfold decLow; rw [hv]; rfl) : decodeTabxo n w x = some i := by
  obtain ⟨hw, hd⟩ := h
  rw [decodeTabxo, hw, if_pos hop, harm w hw, hd]

theorem decode_mid (h : Decodes d op w i) (hop : ¬ op < 0x38 ∧ op < 0x68 := by decide)
    (harm : ∀ v, bits v 31 24 = op → decMid n v x = d v := by intro v hv; unfold decMid; rw [hv]; rfl) : decodeTabxo n w x = some i := by
  obtain ⟨hw, hd⟩ := h
  rw [decodeTabxo, hw, if_neg hop.1, if_pos hop.2, harm w hw, hd]

theorem decode_high (h : Decodes d op w i) (hop : ¬ op < 0x38 ∧ ¬ op < 0x68 := by decide)
    (harm : ∀ v, bits v 31 24 = op → decHigh n v = d v := by intro v hv; unfold decHigh; rw [hv]; rfl) : decodeTabxo n w x = some i := by
  obtain ⟨hw, hd⟩ := h
  rw [decodeTabxo, hw, if_neg hop.1, if_neg hop.2, harm w hw, hd]

end

/-- What is decoded from the words of an instruction is decoded from all that the encoder can give. -/
theorem decoded {m n : Fin 160} {w x v y : Nat} {i : Instr} (hs : some m = some n) (h : decodeTabxo m w x = some i)
    (he : some (w, x) = some (v, y)) : decodeTabxo n v y = some i := by
  rw [Option.some.injEq] at hs
  rw [Option.some.injEq, Prod.mk.injEq] at he
  rw [← hs, ← he.1, ← he.2, h]

/-- Settles O54: by cases on the instruction, each with the lemma of its format. -/
theorem tabxoDecodeEncode : Obligations.TabxoDecodeEncode := by
  intro i n w x hs
  cases i with
  | b _ t => exact decoded hs <| decode_low <| decB_encI _ t (.b _)
  | call _ t => exact decoded hs <| decode_low <| decB_encI _ t (.call _)
  | add _ gd ga gb => exact decoded hs <| decode_low <| decR_encR _ gd ga gb (.add _)
  | addc _ gd ga gb => exact decoded hs <| decode_low <| decR_encR _ gd ga gb (.addc _)
  | sub _ gd ga gb => exact decoded hs <| decode_low <| decR_encR _ gd ga gb (.sub _)
  | subb _ gd ga gb => exact decoded hs <| decode_low <| decR_encR _ gd ga gb (.subb _)
  | and _ gd ga gb => exact decoded hs <| decode_low <| decR_encR _ gd ga gb (.and _)
  | or _ gd ga gb => exact decoded hs <| decode_low <| decR_encR _ gd ga gb (.or _)
  | xor _ gd ga gb => exact decoded hs <| decode_low <| decR_encR _ gd ga gb (.xor _)
  | min _ gd ga gb => exact decoded hs <| decode_low <| decR_encR _ gd ga gb (.min _)
  | max _ gd ga gb => exact decoded hs <| decode_low <| decR_encR _ gd ga gb (.max _)
  | shl _ gd ga gb => exact decoded hs <| decode_low <| decR_encR _ gd ga gb (.shl _)
  | shr _ gd ga gb => exact decoded hs <| decode_low <| decR_encR _ gd ga gb (.shr _)
  | sar _ gd ga gb => exact decoded hs <| decode_low <| decR_encR _ gd ga gb (.sar _)
  | cmp _ ga gb => exact decoded hs <| decode_low <| decRab_encR _ ga gb (.cmp _)
  | tst _ ga gb => exact decoded hs <| decode_low <| decRab_encR _ ga gb (.tst _)
  | mov _ gd ga => exact decoded hs <| decode_low <| decR2_encR _ gd ga (.mov _)
  | neg _ gd ga => exact decoded hs <| decode_low <| decR2_encR _ gd ga (.neg _)
  | abs _ gd ga => exact decoded hs <| decode_low <| decR2_encR _ gd ga (.abs _)
  | not _ gd ga => exact decoded hs <| decode_low <| decR2_encR _ gd ga (.not _)
  | rdreg _ gd ga => exact decoded hs <| decode_high <| decR2_encR _ gd ga (.rdreg _)
  | addi _ gd ga k => exact decoded hs <| decode_low <| decI_encI _ gd ga k (.addi _)
  | andi _ gd ga k => exact decoded hs <| decode_low <| decI_encI _ gd ga k (.andi _)
  | ori _ gd ga k => exact decoded hs <| decode_low <| decI_encI _ gd ga k (.ori _)
  | xori _ gd ga k => exact decoded hs <| decode_low <| decI_encI _ gd ga k (.xori _)
  | shli _ gd ga k => exact decoded hs <| decode_low <| decSh_encI _ gd ga k (.shli _)
  | shri _ gd ga k => exact decoded hs <| decode_low <| decSh_encI _ gd ga k (.shri _)
  | sari _ gd ga k => exact decoded hs <| decode_low <| decSh_encI _ gd ga k (.sari _)
  | ldi _ gd k => exact decoded hs <| decode_low <| decId_encI _ gd k (.ldi _)
  | lui _ gd k => exact decoded hs <| decode_low <| decId_encI _ gd k (.lui _)
  | nop _ => exact decoded hs <| decode_low <| bare_encR _ _
  | wdk _ => exact decoded hs <| decode_low <| bare_encR _ _
  | clrs _ => exact decoded hs <| decode_low <| bare_encR _ _
  | ret _ => exact decoded hs <| decode_low <| bare_encR _ _
  | rdid _ gd => exact decoded hs <| decode_low <| rdid_encR _ gd
  | bcc _ c t => exact decoded hs <| decode_low <| bcc_encI _ c t
  | br _ ga => exact decoded hs <| decode_low <| br_encR _ ga
  | cmpi _ ga k => exact decoded hs <| decode_low <| cmpi_encI _ ga k
  | ldil _ gd k => exact decoded hs <| decode_low <| ldil_encI _ gd k
  | ldx _ k i imm => exact decoded hs <| decode_mid <| decLdx_encAx _ k i imm
  | mvta _ k i ga => exact decoded hs <| decode_mid <| decAx_encAx _ k i ga (.mvta _)
  | mvfa _ gd k i => exact decoded hs <| decode_mid <| decAx_encAx _ k i gd (fun k i g => Instr.mvfa _ g k i)
  | lea _ d => exact decoded hs <| decode_mid <| decLea_encM _ d
  | ldw _ g d => exact decoded hs <| decode_mid <| decM_encM _ g d (.ldw _)
  | ldh _ g d => exact decoded hs <| decode_mid <| decM_encM _ g d (.ldh _)
  | ldhu _ g d => exact decoded hs <| decode_mid <| decM_encM _ g d (.ldhu _)
  | stw _ g d => exact decoded hs <| decode_mid <| decM_encM _ g d (.stw _)
  | sth _ g d => exact decoded hs <| decode_mid <| decM_encM _ g d (.sth _)
  | lda _ a d => exact decoded hs <| decode_mid <| decMa_encM _ a d (.lda _)
  | addm _ a d => exact decoded hs <| decode_mid <| decMa_encM _ a d (.addm _)
  | st16 _ d a k sat => exact decoded hs <| decode_mid <| decS_encS _ d a k sat (.st16 _)
  | st32 _ d a k sat => exact decoded hs <| decode_mid <| decS_encS _ d a k sat (.st32 _)
  | rda _ gd a k wide sat => exact decoded hs <| decode_mid <| rda_encAr _ gd a k wide sat
  | clr _ a => exact decoded hs <| decode_mid <| decA_encAr _ a (.clr _)
  | adda _ a => exact decoded hs <| decode_mid <| decA_encAr _ a (.adda _)
  | suba _ a => exact decoded hs <| decode_mid <| decA_encAr _ a (.suba _)
  | nega _ a => exact decoded hs <| decode_mid <| decA_encAr _ a (.nega _)
  | acmb _ => exact decoded hs <| decode_mid <| bare_encAr _ _
  | mvga _ a g k => exact decoded hs <| decode_mid <| decAgk_encAr _ g a k (fun g a k => .mvga _ a g k)
  | addga _ a g k => exact decoded hs <| decode_mid <| decAgk_encAr _ g a k (fun g a k => .addga _ a g k)
  | shla _ a k => exact decoded hs <| decode_mid <| decAk_encAr _ a k (.shla _)
  | sara _ a k => exact decoded hs <| decode_mid <| decAk_encAr _ a k (.sara _)
  | norm _ a g => exact decoded hs <| decode_mid <| decAg_encAr _ g a (fun g a => .norm _ a g)
  | exp _ g a => exact decoded hs <| decode_mid <| decAg_encAr _ g a (.exp _)
  | mac _ m => exact decoded hs <| decode_mid <| decX_encX m rfl
  | msu _ m => exact decoded hs <| decode_mid <| decX_encX m rfl
  | mpy _ m => exact decoded hs <| decode_mid <| decX_encX m rfl
  | macr _ m => exact decoded hs <| decode_mid <| decXr_encXr m rfl
  | msur _ m => exact decoded hs <| decode_mid <| decXr_encXr m rfl
  | mpyr _ m => exact decoded hs <| decode_mid <| decXr_encXr m rfl
  | rpt _ k => exact decoded hs <| decode_high <| rpt_encRp _ k
  | rptReg _ g => exact decoded hs <| decode_high <| rptReg_encRp _ g
  | rptb _ k e => exact decoded hs <| decode_high <| rptb_encRp _ k e
  | rptbReg _ g e => exact decoded hs <| decode_high <| rptbReg_encRp _ g e
  | grd _ k => exact decoded hs <| decode_high <| decT_encI k (by decide) rfl
  | waitt _ k mask => exact decoded hs <| decode_high <| decT_encI k mask.isLt (congrArg some (congrArg _ (ofNat_of rfl)))
  | sched _ p k code => exact decoded hs <| decode_high <| sched_encI _ p k code
  | gadj _ k f p => exact decoded hs <| decode_high <| gadj_encI _ k f p
  | gstep _ k clr => exact decoded hs <| decode_high <| flag_encI _ k clr (.gstep _)
  | gbnd _ k lock => exact decoded hs <| decode_high <| flag_encI _ k lock (.gbnd _)
  | chsend _ p x inc => exact decoded hs <| decode_high <| decP_encP _ p x inc (.chsend _)
  | chrecv _ p x inc => exact decoded hs <| decode_high <| decP_encP _ p x inc (.chrecv _)
  | mbsend _ g x inc => exact decoded hs <| decode_high <| decPm_encP _ g x inc (.mbsend _)
  | mbrecv _ x inc => exact decoded hs <| decode_high <| mbrecv_encP _ x inc
  | wrreg _ gb ga => exact decoded hs <| decode_high <| decRab_encR _ ga gb (fun a b => .wrreg _ b a)
  | _ => cases hs

end Sys2Proof.Machine
end

section
/-! The other direction (R172): a word that decodes is the word of its instruction. Each format has one lemma, which finds the operands and
puts the word together again; which instruction of the format it is does not matter to it. -/

namespace Sys2Proof.Machine

set_option Elab.async false

/-- The encoder gives the words of `i` as they were decoded, the second one where there is one. -/
def Encodes (n : Fin 160) (w x : Nat) (i : Instr) : Prop :=
  tabxoSeq i = some n ∧ ∃ y, encodeTabxo i = some (w, y) ∧ (wordCount w = 2 → y = x)

section

variable {n : Fin 160} {w x op : Nat} {i : Instr}

theorem Encodes.one {j : Instr} {v : Nat} (hop : bits w 31 24 = op) (h1 : op ≠ 0x32 ∧ op ≠ 0x60) (hi : j = i)
    (hj : tabxoSeq j = some n ∧ encodeTabxo j = some (v, 0)) (hv : v = w) : Encodes n w x i := by
  subst hi hv
  refine ⟨hj.1, 0, hj.2, fun h => absurd h ?_⟩
  simp [wordCount, hop, h1]

theorem of_both_zeros {w hi lo hi' lo' : Nat} (h : (zeros w hi lo && zeros w hi' lo') = true) : bits w hi lo = 0 ∧ bits w hi' lo' = 0 :=
  (Bool.and_eq_true_iff.mp h).imp of_decide_eq_true of_decide_eq_true

theorem given_inv {p : Bool} {i j : Instr} (h : given p i = some j) : p = true ∧ i = j := given_eq_some.mp h

theorem Encodes.decR (hw : w < 2 ^ 32) (hop : bits w 31 24 = op) {f : Fin 16 → Fin 16 → Fin 16 → Instr}
    (h : decR w f = some i)
    (hf : ∀ a b c, tabxoSeq (f a b c) = some n ∧ encodeTabxo (f a b c) = some (encR op a b c, 0) := by intros; exact ⟨rfl, rfl⟩)
    (h1 : op ≠ 0x32 ∧ op ≠ 0x60 := by decide) : Encodes n w x i := by
  obtain ⟨hz, hi⟩ := given_inv h
  have hz := of_decide_eq_true hz
  refine .one hop h1 hi (hf _ _ _) (word_of hw hop encR_eq <| lowBits_put idx4_bits <| lowBits_put idx4_bits <| lowBits_last idx4_bits ?_)
  exact lowBits_zeros hz

theorem Encodes.decR2 (hw : w < 2 ^ 32) (hop : bits w 31 24 = op) {f : Fin 16 → Fin 16 → Instr} (h : decR2 w f = some i)
    (hf : ∀ a b, tabxoSeq (f a b) = some n ∧ encodeTabxo (f a b) = some (encR op a b 0, 0) := by intros; exact ⟨rfl, rfl⟩)
    (h1 : op ≠ 0x32 ∧ op ≠ 0x60 := by decide) : Encodes n w x i := by
  obtain ⟨hz, hi⟩ := given_inv h
  have hz := of_decide_eq_true hz
  refine .one hop h1 hi (hf _ _) (word_of hw hop (encR_zero.trans encI_eq) <| lowBits_put idx4_bits <| lowBits_put idx4_bits ?_)
  exact (lowBits_zeros hz).symm

theorem Encodes.decRab (hw : w < 2 ^ 32) (hop : bits w 31 24 = op) {f : Fin 16 → Fin 16 → Instr} (h : decRab w f = some i)
    (hf : ∀ a b, tabxoSeq (f a b) = some n ∧ encodeTabxo (f a b) = some (encR op 0 a b, 0) := by intros; exact ⟨rfl, rfl⟩)
    (h1 : op ≠ 0x32 ∧ op ≠ 0x60 := by decide) : Encodes n w x i := by
  obtain ⟨hz, hi⟩ := given_inv h
  obtain ⟨hz, hz'⟩ := of_both_zeros hz
  refine .one hop h1 hi (hf _ _) (word_of hw hop encR_eq <| lowBits_put hz.symm <| lowBits_put idx4_bits <| lowBits_last idx4_bits ?_)
  exact lowBits_zeros hz'

theorem Encodes.decI (hw : w < 2 ^ 32) (hop : bits w 31 24 = op) {f : Fin 16 → Fin 16 → Half → Instr} (h : decI w f = some i)
    (hf : ∀ a b k, tabxoSeq (f a b k) = some n ∧ encodeTabxo (f a b k) = some (encI op a b k.toNat, 0) := by
      intros; exact ⟨rfl, rfl⟩)
    (h1 : op ≠ 0x32 ∧ op ≠ 0x60 := by decide) : Encodes n w x i := by
  refine .one hop h1 (Option.some.inj h) (hf _ _ _) (word_of hw hop encI_eq <| lowBits_put idx4_bits <| lowBits_put idx4_bits ?_)
  exact lowBits_field ofNat_bits

theorem Encodes.decSh (hw : w < 2 ^ 32) (hop : bits w 31 24 = op) {f : Fin 16 → Fin 16 → BitVec 5 → Instr}
    (h : decSh w f = some i)
    (hf : ∀ a b k, tabxoSeq (f a b k) = some n ∧ encodeTabxo (f a b k) = some (encI op a b k.toNat, 0) := by
      intros; exact ⟨rfl, rfl⟩)
    (h1 : op ≠ 0x32 ∧ op ≠ 0x60 := by decide) : Encodes n w x i := by
  obtain ⟨hz, hi⟩ := given_inv h
  have hz := of_decide_eq_true hz
  refine .one hop h1 hi (hf _ _ _) (word_of hw hop encI_eq <| lowBits_put idx4_bits <| lowBits_put idx4_bits <| lowBits_gap hz ?_)
  exact lowBits_field ofNat_bits

theorem Encodes.decId (hw : w < 2 ^ 32) (hop : bits w 31 24 = op) {f : Fin 16 → Half → Instr} (h : decId w f = some i)
    (hf : ∀ a k, tabxoSeq (f a k) = some n ∧ encodeTabxo (f a k) = some (encI op a 0 k.toNat, 0) := by
      intros; exact ⟨rfl, rfl⟩)
    (h1 : op ≠ 0x32 ∧ op ≠ 0x60 := by decide) : Encodes n w x i := by
  obtain ⟨hz, hi⟩ := given_inv h
  have hz := of_decide_eq_true hz
  refine .one hop h1 hi (hf _ _) (word_of hw hop encI_eq <| lowBits_put idx4_bits <| lowBits_put hz.symm ?_)
  exact lowBits_field ofNat_bits

theorem Encodes.decB (hw : w < 2 ^ 32) (hop : bits w 31 24 = op) {f : BitVec 12 → Instr} (h : decB w f = some i)
    (hf : ∀ k, tabxoSeq (f k) = some n ∧ encodeTabxo (f k) = some (encI op 0 0 k.toNat, 0) := by intros; exact ⟨rfl, rfl⟩)
    (h1 : op ≠ 0x32 ∧ op ≠ 0x60 := by decide) : Encodes n w x i := by
  obtain ⟨hz, hi⟩ := given_inv h
  have hz := of_decide_eq_true hz
  refine .one hop h1 hi (hf _) (word_of hw hop encI_low <| lowBits_gap hz ?_)
  exact lowBits_field ofNat_bits

/-- No operand but those in bits [23:0], which are all 0. -/
theorem Encodes.bare (hw : w < 2 ^ 32) (hop : bits w 31 24 = op) {j : Instr} (h : given (zeros w 23 0) j = some i)
    (hj : tabxoSeq j = some n ∧ encodeTabxo j = some (encR op 0 0 0, 0) := by exact ⟨rfl, rfl⟩)
    (h1 : op ≠ 0x32 ∧ op ≠ 0x60 := by decide) : Encodes n w x i := by
  obtain ⟨hz, hi⟩ := given_inv h
  have hz := of_decide_eq_true hz
  refine .one hop h1 hi hj (encR_bare.trans ?_)
  rw [← lowBits_all hw]
  exact lowBits_last hop.symm (lowBits_zeros hz)

theorem Encodes.decAx (hw : w < 2 ^ 32) (hop : bits w 31 24 = op) {f : AxKind → Fin 8 → Fin 16 → Instr} (h : decAx w f = some i)
    (hf : ∀ k a g, tabxoSeq (f k a g) = some n ∧ encodeTabxo (f k a g) = some (encAx op k a (g.val * 2 ^ 12), 0) := by
      intros; exact ⟨rfl, rfl⟩)
    (h1 : op ≠ 0x32 ∧ op ≠ 0x60 := by decide) : Encodes n w x i := by
  unfold Machine.decAx at h
  split at h
  case h_1 k hk =>
    obtain ⟨hz, hi⟩ := given_inv h
    obtain ⟨hz, hz'⟩ := of_both_zeros hz
    refine .one hop h1 hi (hf _ _ _) (word_of hw hop encAx_eq <| lowBits_put (kindCode_of_kindOf hk) <| lowBits_put idx3_bits <|
      lowBits_gap hz <| lowBits_last idx4_bits ?_)
    exact lowBits_zeros hz'
  case h_2 => cases h

theorem Encodes.ldx (hw : w < 2 ^ 32) (hop : bits w 31 24 = 0x38) {k : AxKind} (hk : kindOf (bits w 23 22) = some k)
    (h : given (zeros w 18 16) (.ldx n k (idx3 (bits w 21 19)) (BitVec.ofNat 16 (bits w 15 0))) = some i) : Encodes n w x i := by
  obtain ⟨hz, hi⟩ := given_inv h
  have hz := of_decide_eq_true hz
  refine .one hop (by decide) hi ⟨rfl, rfl⟩ (word_of hw hop encAx_eq <| lowBits_put (kindCode_of_kindOf hk) <| lowBits_put idx3_bits <|
    lowBits_gap hz ?_)
  exact lowBits_field ofNat_bits

theorem mdOf_bits {c d hi lo : Nat} {v y : Nat} {md : MD} (h : mdOf (bits v c d) (bits y hi lo) = some md) (hc : c + 1 - d = 7 := by rfl)
    (hi8 : hi + 1 - lo = 8 := by rfl) : mdCode md = bits v c d ∧ mdImm md = bits y hi lo :=
  mdCode_of_mdOf (by simpa [hc] using bits_lt v c d) (by simpa [hi8] using bits_lt y hi lo) h

theorem Encodes.lea (hw : w < 2 ^ 32) (hop : bits w 31 24 = 0x3B) {d : MD} (hd : mdOf (bits w 19 13) (bits w 7 0) = some d)
    (h : given (zeros w 23 20 && zeros w 12 8) (.lea n d) = some i) : Encodes n w x i := by
  obtain ⟨hz, hi⟩ := given_inv h
  obtain ⟨hz, hz'⟩ := of_both_zeros hz
  obtain ⟨hc, hm⟩ := mdOf_bits hd
  refine .one hop (by decide) hi ⟨rfl, rfl⟩ (word_of hw hop encM_eq <| lowBits_put hz.symm <| lowBits_put hc <| lowBits_gap hz' ?_)
  exact lowBits_field hm

theorem Encodes.decM (hw : w < 2 ^ 32) (hop : bits w 31 24 = op) {f : Fin 16 → MD → Instr} (h : decM w f = some i)
    (hf : ∀ g d, tabxoSeq (f g d) = some n ∧ encodeTabxo (f g d) = some (encM op g d, 0) := by intros; exact ⟨rfl, rfl⟩)
    (h1 : op ≠ 0x32 ∧ op ≠ 0x60 := by decide) : Encodes n w x i := by
  unfold Machine.decM at h
  split at h
  case h_1 d hd =>
    obtain ⟨hz, hi⟩ := given_inv h
    have hz := of_decide_eq_true hz
    obtain ⟨hc, hm⟩ := mdOf_bits hd
    refine .one hop h1 hi (hf _ _) (word_of hw hop encM_eq <| lowBits_put idx4_bits <| lowBits_put hc <| lowBits_gap hz ?_)
    exact lowBits_field hm
  case h_2 => cases h

theorem Encodes.decMa (hw : w < 2 ^ 32) (hop : bits w 31 24 = op) {f : Acc → MD → Instr} (h : decMa w f = some i)
    (hf : ∀ a d, tabxoSeq (f a d) = some n ∧ encodeTabxo (f a d) = some (encM op (accBit a) d, 0) := by
      intros; exact ⟨rfl, rfl⟩)
    (h1 : op ≠ 0x32 ∧ op ≠ 0x60 := by decide) : Encodes n w x i := by
  unfold Machine.decMa at h
  split at h
  case h_1 d hd =>
    obtain ⟨hz, hi⟩ := given_inv h
    obtain ⟨hz, hz'⟩ := of_both_zeros hz
    obtain ⟨hc, hm⟩ := mdOf_bits hd
    refine .one hop h1 hi (hf _ _) (word_of hw hop encM_eq <| lowBits_gap hz <| lowBits_put accBit_bits <| lowBits_put hc <| lowBits_gap hz' ?_)
    exact lowBits_field hm
  case h_2 => cases h

theorem Encodes.decS (hw : w < 2 ^ 32) (hop : bits w 31 24 = op) {f : MD → Acc → Fin 32 → Bool → Instr} (h : decS w f = some i)
    (hf : ∀ d a k b, tabxoSeq (f d a k b) = some n ∧ encodeTabxo (f d a k b) = some (encS op d a k b, 0) := by
      intros; exact ⟨rfl, rfl⟩)
    (h1 : op ≠ 0x32 ∧ op ≠ 0x60 := by decide) : Encodes n w x i := by
  unfold Machine.decS at h
  split at h
  case h_1 d hd =>
    obtain ⟨hz, hi⟩ := given_inv h
    have hz := of_decide_eq_true hz
    obtain ⟨hc, hm⟩ := mdOf_bits hd
    refine .one hop h1 hi (hf _ _ _ _) (word_of hw hop encS_eq <| lowBits_put hc <| lowBits_put accBit_bits <| lowBits_put hm <|
      lowBits_put (bitOn_bits w 7) <| lowBits_gap hz ?_)
    exact lowBits_field (Nat.mod_eq_of_lt (bits_lt w 4 0))
  case h_2 => cases h

theorem Encodes.decA (hw : w < 2 ^ 32) (hop : bits w 31 24 = op) {f : Acc → Instr} (h : decA w f = some i)
    (hf : ∀ a, tabxoSeq (f a) = some n ∧ encodeTabxo (f a) = some (encAr op 0 a 0, 0) := by intros; exact ⟨rfl, rfl⟩)
    (h1 : op ≠ 0x32 ∧ op ≠ 0x60 := by decide) : Encodes n w x i := by
  obtain ⟨hz, hi⟩ := given_inv h
  obtain ⟨hz, hz'⟩ := of_both_zeros hz
  refine .one hop h1 hi (hf _) (word_of hw hop encAr_low <| lowBits_gap hz <| lowBits_put accBit_bits ?_)
  exact (lowBits_zeros hz').symm

theorem Encodes.decAk (hw : w < 2 ^ 32) (hop : bits w 31 24 = op) {f : Acc → BitVec 6 → Instr} (h : decAk w f = some i)
    (hf : ∀ a k, tabxoSeq (f a k) = some n ∧ encodeTabxo (f a k) = some (encAr op 0 a k.toNat, 0) := by
      intros; exact ⟨rfl, rfl⟩)
    (h1 : op ≠ 0x32 ∧ op ≠ 0x60 := by decide) : Encodes n w x i := by
  obtain ⟨hz, hi⟩ := given_inv h
  obtain ⟨hz, hz'⟩ := of_both_zeros hz
  refine .one hop h1 hi (hf _ _) (word_of hw hop encAr_low <| lowBits_gap hz <| lowBits_put accBit_bits <| lowBits_gap hz' ?_)
  exact lowBits_field ofNat_bits

theorem Encodes.decAgk (hw : w < 2 ^ 32) (hop : bits w 31 24 = op) {f : Fin 16 → Acc → BitVec 6 → Instr}
    (h : decAgk w f = some i)
    (hf : ∀ g a k, tabxoSeq (f g a k) = some n ∧ encodeTabxo (f g a k) = some (encAr op g a k.toNat, 0) := by
      intros; exact ⟨rfl, rfl⟩)
    (h1 : op ≠ 0x32 ∧ op ≠ 0x60 := by decide) : Encodes n w x i := by
  obtain ⟨hz, hi⟩ := given_inv h
  obtain ⟨hz, hz'⟩ := of_both_zeros hz
  refine .one hop h1 hi (hf _ _ _) (word_of hw hop encAr_eq <| lowBits_put idx4_bits <| lowBits_gap hz <|
    lowBits_put accBit_bits <| lowBits_gap hz' ?_)
  exact lowBits_field ofNat_bits

theorem Encodes.decAg (hw : w < 2 ^ 32) (hop : bits w 31 24 = op) {f : Fin 16 → Acc → Instr} (h : decAg w f = some i)
    (hf : ∀ g a, tabxoSeq (f g a) = some n ∧ encodeTabxo (f g a) = some (encAr op g a 0, 0) := by intros; exact ⟨rfl, rfl⟩)
    (h1 : op ≠ 0x32 ∧ op ≠ 0x60 := by decide) : Encodes n w x i := by
  obtain ⟨hz, hi⟩ := given_inv h
  obtain ⟨hz, hz'⟩ := of_both_zeros hz
  refine .one hop h1 hi (hf _ _) (word_of hw hop encAr_eq <| lowBits_put idx4_bits <| lowBits_gap hz <| lowBits_put accBit_bits ?_)
  exact (lowBits_zeros hz').symm

/-- Format T: what its low half is made of is left to the instruction. -/
theorem Encodes.decT (hw : w < 2 ^ 32) (hop : bits w 31 24 = op) {f : Fin 16 → Nat → Option Instr} (h : decT w f = some i)
    (hf : ∀ k, f k (bits w 15 0) = some i → tabxoSeq i = some n ∧ encodeTabxo i = some (encI op 0 k (bits w 15 0), 0))
    (h1 : op ≠ 0x32 ∧ op ≠ 0x60 := by decide) : Encodes n w x i := by
  unfold Machine.decT at h
  split at h
  case isTrue hz =>
    refine .one hop h1 rfl (hf _ h) (word_of hw hop encI_eq <| lowBits_put (of_decide_eq_true hz).symm <| lowBits_put idx4_bits ?_)
    exact lowBits_field rfl
  case isFalse => cases h

theorem Encodes.decP (hw : w < 2 ^ 32) (hop : bits w 31 24 = op) {f : Fin 16 → Fin 8 → Bool → Instr} (h : decP w f = some i)
    (hf : ∀ p k b, tabxoSeq (f p k b) = some n ∧ encodeTabxo (f p k b) = some (encP op p 0 k b, 0) := by
      intros; exact ⟨rfl, rfl⟩)
    (h1 : op ≠ 0x32 ∧ op ≠ 0x60 := by decide) : Encodes n w x i := by
  obtain ⟨hz, hi⟩ := given_inv h
  obtain ⟨hz, hz'⟩ := of_both_zeros hz
  refine .one hop h1 hi (hf _ _ _) (word_of hw hop encP_eq <| lowBits_put idx4_bits <| lowBits_put hz.symm <| lowBits_put (bitOn_bits w 15) <|
    lowBits_last idx3_bits ?_)
  exact lowBits_zeros hz'

theorem Encodes.decPm (hw : w < 2 ^ 32) (hop : bits w 31 24 = op) {f : Fin 16 → Fin 8 → Bool → Instr} (h : decPm w f = some i)
    (hf : ∀ g k b, tabxoSeq (f g k b) = some n ∧ encodeTabxo (f g k b) = some (encP op 0 g k b, 0) := by
      intros; exact ⟨rfl, rfl⟩)
    (h1 : op ≠ 0x32 ∧ op ≠ 0x60 := by decide) : Encodes n w x i := by
  obtain ⟨hz, hi⟩ := given_inv h
  obtain ⟨hz, hz'⟩ := of_both_zeros hz
  refine .one hop h1 hi (hf _ _ _) (word_of hw hop encP_eq <| lowBits_put hz.symm <| lowBits_put idx4_bits <| lowBits_put (bitOn_bits w 15) <|
    lowBits_last idx3_bits ?_)
  exact lowBits_zeros hz'

end

end Sys2Proof.Machine
end

section
/-! The encodings with fields of their own, and both directions of the instructions (O55). -/

namespace Sys2Proof.Machine

set_option Elab.async false

section

variable {n : Fin 160} {w x op : Nat} {i : Instr}

theorem mulPick_encX {sub clr : Bool} {f : MulMem → Instr}
    (h : mulPick sub clr (Instr.mac n) (Instr.msu n) (Instr.mpy n) = some f) (m : MulMem) :
    tabxoSeq (f m) = some n ∧ encodeTabxo (f m) = some (encX sub clr m, encExt m) := by
  cases sub <;> cases clr <;> cases h <;> exact ⟨rfl, rfl⟩

theorem mulPick_encXr {sub clr : Bool} {f : MulReg → Instr}
    (h : mulPick sub clr (Instr.macr n) (Instr.msur n) (Instr.mpyr n) = some f) (m : MulReg) :
    tabxoSeq (f m) = some n ∧ encodeTabxo (f m) = some (encXr sub clr m, 0) := by
  cases sub <;> cases clr <;> cases h <;> exact ⟨rfl, rfl⟩

/-- The operands that format XR names. -/
def mulRegOf (w : Nat) : MulReg :=
  ⟨accOf1 (bitOn w 23), smOf (bits w 22 21), selOf (bits w 19 18), selOf (bits w 17 16), idx4 (bits w 15 12), idx4 (bits w 11 8)⟩

theorem encXr_mulRegOf (hw : w < 2 ^ 32) (hop : bits w 31 24 = 0x61) (hz : bits w 7 1 = 0) :
    encXr (bitOn w 20) (bitOn w 0) (mulRegOf w) = w :=
  word_of hw hop encXr_eq <| lowBits_put accBit_bits <| lowBits_put (smCode_smOf (bits_lt w 22 21)) <| lowBits_put (bitOn_bits w 20) <|
    lowBits_put (selCode_selOf (bits_lt w 19 18)) <| lowBits_put (selCode_selOf (bits_lt w 17 16)) <| lowBits_put idx4_bits <|
    lowBits_put idx4_bits <| lowBits_gap hz <| lowBits_field (bitOn_bits w 0)

theorem Encodes.decXr (hw : w < 2 ^ 32) (hop : bits w 31 24 = 0x61) (h : decXr n w = some i) : Encodes n w x i := by
  unfold Machine.decXr at h
  split at h
  case h_1 f hf =>
    obtain ⟨hz, hi⟩ := given_inv h
    exact .one hop (by decide) hi (mulPick_encXr hf (mulRegOf w)) (encXr_mulRegOf hw hop (of_decide_eq_true hz))
  case h_2 => cases h

/-- The operands that format X names, with `pl` the parallel load. -/
def mulOf (w : Nat) (a b : MD) (pl : Option PLoad) : MulMem :=
  ⟨accOf1 (bitOn w 23), smOf (bits w 22 21), selOf (bits w 19 18), selOf (bits w 17 16), a, b, pl⟩

theorem encX_mulOf (hw : w < 2 ^ 32) (hop : bits w 31 24 = 0x60) {a b : MD} {pl : Option PLoad} (ha : mdCode a = bits w 15 9)
    (hb : mdCode b = bits w 8 2) (hp : bitOn w 1 = pl.isSome) : encX (bitOn w 20) (bitOn w 0) (mulOf w a b pl) = w := by
  have hp' : pl.isSome.toNat = bits w 1 1 := hp ▸ bitOn_bits w 1
  exact word_of hw hop encX_eq <| lowBits_put accBit_bits <| lowBits_put (smCode_smOf (bits_lt w 22 21)) <| lowBits_put (bitOn_bits w 20) <|
    lowBits_put (selCode_selOf (bits_lt w 19 18)) <| lowBits_put (selCode_selOf (bits_lt w 17 16)) <| lowBits_put ha <|
    lowBits_put hb <| lowBits_put hp' <| lowBits_field (bitOn_bits w 0)

theorem plOf_inv {p : PLoad} (h : plOf x = some p) :
    bits x 24 24 = 0 ∧ bits x 22 16 = 0 ∧ p = ⟨idx4 (bits x 31 28), idx3 (bits x 27 25), bitOn x 23⟩ := by
  unfold plOf at h
  split at h
  case isTrue hz => exact ⟨hz.1, hz.2, (Option.some.inj h).symm⟩
  case isFalse => cases h

theorem encExt_mulOf_some (hx : x < 2 ^ 32) {a b : MD} {p : PLoad} (ha : mdImm a = bits x 15 8) (hb : mdImm b = bits x 7 0)
    (hp : plOf x = some p) : encExt (mulOf w a b (some p)) = x := by
  obtain ⟨hz, hz', rfl⟩ := plOf_inv hp
  refine (encExt_some rfl).trans (Eq.trans ?_ (lowBits_all hx))
  exact lowBits_put idx4_bits <| lowBits_put idx3_bits <| lowBits_gap hz <| lowBits_put (bitOn_bits x 23) <| lowBits_gap hz' <|
    lowBits_put ha <| lowBits_field hb

theorem encExt_mulOf_none (hx : x < 2 ^ 32) {a b : MD} (ha : mdImm a = bits x 15 8) (hb : mdImm b = bits x 7 0)
    (hp : bits x 31 16 = 0) : encExt (mulOf w a b none) = x :=
  (encExt_none rfl).trans ((lowBits_gap hp <| lowBits_put ha <| lowBits_field hb).trans (lowBits_all hx))

theorem Encodes.ofMul {m : MulMem} {f : MulMem → Instr}
    (hf : mulPick (bitOn w 20) (bitOn w 0) (Instr.mac n) (Instr.msu n) (Instr.mpy n) = some f)
    (hm : encX (bitOn w 20) (bitOn w 0) m = w) (hext : wordCount w = 2 → encExt m = x) : Encodes n w x (f m) := by
  obtain ⟨hs, he⟩ := mulPick_encX hf m
  rw [hm] at he
  exact ⟨hs, encExt m, he, hext⟩

/-- A descriptor of format X, whose immediate stands in the extension word where there is one. -/
theorem mdOf_ext {c d hi lo : Nat} {e : Prop} [Decidable e] {md : MD}
    (h : mdOf (bits w c d) (if e then bits x hi lo else 0) = some md) (hc : c + 1 - d = 7 := by rfl)
    (hi8 : hi + 1 - lo = 8 := by rfl) : mdCode md = bits w c d ∧ (e → mdImm md = bits x hi lo) := by
  have hlt := bits_lt x hi lo
  rw [hi8] at hlt
  have hle : (if e then bits x hi lo else 0) < 256 := by split <;> omega
  obtain ⟨h1, h2⟩ := mdCode_of_mdOf (by simpa [hc] using bits_lt w c d) hle h
  exact ⟨h1, fun he => h2.trans (if_pos he)⟩

theorem Encodes.decX (hw : w < 2 ^ 32) (hx : x < 2 ^ 32) (hop : bits w 31 24 = 0x60) (h : decX n w x = some i) :
    Encodes n w x i := by
  simp only [Machine.decX] at h
  split at h
  case h_1 a b f ha hb hf =>
    obtain ⟨hac, hai⟩ := mdOf_ext ha
    obtain ⟨hbc, hbi⟩ := mdOf_ext hb
    split at h
    case isTrue h1 =>
      split at h
      case h_1 p hp =>
        cases h
        exact .ofMul hf (encX_mulOf hw hop hac hbc h1) fun he => encExt_mulOf_some hx (hai he) (hbi he) hp
      case h_2 => cases h
    case isFalse h1 =>
      split at h
      case isTrue => cases h
      case isFalse hz =>
        cases h
        exact .ofMul hf (encX_mulOf hw hop hac hbc (Bool.eq_false_iff.mpr h1)) fun he =>
          encExt_mulOf_none hx (hai he) (hbi he) (by simpa [he] using hz)
  case h_2 => cases h

theorem Encodes.ldil (hw : w < 2 ^ 32) (hx : x < 2 ^ 32) (hop : bits w 31 24 = 0x32)
    (h : given (zeros w 19 0) (.ldil n (idx4 (bits w 23 20)) (BitVec.ofNat 32 x)) = some i) : Encodes n w x i := by
  obtain ⟨hz, rfl⟩ := given_inv h
  have he : encI 0x32 (idx4 (bits w 23 20)) 0 0 = w :=
    word_of hw hop encI_gd (lowBits_last idx4_bits (lowBits_zeros (of_decide_eq_true hz)))
  refine ⟨rfl, (BitVec.ofNat 32 x).toNat, ?_, fun _ => ?_⟩
  · exact congrArg (fun v => some (v, (BitVec.ofNat 32 x).toNat)) he
  · rw [BitVec.toNat_ofNat, Nat.mod_eq_of_lt hx]

/-! ### Encodings with fields of their own -/

theorem Encodes.rdid (hw : w < 2 ^ 32) (hop : bits w 31 24 = 0x04) (h : given (zeros w 19 0) (.rdid n (idx4 (bits w 23 20))) = some i) :
    Encodes n w x i := by
  obtain ⟨hz, hi⟩ := given_inv h
  refine .one hop (by decide) hi ⟨rfl, rfl⟩ (word_of hw hop (encR_zero.trans encI_gd) (lowBits_last idx4_bits ?_))
  exact lowBits_zeros (of_decide_eq_true hz)

theorem Encodes.bcc (hw : w < 2 ^ 32) (hop : bits w 31 24 = 0x09)
    (h : given (zeros w 19 12) (.bcc n (idx4 (bits w 23 20)) (BitVec.ofNat 12 (bits w 11 0))) = some i) : Encodes n w x i := by
  obtain ⟨hz, hi⟩ := given_inv h
  refine .one hop (by decide) hi ⟨rfl, rfl⟩ (word_of hw hop encI_branch (lowBits_put idx4_bits (lowBits_gap (of_decide_eq_true hz) ?_)))
  exact lowBits_field ofNat_bits

theorem Encodes.br (hw : w < 2 ^ 32) (hop : bits w 31 24 = 0x0B)
    (h : given (zeros w 23 20 && zeros w 15 0) (.br n (idx4 (bits w 19 16))) = some i) : Encodes n w x i := by
  obtain ⟨hz, hi⟩ := given_inv h
  obtain ⟨hz, hz'⟩ := of_both_zeros hz
  refine .one hop (by decide) hi ⟨rfl, rfl⟩ (word_of hw hop (encR_zero.trans encI_eq) (lowBits_put hz.symm (lowBits_put idx4_bits ?_)))
  exact (lowBits_zeros hz').symm

theorem Encodes.cmpi (hw : w < 2 ^ 32) (hop : bits w 31 24 = 0x2C)
    (h : given (zeros w 23 20) (.cmpi n (idx4 (bits w 19 16)) (BitVec.ofNat 16 (bits w 15 0))) = some i) : Encodes n w x i := by
  obtain ⟨hz, hi⟩ := given_inv h
  refine .one hop (by decide) hi ⟨rfl, rfl⟩ (word_of hw hop encI_eq (lowBits_put (of_decide_eq_true hz).symm (lowBits_put idx4_bits ?_)))
  exact lowBits_field ofNat_bits

theorem Encodes.rda (hw : w < 2 ^ 32) (hop : bits w 31 24 = 0x54) (h : given (zeros w 19 17 && zeros w 15 8)
    (.rda n (idx4 (bits w 23 20)) (accOf1 (bitOn w 16)) (BitVec.ofNat 6 (bits w 5 0)) (bitOn w 6) (bitOn w 7)) = some i) :
    Encodes n w x i := by
  obtain ⟨hz, hi⟩ := given_inv h
  obtain ⟨hz, hz'⟩ := of_both_zeros hz
  refine .one hop (by decide) hi ⟨rfl, rfl⟩ (word_of hw hop encAr_eq (lowBits_put idx4_bits (lowBits_gap hz (lowBits_put accBit_bits
    (encAr_rda.trans (lowBits_gap hz' (lowBits_put (bitOn_bits w 7) (lowBits_put (bitOn_bits w 6) ?_))))))))
  exact lowBits_field ofNat_bits

theorem Encodes.rpt (hw : w < 2 ^ 32) (hop : bits w 31 24 = 0x68)
    (h : given (zeros w 23 16) (.rpt n (BitVec.ofNat 16 (bits w 15 0))) = some i) : Encodes n w x i := by
  obtain ⟨hz, hi⟩ := given_inv h
  refine .one hop (by decide) hi ⟨rfl, rfl⟩ (word_of hw hop encRp_low (lowBits_gap (of_decide_eq_true hz) ?_))
  exact lowBits_field ofNat_bits

theorem Encodes.rptReg (hw : w < 2 ^ 32) (hop : bits w 31 24 = 0x69) (h : given (zeros w 23 4) (.rptReg n (idx4 (bits w 3 0))) = some i) :
    Encodes n w x i := by
  obtain ⟨hz, hi⟩ := given_inv h
  refine .one hop (by decide) hi ⟨rfl, rfl⟩ (word_of hw hop encRp_low (lowBits_gap (of_decide_eq_true hz) ?_))
  exact lowBits_field idx4_bits

theorem Encodes.rptb (hw : w < 2 ^ 32) (hop : bits w 31 24 = 0x6A)
    (h : some (.rptb n (BitVec.ofNat 16 (bits w 15 0)) (BitVec.ofNat 8 (bits w 23 16))) = some i) : Encodes n w x i :=
  .one hop (by decide) (Option.some.inj h) ⟨rfl, rfl⟩ (word_of hw hop encRp_eq (lowBits_put ofNat_bits (lowBits_field ofNat_bits)))

theorem Encodes.rptbReg (hw : w < 2 ^ 32) (hop : bits w 31 24 = 0x6B)
    (h : given (zeros w 15 4) (.rptbReg n (idx4 (bits w 3 0)) (BitVec.ofNat 8 (bits w 23 16))) = some i) : Encodes n w x i := by
  obtain ⟨hz, hi⟩ := given_inv h
  refine .one hop (by decide) hi ⟨rfl, rfl⟩ (word_of hw hop encRp_eq (lowBits_put ofNat_bits (lowBits_gap (of_decide_eq_true hz) ?_)))
  exact lowBits_field idx4_bits

theorem Encodes.grd (hw : w < 2 ^ 32) (hop : bits w 31 24 = 0x70)
    (h : Machine.decT w (fun k i => given (decide (i = 0)) (.grd n k)) = some i) : Encodes n w x i := by
  refine .decT hw hop h fun k hk => ?_
  obtain ⟨hz, rfl⟩ := given_inv hk
  rw [of_decide_eq_true hz]; exact ⟨rfl, rfl⟩

theorem Encodes.waitt (hw : w < 2 ^ 32) (hop : bits w 31 24 = 0x71)
    (h : Machine.decT w (fun k i => some (.waitt n k (BitVec.ofNat 16 i))) = some i) : Encodes n w x i := by
  refine .decT hw hop h fun k hk => ?_
  cases hk
  exact ⟨rfl, congrArg (fun v => some (encI 0x71 0 k v, 0)) ofNat_bits⟩

theorem Encodes.sched (hw : w < 2 ^ 32) (hop : bits w 31 24 = 0x72)
    (h : some (.sched n (idx4 (bits w 23 20)) (idx4 (bits w 19 16)) (BitVec.ofNat 16 (bits w 15 0))) = some i) : Encodes n w x i :=
  Encodes.decI (f := .sched n) hw hop h

/-- A flag in bit 0 of the low half of format T. -/
theorem bit1_bitOn_zero {v : Nat} (h : v < 2) : bit1 (bitOn v 0) 0 = v := by
  rw [bit1_eq, bitOn_toNat]; omega

theorem Encodes.gadj (hw : w < 2 ^ 32) (hop : bits w 31 24 = 0x74)
    (h : Machine.decT w (fun k i => given (decide (i < 4)) (.gadj n k (bitOn i 1) (bitOn i 0))) = some i) : Encodes n w x i := by
  refine .decT hw hop h fun k hk => ?_
  obtain ⟨hz, rfl⟩ := given_inv hk
  have h4 := of_decide_eq_true hz
  have hb : bit1 (bitOn (bits w 15 0) 1) 1 + bit1 (bitOn (bits w 15 0) 0) 0 = bits w 15 0 := by
    rw [bit1_eq, bit1_eq, bitOn_toNat, bitOn_toNat]; omega
  exact ⟨rfl, congrArg (fun v => some (encI 0x74 0 k v, 0)) hb⟩

/-- The instructions of format T with one flag. -/
theorem Encodes.flag (hw : w < 2 ^ 32) (hop : bits w 31 24 = op) {f : Fin 16 → Bool → Instr}
    (h : Machine.decT w (fun k i => given (decide (i < 2)) (f k (bitOn i 0))) = some i)
    (hf : ∀ k b, tabxoSeq (f k b) = some n ∧ encodeTabxo (f k b) = some (encI op 0 k (bit1 b 0), 0) := by intros; exact ⟨rfl, rfl⟩)
    (h1 : op ≠ 0x32 ∧ op ≠ 0x60 := by decide) : Encodes n w x i := by
  refine .decT hw hop h (fun k hk => ?_) h1
  obtain ⟨hz, rfl⟩ := given_inv hk
  have hfk := hf k (bitOn (bits w 15 0) 0)
  rwa [bit1_bitOn_zero (of_decide_eq_true hz)] at hfk

theorem Encodes.mbrecv (hw : w < 2 ^ 32) (hop : bits w 31 24 = 0x7B)
    (h : given (zeros w 23 16 && zeros w 11 0) (.mbrecv n (idx3 (bits w 14 12)) (bitOn w 15)) = some i) : Encodes n w x i := by
  obtain ⟨hz, hi⟩ := given_inv h
  obtain ⟨hz, hz'⟩ := of_both_zeros hz
  refine .one hop (by decide) hi ⟨rfl, rfl⟩ (word_of hw hop encP_mbrecv (lowBits_gap hz (lowBits_put (bitOn_bits w 15)
    (lowBits_last idx3_bits ?_))))
  exact lowBits_zeros hz'

theorem Encodes.ofLdx (hw : w < 2 ^ 32) (hop : bits w 31 24 = 0x38) (h : decLdx n w = some i) : Encodes n w x i := by
  unfold decLdx at h
  split at h
  next k hk => exact .ldx hw hop hk h
  next => cases h

theorem Encodes.ofLea (hw : w < 2 ^ 32) (hop : bits w 31 24 = 0x3B) (h : decLea n w = some i) : Encodes n w x i := by
  unfold decLea at h
  split at h
  next d hd => exact .lea hw hop hd h
  next => cases h

/-! ### The three parts of the decoder

One case for each code, in their order; `cases h` closes those that name no instruction. -/

theorem Encodes.decLow (hw : w < 2 ^ 32) (hx : x < 2 ^ 32) (hlt : bits w 31 24 < 0x38) (h : decLow n w x = some i) : Encodes n w x i := by
  obtain ⟨op, hop⟩ : ∃ op, bits w 31 24 = op := ⟨_, rfl⟩
  unfold Machine.decLow at h
  rw [hop] at h hlt
  interval_cases op
  · exact .bare hw hop h
  · exact .bare hw hop h
  · exact .bare hw hop h
  · exact .bare hw hop h
  · exact .rdid hw hop h
  · cases h
  · cases h
  · cases h
  · exact .decB hw hop h
  · exact .bcc hw hop h
  · exact .decB hw hop h
  · exact .br hw hop h
  · cases h
  · cases h
  · cases h
  · cases h
  · exact .decR hw hop h
  · exact .decR hw hop h
  · exact .decR hw hop h
  · exact .decR hw hop h
  · exact .decR hw hop h
  · exact .decR hw hop h
  · exact .decR hw hop h
  · exact .decRab hw hop h
  · exact .decRab hw hop h
  · exact .decR hw hop h
  · exact .decR hw hop h
  · exact .decR hw hop h
  · exact .decR hw hop h
  · exact .decR hw hop h
  · exact .decR2 hw hop h
  · exact .decR2 hw hop h
  · exact .decR2 hw hop h
  · exact .decR2 hw hop h
  · cases h
  · cases h
  · cases h
  · cases h
  · cases h
  · cases h
  · exact .decI hw hop h
  · exact .decI hw hop h
  · exact .decI hw hop h
  · exact .decI hw hop h
  · exact .cmpi hw hop h
  · exact .decSh hw hop h
  · exact .decSh hw hop h
  · exact .decSh hw hop h
  · exact .decId hw hop h
  · exact .decId hw hop h
  · exact .ldil hw hx hop h
  · cases h
  · cases h
  · cases h
  · cases h
  · cases h

theorem Encodes.decMid (hw : w < 2 ^ 32) (hx : x < 2 ^ 32) (hge : 0x38 ≤ bits w 31 24) (hlt : bits w 31 24 < 0x68)
    (h : decMid n w x = some i) : Encodes n w x i := by
  obtain ⟨op, hop⟩ : ∃ op, bits w 31 24 = op := ⟨_, rfl⟩
  unfold Machine.decMid at h
  rw [hop] at h hge hlt
  interval_cases op
  · exact .ofLdx hw hop h
  · exact .decAx hw hop h
  · exact .decAx hw hop h
  · exact .ofLea hw hop h
  · cases h
  · cases h
  · cases h
  · cases h
  · exact .decM hw hop h
  · exact .decM hw hop h
  · exact .decM hw hop h
  · exact .decM hw hop h
  · exact .decM hw hop h
  · exact .decMa hw hop h
  · exact .decMa hw hop h
  · cases h
  · exact .decS hw hop h
  · exact .decS hw hop h
  · cases h
  · cases h
  · cases h
  · cases h
  · cases h
  · cases h
  · exact .decA hw hop h
  · exact .bare hw hop h
  · exact .decAgk hw hop h
  · exact .decAgk hw hop h
  · exact .rda hw hop h
  · exact .decA hw hop h
  · exact .decA hw hop h
  · exact .decA hw hop h
  · exact .decAk hw hop h
  · exact .decAk hw hop h
  · exact .decAg hw hop h
  · exact .decAg hw hop h
  · cases h
  · cases h
  · cases h
  · cases h
  · exact .decX hw hx hop h
  · exact .decXr hw hop h
  · cases h
  · cases h
  · cases h
  · cases h
  · cases h
  · cases h

theorem Encodes.decHigh (hw : w < 2 ^ 32) (h : decHigh n w = some i) : Encodes n w x i := by
  unfold Machine.decHigh at h
  split at h
  next hop => exact .rpt hw hop h
  next hop => exact .rptReg hw hop h
  next hop => exact .rptb hw hop h
  next hop => exact .rptbReg hw hop h
  next hop => exact .grd hw hop h
  next hop => exact .waitt hw hop h
  next hop => exact .sched hw hop h
  next hop => exact .gadj hw hop h
  next hop => exact .flag hw hop h
  next hop => exact .flag hw hop h
  next hop => exact .decP hw hop h
  next hop => exact .decP hw hop h
  next hop => exact .decPm hw hop h
  next hop => exact .mbrecv hw hop h
  next hop => exact .decR2 hw hop h
  next hop => exact .decRab hw hop h
  next => cases h

end

/-- Settles O55: each part of the decoder takes only words that the encoder gives. -/
theorem tabxoEncodeDecode : Obligations.TabxoEncodeDecode := by
  intro i n w x hw hx h
  have he : Encodes n w x i := by
    unfold decodeTabxo at h
    split at h
    case isTrue hlow => exact .decLow hw hx hlow h
    case isFalse hlow =>
      split at h
      case isTrue hmid => exact .decMid hw hx (Nat.not_lt.mp hlow) hmid h
      case isFalse => exact .decHigh hw h
  rwa [BitVec.toNat_ofNat, Nat.mod_eq_of_lt hw]

end Sys2Proof.Machine
end

section
/-! The integer instructions of Tabxo (R177, R179): what each shared form leaves in gd and in the flags, and from that each instruction. -/

namespace Sys2Proof.Machine

set_option Elab.async false

/-! ### Flags -/

@[simp] theorem flagsAre_retire (q : Seq) (w : Nat) (z n c v : Prop) : FlagsAre (q.retire w) z n c v ↔ FlagsAre q z n c v := by
  simp [FlagsAre]

@[simp] theorem wordFlags_retire (q p : Seq) (w : Nat) (r : Word) : WordFlags q (p.retire w) r ↔ WordFlags q p r :=
  flagsAre_retire p w _ _ _ _

@[simp] theorem shiftFlags_retire (q p : Seq) (w : Nat) (r : Word) (c : Prop) :
    ShiftFlags q (p.retire w) r c ↔ ShiftFlags q p r c := flagsAre_retire p w _ _ _ _

theorem not_inSigned_iff (w : Nat) (v : Int) :
    (!inSigned w v) = true ↔ v < -2 ^ (w - 1) ∨ 2 ^ (w - 1) ≤ v := by
  simp [inSigned]

theorem not_inSigned32_iff (v : Int) : (!inSigned 32 v) = true ↔ Over32 v := not_inSigned_iff 32 v

theorem not_inSigned40_iff (v : Int) : (!inSigned 40 v) = true ↔ Over40 v := not_inSigned_iff 40 v

theorem msb_iff {w : Nat} (r : BitVec w) : r.msb = true ↔ r.toInt < 0 := by
  rw [BitVec.msb_eq_toInt, decide_eq_true_eq]

/-! ### The shared forms -/

/-- gd and the flags after an addition (R179). -/
theorem Seq.addTo_spec (q : Seq) (gd : Nat) (a b : Word) (c : Bool) :
    let r := a + b + w32 c.toNat
    (q.addTo gd a b c).gr gd = r ∧ FlagsAre (q.addTo gd a b c) (r = 0) (r.toInt < 0) (2 ^ 32 ≤ a.toNat + b.toNat + c.toNat)
      (Over32 (a.toInt + b.toInt + c.toNat)) := by
  refine ⟨q.setG_gr gd _, decide_eq_true_iff, msb_iff (a + b + w32 c.toNat), decide_eq_true_iff, not_inSigned32_iff _⟩

/-- The flags of a comparison (R179). -/
theorem Seq.cmpFlags_spec (q : Seq) (a b : Word) (k : Bool) :
    let r := a - b - w32 k.toNat
    FlagsAre (q.cmpFlags a b k) (r = 0) (r.toInt < 0) (b.toNat + k.toNat ≤ a.toNat) (Over32 (a.toInt - b.toInt - k.toNat)) :=
  ⟨decide_eq_true_iff, msb_iff (a - b - w32 k.toNat), decide_eq_true_iff, not_inSigned32_iff _⟩

/-- gd and the flags after a subtraction (R179). -/
theorem Seq.subTo_spec (q : Seq) (gd : Nat) (a b : Word) (k : Bool) :
    let r := a - b - w32 k.toNat
    (q.subTo gd a b k).gr gd = r ∧ FlagsAre (q.subTo gd a b k) (r = 0) (r.toInt < 0) (b.toNat + k.toNat ≤ a.toNat)
      (Over32 (a.toInt - b.toInt - k.toNat)) :=
  ⟨q.setG_gr gd _, (q.setG gd _).cmpFlags_spec a b k⟩

theorem w32_zero : w32 0 = 0 := rfl

theorem Seq.addTo_noCarry (q : Seq) (gd : Nat) (a b : Word) : (q.addTo gd a b false).gr gd = a + b ∧
    FlagsAre (q.addTo gd a b false) (a + b = 0) ((a + b).toInt < 0) (2 ^ 32 ≤ a.toNat + b.toNat)
      (Over32 (a.toInt + b.toInt)) := by
  simpa only [Bool.toNat_false, w32_zero, add_zero, Nat.cast_zero]
    using q.addTo_spec gd a b false

theorem Seq.subTo_noBorrow (q : Seq) (gd : Nat) (a b : Word) : (q.subTo gd a b false).gr gd = a - b ∧
    FlagsAre (q.subTo gd a b false) (a - b = 0) ((a - b).toInt < 0) (b.toNat ≤ a.toNat) (Over32 (a.toInt - b.toInt)) := by
  simpa only [Bool.toNat_false, w32_zero, sub_zero, add_zero, Nat.cast_zero]
    using q.subTo_spec gd a b false

theorem Seq.cmpFlags_noBorrow (q : Seq) (a b : Word) :
    FlagsAre (q.cmpFlags a b false) (a = b) ((a - b).toInt < 0) (b.toNat ≤ a.toNat) (Over32 (a.toInt - b.toInt)) := by
  have h : a - b = 0 ↔ a = b := sub_eq_zero
  simpa only [Bool.toNat_false, w32_zero, sub_zero, add_zero, Nat.cast_zero, h]
    using q.cmpFlags_spec a b false

/-- A negation is the subtraction from 0 (R179). -/
theorem Seq.subTo_fromZero (q : Seq) (gd : Nat) (a : Word) : (q.subTo gd 0 a false).gr gd = -a ∧
    FlagsAre (q.subTo gd 0 a false) (a = 0) ((-a).toInt < 0) (a = 0) (Over32 (-a.toInt)) := by
  have hz : -a = 0 ↔ a = 0 := neg_eq_zero
  have hc : a.toNat ≤ (0 : Word).toNat ↔ a = 0 := by
    rw [show (0 : Word).toNat = 0 from rfl, Nat.le_zero, BitVec.toNat_eq]; rfl
  have hv : (0 : Word).toInt - a.toInt = -a.toInt := Int.zero_sub _
  simpa only [zero_sub, hz, hc, hv] using q.subTo_noBorrow gd 0 a

theorem Seq.zn_spec (q : Seq) (r : Word) : WordFlags q (q.zn r) r := ⟨decide_eq_true_iff, msb_iff r, Iff.rfl, Iff.rfl⟩

/-- gd and the flags after a logical operation (R179). -/
theorem Seq.logTo_spec (q : Seq) (gd : Nat) (r : Word) : (q.logTo gd r).gr gd = r ∧ WordFlags q (q.logTo gd r) r :=
  ⟨q.setG_gr gd r, decide_eq_true_iff, msb_iff r, Iff.rfl, Iff.rfl⟩

theorem bitOn_toNat_eq (a : Word) (k : Nat) : bitOn a.toNat k = a.getLsbD k := by
  rw [bitOn, ← BitVec.testBit_toNat, Nat.testBit_eq_decide_div_mod_eq]

/-- gd and the flags after a left shift (R179). -/
theorem Seq.shlTo_spec (q : Seq) (gd : Nat) (a : Word) (k : Nat) : (q.shlTo gd a k).gr gd = a <<< k ∧
    ShiftFlags q (q.shlTo gd a k) (a <<< k) (if k = 0 then q.c = true else a.getLsbD (32 - k) = true) := by
  obtain ⟨hg, hz, hn, hc, hv⟩ := q.logTo_spec gd (a <<< k)
  unfold Seq.shlTo
  refine ⟨by simpa using hg, by simpa using hz, by simpa using hn, ?_, by simpa using hv⟩
  rw [Seq.cShl_c, bitOn_toNat_eq]
  split
  · exact hc
  · rfl

/-- The flags after a right shift to `r` (R179). -/
theorem Seq.cShr_logTo_spec (q : Seq) (gd : Nat) (a r : Word) (k : Nat) : ((q.logTo gd r).cShr a k).gr gd = r ∧
    ShiftFlags q ((q.logTo gd r).cShr a k) r (if k = 0 then q.c = true else a.getLsbD (k - 1) = true) := by
  obtain ⟨hg, hz, hn, hc, hv⟩ := q.logTo_spec gd r
  refine ⟨by simpa using hg, by simpa using hz, by simpa using hn, ?_, by simpa using hv⟩
  rw [Seq.cShr_c, bitOn_toNat_eq]
  split
  · exact hc
  · rfl

/-! ### Arithmetic (O1) -/

theorem le_or_eq_pick {a b : Word} : (if a.toInt ≤ b.toInt then a else b) = if a.toInt < b.toInt then a else b := by
  rcases lt_trichotomy a.toInt b.toInt with h | h | h
  · rw [if_pos h.le, if_pos h]
  · rw [BitVec.eq_of_toInt_eq h, ite_self, ite_self]
  · rw [if_neg h.not_ge, if_neg h.not_gt]

theorem ge_or_eq_pick {a b : Word} : (if b.toInt ≤ a.toInt then a else b) = if b.toInt < a.toInt then a else b := by
  rcases lt_trichotomy a.toInt b.toInt with h | h | h
  · rw [if_neg h.not_ge, if_neg h.not_gt]
  · rw [BitVec.eq_of_toInt_eq h, ite_self, ite_self]
  · rw [if_pos h.le, if_pos h]

/-- Settles O1: additions, subtractions and comparisons are instances of the three forms with a carry or a borrow. -/
theorem tabxoArithmeticCompletes : Obligations.TabxoArithmeticCompletes := by
  intro n gd ga gb imm s hr q a b k cin
  refine ⟨?add, ?addc, ?addi, ?sub, ?subb, ?neg, ?cmp, ?cmpi, ?min, ?max⟩ <;> refine ⟨_, rfl, ?_⟩ <;>
    simp only [State.alu_sq hr, Seq.retire_gr, Seq.retire_g, flagsAre_retire, wordFlags_retire]
  case add => exact q.addTo_noCarry gd a b
  case addc => exact q.addTo_spec gd a b q.c
  case addi => exact q.addTo_noCarry gd a k
  case sub => exact q.subTo_noBorrow gd a b
  case subb =>
    have hc : (!q.c).toNat = 1 - cin := by cases h : q.c <;> simp [cin, h]
    rw [← hc]
    exact q.subTo_spec gd a b !q.c
  case neg => exact q.subTo_fromZero gd a
  case cmp => exact ⟨rfl, q.cmpFlags_noBorrow a b⟩
  case cmpi => exact ⟨rfl, q.cmpFlags_noBorrow a k⟩
  case min => rw [← le_or_eq_pick]; exact q.logTo_spec gd _
  case max => rw [← ge_or_eq_pick]; exact q.logTo_spec gd _

/-! ### Logic and shifts (O2) -/

theorem immZ_eq (i : Half) : immZ i = i.zeroExtend 32 := rfl

theorem lui_word (i : Half) (a : Word) : w32 (i.toNat * 2 ^ 16 + a.toNat % 2 ^ 16) = i ++ a.setWidth 16 := by
  apply BitVec.eq_of_toNat_eq
  have hi := i.isLt
  have ha : a.toNat % 2 ^ 16 < 2 ^ 16 := Nat.mod_lt _ (by decide)
  rw [BitVec.toNat_append, BitVec.toNat_setWidth, ← Nat.shiftLeft_add_eq_or_of_lt ha, Nat.shiftLeft_eq, w32,
    BitVec.toNat_ofNat, Nat.mod_eq_of_lt (by omega)]

/-- The absolute value is 0 for 0, and negative for the smallest number, which has no other (R179). -/
theorem abs_zero_iff (a : Word) : (if a.msb then 0 - a else a) = 0 ↔ a = 0 := by
  split <;> simp

theorem abs_neg_iff (a : Word) : (if a.msb then 0 - a else a).msb = true ↔ a = 0x80000000 := by
  have hmin : BitVec.intMin 32 = 0x80000000 := rfl
  split
  case isTrue h =>
    simp [BitVec.msb_neg, hmin, h]
  case isFalse h => exact iff_of_false h fun ha => h (ha ▸ rfl)

/-- gd and the flags of ABS (R179). -/
theorem Seq.abs_spec (q : Seq) (gd : Nat) (a : Word) :
    let p : Seq := { q.logTo gd (if a.msb then 0 - a else a) with v := decide (a = 0x80000000) }
    p.gr gd = (if a.toInt < 0 then -a else a) ∧ FlagsAre p (a = 0) (a = 0x80000000) (q.c = true) (a = 0x80000000) := by
  obtain ⟨hg, hz, hn, hc, -⟩ := q.logTo_spec gd (if a.msb then 0 - a else a)
  have hr : (if a.msb then 0 - a else a) = if a.toInt < 0 then -a else a := by simp only [msb_iff, zero_sub]
  exact ⟨hg.trans hr, hz.trans (abs_zero_iff a), (hn.trans (msb_iff _).symm).trans (abs_neg_iff a), hc, decide_eq_true_iff⟩

/-- Settles O2: the logical operations and moves are `Seq.logTo`, the shifts its forms with C, the immediates writes of gd alone. -/
theorem tabxoLogicAndShiftsComplete : Obligations.TabxoLogicAndShiftsComplete := by
  intro n gd ga gb imm k s hr q a b z m has shifted out
  have left (f : Seq → Seq) : (s.alu n f).sq n = (f q).retire 1 := State.alu_sq hr
  have log {i : Instr} {r : Word} {f : Seq → Seq} (he : exec i s = .next (s.alu n f)) (hf : f q = q.logTo gd r) :
      Completes i s (has r) :=
    ⟨_, he, by simpa only [has, left, hf, Seq.retire_gr, wordFlags_retire] using q.logTo_spec gd r⟩
  have shl {i : Instr} {j : Nat} {f : Seq → Seq} (he : exec i s = .next (s.alu n f)) (hf : f q = q.shlTo gd a j) :
      Completes i s (shifted (a <<< j) (out j (32 - j))) :=
    ⟨_, he, by simpa only [shifted, left, hf, Seq.retire_gr, shiftFlags_retire] using q.shlTo_spec gd a j⟩
  have shr {i : Instr} {j : Nat} {r : Word} {f : Seq → Seq} (he : exec i s = .next (s.alu n f))
      (hf : f q = (q.logTo gd r).cShr a j) : Completes i s (shifted r (out j (j - 1))) :=
    ⟨_, he, by simpa only [shifted, left, hf, Seq.retire_gr, shiftFlags_retire] using q.cShr_logTo_spec gd a r j⟩
  have load {i : Instr} {r : Word} {f : Seq → Seq} (he : exec i s = .next (s.alu n f)) (hf : f q = q.setG gd r) :
      Completes i s (fun t => (t.sq n).gr gd = r) :=
    ⟨_, he, by simp only [left, hf, Seq.retire_gr, Seq.setG_gr]⟩
  refine ⟨log rfl rfl, log rfl rfl, log rfl rfl, log rfl rfl, log rfl rfl, log rfl rfl, log rfl rfl, log rfl rfl, ?tst, ?abs,
    shl rfl rfl, shr rfl rfl, shr rfl rfl, shl rfl rfl, shr rfl rfl, shr rfl rfl, load rfl rfl, ?lui, fun hp w => ?ldil⟩
  case tst =>
    refine ⟨_, rfl, ?_⟩
    simp only [left, Seq.retire_g, wordFlags_retire]
    exact ⟨rfl, q.zn_spec (a &&& b)⟩
  case abs =>
    refine ⟨_, rfl, ?_⟩
    simp only [left, Seq.retire_gr, flagsAre_retire]
    exact q.abs_spec gd a
  case lui => exact load rfl (congrArg (q.setG gd) (lui_word imm (q.gr gd)))
  case ldil =>
    refine ⟨_, rfl, ?_⟩
    simp only [State.alu2_sq hr hp, Seq.retire_gr, Seq.setG_gr]

end Sys2Proof.Machine
end

section
/-! The control instructions, loads, stores and accumulator instructions of Tabxo (R174, R178, R180 to R183). -/

namespace Sys2Proof.Machine

set_option Elab.async false

/-! ### Control (O3) -/

theorem Completes.imp {i : Instr} {s : State} {P Q : State → Prop} (h : Completes i s P) (hpq : ∀ t, P t → Q t) :
    Completes i s Q := by
  obtain ⟨t, he, hP⟩ := h
  exact ⟨t, he, hpq t hP⟩

theorem placed_of_noRepeat {q : Seq} (hreps : q.reps = []) (hrpt : q.rpt = none) : Placed q :=
  ⟨by simp [hreps], hrpt⟩

/-- A kick of the watchdog notes the local time and clears the missed mark (R164). -/
theorem State.kick_sq (s : State) (n : Nat) : (s.kick n).sq n = { s.sq n with kick := s.gau.l, missed := false } := by
  unfold State.kick
  dsimp only
  split
  · simp only [State.sq, State.sample_seqs]
    exact State.pmcSeq_sq _ n 12 1 n |>.trans (State.setSq_sq s n _)
  · rw [State.pmcSeq_sq, State.setSq_sq]

@[simp] theorem Seq.jump_pc (q : Seq) (k : Nat) : (q.jump k).pc = k % 2 ^ 14 := rfl

/-- Settles O3: plain instructions are `State.alu`, branches `State.branch`, each behind the place R147 and R148 allow it. -/
theorem tabxoControlCompletes : Obligations.TabxoControlCompletes := by
  intro n gd ga cond tw s hr q
  have htw : 4 * tw.toNat % 2 ^ 14 = 4 * tw.toNat := Nat.mod_eq_of_lt (by omega)
  refine ⟨fun hreps hrpt => ?nop, fun hon => ?wdk, fun hoff => ?wdkOff, ?clrs, ?rdid, fun hp => ?b, fun hp ht => ?taken,
    fun hp ht => ?untaken, fun hreps hrpt hc => ?call, fun hp a r hcs => ?ret, fun hp ha => ?br⟩
  case nop =>
    exact ⟨_, rfl, (State.alu_sq hr).trans (placed_of_noRepeat hreps hrpt).retire_one⟩
  case wdk =>
    refine ⟨_, rfl, ?_⟩
    simp [State.issue_plain hr, hon, State.kick_sq]
  case wdkOff =>
    refine ⟨_, rfl, ?_⟩
    simp [State.issue_plain hr, hoff, q]
  case clrs => exact ⟨_, rfl, by simp [State.alu_sq hr]⟩
  case rdid => exact ⟨_, rfl, by simp [State.alu_sq hr, w32]⟩
  case b => exact ⟨_, rfl, by simp only [State.branch_sq hr hp.placeTrap_noEnd rfl, Seq.jump_pc, htw]⟩
  case taken =>
    refine (branchConditions n cond tw s hr hp).imp fun t h => ?_
    obtain ⟨r, h1⟩ := h.1 ht
    rw [h1]
  case untaken =>
    refine (branchConditions n cond tw s hr hp).imp fun t h => ?_
    rw [h.2 ht]
    exact ⟨rfl, rfl⟩
  case call =>
    have hroom : (if 8 ≤ (s.sq n).calls.length then some Trap.stack else none) = none := if_neg (Nat.not_le.mpr hc)
    refine ⟨_, rfl, ?_⟩
    simp only [State.branch_sq hr (Seq.placeTrap_call hreps hrpt) hroom, Seq.jump_pc, htw, Seq.jump_calls, true_and]
    rfl
  case ret =>
    have hcs' : (s.sq n).calls = a :: r := hcs
    have hsome : (if (s.sq n).calls = [] then some Trap.stack else none) = none := if_neg (by simp [hcs'])
    refine ⟨_, rfl, ?_⟩
    simp only [State.branch_sq hr hp.placeTrap_noEnd hsome]
    simp only [hcs', Seq.jump_pc, Seq.jump_calls, and_self]
  case br =>
    have halign : (if ((s.sq n).gr ga).toNat % 4 ≠ 0 then some Trap.align else none) = none := if_neg (not_not.mpr ha)
    refine ⟨_, rfl, ?_⟩
    simp only [State.branch_sq hr hp.placeTrap_noEnd halign]
    simp [bits, q]

/-! ### Loads and stores (O4) -/

/-- The address register of a descriptor after the post-modify of an instruction that leaves that register of each kind. -/
theorem stepped_postMod_at {q p : Seq} (md : MD) (w : Nat) (hx : p.xr md.x = q.xr md.x) (hm : p.mr md.x = q.mr md.x)
    (hl : p.lr md.x = q.lr md.x) : Stepped q ((p.postMod md.x md.mod).retire w) md := by
  have hwr (r : Int) : p.wrap md.x r = q.wrap md.x r := by unfold Seq.wrap Seq.wrapFrom; rw [hx, hl]
  rw [Stepped, Seq.retire_xr, Seq.postMod_xr]
  cases md.mod <;> simp only [hx, hm, hwr]

/-- The same where the instruction leaves all address registers. -/
theorem stepped_postMod {q p : Seq} (md : MD) (w : Nat) (hx : p.x = q.x) (hm : p.m = q.m) (hl : p.l = q.l) :
    Stepped q ((p.postMod md.x md.mod).retire w) md :=
  stepped_postMod_at md w (Seq.xr_of_x hx _) (by rw [Seq.mr, hm]; rfl) (by rw [Seq.lr, hl]; rfl)

theorem Reaches.mdTrap {q : Seq} {md : MD} {w : Nat} (h : Reaches q md w) : q.mdTrap md w = none :=
  Seq.mdTrap_none h.1 h.2

section

variable {s : State} {n w : Nat} {md : MD}

theorem State.loadOp_sq (f : Seq → Seq) (hr : s.runs n = true) (h : Reaches (s.sq n) md w) :
    (s.loadOp n w md f).sq n = ((f (s.sq n)).postMod md.x md.mod).retire 1 :=
  State.memOp_sq hr (Seq.placeTrap_plain _) rfl h.mdTrap

theorem State.storeOp_sq (v : Seq → Nat) (f : Seq → Seq) (hr : s.runs n = true) (hm : md.mem ≠ .P)
    (h : Reaches (s.sq n) md w) : (s.storeOp n w md v f).sq n =
      ((f ((s.sq n).setMem md.mem (memPut ((s.sq n).memOf md.mem) ((s.sq n).ea md) (bytesLE w (v (s.sq n)))))).postMod
        md.x md.mod).retire 1 :=
  State.memOp_sq hr (Seq.placeTrap_plain _) (by simpa using hm) h.mdTrap

end

theorem ofNat_toNat_setWidth (w : Word) : BitVec.ofNat 16 w.toNat = w.setWidth 16 := by simp


theorem Seq.setAx_x_xr (q : Seq) (k : Nat) (v : Half) : (q.setAx .x k v).xr k = v := by simp [Seq.setAx, Seq.xr]

theorem Seq.setAx_m_mr (q : Seq) (k : Nat) (v : Half) : (q.setAx .m k v).mr k = v := by simp [Seq.setAx, Seq.mr]

theorem Seq.setAx_l_lr (q : Seq) (k : Nat) (v : Half) : (q.setAx .l k v).lr k = v := by simp [Seq.setAx, Seq.lr]

/-- Settles O4: the moves are `State.alu`, the loads `State.loadOp` and the stores `State.storeOp`, whose traps `Reaches` excludes. -/
theorem tabxoAddressingCompletes : Obligations.TabxoAddressingCompletes := by
  intro n gd gb k imm md s hr q word half
  have left (f : Seq → Seq) : (s.alu n f).sq n = (f q).retire 1 := State.alu_sq hr
  have load {i : Instr} {w : Nat} {r : Word} {f : Seq → Seq} (hm : Reaches q md w)
      (he : exec i s = .next (s.loadOp n w md f)) (hf : f q = q.setG gd r) :
      Completes i s (fun t => (t.sq n).gr gd = r ∧ Stepped q (t.sq n) md) := by
    refine ⟨_, he, ?_⟩
    simp only [State.loadOp_sq _ hr hm, Seq.retire_gr, Seq.postMod_gr]
    rw [show f (s.sq n) = q.setG gd r from hf]
    exact ⟨q.setG_gr gd r, stepped_postMod md 1 rfl rfl rfl⟩
  have stored (c : List Host.Cell) : Stepped q (((q.setMem md.mem c).postMod md.x md.mod).retire 1) md :=
    stepped_postMod md 1 (q.setMem_x _ c) (q.setMem_m _ c) (q.setMem_l _ c)
  refine ⟨?_, ?_, ?_, ?_, ?_, ?_, ?_, ?_, ?_, fun hm => ?lea, fun h => load h rfl rfl, fun h => load h rfl rfl,
    fun h => load h rfl rfl, fun hp h hwf => ?stw, fun hp h hwf => ?sth⟩
  case lea =>
    refine ⟨_, rfl, ?_⟩
    simp only [State.memOp_sq hr (Seq.placeTrap_plain _) (decide_eq_false (not_not.mpr hm)) rfl]
    exact stepped_postMod md 1 rfl rfl rfl
  case stw =>
    refine ⟨_, rfl, ?_⟩
    simp only [State.storeOp_sq _ _ hr hp h, Seq.retire_memOf, Seq.postMod_memOf, Seq.setMem_memOf _ _ hp]
    exact ⟨(memWord_put _ _ _ hwf).trans (BitVec.ofNat_toNat _ _ |>.trans (BitVec.setWidth_eq _)), stored _⟩
  case sth =>
    refine ⟨_, rfl, ?_⟩
    simp only [State.storeOp_sq _ _ hr hp h, Seq.retire_memOf, Seq.postMod_memOf, Seq.setMem_memOf _ _ hp]
    exact ⟨(memHalf_put _ _ _ hwf).trans (ofNat_toNat_setWidth _), stored _⟩
  all_goals
    refine ⟨_, rfl, ?_⟩
    simp only [left, Seq.retire_xr, Seq.retire_mr, Seq.retire_lr, Seq.retire_gr, Seq.setAx_x_xr, Seq.setAx_m_mr, Seq.setAx_l_lr,
      Seq.setG_gr, ofNat_toNat_setWidth, Seq.axWord]

/-! ### Accumulators (O5) -/

@[simp] theorem accFlags_retire (q p : Seq) (w : Nat) (r : AccWord) (v : Prop) :
    AccFlags q (p.retire w) r v ↔ AccFlags q p r v := flagsAre_retire p w _ _ _ _

/-- The accumulator and the flags after an operation with an exact result (R183). -/
theorem Seq.accTo_spec (q : Seq) (a : Acc) (v : Int) : (q.accTo a v).acc a = BitVec.ofInt 40 v ∧
    AccFlags q (q.accTo a v) (BitVec.ofInt 40 v) (Over40 v) := by
  refine ⟨by cases a <;> rfl, decide_eq_true_iff, msb_iff (BitVec.ofInt 40 v), ?_, not_inSigned40_iff v⟩
  cases a <;> rfl

/-- The accumulator and the flags after a move into it (R183). -/
theorem Seq.setAcc_znAcc_spec (q : Seq) (a : Acc) (r : AccWord) : ((q.setAcc a r).znAcc r).acc a = r ∧
    AccFlags q ((q.setAcc a r).znAcc r) r (q.v = true) := by
  refine ⟨by cases a <;> rfl, decide_eq_true_iff, msb_iff r, ?_, ?_⟩ <;> cases a <;> rfl

/-- The run of bits equal to the sign below bit `k`, and the bit that ends it (R183). -/
theorem signRun_spec (a : AccWord) (k : Nat) : signRun a k ≤ k ∧
    (∀ j, k - signRun a k ≤ j → j < k → a.getLsbD j = a.msb) ∧
    (signRun a k < k → a.getLsbD (k - 1 - signRun a k) ≠ a.msb) := by
  induction k with
  | zero => simp [signRun]
  | succ k ih =>
    obtain ⟨hle, hin, hend⟩ := ih
    by_cases h : a.getLsbD k = a.msb
    · have hs : signRun a (k + 1) = 1 + signRun a k := by rw [signRun, if_pos h]
      rw [hs]
      refine ⟨by omega, fun j hj hlt => ?_, fun hlt => ?_⟩
      · rcases Nat.lt_succ_iff_lt_or_eq.mp hlt with hlt | rfl
        · exact hin j (by omega) hlt
        · exact h
      · rw [show k + 1 - 1 - (1 + signRun a k) = k - 1 - signRun a k by omega]
        exact hend (by omega)
    · have hs : signRun a (k + 1) = 0 := by rw [signRun, if_neg h]
      rw [hs]
      exact ⟨by omega, fun j hj hlt => absurd hj (by omega), fun _ => h⟩

/-- r of NORM and EXP is the length of the run of bits that repeat the sign (R183). -/
theorem redundant_spec (a : AccWord) : redundant a ≤ 39 ∧
    (∀ j, 39 - redundant a ≤ j → j < 39 → a.getLsbD j = a.getLsbD 39) ∧
    (redundant a < 39 → a.getLsbD (38 - redundant a) ≠ a.getLsbD 39) := signRun_spec a 39

/-- a0 + (a1 asr 8), in 40 bits and exactly (R183). -/
theorem acmb_word (a b : AccWord) : BitVec.ofInt 40 (a.toInt + b.toInt / 256) = a + b.sshiftRight 8 := by
  have h : b.toInt / 256 = (b.sshiftRight 8).toInt := by
    rw [BitVec.toInt_sshiftRight, Int.shiftRight_eq_div_pow]; rfl
  rw [h, BitVec.ofInt_add, BitVec.ofInt_toInt, BitVec.ofInt_toInt]

theorem natCast_two_pow (k : Nat) : ((2 ^ k : Nat) : Int) = 2 ^ k := by push_cast; rfl

@[simp] theorem accFlags_postMod (q p : Seq) (k : Nat) (m : Mod) (r : AccWord) (v : Prop) :
    AccFlags q (p.postMod k m) r v ↔ AccFlags q p r v := by simp [AccFlags, FlagsAre]

/-- Settles O5: an operation with an exact result is `Seq.accTo`, a move into an accumulator sets Z and N alone. -/
theorem tabxoAccumulatorsComplete : Obligations.TabxoAccumulatorsComplete := by
  intro n gd ga a k md s hr q v o g word sums is
  have left (f : Seq → Seq) : (s.alu n f).sq n = (f q).retire 1 := State.alu_sq hr
  have leftIf {p : Prop} [Decidable p] (h : ¬ p) (f : Seq → Seq) :
      (s.memOp n 1 (decide p) none f).sq n = (f q).retire 1 :=
    State.memOp_sq hr (Seq.placeTrap_plain _) (decide_eq_false h) rfl
  have exact_ {i : Instr} {t : State} {p : Seq} {r : Int} (he : exec i s = .next t) (ht : t.sq n = p.retire 1)
      (hp : p = q.accTo a r) : Completes i s (sums r) := by
    refine ⟨t, he, ?_⟩
    simp only [sums, ht, hp, Seq.retire_acc, accFlags_retire]
    exact q.accTo_spec a r
  have moved {i : Instr} {t : State} {p : Seq} {r : AccWord} (he : exec i s = .next t) (ht : t.sq n = p.retire 1)
      (hp : p = (q.setAcc a r).znAcc r) : Completes i s (is r) := by
    refine ⟨t, he, ?_⟩
    simp only [is, ht, hp, Seq.retire_acc, accFlags_retire]
    exact q.setAcc_znAcc_spec a r
  refine ⟨fun h => ?lda, fun h => ?addm, ?clr, ?acmb, fun h => moved rfl (leftIf (Nat.not_lt.mpr h) _) ?mvga,
    fun h => exact_ rfl (leftIf (Nat.not_lt.mpr h) _) ?addga, exact_ rfl (left _) rfl, exact_ rfl (left _) rfl,
    exact_ rfl (left _) rfl, fun h => exact_ rfl (leftIf (Nat.not_lt.mpr h) _) ?shla,
    fun h => moved rfl (leftIf (Nat.not_lt.mpr h) _) rfl, ?norm, ?exp⟩
  case mvga => rw [← natCast_two_pow]; rfl
  case addga => rw [← natCast_two_pow]
  case shla => rw [← natCast_two_pow]
  case lda =>
    refine ⟨_, rfl, ?_⟩
    simp only [is, State.loadOp_sq _ hr h, Seq.retire_acc, Seq.postMod_acc, accFlags_retire, accFlags_postMod]
    exact ⟨q.setAcc_znAcc_spec a _, stepped_postMod md 1 (q.setAcc_x a _) (q.setAcc_m a _) (q.setAcc_l a _)⟩
  case addm =>
    refine ⟨_, rfl, ?_⟩
    simp only [sums, State.loadOp_sq _ hr h, Seq.retire_acc, Seq.postMod_acc, accFlags_retire, accFlags_postMod]
    exact ⟨q.accTo_spec a _, stepped_postMod md 1 (q.setAcc_x a _) (q.setAcc_m a _) (q.setAcc_l a _)⟩
  case clr => exact ⟨_, rfl, by simp only [left, Seq.retire_acc, Seq.setAcc_acc]⟩
  case acmb =>
    refine ⟨_, rfl, ?_⟩
    simp only [left, accFlags_retire, Seq.retire_a0, Seq.retire_a1, ← acmb_word]
    rw [← Int.fdiv_eq_ediv_of_nonneg _ (by decide)]
    exact ⟨rfl, q.accTo_spec .a0 _⟩
  case norm =>
    refine ⟨_, rfl, ?_⟩
    obtain ⟨hle, hrun, hend⟩ := redundant_spec (q.acc a)
    refine ⟨redundant (q.acc a), hle, ?_, ?_, ?_, hrun, hend⟩
    · simp only [left, Seq.retire_gr]; cases a <;> exact q.setG_gr gd _
    · simp only [left, Seq.retire_acc]; cases a <;> rfl
    · simp only [left, Seq.retire_z, decide_eq_true_iff]
  case exp =>
    refine ⟨_, rfl, redundant (q.acc a), ?_⟩
    obtain ⟨hle, hrun, hend⟩ := redundant_spec (q.acc a)
    exact ⟨hle, by simp only [left, Seq.retire_gr, Seq.setG_gr, wrapTo], hrun, hend⟩

/-! ### Read-out (O6) -/

/-- What a store keeps of a rounded value (R151). -/
theorem storeVal_eq_kept (w : Nat) (v : Int) (sat : Bool) : storeVal w v sat = Kept w v sat := by
  unfold storeVal Kept satTo
  split
  case isTrue =>
    rw [natCast_two_pow]
    have hpos : (0 : Int) < 2 ^ (w - 1) := by positivity
    generalize (2 : Int) ^ (w - 1) = b at *
    split_ifs <;> omega
  case isFalse => rfl

theorem inSigned_iff (w : Nat) (v : Int) : inSigned w v = true ↔ -2 ^ (w - 1) ≤ v ∧ v < 2 ^ (w - 1) := by
  simp [inSigned]

/-- S and V after a store (R182). -/
theorem storeFlags_spec (q p : Seq) (w : Nat) (v : Int) (sat : Bool) (hs : p.s = q.s) (hv : p.v = q.v) :
    StoreFlags q (p.storeFlags w v sat) w v sat := by
  constructor
  · rw [Seq.storeFlags_s, hs, Bool.or_eq_true, Bool.and_eq_true, Bool.not_eq_true', ← Bool.not_eq_true, inSigned_iff]
  · rw [Seq.storeFlags_v, hv]
    cases sat
    · simp only [Bool.false_eq_true, if_false, Bool.not_eq_true', ← Bool.not_eq_true, inSigned_iff]
    · simp

@[simp] theorem storeFlags_postMod_retire (q p : Seq) (w m : Nat) (v : Int) (sat : Bool) (k : Nat) (md : Mod) :
    StoreFlags q ((p.postMod k md).retire m) w v sat ↔ StoreFlags q p w v sat := by simp [StoreFlags]

@[simp] theorem storeFlags_retire_iff (q p : Seq) (w m : Nat) (v : Int) (sat : Bool) :
    StoreFlags q (p.retire m) w v sat ↔ StoreFlags q p w v sat := by simp [StoreFlags]

@[simp] theorem State.satHit_sq (s : State) (n w : Nat) (v : Int) (sat : Bool) (m : Nat) :
    (s.satHit n w v sat).sq m = s.sq m := by
  unfold State.satHit
  split
  · rw [State.pmcSeq_sq]
  · rfl

theorem ofNat_toNat_ofInt (w : Nat) (v : Int) : BitVec.ofNat w (BitVec.ofInt w v).toNat = BitVec.ofInt w v := by
  rw [BitVec.ofNat_toNat, BitVec.setWidth_eq]

/-- Settles O6: a store is `State.storeOp` of the kept value, the read-out a write of gd, each with `Seq.storeFlags`. -/
theorem tabxoReadOutCompletes : Obligations.TabxoReadOutCompletes := by
  intro n gd a k c md sat s hr q v u stored
  have flags (w : Nat) (m : List Host.Cell) : StoreFlags q ((q.setMem md.mem m).storeFlags w v sat) w v sat :=
    storeFlags_spec _ _ w v sat (q.setMem_s _ m) (q.setMem_v _ m)
  have steps (w : Nat) (m : List Host.Cell) :
      Stepped q ((((q.setMem md.mem m).storeFlags w v sat).postMod md.x md.mod).retire 1) md :=
    stepped_postMod md 1 (by simp) (by simp) (by simp)
  have readOut (hc : c.toNat ≤ 31) (f : Seq → Seq) : (s.memOp n 1 (decide (31 < c.toNat)) none f).sq n = (f q).retire 1 :=
    State.memOp_sq hr (Seq.placeTrap_plain _) (decide_eq_false (Nat.not_lt.mpr hc)) rfl
  refine ⟨fun hp h hwf => ?st16, fun hp h hwf => ?st32, fun hc => ?half, fun hc => ?word⟩
  case st16 =>
    refine ⟨_, rfl, ?_⟩
    simp only [stored, State.storeAcc, State.satHit_sq, State.storeOp_sq _ _ hr hp h, Seq.retire_memOf, Seq.postMod_memOf,
      Seq.storeFlags_memOf, Seq.setMem_memOf _ _ hp, storeFlags_postMod_retire, storeVal_eq_kept, wrapTo]
    exact ⟨(memHalf_put _ _ _ hwf).trans (ofNat_toNat_ofInt 16 _), flags 16 _, steps 16 _⟩
  case st32 =>
    refine ⟨_, rfl, ?_⟩
    simp only [stored, State.storeAcc, State.satHit_sq, State.storeOp_sq _ _ hr hp h, Seq.retire_memOf, Seq.postMod_memOf,
      Seq.storeFlags_memOf, Seq.setMem_memOf _ _ hp, storeFlags_postMod_retire, storeVal_eq_kept, wrapTo]
    exact ⟨(memWord_put _ _ _ hwf).trans (ofNat_toNat_ofInt 32 _), flags 32 _, steps 32 _⟩
  case half =>
    refine ⟨_, rfl, ?_⟩
    simp only [State.satHit_sq, readOut hc, Seq.retire_gr, Seq.storeFlags_gr, Seq.setG_gr, storeFlags_retire_iff,
      storeVal_eq_kept, wrapTo]
    exact ⟨rfl, storeFlags_spec _ _ 16 u sat rfl rfl⟩
  case word =>
    refine ⟨_, rfl, ?_⟩
    simp only [State.satHit_sq, readOut hc, Seq.retire_gr, Seq.storeFlags_gr, Seq.setG_gr, storeFlags_retire_iff,
      storeVal_eq_kept, wrapTo]
    exact ⟨BitVec.ofInt_toInt, storeFlags_spec _ _ 32 u sat rfl rfl⟩

end Sys2Proof.Machine
end

section
/-! The multiplies and the repeats of Tabxo (R147, R148, R150, R184 to R186). -/

namespace Sys2Proof.Machine

set_option Elab.async false

/-! ### Multiplies (O7) -/

/-- The exact result of a multiply (R184). -/
def mulResult (kind : MulKind) (a p : Int) : Int :=
  match kind with
  | .mac => a + p
  | .msu => a - p
  | .mpy => p

/-- The accumulator and V after a multiply, and what it leaves (R184). -/
def MulLeaves (q p : Seq) (a : Acc) (v : Int) : Prop :=
  p.acc a = BitVec.ofInt 40 v ∧ (p.v = true ↔ Over40 v) ∧ p.acc (accOther a) = q.acc (accOther a) ∧ p.z = q.z ∧ p.n = q.n ∧ p.c = q.c

theorem Seq.mulAcc_leaves (q : Seq) (kind : MulKind) (a : Acc) (p : Int) :
    MulLeaves q (q.mulAcc kind a p) a (mulResult kind (q.acc a).toInt p) := by
  refine ⟨?_, not_inSigned40_iff _, ?_⟩ <;> cases a
  case refine_1.a0 => rfl
  case refine_1.a1 => rfl
  all_goals exact ⟨rfl, rfl, rfl, rfl⟩

/-- A multiply leaves the address registers. -/
theorem Seq.mulAcc_addresses (q : Seq) (kind : MulKind) (a : Acc) (p : Int) :
    (q.mulAcc kind a p).x = q.x ∧ (q.mulAcc kind a p).m = q.m ∧ (q.mulAcc kind a p).l = q.l := by
  cases a <;> exact ⟨rfl, rfl, rfl⟩

@[simp] theorem mulLeaves_retire (q p : Seq) (w : Nat) (a : Acc) (v : Int) :
    MulLeaves q (p.retire w) a v ↔ MulLeaves q p a v := by simp [MulLeaves]

@[simp] theorem mulLeaves_postMod (q p : Seq) (k : Nat) (m : Mod) (a : Acc) (v : Int) :
    MulLeaves q (p.postMod k m) a v ↔ MulLeaves q p a v := by simp [MulLeaves]

@[simp] theorem mulLeaves_setG (q p : Seq) (k : Nat) (w : Word) (a : Acc) (v : Int) :
    MulLeaves q (p.setG k w) a v ↔ MulLeaves q p a v := by cases a <;> simp [MulLeaves, accOther]

/-- The product of the memory form (R184). -/
def Seq.memProduct (q : Seq) (m : MulMem) : Int := product m.sm (q.pickMem m.mda m.selA) (q.pickMem m.mdb m.selB)

/-- The memory form without a parallel load. -/
theorem Seq.mulMem_none {q : Seq} {kind : MulKind} {m : MulMem} (h : m.pl = none) :
    q.mulMem kind m = ((q.mulAcc kind m.acc (q.memProduct m)).postMod m.mda.x m.mda.mod).postMod m.mdb.x m.mdb.mod := by
  simp only [Seq.mulMem, h, Seq.memProduct]

/-- The memory form with a parallel load (R185). -/
theorem Seq.mulMem_some {q : Seq} {kind : MulKind} {m : MulMem} {l : PLoad} (h : m.pl = some l) :
    q.mulMem kind m = ((((q.mulAcc kind m.acc (q.memProduct m)).setG l.gp (memWord q.pMem (q.xr l.xp).toNat)).postMod
      m.mda.x m.mda.mod).postMod m.mdb.x m.mdb.mod).postMod l.xp (if l.byM then .byM else .keep) := by
  simp only [Seq.mulMem, h, Seq.memProduct]
  cases l.byM <;> rfl

theorem Seq.mulMem_leaves (q : Seq) (kind : MulKind) (m : MulMem) :
    MulLeaves q (q.mulMem kind m) m.acc (mulResult kind (q.acc m.acc).toInt (q.memProduct m)) := by
  cases h : m.pl with
  | none => simpa only [Seq.mulMem_none h, mulLeaves_postMod] using q.mulAcc_leaves kind m.acc _
  | some l => simpa only [Seq.mulMem_some h, mulLeaves_postMod, mulLeaves_setG] using q.mulAcc_leaves kind m.acc _

/-- An access of the memory form that reaches its memory meets no trap. -/
theorem Seq.mulAccesses_noTrap {q : Seq} {m : MulMem} (ha : Reaches q m.mda (selWidth m.selA))
    (hb : Reaches q m.mdb (selWidth m.selB)) (hp : ∀ l, m.pl = some l → Reaches q ⟨.P, l.xp, .keep⟩ 4) :
    accessTrap (q.mulAccesses m) = none := by
  refine accessTrap_none fun p hm => ?_
  simp only [Seq.mulAccesses, List.mem_append, List.mem_cons, List.not_mem_nil, or_false, Option.mem_toList,
    Option.map_eq_some_iff] at hm
  obtain (rfl | rfl) | ⟨l, hl, rfl⟩ := hm
  · exact ha
  · exact hb
  · exact hp l hl

theorem Seq.placeTrap_plain_words {q : Seq} (h : ∀ r ∈ q.reps, r.last ≠ q.pc) (w : Nat) : q.placeTrap .plain w = none := by
  have hany : (q.reps.any fun r => decide (r.last = q.pc)) = false := by simpa using h
  simp [Seq.placeTrap, hany]

theorem Seq.postMod_xr_ne (q : Seq) {k j : Nat} (m : Mod) (h : j ≠ k) : (q.postMod k m).xr j = q.xr j := by
  cases m <;> simp [Seq.postMod, Seq.setX, Seq.xr, Tab.get_set_ne _ _ _ h]

/-- Settles O7: a multiply is `Seq.mulAcc`, and what the memory form adds to it leaves the accumulators and the flags. -/
theorem tabxoMultiplyCompletes : Obligations.TabxoMultiplyCompletes := by
  intro n m r s hr q pm pr holds loads
  have reg (kind : MulKind) : MulLeaves q ((s.mulRegOp n kind r).sq n) r.acc (mulResult kind (q.acc r.acc).toInt pr) := by
    rw [State.mulRegOp, State.alu_sq hr, mulLeaves_retire]
    exact q.mulAcc_leaves kind r.acc pr
  refine ⟨⟨_, rfl, reg .mac⟩, ⟨_, rfl, reg .msu⟩, ⟨_, rfl, reg .mpy⟩, fun hreps hill ha hb hl => ?_⟩
  have left (kind : MulKind) : (s.mulMemOp n kind m).sq n = (q.mulMem kind m).retire (mulWords m) :=
    State.memOp_sq hr (Seq.placeTrap_plain_words hreps _) hill (Seq.mulAccesses_noTrap ha hb hl)
  have mem (kind : MulKind) : MulLeaves q ((s.mulMemOp n kind m).sq n) m.acc (mulResult kind (q.acc m.acc).toInt pm) := by
    rw [left, mulLeaves_retire]
    exact q.mulMem_leaves kind m
  have load (kind : MulKind) : loads (s.mulMemOp n kind m) := by
    refine ⟨fun l h => ?_, fun h hne => ?_⟩
    · rw [left, Seq.retire_gr, Seq.mulMem_some h, Seq.postMod_gr, Seq.postMod_gr, Seq.postMod_gr, Seq.setG_gr]
    · have hne' : m.mda.x.val ≠ m.mdb.x.val := fun hv => hne (Fin.ext hv)
      rw [left, Seq.mulMem_none h]
      obtain ⟨hx, hm, hl⟩ := q.mulAcc_addresses kind m.acc (q.memProduct m)
      constructor
      · rw [Stepped, Seq.retire_xr, Seq.postMod_xr_ne _ _ hne', ← Seq.retire_xr _ (mulWords m)]
        exact stepped_postMod m.mda (mulWords m) hx hm hl
      · refine stepped_postMod_at m.mdb _ ?_ ?_ ?_
        · rw [Seq.postMod_xr_ne _ _ hne'.symm, Seq.xr_of_x hx]
        · rw [Seq.mr, Seq.postMod_m, hm]; rfl
        · rw [Seq.lr, Seq.postMod_l, hl]; rfl
  exact ⟨⟨_, rfl, mem .mac, load .mac⟩, ⟨_, rfl, mem .msu, load .msu⟩, ⟨_, rfl, mem .mpy, load .mpy⟩⟩

/-! ### Repeats (O8) -/

theorem Seq.repeatNext_of_pos (q : Seq) {k : Nat} (h : 0 < k) :
    q.repeatNext k = { q with pc := (q.pc + 4) % 2 ^ 14, rpt := some k } := by
  simp [Seq.repeatNext, Nat.pos_iff_ne_zero.mp h]

theorem Seq.repeatBlock_of_pos (q : Seq) {k : Nat} (e : Nat) (h : 0 < k) : q.repeatBlock k e =
    { q with pc := (q.pc + 4) % 2 ^ 14, reps := ⟨k, (q.pc + 4) % 2 ^ 14, e⟩ :: q.reps } := by
  simp [Seq.repeatBlock, Nat.pos_iff_ne_zero.mp h]

theorem wordCount_pos (w : Nat) : 1 ≤ wordCount w := by
  unfold wordCount; split
  · decide
  · split <;> decide

/-- Settles O8: a count above 0 is kept in hand or enters a level; a count of 0 goes on behind what it would have repeated. -/
theorem tabxoRepeatsComplete : Obligations.TabxoRepeatsComplete := by
  intro n cnt ga eofs s hr hp q g e next armed level
  have rpt (k : Seq → Nat) : (s.rptOp n k).sq n = q.repeatNext (k q) := by
    rw [State.rptOp, State.issue_runs hr hp.placeTrap_noEnd, State.pmcSeq_sq, State.setSq_sq]
  have rptb (k : Seq → Nat) (he : e < 2 ^ 14) (hl : q.reps.length < 3) : (s.rptbOp n eofs.toNat k).sq n = q.repeatBlock (k q) e := by
    have h1 : decide (2 ^ 14 ≤ (s.sq n).blockEnd eofs.toNat) = false := decide_eq_false (Nat.not_le.mpr he)
    have h2 : (if 3 ≤ (s.sq n).reps.length then some Trap.nest else none) = none := if_neg (Nat.not_le.mpr hl)
    rw [State.rptbOp, h1, h2, State.issue_runs hr hp.placeTrap_noEnd, State.pmcSeq_sq, State.setSq_sq]
    rfl
  have kept (k : Seq → Nat) (h : 0 < k q) : armed (k q) (s.rptOp n k) := by
    simp only [armed, rpt, q.repeatNext_of_pos h, next, and_self]
  have entered (k : Seq → Nat) (he : e < 2 ^ 14) (hl : q.reps.length < 3) (h : 0 < k q) :
      level (k q) (s.rptbOp n eofs.toNat k) := by
    simp only [level, rptb k he hl, q.repeatBlock_of_pos e h, next, and_self]
  refine ⟨fun hk => ⟨_, rfl, kept _ hk⟩, fun hk => ⟨_, rfl, kept _ hk⟩, fun hreps hk => ⟨_, rfl, ?skipNext⟩,
    fun he hl hk => ⟨_, rfl, entered _ he hl hk⟩, fun he hl hk => ⟨_, rfl, entered _ he hl hk⟩,
    fun he hreps hk => ⟨_, rfl, ?skipBlock⟩⟩
  case skipNext =>
    simp only [rpt, hk, Seq.repeatNext, if_true]
    refine ⟨?_, rfl⟩
    have hw := wordCount_pos (memWord q.pMem next).toNat
    simp only [Seq.advance, hreps, advanceFrom, next] at hw ⊢
    congr 1
    omega
  case skipBlock =>
    have hl : q.reps.length < 3 := by simp [hreps]
    simp only [rptb _ he hl, hk, Seq.repeatBlock, if_true, Seq.advance, hreps, advanceFrom, and_true]

end Sys2Proof.Machine
end

section
/-! The step, the words of chapter 8's example and the state at reset; and two statements that the model does not meet, each with the
state that shows it. -/

namespace Sys2Proof.Machine

set_option Elab.async false

/-- Settles O50: the queue's front command is taken off and executed. -/
theorem stepRunsTheFrontCommand : Obligations.StepRunsTheFrontCommand := by
  intro i rest s h
  rw [step, h]

/-- Settles O53: the decoder reads the fields of the words alone, whatever the sequencer. -/
theorem exampleWordsDecode : Obligations.ExampleWordsDecode := by
  intro n
  exact ⟨rfl, rfl, rfl, rfl, rfl, rfl, rfl⟩

/-- At reset no register has been written, so each is at its reset value. -/
theorem State.reset_lastAt (x : RegAt) : State.reset.lastAt x = x.rst := rfl

theorem State.reset_forceAt (x : RegAt) : State.reset.forceAt x = x.rst := rfl

/-- Settles O52: what reset leaves, unit by unit. -/
theorem resetLeaves : Obligations.ResetLeaves :=
  ⟨fun x => ⟨State.reset_lastAt x, State.reset_forceAt x⟩, rfl, rfl, rfl, rfl, by decide +kernel, fun _ => rfl, fun _ => rfl, rfl, rfl, rfl,
    rfl, rfl, rfl⟩

/-- What a command that completes leaves is what its `exec` answers. -/
theorem Completes.post {i : Instr} {s t : State} {P : State → Prop} (h : Completes i s P) (he : exec i s = .next t) : P t := by
  obtain ⟨t', ht, hP⟩ := h
  rw [he] at ht
  cases ht
  exact hP

/-- A running sequencer 0 in the nanosecond in which the Gauge has gone to LOCKED and its bus still carries FREE-RUN. -/
def State.lockedAfterBus : State :=
  { State.reset.setSq 0 { Seq.reset with st := .running } with gau := { Gau.reset with st := .locked } }

/-- Refutes O9: GRD reads the state that the Gauge bus carries, and the statement names the state of the Gauge. They differ in the
state above, where GRD of g0 leaves the code 0 of FREE-RUN in g4, not the 1 of LOCKED. -/
theorem not_tabxoTimeCompletes : ¬ Obligations.TabxoTimeCompletes := by
  intro h
  obtain ⟨hgrd, -⟩ := h 0 0 0 0 0 false State.lockedAfterBus (by decide) rfl
  obtain ⟨-, -, -, -, hstate⟩ := (hgrd (by decide)).post rfl
  revert hstate
  decide +kernel

/-- The PCIe link is down. -/
def State.hostDown : State := { State.reset with hst := { State.reset.hst with down := true } }

/-- Refutes O18: a read of the host does not arrive while the PCIe link is down (R34), and no hypothesis of the statement keeps it up.
In the state above a host read of LOG_TAIL latches nothing. -/
theorem not_readsComplete : ¬ Obligations.ReadsComplete := by
  intro h
  obtain ⟨-, htail, -⟩ := h .host 0 0 ⟨.GAU_SNAP, 0, 0, 0, 0⟩ State.hostDown fun _ => ⟨rfl, rfl⟩
  obtain ⟨haddr, -⟩ := htail.post rfl
  revert haddr
  decide +kernel

end Sys2Proof.Machine
end

section
/-! The message instructions (R159 to R162, R190): a receive of the oldest message, a mailbox message, and what a delivery does to the
inbox that takes it and to every other sequencer. -/

namespace Sys2Proof.Machine

set_option Elab.async false

section
variable {s : State} {n : Nat}

/-- An instruction of the time and port families that meets no trap. -/
theorem State.portOp_runs {f : State → State} (hr : s.runs n = true) (hp : (s.sq n).rpt = none) :
    s.portOp n false none f = (f (s.setSq n ((s.sq n).retire 1))).pmcSeq n 2 := by
  rw [State.portOp, State.issue_runs hr (Seq.placeTrap_noRepeat hp)]

/-- The same, at a sequencer: what `f` leaves of it. -/
theorem State.portOp_sq {f : State → State} (hr : s.runs n = true) (hp : (s.sq n).rpt = none) (m : Nat) :
    (s.portOp n false none f).sq m = (f (s.setSq n ((s.sq n).retire 1))).sq m := by
  rw [State.portOp_runs hr hp, State.pmcSeq_sq]

end

/-! ### Deliveries -/

theorem State.sq_listens {s t : State} {d : Nat} (h : t.sq d = s.sq d) : t.listens d = s.listens d := by
  rw [State.listens, State.listens, h]

theorem State.sq_room {s t : State} {d : Nat} (p : Nat) (m : Msg) (h : t.sq d = s.sq d) : t.room d p m = s.room d p m := by
  rw [State.room, State.room, h]

theorem State.wakeFor_inbox (s : State) (d p : Nat) : ((s.wakeFor d p).sq d).inbox = (s.sq d).inbox := by
  unfold State.wakeFor
  split
  · rfl
  · split
    · rw [State.setSq_sq]; rfl
    · rfl

theorem State.wakeFor_sq_ne (s : State) {d n : Nat} (p : Nat) (h : n ≠ d) : (s.wakeFor d p).sq n = s.sq n := by
  unfold State.wakeFor
  split
  · rfl
  · split
    · exact s.setSq_sq_ne _ h
    · rfl

/-- A delivery changes no sequencer but the one it goes to. -/
theorem State.deliver_sq_ne (s : State) {d n : Nat} (p : Nat) (m : Msg) (h : n ≠ d) : (s.deliver d p m).sq n = s.sq n := by
  unfold State.deliver
  split
  · rw [State.pmcSeq_sq, State.wakeFor_sq_ne _ _ h, State.setSq_sq_ne _ _ h]
  · rfl

/-- A sequencer that does not listen stays as it is. -/
theorem State.deliver_sq_deaf {s : State} {d : Nat} (p : Nat) (m : Msg) (h : s.listens d = false) (n : Nat) :
    (s.deliver d p m).sq n = s.sq n := by
  simp only [State.deliver, h]; rfl

/-- One that listens has the message behind those of its inbox. -/
theorem State.deliver_inbox {s : State} {d : Nat} (p : Nat) (m : Msg) (h : s.listens d = true) :
    ((s.deliver d p m).sq d).inbox.get p [] = (s.sq d).inbox.get p [] ++ [m] := by
  simp only [State.deliver, h, if_true, State.pmcSeq_sq, State.wakeFor_inbox, State.setSq_sq, Tab.get_set_same]

/-! ### The mailbox -/

section
variable {s : State} {n d : Nat} {m : Msg}

@[simp] theorem State.onSeq_sq (s : State) (n : Nat) (f : Seq → Seq) : (s.onSeq n f).sq n = f (s.sq n) := by
  rw [State.onSeq, State.setSq_sq]

theorem State.onSeq_sq_ne (s : State) {n d : Nat} (f : Seq → Seq) (h : d ≠ n) : (s.onSeq n f).sq d = s.sq d := s.setSq_sq_ne _ h

/-- A mailbox message that finds room. -/
theorem State.mailOp_room (hd : d < 160) (hl : s.listens d = true) (hroom : s.room d 14 m = true) :
    s.mailOp n d m = (s.onSeq n fun q => { q with c := true }).deliver d 14 m := by
  simp [State.mailOp, Nat.not_lt.mpr (Nat.le_of_lt_succ hd), hl, hroom]

/-- A mailbox message that finds no room, no listener or no sequencer leaves the addressed sequencer as it is, with C = 0. -/
theorem State.mailOp_refused (hne : d ≠ n) (h : 159 < d ∨ s.listens d = false ∨ s.room d 14 m = false) :
    ((s.mailOp n d m).sq n).c = false ∧ (s.mailOp n d m).sq d = s.sq d := by
  have plain : ∀ t : State, t.sq d = s.sq d → ((t.onSeq n fun q => { q with c := false }).sq n).c = false ∧
      (t.onSeq n fun q => { q with c := false }).sq d = s.sq d :=
    fun t ht => ⟨by rw [State.onSeq_sq], (t.onSeq_sq_ne _ hne).trans ht⟩
  unfold State.mailOp
  split
  · exact plain s rfl
  · split
    next hl => exact plain _ (State.deliver_sq_deaf 14 m (by simpa using hl) d)
    next hd hl =>
      have hroom : s.room d 14 m = false := by
        rcases h with h | h | h
        · exact absurd h hd
        · exact absurd h (by simpa using hl)
        · exact h
      rw [if_neg (by simp [hroom])]
      exact plain s rfl

end

/-! ### A receive -/

/-- The oldest message of an inbox is taken; with none, Z alone tells. -/
theorem Seq.takeInbox_nil {q : Seq} {p : Nat} (k : Nat) (inc : Bool) (h : q.inbox.get p [] = []) :
    q.takeInbox p k inc = { q with z := true } := by
  rw [Seq.takeInbox, h]

theorem Seq.takeInbox_cons {q : Seq} {p : Nat} {m : Msg} {r : List Msg} (k : Nat) (inc : Bool) (h : q.inbox.get p [] = m :: r) :
    (q.takeInbox p k inc).z = false ∧ (q.takeInbox p k inc).inbox.get p [] = r ∧
    (m.pay = [] → (q.takeInbox p k inc).dMem = memPutWord q.dMem (q.xr k).toNat m.header) := by
  rw [Seq.takeInbox, h]
  refine ⟨by simp, by simp, fun hp => ?_⟩
  simp [hp, Seq.msgAddrs]

/-- Settles O10: each instruction by what its receive, its mailbox delivery or its block's acceptance leaves. -/
theorem tabxoMessagesComplete : Obligations.TabxoMessagesComplete := by
  intro n port ga x inc s hr hp q m sent d has
  have recv {p : Nat} {i : Instr} (hi : exec i s = .next (s.recvOp n p x inc)) (ht : q.recvTrap n p x = none) :
      Completes i s (has p) := by
    refine ⟨_, hi, ?_⟩
    have hq : (s.recvOp n p x inc).sq n = (q.retire 1).takeInbox p x inc := by
      rw [State.recvOp, ht, State.portOp_sq hr hp, State.onSeq_sq, State.setSq_sq]
    refine ⟨fun h0 => ?_, fun k r h1 => ?_⟩
    · rw [hq, Seq.takeInbox_nil _ _ (by simpa using h0)]
      exact ⟨rfl, by simpa using h0⟩
    · obtain ⟨hz, hrest, hmem⟩ := Seq.takeInbox_cons (q := q.retire 1) x inc (by simpa using h1)
      rw [hq]
      exact ⟨hz, hrest, fun hk hw => by rw [hmem hk]; simpa using memWord_putWord q.dMem _ k.header hw⟩
  refine ⟨fun ht => ?_, recv rfl, recv rfl, fun ht => ?_⟩
  · show Host.Outcome.next _ = _
    rw [ht, State.portOp_runs hr hp]
  · have hsend : exec (.mbsend n ga x inc) s = .next ((((s.setSq n (q.retire 1)).onSeq n fun p =>
        p.passMsg x m.pay.length inc).mailOp n d m).pmcSeq n 2) := by
      show Host.Outcome.next _ = _
      rw [ht, State.portOp_runs hr hp]
      simp [m, q, d, bits]
    generalize hu : ((s.setSq n (q.retire 1)).onSeq n fun p => p.passMsg x m.pay.length inc) = u at hsend
    have stays {e : Nat} (he : e ≠ n.val) : u.sq e = s.sq e := by
      rw [← hu, State.onSeq_sq_ne _ _ he, State.setSq_sq_ne _ _ he]
    refine ⟨fun hne hd hl hroom => ⟨_, hsend, ?_⟩, fun hne hd hl hroom => ⟨_, hsend, ?_⟩, fun hne hno => ⟨_, hsend, ?_⟩⟩
    · have hl' : (u.onSeq n fun q => { q with c := true }).listens d = true :=
        (State.sq_listens (by rw [State.onSeq_sq_ne _ _ hne, stays hne])).trans hl
      rw [State.mailOp_room hd ((State.sq_listens (stays hne)).trans hl) ((State.sq_room 14 m (stays hne)).trans hroom)]
      simp only [State.pmcSeq_sq]
      refine ⟨by rw [State.deliver_sq_ne _ _ _ (Ne.symm hne), State.onSeq_sq], ?_⟩
      rw [State.deliver_inbox 14 m hl', State.onSeq_sq_ne _ _ hne, stays hne]
    · have := State.mailOp_refused (s := u) (m := m) hne (.inr (.inr ((State.sq_room 14 m (stays hne)).trans hroom)))
      simpa [stays hne] using this
    · have := State.mailOp_refused (s := u) (m := m) hne
        (hno.imp id fun h => .inl ((State.sq_listens (stays hne)).trans h))
      simpa [stays hne] using this

end Sys2Proof.Machine
end

section
/-! A change of any kind that the write gate takes at once (R303, R404), and the step request of a sequencer (R42, R60, R156). -/

namespace Sys2Proof.Machine

set_option Elab.async false

/-- A change that nothing mirrors is recorded where the gate is open, the ring has room and the judgement admits it. -/
theorem State.recordNext_admits {s : State} {e : GateEntry} (hn : e.recorded = none) (ha : e.apply = none)
    (hh : s.log.held = false) (hw : s.warden.up = true) (hm : ∀ t : State, t.mirrorOut e = (e.apply, t)) (hr : s.logRoom 2 = true)
    (hj : (s.gated e).judge e false = .none) :
    (s.gated e).recordNext =
      { s.withRecord e with log := { (s.withRecord e).log with gate := [{ e with recorded := some (s.withRecord e).log.seq }] } } := by
  have hroom : (s.gated e).logRoom ((s.gated e).recOf e .none).slots = true := State.logRoom_mono _ (by simpa using hr)
  obtain ⟨a, b, c, hnormal, hgate, -⟩ := (s.gated e).recordNormal_only ((s.gated e).recOf e .none)
  have hopen : (s.gated e).gateOpens = true := by simp [State.gateOpens, State.gated, hw, hh]
  have hfind : (s.gated e).log.gate.find? (fun e => e.recorded.isNone) = some e := by simp [State.gated, hn]
  have hentry : (s.gated e).recordEntry e =
      { s with log := { a with gate := [{ e with recorded := some a.seq }] }, hw := b, sent := c } := by
    unfold State.recordEntry
    simp only [hj, State.record_room hroom, ne_eq, not_true_eq_false, if_false, hnormal, hm]
    simp [hgate, State.gated, replaceFirst, hn, ha]
  unfold State.recordNext
  simp only [hopen, if_true, hfind, hentry]
  unfold State.withRecord
  simp only [State.recordExempt, State.recordNormal_room hroom, Option.getD_some, ite_self, hnormal]
  rfl

/-- The release of the only change of the gate, once it has its record, nothing holds it and its judgement admits it still. -/
theorem State.releaseNext_admits {t : State} {e : GateEntry} {q : Nat} (ha : e.apply = none) (hh : t.log.held = false)
    (hg : t.log.gate = []) (hj : t.judge { e with recorded := some q } true = .none) (hwt : t.wt = e.at_) :
    ({ t with log := { t.log with gate := [{ e with recorded := some q }] } } : State).releaseNext =
      ((t.applyChange { e with recorded := some q }).originDone { e with recorded := some q }).sample 11 0 0 := by
  have ht : ({ t with log := { t.log with gate := [] } } : State) = t := by rw [← hg]
  have hrel : ({ t with log := { t.log with gate := [{ e with recorded := some q }] } } : State).releasable
      { e with recorded := some q } = true := by
    simp [State.releasable, hh, ha]
  have hstep : ({ t with log := { t.log with gate := [{ e with recorded := some q }] } } : State).releaseNext =
      ({ t with log := { t.log with gate := [] } } : State).releaseEntry { e with recorded := some q } := if_pos hrel
  rw [hstep, ht]
  unfold State.releaseEntry
  simp only [hj, if_true, hwt]
  simp

/-- A change that arrives at an empty gate, has its record and acts, all in one instant. -/
theorem State.submitChange_taken {s : State} {ch : Change} {org : Origin} {e : GateEntry}
    (he : s.entry ch org (s.ownerMay org ch.addr) = e)
    (hg : s.log.gate = []) (hh : s.log.held = false) (hw : s.warden.up = true) (hr : s.logRoom 2 = true)
    (hm : ∀ t : State, t.mirrorOut e = (e.apply, t))
    (h1 : (s.gated e).judge e false = .none)
    (h2 : (s.withRecord e).judge { e with recorded := some (s.withRecord e).log.seq } true = .none) :
    s.submitChange ch org =
      (((s.withRecord e).applyChange { e with recorded := some (s.withRecord e).log.seq }).originDone
        { e with recorded := some (s.withRecord e).log.seq }).sample 11 0 0 := by
  have hn : e.recorded = none := by rw [← he]; rfl
  have ha : e.apply = none := by rw [← he]; rfl
  have hat : e.at_ = s.wt := by rw [← he]; rfl
  have harrive : s.submitChange ch org = (s.gated e).recordNext.releaseNext := by
    unfold State.submitChange
    simp [Warden.down, hw, hg, he, State.gated]
  obtain ⟨a, b, c, hrec, hheld, hempty⟩ := s.withRecord_only e hr
  rw [harrive, State.recordNext_admits hn ha hh hw hm hr h1]
  exact State.releaseNext_admits ha (by rw [hrec]; exact hheld.trans hh) (by rw [hrec]; exact hempty) h2 (by rw [hrec]; exact hat.symm)

/-- Settles O12: the request is the only change of the gate, and nothing that its record touches is judged. -/
theorem gstepCompletes : Obligations.GstepCompletes := by
  intro n gk clr s hr hp hn hgk q t amt u e hgate hheld hup hroom hcore hj
  have hill : decide (11 < gk.val) = false := by simpa using hgk
  have hzero : clusterZero n = none := by simp [clusterZero, portTrap, hn]
  have hjudge (v0 v1 v2) (c : GateEntry) (hc : c.ch = e.ch) (b : Bool) :
      ({ u with log := v0, hw := v1, sent := v2 } : State).judge c b = .none := by
    simp only [State.judge, hc]
    exact (if_pos hcore).trans hj
  have htaken : u.submitChange (.gstep n t amt clr) (.seq n) = _ :=
    State.submitChange_taken (e := e) rfl hgate hheld hup hroom (fun _ => rfl) (hjudge _ _ _ e rfl false) (by
      obtain ⟨a, b, c, hrec, -⟩ := u.withRecord_only e hroom
      rw [hrec]
      exact hjudge a b c _ rfl true)
  show Host.Outcome.next (s.portOp n (decide (11 < gk.val)) (clusterZero n) _) = _
  rw [hill, hzero, State.portOp_runs hr hp]
  have ht : natOfWords [q.gr (gk + 3), q.gr (gk + 4)] = t := by simp [natOfWords, t]
  have hamt : sext 96 (natOfWords [q.gr gk, q.gr (gk + 1), q.gr (gk + 2)]) = amt := by simp [natOfWords, amt]
  show Host.Outcome.next ((u.submitChange (.gstep n (natOfWords [q.gr (gk + 3), q.gr (gk + 4)])
    (sext 96 (natOfWords [q.gr gk, q.gr (gk + 1), q.gr (gk + 2)])) clr) (.seq n)).pmcSeq n 2) = _
  rw [ht, hamt, htaken]
  rfl

end Sys2Proof.Machine
end

section
/-! What the collection of a fault may do to the device (R338 to R345), stated once: the relation `Reacts` lists the parts of the state that
change, and the operations that a fault calls are gone through in the order of the model. From it follow that a sequencer at rest stays
at rest, and what no fault touches. -/

namespace Sys2Proof.Machine

set_option Elab.async false

/-- A sequencer neither runs nor waits. -/
def Seq.Rests (q : Seq) : Prop := q.st ≠ .running ∧ q.wait = none

/-- `t` comes from `s₀` by changes as a fault makes them: no sequencer at rest goes on, of the baseband only ports and channels change, and
the other parts are those of `frame`, some of them where `ρ` allows it; external memory changes where `μ` does. The fields of `frame` are
variables, so that it unifies with a record update as the model writes it. -/
inductive Reacts (μ ρ : Prop) (s₀ : State) : State → Prop
  | refl : Reacts μ ρ s₀ s₀
  | frame {s : State} (h : Reacts μ ρ s₀ s) {sent regs force hw log gau sel hld out clus flt rcd pmc twin tdc eth cast_}
    (hρ : ρ ∨ (regs = s.regs ∧ force = s.force ∧ clus = s.clus ∧ twin = s.twin ∧ eth = s.eth ∧ cast_ = s.cast_ ∧
      flt.relinq = s.flt.relinq ∧ flt.halt = s.flt.halt) := by simp)
    (hl : (s.flt.relinq = true → flt.relinq = true) ∧ cast_.bind = s.cast_.bind ∧ tdc.chs = s.tdc.chs := by simp) :
    Reacts μ ρ s₀ (State.mk s.pending sent s.free s.wt s.fired regs force hw s.staged s.latches s.hostErr s.sbdErr s.warden log gau sel hld
      out s.seqs clus flt rcd pmc s.links twin tdc s.gnb s.key s.fuses s.att eth s.tsv s.aud s.mix s.hst s.sbd s.mem cast_ s.dram s.coreOn)
  | setSq {s : State} (h : Reacts μ ρ s₀ s) {n : Nat} {q : Seq} (hq : (s.sq n).Rests → q.Rests) : Reacts μ ρ s₀ (s.setSq n q)
  | setFe {s : State} (h : Reacts μ ρ s₀ s) {f : Nat} {x : Fe} : Reacts μ ρ s₀ (s.setFe f x)
  | setChan {s : State} (h : Reacts μ ρ s₀ s) {c : Nat} {x : Chan} : Reacts μ ρ s₀ (s.setChan c x)
  | memory {s : State} (hm : μ) (h : Reacts μ ρ s₀ s) {free mem dram} : Reacts μ ρ s₀ { s with free := free, mem := mem, dram := dram }

variable {μ ρ : Prop} {s₀ s : State}

theorem Reacts.ite {c : Prop} {_ : Decidable c} {s t : State} (hs : Reacts μ ρ s₀ s) (ht : Reacts μ ρ s₀ t) :
    Reacts μ ρ s₀ (if c then s else t) := by
  split
  · exact hs
  · exact ht

theorem Reacts.foldl {α : Type} {f : State → α → State} {l : List α} {s : State} (h : Reacts μ ρ s₀ s)
    (hf : ∀ t a, Reacts μ ρ s₀ t → Reacts μ ρ s₀ (f t a)) : Reacts μ ρ s₀ (l.foldl f s) :=
  List.foldlRecOn (motive := Reacts μ ρ s₀) l f h fun t ht a _ => hf t a ht

/-! ### Counters, interrupts and messages -/

theorem Reacts.setOutU (h : Reacts μ ρ s₀ s) {i : Nat} {o : OutU} : Reacts μ ρ s₀ (s.setOutU i o) := h.frame

theorem Reacts.send (h : Reacts μ ρ s₀ s) {x : Sent} : Reacts μ ρ s₀ (s.send x) := h.frame

theorem Reacts.bump (h : Reacts μ ρ s₀ s) {r : RegName} {hi lo k i j l : Nat} : Reacts μ ρ s₀ (s.bump r hi lo k i j l) := h.frame

theorem Reacts.setFl (h : Reacts μ True s₀ s) {r : RegName} {hi lo w i j l : Nat} : Reacts μ True s₀ (s.setFl r hi lo w i j l) := h.frame

theorem Reacts.irq (h : Reacts μ ρ s₀ s) {v : Nat} : Reacts μ ρ s₀ (s.irq v) := .ite (.ite h.frame h.frame.frame) h

theorem Reacts.ibi (h : Reacts μ ρ s₀ s) {c : Nat} : Reacts μ ρ s₀ (s.ibi c) := .ite h h.frame

theorem Reacts.pmcEv (h : Reacts μ ρ s₀ s) {lo hi sel k : Nat} : Reacts μ ρ s₀ (s.pmcEv lo hi sel k) := h.foldl fun _ _ ht => ht.frame

theorem Reacts.pmcTime (h : Reacts μ ρ s₀ s) {ev obj k : Nat} : Reacts μ ρ s₀ (s.pmcTime ev obj k) := h.pmcEv

theorem Reacts.pmcSeq (h : Reacts μ ρ s₀ s) {n ev k : Nat} : Reacts μ ρ s₀ (s.pmcSeq n ev k) := h.pmcEv

theorem Reacts.recEvent (h : Reacts μ ρ s₀ s) {code arg : Nat} : Reacts μ ρ s₀ (s.recEvent code arg) :=
  .ite (.ite h.frame.frame h.frame.frame.frame) h.frame.frame

/-- Nothing wakes a sequencer that does not wait. -/
theorem Reacts.wakeFor (h : Reacts μ ρ s₀ s) {n port : Nat} : Reacts μ ρ s₀ (s.wakeFor n port) := by
  unfold State.wakeFor
  split
  · exact h
  next hw => exact .ite (h.setSq fun hq => absurd (hq.2.symm.trans hw) (by simp)) h

theorem Reacts.deliver (h : Reacts μ ρ s₀ s) {n port : Nat} {x : Msg} : Reacts μ ρ s₀ (s.deliver n port x) := by
  unfold State.deliver
  split
  · exact (h.setSq (q := { s.sq n with inbox := (s.sq n).inbox.set port ((s.sq n).inbox.get port [] ++ [x]) }) fun hq => hq).wakeFor.pmcSeq
  · exact h.frame

theorem Reacts.stepRes (h : Reacts μ ρ s₀ s) {by_ : Option Nat} {code seq t : Nat} : Reacts μ ρ s₀ (s.stepRes by_ code seq t) := by
  unfold State.stepRes
  split
  · exact h
  · exact h.deliver

theorem Reacts.status (h : Reacts μ ρ s₀ s) {by_ : Option Nat} {code t num : Nat} : Reacts μ ρ s₀ (s.status by_ code t num) := h.frame.stepRes

theorem Reacts.dropSched (h : Reacts μ ρ s₀ s) {code : Nat} : Reacts μ ρ s₀ (s.dropSched code) := by
  unfold State.dropSched
  split
  · exact h
  · exact h.frame.status

theorem Reacts.latchAtom (h : Reacts μ ρ s₀ s) : Reacts μ ρ s₀ (s.latchAtom) := by
  unfold State.latchAtom
  split
  · exact h.frame
  · exact .ite h.frame h.frame

theorem Reacts.ageStart (h : Reacts μ ρ s₀ s) : Reacts μ ρ s₀ (s.ageStart) := .ite h h.frame

theorem Reacts.ageFold (h : Reacts μ ρ s₀ s) : Reacts μ ρ s₀ (s.ageFold) := .ite (.ite h.frame h.frame.frame) h

theorem Reacts.ageCheck (h : Reacts μ ρ s₀ s) : Reacts μ ρ s₀ (s.ageCheck) := .ite (.ite h.ageStart h.ageFold) h

theorem Reacts.rebase (h : Reacts μ ρ s₀ s) : Reacts μ ρ s₀ (s.rebase) := .ite h.frame h

theorem Reacts.fselEffects (h : Reacts μ ρ s₀ s) {old : Option Nat} : Reacts μ ρ s₀ (State.fselEffects old s) :=
  (Reacts.ite h h.rebase).ageCheck

theorem Reacts.stateEvent (h : Reacts μ ρ s₀ s) : Reacts μ ρ s₀ (s.stateEvent) := h.recEvent

theorem Reacts.enterHoldover (h : Reacts μ ρ s₀ s) {cause : Nat} : Reacts μ ρ s₀ (s.enterHoldover cause) := by
  refine .stateEvent (.ite (.ageStart ?_) ?_) <;> exact .ite h.latchAtom.frame.dropSched h.latchAtom.frame

theorem Reacts.noRef (h : Reacts μ ρ s₀ s) : Reacts μ ρ s₀ (s.noRef) := .ite h.enterHoldover h

theorem Reacts.servoFenced (h : Reacts μ ρ s₀ s) {n : Nat} : Reacts μ ρ s₀ (s.servoFenced n) := .ite h.enterHoldover h

theorem Reacts.place (h : Reacts μ ρ s₀ s) {r : LogRec} : Reacts μ ρ s₀ (s.place r) := .ite h.frame.irq.ibi h.frame

theorem Reacts.placeGap (h : Reacts μ ρ s₀ s) : Reacts μ ρ s₀ (s.placeGap) := .ite h.place.frame h

theorem Reacts.recordNormal {t : State} (h : Reacts μ ρ s₀ s) {r : LogRec} (ht : s.recordNormal r = some t) : Reacts μ ρ s₀ t := by
  unfold State.recordNormal at ht
  split at ht
  · obtain rfl := Option.some.inj ht
    exact h.placeGap.place
  · cases ht

theorem Reacts.recordDeferred (h : Reacts μ ρ s₀ s) {r : LogRec} : Reacts μ ρ s₀ (s.recordDeferred r) := by
  unfold State.recordDeferred
  split
  · split
    case h_1 ht => exact h.recordNormal ht
    case h_2 => exact h.frame
  · exact h.frame

theorem Reacts.outcome (h : Reacts μ ρ s₀ s) {t : Txn} {code : Nat} : Reacts μ ρ s₀ (s.outcome t code) := h.frame.recEvent

theorem Reacts.abandon (h : Reacts μ ρ s₀ s) : Reacts μ ρ s₀ (s.abandon) := by
  unfold State.abandon
  split
  · exact h
  · exact h.outcome

theorem Reacts.prepare (h : Reacts μ ρ s₀ s) {w : Nat} : Reacts μ ρ s₀ (s.prepare w) := h.frame.deliver

theorem Reacts.deselect (h : Reacts μ ρ s₀ s) : Reacts μ ρ s₀ (s.deselect) := by
  unfold State.deselect
  split
  · exact h
  · exact .ite h h.frame.frame.recordDeferred.noRef

theorem Reacts.deselectF (h : Reacts μ ρ s₀ s) : Reacts μ ρ s₀ (s.deselectF) := by
  unfold State.deselectF
  split
  · exact h
  · exact .ite h h.frame.frame.recordDeferred.fselEffects

theorem Reacts.requestF (h : Reacts μ ρ s₀ s) : Reacts μ ρ s₀ (s.requestF) := by
  unfold State.requestF
  split
  · exact h
  · exact .ite h (.ite h.frame h.frame.frame)

theorem Reacts.requestT (h : Reacts μ ρ s₀ s) : Reacts μ ρ s₀ (s.requestT) := by
  unfold State.requestT
  split
  · exact h.abandon
  · exact .ite h h.abandon.prepare

theorem Reacts.determine (h : Reacts μ ρ s₀ s) : Reacts μ ρ s₀ (s.determine) := h.deselect.deselectF.requestF.requestT

theorem Reacts.qualEvent (h : Reacts μ ρ s₀ s) {k : Nat} {entered : Bool} {cause : Nat} : Reacts μ ρ s₀ (s.qualEvent k entered cause) := h.recEvent

theorem Reacts.disqualify (h : Reacts μ ρ s₀ s) {k cause : Nat} {dest : CState} {obs : List (Int × Int)} :
    Reacts μ ρ s₀ (s.disqualify k cause dest obs) := by
  unfold State.disqualify
  dsimp only
  split
  · exact .ite h.frame.frame.pmcTime.qualEvent h.frame.frame.pmcTime
  · exact .ite h.frame.frame.pmcTime.qualEvent h.frame.frame.pmcTime
  · exact h

theorem Reacts.disq (h : Reacts μ ρ s₀ s) {k cause : Nat} : Reacts μ ρ s₀ (s.disq k cause) := h.disqualify.determine

theorem Reacts.external (h : Reacts μ ρ s₀ s) {k : Nat} {link on : Bool} : Reacts μ ρ s₀ (s.external k link on) :=
  .ite h (.ite h.frame.disq (.ite h.frame h.frame))

theorem Reacts.launchEdge (h : Reacts μ ρ s₀ s) {src : Nat} {fall : Bool} {d : Int} : Reacts μ ρ s₀ (s.launchEdge src fall d) := .ite h.frame h

theorem Reacts.loopEdge (h : Reacts μ ρ s₀ s) {i : Nat} {level : Bool} {d : Int} : Reacts μ ρ s₀ (s.loopEdge i level d) := by
  unfold State.loopEdge
  split
  · exact h.launchEdge
  · exact h

theorem Reacts.setPin (h : Reacts μ ρ s₀ s) {i : Nat} {o : OutU} {active : Bool} {at_ : Int} : Reacts μ ρ s₀ (s.setPin i o active at_) :=
  .ite h.frame h.setOutU.loopEdge.send

theorem Reacts.cutOut (h : Reacts μ ρ s₀ s) {i : Nat} : Reacts μ ρ s₀ (s.cutOut i) := h.setPin

theorem Reacts.squelchOne (h : Reacts μ ρ s₀ s) {i : Nat} : Reacts μ ρ s₀ (s.squelchOne i) := .ite h.cutOut (.ite h.frame h)

theorem Reacts.squelch (h : Reacts μ ρ s₀ s) : Reacts μ ρ s₀ (s.squelch) := h.foldl fun _ _ ht => ht.squelchOne

theorem Reacts.twinLinkCond (h : Reacts μ ρ s₀ s) {on : Bool} : Reacts μ ρ s₀ (s.twinLinkCond on) := h.foldl fun _ _ ht => .ite ht.external ht

theorem Reacts.setRole (h : Reacts μ True s₀ s) {r : Role} : Reacts μ True s₀ (s.setRole r) :=
  .ite h (Reacts.ite h.frame.twinLinkCond h.frame).squelch.determine

theorem Reacts.haltSeq (h : Reacts μ True s₀ s) {n : Nat} {st : SState} (hst : st ≠ .running) : Reacts μ True s₀ (s.haltSeq n st) :=
  .frame (h.setSq fun _ => ⟨hst, rfl⟩)

theorem Reacts.startSeq (h : Reacts μ True s₀ s) {n : Nat} {atRow : Bool} : Reacts μ True s₀ (s.startSeq n atRow) :=
  h.setSq fun _ => ⟨by simp, rfl⟩

theorem Reacts.tsFenced (h : Reacts μ True s₀ s) {n : Nat} : Reacts μ True s₀ (s.tsFenced n) := h.servoFenced.foldl fun _ _ ht => .ite ht.setChan ht

theorem Reacts.spare (h : Reacts μ True s₀ s) {n : Nat} : Reacts μ True s₀ ((s.spare n).1) := by
  unfold State.spare
  dsimp only
  split
  · exact h
  · split
    · exact h
    · exact h.setFl.setFl.setFl.startSeq.setFl.recEvent

theorem Reacts.fenceSeq (h : Reacts μ True s₀ s) {n : Nat} : Reacts μ True s₀ ((s.fenceSeq n).1) := by
  unfold State.fenceSeq
  extract_lets s1 q s2
  have h1 : Reacts μ True s₀ s1 := (h.haltSeq (by simp)).setFl
  have h2 : Reacts μ True s₀ s2 := h1.setSq fun hq => hq
  clear_value s2
  split
  · exact (show Reacts μ True s₀ (s2.tsFenced n) from h2.tsFenced)
  · exact h2.spare

theorem Reacts.ethCheck (h : Reacts μ ρ s₀ s) {p : Nat} : Reacts μ ρ s₀ (s.ethCheck p) := h.external.external

theorem Reacts.setLinkUp (h : Reacts μ True s₀ s) {p : Nat} {up : Bool} : Reacts μ True s₀ (s.setLinkUp p up) :=
  .ite h (.ite h.frame.ethCheck h.frame.ethCheck.bump)

theorem Reacts.apllOutputs (h : Reacts μ True s₀ s) {x : Nat} : Reacts μ True s₀ (s.apllOutputs x) := h.foldl fun _ _ ht => ht.frame

theorem Reacts.fenceAction (h : Reacts μ True s₀ s) {src unit : Nat} : Reacts μ True s₀ ((s.fenceAction src unit).1) := by
  unfold State.fenceAction
  split
  · exact h.apllOutputs.squelch
  · exact h.fenceSeq
  · exact h.fenceSeq
  · exact h.fenceSeq
  · exact h.fenceSeq
  · exact h.frame
  · exact h.frame.setFe
  · exact h.frame.setLinkUp
  · exact h.frame.setLinkUp
  · exact h.frame
  · exact h.frame.squelch
  · exact h

theorem Reacts.sendRelinq (h : Reacts μ ρ s₀ s) : Reacts μ ρ s₀ (s.sendRelinq) := h.foldl fun _ _ ht => .ite ht.frame ht

theorem Reacts.enterRelinq (h : Reacts μ True s₀ s) : Reacts μ True s₀ (s.enterRelinq) :=
  .ite h (Reacts.ite h.frame.sendRelinq.frame h.frame.sendRelinq.setRole).squelch

theorem Reacts.stopSeqs (h : Reacts μ True s₀ s) : Reacts μ True s₀ (s.stopSeqs) := by
  unfold State.stopSeqs
  refine h.foldl fun _ _ ht => ?_
  split
  · exact ht
  · exact ht
  · exact ht.haltSeq (by simp)

theorem Reacts.enterHalt (h : Reacts μ True s₀ s) : Reacts μ True s₀ (s.enterHalt) := h.enterRelinq.frame.stopSeqs.squelch

theorem Reacts.faultRecord (h : Reacts μ True s₀ s) {src unit : Nat} {inj : Bool} : Reacts μ True s₀ (s.faultRecord src unit inj) := by
  refine .ite (.ibi (.irq ?_)) ?_ <;> exact h.frame.frame.frame.frame.recEvent

theorem Reacts.faultRelinq (h : Reacts μ True s₀ s) {src : Nat} : Reacts μ True s₀ (s.faultRelinq src) := .ite h h.enterRelinq.recordDeferred

theorem Reacts.faultDevice (h : Reacts μ True s₀ s) {src sev : Nat} : Reacts μ True s₀ (s.faultDevice src sev) :=
  .ite h.faultRelinq (.ite (Reacts.ite h h.recordDeferred).enterHalt h)

theorem Reacts.fault1 (h : Reacts μ True s₀ s) {src unit : Nat} {inj : Bool} : Reacts μ True s₀ ((s.fault1 src unit inj).1) := by
  unfold State.fault1
  dsimp only
  split
  · exact h.faultRecord.fenceAction.recEvent
  · exact h.faultRecord.faultDevice

theorem Reacts.fault (h : Reacts μ True s₀ s) {src unit : Nat} {inj : Bool} : Reacts μ True s₀ (s.fault src unit inj) := by
  have h1 : Reacts μ True s₀ ((s.fault1 src unit inj).1) := h.fault1
  unfold State.fault
  split
  case h_1 he => rwa [he] at h1
  case h_2 he => rw [he] at h1; exact h1.fault1

/-! ### What follows -/

/-- A sequencer at rest stays at rest. -/
theorem Reacts.rests {t : State} (h : Reacts μ ρ s₀ t) {m : Nat} (hs : (s₀.sq m).Rests) : (t.sq m).Rests := by
  induction h with
  | refl => exact hs
  | frame _ _ _ ih => exact ih
  | @setSq s _ n q hq ih =>
    by_cases e : m = n
    · subst e
      rw [State.setSq_sq]
      exact hq ih
    · rw [State.setSq_sq_ne _ _ e]
      exact ih
  | setFe _ ih => exact ih
  | setChan _ ih => exact ih
  | memory _ _ ih => exact ih

/-- A trap stops its sequencer. -/
theorem State.trap_rests (s : State) (n : Nat) (t : Trap) : ((s.trap n t).sq n).Rests := by
  unfold State.trap State.haltSeq
  refine (Reacts.fault (μ := False) .refl).rests (s₀ := State.dropEvents _ n) ?_
  show (State.sq (State.setSq _ n _) n).Rests
  rw [State.setSq_sq]
  exact ⟨by simp, rfl⟩

/-- The commands that wait, the requests of the interfaces, keys, fuses, streams and links stay; of the baseband only its ports and
channels move. -/
theorem Reacts.keeps {t : State} (h : Reacts μ ρ s₀ t) :
    ∃ free mem dram sent regs force hw log gau sel hld out seqs clus flt rcd pmc twin tdc eth cast_ fes chs, t = { s₀ with
      free := free, mem := mem, dram := dram, sent := sent, regs := regs, force := force, hw := hw, log := log, gau := gau, sel := sel
      hld := hld, out := out, seqs := seqs, clus := clus, flt := flt, rcd := rcd, pmc := pmc, twin := twin, tdc := tdc, eth := eth
      cast_ := cast_, gnb := { s₀.gnb with fes := fes, chs := chs } } := by
  induction h with
  | refl => exact ⟨_, _, _, _, _, _, _, _, _, _, _, _, _, _, _, _, _, _, _, _, _, _, _, rfl⟩
  | frame _ _ _ ih =>
    obtain ⟨_, _, _, _, _, _, _, _, _, _, _, _, _, _, _, _, _, _, _, _, _, _, _, rfl⟩ := ih
    exact ⟨_, _, _, _, _, _, _, _, _, _, _, _, _, _, _, _, _, _, _, _, _, _, _, rfl⟩
  | setSq _ _ ih =>
    obtain ⟨_, _, _, _, _, _, _, _, _, _, _, _, _, _, _, _, _, _, _, _, _, _, _, rfl⟩ := ih
    exact ⟨_, _, _, _, _, _, _, _, _, _, _, _, _, _, _, _, _, _, _, _, _, _, _, rfl⟩
  | setFe _ ih =>
    obtain ⟨_, _, _, _, _, _, _, _, _, _, _, _, _, _, _, _, _, _, _, _, _, _, _, rfl⟩ := ih
    exact ⟨_, _, _, _, _, _, _, _, _, _, _, _, _, _, _, _, _, _, _, _, _, _, _, rfl⟩
  | setChan _ ih =>
    obtain ⟨_, _, _, _, _, _, _, _, _, _, _, _, _, _, _, _, _, _, _, _, _, _, _, rfl⟩ := ih
    exact ⟨_, _, _, _, _, _, _, _, _, _, _, _, _, _, _, _, _, _, _, _, _, _, _, rfl⟩
  | memory _ _ ih =>
    obtain ⟨_, _, _, _, _, _, _, _, _, _, _, _, _, _, _, _, _, _, _, _, _, _, _, rfl⟩ := ih
    exact ⟨_, _, _, _, _, _, _, _, _, _, _, _, _, _, _, _, _, _, _, _, _, _, _, rfl⟩

/-- What the operations below a change of role leave: the registers, the clusters, the twin, the ports, cast-on, and whether the device
has relinquished or is halted. -/
theorem Reacts.calm {t : State} (h : Reacts μ False s₀ t) : t.regs = s₀.regs ∧ t.force = s₀.force ∧ t.clus = s₀.clus ∧
    t.twin = s₀.twin ∧ t.eth = s₀.eth ∧ t.cast_ = s₀.cast_ ∧ t.flt.relinq = s₀.flt.relinq ∧ t.flt.halt = s₀.flt.halt := by
  induction h with
  | refl => exact ⟨rfl, rfl, rfl, rfl, rfl, rfl, rfl, rfl⟩
  | frame _ hρ _ ih =>
    obtain ⟨h1, h2, h3, h4, h5, h6, h7, h8⟩ := hρ.resolve_left id
    obtain ⟨i1, i2, i3, i4, i5, i6, i7, i8⟩ := ih
    exact ⟨h1.trans i1, h2.trans i2, h3.trans i3, h4.trans i4, h5.trans i5, h6.trans i6, h7.trans i7, h8.trans i8⟩
  | setSq _ _ ih => exact ih
  | setFe _ ih => exact ih
  | setChan _ ih => exact ih
  | memory _ _ ih => exact ih

/-- A device that has relinquished stays so, the bind-off stays where it is, and the channels of the interval measurement stay. -/
theorem Reacts.latched {t : State} (h : Reacts μ ρ s₀ t) :
    (s₀.flt.relinq = true → t.flt.relinq = true) ∧ t.cast_.bind = s₀.cast_.bind ∧ t.tdc.chs = s₀.tdc.chs := by
  induction h with
  | refl => exact ⟨id, rfl, rfl⟩
  | frame _ _ hl ih =>
    obtain ⟨h1, h2, h3⟩ := hl
    obtain ⟨i1, i2, i3⟩ := ih
    exact ⟨h1 ∘ i1, h2.trans i2, h3.trans i3⟩
  | setSq _ _ ih => exact ih
  | setFe _ ih => exact ih
  | setChan _ ih => exact ih
  | memory _ _ ih => exact ih

end Sys2Proof.Machine
end

section
/-! The frames of the Tabxo instructions (R178 to R186): what one leaves outside its sequencer, and within it. An instruction that traps
stops its sequencer, so a sequencer that runs still has met no trap, and only the effect of the instruction is left to look at. -/

namespace Sys2Proof.Machine

set_option Elab.async false

/-- Where sequencer `n` runs still, the instruction has changed no other part of the device, and `P` holds of the sequencer. -/
def Frames (s : State) (n : Fin 160) (P : Seq → Prop) (t : State) : Prop := (t.sq n).st = .running → Alone s t n ∧ P (t.sq n)

variable {s t : State} {n : Fin 160} {P : Seq → Prop}

theorem alone_pmcSeq (h : Alone s t n) (m ev k : Nat) : Alone s (t.pmcSeq m ev k) n := by
  obtain ⟨x, hx⟩ := t.pmcSeq_only m ev k
  obtain ⟨hstate, hothers⟩ := h
  refine ⟨?_, fun j hj => (t.pmcSeq_sq m ev k j).trans (hothers j hj)⟩
  rw [hx, hstate]

theorem Frames.pmcSeq (h : Frames s n P t) (m ev k : Nat) : Frames s n P (t.pmcSeq m ev k) := by
  unfold Frames
  rw [State.pmcSeq_sq]
  exact fun hst => ⟨alone_pmcSeq (h hst).1 m ev k, (h hst).2⟩

theorem alone_setSq (s : State) (n : Fin 160) (q : Seq) : Alone s (s.setSq n q) n := ⟨rfl, fun _ hm => s.setSq_sq_ne q hm⟩

theorem Frames.trap (s₀ : State) (t : Trap) : Frames s₀ n P (s.trap n t) := fun hst => absurd hst (s.trap_rests n t).1

/-- An instruction whose effect is on its sequencer alone. -/
theorem Frames.issue {words : Nat} {cls : IClass} {ill : Bool} {bad : Option Trap} {f : State → State}
    (hf : ill = false → bad = none → Frames s n P (f s)) (hr : s.runs n = true) : Frames s n P (s.issue n words cls ill bad f) := by
  unfold State.issue
  rw [if_pos hr]
  split
  · exact .trap s _
  case isFalse hill =>
    split
    · exact .trap s _
    · split
      · exact .trap s _
      · exact (hf (by simpa using hill) rfl).pmcSeq _ _ _

theorem Frames.setSq {q : Seq} (hP : P q) : Frames s n P (s.setSq n q) := by
  unfold Frames
  rw [State.setSq_sq]
  exact fun _ => ⟨alone_setSq s n q, hP⟩

theorem Frames.alu {f : Seq → Seq} {words : Nat} (hr : s.runs n = true) (hP : P ((f (s.sq n)).retire words)) :
    Frames s n P (s.alu n f words) := .issue (fun _ _ => .setSq hP) hr

theorem Frames.memOp {f : Seq → Seq} {words : Nat} {ill : Bool} {bad : Option Trap} (hr : s.runs n = true)
    (hP : ill = false → P ((f (s.sq n)).retire words)) : Frames s n P (s.memOp n words ill bad f) :=
  .issue (fun hill _ => .setSq (hP hill)) hr

theorem Frames.branch {f : Seq → Seq} {cls : IClass} {bad : Option Trap} (hr : s.runs n = true)
    (hP : bad = none → P (f (s.sq n))) : Frames s n P (s.branch n cls bad f) :=
  .issue (fun _ hbad => (Frames.setSq (hP hbad)).pmcSeq _ _ _) hr

theorem Frames.satHit (h : Frames s n P t) (w : Nat) (v : Int) (sat : Bool) : Frames s n P (t.satHit n w v sat) := by
  unfold State.satHit
  split
  · exact h.pmcSeq _ _ _
  · exact h

/-! ### What the operations on a sequencer write -/

theorem Seq.advance_only (q : Seq) (w : Nat) : ∃ pc reps, q.advance w = { q with pc := pc, reps := reps } := ⟨_, _, rfl⟩

theorem Seq.retire_only (q : Seq) (w : Nat) : ∃ pc reps rpt, q.retire w = { q with pc := pc, reps := reps, rpt := rpt } := by
  unfold Seq.retire
  split <;> exact ⟨_, _, _, rfl⟩

theorem Seq.cShl_only (q : Seq) (a : Word) (k : Nat) : ∃ c, q.cShl a k = { q with c := c } := by
  unfold Seq.cShl
  split <;> exact ⟨_, rfl⟩

theorem Seq.cShr_only (q : Seq) (a : Word) (k : Nat) : ∃ c, q.cShr a k = { q with c := c } := by
  unfold Seq.cShr
  split <;> exact ⟨_, rfl⟩

theorem Seq.storeFlags_only (q : Seq) (w : Nat) (v : Int) (sat : Bool) : ∃ b c, q.storeFlags w v sat = { q with s := b, v := c } := by
  unfold Seq.storeFlags
  split <;> split <;> exact ⟨_, _, rfl⟩

theorem Seq.postMod_only (q : Seq) (k : Nat) (m : Mod) : ∃ x, q.postMod k m = { q with x := x } := by
  cases m <;> exact ⟨_, rfl⟩

theorem Seq.setAcc_only (q : Seq) (a : Acc) (r : AccWord) : ∃ u v, q.setAcc a r = { q with a0 := u, a1 := v } := by
  cases a <;> exact ⟨_, _, rfl⟩

theorem Seq.setAcc_accOther (q : Seq) (a : Acc) (r : AccWord) : (q.setAcc a r).acc (accOther a) = q.acc (accOther a) := by
  cases a <;> rfl

theorem Seq.repeatNext_only (q : Seq) (k : Nat) : ∃ pc reps rpt, q.repeatNext k = { q with pc := pc, reps := reps, rpt := rpt } := by
  unfold Seq.repeatNext
  dsimp only
  split <;> exact ⟨_, _, _, rfl⟩

theorem Seq.repeatBlock_only (q : Seq) (k e : Nat) : ∃ pc reps rpt, q.repeatBlock k e = { q with pc := pc, reps := reps, rpt := rpt } := by
  unfold Seq.repeatBlock
  split <;> exact ⟨_, _, _, rfl⟩

/-- An integer operation writes gd and the flags. -/
def IntWrites (q : Seq) (gd : Nat) (p : Seq) : Prop :=
  ∃ r z n c v, p = { q with g := q.g.set gd r, z := z, n := n, c := c, v := v }

theorem Seq.addTo_writes (q : Seq) (gd : Nat) (a b : Word) (c : Bool) : IntWrites q gd (q.addTo gd a b c) := ⟨_, _, _, _, _, rfl⟩

theorem Seq.subTo_writes (q : Seq) (gd : Nat) (a b : Word) (c : Bool) : IntWrites q gd (q.subTo gd a b c) := ⟨_, _, _, _, _, rfl⟩

theorem Seq.logTo_writes (q : Seq) (gd : Nat) (r : Word) : IntWrites q gd (q.logTo gd r) := ⟨_, _, _, _, _, rfl⟩

theorem Seq.shlTo_writes (q : Seq) (gd : Nat) (a : Word) (k : Nat) : IntWrites q gd (q.shlTo gd a k) := by
  obtain ⟨c, hc⟩ := (q.logTo gd (a <<< k)).cShl_only a k
  exact ⟨_, _, _, _, _, hc⟩

theorem Seq.cShr_logTo_writes (q : Seq) (gd : Nat) (a r : Word) (k : Nat) : IntWrites q gd ((q.logTo gd r).cShr a k) := by
  obtain ⟨c, hc⟩ := (q.logTo gd r).cShr_only a k
  exact ⟨_, _, _, _, _, hc⟩

/-- An accumulator operation writes its accumulator, Z, N and V. -/
def AccWrites (q : Seq) (a : Acc) (p : Seq) : Prop :=
  p.acc (accOther a) = q.acc (accOther a) ∧ ∃ u v z n w, p = { q with a0 := u, a1 := v, z := z, n := n, v := w }

theorem Seq.setAcc_znAcc_writes (q : Seq) (a : Acc) (r : AccWord) : AccWrites q a ((q.setAcc a r).znAcc r) := by
  cases a <;> exact ⟨rfl, _, _, _, _, _, rfl⟩

theorem Seq.accTo_writes (q : Seq) (a : Acc) (v : Int) : AccWrites q a (q.accTo a v) := by
  cases a <;> exact ⟨rfl, _, _, _, _, _, rfl⟩

end Sys2Proof.Machine
end

section
/-! The two frame statements, group by group: what the operation writes, and that nothing else of the sequencer is written behind it. -/

namespace Sys2Proof.Machine

set_option Elab.async false

/-- A completed instruction whose next state meets the frame. -/
theorem Completes.of_frames {i : Instr} {s t : State} {n : Fin 160} {P : Seq → Prop} (he : exec i s = .next t) (h : Frames s n P t) :
    Completes i s fun t => (t.sq n).st = .running → Alone s t n ∧ P (t.sq n) := ⟨t, he, h⟩

/-- Settles O13. -/
theorem tabxoRegisterFrame : Obligations.TabxoRegisterFrame := by
  intro n gd ga gb c imm k5 k6 k kind a tw e w i s hr q leaves gd_only
  have alu {P : Seq → Prop} {f : Seq → Seq} {words : Nat} (he : exec i s = .next (s.alu n f words))
      (hP : P ((f q).retire words)) : leaves P := .of_frames he (.alu hr hP)
  have memOp {P : Seq → Prop} {f : Seq → Seq} {words : Nat} {ill : Bool} {bad : Option Trap}
      (he : exec i s = .next (s.memOp n words ill bad f)) (hP : P ((f q).retire words)) : leaves P :=
    .of_frames he (.memOp hr fun _ => hP)
  have issue {P : Seq → Prop} {F : Seq → Seq} {words : Nat} {cls : IClass} {ill : Bool} {bad : Option Trap}
      (he : exec i s = .next (s.issue n words cls ill bad fun t => t.setSq n (F (t.sq n)))) (hP : ill = false → bad = none → P (F q)) :
      leaves P := .of_frames he (.issue (fun hill hbad => .setSq (hP hill hbad)) hr)
  have branch {P : Seq → Prop} {f : Seq → Seq} {cls : IClass} {bad : Option Trap}
      (he : exec i s = .next (s.branch n cls bad f)) (hP : bad = none → P (f q)) : leaves P := .of_frames he (.branch hr hP)
  clear_value leaves
  have ints {f : Seq → Seq} (he : exec i s = .next (s.alu n f)) (hf : IntWrites q gd (f q)) : leaves fun p => gd_only p ∧
      p = { q with g := p.g, z := p.z, n := p.n, c := p.c, v := p.v, pc := p.pc, reps := p.reps, rpt := p.rpt } := by
    obtain ⟨r, z, n', c', v, hw⟩ := hf
    obtain ⟨pc, reps, rpt, hret⟩ := (f q).retire_only 1
    refine alu he ⟨fun j hj => ?_, ?_⟩
    · rw [hret, hw]; exact Tab.get_set_ne _ _ _ hj
    · rw [hret, hw]
  refine ⟨fun hi => ?_, fun hi => ?_, fun hi => ?_, fun hi => ?_, fun hi => ?_, fun hi => ?_, fun hi => ?_, fun hi => ?_, fun hi => ?_,
    fun hi => ?_, fun hi => ?_, fun hi => ?_⟩
  · simp only [List.mem_cons, List.not_mem_nil, or_false] at hi
    rcases hi with rfl | rfl | rfl | rfl | rfl | rfl | rfl | rfl | rfl | rfl | rfl | rfl | rfl | rfl | rfl | rfl | rfl | rfl | rfl |
      rfl | rfl | rfl | rfl
    · exact ints rfl (q.addTo_writes ..)
    · exact ints rfl (q.addTo_writes ..)
    · exact ints rfl (q.addTo_writes ..)
    · exact ints rfl (q.subTo_writes ..)
    · exact ints rfl (q.subTo_writes ..)
    · exact ints rfl (q.subTo_writes ..)
    · exact ints rfl (q.logTo_writes ..)
    · exact ints rfl (q.logTo_writes ..)
    · exact ints rfl (q.logTo_writes ..)
    · exact ints rfl (q.logTo_writes ..)
    · exact ints rfl (q.logTo_writes ..)
    · exact ints rfl (q.logTo_writes ..)
    · exact ints rfl (q.logTo_writes ..)
    · exact ints rfl (q.logTo_writes ..)
    · exact ints rfl (q.logTo_writes ..)
    · exact ints rfl (q.logTo_writes ..)
    · exact ints rfl ⟨_, _, _, _, _, rfl⟩
    · exact ints rfl (q.shlTo_writes ..)
    · exact ints rfl (q.cShr_logTo_writes ..)
    · exact ints rfl (q.cShr_logTo_writes ..)
    · exact ints rfl (q.shlTo_writes ..)
    · exact ints rfl (q.cShr_logTo_writes ..)
    · exact ints rfl (q.cShr_logTo_writes ..)
  · have flags {f : Seq → Seq} (he : exec i s = .next (s.alu n f))
        (hf : ∃ z n' c' v, f q = { q with z := z, n := n', c := c', v := v }) :
        leaves fun p => p = { q with z := p.z, n := p.n, c := p.c, v := p.v, pc := p.pc, reps := p.reps, rpt := p.rpt } := by
      obtain ⟨z, n', c', v, hw⟩ := hf
      obtain ⟨pc, reps, rpt, hret⟩ := (f q).retire_only 1
      refine alu he ?_
      rw [hret, hw]
    simp only [List.mem_cons, List.not_mem_nil, or_false] at hi
    rcases hi with rfl | rfl | rfl
    · exact flags rfl ⟨_, _, _, _, rfl⟩
    · exact flags rfl ⟨_, _, _, _, rfl⟩
    · exact flags rfl ⟨_, _, _, _, rfl⟩
  · have imms {f : Seq → Seq} {words : Nat} (r : Word) (he : exec i s = .next (s.alu n f words)) (hf : f q = q.setG gd r) :
        leaves fun p => gd_only p ∧ p = { q with g := p.g, pc := p.pc, reps := p.reps, rpt := p.rpt } := by
      obtain ⟨pc, reps, rpt, hret⟩ := (f q).retire_only words
      refine alu he ⟨fun j hj => ?_, ?_⟩
      · rw [hret, hf]; exact Tab.get_set_ne _ _ _ hj
      · rw [hret, hf]; rfl
    simp only [List.mem_cons, List.not_mem_nil, or_false] at hi
    rcases hi with rfl | rfl | rfl | rfl | rfl
    · exact imms _ rfl rfl
    · exact imms _ rfl rfl
    · exact imms _ rfl rfl
    · exact imms _ rfl rfl
    · exact imms _ rfl rfl
  · have regs {f : Seq → Seq} (v : Half) (he : exec i s = .next (s.alu n f)) (hf : f q = q.setAx kind k v) :
        leaves fun p => (∀ j, j ≠ k.val → p.xr j = q.xr j ∧ p.mr j = q.mr j ∧ p.lr j = q.lr j) ∧
          (kind ≠ .x → p.x = q.x) ∧ (kind ≠ .m → p.m = q.m) ∧ (kind ≠ .l → p.l = q.l) ∧
          p = { q with x := p.x, m := p.m, l := p.l, pc := p.pc, reps := p.reps, rpt := p.rpt } := by
      obtain ⟨pc, reps, rpt, hret⟩ := (f q).retire_only 1
      refine alu he ?_
      rw [hret, hf]
      cases kind
      · exact ⟨fun j hj => ⟨Tab.get_set_ne _ _ _ hj, rfl, rfl⟩, fun h => absurd rfl h, fun _ => rfl, fun _ => rfl, rfl⟩
      · exact ⟨fun j hj => ⟨rfl, Tab.get_set_ne _ _ _ hj, rfl⟩, fun _ => rfl, fun h => absurd rfl h, fun _ => rfl, rfl⟩
      · exact ⟨fun j hj => ⟨rfl, rfl, Tab.get_set_ne _ _ _ hj⟩, fun _ => rfl, fun _ => rfl, fun h => absurd rfl h, rfl⟩
    simp only [List.mem_cons, List.not_mem_nil, or_false] at hi
    rcases hi with rfl | rfl
    · exact regs _ rfl rfl
    · exact regs _ rfl rfl
  · subst hi
    obtain ⟨pc, reps, rpt, hret⟩ := (q.setAcc a 0).retire_only 1
    refine alu rfl ?_
    rw [hret]
    exact ⟨q.setAcc_accOther a 0, by cases a <;> rfl⟩
  · have accs {p : Seq} (hf : AccWrites q a p) : (p.retire 1).acc (accOther a) = q.acc (accOther a) ∧ p.retire 1 = { q with
        a0 := (p.retire 1).a0, a1 := (p.retire 1).a1, z := (p.retire 1).z, n := (p.retire 1).n, v := (p.retire 1).v
        pc := (p.retire 1).pc, reps := (p.retire 1).reps, rpt := (p.retire 1).rpt } := by
      obtain ⟨hother, u, v, z, n', o, hw⟩ := hf
      obtain ⟨pc, reps, rpt, hret⟩ := p.retire_only 1
      refine ⟨by rw [Seq.retire_acc]; exact hother, ?_⟩
      rw [hret, hw]
    simp only [List.mem_cons, List.not_mem_nil, or_false] at hi
    rcases hi with rfl | rfl | rfl | rfl | rfl | rfl | rfl
    · exact memOp rfl (accs (q.setAcc_znAcc_writes ..))
    · exact memOp rfl (accs (q.accTo_writes ..))
    · exact alu rfl (accs (q.accTo_writes ..))
    · exact alu rfl (accs (q.accTo_writes ..))
    · exact alu rfl (accs (q.accTo_writes ..))
    · exact memOp rfl (accs (q.accTo_writes ..))
    · exact memOp rfl (accs (q.setAcc_znAcc_writes ..))
  · subst hi
    obtain ⟨pc, reps, rpt, hret⟩ := (q.accTo .a0 (q.a0.toInt + Int.fdiv q.a1.toInt 256)).retire_only 1
    refine alu rfl ?_
    rw [hret]
    rfl
  · subst hi
    obtain ⟨pc, reps, rpt, hret⟩ := ({ (q.setG gd (w32 (redundant (q.acc a)))).setAcc a (q.acc a <<< redundant (q.acc a)) with
      z := decide (q.acc a <<< redundant (q.acc a) = 0) } : Seq).retire_only 1
    refine alu rfl ?_
    dsimp only
    rw [hret]
    cases a <;> exact ⟨fun j hj => Tab.get_set_ne _ _ _ hj, rfl, rfl⟩
  · subst hi
    obtain ⟨pc, reps, rpt, hret⟩ := (q.setG gd (wrapTo 32 ((redundant (q.acc a) : Int) - 8))).retire_only 1
    refine alu rfl ?_
    rw [hret]
    exact ⟨fun j hj => Tab.get_set_ne _ _ _ hj, rfl⟩
  · have pcs {p : Seq} (h : ∃ pc reps rpt, p = { q with pc := pc, reps := reps, rpt := rpt }) :
        p = { q with pc := p.pc, reps := p.reps, rpt := p.rpt } := by
      obtain ⟨pc, reps, rpt, rfl⟩ := h
      rfl
    simp only [List.mem_cons, List.not_mem_nil, or_false] at hi
    rcases hi with rfl | rfl | rfl | rfl | rfl | rfl | rfl | rfl
    · exact alu rfl (pcs (q.retire_only 1))
    · exact branch rfl fun _ => rfl
    · by_cases hc : q.holds c
      · exact branch (congrArg _ (if_pos hc)) fun _ => rfl
      · exact issue (F := fun p => p.retire 1) (congrArg _ (if_neg hc)) fun _ _ => pcs (q.retire_only 1)
    · exact branch rfl fun _ => rfl
    · exact issue (F := fun p => p.repeatNext imm.toNat) rfl fun _ _ => pcs (q.repeatNext_only _)
    · exact issue (F := fun p => p.repeatNext ((p.gr ga).toNat % 2 ^ 16)) rfl fun _ _ => pcs (q.repeatNext_only _)
    · exact issue (F := fun p => p.repeatBlock imm.toNat (p.blockEnd e.toNat)) rfl fun _ _ => pcs (q.repeatBlock_only _ _)
    · exact issue (F := fun p => p.repeatBlock ((p.gr ga).toNat % 2 ^ 16) (p.blockEnd e.toNat)) rfl fun _ _ => pcs (q.repeatBlock_only _ _)
  · simp only [List.mem_cons, List.not_mem_nil, or_false] at hi
    rcases hi with rfl | rfl
    · exact branch rfl fun _ => rfl
    · refine branch rfl fun hcalls => ?_
      cases hq : q.calls with
      | nil => simp [show (s.sq n).calls = [] from hq] at hcalls
      | cons b r => rfl
  · subst hi
    obtain ⟨pc, reps, rpt, hret⟩ := ({ q with s := false } : Seq).retire_only 1
    refine alu rfl ?_
    rw [hret]

end Sys2Proof.Machine
end

section
/-! The frame of the instructions with a memory operand (R174, R181, R182, R184, R185). -/

namespace Sys2Proof.Machine

set_option Elab.async false

/-- What a post-modify and the advance of PC write. -/
theorem Seq.postMod_retire_only (q : Seq) (k : Nat) (m : Mod) (w : Nat) :
    ∃ x pc reps rpt, (q.postMod k m).retire w = { q with x := x, pc := pc, reps := reps, rpt := rpt } := by
  obtain ⟨x, hx⟩ := q.postMod_only k m
  obtain ⟨pc, reps, rpt, hret⟩ := (q.postMod k m).retire_only w
  exact ⟨x, pc, reps, rpt, hret.trans (by rw [hx])⟩

/-- The address registers but the one that is stepped. -/
theorem Seq.postMod_retire_xr_ne (q : Seq) {k j : Nat} (m : Mod) (w : Nat) (h : j ≠ k) :
    ((q.postMod k m).retire w).xr j = q.xr j := by
  rw [Seq.retire_xr, Seq.postMod_xr_ne _ _ h]

theorem Seq.setMem_memOf_ne (q : Seq) {m o : SMem} (c : List Host.Cell) (h : o ≠ m) : (q.setMem m c).memOf o = q.memOf o := by
  cases m <;> cases o <;> simp_all [Seq.setMem, Seq.memOf]

/-- A store leaves the address registers but its own, the bytes outside its range, and the other memories; beyond these its sequencer
changes in S and V. -/
theorem Seq.store_frame {q p : Seq} (md : MD) (w v : Nat) (hP : md.mem ≠ .P)
    (hp : ∃ b c, p = { q.setMem md.mem (memPut (q.memOf md.mem) (q.ea md) (bytesLE w v)) with s := b, v := c }) :
    let r := (p.postMod md.x md.mod).retire 1
    ((∀ j, j ≠ md.x.val → r.xr j = q.xr j) ∧ MemKeeps q r md.mem (q.xr md.x).toNat w ∧ (∀ o, o ≠ md.mem → r.memOf o = q.memOf o) ∧
      r = { q with x := r.x, cMem := r.cMem, dMem := r.dMem, s := r.s, v := r.v, pc := r.pc, reps := r.reps, rpt := r.rpt }) ∧
    r.s = p.s ∧ r.v = p.v := by
  intro r
  obtain ⟨b, c, hp⟩ := hp
  have hxr (j : Nat) (hj : j ≠ md.x.val) : r.xr j = q.xr j := by
    rw [show r.xr j = p.xr j from p.postMod_retire_xr_ne _ _ hj, hp]
    cases md.mem <;> rfl
  obtain ⟨x, pc, reps, rpt, hr⟩ : ∃ x pc reps rpt, r = { p with x := x, pc := pc, reps := reps, rpt := rpt } :=
    p.postMod_retire_only md.x md.mod 1
  have hput : MemKeeps q { q.setMem md.mem (memPut (q.memOf md.mem) (q.ea md) (bytesLE w v)) with s := b, v := c } md.mem
      (q.xr md.x).toNat w := by
    intro a ha
    have := memGet_put_out (q.memOf md.mem) (q.xr md.x).toNat (bytesLE w v) (c := a) (by rwa [bytesLE_length])
    cases hm : md.mem
    · rw [hm] at this; exact this
    · rw [hm] at this; exact this
    · exact absurd hm hP
  refine ⟨⟨hxr, ?_, ?_, ?_⟩, by rw [hr], by rw [hr]⟩
  · rw [hr]; rw [← hp] at hput; exact hput
  · intro o ho
    rw [hr, hp]
    exact q.setMem_memOf_ne _ ho
  · rw [hr, hp]
    cases md.mem <;> rfl

/-- A multiply writes its accumulator and V. -/
theorem Seq.mulAcc_only (q : Seq) (kind : MulKind) (a : Acc) (p : Int) :
    (q.mulAcc kind a p).acc (accOther a) = q.acc (accOther a) ∧ ∃ u v w, q.mulAcc kind a p = { q with a0 := u, a1 := v, v := w } := by
  cases a <;> exact ⟨rfl, _, _, _, rfl⟩

/-- What a multiply of the memory form writes besides PC: its accumulator and V, the register of its parallel load, and the address
registers that its descriptors name (R185). -/
theorem Seq.mulMem_only (q : Seq) (kind : MulKind) (m : MulMem) :
    (q.mulMem kind m).acc (accOther m.acc) = q.acc (accOther m.acc) ∧
    (∀ j, (∀ l, m.pl = some l → j ≠ l.gp.val) → (q.mulMem kind m).gr j = q.gr j) ∧
    (∀ j, j ≠ m.mda.x.val → j ≠ m.mdb.x.val → (∀ l, m.pl = some l → j ≠ l.xp.val) → (q.mulMem kind m).xr j = q.xr j) ∧
    ∃ g x u v w, q.mulMem kind m = { q with g := g, x := x, a0 := u, a1 := v, v := w } := by
  obtain ⟨hother, u, v, w, hacc⟩ := q.mulAcc_only kind m.acc (q.memProduct m)
  cases h : m.pl with
  | none =>
    rw [Seq.mulMem_none h]
    obtain ⟨x₁, hx₁⟩ := (q.mulAcc kind m.acc (q.memProduct m)).postMod_only m.mda.x m.mda.mod
    obtain ⟨x₂, hx₂⟩ := ((q.mulAcc kind m.acc (q.memProduct m)).postMod m.mda.x m.mda.mod).postMod_only m.mdb.x m.mdb.mod
    refine ⟨by simpa using hother, fun j _ => ?_, fun j ha hb _ => ?_, q.g, x₂, u, v, w, by rw [hx₂, hx₁, hacc]⟩
    · rw [hx₂, hx₁, hacc]; rfl
    · rw [Seq.postMod_xr_ne _ _ hb, Seq.postMod_xr_ne _ _ ha, hacc]; rfl
  | some l =>
    rw [Seq.mulMem_some h]
    generalize hq₀ : (q.mulAcc kind m.acc (q.memProduct m)).setG l.gp (memWord q.pMem (q.xr l.xp).toNat) = q₀
    obtain ⟨x₁, hx₁⟩ := q₀.postMod_only m.mda.x m.mda.mod
    obtain ⟨x₂, hx₂⟩ := (q₀.postMod m.mda.x m.mda.mod).postMod_only m.mdb.x m.mdb.mod
    obtain ⟨x₃, hx₃⟩ := ((q₀.postMod m.mda.x m.mda.mod).postMod m.mdb.x m.mdb.mod).postMod_only l.xp (if l.byM then .byM else .keep)
    refine ⟨?_, fun j hj => ?_, fun j ha hb hl => ?_, _, x₃, u, v, w, by rw [hx₃, hx₂, hx₁, ← hq₀, hacc]; rfl⟩
    · rw [hx₃, hx₂, hx₁, ← hq₀]; cases hm : m.acc <;> rw [hm] at hother <;> exact hother
    · rw [hx₃, hx₂, hx₁, ← hq₀, hacc]; exact Tab.get_set_ne _ _ _ (hj l rfl)
    · rw [Seq.postMod_xr_ne _ _ (hl l rfl), Seq.postMod_xr_ne _ _ hb, Seq.postMod_xr_ne _ _ ha, ← hq₀, hacc]; rfl

/-- Settles O14. -/
theorem tabxoMemoryFrame : Obligations.TabxoMemoryFrame := by
  intro n gd gb md a sh k wide sat m r i s hr q leaves gd_only x_only stores
  have alu {P : Seq → Prop} {f : Seq → Seq} (he : exec i s = .next (s.alu n f)) (hP : P ((f q).retire 1)) : leaves P :=
    .of_frames he (.alu hr hP)
  have memOp {P : Seq → Prop} {f : Seq → Seq} {words : Nat} {ill : Bool} {bad : Option Trap}
      (he : exec i s = .next (s.memOp n words ill bad f)) (hP : P ((f q).retire words)) : leaves P :=
    .of_frames he (.memOp hr fun _ => hP)
  have storeOp {P : Seq → Prop} {f : Seq → Seq} {v : Seq → Nat} {w : Nat} (he : exec i s = .next (s.storeOp n w md v f))
      (hP : md.mem ≠ .P → P (((f (q.setMem md.mem (memPut (q.memOf md.mem) (q.ea md) (bytesLE w (v q))))).postMod
        md.x md.mod).retire 1)) : leaves P :=
    .of_frames he (.memOp hr fun hill => hP (by simpa using hill))
  have storeAcc {w : Nat} {K : Nat} (he : exec i s = .next (s.storeAcc n w md a K sat)) : leaves (stores w) := by
    refine .of_frames he (.satHit (.memOp hr fun hill => ?_) _ _ _)
    exact (q.store_frame md w _ (by simpa using hill) (Seq.storeFlags_only _ _ _ _)).1
  have rda (hi : i = .rda n gd a k wide sat) : leaves fun p => gd_only p ∧
      p = { q with g := p.g, s := p.s, v := p.v, pc := p.pc, reps := p.reps, rpt := p.rpt } := by
    subst hi
    refine ⟨_, rfl, Frames.satHit (P := fun p => gd_only p ∧
      p = { q with g := p.g, s := p.s, v := p.v, pc := p.pc, reps := p.reps, rpt := p.rpt }) (.memOp hr fun _ => ?_) _ _ _⟩
    obtain ⟨b, c, hflags⟩ := Seq.storeFlags_only (q.setG gd _) _ _ _
    obtain ⟨pc, reps, rpt, hret⟩ := Seq.retire_only _ 1
    rw [hret, hflags]
    exact ⟨fun j hj => Tab.get_set_ne _ _ _ hj, rfl⟩
  clear_value leaves
  refine ⟨fun hi => ?_, fun hi => ?_, fun hi => ?_, fun hi => ?_, fun hi => ?_, fun hi => ?_, fun hi => ?_, rda, fun hi => ?_, fun hi => ?_⟩
  · subst hi
    obtain ⟨x, pc, reps, rpt, hret⟩ := q.postMod_retire_only md.x md.mod 1
    refine memOp rfl ⟨fun j hj => q.postMod_retire_xr_ne _ _ hj, ?_⟩
    rw [hret]
  · have load {w : Nat} (v : Word) {f : Seq → Seq} (he : exec i s = .next (s.loadOp n w md f)) (hf : f q = q.setG gd v) :
        leaves fun p => gd_only p ∧ x_only p ∧ p = { q with g := p.g, x := p.x, pc := p.pc, reps := p.reps, rpt := p.rpt } := by
      refine memOp he ?_
      obtain ⟨x, pc, reps, rpt, hret⟩ := (q.setG gd v).postMod_retire_only md.x md.mod 1
      refine ⟨fun j hj => ?_, fun j hj => ?_, ?_⟩
      · rw [hf, hret]; exact Tab.get_set_ne _ _ _ hj
      · rw [hf, Seq.postMod_retire_xr_ne _ _ _ hj]; rfl
      · rw [hf, hret]; rfl
    simp only [List.mem_cons, List.not_mem_nil, or_false] at hi
    rcases hi with rfl | rfl | rfl
    · exact load _ rfl rfl
    · exact load _ rfl rfl
    · exact load _ rfl rfl
  · have load {w : Nat} {f : Seq → Seq} (he : exec i s = .next (s.loadOp n w md f)) (hf : AccWrites q a (f q)) :
        leaves fun p => x_only p ∧ p.acc (accOther a) = q.acc (accOther a) ∧ p = { q with
          x := p.x, a0 := p.a0, a1 := p.a1, z := p.z, n := p.n, v := p.v, pc := p.pc, reps := p.reps, rpt := p.rpt } := by
      refine memOp he ?_
      obtain ⟨hother, u, v, z, n', o, hw⟩ := hf
      obtain ⟨x, pc, reps, rpt, hret⟩ := (f q).postMod_retire_only md.x md.mod 1
      refine ⟨fun j hj => ?_, ?_, ?_⟩
      · rw [Seq.postMod_retire_xr_ne _ _ _ hj, hw]; rfl
      · simpa using hother
      · rw [hret, hw]
    simp only [List.mem_cons, List.not_mem_nil, or_false] at hi
    rcases hi with rfl | rfl
    · exact load rfl (q.setAcc_znAcc_writes ..)
    · exact load rfl (q.accTo_writes ..)
  · subst hi
    refine storeOp rfl fun hP => ?_
    obtain ⟨hframe, hs, hv⟩ := q.store_frame (p := q.setMem md.mem _) md 4 (q.gr gb).toNat hP ⟨_, _, rfl⟩
    exact ⟨hframe, hs.trans (by cases md.mem <;> rfl), hv.trans (by cases md.mem <;> rfl)⟩
  · subst hi
    refine storeOp rfl fun hP => ?_
    obtain ⟨hframe, hs, hv⟩ := q.store_frame (p := q.setMem md.mem _) md 2 (q.gr gb).toNat hP ⟨_, _, rfl⟩
    exact ⟨hframe, hs.trans (by cases md.mem <;> rfl), hv.trans (by cases md.mem <;> rfl)⟩
  · subst hi
    exact storeAcc rfl
  · subst hi
    exact storeAcc rfl
  · have mulReg {kind : MulKind} (he : exec i s = .next (s.mulRegOp n kind r)) :
        leaves fun p => p.acc (accOther r.acc) = q.acc (accOther r.acc) ∧ p = { q with
          a0 := p.a0, a1 := p.a1, v := p.v, pc := p.pc, reps := p.reps, rpt := p.rpt } := by
      refine alu he ?_
      obtain ⟨hother, u, v, w, hacc⟩ := q.mulAcc_only kind r.acc (product r.sm (pickHalf r.selA (q.gr r.ga)) (pickHalf r.selB (q.gr r.gb)))
      obtain ⟨pc, reps, rpt, hret⟩ := Seq.retire_only _ 1
      exact ⟨by rw [Seq.retire_acc]; exact hother, by rw [hret, hacc]⟩
    simp only [List.mem_cons, List.not_mem_nil, or_false] at hi
    rcases hi with rfl | rfl | rfl
    · exact mulReg rfl
    · exact mulReg rfl
    · exact mulReg rfl
  · have mulMem {kind : MulKind} (he : exec i s = .next (s.mulMemOp n kind m)) :
        leaves fun p => p.acc (accOther m.acc) = q.acc (accOther m.acc) ∧
          (∀ j, (∀ l, m.pl = some l → j ≠ l.gp.val) → p.gr j = q.gr j) ∧
          (∀ j, j ≠ m.mda.x.val → j ≠ m.mdb.x.val → (∀ l, m.pl = some l → j ≠ l.xp.val) → p.xr j = q.xr j) ∧ p = { q with
            g := p.g, x := p.x, a0 := p.a0, a1 := p.a1, v := p.v, pc := p.pc, reps := p.reps, rpt := p.rpt } := by
      refine memOp he ?_
      obtain ⟨hother, hg, hx, g, x, u, v, w, hw⟩ := q.mulMem_only kind m
      obtain ⟨pc, reps, rpt, hret⟩ := (q.mulMem kind m).retire_only (mulWords m)
      refine ⟨by rw [Seq.retire_acc]; exact hother, fun j hj => ?_, fun j ha hb hl => ?_, ?_⟩
      · rw [Seq.retire_gr]; exact hg j hj
      · rw [Seq.retire_xr]; exact hx j ha hb hl
      · rw [hret, hw]
    simp only [List.mem_cons, List.not_mem_nil, or_false] at hi
    rcases hi with rfl | rfl | rfl
    · exact mulMem rfl
    · exact mulMem rfl
    · exact mulMem rfl

end Sys2Proof.Machine
end

section
/-! Writes by address (R5, R7, R165). -/

namespace Sys2Proof.Machine

set_option Elab.async false

/-- The device at work: the core on and Warden up, all else at reset. -/
def State.awake : State := { State.reset with coreOn := true, warden := ⟨true, none, none⟩ }

/-- Refutes O15: the model puts no word into program memory, since `putSeqMem` writes with `Seq.setMem`, which keeps P memory as a
program finds it (R142), while R165 lets a host write it in a STOPPED sequencer. In the state above sequencer 1 is STOPPED, nothing
refuses the write of 7 to the first word of its P memory, and the word reads 0 behind it. -/
theorem not_writesByAddressComplete : ¬ Obligations.WritesByAddressComplete := by
  intro h
  obtain ⟨-, hmem⟩ := h .host 0x02020000 7 ⟨.GAU_SNAP, 0, 0, 0, 0⟩ State.awake (by decide)
  have hread := (hmem (by decide +kernel) (by decide +kernel) (by decide +kernel) rfl rfl rfl (by decide) (by decide +kernel)
    (by decide +kernel) (by decide +kernel) (by decide +kernel)).post rfl
  revert hread
  decide +kernel

end Sys2Proof.Machine
end

section
/-! The record before a write (R303, R307, R308): which record a register of one word has, and how it lands in the ring. -/

namespace Sys2Proof.Machine

set_option Elab.async false

/-- The record of an accepted write of a one-word register (R307), but for the registers with records of their own. -/
theorem State.regRec_word (s : State) {x : RegAt} (v : Nat) (org : Origin) (hw : x.reg.geo.words = 1)
    (hk : ∀ k ∈ [RegName.KEY_OP, .ATT_FUSE_CMD, .STL_TWIN_CTL, .TOP_BINDOFF], x.reg ≠ k) :
    s.regRec x v org .none = s.mkRec 0 x.first (s.valueBefore x) v org .none := by
  simp only [List.mem_cons, List.not_mem_nil, or_false, forall_eq_or_imp, forall_eq] at hk
  obtain ⟨hkey, hfuse, htwin, hbind⟩ := hk
  unfold State.regRec
  split
  case h_1 h => rw [h] at hw; exact absurd hw (by decide)
  case h_2 h => rw [h] at hw; exact absurd hw (by decide)
  case h_3 => simp [hkey, hfuse, htwin, hbind, hw]

theorem State.placeGap_seq_le (s : State) : s.log.seq ≤ s.placeGap.log.seq := by
  unfold State.placeGap
  split
  · simp [State.place_log, State.numbered]
  · exact le_rfl

/-- The numbered record of a change stands in the ring behind the GAP record that is due. -/
theorem State.withRecord_log {s : State} {e : GateEntry} (hr : s.logRoom 2 = true) :
    ∃ t : State, s.log.seq ≤ t.log.seq ∧ (s.withRecord e).log.seq = t.log.seq + 1 ∧
      t.numbered ((s.gated e).recOf e .none) ∈ (s.withRecord e).log.ring := by
  have hroom : (s.gated e).logRoom ((s.gated e).recOf e .none).slots = true := State.logRoom_mono _ (by simpa using hr)
  refine ⟨(s.gated e).placeGap, (s.gated e).placeGap_seq_le, ?_⟩
  unfold State.withRecord
  simp only [State.recordExempt, State.recordNormal, hroom, if_true, Option.getD_some, ite_self, State.place_log]
  exact ⟨rfl, by simp⟩

/-- Settles O16: the record is written before the change is applied, with the number under which the write acts. -/
theorem writesAreRecordedFirst : Obligations.WritesAreRecordedFirst := by
  intro r x v s h hwords hk e u
  obtain ⟨-, -, -, -, -, hroom, -, -, hl, -⟩ := h
  have hset : x.reg ≠ .SEL_HOSTSET := by
    intro hx
    rw [hx] at hwords
    exact absurd hwords (by decide)
  have hrec : ((s.counted r).gated e).recOf e .none =
      ((s.counted r).gated e).mkRec 0 x.first (((s.counted r).gated e).valueBefore x) v e.org .none := by
    show (match lookupReg x.first with | some y => _ | none => _) = _
    rw [hl]
    exact State.regRec_word _ v e.org hwords hk
  have hcount : (s.counted r).log = s.log ∧ (s.counted r).logRoom 2 = true := by
    obtain ⟨p, hp⟩ := s.counted_only r
    rw [hp]
    exact ⟨rfl, hroom⟩
  obtain ⟨t, hle, hseq, hmem⟩ := State.withRecord_log (e := e) hcount.2
  rw [hrec] at hmem
  rw [hcount.1] at hle
  refine ⟨?_, ?_, _, hmem, rfl, rfl, rfl, rfl, rfl, hseq.symm⟩
  · exact congrArg (fun t => (State.originDone t e).sample 11 0 0)
      (State.applyChange_reg (e := { e with recorded := some u.log.seq }) rfl hl hset)
  · have hu : u.log.seq = t.log.seq + 1 := hseq
    omega

end Sys2Proof.Machine
end

section
/-! A register write that the gate takes at once, from the side of what its register's chapter makes of it: the state in which the effect
is computed differs from the one before the write in the record and in the words of the register alone. -/

namespace Sys2Proof.Machine

set_option Elab.async false

/-- The state behind the record of a write: the counters, the log and what Warden sends have moved. -/
def Recorded (s o : State) : Prop := ∃ p l h m, o = { s with pmc := p, log := l, hw := h, sent := m }

/-- The state in which the effect of the write of `v` to `x` is computed: the record is written, and the fields hold their values. -/
structure Landed (s : State) (x : RegAt) (v : Nat) (b : State) : Prop where
  base : ∃ p l h m a f, b = { s with pmc := p, log := l, hw := h, sent := m, regs := a, force := f }
  regs : b.regs = s.regs.set x.first
    (putFields (fun f => f.acc == .rw) x.fs (s.lastAt x) (if x.reg = .KEY_TAMPER then v ||| s.forceAt x else v))
  force : b.force = if landsLater x.reg then s.force else s.force.set x.first
    (putFields (fun f => f.acc == .rw && !f.isE) x.fs (s.forceAt x) (if x.reg = .KEY_TAMPER then v ||| s.forceAt x else v))

variable {s b o : State} {x : RegAt} {v : Nat}

theorem Recorded.inForce (h : Recorded s o) (r : RegName) (i j l : Nat) : o.inForce r i j l = s.inForce r i j l := by
  obtain ⟨_, _, _, _, rfl⟩ := h
  rfl

/-- The other registers keep the value in force. -/
theorem Landed.inForce (hb : Landed s x v b) {r : RegName} {i j l : Nat} (h : r.addr i j l ≠ x.first) :
    b.inForce r i j l = s.inForce r i j l := by
  rw [State.inForce, hb.force]
  split
  · rfl
  · exact Tab.get_set_ne _ _ _ h

/-- The other registers keep the value last written. -/
theorem Landed.lastOf (hb : Landed s x v b) {r : RegName} {i j l : Nat} (h : r.addr i j l ≠ x.first) :
    b.lastOf r i j l = s.lastOf r i j l := by
  rw [State.lastOf, hb.regs]
  exact Tab.get_set_ne _ _ _ h

/-- The register itself, as last written. -/
theorem Landed.lastAt (hb : Landed s x v b) (h : x.reg ≠ .KEY_TAMPER) :
    b.lastAt x = putFields (fun f => f.acc == .rw) x.fs (s.lastAt x) v := by
  rw [State.lastAt, hb.regs, Tab.get_set_same, if_neg h]

/-- The register itself, in force: its fields of class E keep their value until their boundary. -/
theorem Landed.forceAt (hb : Landed s x v b) (h : x.reg ≠ .KEY_TAMPER) (hl : landsLater x.reg = false) :
    b.forceAt x = putFields (fun f => f.acc == .rw && !f.isE) x.fs (s.forceAt x) v := by
  rw [State.forceAt, hb.force, hl, if_neg Bool.false_ne_true, Tab.get_set_same, if_neg h]

/-- What a write that the gate takes comes to: the effect `F` of its register on a state that differs from `s` as `Landed` says, then
what its requester learns. -/
theorem Admits.hooked {r : Requester} {F : State → State → Nat → State} (h : Admits s r x v) (hx : x.reg ≠ .SEL_HOSTSET)
    (hF : ∀ t q, t.doWrite x v q = F ((t.putReg x v).clear1 x v) t q) :
    ∃ o b q, Recorded s o ∧ Landed s x v b ∧ s.written r x v = ((F b o q).originDone (s.entryOf r x v)).sample 11 0 0 := by
  obtain ⟨p, l, w, m, q, hw⟩ := State.written_from h hx
  rw [hF] at hw
  refine ⟨_, _, q, ⟨p, l, w, m, rfl⟩, ⟨?_, ?_, ?_⟩, hw⟩
  · obtain ⟨a, f, c, hp⟩ := State.putReg_only { s with pmc := p, log := l, hw := w, sent := m } x v
    exact ⟨p, l, c, m, a, f, hp⟩
  · exact State.putReg_regs _ x v
  · exact State.putReg_force _ x v

/-- A command that writes one register by name completes with what the effect `F` of that register leaves. -/
theorem Writes.of_hook {i : Instr} {r : Requester} {n : RegName} {a j l : Nat} {P : State → Prop} {F : State → State → Nat → State}
    (hi : exec i s = .next (s.submit r n v a j l)) (hn : n ≠ .SEL_HOSTSET)
    (hF : ∀ t q, t.doWrite ⟨n, a, j, l, 0⟩ v q = F ((t.putReg ⟨n, a, j, l, 0⟩ v).clear1 ⟨n, a, j, l, 0⟩ v) t q)
    (hP : ∀ o b q e, Recorded s o → Landed s ⟨n, a, j, l, 0⟩ v b → P (((F b o q).originDone e).sample 11 0 0)) :
    Writes i s r ⟨n, a, j, l, 0⟩ v P := by
  intro h
  obtain ⟨o, b, q, ho, hb, hw⟩ := h.hooked (show (⟨n, a, j, l, 0⟩ : RegAt).reg ≠ .SEL_HOSTSET from hn) hF
  refine ⟨hi.trans (congrArg _ (State.submit_admitted h)), ?_⟩
  rw [hw]
  exact hP o b q _ ho hb

/-! ### Bits of a value -/

theorem bitOn_eq_testBit (n b : Nat) : bitOn n b = n.testBit b := by
  rw [bitOn, Nat.testBit_eq_decide_div_mod_eq]

theorem testBit_bits (n hi lo i : Nat) : (bits n hi lo).testBit i = (decide (i < hi + 1 - lo) && n.testBit (lo + i)) := by
  rw [bits, Nat.testBit_mod_two_pow, Nat.testBit_div_two_pow, Nat.add_comm lo i]

/-- A field is set, the other bits stay. -/
theorem testBit_putBits (v hi lo w i : Nat) :
    (putBits v hi lo w).testBit i = if lo ≤ i ∧ i ≤ hi then w.testBit (i - lo) else v.testBit i := by
  rcases Nat.lt_or_ge hi lo with h | h
  · have h0 : hi + 1 - lo = 0 := by omega
    have hv : putBits v hi lo w = v := by simp [putBits, bits, h0, Nat.mod_one]
    rw [hv, if_neg (by omega)]
  · obtain ⟨n, hn⟩ : ∃ n, hi + 1 = lo + n := ⟨hi + 1 - lo, by omega⟩
    have hlen : hi + 1 - lo = n := by omega
    have hsplit : v = 2 ^ lo * (2 ^ n * (v / 2 ^ lo / 2 ^ n) + v / 2 ^ lo % 2 ^ n) + v % 2 ^ lo := by
      rw [Nat.div_add_mod, Nat.div_add_mod]
    have hput : putBits v hi lo w = 2 ^ lo * (2 ^ n * (v / 2 ^ lo / 2 ^ n) + w % 2 ^ n) + v % 2 ^ lo := by
      rw [putBits, bits, hlen]
      have hle : v / 2 ^ lo % 2 ^ n * 2 ^ lo ≤ v := (Nat.mul_le_mul_right _ (Nat.mod_le _ _)).trans (Nat.div_mul_le_self _ _)
      rw [Nat.mul_add, Nat.mul_comm (2 ^ lo) (w % 2 ^ n)]
      rw [Nat.mul_add, Nat.mul_comm (2 ^ lo) (v / 2 ^ lo % 2 ^ n)] at hsplit
      omega
    have hlow : v % 2 ^ lo < 2 ^ lo := Nat.mod_lt _ (by positivity)
    rw [hput, Nat.testBit_two_pow_mul_add _ hlow]
    clear hsplit hput
    split
    case isTrue hi => rw [if_neg (by omega), Nat.testBit_mod_two_pow]; simp [hi]
    case isFalse =>
      rw [Nat.testBit_two_pow_mul_add _ (Nat.mod_lt _ (by positivity))]
      split
      case isTrue hi => rw [if_pos (by omega), Nat.testBit_mod_two_pow]; simp [hi]
      case isFalse =>
        rw [if_neg (by omega), Nat.testBit_div_two_pow, Nat.testBit_div_two_pow]
        congr 1
        omega

theorem bits_putBits (v hi lo w : Nat) : bits (putBits v hi lo w) hi lo = w % 2 ^ (hi + 1 - lo) := by
  refine Nat.eq_of_testBit_eq fun i => ?_
  rw [testBit_bits, testBit_putBits, Nat.testBit_mod_two_pow]
  by_cases h : i < hi + 1 - lo
  · rw [if_pos (by omega)]
    simp [h]
  · simp [h]

theorem bitOn_putBits (v hi lo w i : Nat) :
    bitOn (putBits v hi lo w) i = if lo ≤ i ∧ i ≤ hi then bitOn w (i - lo) else bitOn v i := by
  simp only [bitOn_eq_testBit, testBit_putBits]

theorem Field.put_eq_putBits (f : Field) (v w : Nat) : f.put v w = putBits v f.hi f.lo (f.get w) := by
  rw [Field.put, putBits, Field.get, Field.get, bits, bits, Nat.mod_mod]

/-- A register after a write: each bit of a field that the write changes holds the value written, every other bit stays. -/
theorem testBit_putFields (p : Field → Bool) (fs : List Field) (v w i : Nat) :
    (putFields p fs v w).testBit i = if fs.any fun f => p f && decide (f.lo ≤ i ∧ i ≤ f.hi) then w.testBit i else v.testBit i := by
  unfold putFields
  induction fs generalizing v with
  | nil => simp
  | cons f fs ih =>
    rw [List.foldl_cons, ih, List.any_cons]
    by_cases hp : p f = true
    · rw [if_pos hp, Field.put_eq_putBits, testBit_putBits, Field.get, testBit_bits]
      by_cases hi : f.lo ≤ i ∧ i ≤ f.hi
      · have h1 : i - f.lo < f.hi + 1 - f.lo := by omega
        have h2 : f.lo + (i - f.lo) = i := by omega
        simp [hp, hi, h1, h2]
      · simp [hi]
    · simp [hp]

/-- A field of a register that the write changes reads back. -/
theorem bits_putFields (p : Field → Bool) (fs : List Field) (v w hi lo : Nat)
    (h : ∀ i, lo ≤ i → i ≤ hi → (fs.any fun f => p f && decide (f.lo ≤ i ∧ i ≤ f.hi)) = true) :
    bits (putFields p fs v w) hi lo = bits w hi lo := by
  refine Nat.eq_of_testBit_eq fun i => ?_
  rw [testBit_bits, testBit_bits]
  by_cases hi' : i < hi + 1 - lo
  · rw [testBit_putFields, if_pos (h _ (by omega) (by omega))]
  · simp [hi']

theorem bitOn_putFields (p : Field → Bool) (fs : List Field) (v w i : Nat) :
    bitOn (putFields p fs v w) i = if fs.any fun f => p f && decide (f.lo ≤ i ∧ i ≤ f.hi) then bitOn w i else bitOn v i := by
  simp only [bitOn_eq_testBit, testBit_putFields]

end Sys2Proof.Machine
end

section
/-! The selector's determination (R75 to R82) and the squelch of the outputs (R104): what neither touches. -/

namespace Sys2Proof.Machine

set_option Elab.async false

/-! ### The Gauge and the log leave the selector -/

@[simp] theorem State.recordNormal_sel {s t : State} {r : LogRec} (h : s.recordNormal r = some t) : t.sel = s.sel := by
  unfold State.recordNormal at h
  split at h
  · obtain rfl := Option.some.inj h
    rw [State.place_sel, State.placeGap_sel]
  · cases h

@[simp] theorem State.recordDeferred_sel (s : State) (r : LogRec) : (s.recordDeferred r).sel = s.sel := by
  unfold State.recordDeferred
  split
  · split
    next h => exact State.recordNormal_sel h
    · rfl
  · rfl

@[simp] theorem State.status_sel (s : State) (by_ : Option Nat) (code t num : Nat) : (s.status by_ code t num).sel = s.sel := by
  rw [State.status, State.stepRes_sel]

@[simp] theorem State.dropSched_sel (s : State) (code : Nat) : (s.dropSched code).sel = s.sel := by
  unfold State.dropSched
  split
  · rfl
  · rw [State.status_sel]

@[simp] theorem State.latchAtom_sel (s : State) : s.latchAtom.sel = s.sel := by
  unfold State.latchAtom
  split
  · rfl
  · split <;> rfl

@[simp] theorem State.ageStart_sel (s : State) : s.ageStart.sel = s.sel := by unfold State.ageStart; split <;> rfl

@[simp] theorem State.ageFold_sel (s : State) : s.ageFold.sel = s.sel := by
  unfold State.ageFold
  split
  · dsimp only; split <;> rfl
  · rfl

@[simp] theorem State.ageCheck_sel (s : State) : s.ageCheck.sel = s.sel := by
  unfold State.ageCheck
  split
  · split <;> simp
  · rfl

@[simp] theorem State.rebase_sel (s : State) : s.rebase.sel = s.sel := by unfold State.rebase; split <;> rfl

@[simp] theorem State.fselEffects_sel (s : State) (old : Option Nat) : (State.fselEffects old s).sel = s.sel := by
  unfold State.fselEffects
  rw [State.ageCheck_sel]
  split
  · rfl
  · rw [State.rebase_sel]

@[simp] theorem State.stateEvent_sel (s : State) : s.stateEvent.sel = s.sel := by rw [State.stateEvent, State.recEvent_sel]

@[simp] theorem State.enterHoldover_sel (s : State) (cause : Nat) : (s.enterHoldover cause).sel = s.sel := by
  unfold State.enterHoldover
  simp only [State.stateEvent_sel]
  repeat' split
  all_goals simp

@[simp] theorem State.noRef_sel (s : State) : s.noRef.sel = s.sel := by unfold State.noRef; split <;> simp

/-! ### The determination leaves each candidate's state -/

theorem Tab.get_map {α : Type} (t : Tab α) (f : Nat → α → α) (k : Nat) (d : α) (hd : f k d = d) :
    Tab.get (t.map fun p => (p.1, f p.1 p.2)) k d = f k (Tab.get t k d) := by
  induction t with
  | nil => exact hd.symm
  | cons p r ih =>
    obtain ⟨a, b⟩ := p
    simp only [List.map_cons, Tab.get]
    split
    next h => rw [h]
    · exact ih

/-- A change of the selection clears DISPUTED flags, and nothing else of a candidate (R78). -/
theorem State.clearDisputes_cand (s : State) (freq : Bool) (k : Nat) :
    (s.clearDisputes freq).cand k = { s.cand k with disputed := (s.cand k).disputed && (s.isTime k == freq) } :=
  Tab.get_map s.sel.cands (fun k c => { c with disputed := c.disputed && (s.isTime k == freq) }) k Cand.reset rfl

/-- The candidates but for their DISPUTED flags. -/
def SameCands (s t : State) : Prop := ∀ k, ∃ d, t.cand k = { s.cand k with disputed := d }

theorem SameCands.refl (s : State) : SameCands s s := fun _ => ⟨_, rfl⟩

theorem SameCands.of_sel {s t : State} (h : t.sel.cands = s.sel.cands) : SameCands s t := fun k =>
  ⟨(s.cand k).disputed, by rw [State.cand, h]; rfl⟩

theorem SameCands.trans {s t u : State} (h1 : SameCands s t) (h2 : SameCands t u) : SameCands s u := fun k => by
  obtain ⟨a, ha⟩ := h1 k
  obtain ⟨b, hb⟩ := h2 k
  exact ⟨b, by rw [hb, ha]⟩

theorem SameCands.clearDisputes (s : State) (freq : Bool) : SameCands s (s.clearDisputes freq) :=
  fun k => ⟨_, s.clearDisputes_cand freq k⟩

theorem SameCands.deselect (s : State) : SameCands s s.deselect := by
  unfold State.deselect
  split
  · exact .refl s
  · split
    · exact .refl s
    · exact (SameCands.clearDisputes s false).trans (.of_sel (by simp; rfl))

theorem SameCands.deselectF (s : State) : SameCands s s.deselectF := by
  unfold State.deselectF
  split
  · exact .refl s
  · split
    · exact .refl s
    · exact (SameCands.clearDisputes s true).trans (.of_sel (by simp; rfl))

theorem SameCands.requestF (s : State) : SameCands s s.requestF := by
  unfold State.requestF
  split
  · exact .refl s
  · split
    · exact .refl s
    · split <;> exact .of_sel rfl

theorem SameCands.abandon (s : State) : SameCands s s.abandon := by
  unfold State.abandon
  split
  · exact .refl s
  · exact .of_sel (by simp [State.outcome])

theorem SameCands.prepare (s : State) (w : Nat) : SameCands s (s.prepare w) := .of_sel (by simp [State.prepare])

theorem SameCands.requestT (s : State) : SameCands s s.requestT := by
  unfold State.requestT
  split
  · exact .abandon s
  · split
    · exact .refl s
    · exact (SameCands.abandon s).trans (.prepare _ _)

/-- A determination of the winners moves selections and transactions; of the candidates it changes DISPUTED alone (R78, R79). -/
theorem SameCands.determine (s : State) : SameCands s s.determine :=
  (((SameCands.deselect s).trans (.deselectF _)).trans (.requestF _)).trans (.requestT _)

theorem State.determine_cand_st (s : State) (k : Nat) : (s.determine.cand k).st = (s.cand k).st := by
  obtain ⟨d, hd⟩ := SameCands.determine s k
  rw [hd]

/-! ### The squelch leaves what waits at an output -/

theorem State.setOutU_outU (s : State) (i : Nat) (o : OutU) : (s.setOutU i o).outU i = o := Tab.get_set_same ..

theorem State.setOutU_outU_ne (s : State) {i j : Nat} (o : OutU) (h : j ≠ i) : (s.setOutU i o).outU j = s.outU j :=
  Tab.get_set_ne _ _ _ h

/-- ARM, REALIGN and the message count of an output as they are in another state. -/
def SameOrders (s t : State) : Prop :=
  ∀ i, (t.outU i).armed = (s.outU i).armed ∧ (t.outU i).realign = (s.outU i).realign ∧ (t.outU i).todSeq = (s.outU i).todSeq

theorem SameOrders.refl (s : State) : SameOrders s s := fun _ => ⟨rfl, rfl, rfl⟩

theorem SameOrders.trans {s t u : State} (h1 : SameOrders s t) (h2 : SameOrders t u) : SameOrders s u := fun i =>
  ⟨(h2 i).1.trans (h1 i).1, (h2 i).2.1.trans (h1 i).2.1, (h2 i).2.2.trans (h1 i).2.2⟩

theorem SameOrders.setOutU {s : State} {i : Nat} {o : OutU} (ha : o.armed = (s.outU i).armed) (hr : o.realign = (s.outU i).realign)
    (ht : o.todSeq = (s.outU i).todSeq) : SameOrders s (s.setOutU i o) := by
  intro j
  by_cases h : j = i
  · subst h
    rw [State.setOutU_outU]
    exact ⟨ha, hr, ht⟩
  · rw [State.setOutU_outU_ne _ _ h]
    exact ⟨rfl, rfl, rfl⟩

theorem SameOrders.of_out {s t : State} (h : t.out = s.out) : SameOrders s t := fun i => by
  simp [State.outU, h]

theorem State.loopEdge_out (s : State) (i : Nat) (level : Bool) (d : Int) : (s.loopEdge i level d).out = s.out := by
  unfold State.loopEdge
  split
  · unfold State.launchEdge; split <;> rfl
  · rfl

theorem SameOrders.cutOut (s : State) (i : Nat) : SameOrders s (s.cutOut i) := by
  unfold State.cutOut State.setPin
  split
  · exact .setOutU rfl rfl rfl
  · refine SameOrders.trans (.setOutU ?_ ?_ ?_) (.of_out ((State.send_out _ _).trans (State.loopEdge_out _ _ _ _))) <;> rfl

theorem SameOrders.squelchOne (s : State) (i : Nat) : SameOrders s (s.squelchOne i) := by
  unfold State.squelchOne
  split
  · exact .cutOut s i
  · split
    · exact .setOutU rfl rfl rfl
    · exact .refl s

theorem SameOrders.squelch (s : State) : SameOrders s s.squelch :=
  List.foldlRecOn (motive := SameOrders s) _ State.squelchOne (.refl s) fun _ ht i _ => ht.trans (.squelchOne _ i)

end Sys2Proof.Machine
end

section
/-! The writes that ask something of the Gauge, the selector and the outputs (R41 to R50, R71, R72, R94, R97, R103). -/

namespace Sys2Proof.Machine

set_option Elab.async false

/-! ### Requests of the Gauge -/

@[simp] theorem State.status_gau (s : State) (by_ : Option Nat) (code t num : Nat) :
    (s.status by_ code t num).gau = { s.gau with stepCode := code } := by rw [State.status, State.stepRes_gau]

theorem State.dropHeld_gau (s : State) (code : Nat) :
    ∃ c, (s.dropHeld code).gau = { s.gau with held := none, stepCode := c } := by
  unfold State.dropHeld
  split
  next h => exact ⟨s.gau.stepCode, by rw [← h]⟩
  · exact ⟨code, by rw [State.status_gau]⟩

theorem State.schedule_gau (s : State) (d : Sched) : (s.schedule d).gau = { s.gau with sched := some d, stepCode := 1 } := by
  obtain ⟨c, hc⟩ := s.dropSched_gau 12
  rw [State.schedule, State.status_gau, hc]

/-- A held correction that no witness agrees with stays held. -/
theorem State.hold_gau {s : State} {step : Bool} {amt : Int} {clr : Bool} {t : Nat}
    (h : s.agrees s.source s.sourceGrp amt = false) : (s.hold step amt clr none t).gau = { s.gau with
      held := some ⟨step, amt, clr, s.source, s.sourceGrp, none, t, s.gau.l, (s.gau.stepSeq + 1) % 2 ^ 16⟩
      stepSeq := (s.gau.stepSeq + 1) % 2 ^ 16, stepCode := 4 } :=
  congrArg State.gau (if_neg (Bool.not_eq_true _ ▸ h))

/-- A step that is not a small one and that the guard lets pass is scheduled. -/
theorem State.takeStep_scheduled {s : State} {t : Nat} {amt : Int} {clr : Bool} {by_ : Option Nat} (hs : s.smallStep amt = false)
    (hg : s.guardHolds (if clr then 0 else s.gau.rem) amt = false) :
    s.takeStep t amt clr by_ = s.schedule ⟨t, amt, clr, by_, 0⟩ := by
  simp [State.takeStep, hs, hg]

variable {s b : State} {x : RegAt} {v : Nat}

/-! ### What the landed state has in common with the one before -/

theorem Landed.gau (hb : Landed s x v b) : b.gau = s.gau := by obtain ⟨_, _, _, _, _, _, rfl⟩ := hb.base; rfl

theorem Landed.sel (hb : Landed s x v b) : b.sel = s.sel := by obtain ⟨_, _, _, _, _, _, rfl⟩ := hb.base; rfl

theorem Landed.cand (hb : Landed s x v b) (k : Nat) : b.cand k = s.cand k := by rw [State.cand, hb.sel]; rfl

theorem Landed.out (hb : Landed s x v b) : b.out = s.out := by obtain ⟨_, _, _, _, _, _, rfl⟩ := hb.base; rfl

theorem Landed.outU (hb : Landed s x v b) (i : Nat) : b.outU i = s.outU i := by rw [State.outU, hb.out]; rfl

/-- The registers below the selector's do not touch the guard, nor those of the Gauge's requests. -/
theorem Landed.guardHolds (hb : Landed s x v b) (hctl : RegName.GAU_CTL.addr ≠ x.first)
    (hconf : RegName.GAU_STEP_CONFIRM.addr ≠ x.first) (o amt : Int) : b.guardHolds o amt = s.guardHolds o amt := by
  simp only [State.guardHolds, State.guarded, State.on, State.dev, State.confirm, hb.gau, hb.inForce hctl, hb.inForce hconf]
  rfl

theorem Landed.outstanding (hb : Landed s x v b) : b.outstanding = s.outstanding := by
  simp only [State.outstanding, State.schedAmt, hb.gau]

theorem Landed.source (hb : Landed s x v b) : b.source = s.source := by simp only [State.source, hb.sel]

theorem SEL_CFG_addr (k : Nat) : RegName.SEL_CFG.addr k = 1576960 + k * 64 := rfl

theorem SEL_SPAN_addr : RegName.SEL_SPAN.addr = 1572880 := rfl

/-- A write of a Gauge register leaves the groups of the candidates and their agreement. -/
theorem Landed.sourceGrp (hb : Landed s x v b) (hx : x.first < 1572880) : b.sourceGrp = s.sourceGrp := by
  have h (k : Nat) : b.igrp k = s.igrp k := by
    simp only [State.igrp, State.fl, hb.inForce (r := .SEL_CFG) (i := k) (j := 0) (l := 0) (by rw [SEL_CFG_addr]; omega)]
  simp only [State.sourceGrp, hb.source, funext h]

theorem Landed.agrees (hb : Landed s x v b) (hx : x.first < 1572880) (hagree : RegName.GAU_STEP_AGREE.addr ≠ x.first)
    (src : Option Nat) (grp : Nat) (amt : Int) : b.agrees src grp amt = s.agrees src grp amt := by
  have hcfg (k : Nat) : b.inForce .SEL_CFG k = s.inForce .SEL_CFG k := hb.inForce (by rw [SEL_CFG_addr]; omega)
  have hspan : b.inForce .SEL_SPAN = s.inForce .SEL_SPAN := hb.inForce (by rw [SEL_SPAN_addr]; omega)
  have htime (k : Nat) : b.isTime k = s.isTime k := by simp only [State.isTime, State.on, hcfg]
  have hpub (k : Nat) : b.published k = s.published k := by
    have hfl : b.fl .SEL_SPAN 31 16 = s.fl .SEL_SPAN 31 16 := by rw [State.fl, hspan]; rfl
    have hg : b.g32 = s.g32 := by rw [State.g32, hb.gau]; rfl
    rw [State.published, State.published, hb.cand, hfl, hg]
  have hwit (k : Nat) : b.witness src grp k = s.witness src grp k := by
    have hgrp : b.igrp k = s.igrp k := by rw [State.igrp, State.fl, hcfg]; rfl
    unfold State.witness
    rw [htime, hpub, hgrp]
  have hoff (k : Nat) : b.offset k = s.offset k := by rw [State.offset, hb.cand]; rfl
  unfold State.agrees
  congr 1
  funext k
  rw [hwit, hoff, hb.inForce hagree]

/-! ### The writes -/

section
variable {r : Requester}

theorem slewAmtWrite_spec (s : State) (v : DWord) : let amt := sext 64 v.toNat
    Writes (.slewAmtWrite r v) s r (regAt .GAU_SLEW_AMT) v.toNat (fun t =>
      (s.guardHolds s.outstanding amt = false → t.gau.rem = s.gau.rem + amt * 256 ∧ t.gau.stepCode = 3) ∧
      (s.guardHolds s.outstanding amt = true → s.agrees s.source s.sourceGrp amt = false →
        t.gau.rem = s.gau.rem ∧ t.gau.stepCode = 4 ∧
        t.gau.held = some ⟨false, amt, false, s.source, s.sourceGrp, none, 0, s.gau.l, (s.gau.stepSeq + 1) % 2 ^ 16⟩)) := by
  intro amt
  refine .of_hook (F := fun b _ _ => b.takeSlew amt none 0) rfl (by decide) (fun t q => GAU_SLEW_AMT_write t _ _ _)
    fun o b q e _ hb => ?_
  have hguard : b.guardHolds b.outstanding amt = s.guardHolds s.outstanding amt := by
    rw [hb.outstanding]; exact hb.guardHolds (by decide) (by decide) _ _
  have hagree : b.agrees b.source b.sourceGrp amt = s.agrees s.source s.sourceGrp amt := by
    rw [hb.source, hb.sourceGrp (by decide)]; exact hb.agrees (by decide) (by decide) _ _ _
  simp only [State.sample_gau, State.originDone_gau, State.takeSlew, hguard]
  refine ⟨fun h => ?_, fun h ha => ?_⟩
  · simp [h, hb.gau, fine]
  · rw [if_pos h, State.hold_gau (hagree.trans ha), hb.source, hb.sourceGrp (by decide), hb.gau]
    exact ⟨rfl, rfl, rfl⟩

theorem stepAtWrite_spec (s : State) (v : DWord) : let step := sext 96 (s.inForce .GAU_STEP_AMT)
    let clr := s.on .GAU_STEP_CTL 0
    Writes (.stepAtWrite r v) s r (regAt .GAU_STEP_AT) v.toNat (fun t =>
      s.inForce .GAU_STEP_MIN * 2 ^ 32 < step.natAbs → s.guardHolds (if clr then 0 else s.gau.rem) step = false →
        t.gau.sched = some ⟨v.toNat, step, clr, none, 0⟩ ∧ t.gau.stepCode = 1) := by
  intro step clr
  refine .of_hook (F := fun b _ _ => b.takeStep v.toNat (sext 96 (b.inForce .GAU_STEP_AMT)) (b.on .GAU_STEP_CTL 0) none) rfl (by decide)
    (fun t q => GAU_STEP_AT_write t _ _ _) fun o b q e _ hb hmin hguard => ?_
  have hamt : sext 96 (b.inForce .GAU_STEP_AMT) = step := by rw [hb.inForce (by decide)]
  have hclr : b.on .GAU_STEP_CTL 0 = clr := by rw [State.on, hb.inForce (by decide)]; rfl
  have hsmall : b.smallStep step = false := by
    rw [State.smallStep, hb.inForce (by decide)]
    exact decide_eq_false (by omega)
  have hpass : b.guardHolds (if clr then 0 else b.gau.rem) step = false := by
    rw [hb.guardHolds (by decide) (by decide), hb.gau]; exact hguard
  simp only [State.sample_gau, State.originDone_gau, hamt, hclr]
  rw [State.takeStep_scheduled hsmall hpass, State.schedule_gau]
  exact ⟨rfl, rfl⟩

theorem stepCancel_spec (s : State) :
    Writes (.stepCancel r) s r (regAt .GAU_STEP_CTL) (s.lastWith .GAU_STEP_CTL 8 8 1) (fun t =>
      t.gau.sched = none ∧ t.gau.held = none) := by
  refine .of_hook (F := fun b _ _ => (b.dropSched 11).dropHeld 11) rfl (by decide)
    (fun t q => (GAU_STEP_CTL_write t _ _ _).trans (if_pos ?_)) fun o b q e _ hb => ?_
  · rw [State.lastWith, bitOn_putBits]; rfl
  · obtain ⟨c, hc⟩ := b.dropSched_gau 11
    obtain ⟨d, hd⟩ := (b.dropSched 11).dropHeld_gau 11
    have hg := ((((b.dropSched 11).dropHeld 11).originDone e).sample_gau 11 0 0).trans ((State.originDone_gau _ e).trans hd)
    exact ⟨(congrArg Gau.sched hg).trans (by rw [hc]), congrArg Gau.held hg⟩

theorem stepAck_spec (s : State) (seq : Half) :
    Writes (.stepAck r seq) s r (regAt .GAU_STEP_ACK) seq.toNat (fun t =>
      (∀ h, s.gau.held = some h → h.step = true →
        t.gau.held = none ∧ t.gau.sched = some ⟨s.releaseT, h.amt, h.clr, h.by_, h.num⟩ ∧ t.gau.stepCode = 6) ∧
      (∀ h, s.gau.held = some h → h.step = false → (s.gau.rem + h.amt * 256).natAbs < 2 ^ 71 →
        t.gau.held = none ∧ t.gau.rem = s.gau.rem + h.amt * 256 ∧ t.gau.stepCode = 6) ∧
      (s.gau.held = none → s.gau.breach = true → t.gau.breach = false ∧ t.gau.stepCode = 6)) := by
  refine .of_hook (F := fun b _ _ => b.ackStep) rfl (by decide) (fun t q => GAU_STEP_ACK_write t _ _ _) fun o b q e _ hb => ?_
  have hrel : b.releaseT = s.releaseT := by simp only [State.releaseT, State.gns, hb.gau]
  simp only [State.sample_gau, State.originDone_gau, State.ackStep, State.releaseHeld, hb.gau, hrel]
  refine ⟨fun h hh hs => ?_, fun h hh hs hlim => ?_, fun hh hbr => ?_⟩
  · obtain ⟨c, hc⟩ := ({ b with gau := { s.gau with held := none } } : State).dropSched_gau 12
    simp [hh, hs, State.restart, hc]
  · have hfit : ¬ remMax < (s.gau.rem + h.amt * 256).natAbs := by
      rw [remMax]; omega
    simp [hh, hs, State.restart, fine, hfit]
  · simp [hh, hbr, State.closeBreach, State.restart]

end
end Sys2Proof.Machine
end

section
/-! The writes of the selector and of the outputs (R71, R72, R94, R97, R103). -/

namespace Sys2Proof.Machine

set_option Elab.async false

variable {r : Requester}

/-! ### Candidates -/

theorem State.setCand_cand (s : State) (k : Nat) (c : Cand) : (s.setCand k c).cand k = c := Tab.get_set_same ..

/-- An enabled candidate that was OFF has no signal yet (R71). -/
theorem State.candEnable_on {s : State} {k : Nat} (h : (s.cand k).st = .off) : ((s.candEnable k true).cand k).st = .nosig := by
  unfold State.candEnable
  dsimp only
  rw [if_pos rfl, if_pos h, State.determine_cand_st, State.setCand_cand]

/-- A disabled candidate is OFF (R71). -/
theorem State.candEnable_off (s : State) (k : Nat) : ((s.candEnable k false).cand k).st = .off := by
  unfold State.candEnable
  dsimp only
  rw [if_neg Bool.false_ne_true, State.determine_cand_st, State.setCand_cand]

theorem candidateEnable_on_spec (s : State) (k : Fin 31) :
    Writes (.candidateEnable r k true) s r (regAt .SEL_CFG k) (s.lastWith .SEL_CFG 31 31 1 k) (fun t =>
      (s.cand k).st = .off → (t.cand k).st = .nosig) := by
  refine .of_hook (F := fun b o _ => b.hookSel o ⟨.SEL_CFG, k, 0, 0, 0⟩ (s.lastWith .SEL_CFG 31 31 1 k)) rfl (by decide)
    (fun t q => SEL_CFG_write t k _ _ _) fun o b q e _ hb hoff => ?_
  have hen : bitOn (s.lastWith .SEL_CFG 31 31 1 k) 31 = true := by rw [State.lastWith, bitOn_putBits]; rfl
  have hst : ((b.candEnable k true).cand k).st = .nosig := State.candEnable_on (by rw [hb.cand]; exact hoff)
  have hkeep : ∀ t : State, ((t.originDone e).sample 11 0 0).cand k = t.cand k := fun t => by
    simp only [State.cand, State.sample_sel, State.originDone_sel]
  rw [hkeep]
  simp only [State.hookSel, hen, true_or, if_true]
  split
  · rw [State.determine_cand_st]; exact hst
  · exact hst

theorem candidateEnable_off_spec (s : State) (k : Fin 31) :
    Writes (.candidateEnable r k false) s r (regAt .SEL_CFG k) (s.lastWith .SEL_CFG 31 31 0 k) (fun t => (t.cand k).st = .off) := by
  refine .of_hook (F := fun b o _ => b.hookSel o ⟨.SEL_CFG, k, 0, 0, 0⟩ (s.lastWith .SEL_CFG 31 31 0 k)) rfl (by decide)
    (fun t q => SEL_CFG_write t k _ _ _) fun o b q e _ hb => ?_
  have hen : bitOn (s.lastWith .SEL_CFG 31 31 0 k) 31 = false := by rw [State.lastWith, bitOn_putBits]; rfl
  have hst : ((if (b.cand k).st ≠ .off then b.candEnable k false else b).cand k).st = .off := by
    split
    · exact b.candEnable_off k
    next h => exact not_not.mp h
  have hkeep : ∀ t : State, ((t.originDone e).sample 11 0 0).cand k = t.cand k := fun t => by
    simp only [State.cand, State.sample_sel, State.originDone_sel]
  rw [hkeep]
  simp only [State.hookSel, hen, Bool.false_eq_true, false_or]
  split
  · rw [State.determine_cand_st]; exact hst
  · exact hst

/-- The write of HOSTSET as the gate takes it: its effect, then the post with the Gauge that stood at its arrival (R72). -/
theorem written_hostset {s : State} {x : RegAt} {v : Nat} (h : Admits s r x v) (hx : x.reg = .SEL_HOSTSET) :
    ∃ p l w m q, s.written r x v = (((({ s with pmc := p, log := l, hw := w, sent := m } : State).doWrite x v q).hostset v s.g32
      (decide ((s.cand 30).st ≠ .off))).originDone (s.entryOf r x v)).sample 11 0 0 := by
  obtain ⟨-, -, -, -, -, hr, -, -, hl, -⟩ := h
  obtain ⟨p, hp⟩ := s.counted_only r
  have hr' : (s.counted r).logRoom 2 = true := by rw [hp]; exact hr
  obtain ⟨a, b, c, hwr, -⟩ := (s.counted r).withRecord_only ((s.counted r).entryOf r x v) hr'
  refine ⟨p, a, b, c, a.seq, ?_⟩
  have he : (s.counted r).entryOf r x v = s.entryOf r x v := by rw [hp]; rfl
  unfold State.written
  simp only [he] at hwr ⊢
  rw [hwr]
  simp only [State.applyChange, State.entryOf, State.entry, hl, hx, if_true, hp]
  rfl

theorem hostsetWrite_spec (s : State) (v : DWord) :
    Writes (.hostsetWrite r v) s r (regAt .SEL_HOSTSET) v.toNat (fun t => (s.cand 30).st ≠ .off →
      (t.cand 30).post = some ⟨((v.toNat * 2 ^ 32 : Nat) : Int) - s.g32, s.inForce .SEL_HOSTSET_UNC, 0, s.g32, 0⟩) := by
  intro h
  refine ⟨congrArg _ (State.submit_admitted h), fun hon => ?_⟩
  obtain ⟨p, l, w, m, q, hw⟩ := written_hostset h rfl
  rw [hw]
  generalize hb : ({ s with pmc := p, log := l, hw := w, sent := m } : State).doWrite (regAt .SEL_HOSTSET) v.toNat q = b
  have hwrite := SEL_HOSTSET_write { s with pmc := p, log := l, hw := w, sent := m } 0 v.toNat q
  have hbase : b.sel = s.sel ∧ b.inForce .SEL_HOSTSET_UNC = s.inForce .SEL_HOSTSET_UNC := by
    rw [← hb, regAt, hwrite]
    exact ⟨by obtain ⟨_, _, _, hp⟩ := State.putReg_only { s with pmc := p, log := l, hw := w, sent := m } ⟨.SEL_HOSTSET, 0, 0, 0, 0⟩ v.toNat
              rw [hp]; rfl, State.putReg_inForce_ne (by decide)⟩
  have hcand : b.cand 30 = s.cand 30 := by rw [State.cand, hbase.1]; rfl
  have hpost : b.hostset v.toNat s.g32 (decide ((s.cand 30).st ≠ .off)) = b.setCand 30 { b.cand 30 with
      post := some ⟨((v.toNat * 2 ^ 32 : Nat) : Int) - s.g32, b.inForce .SEL_HOSTSET_UNC, 0, s.g32, 0⟩
      hostAt := some ((b.cand 30).hostAt.getD b.gau.l) } := by
    simp only [State.hostset]
    rw [if_neg (by simp [hon, hcand])]
  have hkeep : ∀ t : State, ((t.originDone (s.entryOf r (regAt .SEL_HOSTSET) v.toNat)).sample 11 0 0).cand 30 = t.cand 30 := fun t => by
    simp only [State.cand, State.sample_sel, State.originDone_sel]
  rw [hkeep, hpost, State.setCand_cand, hbase.2]

/-! ### Outputs -/

theorem grpcSnapWrite_spec (s : State) :
    Writes (.grpcSnapWrite r) s r (regAt .OUT_GRPC) (s.lastWith .OUT_GRPC 31 31 1) (fun t => t.out.snap = some s.gau.l) := by
  refine .of_hook (F := fun b _ _ => { b with out := { b.out with snap := some b.gau.l } }) rfl (by decide)
    (fun t q => (OUT_GRPC_write t _ _ _).trans (if_pos ?_)) fun o b q e _ hb => ?_
  · rw [State.lastWith, bitOn_putBits]; rfl
  · simp only [State.sample_out, State.originDone_out, hb.gau]

/-- What waits at an output once the requester of a write has learnt of it. -/
theorem outU_behind (t : State) (e : GateEntry) (i : Nat) : ((t.originDone e).sample 11 0 0).outU i = t.outU i := by
  simp only [State.outU, State.sample_out, State.originDone_out]

/-- EN of an output acts as it is written. -/
theorem OUT_CFG_enable_plain (i : Fin 20) :
    ((⟨.OUT_CFG, i, 0, 0, 0⟩ : RegAt).fs.any fun f => (f.acc == .rw && !f.isE) && decide (f.lo ≤ 31 ∧ 31 ≤ f.hi)) = true := by
  revert i; decide

theorem outputEnable_spec (s : State) (i : Fin 20) :
    Writes (.outputEnable r i) s r (regAt .OUT_CFG i) (s.lastWith .OUT_CFG 31 31 1 i) (fun t =>
      s.on .OUT_CFG 31 i = false → (t.outU i).armed = some s.gau.l) := by
  refine .of_hook (F := fun b o _ => b.outCfg o i) rfl (by decide) (fun t q => OUT_CFG_write t i _ _ _) fun o b q e ho hb hoff => ?_
  have hnew : bitOn (b.inForce .OUT_CFG i) 31 = true := by
    have h := hb.forceAt (by simp) rfl
    rw [show b.inForce .OUT_CFG i = b.forceAt ⟨.OUT_CFG, i, 0, 0, 0⟩ from rfl, h, bitOn_putFields]
    rw [if_pos (OUT_CFG_enable_plain i), State.lastWith, bitOn_putBits]
    rfl
  have hold : bitOn (o.inForce .OUT_CFG i) 31 = false := by rw [ho.inForce]; exact hoff
  rw [outU_behind]
  simp only [State.outCfg, rose, hnew, hold, State.on, Bool.not_false, Bool.and_true, if_true]
  rw [(SameOrders.squelch _ i).1, State.setOutU_outU, hb.gau]

theorem OUT_CFG_addr (i : Nat) : RegName.OUT_CFG.addr i = 2625536 + i * 32 := rfl

theorem wclkRealignWrite_spec (s : State) (j : Fin 2) :
    Writes (.wclkRealignWrite r j) s r (regAt .OUT_SKIP (18 + j.val)) (s.lastWith .OUT_SKIP 0 0 1 (18 + j.val)) (fun t =>
      s.frameMode (18 + j.val) = true → (t.outU (18 + j.val)).realign = some s.gau.l) := by
  refine .of_hook (F := fun b o _ => b.hookOut o ⟨.OUT_SKIP, 18 + j.val, 0, 0, 0⟩ (s.lastWith .OUT_SKIP 0 0 1 (18 + j.val))) rfl
    (by decide) (fun t q => OUT_SKIP_write t ⟨18 + j.val, by omega⟩ _ _ _) fun o b q e _ hb hframe => ?_
  have hbit : bitOn (s.lastWith .OUT_SKIP 0 0 1 (18 + j.val)) 0 = true := by rw [State.lastWith, bitOn_putBits]; rfl
  have hmode : b.frameMode (18 + j.val) = true := by
    rw [State.frameMode, State.on, hb.inForce]
    · exact hframe
    · rw [OUT_CFG_addr, show RegAt.first ⟨.OUT_SKIP, 18 + j.val, 0, 0, 0⟩ = 2625564 + (18 + j.val) * 32 from rfl]
      omega
  rw [outU_behind]
  simp only [State.hookOut, hmode, hbit, and_self, if_true]
  rw [State.setOutU_outU, hb.gau]

/-- Settles O19, register by register. -/
theorem timingWritesComplete : Obligations.TimingWritesComplete := by
  intro r v seq k o j s amt step clr
  exact ⟨slewAmtWrite_spec s v, stepAtWrite_spec s v, stepCancel_spec s, stepAck_spec s seq, candidateEnable_on_spec s k,
    candidateEnable_off_spec s k, hostsetWrite_spec s v, grpcSnapWrite_spec s, outputEnable_spec s o, wclkRealignWrite_spec s j⟩

end Sys2Proof.Machine
end

section
/-! What a read or a write of external memory may do to the device beside the memory (R370 to R373): what the fault of an uncorrectable
error does, and nothing else. -/

namespace Sys2Proof.Machine

set_option Elab.async false

variable {s₀ s : State}

theorem Reacts.reported {μ : Prop} (h : Reacts μ True s₀ s) {src unit : Nat} : Reacts μ True s₀ (s.reported src unit) := .ite h.frame h

theorem Reacts.pmcMem {μ : Prop} (h : Reacts μ True s₀ s) {r ev k : Nat} : Reacts μ True s₀ (s.pmcMem r ev k) := h.pmcEv

theorem Reacts.memUe {μ : Prop} (h : Reacts μ True s₀ s) {r addr : Nat} : Reacts μ True s₀ (s.memUe r addr) := by
  unfold State.memUe
  have h1 : Reacts μ True s₀ (if bitOn (s.hwOf .MEM_UE_INFO) 31 then s
      else ((s.setHw .MEM_UE_ADDR 63 0 addr).setHw .MEM_UE_INFO 31 31 1).setHw .MEM_UE_INFO 19 16 r) := .ite h h.frame
  exact (Reacts.frame h1).pmcMem.reported.fault.irq

/-- A change of external memory. -/
theorem Reacts.setMem (h : Reacts True True s₀ s) (x : MemS) : Reacts True True s₀ { s with mem := x } :=
  h.memory (free := s.free) (mem := x) (dram := s.dram) trivial

theorem Reacts.draw (h : Reacts True True s₀ s) (w : Nat) : Reacts True True s₀ (s.draw w).2 :=
  h.memory (free := s.free + 1) (mem := s.mem) (dram := s.dram) trivial

theorem Reacts.startSpare (h : Reacts True True s₀ s) {c : Nat} : Reacts True True s₀ (s.startSpare c) := h.setMem _

theorem Reacts.corrected (h : Reacts True True s₀ s) {r c d : Nat} : Reacts True True s₀ (s.corrected r c d) := by
  unfold State.corrected
  have h1 : Reacts True True s₀ ((({ s with mem := { s.mem with
      passCorr := s.mem.passCorr.set (16 * c + d) (s.mem.passCorr.get (16 * c + d) 0 + 1) } } : State).bump .MEM_CORR 31 0 1 c d).pmcMem r 4) :=
    (h.setMem _).frame.pmcMem
  exact .ite h1.frame.startSpare h1

theorem Reacts.cwDetects (h : Reacts True True s₀ s) {cw : Nat} : Reacts True True s₀ (s.cwDetects cw).2 := by
  unfold State.cwDetects
  split
  · exact h
  · exact h
  · exact h
  · exact h.draw 1

theorem Reacts.readCw (h : Reacts True True s₀ s) {r : Nat} {wb : Bool} {cw : Nat} : Reacts True True s₀ (s.readCw r wb cw).2 := by
  unfold State.readCw
  split
  · exact h
  · exact .ite (h.corrected.setMem _) h.corrected
  · exact .ite h.cwDetects.memUe h.cwDetects

theorem Reacts.readCws (h : Reacts True True s₀ s) {r : Nat} {wb : Bool} {l : List Nat} : Reacts True True s₀ (s.readCws r wb l).2 :=
  List.foldlRecOn (motive := fun a : Bool × State => Reacts True True s₀ a.2) l _ h fun _ ht _ _ => ht.readCw

theorem Reacts.memPost (h : Reacts True True s₀ s) {r addr len : Nat} : Reacts True True s₀ (s.memPost r addr len) := .ite h (h.setMem _)

theorem Reacts.memPutBy (h : Reacts True True s₀ s) {r addr : Nat} {data : List Byte} : Reacts True True s₀ (s.memPutBy r addr data).2 := by
  unfold State.memPutBy
  have hread : Reacts True True s₀ ((s.memPost r addr data.length).readCws r (s.on .MEM_SCRUB 31) (edgeCws addr data.length)).2 :=
    h.memPost.readCws
  split
  · exact h
  · split
    · exact h.frame
    · split
      · exact h
      · dsimp only
        split
        · exact hread
        · exact hread.memory (free := _) (mem := _) (dram := _) trivial

theorem Reacts.memWrite (h : Reacts True True s₀ s) {r addr : Nat} {data : List Byte} : Reacts True True s₀ (s.memWrite r addr data) := h.memPutBy

theorem Reacts.memRead (h : Reacts True True s₀ s) {r addr len : Nat} : Reacts True True s₀ (s.memRead r addr len).2.2 := by
  unfold State.memRead
  split
  · exact h.frame
  · split
    · exact h.memUe
    · exact h.memPost.readCws

end Sys2Proof.Machine
end

section
/-! The writes that start, stop and queue work of the baseband and of the sequencers (R125, R130, R134, R139, R163, R168, R171). -/

namespace Sys2Proof.Machine

set_option Elab.async false

variable {r : Requester} {s b : State} {x : RegAt} {v : Nat}

theorem Landed.gnb (hb : Landed s x v b) : b.gnb = s.gnb := by obtain ⟨_, _, _, _, _, _, rfl⟩ := hb.base; rfl

theorem Landed.seqs (hb : Landed s x v b) : b.seqs = s.seqs := by obtain ⟨_, _, _, _, _, _, rfl⟩ := hb.base; rfl

theorem Landed.sq (hb : Landed s x v b) (n : Nat) : b.sq n = s.sq n := by rw [State.sq, hb.seqs]; rfl

theorem Landed.clus (hb : Landed s x v b) : b.clus = s.clus := by obtain ⟨_, _, _, _, _, _, rfl⟩ := hb.base; rfl

theorem Landed.chan (hb : Landed s x v b) (c : Nat) : b.chan c = s.chan c := by rw [State.chan, hb.gnb]; rfl

/-- The baseband once the requester of a write has learnt of it. -/
theorem gnb_behind (t : State) (e : GateEntry) : ((t.originDone e).sample 11 0 0).gnb = t.gnb := by
  rw [State.sample_gnb, State.originDone_gnb]

theorem chan_behind (t : State) (e : GateEntry) (c : Nat) : ((t.originDone e).sample 11 0 0).chan c = t.chan c := by
  simp only [State.chan, gnb_behind]

/-! ### Baseband -/

theorem spiTransaction_spec (s : State) (v : DWord) :
    Writes (.spiTransaction r v) s r (regAt .GNS_SPI_TX) v.toNat (fun t => t.gnb.spiBusy = true) := by
  refine .of_hook (F := fun b _ _ => b.startSpi v.toNat) rfl (by decide) (fun t q => GNS_SPI_TX_write t _ _ _) fun o b q e _ hb => ?_
  rw [gnb_behind]
  rfl

theorem State.setChan_chan (s : State) (c : Nat) (x : Chan) : (s.setChan c x).chan c = x := Tab.get_set_same ..

theorem State.setChan_chan_ne (s : State) {c d : Nat} (x : Chan) (h : d ≠ c) : (s.setChan c x).chan d = s.chan d :=
  Tab.get_set_ne _ _ _ h

/-- A started channel is ARMED (R130). -/
theorem State.startChan_armed (s : State) (c cw rw ph scnt : Nat) : ((s.startChan c cw rw ph scnt).chan c).st = .armed := by
  unfold State.startChan
  dsimp only
  split
  · rw [State.armChan, State.setChan_chan_ne _ _ (by omega)]
    show ((State.armChan s c cw rw ph scnt).chan c).st = _
    rw [State.armChan, State.setChan_chan]
  · rw [State.armChan, State.setChan_chan]

/-- A channel that is moved takes the new state, unless it is STOPPED. -/
theorem State.moveChans_stopped (s : State) {l : List Nat} {c : Nat} (hc : c ∈ l) : ((s.moveChans l .stopped).chan c).st = .stopped := by
  have keep (l : List Nat) (t : State) (h : (t.chan c).st = .stopped) : ((t.moveChans l .stopped).chan c).st = .stopped := by
    refine List.foldlRecOn (motive := fun t : State => (t.chan c).st = .stopped) l _ h fun t ht d _ => ?_
    split
    · exact ht
    · by_cases hd : c = d
      · rw [hd, State.setChan_chan]
      · rw [State.setChan_chan_ne _ _ hd]; exact ht
  induction l generalizing s with
  | nil => cases hc
  | cons d l ih =>
    rcases List.mem_cons.mp hc with rfl | hc
    · refine keep l _ ?_
      dsimp only
      split
      next h => exact h
      · rw [State.setChan_chan]
    · exact ih _ hc

theorem State.stopChan_stopped (s : State) (c : Nat) : ((s.stopChan c).chan c).st = .stopped := by
  refine s.moveChans_stopped ?_
  unfold State.mates
  split
  · simp only [List.mem_cons, List.not_mem_nil, or_false]; omega
  · exact List.mem_singleton_self c

theorem CH_START_SCNT_addr (c : Nat) : RegName.CH_START_SCNT.addr c = 4259872 + c * 128 := rfl

theorem channelEnable_on_spec (s : State) (c : Fin 192) : let w := s.lastWith .CH_CFG 31 31 1 c
    Writes (.channelEnable r c true) s r (regAt .CH_CFG c) w (fun t =>
      (s.chan c).st = .stopped → s.on .GNS_CTL 31 = true →
      (s.putReg (regAt .CH_CFG c) w).judgeChan c (s.inForce .CH_START_SCNT c) = .none → (t.chan c).st = .armed) := by
  intro w
  have hen : bitOn w 31 = true := by rw [show w = putBits _ 31 31 1 from rfl, bitOn_putBits]; rfl
  refine .of_hook (F := fun b _ _ => b.chanCfg c w) rfl (by decide) (fun t q => CH_CFG_write t c _ _ _) fun o b q e _ hb hst hon hj => ?_
  have hgns : b.on .GNS_CTL 31 = true := by
    rw [State.on, hb.inForce]
    · exact hon
    · show 4194304 ≠ 4259840 + c.val * 128
      omega
  have hscnt : b.inForce .CH_START_SCNT c = s.inForce .CH_START_SCNT c := hb.inForce (by
    rw [CH_START_SCNT_addr]
    show _ ≠ 4259840 + c.val * 128
    omega)
  have hjudge : b.judgeChan c (b.inForce .CH_START_SCNT c) = .none := by
    rw [hscnt, ← hj]
    obtain ⟨_, _, _, _, _, f, hbase⟩ := hb.base
    have hf : f = (s.putReg (regAt .CH_CFG c) w).force := by
      have := hb.force
      rw [hbase] at this
      exact this
    rw [hbase, hf]
    rfl
  rw [chan_behind]
  simp only [State.chanCfg, hen, hb.chan, hst, hgns, and_self, if_true, State.startByRegs, State.tryStart, hjudge]
  exact b.startChan_armed ..

theorem channelEnable_off_spec (s : State) (c : Fin 192) :
    Writes (.channelEnable r c false) s r (regAt .CH_CFG c) (s.lastWith .CH_CFG 31 31 0 c) (fun t => (t.chan c).st = .stopped) := by
  have hen : bitOn (s.lastWith .CH_CFG 31 31 0 c) 31 = false := by rw [State.lastWith, bitOn_putBits]; rfl
  refine .of_hook (F := fun b _ _ => b.stopChan c) rfl (by decide)
    (fun t q => (CH_CFG_write t c _ _ _).trans (if_neg (by rw [hen]; exact Bool.false_ne_true))) fun o b q e _ hb => ?_
  rw [chan_behind]
  exact b.stopChan_stopped c

/-! ### Acquisition and swatches -/

theorem State.runAcq_queue (s : State) : s.runAcq.gnb.acqQ = s.gnb.acqQ := by
  unfold State.runAcq
  split <;> rfl

theorem acqGo_spec (s : State) (j : Fin 16) :
    Writes (.acqGo r j) s r (regAt .ACQ_CFG j) (s.lastWith .ACQ_CFG 31 31 1 j) (fun t => t.gnb.acqQ = s.gnb.acqQ ++ [j.val]) := by
  have hgo : bitOn (s.lastWith .ACQ_CFG 31 31 1 j) 31 = true := by rw [State.lastWith, bitOn_putBits]; rfl
  refine .of_hook (F := fun b _ _ => b.queueAcq j) rfl (by decide) (fun t q => (ACQ_CFG_write t j _ _ _).trans (if_pos hgo))
    fun o b q e _ hb => ?_
  rw [gnb_behind, State.queueAcq, State.runAcq_queue, ← hb.gnb]
  rfl

theorem acqCancel_spec (s : State) (j : Fin 16) :
    Writes (.acqCancel r j) s r (regAt .ACQ_CFG j) (s.lastWith .ACQ_CFG 30 30 1 j) (fun t =>
      bitOn (s.lastOf .ACQ_CFG j) 31 = false → s.gnb.acqQ.contains j.val = true → t.gnb.acqQ = s.gnb.acqQ.erase j.val) := by
  have hcancel : bitOn (s.lastWith .ACQ_CFG 30 30 1 j) 30 = true := by rw [State.lastWith, bitOn_putBits]; rfl
  refine .of_hook (F := fun b o _ => b.hookMeas o ⟨.ACQ_CFG, j, 0, 0, 0⟩ (s.lastWith .ACQ_CFG 30 30 1 j)) rfl (by decide)
    (fun t q => ACQ_CFG_write t j _ _ _) fun o b q e _ hb hgo hq => ?_
  have hno : bitOn (s.lastWith .ACQ_CFG 30 30 1 j) 31 = false := by rw [State.lastWith, bitOn_putBits]; exact hgo
  rw [gnb_behind]
  simp only [State.hookMeas, hcancel, hno, Bool.false_eq_true, if_false, if_true, State.cancelAcq, hb.gnb, hq]
  rw [State.leaveAcq, State.runAcq_queue, ← hb.gnb]
  rfl

/-- The bound of a swatch's instant as the statement writes it. -/
theorem ite_swatch (d : Int) :
    (if 2000 ≤ d ∧ d ≤ ((2 ^ 39 : Nat) : Int) then 1 else 6) = if 2000 ≤ d ∧ d ≤ 2 ^ 39 then 1 else 6 :=
  if_congr (and_congr_right fun _ => by norm_num) rfl rfl

/-- The state of a swatch that is asked for: armed, or refused for its instant (R139). -/
theorem State.goSwatch_swSt (s : State) {d : Int} (hd : (s.inForce .SW_AT : Int) - s.gns = d) :
    s.goSwatch.gnb.swSt = if 2000 ≤ d ∧ d ≤ 2 ^ 39 then 1 else 6 := by
  subst hd
  exact ite_swatch _

theorem Landed.swatch_ahead (hb : Landed s (regAt .SW_CTL) v b) :
    (b.inForce .SW_AT : Int) - b.gns = (s.inForce .SW_AT : Int) - s.gns := by
  rw [hb.inForce (by decide), State.gns, hb.gau]
  rfl

theorem swatchGo_spec (s : State) : let d : Int := (s.inForce .SW_AT : Int) - s.gns
    Writes (.swatchGo r) s r (regAt .SW_CTL) (s.lastWith .SW_CTL 31 31 1) (fun t =>
      t.gnb.swSt = if 2000 ≤ d ∧ d ≤ 2 ^ 39 then 1 else 6) := by
  intro d
  have hd : (s.inForce .SW_AT : Int) - s.gns = d := rfl
  clear_value d
  have hgo : bitOn (s.lastWith .SW_CTL 31 31 1) 31 = true := by rw [State.lastWith, bitOn_putBits]; rfl
  refine .of_hook (F := fun b _ _ => b.goSwatch) rfl (by decide) (fun t q => (SW_CTL_write t _ _ _).trans (if_pos hgo))
    fun o b q e _ hb => ?_
  rw [gnb_behind]
  exact b.goSwatch_swSt (hb.swatch_ahead.trans hd)

theorem Reacts.swSt {μ ρ : Prop} {s₀ t : State} (h : Reacts μ ρ s₀ t) : t.gnb.swSt = s₀.gnb.swSt := by
  obtain ⟨_, _, _, _, _, _, _, _, _, _, _, _, _, _, _, _, _, _, _, _, _, _, _, rfl⟩ := h.keeps
  rfl

theorem State.memWrite_swSt (s : State) (r addr : Nat) (data : List Byte) : (s.memWrite r addr data).gnb.swSt = s.gnb.swSt :=
  (Reacts.memWrite .refl).swSt

/-- The end of a swatch leaves its outcome, whatever the write of its header meets (R139). -/
theorem State.endSwatch_swSt (s : State) (st : Nat) : (s.endSwatch st).gnb.swSt = st := by
  rw [State.endSwatch, State.pmcEv_gnb, State.memWrite_swSt]

theorem swatchAbort_spec (s : State) :
    Writes (.swatchAbort r) s r (regAt .SW_CTL) (s.lastWith .SW_CTL 30 30 1) (fun t =>
      bitOn (s.lastOf .SW_CTL) 31 = false → s.gnb.swSt = 1 ∨ s.gnb.swSt = 2 → t.gnb.swSt = 4) := by
  have habort : bitOn (s.lastWith .SW_CTL 30 30 1) 30 = true := by rw [State.lastWith, bitOn_putBits]; rfl
  refine .of_hook (F := fun b o _ => b.hookMeas o ⟨.SW_CTL, 0, 0, 0, 0⟩ (s.lastWith .SW_CTL 30 30 1)) rfl (by decide)
    (fun t q => SW_CTL_write t _ _ _) fun o b q e _ hb hgo hst => ?_
  have hno : bitOn (s.lastWith .SW_CTL 30 30 1) 31 = false := by rw [State.lastWith, bitOn_putBits]; exact hgo
  rw [gnb_behind]
  simp only [State.hookMeas, habort, hno, Bool.false_eq_true, if_false, if_true, State.abortSwatch]
  rcases hst with h | h
  · simp only [hb.gnb, h]
  · simp only [hb.gnb, h]; exact b.endSwatch_swSt 4

/-! ### Sequencers and images -/

theorem Seq.answered_st (q : Seq) : (({ q with c := true, stall := false } : Seq).retire 1).st = q.st := Seq.retire_st ..

theorem Seq.answered_mems (q : Seq) : (({ q with c := true, stall := false } : Seq).retire 1).pMem = q.pMem ∧
    (({ q with c := true, stall := false } : Seq).retire 1).cMem = q.cMem ∧
    (({ q with c := true, stall := false } : Seq).retire 1).dMem = q.dMem :=
  ⟨Seq.retire_pMem .., Seq.retire_cMem .., Seq.retire_dMem ..⟩

/-- What of a sequencer the answer to its own write leaves. -/
theorem sq_behind {α : Type} (g : Seq → α) (hg : ∀ q : Seq, g (({ q with c := true, stall := false } : Seq).retire 1) = g q) (t : State)
    (e : GateEntry) (n : Nat) : g (((t.originDone e).sample 11 0 0).sq n) = g (t.sq n) := by
  rw [State.sq, State.sample_seqs]
  rcases State.originDone_sq t e n with h | ⟨_, h⟩
  · exact congrArg g h
  · exact (congrArg g h).trans (hg _)

theorem State.startSeq_sq (s : State) (n : Nat) (atRow : Bool) : (s.startSeq n atRow).sq n = { Seq.reset with
    st := .starting, start := some (s.gau.l, atRow), kick := s.gau.l
    pMem := (s.sq n).pMem, cMem := (s.sq n).cMem, dMem := (s.sq n).dMem, img := (s.sq n).img } :=
  State.setSq_sq ..

theorem State.haltSeq_st (s : State) (n : Nat) (st : SState) : ((s.haltSeq n st).sq n).st = st := by
  show ((State.setSq s n _).sq n).st = st
  rw [State.setSq_sq]

theorem State.unfenceSeq_sq (s : State) (n : Nat) :
    (s.unfenceSeq n).sq n = { s.sq n with st := .stopped, pMem := [], cMem := [], dMem := [], img := [] } :=
  State.setSq_sq ..

theorem State.takeSeqCtl_start (s : State) {n : Nat} (atRow unfence : Bool) (h : (s.sq n).st = .stopped) :
    s.takeSeqCtl n true atRow unfence = s.startSeq n atRow := by
  simp only [State.takeSeqCtl, h, if_true]

theorem State.takeSeqCtl_unfence (s : State) {n : Nat} (run atRow : Bool) (h : (s.sq n).st = .fenced) :
    s.takeSeqCtl n run atRow true = s.unfenceSeq n := by
  simp only [State.takeSeqCtl, h, if_true]

theorem bit_of_ctl (atRow unfence : Bool) : bitOn (4 + (if atRow then 2 else 0) + (if unfence then 1 else 0)) 2 = true ∧
    bitOn (4 + (if atRow then 2 else 0) + (if unfence then 1 else 0)) 1 = atRow := by
  cases atRow <;> cases unfence <;> decide

theorem seqRun_spec (s : State) (n : Fin 160) (atRow unfence : Bool) :
    Writes (.seqRun r n atRow unfence) s r (regAt .SEQ_CTL n)
      (s.lastWith .SEQ_CTL 31 29 (4 + (if atRow then 2 else 0) + (if unfence then 1 else 0)) n) (fun t =>
      (s.sq n).st = .stopped → (t.sq n).st = .starting ∧ (t.sq n).start = some (s.gau.l, atRow) ∧ (t.sq n).g = [] ∧
        (t.sq n).pMem = (s.sq n).pMem ∧ (t.sq n).cMem = (s.sq n).cMem ∧ (t.sq n).dMem = (s.sq n).dMem) := by
  obtain ⟨hrun, hrow⟩ := bit_of_ctl atRow unfence
  refine .of_hook (F := fun b _ _ => b.takeSeqCtl n (bitOn _ 31) (bitOn _ 30) (bitOn _ 29)) rfl (by decide)
    (fun t q => SEQ_CTL_write t n _ _ _) fun o b q e _ hb hst => ?_
  have h31 : bitOn (s.lastWith .SEQ_CTL 31 29 (4 + (if atRow then 2 else 0) + (if unfence then 1 else 0)) n) 31 = true := by
    rw [State.lastWith, bitOn_putBits]; exact hrun
  have h30 : bitOn (s.lastWith .SEQ_CTL 31 29 (4 + (if atRow then 2 else 0) + (if unfence then 1 else 0)) n) 30 = atRow := by
    rw [State.lastWith, bitOn_putBits]; exact hrow
  rw [sq_behind Seq.st Seq.answered_st, sq_behind Seq.start fun _ => Seq.retire_start .., sq_behind Seq.g fun _ => Seq.retire_g .., sq_behind Seq.pMem fun q => q.answered_mems.1,
    sq_behind Seq.cMem fun q => q.answered_mems.2.1, sq_behind Seq.dMem fun q => q.answered_mems.2.2]
  rw [h31, h30, State.takeSeqCtl_start b _ _ ((congrArg Seq.st (hb.sq n)).trans hst), State.startSeq_sq, hb.sq, hb.gau]
  exact ⟨rfl, rfl, rfl, rfl, rfl, rfl⟩

theorem seqStop_spec (s : State) (n : Fin 160) : Writes (.seqStop r n) s r (regAt .SEQ_CTL n) (s.lastWith .SEQ_CTL 31 31 0 n)
    (fun t => (s.sq n).st ≠ .fenced → (t.sq n).st = .stopped) := by
  have h31 : bitOn (s.lastWith .SEQ_CTL 31 31 0 n) 31 = false := by rw [State.lastWith, bitOn_putBits]; rfl
  let w := s.lastWith .SEQ_CTL 31 31 0 n
  refine .of_hook (F := fun b _ _ => b.takeSeqCtl n (bitOn w 31) (bitOn w 30) (bitOn w 29)) rfl (by decide)
    (fun t q => SEQ_CTL_write t n _ _ _) fun o b q e _ hb hst => ?_
  rw [sq_behind Seq.st Seq.answered_st, h31, State.takeSeqCtl, hb.sq]
  split
  next h => exact (congrArg Seq.st (hb.sq n)).trans h
  next h => exact absurd h hst
  next => exact b.haltSeq_st n .stopped

theorem unfence_spec (s : State) (n : Fin 160) :
    Writes (.unfence r n) s r (regAt .SEQ_CTL n) (putBits (s.lastWith .SEQ_CTL 29 29 1 n) 31 31 0) (fun t =>
      (s.sq n).st = .fenced → (t.sq n).st = .stopped ∧ (t.sq n).pMem = [] ∧ (t.sq n).cMem = [] ∧ (t.sq n).dMem = []) := by
  have h29 : bitOn (putBits (s.lastWith .SEQ_CTL 29 29 1 n) 31 31 0) 29 = true := by
    rw [bitOn_putBits, State.lastWith, bitOn_putBits]; rfl
  let w := putBits (s.lastWith .SEQ_CTL 29 29 1 n) 31 31 0
  refine .of_hook (F := fun b _ _ => b.takeSeqCtl n (bitOn w 31) (bitOn w 30) (bitOn w 29)) rfl (by decide)
    (fun t q => SEQ_CTL_write t n _ _ _) fun o b q e _ hb hst => ?_
  rw [sq_behind Seq.st Seq.answered_st, sq_behind Seq.pMem fun q => q.answered_mems.1, sq_behind Seq.cMem fun q => q.answered_mems.2.1, sq_behind Seq.dMem fun q => q.answered_mems.2.2]
  rw [h29, State.takeSeqCtl_unfence b _ _ ((congrArg Seq.st (hb.sq n)).trans hst), State.unfenceSeq_sq]
  exact ⟨rfl, rfl, rfl, rfl⟩

theorem State.setClu_clu (s : State) (k : Nat) (c : Clu) : (s.setClu k c).clu k = c := Tab.get_set_same ..

theorem imageLoad_spec (s : State) (k : Fin 10) (mask : Half) :
    Writes (.imageLoad r k mask) s r (regAt .CLU_LOAD_CTL k) (2 ^ 31 + mask.toNat) (fun t =>
      (t.clu k).load = 1 ∧ (t.clu k).mask = mask.toNat) := by
  have h31 : bitOn (2 ^ 31 + mask.toNat) 31 = true := by
    have := mask.isLt
    simp only [bitOn, decide_eq_true_eq]; omega
  have hmask : bits (2 ^ 31 + mask.toNat) 15 0 = mask.toNat := by
    have := mask.isLt
    simp only [bits]; omega
  refine .of_hook (F := fun b _ _ => b.beginLoad k (bits (2 ^ 31 + mask.toNat) 15 0)) rfl (by decide)
    (fun t q => (CLU_LOAD_CTL_write t k _ _ _).trans (if_pos h31)) fun o b q e _ hb => ?_
  rw [hmask]
  simp only [State.clu, State.sample_clus, State.originDone_clus]
  show ((b.beginLoad k mask.toNat).clu k).load = 1 ∧ ((b.beginLoad k mask.toNat).clu k).mask = mask.toNat
  rw [State.beginLoad, State.setClu_clu]
  exact ⟨rfl, rfl⟩

/-- Settles O20: each write lands as its register's hook leaves it, and the answer to the requester moves nothing of it. -/
theorem programWritesComplete : Obligations.ProgramWritesComplete := by
  unfold Obligations.ProgramWritesComplete
  intro r v c j n k mask atRow unfence s
  exact ⟨spiTransaction_spec s v, channelEnable_on_spec s c, channelEnable_off_spec s c, acqGo_spec s j, acqCancel_spec s j,
    swatchGo_spec s, swatchAbort_spec s, seqRun_spec s n atRow unfence, seqStop_spec s n, unfence_spec s n, imageLoad_spec s k mask⟩

end Sys2Proof.Machine
end

section
/-! The writes that ask something of the Ethernet ports, the time service, the audio objects and the mix (R206, R207, R240, R246, R264,
R265, R274, R282). -/

namespace Sys2Proof.Machine

set_option Elab.async false

variable {r : Requester} {s b : State} {x : RegAt} {v : Nat}

theorem Landed.aud (hb : Landed s x v b) : b.aud = s.aud := by obtain ⟨_, _, _, _, _, _, rfl⟩ := hb.base; rfl

theorem Landed.tc (hb : Landed s x v b) : b.tc = s.tc := by obtain ⟨_, _, _, _, _, _, rfl⟩ := hb.base; rfl

theorem aud_behind (t : State) (e : GateEntry) : ((t.originDone e).sample 11 0 0).aud = t.aud := by
  rw [State.sample_aud, State.originDone_aud]

theorem mix_behind (t : State) (e : GateEntry) : ((t.originDone e).sample 11 0 0).mix = t.mix := by
  rw [State.sample_mix, State.originDone_mix]

theorem tsv_behind (t : State) (e : GateEntry) : ((t.originDone e).sample 11 0 0).tsv = t.tsv := by
  rw [State.sample_tsv, State.originDone_tsv]

theorem inForce_behind (t : State) (e : GateEntry) (n : RegName) (i j l : Nat) :
    ((t.originDone e).sample 11 0 0).inForce n i j l = t.inForce n i j l := by
  simp only [State.inForce, State.sample_force, State.originDone_force]

theorem lastOf_behind (t : State) (e : GateEntry) (n : RegName) (i j l : Nat) :
    ((t.originDone e).sample 11 0 0).lastOf n i j l = t.lastOf n i j l := by
  simp only [State.lastOf, State.sample_regs, State.originDone_regs]

/-! ### Row tables and the time service -/

theorem rowSwapRequest_spec (s : State) (p : Fin 8) :
    Writes (.rowSwapRequest r p) s r (regAt .ETH_ROW_CTL p) (s.lastWith .ETH_ROW_CTL 29 29 1 p) (fun t =>
      t.on .ETH_ROW_CTL 29 p = true) := by
  have h29 : bitOn (s.lastWith .ETH_ROW_CTL 29 29 1 p) 29 = true := by rw [State.lastWith, bitOn_putBits]; rfl
  let v := s.lastWith .ETH_ROW_CTL 29 29 1 p
  refine .of_hook (F := fun b _ _ => if bitOn v 31 then b else b.setEp p { b.ep p with rowRun := false }) rfl (by decide)
    (fun t q => ETH_ROW_CTL_write t p _ _ _) fun o b q e _ hb => ?_
  have hon : b.on .ETH_ROW_CTL 29 p = true := by
    show bitOn (b.forceAt ⟨.ETH_ROW_CTL, p, 0, 0, 0⟩) 29 = true
    rw [hb.forceAt (fun h => nomatch h) rfl, bitOn_putFields, if_pos (by rfl)]
    exact h29
  rw [State.on, inForce_behind]
  dsimp only
  split
  · exact hon
  · exact hon

theorem rowGateWrite_spec (s : State) (p : Fin 8) (e : Fin 256) (w : Word) :
    Writes (.rowLiveWrite r p e true w) s r (regAt .ROWA_GATE p e) w.toNat (fun t =>
      bits (t.lastOf .ROWA_GATE p e) 8 0 = bits w.toNat 8 0 ∧ t.inForce .ROWA_GATE p e = s.inForce .ROWA_GATE p e) := by
  refine .of_hook (F := fun b _ _ => b.setEp p { b.ep p with live := true }) rfl (by decide)
    (fun t q => ROWA_GATE_write t p e _ _ _) fun o b q y _ hb => ?_
  rw [lastOf_behind, inForce_behind]
  refine ⟨?_, congrArg (fun f => Tab.get f (RegName.ROWA_GATE.addr p e) _) hb.force⟩
  show bits (b.lastAt ⟨.ROWA_GATE, p, e, 0, 0⟩) 8 0 = _
  rw [hb.lastAt fun h => nomatch h]
  refine bits_putFields _ _ _ _ _ _ fun i _ hi => ?_
  rcases Nat.lt_or_ge i 8 with h | h
  · exact List.any_eq_true.mpr ⟨_, .tail _ (.head _), decide_eq_true ⟨Nat.zero_le i, Nat.le_of_lt_succ h⟩⟩
  · obtain rfl : i = 8 := by omega
    rfl

theorem rowOfsWrite_spec (s : State) (p : Fin 8) (e : Fin 256) (w : Word) :
    Writes (.rowLiveWrite r p e false w) s r (regAt .ROWA_OFS p e) w.toNat (fun t =>
      bits (t.lastOf .ROWA_OFS p e) 29 0 = bits w.toNat 29 0 ∧ t.inForce .ROWA_OFS p e = s.inForce .ROWA_OFS p e) := by
  refine .of_hook (F := fun b _ _ => b.setEp p { b.ep p with live := true }) rfl (by decide)
    (fun t q => ROWA_OFS_write t p e _ _ _) fun o b q y _ hb => ?_
  rw [lastOf_behind, inForce_behind]
  refine ⟨?_, congrArg (fun f => Tab.get f (RegName.ROWA_OFS.addr p e) _) hb.force⟩
  show bits (b.lastAt ⟨.ROWA_OFS, p, e, 0, 0⟩) 29 0 = _
  rw [hb.lastAt fun h => nomatch h]
  exact bits_putFields _ _ _ _ _ _ fun i _ hi => List.any_eq_true.mpr ⟨_, .head _, decide_eq_true ⟨Nat.zero_le i, hi⟩⟩

theorem ntsRotAtWrite_spec (s : State) (v : DWord) :
    Writes (.ntsRotAtWrite r v) s r (regAt .TSV_NTS_ROT_AT) v.toNat (fun t => t.tsv.rot = some v.toNat) := by
  refine .of_hook (F := fun b _ _ => { b with tsv := { b.tsv with rot := some v.toNat } }) rfl (by decide)
    (fun t q => TSV_NTS_ROT_AT_write t _ _ _) fun o b q e _ _ => ?_
  rw [tsv_behind]

theorem ntsRetire_spec (s : State) :
    Writes (.ntsRetire r) s r (regAt .TSV_NTS_KEY) (s.lastWith .TSV_NTS_KEY 31 31 1) (fun t => t.tsv.prev = none) := by
  have h31 : bitOn (s.lastWith .TSV_NTS_KEY 31 31 1) 31 = true := by rw [State.lastWith, bitOn_putBits]; rfl
  refine .of_hook (F := fun b _ _ => { b with tsv := { b.tsv with prev := none } }) rfl (by decide)
    (fun t q => (TSV_NTS_KEY_write t _ _ _).trans (if_pos h31)) fun o b q e _ _ => ?_
  rw [tsv_behind]

/-! ### Streams, ports and the trigger -/

theorem fell_bit {was now i : Nat} (hw : bitOn was i = true) (hn : bitOn now i = false) : fell was now i = true := by rw [fell, hw, hn]; rfl

theorem rose_bit {was now i : Nat} (hw : bitOn was i = false) (hn : bitOn now i = true) : rose was now i = true := by rw [rose, hw, hn]; rfl

theorem not_rose_bit {was now i : Nat} (hn : bitOn now i = false) : rose was now i = false := by rw [rose, hn, Bool.and_false]

theorem audStop_spec (s : State) : Writes (.audStop r) s r (regAt .AUD_CTL) (s.lastWith .AUD_CTL 31 31 0) (fun t =>
    s.on .AUD_CTL 31 = true → t.aud.waits = [] ∧ t.aud.starts = [] ∧ t.aud.rowMsgs = [] ∧ t.aud.stripRow = none) := by
  have h31 : bitOn (s.lastWith .AUD_CTL 31 31 0) 31 = false := by rw [State.lastWith, bitOn_putBits]; rfl
  refine .of_hook (F := fun b o _ => b.hookAud o ⟨.AUD_CTL, 0, 0, 0, 0⟩ (s.lastWith .AUD_CTL 31 31 0)) rfl (by decide)
    (fun t q => AUD_CTL_write t _ _ _) fun o b q e ho hb hon => ?_
  have hfell : fell (o.inForce .AUD_CTL) (s.lastWith .AUD_CTL 31 31 0) 31 = true := fell_bit (by rw [ho.inForce]; exact hon) h31
  have hstop : b.hookAud o ⟨.AUD_CTL, 0, 0, 0, 0⟩ (s.lastWith .AUD_CTL 31 31 0) = b.audStopAll :=
    (if_neg (by rw [not_rose_bit h31]; exact Bool.false_ne_true)).trans (if_pos hfell)
  rw [aud_behind, hstop]
  exact ⟨rfl, rfl, rfl, rfl⟩

theorem State.objCfgWritten_rose (s : State) (o : AudObj) {was now : Nat} (ha : s.audOn = true) (hw : bitOn was 31 = false)
    (hn : bitOn now 31 = true) : s.objCfgWritten o was now = s.startObj o := by
  rw [State.objCfgWritten, if_neg (not_not_intro ha), if_pos (rose_bit hw hn)]

theorem State.objCfgWritten_fell (s : State) (o : AudObj) {was now : Nat} (ha : s.audOn = true) (hw : bitOn was 31 = true)
    (hn : bitOn now 31 = false) : s.objCfgWritten o was now = s.stopObj o := by
  rw [State.objCfgWritten, if_neg (not_not_intro ha), if_neg (by rw [not_rose_bit hn]; exact Bool.false_ne_true),
    if_pos (fell_bit hw hn)]

theorem Landed.audOn (hb : Landed s x v b) (h : RegName.AUD_CTL.addr ≠ x.first) : b.audOn = s.audOn := by
  have hf := hb.inForce h
  obtain ⟨_, _, _, _, _, _, rfl⟩ := hb.base
  rw [State.audOn, State.on, hf]
  rfl

/-! What an object's start and stop leave of its state. -/

theorem State.setRxs_rxs (s : State) (i : Nat) (y : Rxs) : (s.setRxs i y).rxs i = y := Tab.get_set_same ..
theorem State.setTxs_txs (s : State) (i : Nat) (y : Txs) : (s.setTxs i y).txs i = y := Tab.get_set_same ..
theorem State.setAesi_aesi (s : State) (i : Nat) (y : AesIn) : (s.setAesi i y).aesi i = y := Tab.get_set_same ..
theorem State.setAeso_aeso (s : State) (i : Nat) (y : AesOut) : (s.setAeso i y).aeso i = y := Tab.get_set_same ..

theorem State.setObjSt_objSt (s : State) (o : AudObj) (n : Nat) : (s.setObjSt o n).objSt o = n := by
  cases o with
  | rxs i => exact congrArg Rxs.st (s.setRxs_rxs ..)
  | txs i => exact congrArg Txs.st (s.setTxs_txs ..)
  | aesi i => exact congrArg AesIn.st (s.setAesi_aesi ..)
  | aeso i => exact congrArg AesOut.st (s.setAeso_aeso ..)

/-- The waits of an object leave the state of every object. -/
theorem State.waitAll_objSt (s : State) (o p : AudObj) (on : Bool) (k : Nat) : (s.waitAll o on k).objSt p = s.objSt p := by
  refine List.foldlRecOn (motive := fun t : State => t.objSt p = s.objSt p) _ _ rfl fun t ht ch _ => ht ▸ ?_
  cases p <;> rfl

theorem State.startPending_objSt (s : State) (o p : AudObj) : (s.startPending o).objSt p = s.objSt p := by
  cases p <;> rfl

/-- An output that starts is in its state for a start, whatever its content waits for. -/
theorem State.startOut_txs (s : State) (i : Fin 512) (k : Int) : ((s.startOut (.txs i) k true).txs i).st = 2 := by
  show (State.startPending (State.waitAll _ _ true _) (.txs i)).objSt (.txs i) = 2
  rw [State.startPending_objSt, State.waitAll_objSt]
  exact congrArg Txs.st (s.setTxs_txs ..)

theorem State.startOut_aeso (s : State) (i : Fin 16) (k : Int) : ((s.startOut (.aeso i) k true).aeso i).st = 3 := by
  show (State.startPending (State.waitAll _ _ true _) (.aeso i)).objSt (.aeso i) = 3
  rw [State.startPending_objSt, State.waitAll_objSt]
  exact congrArg AesOut.st (s.setAeso_aeso ..)

theorem State.startObj_rxs (s : State) (i : Fin 512) : ((s.startObj (.rxs i)).rxs i).st = 1 := by
  show (State.startPending _ (.rxs i)).objSt (.rxs i) = 1
  rw [State.startPending_objSt]
  exact congrArg Rxs.st (s.setRxs_rxs ..)

theorem State.startObj_aesi (s : State) (i : Fin 16) : ((s.startObj (.aesi i)).aesi i).st = 1 := by
  show (State.startPending _ (.aesi i)).objSt (.aesi i) = 1
  rw [State.startPending_objSt]
  exact congrArg AesIn.st (s.setAesi_aesi ..)

theorem State.startObj_txs (s : State) (i : Fin 512) : ((s.startObj (.txs i)).txs i).st = 1 ∨ ((s.startObj (.txs i)).txs i).st = 2 := by
  unfold State.startObj
  dsimp only
  split
  · exact .inl (congrArg Txs.st (s.setTxs_txs ..))
  · exact .inr (s.startOut_txs i _)

theorem State.startObj_aeso (s : State) (i : Fin 16) :
    ((s.startObj (.aeso i)).aeso i).st = 3 ∨ ((s.startObj (.aeso i)).aeso i).st = 5 := by
  unfold State.startObj
  dsimp only
  split
  · exact .inr (congrArg AesOut.st (s.setAeso_aeso ..))
  · exact .inl (s.startOut_aeso i _)

/-- An object that is not off begins to stop. -/
theorem State.stopObj_objSt (s : State) (o : AudObj) (h : s.objSt o ≠ 0) : (s.stopObj o).objSt o = stopping o := by
  rw [State.stopObj, if_neg h, State.waitAll_objSt, State.setObjSt_objSt]

theorem rxsObj_val (i : Fin 512) : rxsObj i = .rxs i := congrArg AudObj.rxs (Fin.ext (Nat.mod_eq_of_lt i.isLt))
theorem txsObj_val (i : Fin 512) : txsObj i = .txs i := congrArg AudObj.txs (Fin.ext (Nat.mod_eq_of_lt i.isLt))
theorem aesiObj_val (i : Fin 16) : aesiObj i = .aesi i := congrArg AudObj.aesi (Fin.ext (Nat.mod_eq_of_lt i.isLt))
theorem aesoObj_val (i : Fin 16) : aesoObj i = .aeso i := congrArg AudObj.aeso (Fin.ext (Nat.mod_eq_of_lt i.isLt))

theorem written_obj {o p : AudObj} {t u : State} {was now : Nat} (ho : o = p) (h : t = u.objCfgWritten o was now) :
    t = u.objCfgWritten p was now := ho ▸ h

/-- The enable bit of an object's register, as the two commands write it. -/
theorem bit_of_enable (s : State) (n : RegName) (i : Nat) :
    bitOn (s.lastWith n 31 31 1 i) 31 = true ∧ bitOn (s.lastWith n 31 31 0 i) 31 = false := by
  constructor <;> rw [State.lastWith, bitOn_putBits] <;> rfl

/-- Setting the enable bit of an object that has none in force starts the object. -/
theorem writes_objStart {i : Instr} {n : RegName} {a : Nat} {obj : AudObj} {P : State → Prop}
    (hi : exec i s = .next (s.submit r n (s.lastWith n 31 31 1 a) a)) (hn : n ≠ .SEL_HOSTSET)
    (hF : ∀ (t : State) q, t.doWrite ⟨n, a, 0, 0, 0⟩ (s.lastWith n 31 31 1 a) q =
      ((t.putReg ⟨n, a, 0, 0, 0⟩ (s.lastWith n 31 31 1 a)).clear1 ⟨n, a, 0, 0, 0⟩ (s.lastWith n 31 31 1 a)).objCfgWritten obj
        (t.inForce n a) (s.lastWith n 31 31 1 a))
    (hx : RegName.AUD_CTL.addr ≠ n.addr a) (hP : ∀ (b : State) e, P (((b.startObj obj).originDone e).sample 11 0 0)) :
    Writes i s r (regAt n a) (s.lastWith n 31 31 1 a) (fun t => s.audOn = true → s.on n 31 a = false → P t) := by
  refine .of_hook (F := fun b o _ => b.objCfgWritten obj (o.inForce n a) (s.lastWith n 31 31 1 a)) hi hn hF
    fun o b q e ho hb ha hoff => ?_
  rw [State.objCfgWritten_rose b obj ((hb.audOn hx).trans ha) (by rw [ho.inForce]; exact hoff) (bit_of_enable s n a).1]
  exact hP b e

/-- Clearing the enable bit of an object that is not off begins its stop. -/
theorem writes_objStop {i : Instr} {n : RegName} {a : Nat} {obj : AudObj} {P : State → Prop}
    (hi : exec i s = .next (s.submit r n (s.lastWith n 31 31 0 a) a)) (hn : n ≠ .SEL_HOSTSET)
    (hF : ∀ (t : State) q, t.doWrite ⟨n, a, 0, 0, 0⟩ (s.lastWith n 31 31 0 a) q =
      ((t.putReg ⟨n, a, 0, 0, 0⟩ (s.lastWith n 31 31 0 a)).clear1 ⟨n, a, 0, 0, 0⟩ (s.lastWith n 31 31 0 a)).objCfgWritten obj
        (t.inForce n a) (s.lastWith n 31 31 0 a))
    (hx : RegName.AUD_CTL.addr ≠ n.addr a)
    (hP : ∀ t e, t.objSt obj = stopping obj → P ((State.originDone t e).sample 11 0 0)) :
    Writes i s r (regAt n a) (s.lastWith n 31 31 0 a) (fun t => s.audOn = true → s.on n 31 a = true → s.objSt obj ≠ 0 → P t) := by
  refine .of_hook (F := fun b o _ => b.objCfgWritten obj (o.inForce n a) (s.lastWith n 31 31 0 a)) hi hn hF
    fun o b q e ho hb ha hon hst => ?_
  rw [State.objCfgWritten_fell b obj ((hb.audOn hx).trans ha) (by rw [ho.inForce]; exact hon) (bit_of_enable s n a).2]
  refine hP _ e (b.stopObj_objSt obj ?_)
  rwa [show b.objSt obj = s.objSt obj by cases obj <;> simp only [State.objSt, State.rxs, State.txs, State.aesi, State.aeso, hb.aud]]

theorem streamEnable_rxs_spec (s : State) (i : Fin 512) :
    Writes (.streamEnable r (.rxs i)) s r (regAt .RXS_CFG i) (s.lastWith .RXS_CFG 31 31 1 i) (fun t =>
      s.audOn = true → s.on .RXS_CFG 31 i = false → (t.rxs i).st = 1) := by
  refine writes_objStart rfl (by decide) (fun t q => written_obj (rxsObj_val i) (RXS_CFG_write t i _ _ _)) ?_ fun b e => ?_
  · show 14680064 ≠ 14745600 + i.val * 64
    omega
  · rw [State.rxs, aud_behind]
    exact b.startObj_rxs i

theorem streamEnable_txs_spec (s : State) (i : Fin 512) :
    Writes (.streamEnable r (.txs i)) s r (regAt .TXS_CFG i) (s.lastWith .TXS_CFG 31 31 1 i) (fun t =>
      s.audOn = true → s.on .TXS_CFG 31 i = false → (t.txs i).st = 1 ∨ (t.txs i).st = 2) := by
  refine writes_objStart rfl (by decide) (fun t q => written_obj (txsObj_val i) (TXS_CFG_write t i _ _ _)) ?_ fun b e => ?_
  · show 14680064 ≠ 14811136 + i.val * 64
    omega
  · rw [State.txs, aud_behind]
    exact b.startObj_txs i

theorem streamEnable_aesi_spec (s : State) (i : Fin 16) :
    Writes (.streamEnable r (.aesi i)) s r (regAt .AESI_CFG i) (s.lastWith .AESI_CFG 31 31 1 i) (fun t =>
      s.audOn = true → s.on .AESI_CFG 31 i = false → (t.aesi i).st = 1) := by
  refine writes_objStart rfl (by decide) (fun t q => written_obj (aesiObj_val i) (AESI_CFG_write t i _ _ _)) ?_ fun b e => ?_
  · show 14680064 ≠ 14876672 + i.val * 256
    omega
  · rw [State.aesi, aud_behind]
    exact b.startObj_aesi i

theorem streamEnable_aeso_spec (s : State) (i : Fin 16) :
    Writes (.streamEnable r (.aeso i)) s r (regAt .AESO_CFG i) (s.lastWith .AESO_CFG 31 31 1 i) (fun t =>
      s.audOn = true → s.on .AESO_CFG 31 i = false → (t.aeso i).st = 3 ∨ (t.aeso i).st = 5) := by
  refine writes_objStart rfl (by decide) (fun t q => written_obj (aesoObj_val i) (AESO_CFG_write t i _ _ _)) ?_ fun b e => ?_
  · show 14680064 ≠ 14942208 + i.val * 256
    omega
  · rw [State.aeso, aud_behind]
    exact b.startObj_aeso i

theorem streamDisable_rxs_spec (s : State) (i : Fin 512) :
    Writes (.streamDisable r (.rxs i)) s r (regAt .RXS_CFG i) (s.lastWith .RXS_CFG 31 31 0 i) (fun t =>
      s.audOn = true → s.on .RXS_CFG 31 i = true → (s.rxs i).st ≠ 0 → (t.rxs i).st = 3) := by
  refine writes_objStop (obj := .rxs i) rfl (by decide) (fun t q => written_obj (rxsObj_val i) (RXS_CFG_write t i _ _ _)) ?_ fun b e h => ?_
  · show 14680064 ≠ 14745600 + i.val * 64
    omega
  · rw [State.rxs, aud_behind]
    exact h

theorem streamDisable_aeso_spec (s : State) (i : Fin 16) :
    Writes (.streamDisable r (.aeso i)) s r (regAt .AESO_CFG i) (s.lastWith .AESO_CFG 31 31 0 i) (fun t =>
      s.audOn = true → s.on .AESO_CFG 31 i = true → (s.aeso i).st ≠ 0 → (t.aeso i).st = 4) := by
  refine writes_objStop (obj := .aeso i) rfl (by decide) (fun t q => written_obj (aesoObj_val i) (AESO_CFG_write t i _ _ _)) ?_ fun b e h => ?_
  · show 14680064 ≠ 14942208 + i.val * 256
    omega
  · rw [State.aeso, aud_behind]
    exact h

theorem State.armTrig_trigAt (s : State) {k : Nat} (h : s.tc + 125000 * 2 ^ 40 ≤ (k : Int) * 2 ^ 40) : (s.armTrig k).aud.trigAt = k := by
  rw [State.armTrig, if_pos h]
  rfl

theorem triggerArm_spec (s : State) (v : DWord) :
    Writes (.triggerArm r v) s r (regAt .AUD_TRIG_AT) v.toNat (fun t =>
      s.tc + 125000 * 2 ^ 40 ≤ (v.toNat : Int) * 2 ^ 40 → t.aud.trigAt = v.toNat) := by
  refine .of_hook (F := fun b _ _ => b.armTrig v.toNat) rfl (by decide) (fun t q => AUD_TRIG_AT_write t _ _ _) fun o b q e _ hb h => ?_
  rw [aud_behind]
  exact b.armTrig_trigAt (hb.tc ▸ h)

/-! ### Mix -/

theorem State.nodeWritten_waits (s : State) (n v : Nat) : (n, v) ∈ (s.nodeWritten n v).mix.waits := by
  show (n, v) ∈ if s.mix.waits.any fun x => x.1 == n then s.mix.waits.map fun x => if x.1 == n then (n, v) else x
    else s.mix.waits ++ [(n, v)]
  split
  next h =>
    obtain ⟨y, hy, hyn⟩ := List.any_eq_true.mp h
    exact List.mem_map.mpr ⟨y, hy, if_pos hyn⟩
  next => exact List.mem_append_right _ (List.mem_singleton_self _)

theorem nodeWrite_spec (s : State) (node : Fin 1048576) (w : Word) :
    Writes (.nodeWrite r node w) s r (regAt .MIX_NODE (node.val / 1024) (node.val % 1024)) w.toNat (fun t =>
      (node.val, w.toNat) ∈ t.mix.waits) := by
  have hi : node.val / 1024 < 1024 := by omega
  have hj : node.val % 1024 < 1024 := by omega
  refine .of_hook (F := fun b _ _ => b.nodeWritten (1024 * (node.val / 1024) + node.val % 1024) w.toNat) rfl (by decide)
    (fun t q => MIX_NODE_write t ⟨_, hi⟩ ⟨_, hj⟩ _ _ _) fun o b q e _ _ => ?_
  rw [mix_behind, Nat.div_add_mod]
  exact b.nodeWritten_waits ..

theorem State.bqWritten_bqs (s : State) (a : Nat) : a ∈ (s.bqWritten a).mix.bqs := by
  show a ∈ if a ∈ s.mix.bqs then s.mix.bqs else s.mix.bqs ++ [a]
  split
  next h => exact h
  next => exact List.mem_append_right _ (List.mem_singleton_self _)

theorem biquadCommit_input_spec (s : State) (c : Fin 1024) (k : Fin 4) (w : Word) :
    Writes (.biquadCommit r c (.input k) w) s r (regAt .MIX_IBQ c k 4) w.toNat (fun t => RegName.MIX_IBQ.addr c k ∈ t.mix.bqs) := by
  refine .of_hook (F := fun b _ _ => b.bqWritten (RegName.MIX_IBQ.addr c k)) rfl (by decide)
    (fun t q => MIX_IBQ_write t c k 4 _ _ _) fun o b q e _ _ => ?_
  rw [mix_behind]
  exact b.bqWritten_bqs _

theorem biquadCommit_output_spec (s : State) (c : Fin 1024) (k : Fin 8) (w : Word) :
    Writes (.biquadCommit r c (.output k) w) s r (regAt .MIX_OBQ c k 4) w.toNat (fun t => RegName.MIX_OBQ.addr c k ∈ t.mix.bqs) := by
  refine .of_hook (F := fun b _ _ => b.bqWritten (RegName.MIX_OBQ.addr c k)) rfl (by decide)
    (fun t q => MIX_OBQ_write t c k 4 _ _ _) fun o b q e _ _ => ?_
  rw [mix_behind]
  exact b.bqWritten_bqs _

/-- Settles O21: each write lands as its register's hook leaves it. -/
theorem networkAndAudioWritesComplete : Obligations.NetworkAndAudioWritesComplete := by
  unfold Obligations.NetworkAndAudioWritesComplete
  intro r v w p e i q node ci bi co bo s
  exact ⟨rowSwapRequest_spec s p, rowGateWrite_spec s p e w, rowOfsWrite_spec s p e w, ntsRotAtWrite_spec s v, ntsRetire_spec s,
    audStop_spec s, streamEnable_rxs_spec s i, streamEnable_txs_spec s i, streamEnable_aesi_spec s q, streamEnable_aeso_spec s q,
    streamDisable_rxs_spec s i, streamDisable_aeso_spec s q, triggerArm_spec s v, nodeWrite_spec s node w,
    biquadCommit_input_spec s ci bi w, biquadCommit_output_spec s co bo w⟩

end Sys2Proof.Machine
end

section
/-! The key operations, the fuse commands and the acknowledgement (R291 to R293, R298, R300, R312). -/

namespace Sys2Proof.Machine

set_option Elab.async false

variable {r : Requester} {s b : State} {x : RegAt} {v : Nat}

/-! ### What the gate has judged -/

theorem Code.orElse_none {a c : Code} (h : a.orElse c = .none) : a = .none ∧ c = .none := by
  unfold Code.orElse at h
  split at h
  next ha => exact ⟨ha, h⟩
  next ha => exact absurd h ha

/-- A write that the gate takes meets its register's own conditions in the state it arrives in. -/
theorem Admits.special (h : Admits s r x v) : ∃ p l, ({ s with pmc := p, log := l } : State).judgeSpecial x v = .none := by
  obtain ⟨-, -, -, -, -, -, -, -, hl, hj, -⟩ := h
  obtain ⟨p, hp⟩ := s.counted_only r
  have hf := (Code.orElse_none hj).2
  rw [hl] at hf
  dsimp only [State.judgeFields] at hf
  split at hf
  · cases hf
  · split at hf
    · cases hf
    · rw [hp] at hf
      exact ⟨_, _, hf⟩

/-! ### Keys -/

theorem Landed.key (hb : Landed s x v b) : b.key = s.key := by obtain ⟨_, _, _, _, _, _, rfl⟩ := hb.base; rfl

theorem key_behind (t : State) (e : GateEntry) : ((t.originDone e).sample 11 0 0).key = t.key := by
  rw [State.sample_key, State.originDone_key]

theorem kslot_behind (t : State) (e : GateEntry) (n : Nat) : ((t.originDone e).sample 11 0 0).kslot n = t.kslot n := by
  simp only [State.kslot, key_behind]

/-- KEY_OP names its operation, its parent and its slot. -/
theorem keyOp_bits {op p n : Nat} (h : op < 8) (hp : p < 64) (hn : n < 64) :
    bits (keyOpWord op p n) 26 24 = op ∧ bits (keyOpWord op p n) 21 16 = p ∧ bits (keyOpWord op p n) 13 8 = n ∧
    bitOn (keyOpWord op p n) 31 = true := by
  simp only [keyOpWord, bits, bitOn]
  exact ⟨by omega, by omega, by omega, decide_eq_true (by omega)⟩

theorem judgeParent_valid {p k : Nat} (h : s.judgeParent p k = .none) : s.kst p = 1 := by
  unfold State.judgeParent at h
  split at h
  · cases h
  · split at h
    · cases h
    · omega

/-- A VALID slot passes the check of its tag (R290). -/
theorem checkSlot_valid {n : Nat} (h : s.kst n = 1) : s.checkSlot n = s := by
  unfold State.checkSlot
  rw [if_neg]
  rintro ⟨hc, hbad⟩
  simp only [State.kst, State.slotState, hc, if_false] at h
  rcases hbad with hbad | ⟨hinv, htag⟩
  · simp [hbad] at h
  · by_cases hcor : (s.kslot n).corrupt = true
    · simp [hcor] at h
    · simp [hcor, hinv, htag] at h

/-- A new key stands in its slot: the bank that R292 names holds it, the commit word is the next one, and nothing stays staged. -/
def State.Keyed (s : State) (slot attr : Nat) (key : List Byte) (t : State) : Prop :=
  let w := s.newCommit 1 slot
  let bank := bits w 24 24
  (t.kslot slot).commit = commitWord w ∧ (t.kslot slot).bad = false ∧
    (if bank = 1 then (t.kslot slot).b1 else (t.kslot slot).b0) =
      ⟨key, attr, (Config.keyTag slot bank (bits w 23 0) attr key).toNat⟩ ∧
    t.key.attr = 0 ∧ t.key.ctx = 0 ∧ t.key.data = []

theorem State.setKslot_kslot (s : State) (n : Nat) (k : KeySlot) : (s.setKslot n k).kslot n = k := Tab.get_set_same ..

theorem State.commitKey_kslot (s : State) (slot attr : Nat) (key : List Byte) : (s.commitKey slot attr key).kslot slot =
    { (if bits (s.newCommit 1 slot) 24 24 = 1
        then { s.kslot slot with b1 := ⟨key, attr, (Config.keyTag slot (bits (s.newCommit 1 slot) 24 24)
          (bits (s.newCommit 1 slot) 23 0) attr key).toNat⟩ }
        else { s.kslot slot with b0 := ⟨key, attr, (Config.keyTag slot (bits (s.newCommit 1 slot) 24 24)
          (bits (s.newCommit 1 slot) 23 0) attr key).toNat⟩ } : KeySlot) with
      commit := commitWord (s.newCommit 1 slot), bad := false } :=
  State.setKslot_kslot ..

/-- A slot that took its key, whatever the commit word `c` and the bank. -/
theorem keySlot_took (k : KeySlot) (y : KeyBank) (c bank : Nat) :
    let t : KeySlot := { (if bank = 1 then { k with b1 := y } else { k with b0 := y } : KeySlot) with commit := c, bad := false }
    t.commit = c ∧ t.bad = false ∧ (if bank = 1 then t.b1 else t.b0) = y := by
  dsimp only
  split <;> exact ⟨rfl, rfl, rfl⟩

/-- The state behind a key operation, from what its slot holds. -/
theorem State.Keyed.of_kslot {slot attr : Nat} {key : List Byte} {t : State}
    (h : t.kslot slot = (s.commitKey slot attr key).kslot slot) (hk : t.key.attr = 0 ∧ t.key.ctx = 0 ∧ t.key.data = []) :
    s.Keyed slot attr key t := by
  have := keySlot_took (s.kslot slot) ⟨key, attr, (Config.keyTag slot (bits (s.newCommit 1 slot) 24 24)
    (bits (s.newCommit 1 slot) 23 0) attr key).toNat⟩ (commitWord (s.newCommit 1 slot)) (bits (s.newCommit 1 slot) 24 24)
  rw [← State.commitKey_kslot, ← h] at this
  obtain ⟨h1, h2, h3⟩ := this
  exact ⟨h1, h2, h3, hk⟩

/-! What a key operation reads of the state is in the key block. -/

theorem newCommit_of_key (h : b.key = s.key) (op n : Nat) : b.newCommit op n = s.newCommit op n := by
  have hk : b.kslot n = s.kslot n := by simp only [State.kslot, h]
  unfold State.newCommit
  rw [hk]

theorem rootAttr_of_key (h : b.key = s.key) : b.rootAttr = s.rootAttr := by
  simp only [State.rootAttr, State.opUse, State.opType, h]

theorem childAttr_of_key (h : b.key = s.key) (p : Nat) : b.childAttr p = s.childAttr p := by
  have hk : b.kslot p = s.kslot p := by simp only [State.kslot, h]
  unfold State.childAttr
  rw [hk, rootAttr_of_key h]

theorem keyed_of_key (h : b.key = s.key) {n attr : Nat} {key : List Byte} {t : State} (ht : b.Keyed n attr key t) : s.Keyed n attr key t := by
  unfold State.Keyed at ht ⊢
  rwa [newCommit_of_key h] at ht

theorem State.fault_key (s : State) (k u : Nat) : (s.fault k u).key = s.key := by
  obtain ⟨_, _, _, _, _, _, _, _, _, _, _, _, _, _, _, _, _, _, _, _, _, _, _, h⟩ := (Reacts.fault (μ := False) (src := k) (unit := u) (.refl (s₀ := s))).keeps
  rw [h]

/-- A key operation that the gate takes: the tag of what it reads is checked, and it is done. -/
theorem writes_keyOp {i : Instr} {P : State → Prop} (hi : exec i s = .next (s.submit r .KEY_OP v)) (hgo : bitOn v 31 = true)
    (hP : ∀ b : State, b.key = s.key → s.judgeKey v = .none →
      ∀ t : State, t.key = ((b.checkRead v).doneKey v).key → P t) : Writes i s r (regAt .KEY_OP) v P := by
  intro h
  have hj : s.judgeKey v = .none := by
    obtain ⟨p, l, hj⟩ := h.special
    simp only [State.judgeSpecial, State.judgeCtl, regAt, hgo, if_true] at hj
    exact hj
  refine (Writes.of_hook (F := fun b _ _ => (b.checkRead v).doneKey v) (P := P) hi (by decide)
    (fun t q => (KEY_OP_write t _ _ _).trans (if_pos hgo)) fun o b q e _ hb => ?_) h
  exact hP b hb.key hj _ (key_behind _ e)

/-- An operation that runs as the commit of a new key leaves the slot with that key. -/
theorem doneKey_keyed {n attr : Nat} {key : List Byte} {c t : State}
    (hrun : s.runKeyOp v = c.commitKey n attr key) (ht : t.key = (s.doneKey v).key) : c.Keyed n attr key t := by
  have hk : t.key = (c.commitKey n attr key).clearStaged.key := by rw [ht, ← hrun]; rfl
  refine .of_kslot ?_ ⟨?_, ?_, ?_⟩
  · simp only [State.kslot, hk]; rfl
  all_goals rw [hk]; rfl

theorem checkRead_id {op : Nat} (hop : bits v 26 24 = op) (h : op ≠ 3 ∧ op ≠ 4) : s.checkRead v = s := by
  rw [State.checkRead, if_neg (by omega)]

/-- The parent that the judgement has found VALID is read without effect. -/
theorem checkRead_valid (h : s.kst (bits v 21 16) = 1) : s.checkRead v = s := by
  rw [State.checkRead]
  split
  · exact checkSlot_valid h
  · rfl

theorem kst_of_key (h : b.key = s.key) (n : Nat) : b.kst n = s.kst n := by
  have hs : ∀ f n, b.slotState f n = s.slotState f n := by
    intro f
    induction f with
    | zero => exact fun _ => rfl
    | succ f ih =>
      intro n
      have hk : ∀ m, b.kslot m = s.kslot m := fun m => by simp only [State.kslot, h]
      unfold State.slotState
      simp only [hk, ih]
  rw [State.kst, hs, State.kst]

/-! What each operation runs as. -/

theorem runKeyOp_generate (hop : bits v 26 24 = 1) : s.runKeyOp v =
    (s.draw 256).2.commitKey (bits v 13 8) s.rootAttr (fitKey s.opType (bytesLE 32 (s.draw 256).1)) := by
  simp only [State.runKeyOp, hop]

theorem runKeyOp_import (hop : bits v 26 24 = 2) :
    s.runKeyOp v = s.commitKey (bits v 13 8) s.rootAttr (fitKey s.opType (s.keyData 8)) := by
  simp only [State.runKeyOp, hop]

theorem runKeyOp_unwrap {k : List Byte} (hop : bits v 26 24 = 3)
    (hk : Config.unwrap (s.kslot (bits v 21 16)).cur.key (s.keyData 10) = some k) :
    s.runKeyOp v = s.commitKey (bits v 13 8) s.rootAttr (fitKey s.opType k) := by
  simp only [State.runKeyOp, hop, hk]

theorem runKeyOp_derive (hop : bits v 26 24 = 4) : s.runKeyOp v =
    s.commitKey (bits v 13 8) (s.childAttr (bits v 21 16)) (fitKey s.opType (hmac (s.kslot (bits v 21 16)).cur.key
      (deriveInput (bits v 13 8) (s.childAttr (bits v 21 16)) s.key.ctx))) := by
  simp only [State.runKeyOp, hop]

theorem runKeyOp_invalidate (hop : bits v 26 24 = 5) : s.runKeyOp v = (s.clearLanes (bits v 13 8)).setKslot (bits v 13 8)
    ⟨KeyBank.zero, KeyBank.zero, commitWord (s.newCommit 5 (bits v 13 8)), false⟩ := by
  simp only [State.runKeyOp, hop]

theorem runKeyOp_zeroize (hop : bits v 26 24 = 6) : s.runKeyOp v = s.zeroize 4 := by
  simp only [State.runKeyOp, hop]

/-- The judgement of an operation that reads a parent finds it VALID. -/
theorem judgeKey_parent {op : Nat} (hop : bits v 26 24 = op) (h : op = 3 ∨ op = 4) (hj : s.judgeKey v = .none) :
    s.kst (bits v 21 16) = 1 := by
  have hpar {k : Nat} {c : Code} (h : (match s.judgeParent (bits v 21 16) k with | .none => c | d => d) = .none) :
      s.kst (bits v 21 16) = 1 := by
    split at h
    next hp => exact judgeParent_valid hp
    next hp => exact absurd h hp
  unfold State.judgeKey at hj
  rw [hop] at hj
  dsimp only at hj
  split at hj
  · cases hj
  rw [if_neg (by omega), if_neg (by omega)] at hj
  split at hj
  · cases hj
  rcases h with rfl | rfl
  · exact hpar hj
  · exact hpar hj

theorem opType_of_key (h : b.key = s.key) : b.opType = s.opType := by simp only [State.opType, h]

theorem keyData_of_key (h : b.key = s.key) (n : Nat) : b.keyData n = s.keyData n := by simp only [State.keyData, h]

theorem kslot_of_key (h : b.key = s.key) (n : Nat) : b.kslot n = s.kslot n := by simp only [State.kslot, h]

theorem keyGenerate_spec (s : State) (n : Fin 64) :
    Writes (.keyGenerate r n) s r (regAt .KEY_OP) (keyOpWord 1 0 n) (fun t =>
      ∃ y, s.Keyed n s.rootAttr (fitKey s.opType (bytesLE 32 y)) t) := by
  obtain ⟨hop, -, hslot, hgo⟩ := keyOp_bits (op := 1) (p := 0) (by omega) (by omega) n.isLt
  refine writes_keyOp rfl hgo fun b hb _ t ht => ?_
  rw [checkRead_id hop (by omega)] at ht
  have hkey := doneKey_keyed (runKeyOp_generate hop) ht
  rw [hslot, rootAttr_of_key hb, opType_of_key hb] at hkey
  exact ⟨_, keyed_of_key (b := (b.draw 256).2) hb hkey⟩

theorem keyImport_spec (s : State) (n : Fin 64) :
    Writes (.keyImport r n) s r (regAt .KEY_OP) (keyOpWord 2 0 n) (s.Keyed n s.rootAttr (fitKey s.opType (s.keyData 8))) := by
  obtain ⟨hop, -, hslot, hgo⟩ := keyOp_bits (op := 2) (p := 0) (by omega) (by omega) n.isLt
  refine writes_keyOp rfl hgo fun b hb _ t ht => ?_
  rw [checkRead_id hop (by omega)] at ht
  have hkey := doneKey_keyed (runKeyOp_import hop) ht
  rw [hslot, rootAttr_of_key hb, opType_of_key hb, keyData_of_key hb] at hkey
  exact keyed_of_key hb hkey

theorem keyUnwrap_spec (s : State) (p n : Fin 64) {k : List Byte} (hk : Config.unwrap (s.kslot p).cur.key (s.keyData 10) = some k) :
    Writes (.keyUnwrap r p n) s r (regAt .KEY_OP) (keyOpWord 3 p n) (s.Keyed n s.rootAttr (fitKey s.opType k)) := by
  obtain ⟨hop, hpar, hslot, hgo⟩ := keyOp_bits (op := 3) (by omega) p.isLt n.isLt
  refine writes_keyOp rfl hgo fun b hb hj t ht => ?_
  rw [checkRead_valid ((kst_of_key hb _).trans (judgeKey_parent hop (by omega) hj))] at ht
  rw [← hpar, ← kslot_of_key hb, ← keyData_of_key hb] at hk
  have hkey := doneKey_keyed (runKeyOp_unwrap hop hk) ht
  rw [hslot, rootAttr_of_key hb, opType_of_key hb] at hkey
  exact keyed_of_key hb hkey

theorem keyDerive_spec (s : State) (p n : Fin 64) : Writes (.keyDerive r p n) s r (regAt .KEY_OP) (keyOpWord 4 p n)
    (s.Keyed n (s.childAttr p) (fitKey s.opType (hmac (s.kslot p).cur.key (deriveInput n (s.childAttr p) s.key.ctx)))) := by
  obtain ⟨hop, hpar, hslot, hgo⟩ := keyOp_bits (op := 4) (by omega) p.isLt n.isLt
  refine writes_keyOp rfl hgo fun b hb hj t ht => ?_
  rw [checkRead_valid ((kst_of_key hb _).trans (judgeKey_parent hop (by omega) hj))] at ht
  have hkey := doneKey_keyed (runKeyOp_derive hop) ht
  rw [hslot, hpar, childAttr_of_key hb, opType_of_key hb, kslot_of_key hb, hb] at hkey
  exact keyed_of_key hb hkey

theorem keyInvalidate_spec (s : State) (n : Fin 64) :
    Writes (.keyInvalidate r n) s r (regAt .KEY_OP) (keyOpWord 5 0 n) (fun t =>
      t.kslot n = ⟨KeyBank.zero, KeyBank.zero, commitWord (s.newCommit 5 n), false⟩) := by
  obtain ⟨hop, -, hslot, hgo⟩ := keyOp_bits (op := 5) (p := 0) (by omega) (by omega) n.isLt
  refine writes_keyOp rfl hgo fun b hb _ t ht => ?_
  rw [checkRead_id hop (by omega)] at ht
  have hkey : t.key.slots = (b.runKeyOp (keyOpWord 5 0 n)).key.slots := by rw [ht]; rfl
  rw [runKeyOp_invalidate hop, hslot, newCommit_of_key hb] at hkey
  rw [State.kslot, hkey]
  exact Tab.get_set_same ..

/-- Zeroization, with or without the core, empties the block (R298). -/
theorem State.zeroize_key (s : State) (src : Nat) : (s.zeroize src).key =
    { s.key with slots := [], data := [], lanes := [], count := satAdd 255 s.key.count 1, zeroed := true } := by
  unfold State.zeroize
  dsimp only
  split
  · exact State.fault_key ..
  · rfl

theorem keyZeroize_spec (s : State) :
    Writes (.keyZeroize r) s r (regAt .KEY_OP) (keyOpWord 6 0 0) (fun t =>
      t.key.slots = [] ∧ t.key.lanes = [] ∧ t.key.zeroed = true ∧ t.key.count = min 255 (s.key.count + 1)) := by
  obtain ⟨hop, -, -, hgo⟩ := keyOp_bits (op := 6) (p := 0) (n := 0) (by omega) (by omega) (by omega)
  refine writes_keyOp rfl hgo fun b hb _ t ht => ?_
  rw [checkRead_id hop (by omega)] at ht
  have hkey : t.key = (b.zeroize 4).clearStaged.key := by rw [ht, ← runKeyOp_zeroize hop]; rfl
  rw [hkey, ← hb]
  show (b.zeroize 4).key.slots = [] ∧ (b.zeroize 4).key.lanes = [] ∧ (b.zeroize 4).key.zeroed = true ∧ (b.zeroize 4).key.count = _
  rw [State.zeroize_key]
  exact ⟨rfl, rfl, rfl, rfl⟩

end Sys2Proof.Machine
end

section
/-! The fuse commands and the acknowledgement of records (R300, R312). -/

namespace Sys2Proof.Machine

set_option Elab.async false

variable {r : Requester} {s b : State} {x : RegAt} {v : Nat}

theorem fuses_behind (t : State) (e : GateEntry) : ((t.originDone e).sample 11 0 0).fuses = t.fuses := by
  rw [State.sample_fuses, State.originDone_fuses]

theorem Landed.wt (hb : Landed s x v b) : b.wt = s.wt := by obtain ⟨_, _, _, _, _, _, rfl⟩ := hb.base; rfl

theorem fuseArm_spec (s : State) (arm : Word) : Writes (.fuseArm r arm) s r (regAt .ATT_FUSE_ARM) arm.toNat (fun t =>
    t.fuses.armAt = if arm = 0x46555345 then some s.wt else none) := by
  refine .of_hook (F := fun b _ _ => b.armFuse arm.toNat) rfl (by decide) (fun t q => ATT_FUSE_ARM_write t _ _ _) fun o b q e _ hb => ?_
  rw [fuses_behind, ← hb.wt]
  exact if_congr ⟨fun h => BitVec.eq_of_toNat_eq h, fun h => congrArg BitVec.toNat h⟩ rfl rfl

/-- A fuse command that the gate takes: the blow is under way (R300). -/
theorem writes_blow {i : Instr} {f n : Nat} (hi : exec i s = .next (s.submit r .ATT_FUSE_CMD v)) (hgo : bitOn v 31 = true)
    (hf : bits v 18 16 = f) (hn : fuseNew v = n) :
    Writes i s r (regAt .ATT_FUSE_CMD) v (fun t => t.fuses.blow = some (f, n) ∧ t.fuses.armAt = none) := by
  refine .of_hook (F := fun b _ _ => b.startBlow v) hi (by decide) (fun t q => (ATT_FUSE_CMD_write t _ _ _).trans (if_pos hgo))
    fun o b q e _ _ => ?_
  rw [fuses_behind, ← hf, ← hn]
  exact ⟨rfl, rfl⟩

theorem fuseRollback_spec (s : State) (e : Fin 4) (v : BitVec 6) :
    Writes (.fuseRollback r e v) s r (regAt .ATT_FUSE_CMD) (2 ^ 31 + (4 + e.val) * 2 ^ 16 + v.toNat) (fun t =>
      t.fuses.blow = some (4 + e.val, v.toNat) ∧ t.fuses.armAt = none) := by
  have hv := v.isLt
  have hf : bits (2 ^ 31 + (4 + e.val) * 2 ^ 16 + v.toNat) 18 16 = 4 + e.val := by simp only [bits]; omega
  refine writes_blow rfl ?_ hf ?_
  · exact decide_eq_true (by omega)
  · rw [fuseNew, hf, if_neg (by omega)]
    simp only [bits]; omega

/-! ### Acknowledgement -/

/-- A record of a change stands behind those the ring holds. -/
theorem State.withRecord_ring {e : GateEntry} (hr : s.logRoom 2 = true) : ∃ l, (s.withRecord e).log.ring = s.log.ring ++ l := by
  have hroom : (s.gated e).logRoom ((s.gated e).recOf e .none).slots = true := State.logRoom_mono _ (by simpa using hr)
  have hgap (t : State) : ∃ l, t.placeGap.log.ring = t.log.ring ++ l := by
    unfold State.placeGap
    split
    · exact ⟨_, congrArg (fun l => l.ring) (State.place_log _ _)⟩
    · exact ⟨[], (List.append_nil _).symm⟩
  obtain ⟨l, hl⟩ := hgap (s.gated e)
  unfold State.withRecord
  simp only [State.recordExempt, State.recordNormal, hroom, if_true, Option.getD_some, ite_self, State.place_log, hl]
  exact ⟨_, List.append_assoc ..⟩

/-- The state behind the record of a write. -/
def State.behindRecord (s : State) (r : Requester) (x : RegAt) (v : Nat) : State :=
  (s.counted r).withRecord ((s.counted r).entryOf r x v)

/-- What a write that the gate takes comes to: the effect `F` behind its record. -/
theorem Admits.written_eq {F : State → State → Nat → State} (h : Admits s r x v) (hx : x.reg ≠ .SEL_HOSTSET)
    (hF : ∀ (t : State) q, t.doWrite x v q = F ((t.putReg x v).clear1 x v) t q) : let u := s.behindRecord r x v
    ∃ q, s.written r x v = ((F ((u.putReg x v).clear1 x v) u q).originDone (s.entryOf r x v)).sample 11 0 0 := by
  obtain ⟨-, -, -, -, -, -, -, -, hl, -⟩ := h
  obtain ⟨p, hp⟩ := s.counted_only r
  have he : (s.counted r).entryOf r x v = s.entryOf r x v := by rw [hp]; rfl
  refine ⟨(s.behindRecord r x v).log.seq, ?_⟩
  unfold State.written State.behindRecord
  dsimp only
  rw [State.applyChange_reg rfl hl hx, hF, ← he]
  rfl

/-- The ring behind the record of a write, once its fields hold their values. -/
theorem Admits.ring (h : Admits s r x v) :
    ∃ l, (((s.behindRecord r x v).putReg x v).clear1 x v).log.ring = s.log.ring ++ l := by
  obtain ⟨-, -, -, -, -, hr, -⟩ := h
  obtain ⟨p, hp⟩ := s.counted_only r
  have hr' : (s.counted r).logRoom 2 = true := by rw [hp]; exact hr
  obtain ⟨l, hring⟩ := State.withRecord_ring (e := (s.counted r).entryOf r x v) hr'
  obtain ⟨_, _, _, hput⟩ := State.putReg_only (s.behindRecord r x v) x v
  rw [hput]
  exact ⟨l, hring.trans (by rw [hp])⟩

/-- A GAP record takes its number behind the records freed: those stay freed. -/
theorem State.gapAlone_freed (s : State) : s.gapAlone.log.freed = s.log.freed := by
  unfold State.gapAlone State.placeGap
  split
  · split
    · exact congrArg (fun l => l.freed) (State.place_log _ _)
    · rfl
  · rfl

theorem State.ackFree_freed (s : State) (d : LogRec) : (s.ackFree d).log.freed =
    (s.log.ring.filter fun y => y.seq ≤ d.seq).reverse ++ s.log.freed :=
  State.gapAlone_freed _

theorem State.hookKey_ack {d : LogRec} (h : b.ackNamed (bits v 31 0) (bits v 95 32) = some d) :
    b.hookKey ⟨.LOG_ACK, 0, 0, 0, 0⟩ v = b.ackFree d := by
  simp only [State.hookKey, h]

theorem logAck_spec (s : State) (seq : Word) (link : DWord) {d : LogRec}
    (hd : (s.log.ring.find? fun y => y.seq % 2 ^ 32 == seq.toNat && y.link == link.toNat) = some d) :
    Writes (.logAck r seq link) s r (regAt .LOG_ACK) (seq.toNat + 2 ^ 32 * link.toNat) (fun t =>
      ∀ y ∈ s.log.ring, y.seq ≤ d.seq → y ∈ t.log.freed) := by
  intro h
  have hseq : bits (seq.toNat + 2 ^ 32 * link.toNat) 31 0 = seq.toNat := by
    have := seq.isLt
    simp only [bits]; omega
  have hlink : bits (seq.toNat + 2 ^ 32 * link.toNat) 95 32 = link.toNat := by
    have := seq.isLt
    have := link.isLt
    simp only [bits]; omega
  obtain ⟨_, hw⟩ := h.written_eq (by decide)
    (F := fun b _ _ => b.hookKey ⟨.LOG_ACK, 0, 0, 0, 0⟩ (seq.toNat + 2 ^ 32 * link.toNat)) fun t q => LOG_ACK_write t _ _ _
  obtain ⟨l, hring⟩ := h.ring
  generalize ((s.behindRecord r (regAt .LOG_ACK) (seq.toNat + 2 ^ 32 * link.toNat)).putReg (regAt .LOG_ACK)
    (seq.toNat + 2 ^ 32 * link.toNat)).clear1 (regAt .LOG_ACK) (seq.toNat + 2 ^ 32 * link.toNat) = b at hw hring
  refine ⟨congrArg _ (State.submit_admitted h), fun y hy hle => ?_⟩
  have hnamed : b.ackNamed seq.toNat link.toNat = some d := by
    rw [State.ackNamed, hring, List.append_assoc, List.find?_append, hd]
    rfl
  have hfree : b.hookKey ⟨.LOG_ACK, 0, 0, 0, 0⟩ (seq.toNat + 2 ^ 32 * link.toNat) = b.ackFree d :=
    State.hookKey_ack (by rw [hseq, hlink]; exact hnamed)
  rw [hw, hfree, State.sample_log, State.originDone_log, State.ackFree_freed]
  refine List.mem_append_left _ (List.mem_reverse.mpr (List.mem_filter.mpr ⟨?_, decide_eq_true hle⟩))
  rw [hring]
  exact List.mem_append_left _ hy

/-- Settles O22: each write lands as its register's hook leaves it; the parent that the judgement finds VALID is read as it stands. -/
theorem keyFuseAndLogWritesComplete : Obligations.KeyFuseAndLogWritesComplete := by
  unfold Obligations.KeyFuseAndLogWritesComplete
  intro r slot parent arm seq link e v s w bank holds word blows
  have hword (op : Nat) : word op = keyOpWord op 0 slot := by show 2 ^ 31 + op * 2 ^ 24 + slot.val * 2 ^ 8 = _; unfold keyOpWord; omega
  have hpar (op : Nat) : word op + parent.val * 2 ^ 16 = keyOpWord op parent slot := by rw [hword]; unfold keyOpWord; omega
  have hzero : 2 ^ 31 + 6 * 2 ^ 24 = keyOpWord 6 0 0 := rfl
  rw [hword, hword, hpar, hpar, hword, hzero]
  exact ⟨keyGenerate_spec s slot, keyImport_spec s slot, fun _ hk => keyUnwrap_spec s parent slot hk, keyDerive_spec s parent slot,
    keyInvalidate_spec s slot, keyZeroize_spec s, fuseArm_spec s arm, writes_blow rfl (by decide) (by decide) (by decide),
    writes_blow rfl (by decide) (by decide) (by decide), writes_blow rfl (by decide) (by decide) (by decide), fuseRollback_spec s e v,
    fun _ hd => logAck_spec s seq link hd⟩

end Sys2Proof.Machine
end

section
/-! What a change of role leaves (R327, R332), and what the end of the bind-off's actions leaves of cast-on. -/

namespace Sys2Proof.Machine

set_option Elab.async false

variable {s : State}

theorem Reacts.stlCheck {μ ρ : Prop} {s₀ : State} (h : Reacts μ ρ s₀ s) {l : Nat} : Reacts μ ρ s₀ (s.stlCheck l) := h.external

theorem Reacts.stlChecks {μ ρ : Prop} {s₀ : State} (h : Reacts μ ρ s₀ s) {l : List Nat} :
    Reacts μ ρ s₀ (l.foldl (fun t k => t.stlCheck k) s) :=
  h.foldl fun _ _ ht => ht.stlCheck

/-- A change of role ends in the role, and neither relinquishes the device nor takes it back. -/
theorem State.setRole_role (s : State) (r : Role) :
    (s.setRole r).twin.role = r ∧ (s.setRole r).flt.relinq = s.flt.relinq ∧ (s.setRole r).flt.halt = s.flt.halt := by
  unfold State.setRole
  split
  next h => exact ⟨h, rfl, rfl⟩
  next =>
    dsimp only
    generalize hu : (State.mk ..) = u
    have hc : Reacts False False u (if r = .active then u.twinLinkCond true else u).squelch.determine :=
      (Reacts.ite (Reacts.refl.twinLinkCond) .refl).squelch.determine
    obtain ⟨-, -, -, htwin, -, -, hrel, hhalt⟩ := hc.calm
    rw [htwin, hrel, hhalt, ← hu]
    exact ⟨rfl, rfl, rfl⟩

theorem State.stlChecks_twin (s : State) (l : List Nat) : (l.foldl (fun t k => t.stlCheck k) s).twin = s.twin := by
  obtain ⟨-, -, -, htwin, -⟩ := (Reacts.stlChecks (μ := False) (ρ := False) (.refl (s₀ := s)) (l := l)).calm
  exact htwin

theorem State.stlChecks_relinq (s : State) (l : List Nat) : (l.foldl (fun t k => t.stlCheck k) s).flt.relinq = s.flt.relinq := by
  obtain ⟨-, -, -, -, -, -, hrel, -⟩ := (Reacts.stlChecks (μ := False) (ρ := False) (.refl (s₀ := s)) (l := l)).calm
  exact hrel

theorem State.twinDecide1_relinq (s : State) : s.twinDecide1.flt.relinq = s.flt.relinq := by
  unfold State.twinDecide1
  have hset (r : Role) : (s.setRole r).flt.relinq = s.flt.relinq := (s.setRole_role r).2.1
  split
  · split
    · exact hset _
    · rfl
  · split
    · exact hset _
    · rfl
  · split
    · rfl
    · exact hset _
  · split
    · exact hset _
    · rfl
  · exact hset _
  · rfl

theorem State.twinDecide_relinq (s : State) : s.twinDecide.flt.relinq = s.flt.relinq := by
  unfold State.twinDecide
  extract_lets _ s0 s1 _ s2
  have h0 : s0.flt.relinq = s.flt.relinq := by unfold s0; split <;> rfl
  have h1 : s1.flt.relinq = s.flt.relinq := (State.twinDecide1_relinq s0).trans h0
  have h2 : s2.flt.relinq = s1.flt.relinq := rfl
  clear_value s2
  split
  · split
    · rw [State.stlChecks_relinq, h2, h1]
    · exact h1
  · rfl

theorem State.takeTwinCfg_relinq (s : State) (was : Bool) : (s.takeTwinCfg was).flt.relinq = s.flt.relinq := by
  have hset (t : State) (r : Role) : (t.setRole r).flt.relinq = t.flt.relinq := (t.setRole_role r).2.1
  unfold State.takeTwinCfg
  dsimp only
  split
  · rfl
  · split
    · split
      · exact hset ..
      · rw [State.twinDecide_relinq]; exact hset ..
    · split
      · rw [State.stlChecks_relinq, hset]
      · rfl

theorem Reacts.relinq {t : State} (h : Reacts False False s t) : t.flt.relinq = s.flt.relinq := by
  obtain ⟨-, -, -, -, -, -, hrel, -⟩ := h.calm
  exact hrel

theorem State.sendRelinq_relinq (s : State) : s.sendRelinq.flt.relinq = s.flt.relinq := (Reacts.sendRelinq .refl).relinq

/-- The device has relinquished. -/
theorem State.enterRelinq_relinq (s : State) : s.enterRelinq.flt.relinq = true := by
  unfold State.enterRelinq
  split
  next h => exact h
  next =>
    extract_lets _ s1
    have h1 : s1.flt.relinq = true := by unfold s1; rw [State.sendRelinq_relinq]
    clear_value s1
    rw [Reacts.refl.squelch.relinq]
    split
    · exact h1
    · rw [(s1.setRole_role _).2.1]
      exact h1

end Sys2Proof.Machine
end

section
/-! The writes that command the twin, the faults, the counters, the memory and cast-on (R327, R328, R336, R342, R346, R350, R353, R355,
R358, R363, R373, R383, R388, R389). -/

namespace Sys2Proof.Machine

set_option Elab.async false

variable {r : Requester} {s b : State} {x : RegAt} {v : Nat}

theorem Landed.flt (hb : Landed s x v b) : b.flt = s.flt := by obtain ⟨_, _, _, _, _, _, rfl⟩ := hb.base; rfl

theorem Landed.twin (hb : Landed s x v b) : b.twin = s.twin := by obtain ⟨_, _, _, _, _, _, rfl⟩ := hb.base; rfl

theorem Landed.cast_ (hb : Landed s x v b) : b.cast_ = s.cast_ := by obtain ⟨_, _, _, _, _, _, rfl⟩ := hb.base; rfl

theorem flt_behind (t : State) (e : GateEntry) : ((t.originDone e).sample 11 0 0).flt = t.flt := by
  rw [State.sample_flt, State.originDone_flt]

theorem twin_behind (t : State) (e : GateEntry) : ((t.originDone e).sample 11 0 0).twin = t.twin := by
  rw [State.sample_twin, State.originDone_twin]

theorem cast_behind (t : State) (e : GateEntry) : ((t.originDone e).sample 11 0 0).cast_ = t.cast_ := by
  rw [State.sample_cast_, State.originDone_cast_]

/-- A bit that a write changes, as it is in force behind the write. -/
theorem Landed.on_self (hb : Landed s x v b) (hx : x.reg ≠ .KEY_TAMPER) (hl : landsLater x.reg = false) {k : Nat}
    (hk : (x.fs.any fun f => f.acc == .rw && !f.isE && decide (f.lo ≤ k ∧ k ≤ f.hi)) = true) : bitOn (b.forceAt x) k = bitOn v k := by
  rw [hb.forceAt hx hl, bitOn_putFields, if_pos hk]

/-! ### The twin -/

theorem State.takeTwinCfg_off (s : State) (was : Bool) (hen : s.on .STL_TWIN_CFG 31 = false) (hr : s.flt.relinq = false) :
    (s.takeTwinCfg was).twin.role = .solo := by
  rw [State.takeTwinCfg]
  simp only [hr, hen, Bool.false_eq_true, if_false, false_and, not_false_eq_true, if_true]
  rw [State.stlChecks_twin]
  exact (State.setRole_role ..).1

theorem State.takeTwinCfg_compare (s : State) (hen : s.on .STL_TWIN_CFG 31 = true) (hmode : s.on .STL_TWIN_CFG 30 = true)
    (hr : s.flt.relinq = false) : (s.takeTwinCfg false).twin.role = .compare := by
  rw [State.takeTwinCfg]
  simp only [hr, hen, hmode, Bool.false_eq_true, if_false, not_false_eq_true, if_true, and_self]
  exact (State.setRole_role ..).1

theorem twinEnable_off_spec (s : State) : Writes (.twinEnable r false) s r (regAt .STL_TWIN_CFG) (s.lastWith .STL_TWIN_CFG 31 31 0)
    (fun t => s.flt.relinq = false → t.twin.role = .solo) := by
  have h31 : bitOn (s.lastWith .STL_TWIN_CFG 31 31 0) 31 = false := by rw [State.lastWith, bitOn_putBits]; rfl
  refine .of_hook (F := fun b o _ => b.takeTwinCfg (o.on .STL_TWIN_CFG 31)) rfl (by decide) (fun t q => STL_TWIN_CFG_write t _ _ _)
    fun o b q e _ hb hr => ?_
  rw [twin_behind]
  exact b.takeTwinCfg_off _ ((hb.on_self (fun h => nomatch h) rfl rfl).trans h31) (by rw [hb.flt]; exact hr)

theorem twinEnable_on_spec (s : State) : Writes (.twinEnable r true) s r (regAt .STL_TWIN_CFG) (s.lastWith .STL_TWIN_CFG 31 31 1)
    (fun t => s.flt.relinq = false → s.on .STL_TWIN_CFG 31 = false → bitOn (s.lastOf .STL_TWIN_CFG) 30 = true →
      t.twin.role = .compare) := by
  have h31 : bitOn (s.lastWith .STL_TWIN_CFG 31 31 1) 31 = true := by rw [State.lastWith, bitOn_putBits]; rfl
  have h30 : bitOn (s.lastWith .STL_TWIN_CFG 31 31 1) 30 = bitOn (s.lastOf .STL_TWIN_CFG) 30 := by
    rw [State.lastWith, bitOn_putBits]; rfl
  refine .of_hook (F := fun b o _ => b.takeTwinCfg (o.on .STL_TWIN_CFG 31)) rfl (by decide) (fun t q => STL_TWIN_CFG_write t _ _ _)
    fun o b q e ho hb hr hoff hmode => ?_
  have ho : o.on .STL_TWIN_CFG 31 = false := by rw [State.on, ho.inForce]; exact hoff
  rw [twin_behind, ho]
  exact b.takeTwinCfg_compare ((hb.on_self (fun h => nomatch h) rfl rfl).trans h31)
    ((hb.on_self (fun h => nomatch h) rfl rfl).trans (h30.trans hmode)) (by rw [hb.flt]; exact hr)

/-- The two commands of STL_TWIN_CTL. -/
theorem State.hookStl_ctl (s old : State) (ho rel : Bool) (h31 : bitOn v 31 = ho) (h30 : bitOn v 30 = rel) :
    s.hookStl old ⟨.STL_TWIN_CTL, 0, 0, 0, 0⟩ v = if rel then (if ho then s.takeHandover else s).relinqCmd
      else if ho then s.takeHandover else s := by
  simp only [State.hookStl, h31, h30]

theorem relinqCommand_spec (s : State) : Writes (.relinqCommand r) s r (regAt .STL_TWIN_CTL) (2 ^ 30) (fun t => t.flt.relinq = true) := by
  refine .of_hook (F := fun b o _ => b.hookStl o ⟨.STL_TWIN_CTL, 0, 0, 0, 0⟩ (2 ^ 30)) rfl (by decide)
    (fun t q => STL_TWIN_CTL_write t _ _ _) fun o b q e _ _ => ?_
  rw [flt_behind, State.hookStl_ctl b o false true (by decide) (by decide), if_pos rfl]
  exact State.enterRelinq_relinq _

theorem handoverRequest_spec (s : State) : Writes (.handoverRequest r) s r (regAt .STL_TWIN_CTL) (2 ^ 31) (fun t =>
    t.twin.hoPend = some (s.gau.l + 10000000)) := by
  refine .of_hook (F := fun b o _ => b.hookStl o ⟨.STL_TWIN_CTL, 0, 0, 0, 0⟩ (2 ^ 31)) rfl (by decide)
    (fun t q => STL_TWIN_CTL_write t _ _ _) fun o b q e _ hb => ?_
  rw [twin_behind, State.hookStl_ctl b o true false (by decide) (by decide), if_neg Bool.false_ne_true, if_pos rfl, ← hb.gau]
  rfl

/-! ### Faults -/

theorem State.takeResume_relinq (s : State) (hh : s.flt.halt = false) : s.takeResume.flt.relinq = false := by
  unfold State.takeResume
  split
  · rw [State.takeTwinCfg_relinq]
  next h => simpa [hh] using h

theorem resume_spec (s : State) : Writes (.resume r) s r (regAt .FLT_CTL) (s.lastWith .FLT_CTL 30 30 1) (fun t =>
    s.flt.halt = false → t.flt.relinq = false) := by
  have h30 : bitOn (s.lastWith .FLT_CTL 30 30 1) 30 = true := by rw [State.lastWith, bitOn_putBits]; rfl
  refine .of_hook (F := fun b _ _ => b.fltCtl (s.lastWith .FLT_CTL 30 30 1)) rfl (by decide) (fun t q => FLT_CTL_write t _ _ _)
    fun o b q e _ hb hh => ?_
  have hr : b.takeResume.flt.relinq = false := b.takeResume_relinq (by rw [hb.flt]; exact hh)
  rw [flt_behind, State.fltCtl, if_pos h30]
  dsimp only
  split
  · exact hr
  · exact hr

theorem injectGo_spec (s : State) (dry : Bool) (src : BitVec 6) (unit : Half) : Writes (.injectGo r dry src unit) s r (regAt .FLT_INJ)
    (2 ^ 31 + (if dry then 2 ^ 30 else 0) + src.toNat * 2 ^ 16 + unit.toNat) (fun t =>
    t.flt.inj = ⟨1, 0, src.toNat, unit.toNat, dry, s.gau.l⟩) := by
  have hs := src.isLt
  have hu := unit.isLt
  have hv : bitOn (2 ^ 31 + (if dry then 2 ^ 30 else 0) + src.toNat * 2 ^ 16 + unit.toNat) 31 = true ∧
      bitOn (2 ^ 31 + (if dry then 2 ^ 30 else 0) + src.toNat * 2 ^ 16 + unit.toNat) 30 = dry ∧
      bits (2 ^ 31 + (if dry then 2 ^ 30 else 0) + src.toNat * 2 ^ 16 + unit.toNat) 21 16 = src.toNat ∧
      bits (2 ^ 31 + (if dry then 2 ^ 30 else 0) + src.toNat * 2 ^ 16 + unit.toNat) 15 0 = unit.toNat := by
    cases dry
    · exact ⟨decide_eq_true (by simp only [Bool.false_eq_true, if_false]; omega), decide_eq_false (by simp only [Bool.false_eq_true, if_false]; omega),
        by simp only [bits, Bool.false_eq_true, if_false]; omega, by simp only [bits, Bool.false_eq_true, if_false]; omega⟩
    · exact ⟨decide_eq_true (by simp only [if_true]; omega), decide_eq_true (by simp only [if_true]; omega),
        by simp only [bits, if_true]; omega, by simp only [bits, if_true]; omega⟩
  have hsub : exec (.injectGo r dry src unit) s =
      .next (s.submit r .FLT_INJ (2 ^ 31 + (if dry then 2 ^ 30 else 0) + src.toNat * 2 ^ 16 + unit.toNat)) := by
    cases dry <;> rfl
  generalize 2 ^ 31 + (if dry then 2 ^ 30 else 0) + src.toNat * 2 ^ 16 + unit.toNat = v at hv hsub ⊢
  obtain ⟨h31, h30, hsrc, hunit⟩ := hv
  refine .of_hook (F := fun b _ _ => b.takeInject v) hsub (by decide) (fun t q => FLT_INJ_write t _ _ _) fun o b q e _ hb => ?_
  rw [flt_behind, State.takeInject, if_pos h31, h30, hsrc, hunit, ← hb.gau]
  split <;> rfl

theorem injectCancel_spec (s : State) : Writes (.injectCancel r) s r (regAt .FLT_INJ) (s.lastWith .FLT_INJ 29 29 1) (fun t =>
    bitOn (s.lastOf .FLT_INJ) 31 = false → s.flt.inj.state = 1 → t.flt.inj.state = 0) := by
  have h29 : bitOn (s.lastWith .FLT_INJ 29 29 1) 29 = true := by rw [State.lastWith, bitOn_putBits]; rfl
  have h31 : bitOn (s.lastWith .FLT_INJ 29 29 1) 31 = bitOn (s.lastOf .FLT_INJ) 31 := by rw [State.lastWith, bitOn_putBits]; rfl
  refine .of_hook (F := fun b _ _ => b.takeInject (s.lastWith .FLT_INJ 29 29 1)) rfl (by decide) (fun t q => FLT_INJ_write t _ _ _)
    fun o b q e _ hb hgo hst => ?_
  rw [flt_behind, State.takeInject, h31, hgo, if_neg Bool.false_ne_true]
  exact (congrArg (fun t : State => t.flt.inj.state) (if_pos ⟨h29, by rw [hb.flt]; exact hst⟩)).trans rfl

end Sys2Proof.Machine
end

section
/-! The writes that command the recorder, the counters, ownership, DMA, the memory and cast-on (R346, R350, R353, R355, R358, R363, R373,
R383, R388, R389). -/

namespace Sys2Proof.Machine

set_option Elab.async false

variable {r : Requester} {s b : State} {x : RegAt} {v : Nat}

/-! ### Recorder and counters -/

/-- A unit that does not measure what is sampled keeps its values. -/
theorem State.sample_unit_ne (s : State) {meas arg u : Nat} {k : Int} (h : bits (s.inForce .REC_UNIT u) 31 24 ≠ meas) :
    (s.sample meas arg k).rcd.units.get u RecUnit.clear = s.rcd.units.get u RecUnit.clear := by
  unfold State.sample
  split
  · refine (List.foldlRecOn (motive := fun t : State => t.force = s.force ∧ t.rcd.units.get u RecUnit.clear = s.rcd.units.get u RecUnit.clear)
      _ _ ⟨rfl, rfl⟩ fun t ht w _ => ?_).2
    obtain ⟨hforce, hget⟩ := ht
    dsimp only
    split
    next hm =>
      refine ⟨hforce, (Tab.get_set_ne _ _ _ ?_).trans hget⟩
      rintro rfl
      rw [State.inForce, hforce] at hm
      exact h hm.1
    next => exact ⟨hforce, hget⟩
  · rfl

theorem unitMeasWrite_spec (s : State) (u : Fin 12) (v : Word) :
    Writes (.unitMeasWrite r u v) s r (regAt .REC_UNIT u) v.toNat (fun t => bits v.toNat 31 24 ≠ 11 →
      bits (t.inForce .REC_UNIT u) 31 24 = bits v.toNat 31 24 ∧ t.rcd.units.get u RecUnit.clear = RecUnit.clear) := by
  refine .of_hook (F := fun b _ _ => b.clrUnit u) rfl (by decide) (fun t q => REC_UNIT_write t u _ _ _) fun o b q e _ hb hm => ?_
  have hmeas : bits (b.inForce .REC_UNIT u) 31 24 = bits v.toNat 31 24 := by
    show bits (b.forceAt ⟨.REC_UNIT, u, 0, 0, 0⟩) 31 24 = _
    rw [hb.forceAt (fun h => nomatch h) rfl]
    exact bits_putFields _ _ _ _ _ _ fun i h1 h2 => List.any_eq_true.mpr ⟨_, .head _, decide_eq_true ⟨h1, h2⟩⟩
  rw [inForce_behind]
  refine ⟨hmeas, ?_⟩
  rw [State.sample_unit_ne, State.originDone_rcd]
  · exact Tab.get_set_same ..
  · simp only [State.inForce, State.originDone_force]
    exact fun h => hm (hmeas.symm.trans h)

theorem pmc_behind (t : State) (e : GateEntry) : ((t.originDone e).sample 11 0 0).pmc = t.pmc := by
  rw [State.sample_pmc, State.originDone_pmc]

theorem pmcCounterWrite_spec (s : State) (i : Fin 1024) (v : Word) :
    Writes (.pmcCounterWrite r i v) s r (regAt .PMC_CNT i) v.toNat (fun t =>
      bitOn v.toNat 30 = true → t.pmc.cnt.get i ⟨0, false⟩ = ⟨0, false⟩) := by
  refine .of_hook (F := fun b _ _ => b.takePmc i v.toNat) rfl (by decide) (fun t q => PMC_CNT_write t i _ _ _) fun o b q e _ _ hclr => ?_
  rw [pmc_behind, State.takePmc, if_pos hclr]
  exact Tab.get_set_same ..

theorem State.counted_sweepSeq (s : State) (r : Requester) : (s.counted r).pmc.sweepSeq = s.pmc.sweepSeq := by
  unfold State.counted State.pmcEv
  split
  · exact List.foldlRecOn (motive := fun t : State => t.pmc.sweepSeq = s.pmc.sweepSeq) _ _ rfl fun t ht _ _ => ht
  · rfl

/-- The record of a write and the write of its fields count no sweep. -/
theorem Admits.sweepSeq (h : Admits s r x v) : (((s.behindRecord r x v).putReg x v).clear1 x v).pmc.sweepSeq = s.pmc.sweepSeq := by
  obtain ⟨-, -, -, -, -, hr, -⟩ := h
  obtain ⟨p, hp⟩ := s.counted_only r
  have hr' : (s.counted r).logRoom 2 = true := by rw [hp]; exact hr
  obtain ⟨_, _, _, hrec, -⟩ := (s.counted r).withRecord_only ((s.counted r).entryOf r x v) hr'
  obtain ⟨_, _, _, hput⟩ := State.putReg_only (s.behindRecord r x v) x v
  rw [hput, State.behindRecord, hrec]
  exact s.counted_sweepSeq r

theorem State.startSweep_sweepSeq (s : State) : s.startSweep.pmc.sweepSeq = (s.pmc.sweepSeq + 1) % 2 ^ 32 := by
  have hedge (t : State) : t.sweepEdge.pmc.sweepSeq = t.pmc.sweepSeq := by
    unfold State.sweepEdge
    split
    · rfl
    · dsimp only
      split <;> rfl
  exact hedge _

theorem sweepGo_spec (s : State) : Writes (.sweepGo r) s r (regAt .PMC_SWEEP) (s.lastWith .PMC_SWEEP 31 31 1) (fun t =>
    t.pmc.sweepSeq = (s.pmc.sweepSeq + 1) % 2 ^ 32) := by
  have hgo : bitOn (s.lastWith .PMC_SWEEP 31 31 1) 31 = true := by rw [State.lastWith, bitOn_putBits]; rfl
  intro h
  obtain ⟨_, hw⟩ := h.written_eq (by decide) (F := fun b _ _ => b.startSweep)
    fun t q => (PMC_SWEEP_write t _ _ _).trans (if_pos hgo)
  refine ⟨congrArg _ (State.submit_admitted h), ?_⟩
  rw [hw]
  show (State.sample _ _ _ _).pmc.sweepSeq = _
  rw [pmc_behind, State.startSweep_sweepSeq, h.sweepSeq]

/-! ### Ownership, DMA and memory -/

/-- A register of which a field has just been written, in force behind the write. -/
theorem Landed.fl_self (hb : Landed s x v b) (hx : x.reg ≠ .KEY_TAMPER) (hl : landsLater x.reg = false) {hi lo : Nat} {f : Field}
    (hf : f ∈ x.fs) (hrw : (f.acc == .rw && !f.isE) = true) (hr : f.lo ≤ lo ∧ hi ≤ f.hi) : bits (b.forceAt x) hi lo = bits v hi lo := by
  rw [hb.forceAt hx hl]
  refine bits_putFields _ _ _ _ _ _ fun i h1 h2 => List.any_eq_true.mpr ⟨f, hf, ?_⟩
  simp only [hrw, Bool.true_and, decide_eq_true_eq]
  omega

theorem topOwnerWrite_spec (s : State) (v : Word) : Writes (.topOwnerWrite r v) s r (regAt .TOP_OWNER) v.toNat (fun t =>
    t.fl .TOP_OWNER 21 0 = v.toNat % 2 ^ 22) := by
  refine .of_hook (F := fun b _ _ => b) rfl (by decide) (fun t q => TOP_OWNER_write t _ _ _) fun o b q e _ hb => ?_
  rw [State.fl, inForce_behind]
  refine (hb.fl_self (hi := 21) (lo := 0) (fun h => nomatch h) rfl (.head _) rfl ⟨le_rfl, le_rfl⟩).trans ?_
  rw [bits, Nat.pow_zero, Nat.div_one]

theorem dmaDoorbell_spec (s : State) (q : Fin 16) (prod : Half) : Writes (.dmaDoorbell r q prod) s r (regAt .DMA_PROD q) prod.toNat
    (fun t => t.fl .DMA_PROD 15 0 q = prod.toNat) := by
  refine .of_hook (F := fun b _ _ => b) rfl (by decide) (fun t n => DMA_PROD_write t q _ _ _) fun o b n e _ hb => ?_
  rw [State.fl, inForce_behind]
  refine (hb.fl_self (hi := 15) (lo := 0) (fun h => nomatch h) rfl (.head _) rfl ⟨le_rfl, le_rfl⟩).trans ?_
  rw [bits, Nat.pow_zero, Nat.div_one]
  exact Nat.mod_eq_of_lt prod.isLt

/-- The word of a spare's start. -/
theorem spare_bits (n : Nat) (dev : BitVec 4) : bitOn (putBits (putBits n 19 16 dev.toNat) 31 31 1) 31 = true ∧
    bits (putBits (putBits n 19 16 dev.toNat) 31 31 1) 19 16 = dev.toNat := by
  refine ⟨by rw [bitOn_putBits]; rfl, Nat.eq_of_testBit_eq fun i => ?_⟩
  have hdev := dev.isLt
  rw [testBit_bits, testBit_putBits, testBit_putBits]
  by_cases hi : i < 4
  · rw [if_neg (by omega), if_pos (by omega), Nat.add_sub_cancel_left]
    simp [hi]
  · have hbit : dev.toNat.testBit i = false :=
      Nat.testBit_lt_two_pow (hdev.trans_le (Nat.pow_le_pow_right (by omega) (by omega)))
    simp [show ¬ i < 19 + 1 - 16 by omega, hbit]

theorem spareGo_spec (s : State) (ch : Fin 2) (dev : BitVec 4) :
    Writes (.spareGo r ch dev) s r (regAt .MEM_SPARE ch) (putBits (s.lastWith .MEM_SPARE 19 16 dev.toNat ch) 31 31 1) (fun t =>
      t.mem.spare.get ch 0 = 1 ∧ t.fl .MEM_SPARE 19 16 ch = dev.toNat) := by
  obtain ⟨hgo, hdev⟩ := spare_bits (s.lastOf .MEM_SPARE ch) dev
  refine .of_hook (F := fun b _ _ => b.startSpare ch) rfl (by decide) (fun t q => (MEM_SPARE_write t ch _ _ _).trans (if_pos hgo))
    fun o b q e _ hb => ?_
  rw [State.fl, inForce_behind, State.sample_mem, State.originDone_mem]
  exact ⟨Tab.get_set_same .., (hb.fl_self (fun h => nomatch h) rfl (.tail _ (.tail _ (.tail _ (.head _)))) rfl ⟨le_rfl, le_rfl⟩).trans hdev⟩

/-! ### Cast-on -/

theorem State.hookCtl_cast (s : State) {q : Nat} (h31 : bitOn v 31 = true) : s.hookCtl ⟨.TOP_CAST, 0, 0, 0, 0⟩ v q = s.castGo :=
  if_pos h31

theorem castGo_spec (s : State) : Writes (.castGo r) s r (regAt .TOP_CAST) (2 ^ 31) (fun t => t.cast_.go = true ∧ t.cast_.st = 3) := by
  refine .of_hook (F := fun b _ _ => b.castGo) rfl (by decide) (fun t q => (TOP_CAST_write t _ _ _).trans (State.hookCtl_cast _ (by decide)))
    fun o b q e _ hb => ?_
  rw [cast_behind]
  exact ⟨rfl, rfl⟩

/-- The two commands of TOP_CONFIG. -/
theorem State.takeConfig_bits (s : State) (save sel : Bool) (h31 : bitOn v 31 = save) (h30 : bitOn v 30 = sel) :
    s.takeConfig v =
      if sel then (if save then s.takeSave .warden (bits v 25 24) else s).takeSelect (if bitOn v 29 then none else some (bits v 25 24))
      else if save then s.takeSave .warden (bits v 25 24) else s := by
  simp only [State.takeConfig, h31, h30]

theorem topConfigSave_spec (s : State) (img : Fin 4) :
    Writes (.topConfigSave r img) s r (regAt .TOP_CONFIG) (2 ^ 31 + img.val * 2 ^ 24) (fun t =>
      t.log.held = true ∧ t.cast_.csSt = 1 ∧ t.cast_.slots.get img none = none) := by
  have hi := img.isLt
  have h31 : bitOn (2 ^ 31 + img.val * 2 ^ 24) 31 = true := decide_eq_true (by omega)
  have h30 : bitOn (2 ^ 31 + img.val * 2 ^ 24) 30 = false := decide_eq_false (by omega)
  have hslot : bits (2 ^ 31 + img.val * 2 ^ 24) 25 24 = img.val := by simp only [bits]; omega
  refine .of_hook (F := fun b _ _ => b.takeConfig (2 ^ 31 + img.val * 2 ^ 24)) rfl (by decide) (fun t q => TOP_CONFIG_write t _ _ _)
    fun o b q e _ hb => ?_
  rw [cast_behind, State.sample_log, State.originDone_log, State.takeConfig_bits b true false h31 h30, hslot,
    if_neg Bool.false_ne_true, if_pos rfl]
  exact ⟨rfl, rfl, Tab.get_set_same ..⟩

theorem topConfigSelect_spec (s : State) (img : Fin 4) (none_ : Bool) : Writes (.topConfigSelect r img none_) s r (regAt .TOP_CONFIG)
    (2 ^ 30 + (if none_ then 2 ^ 29 else 0) + img.val * 2 ^ 24) (fun t => t.cast_.sel = if none_ then none else some img.val) := by
  have hi := img.isLt
  have hv : bitOn (2 ^ 30 + (if none_ then 2 ^ 29 else 0) + img.val * 2 ^ 24) 31 = false ∧
      bitOn (2 ^ 30 + (if none_ then 2 ^ 29 else 0) + img.val * 2 ^ 24) 30 = true ∧
      bitOn (2 ^ 30 + (if none_ then 2 ^ 29 else 0) + img.val * 2 ^ 24) 29 = none_ ∧
      bits (2 ^ 30 + (if none_ then 2 ^ 29 else 0) + img.val * 2 ^ 24) 25 24 = img.val := by
    cases none_
    · simp only [Bool.false_eq_true, if_false]
      exact ⟨decide_eq_false (by omega), decide_eq_true (by omega), decide_eq_false (by omega), by simp only [bits]; omega⟩
    · simp only [if_true]
      exact ⟨decide_eq_false (by omega), decide_eq_true (by omega), decide_eq_true (by omega), by simp only [bits]; omega⟩
  have hsub : exec (.topConfigSelect r img none_) s =
      .next (s.submit r .TOP_CONFIG (2 ^ 30 + (if none_ then 2 ^ 29 else 0) + img.val * 2 ^ 24)) := by
    cases none_ <;> rfl
  generalize 2 ^ 30 + (if none_ then 2 ^ 29 else 0) + img.val * 2 ^ 24 = v at hv hsub ⊢
  obtain ⟨h31, h30, h29, hslot⟩ := hv
  refine .of_hook (F := fun b _ _ => b.takeConfig v) hsub (by decide) (fun t q => TOP_CONFIG_write t _ _ _) fun o b q e _ hb => ?_
  rw [cast_behind, State.takeConfig_bits b false true h31 h30, h29, hslot]
  rfl

/-- Switching objects off leaves cast-on, whichever the objects. -/
theorem State.offObjs_cast_ (s : State) (l : List AudObj) (f : Aud → Aud) :
    (let s1 := l.foldl (fun t o => if t.objSt o = 0 then t else (t.offObj o).recEvent 0x29 (objArg o)) s
     { s1 with aud := f s1.aud } : State).cast_ = s.cast_ := by
  refine List.foldlRecOn (motive := fun t : State => t.cast_ = s.cast_) l _ rfl fun t ht o _ => ?_
  split
  · exact ht
  · rw [State.recEvent_cast_]
    cases o <;> exact ht

theorem State.audStopAll_cast_ (s : State) : s.audStopAll.cast_ = s.cast_ :=
  s.offObjs_cast_ audObjs fun a => { a with
    waits := [], starts := [], rowMsgs := [], stripRow := none, media := []
    txs := a.txs.map fun x => (x.1, { x.2 with next := none }) }

theorem State.zeroize_bind (s : State) (src : Nat) : (s.zeroize src).cast_.bind = s.cast_.bind := by
  unfold State.zeroize
  extract_lets _ s1 s2
  have h2 : s2.cast_.bind = s.cast_.bind := rfl
  clear_value s2
  split
  · exact (Reacts.fault .refl : Reacts False True s2 _).latched.2.1.trans h2
  · exact h2

/-- A bind-off that begins is under way, whatever it stops (R389). -/
theorem State.takeBind_bind (s : State) (org : Origin) (z : Bool) (seq : Nat) : (s.takeBind org z seq).cast_.bind = 1 := by
  unfold State.takeBind
  extract_lets _ s1 s2 s3
  have h2 : Reacts False True s1 s2 := .ite (Reacts.refl.enterRelinq) .refl
  have h3 : s3.cast_.bind = 1 := by
    unfold s3
    split
    · exact (s2.zeroize_bind 4).trans h2.latched.2.1
    · exact h2.latched.2.1
  clear_value s3
  split
  · rw [State.audStopAll_cast_, ((Reacts.stopSeqs .refl : Reacts False True s3 _).latched).2.1]
    exact h3
  · exact h3

theorem topBindoffGo_spec (s : State) (z : Bool) :
    Writes (.topBindoffGo r z) s r (regAt .TOP_BINDOFF) (2 ^ 31 + (if z then 2 ^ 30 else 0)) (fun t => t.cast_.bind = 1) := by
  have hv : bitOn (2 ^ 31 + (if z then 2 ^ 30 else 0)) 31 = true := by cases z <;> decide
  have hsub : exec (.topBindoffGo r z) s = .next (s.submit r .TOP_BINDOFF (2 ^ 31 + (if z then 2 ^ 30 else 0))) := by cases z <;> rfl
  generalize 2 ^ 31 + (if z then 2 ^ 30 else 0) = v at hv hsub ⊢
  refine .of_hook (F := fun b _ q => b.takeBind .warden (bitOn v 30) q) hsub (by decide)
    (fun t q => (TOP_BINDOFF_write t _ _ _).trans (if_pos hv)) fun o b q e _ _ => ?_
  rw [cast_behind]
  exact b.takeBind_bind ..

/-- Settles O23: each write lands as its register's hook leaves it; what the hook calls beside keeps the part it is stated for. -/
theorem supervisionWritesComplete : Obligations.SupervisionWritesComplete := by
  unfold Obligations.SupervisionWritesComplete
  intro r dry z none_ src unit prod u v i q ch dev img s
  exact ⟨twinEnable_off_spec s, twinEnable_on_spec s, relinqCommand_spec s, handoverRequest_spec s, resume_spec s,
    injectGo_spec s dry src unit, injectCancel_spec s, unitMeasWrite_spec s u v, pmcCounterWrite_spec s i v, sweepGo_spec s,
    topOwnerWrite_spec s v, dmaDoorbell_spec s q prod, spareGo_spec s ch dev, castGo_spec s, topConfigSave_spec s img,
    topConfigSelect_spec s img none_, topBindoffGo_spec s z⟩

end Sys2Proof.Machine
end

section
/-! The writes that are not audited (R291, R301, R350, R352, R365). -/

namespace Sys2Proof.Machine

set_option Elab.async false

variable {r : Requester} {s : State} {x : RegAt} {v : Nat}

theorem State.wordEnds_rcd (s : State) (r : Requester) : (s.wordEnds r).rcd = s.rcd := by
  cases r with
  | host => rfl
  | warden => rfl
  | sideband => exact s.sbdWordDone_rcd
  | seq n => exact s.wrDone_rcd n true

theorem State.wordEnds_key (s : State) (r : Requester) : (s.wordEnds r).key = s.key := by
  cases r with
  | host => rfl
  | warden => rfl
  | sideband => exact s.sbdWordDone_key
  | seq n => exact s.wrDone_key n true

theorem State.wordEnds_att (s : State) (r : Requester) : (s.wordEnds r).att = s.att := by
  cases r with
  | host => rfl
  | warden => rfl
  | sideband => exact s.sbdWordDone_att
  | seq n => exact s.wrDone_att n true

theorem State.wordEnds_hst (s : State) (r : Requester) : (s.wordEnds r).hst = s.hst := by
  cases r with
  | host => rfl
  | warden => rfl
  | sideband => exact s.sbdWordDone_hst
  | seq n => exact s.wrDone_hst n true

/-- An allowed write of a register whose write is not audited takes effect behind the counters of its requester. -/
theorem completes_plain {i : Instr} {n : RegName} {a : Nat} {P : State → Prop} (ht : s.hostTakes r = true)
    (hi : exec i s = .next (s.submit r n v a)) (hg : n.geo.words = 1) (hro : (regAt n a).readOnly = false)
    (hun : (regAt n a).unaudited = true)
    (hok : (s.counted r).judgeAccess (Origin.ofReq r) ((regAt n a).anyOwner || s.ownerMay (Origin.ofReq r) (regAt n a).first)
      (regAt n a).first = .none ∧ (s.counted r).judgeUnaudited (regAt n a) v = .none)
    (hP : ∀ p, P ((({ s with pmc := p } : State).actNow r (regAt n a) v).wordEnds r)) : Completes i s P := by
  obtain ⟨p, hp⟩ := s.counted_only r
  have hsub : s.submit r n v a = ((s.counted r).actNow r (regAt n a) v).wordEnds r := by
    rw [State.submit, if_pos ht, hg]
    show State.submitReg _ r (regAt n a) v = _
    have hown : (s.counted r).ownerMay (Origin.ofReq r) (regAt n a).first = s.ownerMay (Origin.ofReq r) (regAt n a).first := by rw [hp]; rfl
    rw [State.submitReg, hro, hun, if_neg Bool.false_ne_true, if_pos rfl, State.submitPlain]
    rw [hown, hok.1]
    dsimp only
    rw [hok.2]
  rw [hsub, hp] at hi
  exact ⟨_, hi, hP p⟩

/-- An event is counted and moves no unit, whatever the recorder does with it. -/
theorem State.recEvent_counts (s : State) (code arg : Nat) :
    (s.recEvent code arg).rcd.count = s.rcd.count.set code ((s.rcd.count.get code 0 + 1) % 2 ^ 48) ∧
      (s.recEvent code arg).rcd.units = s.rcd.units := by
  unfold State.recEvent
  extract_lets cnt _ s1 cfg minint rested
  clear_value rested
  split
  · split <;> exact ⟨rfl, rfl⟩
  · exact ⟨rfl, rfl⟩

theorem State.recEvent_count (s : State) (code arg : Nat) :
    (s.recEvent code arg).rcd.count.get code 0 = (s.rcd.count.get code 0 + 1) % 2 ^ 48 := by
  rw [(s.recEvent_counts code arg).1]
  exact Tab.get_set_same ..

/-! ### Key parameters -/

theorem keyParam_attr (s : State) (v : Nat) : bits (s.keyParam r .attr v).key.attr 3 0 = bits v 3 0 ∧
    bits (s.keyParam r .attr v).key.attr 11 8 = bits v 11 8 := by
  have hattr : (s.keyParam r .attr v).key.attr = putBits (putBits 0 11 8 (bits v 11 8)) 3 0 (bits v 3 0) := by
    unfold State.keyParam
    rfl
  rw [hattr]
  refine ⟨(bits_putBits ..).trans (Nat.mod_mod _ _), ?_⟩
  simp only [putBits, bits]
  omega

theorem keyParam_ctx (s : State) (v : Nat) : (s.keyParam r .ctx v).key.ctx = v := rfl

theorem keyParam_data (s : State) (w : Fin 10) (v : Nat) : (s.keyParam r (.data w) v).key.data.get w 0 = v := Tab.get_set_same ..

/-! ### Reports and recorder -/

theorem attGo_request (s : State) {q : Nat} (h : s.attRefuses q = .none) : ((s.attGo q).attSlot q).st = 1 := by
  unfold State.attRefuses at h
  unfold State.attGo
  dsimp only
  split at h
  · cases h
  next h1 =>
    split at h
    · cases h
    next h2 =>
      split at h
      · cases h
      next h3 =>
        rw [if_neg h1, if_neg h2, if_neg h3]
        exact congrArg AttSlot.st (Tab.get_set_same ..)

/-- The commands of REC_CTL, one bit each. -/
theorem recCtl_bits (s : State) {clr cnt snap : Bool} (h31 : bitOn v 31 = clr) (h30 : bitOn v 30 = cnt) (h29 : bitOn v 29 = snap) :
    s.recCtl r v = let s1 := if clr then s.clrAll (recPath r) else s
      let s2 := if cnt then s1.clrCnt else s1
      if snap then s2.recEvent 0x3F 0 else s2 := by
  simp only [State.recCtl, h31, h30, h29]

theorem clrAll_idle (s : State) {path : Nat} (h : s.rcd.bufs = []) :
    (s.clrAll path).rcd.units = [] ∧ (s.clrAll path).rcd.count.get 0x3E 0 = (s.rcd.count.get 0x3E 0 + 1) % 2 ^ 48 := by
  rw [State.clrAll, if_pos h, State.clearRecs, State.recEvent_count]
  exact ⟨(State.recEvent_counts ..).2, rfl⟩

theorem clrAll_busy (s : State) {path : Nat} (h : s.rcd.bufs ≠ []) : (s.clrAll path).rcd.clr = s.rcd.clr ++ [path] := by
  rw [State.clrAll, if_neg h]

/-! ### The mailbox -/

theorem mbxCtl_go (s : State) : (s.mbxCtl (2 ^ 31)).hst.mbx.length = s.hst.mbx.length + 1 ∧ (s.mbxCtl (2 ^ 31)).hst.busy = false := by
  have h : s.mbxCtl (2 ^ 31) = s.mbxTake := by
    simp only [State.mbxCtl, show bitOn (2 ^ 31) 30 = false by decide, show bitOn (2 ^ 31) 31 = true by decide, if_true,
      Bool.false_eq_true, if_false]
  rw [h]
  exact ⟨List.length_append .., rfl⟩

theorem mbxCtl_ack (s : State) : (s.mbxCtl (2 ^ 30)).hst.rsp = none := by
  simp only [State.mbxCtl, show bitOn (2 ^ 30) 30 = true by decide, show bitOn (2 ^ 30) 31 = false by decide, if_true,
    Bool.false_eq_true, if_false]

/-- Settles O24: each write acts behind the counters of its requester, and what the requester learns moves no part of it. -/
theorem unauditedWritesComplete : Obligations.UnauditedWritesComplete := by
  unfold Obligations.UnauditedWritesComplete
  intro r v w q u s ht ok count
  refine ⟨fun hok => ?_, fun hok => ?_, fun hok => ?_, fun hok => ?_, fun hok hb => ?_, fun hok hb => ?_, fun hok => ?_, fun hok => ?_,
    fun hok => ?_, fun hok => ?_, fun hok => ?_⟩
  · refine completes_plain ht rfl rfl rfl rfl hok fun p => ?_
    rw [State.wordEnds_key]
    exact keyParam_attr ..
  · refine completes_plain ht rfl rfl rfl rfl hok fun p => ?_
    rw [State.wordEnds_key]
    exact keyParam_ctx ..
  · refine completes_plain ht rfl rfl rfl rfl hok fun p => ?_
    rw [State.wordEnds_key, State.actNow]
    have hw : Fin.ofNat 10 w.val = w := Fin.ext (Nat.mod_eq_of_lt w.isLt)
    dsimp only [regAt]
    rw [hw]
    exact keyParam_data ..
  · have hgo := hok.2
    refine completes_plain ht rfl rfl rfl rfl hok fun p => ?_
    obtain ⟨c, hc⟩ := s.counted_only r
    rw [hc] at hgo
    rw [State.attSlot, State.wordEnds_att]
    exact attGo_request { s with pmc := p } hgo
  · refine completes_plain ht rfl rfl rfl rfl hok fun p => ?_
    show (State.wordEnds _ r).rcd.units = [] ∧ (State.wordEnds _ r).rcd.count.get 0x3E 0 = _
    rw [State.wordEnds_rcd]
    show (State.recCtl _ r (2 ^ 31)).rcd.units = [] ∧ (State.recCtl _ r (2 ^ 31)).rcd.count.get 0x3E 0 = _
    rw [recCtl_bits _ (clr := true) (cnt := false) (snap := false) (by decide) (by decide) (by decide)]
    exact clrAll_idle { s with pmc := p } hb
  · refine completes_plain ht rfl rfl rfl rfl hok fun p => ?_
    rw [State.wordEnds_rcd]
    show (State.recCtl _ r (2 ^ 31)).rcd.clr = _
    rw [recCtl_bits _ (clr := true) (cnt := false) (snap := false) (by decide) (by decide) (by decide)]
    exact clrAll_busy { s with pmc := p } hb
  · refine completes_plain ht rfl rfl rfl rfl hok fun p => ?_
    rw [State.wordEnds_rcd]
    show (State.recCtl _ r (2 ^ 30)).rcd.count = _
    rw [recCtl_bits _ (clr := false) (cnt := true) (snap := false) (by decide) (by decide) (by decide)]
    rfl
  · refine completes_plain ht rfl rfl rfl rfl hok fun p => ?_
    show (State.wordEnds _ r).rcd.count.get 0x3F 0 = _
    rw [State.wordEnds_rcd]
    show (State.recCtl _ r (2 ^ 29)).rcd.count.get 0x3F 0 = _
    rw [recCtl_bits _ (clr := false) (cnt := false) (snap := true) (by decide) (by decide) (by decide)]
    exact State.recEvent_count { s with pmc := p } 0x3F 0
  · refine completes_plain ht rfl rfl rfl rfl hok fun p => ?_
    rw [State.wordEnds_rcd]
    exact Tab.get_set_same ..
  · refine completes_plain ht rfl rfl rfl rfl hok fun p => ?_
    rw [State.wordEnds_hst]
    exact mbxCtl_go { s with pmc := p }
  · refine completes_plain ht rfl rfl rfl rfl hok fun p => ?_
    rw [State.wordEnds_hst]
    exact mbxCtl_ack { s with pmc := p }

end Sys2Proof.Machine
end

section
/-! The events of the Gauge and its step edge (R37, R39, R43, R46, R48 to R50, R54, R58). -/

namespace Sys2Proof.Machine

set_option Elab.async false

variable {s : State}

/-- A command whose condition holds completes with what it does then. -/
theorem Completes.of_if {i : Instr} {P : State → Prop} {c : Prop} {_ : Decidable c} {u w : State}
    (hi : exec i s = .next (if c then u else w)) (hc : c) (hP : P u) : Completes i s P :=
  ⟨u, by rw [hi, if_pos hc], hP⟩

theorem Completes.of_next {i : Instr} {P : State → Prop} {u : State} (hi : exec i s = .next u) (hP : P u) : Completes i s P := ⟨u, hi, hP⟩

/-! ### Holdover, steps and what is held -/

theorem State.latchAtom_gau (s : State) : s.latchAtom.gau = s.gau := by
  unfold State.latchAtom
  split
  · rfl
  · split <;> rfl

theorem State.ageStart_gau (s : State) : s.ageStart.gau = s.gau := by unfold State.ageStart; split <;> rfl

theorem State.dropSched_some_gau {d : Sched} (h : s.gau.sched = some d) (code : Nat) :
    (s.dropSched code).gau = { s.gau with sched := none, stepCode := code } := by
  simp only [State.dropSched, h, State.status_gau]

/-- Entry into HOLDOVER: what of the Gauge it sets; where the cause drops the scheduled step, no step stays (R40, R84). -/
theorem State.enterHoldover_gau (s : State) (cause : Nat) : ∃ sched code, (s.enterHoldover cause).gau = { s.gau with
    st := .holdover, cause := cause, fadj := if cause = 5 then s.gau.fix else s.frozen, bh := s.gau.bound, n := 0
    rem := if cause = 2 ∨ cause = 3 then 0 else s.gau.rem, sched := sched, stepCode := code } ∧
    (cause = 2 → sched = none) := by
  unfold State.enterHoldover
  extract_lets f s1 _ _ s2 s3
  have h2 : s2.gau = { s.gau with
      st := .holdover, cause := cause, fadj := f, bh := s.gau.bound, n := 0
      rem := if cause = 2 ∨ cause = 3 then 0 else s.gau.rem } := by
    show ({ s1.gau with
      st := .holdover, cause := cause, fadj := f, bh := s1.gau.bound, n := 0
      rem := if cause = 2 ∨ cause = 3 then 0 else s1.gau.rem } : Gau) = _
    rw [show s1.gau = s.gau from s.latchAtom_gau]
  clear_value s2
  have h3 : ∃ sched code, s3.gau = { s2.gau with sched := sched, stepCode := code } ∧ (cause = 2 → sched = none) := by
    unfold s3
    split
    · obtain ⟨c, hc⟩ := s2.dropSched_gau 13
      exact ⟨none, c, hc, fun _ => rfl⟩
    next h => exact ⟨_, _, rfl, fun hc => absurd (.inl hc) h⟩
  obtain ⟨sched, code, h3, hnone⟩ := h3
  refine ⟨sched, code, ?_, hnone⟩
  have hage : (if s3.ageable = true then s3.ageStart else s3).gau = s3.gau := by
    split
    · exact s3.ageStart_gau
    · rfl
  rw [State.stateEvent, State.recEvent_gau, hage, h3, h2]

theorem heartbeatTimeout_spec (s : State) (hst : s.gau.st = .locked) (hon : s.on .GAU_CTL 0 = true)
    (hlate : s.gau.hbAt + s.fl .GAU_HB_MAX 13 0 * 1000000 ≤ s.gau.l) :
    Completes .heartbeatTimeout s (fun t => t.gau.st = .holdover ∧ t.gau.cause = 2 ∧ t.gau.rem = 0 ∧ t.gau.sched = none ∧
      t.gau.fadj = s.frozen ∧ t.gau.bh = s.gau.bound ∧ t.gau.n = 0) := by
  refine .of_if rfl ⟨hst, hon, hlate⟩ ?_
  obtain ⟨sched, code, h, hnone⟩ := s.enterHoldover_gau 2
  rw [h, hnone rfl]
  exact ⟨rfl, rfl, rfl, rfl, rfl, rfl, rfl⟩

theorem State.msTick_gau (s : State) : s.msTick.gau = { s.gau with
    n := min (2 ^ 32 - 1) (s.gau.n + 1)
    bound := ({ s with gau := { s.gau with n := min (2 ^ 32 - 1) (s.gau.n + 1) } } : State).hoBound } := by
  unfold State.msTick
  rw [State.squelch_gau]
  dsimp only
  split <;> rfl

theorem holdoverMsTick_spec (s : State) (hst : s.gau.st = .holdover) (hms : s.atMs = true) (hfresh : s.fresh 0x20 = true) :
    let n := min (2 ^ 32 - 1) (s.gau.n + 1)
    Completes .holdoverMsTick s (fun t => t.gau.n = n ∧ t.gau.bound = if n = 2 ^ 32 - 1 then 0xFFFFFFFF else
      min 0xFFFFFFFF (s.gau.bh + growth (s.inForce .HLD_MODEL_FU s.model) (s.inForce .HLD_MODEL_AU s.model) n)) := by
  intro n
  refine .of_if rfl ⟨hms, hst, hfresh⟩ ?_
  rw [State.msTick_gau]
  exact ⟨rfl, rfl⟩

/-- A witness that agrees releases what is held. -/
theorem State.witnessTest_releases {h : Held} (hh : s.gau.held = some h) (ha : s.agrees h.src h.grp h.amt = true) :
    s.witnessTest = s.releaseHeld 5 := by
  simp only [State.witnessTest, hh, ha, if_true]

theorem State.restart_gau (s : State) : s.restart.gau = { s.gau with
    guardOn := true, p := s.gau.g + s.outstanding, pRate := (s.inForce .GAU_INC : Int) + s.gau.fadj, fix := s.gau.fadj } := rfl

theorem State.releaseHeld_step {h : Held} (hh : s.gau.held = some h) (hst : h.step = true) (code : Nat) :
    (s.releaseHeld code).gau.held = none ∧ (s.releaseHeld code).gau.stepCode = code ∧
      (s.releaseHeld code).gau.sched = some ⟨s.releaseT, h.amt, h.clr, h.by_, h.num⟩ := by
  unfold State.releaseHeld
  simp only [hh, hst, if_true]
  obtain ⟨c, hc⟩ := State.dropSched_gau { s with gau := { s.gau with held := none } } 12
  simp only [State.restart_gau, State.status_gau, hc]
  exact ⟨trivial, trivial, trivial⟩

theorem State.releaseHeld_slew {h : Held} (hh : s.gau.held = some h) (hst : h.step = false)
    (hr : (s.gau.rem + h.amt * 256).natAbs < 2 ^ 71) (code : Nat) :
    (s.releaseHeld code).gau.held = none ∧ (s.releaseHeld code).gau.stepCode = code ∧
      (s.releaseHeld code).gau.rem = s.gau.rem + h.amt * 256 := by
  have hmax : ¬ (s.gau.rem + fine h.amt).natAbs > remMax := by
    rw [fine, remMax]; omega
  unfold State.releaseHeld
  simp only [hh, hst, Bool.false_eq_true, if_false, hmax, State.restart_gau, State.status_gau]
  exact ⟨trivial, trivial, rfl⟩

theorem holdExpiry_spec (s : State) {h : Held} (hh : s.gau.held = some h)
    (hlate : h.at_ + s.fl .GAU_GUARD 27 16 * 1000000000 ≤ s.gau.l) :
    Completes .holdExpiry s (fun t => t.gau.held = none ∧ t.gau.stepCode = 7 ∧ t.gau.rem = s.gau.rem) := by
  refine ⟨s.dropHeld 7, ?_, ?_⟩
  · show execHoldExpiry s = _
    simp only [execHoldExpiry, hh, hlate, if_true]
  · simp only [State.dropHeld, hh, State.status_gau, and_self]

theorem guardBreach_open_spec (s : State) (hb : s.breachNow = true) (hw : s.witnessNear = false) :
    Completes .guardBreach s (fun t => t.gau.breach = true ∧ t.gau.held = none ∧ t.gau.st = .holdover ∧ t.gau.cause = 5 ∧
      t.gau.stepCode = 14 ∧ t.gau.fadj = s.gau.fix) := by
  refine .of_if rfl hb ?_
  rw [hw, if_neg Bool.false_ne_true, State.openBreach]
  dsimp only
  obtain ⟨_, hc⟩ := s.dropHeld_gau 12
  obtain ⟨_, _, h, -⟩ := (s.dropHeld 12).enterHoldover_gau 5
  rw [h, hc]
  exact ⟨rfl, rfl, rfl, rfl, rfl, rfl⟩

/-- Only where no breach is open does one open. -/
theorem not_breach_of_breachNow (hb : s.breachNow = true) : s.gau.breach = false := by
  simp only [State.breachNow, Bool.and_eq_true, Bool.not_eq_true'] at hb
  exact hb.1.2

/-- The guard's window restarts where the Gauge and what is outstanding stand. -/
def State.Restarted (s t : State) : Prop :=
  t.gau.p = s.gau.g + s.outstanding ∧ t.gau.pRate = (s.inForce .GAU_INC : Int) + s.gau.fadj ∧ t.gau.fix = s.gau.fadj ∧ t.gau.guardOn = true

theorem guardBreach_witnessed_spec (s : State) (hb : s.breachNow = true) (hw : s.witnessNear = true) :
    Completes .guardBreach s (fun t => s.Restarted t ∧ t.gau.breach = false) := by
  refine .of_if rfl hb ?_
  rw [hw, if_pos rfl]
  exact ⟨⟨rfl, rfl, rfl, rfl⟩, (not_breach_of_breachNow hb : s.gau.breach = false)⟩

theorem breachWitnessClose_spec (s : State) (hb : s.gau.breach = true) (hw : s.witnessNear = true) :
    Completes .breachWitnessClose s (fun t => s.Restarted t ∧ t.gau.breach = false ∧ t.gau.stepCode = 5) :=
  .of_if rfl ⟨hb, hw⟩ ⟨⟨rfl, rfl, rfl, rfl⟩, rfl, rfl⟩

theorem guardWindowRestart_spec (s : State) (hd : s.windowDue = true) (hf : s.fresh 0x23 = true) :
    Completes .guardWindowRestart s s.Restarted :=
  .of_if rfl ⟨hd, hf⟩ ⟨rfl, rfl, rfl, rfl⟩

/-! ### The leap second -/

/-- A field that is set reads back, and a field beside it keeps its value. -/
theorem State.setFl_fl (s : State) (r : RegName) (hi lo w i j l : Nat) :
    (s.setFl r hi lo w i j l).fl r hi lo i j l = w % 2 ^ (hi + 1 - lo) := by
  rw [State.fl, State.inForce, State.setFl]
  dsimp only
  rw [Tab.get_set_same, bits_putBits]

theorem State.setFl_fl_ne (s : State) (r : RegName) {hi lo w i j l hi' lo' : Nat} (h : hi' < lo ∨ hi < lo') :
    (s.setFl r hi lo w i j l).fl r hi' lo' i j l = s.fl r hi' lo' i j l := by
  rw [State.fl, State.inForce, State.setFl]
  dsimp only
  rw [Tab.get_set_same]
  refine Nat.eq_of_testBit_eq fun k => ?_
  rw [State.fl, testBit_bits, testBit_bits, testBit_putBits]
  by_cases hk : k < hi' + 1 - lo'
  · rw [if_neg (by omega)]
  · simp [hk]

/-- OFFSET moves by one second, and the request is spent. -/
theorem leapMoved (s : State) (d : Nat) : let t := (s.setFl .GAU_UTC 15 0 (d % 65536)).setFl .GAU_UTC 18 17 0
    t.fl .GAU_UTC 15 0 = d % 65536 ∧ t.fl .GAU_UTC 18 17 = 0 := by
  refine ⟨?_, State.setFl_fl ..⟩
  rw [State.setFl_fl_ne _ _ (.inl (by omega)), State.setFl_fl]
  exact Nat.mod_mod _ _

theorem leapSecond_up_spec (s : State) (hup : s.on .GAU_UTC 17 = true) (hat : s.atGns (s.inForce .GAU_LEAP_AT) = true) :
    Completes .leapSecond s (fun t => t.fl .GAU_UTC 15 0 = (s.fl .GAU_UTC 15 0 + 1) % 65536 ∧ t.fl .GAU_UTC 18 17 = 0) := by
  refine .of_if rfl ⟨.inl hup, hat⟩ ?_
  simp only [hup, if_true]
  exact leapMoved ..

theorem leapSecond_down_spec (s : State) (hup : s.on .GAU_UTC 17 = false) (hdown : s.on .GAU_UTC 18 = true)
    (hat : s.atGns (s.inForce .GAU_LEAP_AT) = true) :
    Completes .leapSecond s (fun t => t.fl .GAU_UTC 15 0 = (s.fl .GAU_UTC 15 0 + 65535) % 65536 ∧ t.fl .GAU_UTC 18 17 = 0) := by
  refine .of_if rfl ⟨.inr hdown, hat⟩ ?_
  simp only [hup, Bool.false_eq_true, if_false]
  exact leapMoved ..

/-- Settles O25: each event does what its condition calls for, and what follows it leaves the Gauge. -/
theorem gaugeEventsComplete : Obligations.GaugeEventsComplete := by
  unfold Obligations.GaugeEventsComplete
  intro s n fu au restarted
  refine ⟨heartbeatTimeout_spec s, holdoverMsTick_spec s, fun h hh ha hst => ?_, fun h hh ha hst hr => ?_,
    fun h hh => holdExpiry_spec s hh, guardBreach_open_spec s, guardBreach_witnessed_spec s, breachWitnessClose_spec s,
    guardWindowRestart_spec s, leapSecond_up_spec s, leapSecond_down_spec s⟩
  · exact .of_next rfl (State.witnessTest_releases hh ha ▸ State.releaseHeld_step hh hst 5)
  · exact .of_next rfl (State.witnessTest_releases hh ha ▸ State.releaseHeld_slew hh hst hr 5)

/-! ### The step edge -/

/-- What follows from a step leaves the Gauge block, but for the step that is done. -/
theorem State.stepEffects_done {d e : Sched} (h : s.gau.sched = some e) :
    (s.stepEffects d).gau = { s.gau with sched := none, stepCode := 2 } := by
  unfold State.stepEffects
  extract_lets s1 s2 s3
  have h3 : s3.gau = s.gau := by
    show ((List.range 4).foldl State.stepLink ((List.range 8).foldl State.stepTable s2)).gau = _
    rw [State.foldl_gau State.stepLink_gau, State.foldl_gau State.stepTable_gau]
    show ((List.range 4).foldl State.ppsSkip (s1.stepTsv d.amt)).gau = _
    rw [State.foldl_gau State.ppsSkip_gau, State.stepTsv_gau]
    show (((s.stepPosts d.amt).stepGroupB (fine d.amt)).stepGroupC (fine d.amt)).gau = _
    rw [State.stepGroupC_gau, State.stepGroupB_gau, State.stepPosts_gau]
  clear_value s3
  rw [State.dropSched_some_gau (by rw [State.pmcTime_gau, h3]; exact h), State.pmcTime_gau, h3]

/-- Settles O26: the advance, the amount of the step and its end are all that the step edge makes of the Gauge. -/
theorem stepEdgeCompletes : Obligations.StepEdgeCompletes := by
  unfold Obligations.StepEdgeCompletes
  intro d s hrun hs hnext rem sl
  refine .of_if rfl ⟨hrun, hnext⟩ ?_
  have hedge : s.gEdge = (((s.advance (s.stepRem d) sl).stepGauge s.gau.g d).stepEffects d).edgeTakes sl := by
    simp only [State.gEdge, hs, hnext, if_true]
    rfl
  obtain ⟨b, hb⟩ := (((s.advance (s.stepRem d) sl).stepGauge s.gau.g d).stepEffects d).edgeTakes_gau sl
  have heff : (((s.advance (s.stepRem d) sl).stepGauge s.gau.g d).stepEffects d).gau = _ := State.stepEffects_done (e := d) hs
  rw [hedge, hb, heff]
  exact ⟨rfl, rfl, rfl, rfl, rfl⟩

end Sys2Proof.Machine
end

section
/-! The observations, losses, posts and seconds of the candidates and of holdover (R61, R65 to R75, R84, R87). -/

namespace Sys2Proof.Machine

set_option Elab.async false

variable {s t : State} {k : Nat}

/-! ### One candidate among the others -/

theorem ite_cand {c : Prop} {_ : Decidable c} {u w : State} {x : Cand} (hu : u.cand k = x) (hw : w.cand k = x) :
    (if c then u else w).cand k = x := by
  split
  · exact hu
  · exact hw

theorem State.setCand_cand_ne (s : State) {k j : Nat} (c : Cand) (h : j ≠ k) : (s.setCand k c).cand j = s.cand j :=
  Tab.get_set_ne _ _ _ h

theorem cand_of_sel (h : t.sel = s.sel) (k : Nat) : t.cand k = s.cand k := by rw [State.cand, h]; rfl

theorem State.qualEvent_sel (s : State) (k : Nat) (entered : Bool) (cause : Nat) : (s.qualEvent k entered cause).sel = s.sel :=
  State.recEvent_sel ..

/-- A determination keeps what a candidate is, but for DISPUTED. -/
theorem State.determine_cand (s : State) (k : Nat) : ∃ d, s.determine.cand k = { s.cand k with disputed := d } := SameCands.determine s k

theorem State.disqualify_cand (s : State) {k cause : Nat} {dest : CState} {obs : List (Int × Int)}
    (h : (s.cand k).st = .wait ∨ (s.cand k).st = .qual) : (s.disqualify k cause dest obs).cand k = { s.cand k with
      st := dest, cause := cause, hist := [], freq := 0, tdev := none, disputed := false, obs := obs, acc := 0
      wtr := if (s.cand k).barred then none else some s.gau.l } := by
  unfold State.disqualify
  rcases h with h | h
  · simp only [h]
    rw [if_neg (by decide), State.cand, State.pmcTime_sel, State.bump_sel]
    exact State.setCand_cand ..
  · simp only [h]
    rw [if_pos trivial, State.qualEvent, State.cand, State.recEvent_sel, State.pmcTime_sel, State.bump_sel]
    exact State.setCand_cand ..

theorem State.disqualify_cand_ne (s : State) {k j cause : Nat} {dest : CState} {obs : List (Int × Int)} (hj : j ≠ k) :
    (s.disqualify k cause dest obs).cand j = s.cand j := by
  have hmove (c : Cand) : (State.pmcTime ((s.setCand k c).bump .SEL_CNT 15 0 1 k) 4 k).cand j = s.cand j := by
    rw [State.cand, State.pmcTime_sel, State.bump_sel]
    exact State.setCand_cand_ne s c hj
  unfold State.disqualify
  dsimp only
  split
  · exact ite_cand ((cand_of_sel (State.qualEvent_sel ..) j).trans (hmove _)) (hmove _)
  · exact ite_cand ((cand_of_sel (State.qualEvent_sel ..) j).trans (hmove _)) (hmove _)
  · rfl

/-! ### Observations -/

theorem State.firstObs_cand (s : State) (k : Nat) (e τ : Int) (seen : Nat) :
    ((s.firstObs k e τ seen).cand k).st = .wait ∧ ((s.firstObs k e τ seen).cand k).obs = [(e, τ)] ∧
      ((s.firstObs k e τ seen).cand k).acc = 1 ∧ ((s.firstObs k e τ seen).cand k).seen = some seen ∧
      ((s.firstObs k e τ seen).cand k).post = (s.cand k).post := by
  unfold State.firstObs
  obtain ⟨d, hd⟩ := State.determine_cand (s.setCand k { s.cand k with
    st := .wait, obs := [(e, τ)], acc := 1, seen := some seen, wtr := if (s.cand k).barred then none else some s.gau.l }) k
  rw [hd, State.setCand_cand]
  exact ⟨rfl, rfl, rfl, rfl, rfl⟩

/-- The observation of an edge or mark candidate, made once at an edge (R61). -/
theorem State.edgeObs_fresh (s : State) (hown : ownTime k = false) (hf : s.fresh (obsKey k) = true) :
    s.edgeObs k = ((s.setCand k { s.cand k with edges := 0 }).fire (obsKey k)).observe k s.gau.l none := by
  rw [State.edgeObs, State.observeNow, if_pos (by exact hf), hown, if_neg Bool.false_ne_true]
  rfl

theorem State.observe_nosig (s : State) (e : Nat) (τ : Option Int) (h : (s.cand k).st = .nosig) :
    s.observe k e τ = (s.pmcTime 3 k).firstObs k ((e * 2 ^ 32 : Nat) : Int) (τ.getD 0) e := by
  simp only [State.observe, h]

theorem observation_first_spec (s : State) (k : Fin 30) (hown : ownTime k = false) (hf : s.fresh (obsKey k) = true)
    (hst : (s.cand k).st = .nosig) : Completes (.candidateObservation k ()) s (fun t =>
      (t.cand k).st = .wait ∧ (t.cand k).obs = [(((s.gau.l * 2 ^ 32 : Nat) : Int), 0)] ∧ (t.cand k).acc = 1 ∧
      (t.cand k).seen = some s.gau.l) := by
  refine ⟨s.edgeObs k, ?_, ?_⟩
  · show execCandidateObservation k () s = _
    rw [execCandidateObservation, hown, if_neg Bool.false_ne_true]
  · rw [s.edgeObs_fresh hown hf, State.observe_nosig]
    · obtain ⟨h1, h2, h3, h4, -⟩ := State.firstObs_cand (State.pmcTime ((s.setCand k { s.cand k with edges := 0 }).fire (obsKey k)) 3 k) k
        ((s.gau.l * 2 ^ 32 : Nat) : Int) ((none : Option Int).getD 0) s.gau.l
      exact ⟨h1, h2, h3, h4⟩
    · show ((s.setCand k { s.cand k with edges := 0 }).cand k).st = _
      rw [State.setCand_cand]
      exact hst

/-- The second observation of a run, one interval after the first (R66). -/
theorem State.observe_second (s : State) {p : Int × Int} {seen e : Nat} (hst : (s.cand k).st = .wait) (hobs : (s.cand k).obs = [p])
    (hseen : (s.cand k).seen = some seen) (h7 : 7 * s.inForce .SEL_PER k ≤ 8 * (e - seen))
    (h9 : 8 * (e - seen) ≤ 9 * s.inForce .SEL_PER k) :
    ((s.observe k e none).cand k).st = .wait ∧
    ((s.observe k e none).cand k).obs =
      [(((e * 2 ^ 32 : Nat) : Int), p.2 + ((s.inForce .SEL_PER k * 2 ^ 32 : Nat) : Int)), p] ∧
    ((s.observe k e none).cand k).seen = some e := by
  have hn : intervals (s.inForce .SEL_PER k) (e - seen) = some 1 := if_pos ⟨h7, h9⟩
  have hlate : ¬ 3 * s.inForce .SEL_PER k < e - seen := by omega
  have hobserve : s.observe k e none = ((s.pmcTime 3 k).bump .SEL_CNT 31 16 0 k).setCand k
      { (State.bump (s.pmcTime 3 k) .SEL_CNT 31 16 0 k).cand k with
        obs := [(((e * 2 ^ 32 : Nat) : Int), p.2 + ((1 * s.inForce .SEL_PER k * 2 ^ 32 : Nat) : Int)), p]
        acc := min 2 ((s.cand k).acc + 1), seen := some e } := by
    simp only [State.observe, hst, hobs, hseen, hlate, hn, if_false, Option.any_none, Bool.false_eq_true, Option.getD_none]
  rw [hobserve, State.setCand_cand, Nat.one_mul]
  refine ⟨?_, rfl, rfl⟩
  show ((State.bump (s.pmcTime 3 k) .SEL_CNT 31 16 0 k).cand k).st = _
  exact (congrArg Cand.st (cand_of_sel ((State.bump_sel ..).trans (State.pmcTime_sel ..)) k)).trans hst

theorem observation_second_spec (s : State) (k : Fin 30) {p : Int × Int} {seen : Nat} (hown : ownTime k = false)
    (hf : s.fresh (obsKey k) = true) (hst : (s.cand k).st = .wait) (hobs : (s.cand k).obs = [p]) (hseen : (s.cand k).seen = some seen)
    (h7 : 7 * s.inForce .SEL_PER k ≤ 8 * (s.gau.l - seen)) (h9 : 8 * (s.gau.l - seen) ≤ 9 * s.inForce .SEL_PER k) :
    Completes (.candidateObservation k ()) s (fun t => (t.cand k).st = .wait ∧
      (t.cand k).obs = [(((s.gau.l * 2 ^ 32 : Nat) : Int), p.2 + ((s.inForce .SEL_PER k * 2 ^ 32 : Nat) : Int)), p] ∧
      (t.cand k).seen = some s.gau.l) := by
  refine ⟨s.edgeObs k, ?_, ?_⟩
  · show execCandidateObservation k () s = _
    rw [execCandidateObservation, hown, if_neg Bool.false_ne_true]
  · have hcand : ((s.setCand k { s.cand k with edges := 0 }).fire (obsKey k)).cand k = { s.cand k with edges := 0 } :=
      s.setCand_cand k _
    rw [s.edgeObs_fresh hown hf]
    exact State.observe_second ((s.setCand k { s.cand k with edges := 0 }).fire (obsKey k)) ((congrArg Cand.st hcand).trans hst)
      ((congrArg Cand.obs hcand).trans hobs) ((congrArg Cand.seen hcand).trans hseen) h7 h9

theorem State.lost_running (h : s.lost k = true) : (s.cand k).st = .wait ∨ (s.cand k).st = .qual := by
  unfold State.lost at h
  split at h
  · exact .inl ‹_›
  · exact .inr ‹_›
  · cases h

theorem candidateLoss_spec (s : State) (k : Fin 30) (h : s.lost k = true) : Completes (.candidateLoss k) s (fun t =>
    (t.cand k).st = .nosig ∧ (t.cand k).cause = 1 ∧ (t.cand k).hist = []) := by
  refine .of_if rfl h ?_
  obtain ⟨d, hd⟩ := State.determine_cand (s.disqualify k 1 .nosig []) k
  rw [hd, s.disqualify_cand (State.lost_running h)]
  exact ⟨rfl, rfl, rfl⟩

/-! ### The second -/

/-- A short history spans no frequency test (R68). -/
theorem State.fvalid_short (h : (s.cand k).hist.length ≤ 10) : s.fvalid k = false := by
  rw [State.fvalid, State.span]
  exact decide_eq_false (by omega)

theorem State.candSecond_ne (s : State) {j : Nat} (h : k ≠ j) : (s.candSecond j).cand k = s.cand k := by
  have hset (c d : Cand) : ((s.setCand j c).setCand j d).cand k = s.cand k :=
    (State.setCand_cand_ne _ _ h).trans (State.setCand_cand_ne _ _ h)
  unfold State.candSecond
  dsimp only
  split
  · exact ite_cand rfl (ite_cand ((State.disqualify_cand_ne _ h).trans (hset _ _)) (hset _ _))
  · exact ite_cand rfl (ite_cand ((State.disqualify_cand_ne _ h).trans (hset _ _)) (hset _ _))
  · rfl

/-- The history of a candidate in WAIT takes the newest pair; while it is short it brings no frequency test (R68). -/
theorem State.candSecond_hist (s : State) {p : Int × Int} {r : List (Int × Int)} (hst : (s.cand k).st = .wait)
    (hobs : (s.cand k).obs = p :: r) (hacc : (s.cand k).acc ≠ 0) (hlen : (s.cand k).hist.length < 9) :
    ((s.candSecond k).cand k).hist = (p.1 - p.2, p.2) :: (s.cand k).hist := by
  have htake : ((p.1 - p.2, p.2) :: (s.cand k).hist).take 1024 = (p.1 - p.2, p.2) :: (s.cand k).hist :=
    List.take_of_length_le (by simp; omega)
  have hshort (u : State) (c : Cand) (hc : c.hist = (p.1 - p.2, p.2) :: (s.cand k).hist) : (u.setCand k c).fvalid k = false := by
    refine State.fvalid_short ?_
    rw [State.setCand_cand, hc]
    simp; omega
  unfold State.candSecond
  simp only [hst, hobs, hacc, if_false, htake]
  rw [hshort _ _ rfl]
  simp only [Bool.false_eq_true, false_and, if_false, State.setCand_cand]

/-- What one step of a fold makes of its own candidate, the whole fold does. -/
theorem foldl_cand_once {α : Type} {f : State → Nat → State} {g : Cand → α} {x : α} (hne : ∀ t j, k ≠ j → (f t j).cand k = t.cand k)
    (hself : ∀ t, t.cand k = s.cand k → g ((f t k).cand k) = x) {l : List Nat} (hl : l.Nodup) (hk : k ∈ l) :
    g ((l.foldl f s).cand k) = x := by
  have hrest (l : List Nat) (hk : k ∉ l) (t : State) : (l.foldl f t).cand k = t.cand k :=
    List.foldlRecOn (motive := fun u : State => u.cand k = t.cand k) l f rfl fun u hu j hj =>
      (hne u j fun h => hk (h ▸ hj)).trans hu
  obtain ⟨l₁, l₂, rfl⟩ := List.append_of_mem hk
  have h₂ : k ∉ l₂ := (List.nodup_cons.mp (List.nodup_append.mp hl).2.1).1
  have h₁ : k ∉ l₁ := fun h => (List.nodup_append.mp hl).2.2 k h k (List.mem_cons_self ..) rfl
  rw [List.foldl_append, List.foldl_cons, hrest l₂ h₂]
  exact hself _ (hrest l₁ h₁ s)

theorem SameCands.setDisputed (s : State) (k : Nat) (d : Bool) : SameCands s (s.setCand k { s.cand k with disputed := d }) := by
  intro j
  by_cases h : j = k
  · subst h
    exact ⟨d, s.setCand_cand ..⟩
  · exact ⟨(s.cand j).disputed, s.setCand_cand_ne _ h⟩

theorem SameCands.foldl {α : Type} {f : State → α → State} {l : List α} {s t : State} (h : SameCands s t)
    (hf : ∀ u a, SameCands u (f u a)) : SameCands s (l.foldl f t) :=
  List.foldlRecOn (motive := SameCands s) l f h fun u hu a _ => hu.trans (hf u a)

theorem SameCands.disputeOne (s : State) (cur k : Nat) : SameCands s (s.disputeOne cur k) := by
  unfold State.disputeOne
  dsimp only
  split
  · split
    · split
      · exact .refl s
      · exact (SameCands.setDisputed s k true).trans (.of_sel (by rw [State.recEvent_sel]))
    · exact .setDisputed s k false
  · exact .refl s

theorem SameCands.disputes (s : State) : SameCands s s.disputes := by
  have h1 : SameCands s (match s.sel.sel with
      | none => s
      | some c => ((List.range 31).filter fun k => k ≠ c && s.eligT k && s.rank k == s.rank c).foldl (fun t k => t.disputeOne c k) s) := by
    split
    · exact .refl s
    · exact (SameCands.refl s).foldl fun u a => .disputeOne u _ a
  unfold State.disputes
  extract_lets s1
  split
  · exact h1
  · exact h1.foldl fun u a => .disputeOne u _ a

/-- The candidates other than `j`, but for their DISPUTED flags. -/
def SameOthers (j : Nat) (s t : State) : Prop := ∀ k, k ≠ j → ∃ d, t.cand k = { s.cand k with disputed := d }

theorem SameCands.others (h : SameCands s t) (j : Nat) : SameOthers j s t := fun k _ => h k

theorem SameOthers.trans {j : Nat} {s t u : State} (h1 : SameOthers j s t) (h2 : SameOthers j t u) : SameOthers j s u := fun k hk => by
  obtain ⟨a, ha⟩ := h1 k hk
  obtain ⟨b, hb⟩ := h2 k hk
  exact ⟨b, by rw [hb, ha]⟩

theorem SameOthers.setCand (s : State) (j : Nat) (c : Cand) : SameOthers j s (s.setCand j c) := fun k hk =>
  ⟨(s.cand k).disputed, s.setCand_cand_ne c hk⟩

theorem SameOthers.disq (s : State) (j cause : Nat) : SameOthers j s (s.disq j cause) := fun k hk => by
  obtain ⟨d, hd⟩ := State.determine_cand (s.disqualify j cause .wait (s.cand j).obs) k
  exact ⟨d, hd.trans (by rw [State.disqualify_cand_ne _ hk])⟩

/-- An external condition of one candidate leaves the others. -/
theorem SameOthers.external (s : State) (j : Nat) (link on : Bool) : SameOthers j s (s.external j link on) := by
  have hall (c : Cand) (cause : Nat) : SameOthers j s (if on then (s.setCand j c).disq j cause
      else if c.barred then s.setCand j c else s.setCand j { c with wtr := some s.gau.l }) := by
    split
    · exact (SameOthers.setCand s j c).trans (.disq _ j cause)
    · split
      · exact .setCand s j _
      · exact .setCand s j _
  have hid : SameOthers j s s := (SameCands.refl s).others j
  unfold State.external
  extract_lets c was c1
  clear_value was c1
  split
  · exact hid
  · exact hall c1 _

theorem SameOthers.indCheck (s : State) : SameOthers 9 s s.indCheck := .external s 9 false _

theorem SameOthers.driftTest (s : State) : SameOthers 9 s s.driftTest := by
  have hid : SameOthers 9 s s := (SameCands.refl s).others 9
  unfold State.driftTest
  split
  · exact hid
  · split
    · exact ((SameCands.of_sel rfl).others 9).trans (.indCheck { s with gnb := { s.gnb with ind := s.gnb.ind.set 3 (true, s.gau.l) } })
    · exact hid

theorem selSecond_spec (s : State) (k : Fin 30) {p : Int × Int} {r : List (Int × Int)} (hsec : s.atSec = true)
    (hf : s.fresh 0x22 = true) (hk : k.val ≠ 9) (hst : (s.cand k).st = .wait) (hobs : (s.cand k).obs = p :: r)
    (hacc : (s.cand k).acc ≠ 0) (hlen : (s.cand k).hist.length < 9) :
    Completes .selSecond s (fun t => (t.cand k).hist = (p.1 - p.2, p.2) :: (s.cand k).hist) := by
  refine .of_if rfl ⟨hsec, hf⟩ ?_
  have hfold : (((List.range 30).foldl State.candSecond (s.fire 0x22)).cand k).hist = (p.1 - p.2, p.2) :: (s.cand k).hist :=
    foldl_cand_once (s := s.fire 0x22) (g := Cand.hist) (fun t j h => t.candSecond_ne h)
      (fun t ht => by
        have hc : t.cand k = s.cand k := ht
        rw [← hc] at hst hobs hacc hlen ⊢
        exact t.candSecond_hist hst hobs hacc hlen)
      List.nodup_range (List.mem_range.mpr k.isLt)
  generalize (List.range 30).foldl State.candSecond (s.fire 0x22) = t at hfold ⊢
  obtain ⟨_, h⟩ := ((((SameCands.disputes t).others 9).trans (.driftTest _)).trans (.indCheck _)).trans
    ((SameCands.determine _).others 9) k hk
  exact (congrArg Cand.hist h).trans hfold

end Sys2Proof.Machine
end

section
/-! The candidates' entry into QUAL, their posts, and the seconds of holdover (R70 to R74, R84, R87). -/

namespace Sys2Proof.Machine

set_option Elab.async false

variable {s t : State} {k : Nat}

theorem State.enterQual_cand (s : State) (k : Nat) : ((s.enterQual k).cand k).st = .qual ∧ ((s.enterQual k).cand k).qualAt = s.gau.l := by
  unfold State.enterQual
  obtain ⟨d, hd⟩ := State.determine_cand ((s.setCand k { s.cand k with st := .qual, qualAt := s.gau.l }).qualEvent k true 0) k
  rw [hd, cand_of_sel (State.qualEvent_sel ..), State.setCand_cand]
  exact ⟨rfl, rfl⟩

theorem hostsetQualify_spec (s : State) {h : Nat} (hh : (s.cand 30).hostAt = some h) (hsec : s.atSec = true) (hl : h < s.gau.l)
    (hoff : (s.cand 30).st ≠ .off) (hq : (s.cand 30).st ≠ .qual) : Completes .hostsetQualify s (fun t => (t.cand 30).st = .qual) := by
  refine ⟨s.enterQual 30, ?_, (s.enterQual_cand 30).1⟩
  show execHostsetQualify s = _
  simp only [execHostsetQualify, hh, hsec, hl, hoff, hq, ne_eq, not_false_eq_true, and_self, if_true]

theorem disq_spec (s : State) (ts : Fin 16) (slot : Fin 32) (hr : s.runs ts = true) (hd : s.deaf slot = false)
    (hst : (s.cand slot).st = .wait ∨ (s.cand slot).st = .qual) :
    Completes (.disq ts slot) s (fun t => (t.cand slot).st = .wait ∧ (t.cand slot).cause = 6) := by
  refine .of_if rfl hr ?_
  have hsig : ¬ (s.deaf slot = true ∨ (s.cand slot).st = .nosig) := by
    rw [hd]
    rcases hst with h | h <;> simp [h]
  rw [State.disqOp, if_neg hsig, State.disq]
  obtain ⟨d, hdet⟩ := State.determine_cand (s.disqualify slot 6 .wait (s.cand slot).obs) slot
  rw [hdet, s.disqualify_cand hst]
  exact ⟨rfl, rfl⟩

theorem not_published (s : State) (k : Fin 30) {p : Post} (hp : (s.cand k).post = some p)
    (hold : (s.fl .SEL_SPAN 31 16 * 1000000 * 2 ^ 32 : Nat) < (s.g32 : Int) - p.meas) : s.published k = false := by
  have hk : k.val ≠ 30 := by omega
  simp only [State.published, hp, hk, decide_false, Bool.false_or, Bool.and_eq_false_iff, decide_eq_false_iff_not, not_le]
  exact .inr hold

/-! ### Posts -/

/-- Every candidate holds the post it held. -/
structure SamePosts (s t : State) : Prop where
  keeps : ∀ k, (t.cand k).post = (s.cand k).post

theorem SamePosts.trans {s t u : State} (h1 : SamePosts s t) (h2 : SamePosts t u) : SamePosts s u :=
  ⟨fun k => (h2.keeps k).trans (h1.keeps k)⟩

theorem SameCands.posts (h : SameCands s t) : SamePosts s t where
  keeps k := by
    obtain ⟨d, hd⟩ := h k
    rw [hd]

theorem SamePosts.of_sel (h : t.sel = s.sel) : SamePosts s t := ⟨fun k => by rw [cand_of_sel h]⟩

theorem SamePosts.setCand {k : Nat} {c : Cand} (h : c.post = (s.cand k).post) : SamePosts s (s.setCand k c) := by
  refine ⟨fun j => ?_⟩
  by_cases hj : j = k
  · subst hj
    rw [State.setCand_cand, h]
  · rw [State.setCand_cand_ne _ _ hj]

theorem SamePosts.ite {c : Prop} {_ : Decidable c} {u w : State} (hu : SamePosts s u) (hw : SamePosts s w) :
    SamePosts s (if c then u else w) := by
  split
  · exact hu
  · exact hw

theorem SamePosts.disqualify (s : State) (k cause : Nat) (dest : CState) (obs : List (Int × Int)) :
    SamePosts s (s.disqualify k cause dest obs) := by
  refine ⟨fun j => ?_⟩
  by_cases hj : j = k
  · subst hj
    by_cases h : (s.cand j).st = .wait ∨ (s.cand j).st = .qual
    · rw [State.disqualify_cand _ h]
    · have hid : s.disqualify j cause dest obs = s := by
        unfold State.disqualify
        cases hc : (s.cand j).st <;> simp_all
      rw [hid]
  · rw [State.disqualify_cand_ne _ hj]

theorem SamePosts.firstObs (s : State) (k : Nat) (e τ : Int) (seen : Nat) : SamePosts s (s.firstObs k e τ seen) := by
  have hset (c : Cand) (h : c.post = (s.cand k).post) : SamePosts s (s.setCand k c).determine :=
    (SamePosts.setCand h).trans (SameCands.determine _).posts
  exact hset _ rfl

theorem SamePosts.rejected {s u : State} (h : SamePosts s u) (k cause : Nat) (obs : List (Int × Int)) (e : Nat) :
    SamePosts s ((u.disqualify k cause .wait obs).setCand k
      { (u.disqualify k cause .wait obs).cand k with seen := some e }).determine := by
  have hdis := h.trans (SamePosts.disqualify u k cause .wait obs)
  generalize u.disqualify k cause .wait obs = w at hdis ⊢
  have hseen : SamePosts w (w.setCand k { w.cand k with seen := some e }) := .setCand rfl
  exact (hdis.trans hseen).trans (SameCands.determine _).posts

theorem SamePosts.kept {s u : State} (h : SamePosts s u) (k : Nat) (obs : List (Int × Int)) (acc : Nat) (e : Nat) :
    SamePosts s (u.setCand k { u.cand k with obs := obs, acc := acc, seen := some e }) := by
  have hkeep : SamePosts u (u.setCand k { u.cand k with obs := obs, acc := acc, seen := some e }) := .setCand rfl
  exact h.trans hkeep

/-- An observation moves no post, whatever it finds (R65 to R67). -/
theorem SamePosts.observe (s : State) (k e : Nat) (τ : Option Int) : SamePosts s (s.observe k e τ) := by
  have h0 : SamePosts s (s.pmcTime 3 k) := .of_sel (State.pmcTime_sel ..)
  have hfirst (x : Int) (y : Int) (z : Nat) : SamePosts s ((s.pmcTime 3 k).firstObs k x y z) := h0.trans (SamePosts.firstObs _ k x y z)
  have hgap (x y : Int) (z : Nat) : SamePosts s (((s.pmcTime 3 k).disqualify k 1 .nosig []).firstObs k x y z) := by
    have hdis := h0.trans (SamePosts.disqualify _ k 1 .nosig [])
    generalize (s.pmcTime 3 k).disqualify k 1 .nosig [] = w at hdis ⊢
    exact hdis.trans (SamePosts.firstObs w k x y z)
  unfold State.observe
  dsimp only
  split
  · exact ⟨fun _ => rfl⟩
  · exact hfirst ..
  · split
    · refine .ite (hgap _ _ _) ?_
      refine .ite (h0.rejected _ _ _ _) ?_
      split
      · exact h0.rejected _ _ _ _
      · have h1 (n : Nat) : SamePosts s ((s.pmcTime 3 k).bump .SEL_CNT 31 16 n k) := h0.trans (.of_sel (State.bump_sel ..))
        split
        · exact (h1 _).kept _ _ _ _
        · refine .ite ((h1 _).kept _ _ _ _) ?_
          have h2 (n : Nat) (m : Int) : SamePosts s (((s.pmcTime 3 k).bump .SEL_CNT 31 16 n k).sample 3 k m) :=
            (h1 n).trans (.of_sel (State.sample_sel ..))
          exact .ite ((h2 _ _).rejected _ _ _ _) ((h2 _ _).kept _ _ _ _)
    · exact hfirst ..

theorem State.releaseHeld_sel (s : State) (code : Nat) : (s.releaseHeld code).sel = s.sel := by
  unfold State.releaseHeld
  split
  · rfl
  · split
    · rw [State.restart, State.status_sel, State.dropSched_sel]
    · split
      · rw [State.status_sel]
      · rw [State.restart, State.status_sel]

theorem State.witnessTest_sel (s : State) : s.witnessTest.sel = s.sel := by
  unfold State.witnessTest
  split
  · rfl
  · split
    · exact s.releaseHeld_sel 5
    · rfl

/-- A post is held by its candidate, also where it gives an observation of GNSS (R62, R66). -/
theorem State.postOp_post {p : Post} (hd : s.deaf k = false) (ht : s.isTime k = true) (hl : k = 9 → s.latchKnown p.ln = true) :
    ((s.postOp k p).cand k).post = some p := by
  have hin : ¬ (s.deaf k = true ∨ ¬ s.isTime k = true ∨ (k = 9 ∧ ¬ s.latchKnown p.ln = true)) := by
    rw [hd, ht]
    rintro (h | h | ⟨h, h'⟩)
    · exact absurd h (by decide)
    · exact h rfl
    · exact h' (hl h)
  have hheld : ((s.holdPost k p).cand k).post = some p := by
    rw [State.holdPost, cand_of_sel (State.sample_sel ..), State.setCand_cand]
  rw [State.postOp, if_neg hin]
  dsimp only
  split
  · rw [cand_of_sel (State.witnessTest_sel _), hheld]
  · rw [cand_of_sel (State.witnessTest_sel _), (SamePosts.observe ..).keeps, hheld]

/-! ### The second of holdover and the atomic clock (R84, R87) -/

theorem hldSecond_spec (s : State) (hsec : s.atSec = true) (hf : s.fresh 0x21 = true) (hst : s.gau.st = .locked) :
    Completes .hldSecond s (fun t => t.hld.sum = 0 ∧ t.hld.whole = true ∧ t.hld.favg = t.frozen ∧
      t.hld.hist = if s.hld.whole then ((Int.tdiv s.hld.sum (10 ^ 9), s.hld.phNow) :: s.hld.hist).take 1024 else s.hld.hist) := by
  refine .of_if rfl ⟨hsec, hf⟩ ?_
  have hlk : (s.fire 0x21).gau.st = .locked := hst
  rw [State.hldSec, if_pos hlk]
  exact ⟨rfl, rfl, rfl, rfl⟩

theorem atomPpsEdge_spec (s : State) (hr : s.gau.running = true) : Completes .atomPpsEdge s (fun t =>
    t.hld.atomPh = (((s.gns + 500000000) % 1000000000 : Nat) : Int) - 500000000 ∧ t.hld.atomAt = some s.gau.l) := by
  refine .of_if rfl hr ?_
  dsimp only
  split <;> exact ⟨rfl, rfl⟩

/-- Settles O27: each event of a candidate is its own lemma above. -/
theorem candidateEventsComplete : Obligations.CandidateEventsComplete := by
  intro k ts slot delta u bc ln meas s c e per ph
  refine ⟨fun hown => ?_, observation_first_spec s k, fun p seen => observation_second_spec s k, candidateLoss_spec s k,
    fun p r => selSecond_spec s k, fun hsec hq => .of_if rfl ⟨hsec, hq⟩ (s.enterQual_cand k), fun h => hostsetQualify_spec s,
    fun hr hd ht hl => .of_if rfl hr (State.postOp_post hd ht hl), disq_spec s ts slot,
    fun p hp hold => ⟨rfl, not_published s k hp hold⟩, hldSecond_spec s, atomPpsEdge_spec s, fun hv => ⟨_, rfl, ?_⟩⟩
  · show execCandidateObservation k () s = _
    rw [execCandidateObservation, hown, if_pos rfl]
  · rw [hv, if_neg Bool.false_ne_true]

end Sys2Proof.Machine
end

section
/-! The switch transaction and the frequency selection (R79 to R81): their request, their record's release, and what the determination
that follows leaves alone. -/

namespace Sys2Proof.Machine

set_option Elab.async false

variable {s t : State} {k : Nat}

/-! ### The gate without its oldest change -/

/-- The gate holds the rest of its changes. -/
def State.gateOf (s : State) (rest : List GateEntry) : State := { s with log := { s.log with gate := rest } }

theorem State.releaseNext_front {e : GateEntry} {rest : List GateEntry} (hg : s.log.gate = e :: rest) (hr : s.releasable e = true) :
    s.releaseNext = (s.gateOf rest).releaseEntry e := by
  rw [State.releaseNext, hg]
  exact if_pos hr

theorem State.releaseEntry_admits {e : GateEntry} (hj : s.judge e true = .none) :
    s.releaseEntry e = ((s.applyChange e).originDone e).sample 11 0 (s.wt - e.at_ : Nat) := if_pos hj

theorem Reacts.sample {μ ρ : Prop} {s₀ : State} (h : Reacts μ ρ s₀ s) {src unit : Nat} {x : Int} : Reacts μ ρ s₀ (s.sample src unit x) :=
  .ite (h.foldl fun _ _ ht => .ite ht.frame ht) h

/-- After what `Reacts` lists nothing waits for the gate that did not. -/
theorem Reacts.afterGate {μ ρ : Prop} {s₀ : State} (h : Reacts μ ρ s₀ t) (hr : s₀.hst.reads = []) (hw : s₀.sbd.wr = none) :
    t.afterGate = t := by
  obtain ⟨_, _, _, _, _, _, _, _, _, _, _, _, _, _, _, _, _, _, _, _, _, _, _, rfl⟩ := h.keeps
  exact State.afterGate_of_none_waits hr hw

/-! ### Eligibility -/

theorem eligT_congr (hforce : t.force = s.force) (htwin : t.twin = s.twin) (hst : (t.cand k).st = (s.cand k).st) :
    t.eligT k = s.eligT k := by
  simp only [State.eligT, State.inPlay, State.isTime, State.lockedOut, State.on, State.fl, State.inForce, State.twinLink, hforce, htwin, hst]

theorem eligF_congr (hforce : t.force = s.force) (htwin : t.twin = s.twin) (hst : (t.cand k).st = (s.cand k).st) :
    t.eligF k = s.eligF k := by
  simp only [State.eligF, State.inPlay, State.isFreq, State.isTime, State.lockedOut, State.on, State.fl, State.inForce, State.twinLink, hforce,
    htwin, hst]

theorem Reacts.eligF {μ : Prop} (h : Reacts μ False s t) (hc : SameCands s t) : t.eligF k = s.eligF k := by
  obtain ⟨-, hforce, -, htwin, -⟩ := h.calm
  obtain ⟨d, hd⟩ := hc k
  exact eligF_congr hforce htwin (by rw [hd])

theorem Reacts.eligT {μ : Prop} (h : Reacts μ False s t) (hc : SameCands s t) : t.eligT k = s.eligT k := by
  obtain ⟨-, hforce, -, htwin, -⟩ := h.calm
  obtain ⟨d, hd⟩ := hc k
  exact eligT_congr hforce htwin (by rw [hd])

theorem State.best_mem (s : State) (inc : Option Nat) : ∀ {l : List Nat}, s.best inc l = some k → k ∈ l
  | x :: l, h => by
    rw [State.best] at h
    split at h
    · exact List.mem_cons.2 (.inl (Option.some.inj h).symm)
    next hb =>
      split at h
      · exact List.mem_cons.2 (.inl (Option.some.inj h).symm)
      · exact List.mem_cons_of_mem _ (s.best_mem inc (hb.trans h))

theorem State.winnerF_elig (h : s.winnerF = some k) : s.eligF k = true := by
  have hm := List.mem_filter.1 (s.best_mem _ h)
  exact (Bool.and_eq_true_iff.1 hm.2).1

theorem State.gateOf_best (s : State) (rest : List GateEntry) (inc : Option Nat) (l : List Nat) :
    (s.gateOf rest).best inc l = s.best inc l := by
  induction l with
  | nil => rfl
  | cons x l ih =>
    rw [State.best, State.best, ih]
    rfl

theorem State.gateOf_winnerT (s : State) (rest : List GateEntry) : (s.gateOf rest).winnerT = s.winnerT := by
  unfold State.winnerT
  simp only [State.gateOf_best]
  rfl

theorem State.gateOf_winnerF (s : State) (rest : List GateEntry) : (s.gateOf rest).winnerF = s.winnerF := by
  unfold State.winnerF
  simp only [State.gateOf_best]
  rfl

/-! ### What a determination leaves of a selection that stays eligible -/

/-- The time selection and what its last commit published. -/
def Sel.chosen (x : Sel) : Option Nat × Int × Nat × Nat := (x.sel, x.swDelta, x.swUnc, x.swBnd)

theorem State.outcome_chosen (s : State) (x : Txn) (code : Nat) : (s.outcome x code).sel.chosen = s.sel.chosen := by
  rw [State.outcome, State.recEvent_sel]
  rfl

theorem State.abandon_chosen (s : State) : s.abandon.sel.chosen = s.sel.chosen := by
  unfold State.abandon
  split
  · rfl
  · exact s.outcome_chosen ..

theorem State.requestT_chosen (s : State) : s.requestT.sel.chosen = s.sel.chosen := by
  unfold State.requestT
  split
  · exact s.abandon_chosen
  · split
    · rfl
    · rw [State.prepare, State.deliver_sel]
      exact s.abandon_chosen

theorem State.requestF_chosen (s : State) : s.requestF.sel.chosen = s.sel.chosen := by
  unfold State.requestF
  split
  · rfl
  · repeat' split
    all_goals rfl

theorem State.deselectF_chosen (s : State) : s.deselectF.sel.chosen = s.sel.chosen := by
  unfold State.deselectF
  split
  · rfl
  · split
    · rfl
    · rw [State.fselEffects_sel, State.recordDeferred_sel]
      rfl

theorem State.determine_chosen (hs : s.sel.sel = some k) (he : s.eligT k = true) : s.determine.sel.chosen = s.sel.chosen := by
  have hd : s.deselect = s := by
    simp only [State.deselect, hs, he, if_true]
  rw [State.determine, State.requestT_chosen, State.requestF_chosen, State.deselectF_chosen, hd]

theorem State.determine_fsel (hs : s.sel.fsel = some k) (he : s.eligF k = true) : s.determine.sel.fsel = some k := by
  have hd : s.deselect.sel.fsel = some k := by
    unfold State.deselect
    split
    · exact hs
    · split
      · exact hs
      · rw [State.noRef_sel, State.recordDeferred_sel]
        exact hs
  have he' : s.deselect.eligF k = true := ((Reacts.deselect (μ := False) .refl).eligF (.deselect s)).trans he
  have hf : s.deselect.deselectF = s.deselect := by
    simp only [State.deselectF, hd, he', if_true]
  have hr (u : State) : u.requestF.sel.fsel = u.sel.fsel := by
    unfold State.requestF
    split
    · rfl
    · repeat' split
      all_goals rfl
  have ha (u : State) : u.abandon.sel.fsel = u.sel.fsel := by
    unfold State.abandon
    split
    · rfl
    · rw [State.outcome, State.recEvent_sel]
  have ht (u : State) : u.requestT.sel.fsel = u.sel.fsel := by
    unfold State.requestT
    split
    · exact ha u
    · split
      · rfl
      · rw [State.prepare, State.deliver_sel]
        exact ha u
  rw [State.determine, ht, hr, hf, hd]

/-! ### The release of a commit and of a change of the frequency selection -/

section
variable {x : Txn} {e : GateEntry} {rest : List GateEntry}

/-- A transaction is over with this outcome, and the selection stays. -/
def State.ended (s : State) (code : Nat) (t : State) : Prop := t.sel.txn = none ∧ t.sel.swCode = code ∧ t.sel.sel = s.sel.sel

theorem State.outcome_ended (s : State) (x : Txn) (code : Nat) : s.ended code (s.outcome x code) := by
  rw [State.ended, State.outcome, State.recEvent_sel]
  exact ⟨rfl, rfl, rfl⟩

theorem commitRequest_exec (s : State) (hx : s.sel.txn = some x) (hreq : x.req = none) (hal : x.at_ + x.align * 1000000000 ≤ s.gau.l) :
    exec .commitRequest s = .next (
      let u : State := { s with sel := { s.sel with txn := some { x with req := some s.gau.l } } }
      if s.warden.down then u.refuseUnrecorded (s.entry (.commit x.num x.target) .hardware) .wardenDown
      else u.enqueue (.commit x.num x.target) .hardware) := by
  show execCommitRequest s = _
  simp only [execCommitRequest, hx, hreq, Option.isNone_none, hal, and_self, if_true]

theorem commitRequest_up (s : State) (hx : s.sel.txn = some x) (hreq : x.req = none) (hal : x.at_ + x.align * 1000000000 ≤ s.gau.l)
    (hd : s.warden.down = false) : Completes .commitRequest s (fun t => t.sel = { s.sel with txn := some { x with req := some s.gau.l } } ∧
      t.log.gate = s.log.gate ++ [s.entry (.commit x.num x.target) .hardware]) := by
  refine ⟨_, commitRequest_exec s hx hreq hal, ?_⟩
  rw [hd]
  exact ⟨rfl, rfl⟩

theorem commitRequest_down (s : State) (hx : s.sel.txn = some x) (hreq : x.req = none) (hal : x.at_ + x.align * 1000000000 ≤ s.gau.l)
    (hd : s.warden.down = true) : Completes .commitRequest s (s.ended 6) := by
  refine ⟨_, commitRequest_exec s hx hreq hal, ?_⟩
  simp only [hd, if_true, State.refuseUnrecorded, State.entry, State.werr, State.tellRefused, reduceCtorEq, if_false]
  exact State.outcome_ended ..

theorem switchCommit_exec (hg : s.log.gate = e :: rest) (hrel : s.releasable e = true) {n k : Nat} (hch : e.ch = .commit n k) :
    exec .switchCommit s = .next ((s.gateOf rest).releaseEntry e).afterGate := by
  show execSwitchCommit s = _
  rw [execSwitchCommit, State.releaseIf, hg]
  dsimp only
  rw [hch, ← State.releaseNext_front hg hrel]
  rfl

theorem fselChange_exec (hg : s.log.gate = e :: rest) (hrel : s.releasable e = true) {k : Nat} (hch : e.ch = .fsel k) :
    exec .fselChange s = .next ((s.gateOf rest).releaseEntry e).afterGate := by
  show execFselChange s = _
  rw [execFselChange, State.releaseIf, hg]
  dsimp only
  rw [hch, ← State.releaseNext_front hg hrel]
  rfl

/-- A commit is refused at its release: the transaction has this outcome, and the gate goes on. -/
theorem switchCommit_refused (s : State) (hr : s.hst.reads = []) (hw : s.sbd.wr = none) (hg : s.log.gate = e :: rest)
    (hrel : s.releasable e = true) (hch : e.ch = .commit x.num x.target) {code : Nat} (hj : (s.gateOf rest).judgeCommit x.num ≠ .none)
    (hedge : (s.gateOf rest).commitEdge x.num = (s.gateOf rest).outcome x code) : Completes .switchCommit s (s.ended code) := by
  have hj' : (s.gateOf rest).judge e true ≠ .none := by
    simp only [State.judge, hch, if_true]
    exact hj
  obtain ⟨r, hentry⟩ : ∃ r, (s.gateOf rest).releaseEntry e = ((s.gateOf rest).outcome x code).recordDeferred r := by
    rw [State.releaseEntry, if_neg hj', hch]
    exact ⟨_, congrArg (State.recordDeferred · _) hedge⟩
  have hreact : Reacts False False (s.gateOf rest) (((s.gateOf rest).outcome x code).recordDeferred r) := Reacts.refl.outcome.recordDeferred
  refine ⟨((s.gateOf rest).outcome x code).recordDeferred r, ?_, ?_⟩
  · rw [switchCommit_exec hg hrel hch, hentry, hreact.afterGate hr hw]
  · rw [State.ended, State.recordDeferred_sel]
    exact (s.gateOf rest).outcome_ended x code

theorem switchCommit_lost (s : State) (hr : s.hst.reads = []) (hw : s.sbd.wr = none) (hg : s.log.gate = e :: rest)
    (hrel : s.releasable e = true) (hx : s.sel.txn = some x) (hch : e.ch = .commit x.num x.target) (he : s.eligT x.target = false) :
    Completes .switchCommit s (s.ended 4) := by
  have he' : (s.gateOf rest).eligT x.target = false := he
  have hx' : (s.gateOf rest).sel.txn = some x := hx
  refine switchCommit_refused s hr hw hg hrel hch (x := x) ?_ ?_
  · simp [State.judgeCommit, hx', he']
  · simp [State.commitEdge, hx', he']

theorem switchCommit_unready (s : State) (hr : s.hst.reads = []) (hw : s.sbd.wr = none) (hg : s.log.gate = e :: rest)
    (hrel : s.releasable e = true) (hx : s.sel.txn = some x) (hch : e.ch = .commit x.num x.target) (he : s.eligT x.target = true)
    (hwin : s.winnerT = some x.target) (hp : s.postReady x = false) : Completes .switchCommit s (s.ended 5) := by
  have he' : (s.gateOf rest).eligT x.target = true := he
  have hx' : (s.gateOf rest).sel.txn = some x := hx
  have hp' : (s.gateOf rest).postReady x = false := hp
  refine switchCommit_refused s hr hw hg hrel hch (x := x) ?_ ?_
  · simp [State.judgeCommit, hx', hp']
  · simp [State.commitEdge, hx', he', State.gateOf_winnerT, hwin, hp']

theorem Reacts.commitSel {μ : Prop} {s₀ : State} (h : Reacts μ False s₀ s) {x : Txn} : Reacts μ False s₀ (s.commitSel x) :=
  h.frame.frame.outcome.deliver.determine

theorem State.commitSel_chosen (s : State) (x : Txn) (he : s.eligT x.target = true) : (s.commitSel x).sel.chosen =
    (some x.target, ((s.cand x.target).post.getD ⟨0, 0, 0, 0, 0⟩).delta, ((s.cand x.target).post.getD ⟨0, 0, 0, 0, 0⟩).u,
      ((s.cand x.target).post.getD ⟨0, 0, 0, 0, 0⟩).bc) := by
  unfold State.commitSel
  extract_lets p _ s1 s2 m
  have hs2 : s2.sel.chosen = (some x.target, p.delta, p.u, p.bc) := State.outcome_chosen ..
  have hc : SameCands s s2 := (SameCands.of_sel (t := s1) rfl).trans
    ((SameCands.clearDisputes s1 false).trans (.of_sel (by rw [show s2 = (s1.clearDisputes false).outcome x 2 from rfl, State.outcome, State.recEvent_sel])))
  have h1 : Reacts False False s s1 := .frame .refl (.inr ⟨rfl, rfl, rfl, rfl, rfl, rfl, rfl, rfl⟩) ⟨id, rfl, rfl⟩
  have hreact : Reacts False False s s2 := h1.frame.outcome
  clear_value s2
  have hsel : (s2.deliver s.servoTs 1 m).sel = s2.sel := State.deliver_sel ..
  have hel : (s2.deliver s.servoTs 1 m).eligT x.target = true :=
    ((hreact.deliver).eligT (hc.trans (.of_sel (by rw [hsel])))).trans he
  rw [State.determine_chosen (k := x.target) (by rw [hsel]; exact congrArg Prod.fst hs2) hel, hsel, hs2]

theorem switchCommit_selects (s : State) (hr : s.hst.reads = []) (hw : s.sbd.wr = none) (hg : s.log.gate = e :: rest)
    (hrel : s.releasable e = true) (hx : s.sel.txn = some x) (hch : e.ch = .commit x.num x.target) (he : s.eligT x.target = true)
    (hwin : s.winnerT = some x.target) (hp : s.postReady x = true) : Completes .switchCommit s (fun t => t.sel.chosen =
      (some x.target, ((s.cand x.target).post.getD ⟨0, 0, 0, 0, 0⟩).delta, ((s.cand x.target).post.getD ⟨0, 0, 0, 0, 0⟩).u,
        ((s.cand x.target).post.getD ⟨0, 0, 0, 0, 0⟩).bc)) := by
  have he' : (s.gateOf rest).eligT x.target = true := he
  have hx' : (s.gateOf rest).sel.txn = some x := hx
  have hp' : (s.gateOf rest).postReady x = true := hp
  have hj : (s.gateOf rest).judge e true = .none := by
    simp [State.judge, hch, State.judgeCommit, hx', he', State.gateOf_winnerT, hwin, hp']
  have happ : (s.gateOf rest).applyChange e = (s.gateOf rest).commitSel x := by
    simp [State.applyChange, hch, State.commitEdge, hx', he', State.gateOf_winnerT, hwin, hp']
  have hdone (u : State) : u.originDone e = u := by simp [State.originDone, hch]
  refine ⟨((s.gateOf rest).commitSel x).sample 11 0 (((s.gateOf rest).wt - e.at_ : Nat) : Int),
    (switchCommit_exec hg hrel hch).trans ?_, ?_⟩
  · have hreact : Reacts False False (s.gateOf rest) (((s.gateOf rest).commitSel x).sample 11 0 (((s.gateOf rest).wt - e.at_ : Nat) : Int)) :=
      (Reacts.commitSel .refl).sample
    rw [State.releaseEntry_admits hj, happ, hdone, hreact.afterGate hr hw]
  · dsimp only
    rw [State.sample_sel]
    exact (s.gateOf rest).commitSel_chosen x he'

theorem fselChange_spec (s : State) (hr : s.hst.reads = []) (hw : s.sbd.wr = none) (hg : s.log.gate = e :: rest)
    (hrel : s.releasable e = true) (hch : e.ch = .fsel k) (hwin : s.winnerF = some k) :
    Completes .fselChange s (fun t => t.sel.fsel = some k) := by
  have hj : (s.gateOf rest).judge e true = .none := by
    simp [State.judge, hch, State.judgeFsel, State.gateOf_winnerF, hwin]
  have happ : (s.gateOf rest).applyChange e = (s.gateOf rest).takeFsel k := by
    simp [State.applyChange, hch]
  have hdone (u : State) : u.originDone e = u := by simp [State.originDone, hch]
  have hfsel : ((s.gateOf rest).takeFsel k).sel.fsel = some k := by
    unfold State.takeFsel
    extract_lets _ s1
    have hc : SameCands s (State.fselEffects (s.gateOf rest).sel.fsel (s1.clearDisputes true)) :=
      (SameCands.of_sel (t := s1) rfl).trans ((SameCands.clearDisputes s1 true).trans (.of_sel (by rw [State.fselEffects_sel])))
    refine State.determine_fsel (by rw [State.fselEffects_sel]; rfl) (Eq.trans ?_ (s.winnerF_elig hwin))
    have h1 : Reacts False False (s.gateOf rest) s1 := .frame .refl (.inr ⟨rfl, rfl, rfl, rfl, rfl, rfl, rfl, rfl⟩) ⟨id, rfl, rfl⟩
    have h2 : Reacts False False (s.gateOf rest) (State.fselEffects (s.gateOf rest).sel.fsel (s1.clearDisputes true)) := h1.frame.fselEffects
    exact h2.eligF hc
  refine ⟨((s.gateOf rest).takeFsel k).sample 11 0 (((s.gateOf rest).wt - e.at_ : Nat) : Int),
    (fselChange_exec hg hrel hch).trans ?_, ?_⟩
  · have hreact : Reacts False False (s.gateOf rest) (((s.gateOf rest).takeFsel k).sample 11 0 (((s.gateOf rest).wt - e.at_ : Nat) : Int)) :=
      Reacts.refl.frame.frame.fselEffects.determine.sample
    rw [State.releaseEntry_admits hj, happ, hdone, hreact.afterGate hr hw]
  · dsimp only
    rw [State.sample_sel]
    exact hfsel

end

/-- Settles O28: the request, the timeout and the release of a commit, and the release of a change of the frequency selection. -/
theorem selectionTransactionsComplete : Obligations.SelectionTransactionsComplete := by
  intro x e rest k s hr hw p ended asks comes commits
  refine ⟨fun ⟨hx, hq, hal⟩ => commitRequest_up s hx hq hal, fun ⟨hx, hq, hal⟩ => commitRequest_down s hx hq hal,
    fun q hx hq hl => ⟨s.outcome x 6, ?_, s.outcome_ended x 6⟩,
    fun ⟨⟨hg, hrel⟩, hx, hch⟩ he hwin hp => ?_,
    fun ⟨⟨hg, hrel⟩, hx, hch⟩ => switchCommit_lost s hr hw hg hrel hx hch,
    fun ⟨⟨hg, hrel⟩, hx, hch⟩ => switchCommit_unready s hr hw hg hrel hx hch,
    fun ⟨hg, hrel⟩ => fselChange_spec s hr hw hg hrel⟩
  · show execCommitAuditTimeout s = _
    simp only [execCommitAuditTimeout, hx, hq, hl, if_true]
  · refine (switchCommit_selects s hr hw hg hrel hx hch he hwin hp).imp fun t ht => ?_
    simp only [Sel.chosen, Prod.mk.injEq] at ht
    exact ht

end Sys2Proof.Machine
end

section
/-! The instants of the outputs (R94, R97, R99 to R103, R106). -/

namespace Sys2Proof.Machine

set_option Elab.async false

variable {s t : State}

/-! ### Edges on a pin -/

/-- An edge on the pin of an output: its level and its last edge, the edges it loops back, and what is sent of it; the rest stays. -/
theorem State.setPin_only (s : State) (i : Nat) (o : OutU) (active : Bool) (at_ : Int) : ∃ last due l, s.setPin i o active at_ =
    { s.setOutU i { o with active := active, last := last } with tdc := { s.tdc with due := due }, sent := l ++ s.sent } := by
  unfold State.setPin
  split
  next h =>
    subst h
    exact ⟨o.last, s.tdc.due, [], rfl⟩
  next h =>
    generalize s.outTime i - at_ = d
    generalize s.pinLevel i active = level
    unfold State.loopEdge
    split
    · unfold State.launchEdge
      split
      · exact ⟨_, _, [_], rfl⟩
      · exact ⟨_, s.tdc.due, [_], rfl⟩
    · exact ⟨_, s.tdc.due, [_], rfl⟩

theorem State.setOutU_other (s : State) {i j : Nat} (o : OutU) (h : i ≠ j) : (s.setOutU i o).outU j = s.outU j :=
  s.setOutU_outU_ne o (Ne.symm h)

/-! ### Pulses (R99) -/

/-- The time-of-day output `i` takes the message of a pulse of PPSO `j`, where it is enabled and names it (R100). -/
def State.addTod (j : Nat) (t : State) (i : Nat) : State :=
  if t.on .OUT_CFG 31 i ∧ t.fl .OUT_CFG 16 15 i = j then
    t.setOutU i { t.outU i with todDue := (t.outU i).todDue ++ [t.todFor i j] } else t

theorem State.addTod_spec (j : Nat) (t : State) (i : Nat) : (t.addTod j i).fired = t.fired ∧ (t.addTod j i).sent = t.sent ∧
    (∀ k, k ≠ i → (t.addTod j i).outU k = t.outU k) ∧
    (t.on .OUT_CFG 31 i = true → t.fl .OUT_CFG 16 15 i = j → ((t.addTod j i).outU i).todDue = (t.outU i).todDue ++ [t.todFor i j]) ∧
    (∀ k, (t.addTod j i).on .OUT_CFG 31 k = t.on .OUT_CFG 31 k ∧ (t.addTod j i).fl .OUT_CFG 16 15 k = t.fl .OUT_CFG 16 15 k ∧
      (t.addTod j i).todFor k j = t.todFor k j) := by
  by_cases h : t.on .OUT_CFG 31 i = true ∧ t.fl .OUT_CFG 16 15 i = j
  · rw [show t.addTod j i = _ from if_pos h]
    exact ⟨rfl, rfl, fun k hk => State.setOutU_outU_ne _ _ hk, fun _ _ => by rw [State.setOutU_outU], fun k => ⟨rfl, rfl, rfl⟩⟩
  · rw [show t.addTod j i = t from if_neg h]
    exact ⟨rfl, rfl, fun _ _ => rfl, fun h1 h2 => absurd ⟨h1, h2⟩ h, fun _ => ⟨rfl, rfl, rfl⟩⟩

/-- A pulse adds its message to the time-of-day outputs that name its PPSO, and touches no other output (R100). -/
theorem State.todsFor_spec (s : State) (j : Nat) : (s.todsFor j).fired = s.fired ∧ (s.todsFor j).sent = s.sent ∧
    (∀ i, i < 16 → (s.todsFor j).outU i = s.outU i) ∧
    ∀ w : Fin 2, s.on .OUT_CFG 31 (16 + w) = true → s.fl .OUT_CFG 16 15 (16 + w) = j →
      ((s.todsFor j).outU (16 + w)).todDue = (s.outU (16 + w)).todDue ++ [s.todFor (16 + w) j] := by
  rw [show s.todsFor j = (s.addTod j 16).addTod j 17 from rfl]
  obtain ⟨f16, s16, o16, d16, r16⟩ := s.addTod_spec j 16
  obtain ⟨f17, s17, o17, d17, -⟩ := (s.addTod j 16).addTod_spec j 17
  refine ⟨f17.trans f16, s17.trans s16, fun i hi => (o17 i (by omega)).trans (o16 i (by omega)), fun w hon hfl => ?_⟩
  match w with
  | 0 => rw [show 16 + ((0 : Fin 2) : Nat) = 16 from rfl] at *; rw [o17 16 (by decide), d16 hon hfl]
  | 1 =>
    rw [show 16 + ((1 : Fin 2) : Nat) = 17 from rfl] at *
    obtain ⟨h1, h2, h3⟩ := r16 17
    rw [d17 (h1.trans hon) (h2.trans hfl), o16 17 (by decide), h3]

theorem State.ppsHere_fired {j : Nat} (h : (0x28 + j) ∈ t.fired) : t.ppsHere j = false := by
  have hf : t.fresh (0x28 + j) = false := by simp [State.fresh, h]
  simp [State.ppsHere, hf]

theorem ppsPulse_lead (s : State) (j : Fin 4) (w : Fin 2) (hh : s.ppsHere j = true) (hsq : (s.outU (12 + j.val)).sq = false)
    (hu : (s.outU (12 + j.val)).until_ = none) : Completes (.ppsPulse j) s (fun t =>
      t.sent.head? = some (.pps j) ∧ (t.outU (12 + j.val)).active = true ∧
      (t.outU (12 + j.val)).until_ = some (s.gau.l + s.inForce .OUT_P2 (12 + j.val)) ∧ t.ppsHere j = false ∧
      (s.on .OUT_CFG 31 (16 + w.val) = true → s.fl .OUT_CFG 16 15 (16 + w.val) = j.val →
        (t.outU (16 + w.val)).todDue = (s.outU (16 + w.val)).todDue ++ [s.todFor (16 + w.val) j])) := by
  have htrail : s.ppsTrail j = s := by simp only [State.ppsTrail, hu]
  have hdo : exec (.ppsPulse j) s = .next (s.ppsLead j) := by
    show execPpsPulse j s = _
    simp only [execPpsPulse, htrail, hh, hsq, Bool.false_eq_true, not_false_eq_true, and_self, if_true]
  refine ⟨_, hdo, ?_⟩
  unfold State.ppsLead
  dsimp only
  rw [hu, Option.isSome_none, if_neg Bool.false_ne_true]
  obtain ⟨last, due, l, hpin⟩ := s.setPin_only (12 + j)
    { s.outU (12 + j) with
      comp := s.outComp (12 + j), until_ := some (s.gau.l + s.inForce .OUT_P2 (12 + j))
      ran := (s.outU (12 + j)).ran.add (s.ppsInstant j) (s.ppsPer j) } true
    (s.ppsLaunch j (s.ppsIdx j s.gau.g) (s.outComp (12 + j)))
  rw [hpin]
  obtain ⟨hf, hs, ho, hd⟩ := State.todsFor_spec (((({ s.setOutU (12 + j) { s.outU (12 + j) with
      comp := s.outComp (12 + j), until_ := some (s.gau.l + s.inForce .OUT_P2 (12 + j))
      ran := (s.outU (12 + j)).ran.add (s.ppsInstant j) (s.ppsPer j), active := true, last := last } with
    tdc := { s.tdc with due := due }, sent := l ++ s.sent } : State).fire (0x28 + j)).send (.pps j))) j
  have hself := (ho (12 + j) (by omega)).trans (State.setOutU_outU s (12 + j) _)
  refine ⟨by rw [hs]; rfl, by rw [hself], by rw [hself], State.ppsHere_fired (by rw [hf]; exact List.mem_cons_self), fun hon hfl => ?_⟩
  rw [hd w hon hfl]
  exact congrArg (·.todDue ++ [s.todFor (16 + w.val) j]) (State.setOutU_outU_ne s (i := 12 + j.val) (j := 16 + w.val) _ (by omega))

theorem ppsPulse_trail (s : State) (j : Fin 4) {at_ : Nat} (hh : s.ppsHere j = false) (hu : (s.outU (12 + j.val)).until_ = some at_)
    (hl : at_ ≤ s.gau.l) : Completes (.ppsPulse j) s (fun t =>
      (t.outU (12 + j.val)).until_ = none ∧ (t.outU (12 + j.val)).active = false) := by
  obtain ⟨last, due, l, hpin⟩ := s.setPin_only (12 + j) { s.outU (12 + j) with until_ := none } false (s.outTime (12 + j))
  have htrail := (show s.ppsTrail j = s.setPin (12 + j) { s.outU (12 + j) with until_ := none } false (s.outTime (12 + j)) by
    simp only [State.ppsTrail, hu, hl, if_true]).trans hpin
  have hout := State.setOutU_outU s (12 + j) { s.outU (12 + j) with until_ := none, active := false, last := last }
  have hhere : (s.ppsTrail j).ppsHere j = false := by
    have hout' : (State.outU { s.setOutU (12 + j) { s.outU (12 + j) with until_ := none, active := false, last := last } with
      tdc := { s.tdc with due := due }, sent := l ++ s.sent } (12 + j)) = _ := hout
    rw [← hh, htrail]
    simp only [State.ppsHere, State.armedFor, hout']
    rfl
  refine ⟨s.ppsTrail j, ?_, ?_⟩
  · show execPpsPulse j s = _
    simp only [execPpsPulse, hhere, Bool.false_eq_true, false_and, if_false]
  · rw [htrail]
    exact ⟨congrArg OutU.until_ hout, congrArg OutU.active hout⟩

/-! ### Time-of-day messages (R100, R101) -/

theorem State.todBits_idle {i : Nat} (h : (s.outU i).txAt = none) : s.todBits i = s := by
  simp only [State.todBits, h]

/-- An edge on its pin leaves the messages of an output alone. -/
theorem State.setPin_message (s : State) (i : Nat) (o : OutU) (active : Bool) (at_ : Int) :
    ((s.setPin i o active at_).outU i).todDue = o.todDue ∧ ((s.setPin i o active at_).outU i).sq = o.sq ∧
      ((s.setPin i o active at_).outU i).txAt = o.txAt ∧ ((s.setPin i o active at_).outU i).todSeq = o.todSeq := by
  obtain ⟨last, due, l, hpin⟩ := s.setPin_only i o active at_
  have hout : (s.setPin i o active at_).outU i = { o with active := active, last := last } := by
    rw [hpin]
    exact State.setOutU_outU ..
  rw [hout]
  exact ⟨rfl, rfl, rfl, rfl⟩

theorem State.mem_setPin (s : State) (i : Nat) (o : OutU) (active : Bool) (at_ : Int) {y : Sent} (h : y ∈ s.sent) :
    y ∈ (s.setPin i o active at_).sent := by
  obtain ⟨last, due, l, hpin⟩ := s.setPin_only i o active at_
  rw [hpin]
  exact List.mem_append_right _ h

/-- The bits that go out leave the message count, the messages that are due and the start of the one in progress (R100). -/
theorem State.todBits_keeps (s : State) (i : Nat) {x : Nat} (ht : (s.outU i).txAt = some x) (hx : s.gau.l ≤ x) (hsq : (s.outU i).sq = false) :
    ((s.todBits i).outU i).todDue = (s.outU i).todDue ∧ ((s.todBits i).outU i).sq = false ∧ ((s.todBits i).outU i).txAt = some x ∧
      ((s.todBits i).outU i).todSeq = (s.outU i).todSeq ∧ ∀ y ∈ s.sent, y ∈ (s.todBits i).sent := by
  have hn : (s.gau.l - x) * baudOf (s.fl .OUT_CFG 23 21 i) / 10 ^ 9 = 0 := by
    rw [Nat.sub_eq_zero_of_le hx, Nat.zero_mul, Nat.zero_div]
  unfold State.todBits
  simp only [ht, hn]
  split
  · rw [if_neg (by decide)]
    exact ⟨rfl, hsq, ht, rfl, fun _ h => h⟩
  · split
    · obtain ⟨hd, hs, hx, hq⟩ := s.setPin_message i _ _ _
      exact ⟨hd, hs.trans hsq, hx, hq, fun _ => s.mem_setPin i _ _ _⟩
    · exact ⟨rfl, hsq, ht, rfl, fun _ h => h⟩

theorem State.squelchFull_setOutU (s : State) {i : Nat} (h : 16 ≤ i) (o : OutU) : (s.setOutU i o).squelchFull i = s.squelchFull i := by
  have hk : 12 + s.fl .OUT_CFG 16 15 i ≠ i := by
    have : s.fl .OUT_CFG 16 15 i < 2 ^ 2 := Nat.mod_lt _ (by decide)
    omega
  have hout : (s.setOutU i o).outU (12 + s.fl .OUT_CFG 16 15 i) = s.outU (12 + s.fl .OUT_CFG 16 15 i) := s.setOutU_outU_ne o hk
  rw [State.squelchFull, State.squelchFull]
  exact congrArg (fun b => s.squelchCond i || (decide (16 ≤ i ∧ i < 18) && b)) (congrArg OutU.sq hout)

theorem todMessage_exec (s : State) (w : Fin 2) {m : TodMsg} {r : List TodMsg} (hd : (s.outU (16 + w.val)).todDue = m :: r)
    (ht : (s.outU (16 + w.val)).txAt = none) (hl : m.due ≤ s.gau.l) : exec (.todMessage w) s =
      .next ((s.setOutU (16 + w.val) { s.outU (16 + w.val) with todDue := r }).todStart (16 + w.val) m) := by
  show execTodMessage w s = _
  simp only [execTodMessage, State.todBits_idle ht, hd, hl, if_true]

/-- An output that has just begun a message, and the first of its bits (R100). -/
theorem State.sendBits (s : State) (i : Nat) (o : OutU) (y : Sent) (ht : o.txAt = some s.gau.l) (hsq : o.sq = false) :
    ((((s.setOutU i o).send y).todBits i).outU i).todDue = o.todDue ∧ ((((s.setOutU i o).send y).todBits i).outU i).sq = false ∧
      ((((s.setOutU i o).send y).todBits i).outU i).txAt = some s.gau.l ∧
      ((((s.setOutU i o).send y).todBits i).outU i).todSeq = o.todSeq ∧ y ∈ (((s.setOutU i o).send y).todBits i).sent := by
  have hout : ((s.setOutU i o).send y).outU i = o := s.setOutU_outU i o
  obtain ⟨hdue, hq, htx, hseq, hsent⟩ := ((s.setOutU i o).send y).todBits_keeps i (x := s.gau.l) ((congrArg OutU.txAt hout).trans ht)
    (Nat.le_refl _) ((congrArg OutU.sq hout).trans hsq)
  rw [hout] at hdue hseq
  exact ⟨hdue, hq, htx, hseq, hsent y List.mem_cons_self⟩

theorem State.todStart_spec (s : State) (i : Nat) (m : TodMsg) (hq : s.squelchFull i = false) (ht : (s.outU i).txAt = none) :
    .tod (i - 16) (s.todBytes i m) ∈ (s.todStart i m).sent ∧ ((s.todStart i m).outU i).todDue = (s.outU i).todDue ∧
      ((s.todStart i m).outU i).sq = false ∧ ((s.todStart i m).outU i).txAt = some s.gau.l ∧
      ((s.todStart i m).outU i).todSeq = ((s.outU i).todSeq + 1) % 65536 := by
  unfold State.todStart
  dsimp only
  rw [if_neg (by simp [hq]), if_neg (by simp [ht])]
  obtain ⟨hdue, hsq, htx, hseq, hsent⟩ := s.sendBits i { s.outU i with
    sq := false, todSeq := ((s.outU i).todSeq + 1) % 65536, txAt := some s.gau.l, tx := (s.todBytes i m).flatMap uartBits }
    (.tod (i - 16) (s.todBytes i m)) rfl rfl
  exact ⟨hsent, hdue, hsq, htx, hseq⟩

theorem todMessage_sends (s : State) (w : Fin 2) {m : TodMsg} {r : List TodMsg} (hd : (s.outU (16 + w.val)).todDue = m :: r)
    (ht : (s.outU (16 + w.val)).txAt = none) (hl : m.due ≤ s.gau.l) (hq : s.squelchFull (16 + w.val) = false) :
    Completes (.todMessage w) s (fun t => .tod w (s.todBytes (16 + w.val) m) ∈ t.sent ∧ (t.outU (16 + w.val)).todDue = r ∧
      (t.outU (16 + w.val)).sq = false ∧ (t.outU (16 + w.val)).txAt = some s.gau.l ∧
      (t.outU (16 + w.val)).todSeq = ((s.outU (16 + w.val)).todSeq + 1) % 65536) := by
  refine ⟨_, todMessage_exec s w hd ht hl, ?_⟩
  have ho := State.setOutU_outU s (16 + w.val) { s.outU (16 + w.val) with todDue := r }
  have hspec := (s.setOutU (16 + w.val) { s.outU (16 + w.val) with todDue := r }).todStart_spec (16 + w.val) m
    ((s.squelchFull_setOutU (by omega) _).trans hq) ((congrArg OutU.txAt ho).trans ht)
  have hbytes : (s.setOutU (16 + w.val) { s.outU (16 + w.val) with todDue := r }).todBytes (16 + w.val) m = s.todBytes (16 + w.val) m := by
    simp only [State.todBytes, ho]
    rfl
  obtain ⟨hsent, hdue, hsq, htx, hseq⟩ := hspec
  rw [hbytes, show 16 + w.val - 16 = w.val by omega] at hsent
  exact ⟨hsent, hdue.trans (congrArg OutU.todDue ho), hsq, htx, hseq.trans (by rw [ho])⟩

theorem todMessage_squelched (s : State) (w : Fin 2) {m : TodMsg} {r : List TodMsg} (hd : (s.outU (16 + w.val)).todDue = m :: r)
    (ht : (s.outU (16 + w.val)).txAt = none) (hl : m.due ≤ s.gau.l) (hq : s.squelchFull (16 + w.val) = true) :
    Completes (.todMessage w) s (fun t => t.sent = s.sent ∧ (t.outU (16 + w.val)).todDue = r ∧
      (t.outU (16 + w.val)).todSeq = (s.outU (16 + w.val)).todSeq) := by
  refine ⟨_, todMessage_exec s w hd ht hl, ?_⟩
  have hq' : (s.setOutU (16 + w.val) { s.outU (16 + w.val) with todDue := r }).squelchFull (16 + w.val) = true :=
    (s.squelchFull_setOutU (by omega) _).trans hq
  simp only [State.todStart, hq', if_true, State.setOutU_outU]
  exact ⟨rfl, trivial, trivial⟩

/-! ### Word clocks, and the end of a squelch (R103, R106) -/

theorem wclkRealign_spec (s : State) (w : Fin 2) {at_ : Nat} (hr : (s.outU (18 + w.val)).realign = some at_)
    (he : s.tcEdge 1000000000 = true) (hl : at_ + 2000 ≤ s.gau.l) : Completes (.wclkRealign w) s (fun t =>
      (t.outU (18 + w.val)).realign = none ∧ (t.outU (18 + w.val)).frame = s.realigned (18 + w.val)) := by
  refine ⟨s.setOutU (18 + w.val) { s.outU (18 + w.val) with realign := none, frame := s.realigned (18 + w.val) }, ?_, ?_⟩
  · show execWclkRealign w s = _
    simp only [execWclkRealign, hr, he, State.rested, hl, decide_true, and_self, if_true]
  · dsimp only
    rw [State.setOutU_outU]
    exact ⟨rfl, rfl⟩

/-- A clock is out of squelch, and no condition squelches it. -/
def State.Sounds (s : State) (i : Nat) : Prop := (s.outU i).sq = false ∧ s.squelchCond i = false

theorem State.Sounds.set {i : Nat} (h : s.Sounds i) {o : OutU} (ho : o.sq = false) : (s.setOutU i o).Sounds i :=
  ⟨(congrArg OutU.sq (s.setOutU_outU i o)).trans ho, h.2⟩

theorem State.Sounds.setPin {i : Nat} (h : s.Sounds i) {o : OutU} (ho : o.sq = false) (active : Bool) (at_ : Int) :
    (s.setPin i o active at_).Sounds i := by
  obtain ⟨last, due, l, hpin⟩ := s.setPin_only i o active at_
  rw [hpin]
  exact ⟨(congrArg OutU.sq (s.setOutU_outU i { o with active := active, last := last })).trans ho, h.2⟩

theorem ite_Sounds {i : Nat} {c : Prop} {_ : Decidable c} {u w : State} (hu : u.Sounds i) (hw : w.Sounds i) :
    (if c then u else w).Sounds i := by
  split
  · exact hu
  · exact hw

theorem clock_squelchFull {i : Nat} (hi : i < 12 ∨ 18 ≤ i) : s.squelchFull i = s.squelchCond i := by
  have hn : decide (16 ≤ i ∧ i < 18) = false := decide_eq_false (by omega)
  rw [State.squelchFull, hn, Bool.false_and, Bool.or_false]

theorem State.Sounds.halfCycle {i : Nat} (hi : i < 12 ∨ 18 ≤ i) (h : s.Sounds i) : (s.halfCycle i).Sounds i := by
  unfold State.halfCycle
  dsimp only
  cases (s.outU i).half with
  | none => exact h
  | some n =>
    refine ite_Sounds h (ite_Sounds (h.setPin ((clock_squelchFull hi).trans h.2) ..) (ite_Sounds (h.set ?_) (h.setPin ?_ ..)))
    · exact h.1
    · exact h.1

theorem State.Sounds.halfCycles {i : Nat} (hi : i < 12 ∨ 18 ≤ i) : ∀ (k : Nat) {s : State}, s.Sounds i → (State.halfCycles i k s).Sounds i
  | 0, _, h => h
  | k + 1, _, h => State.Sounds.halfCycles hi k (h.halfCycle hi)

theorem squelchRelease_clock (s : State) (i : Fin 20) {n : Int} (hi : i.val < 12 ∨ 18 ≤ i.val) (hr : s.gau.running = true)
    (hq : s.squelchFull i = false) (hh : (s.outU i).half = none) (hf : s.frameMode i = true → (s.outU i).frame ≠ 0)
    (hb : s.clockBegins i = some n) : Completes (.squelchRelease i) s (fun t => (t.outU i).sq = false) := by
  have hanchor : s.reanchor i = s := by simp only [State.reanchor, hh]
  have hgrid : s.frameGrid i = s := by
    unfold State.frameGrid
    dsimp only
    split
    next h => rw [if_neg (hf h.1), hb, if_neg (by simp)]
    · rfl
  have hstart : s.clockStart i = s.setOutU i { s.outU i with half := some (n - 1), sq := false } := by
    simp only [State.clockStart, hh, hq, hb, Option.isSome_none, Bool.false_eq_true, or_self, if_false]
  have hs : (s.setOutU i { s.outU i with half := some (n - 1), sq := false }).Sounds i :=
    ⟨congrArg OutU.sq (s.setOutU_outU i _), ((clock_squelchFull (s := s) hi).symm.trans hq :)⟩
  refine ⟨s.clockRow i, ?_, ?_⟩
  · show execSquelchRelease i s = _
    rw [execSquelchRelease, if_pos hi, if_pos hr]
  · unfold State.clockRow
    rw [hanchor, hgrid, hstart]
    dsimp only
    split
    · exact hs.1
    · exact (State.Sounds.halfCycles hi _ hs).1

/-- Settles O29: the instants of the outputs, one lemma each. -/
theorem outputEventsComplete : Obligations.OutputEventsComplete := by
  intro j w i at_ m r s o tod q clk
  refine ⟨fun hs hsec hl => ⟨{ s with out := { s.out with oc := 0, ptc := none, snap := none } }, ?_, rfl, rfl, rfl⟩,
    ppsPulse_lead s j w, ppsPulse_trail s j, todMessage_sends s w, todMessage_squelched s w, wclkRealign_spec s w,
    fun hi hq hb => ⟨s.setOutU i { s.outU i with sq := false }, ?_, congrArg OutU.sq (s.setOutU_outU i _)⟩,
    fun n hi hr hq hh hf => squelchRelease_clock s i hi hr hq hh hf⟩
  · show execGrpcSnap s = _
    simp only [execGrpcSnap, hs, hsec, State.rested, hl, decide_true, and_self, if_true]
  · show execSquelchRelease i s = _
    rw [execSquelchRelease, if_neg (by omega), if_neg (by simp [hq, hb])]

end Sys2Proof.Machine
end

section
/-! Edges at the channels of the interval measurement, and the visits of its loopback channel (R107, R108, R110 to R114, R120). -/

namespace Sys2Proof.Machine

set_option Elab.async false

variable {s t : State} {c d : Nat}

/-! ### The channels -/

theorem State.setTdcCh_tdcCh (s : State) (c : Nat) (x : TdcCh) : (s.setTdcCh c x).tdcCh c = x := Tab.get_set_same ..

theorem State.setTdcCh_tdcCh_ne (s : State) (x : TdcCh) (h : d ≠ c) : (s.setTdcCh c x).tdcCh d = s.tdcCh d := Tab.get_set_ne _ _ _ h

theorem State.setCalU_calU (s : State) (u : Nat) (x : CalU) : (s.setCalU u x).calU u = x := Tab.get_set_same ..

theorem tdcCh_of_chs (h : t.tdc.chs = s.tdc.chs) (d : Nat) : t.tdcCh d = s.tdcCh d := by rw [State.tdcCh, h]; rfl

/-- What a channel holds of a pair, and when it arms again. -/
def TdcCh.pair (x : TdcCh) : Option StampV × Option StampV × Option Nat := (x.start, x.stop, x.rearm)

/-- Of the channels `t` has those of `s`, but for the counts and the FIFO of channel `c`. -/
structure Emits (c : Nat) (s t : State) : Prop where
  others : ∀ d, d ≠ c → t.tdcCh d = s.tdcCh d
  pair : (t.tdcCh c).pair = (s.tdcCh c).pair

theorem Emits.of_chs (h : t.tdc.chs = s.tdc.chs) : Emits c s t := ⟨fun d _ => tdcCh_of_chs h d, by rw [tdcCh_of_chs h]⟩

theorem Emits.refl (s : State) : Emits c s s := .of_chs rfl

theorem Emits.trans {u : State} (h1 : Emits c s t) (h2 : Emits c t u) : Emits c s u :=
  ⟨fun d hd => (h2.others d hd).trans (h1.others d hd), h2.pair.trans h1.pair⟩

theorem Emits.setTdcCh {x : TdcCh} (h : x.pair = (s.tdcCh c).pair) : Emits c s (s.setTdcCh c x) :=
  ⟨fun _ hd => s.setTdcCh_tdcCh_ne x hd, by rw [State.setTdcCh_tdcCh, h]⟩

theorem Emits.ite {p : Prop} {_ : Decidable p} {u : State} (ht : Emits c s t) (hu : Emits c s u) : Emits c s (if p then t else u) := by
  split
  · exact ht
  · exact hu

theorem Emits.emitPort (s : State) (c : Nat) (w : Nat → List Word) : Emits c s (s.emitPort c w) := by
  unfold State.emitPort
  refine .ite (.of_chs (by rw [State.deliver_tdc])) (.ite ?_ ?_)
  · exact (Emits.setTdcCh (x := { s.tdcCh c with lostP := (s.tdcCh c).lostP + 1 }) rfl).trans (.of_chs (by rw [State.pmcTime_tdc, State.bump_tdc]))
  · exact (Emits.setTdcCh (x := { s.tdcCh c with lostP := 0 }) rfl).trans (.of_chs (by rw [State.deliver_tdc]))

/-- What external memory does at a write leaves the channels. -/
theorem State.memWrite_chs (s : State) (r addr : Nat) (data : List Byte) : (s.memWrite r addr data).tdc.chs = s.tdc.chs := by
  obtain ⟨-, -, h⟩ := (Reacts.refl (s₀ := s)).memWrite (r := r) (addr := addr) (data := data) |>.latched
  exact h

theorem Emits.emitRing (s : State) (c : Nat) (w : Nat → List Word) : Emits c s (s.emitRing c w) := by
  unfold State.emitRing
  refine .ite ?_ ?_
  · exact (Emits.setTdcCh (x := { s.tdcCh c with lostR := (s.tdcCh c).lostR + 1 }) rfl).trans (.of_chs (by rw [State.pmcTime_tdc, State.bump_tdc]))
  · exact (Emits.setTdcCh (x := { s.tdcCh c with lostR := 0, prod := ((s.tdcCh c).prod + 1) % s.fl .TDC_RING_LEN 20 0 c }) rfl).trans (.of_chs (State.memWrite_chs ..))

theorem Emits.storeRec (s : State) (c : Nat) (r : TdcRec) : Emits c s (s.storeRec c r) := by
  unfold State.storeRec
  have hport : Emits c s (if r.port then s.emitPort c (recordWords r.type c r.src r.a r.b r.lone) else s) := .ite (.emitPort ..) (.refl s)
  exact .ite (hport.trans (.emitRing ..)) hport

theorem Emits.drainRec (s : State) (c : Nat) : Emits c s (s.drainRec c) := by
  unfold State.drainRec
  dsimp only
  split
  · exact .refl s
  next r rest _ =>
    exact .ite ((Emits.setTdcCh (x := { s.tdcCh c with fifo := rest, drainAt := s.gau.l + 40 }) rfl).trans (.storeRec ..)) (.refl s)

/-- A record of a channel leaves its pair and every other channel (R114). -/
theorem Emits.emit (s : State) (c type src : Nat) (a : StampV) (b : Option StampV) (lone : Bool) : Emits c s (s.emit c type src a b lone) := by
  have hset (x : TdcCh) (h : x.pair = (s.tdcCh c).pair) : Emits c s (s.setTdcCh c x) := .setTdcCh h
  unfold State.emit
  refine .ite ((hset _ ?_).trans (.of_chs (by rw [State.pmcTime_tdc, State.bump_tdc]))) ((hset _ ?_).trans (.drainRec ..)) <;> rfl

/-! ### An edge moves the channels that it feeds -/

/-- Every channel but `d` stays. -/
structure OthersStay (d : Nat) (s t : State) : Prop where
  keeps : ∀ c, c ≠ d → t.tdcCh c = s.tdcCh c

theorem OthersStay.trans {u : State} (h1 : OthersStay d s t) (h2 : OthersStay d t u) : OthersStay d s u :=
  ⟨fun c hc => (h2.keeps c hc).trans (h1.keeps c hc)⟩

theorem OthersStay.of_chs (h : t.tdc.chs = s.tdc.chs) : OthersStay d s t := ⟨fun c _ => tdcCh_of_chs h c⟩

theorem OthersStay.setTdcCh (s : State) (d : Nat) (x : TdcCh) : OthersStay d s (s.setTdcCh d x) := ⟨fun _ h => s.setTdcCh_tdcCh_ne x h⟩

theorem OthersStay.ite {p : Prop} {_ : Decidable p} {u : State} (ht : OthersStay d s t) (hu : OthersStay d s u) :
    OthersStay d s (if p then t else u) := by
  split
  · exact ht
  · exact hu

theorem OthersStay.stamped (s : State) (d : Nat) (x : TdcCh) (u : Nat) : OthersStay d s (((s.setTdcCh d x).markStamp u).pmcTime 0 d) :=
  (OthersStay.setTdcCh s d x).trans (.of_chs (by rw [State.pmcTime_tdc]; rfl))

theorem OthersStay.counted (s : State) (d : Nat) (x : TdcCh) : OthersStay d s ((s.setTdcCh d x).bump .TDC_STAT 15 0 1 d) :=
  (OthersStay.setTdcCh s d x).trans (.of_chs (by rw [State.bump_tdc]))

theorem OthersStay.stampEdge (s : State) (d div type src code : Nat) : OthersStay d s (s.stampEdge d div type src code).2 := by
  unfold State.stampEdge
  dsimp only
  split
  · exact .setTdcCh ..
  · split
    · exact .counted ..
    · exact OthersStay.trans (.stamped ..) ⟨(Emits.emit ..).others⟩

theorem OthersStay.closePair (s : State) (d : Nat) : OthersStay d s (s.closePair d) := by
  unfold State.closePair
  dsimp only
  split
  · exact OthersStay.trans (.setTdcCh ..) ⟨(Emits.emit ..).others⟩
  · exact .of_chs rfl

theorem OthersStay.pairEdge (s : State) (d : Nat) (stop : Bool) (code : Nat) : OthersStay d s (s.pairEdge d stop code) := by
  unfold State.pairEdge
  dsimp only
  refine .ite (.of_chs rfl) (.ite (.setTdcCh ..) (.ite (.counted ..) (OthersStay.trans (.stamped ..) (.closePair ..))))

theorem OthersStay.tdcEdgeOp (s : State) (d : Nat) (stop : Bool) (code : Nat) : OthersStay d s (s.tdcEdgeOp d stop code) := by
  unfold State.tdcEdgeOp
  have h0 : OthersStay d s (if (s.on .TDC_CFG 30 d && !s.isLbk d) = true then s.enterDelay (2 * d + stop.toNat)
      else (s.enterDelay (2 * d)).enterDelay (2 * d + 1)) := .ite (.of_chs rfl) (.of_chs rfl)
  dsimp only
  generalize (if (s.on .TDC_CFG 30 d && !s.isLbk d) = true then s.enterDelay (2 * d + stop.toNat)
      else (s.enterDelay (2 * d)).enterDelay (2 * d + 1)) = s0 at h0 ⊢
  have hstamp (div type src : Nat) : OthersStay d s (s0.stampEdge d div type src code).2 := h0.trans (.stampEdge ..)
  refine .ite ?_ (.ite h0 (.ite (h0.trans (.pairEdge ..)) (hstamp ..)))
  split
  · exact .ite ((hstamp _ _ _).trans (.of_chs rfl)) (hstamp _ _ _)
  · exact h0

theorem OthersStay.feedCh (codes : Nat → Nat) (src : Nat) (fall : Bool) (s : State) (d : Nat) :
    OthersStay d s (State.feedCh codes src fall s d) := by
  unfold State.feedCh
  have h1 (code : Nat) : OthersStay d s (if s.feeds d false src fall then s.tdcEdgeOp d false code else s) :=
    .ite (.tdcEdgeOp ..) (.of_chs rfl)
  exact .ite ((h1 _).trans (.tdcEdgeOp ..)) (h1 _)

theorem feeds_congr (hf : t.force = s.force) (hv : t.tdc.visit = s.tdc.visit) (hc : t.tdc.visitCh = s.tdc.visitCh) (d : Nat) (stop : Bool)
    (src : Nat) (fall : Bool) : t.feeds d stop src fall = s.feeds d stop src fall := by
  have hon (r : RegName) (b i : Nat) : t.on r b i = s.on r b i := by simp only [State.on, State.inForce, hf]
  have hfl (r : RegName) (h l i : Nat) : t.fl r h l i = s.fl r h l i := by simp only [State.fl, State.inForce, hf]
  have hlbk : t.isLbk d = s.isLbk d := by simp only [State.isLbk, hon, hfl, hv, hc]
  simp only [State.feeds, hlbk, hon, hfl, State.visiting, hv]
  rfl

theorem State.feedCh_off (codes : Nat → Nat) {src : Nat} {fall : Bool} (h0 : s.feeds d false src fall = false)
    (h1 : s.feeds d true src fall = false) : State.feedCh codes src fall s d = s := by
  simp only [State.feedCh, h0, h1, Bool.false_eq_true, if_false]

/-- A fold that moves one element only: what holds after it and is kept by the others holds after all. -/
theorem foldl_at {σ α : Type} {f : σ → α → σ} {Q : σ → Prop} {a : α} : ∀ {l : List α} {s : σ}, l.Nodup → a ∈ l →
    (∀ b ∈ l, b ≠ a → f s b = s) → Q (f s a) → (∀ t, ∀ b ∈ l, b ≠ a → Q t → Q (f t b)) → Q (l.foldl f s)
  | b :: l, s, hn, ha, hbefore, hat, hafter => by
    obtain ⟨hb, hl⟩ := List.nodup_cons.1 hn
    rcases List.mem_cons.1 ha with rfl | hal
    · exact List.foldlRecOn (motive := Q) l f hat fun t ht x hx =>
        hafter t x (List.mem_cons_of_mem _ hx) (fun e => hb (e ▸ hx)) ht
    · have hne : b ≠ a := fun e => hb (e ▸ hal)
      rw [List.foldl_cons, hbefore b List.mem_cons_self hne]
      exact foldl_at hl hal (fun x hx => hbefore x (List.mem_cons_of_mem _ hx)) hat
        (fun t x hx => hafter t x (List.mem_cons_of_mem _ hx))

/-! ### An edge that one channel takes -/

/-- The edge feeds one input of channel `c` and nothing else. -/
structure OneFed (s : State) (c : Fin 24) (stop : Bool) (src : Fin 64) (fall : Bool) : Prop where
  halt : s.flt.halt = false
  source : src.val < 49
  cand : fall = false → edgeCand src = none
  lbk : s.isLbk c = false
  on : s.on .TDC_CFG 31 c = true
  fed : s.feeds c stop src fall = true
  other : s.feeds c (!stop) src fall = false
  others : ∀ d : Fin 24, d ≠ c → s.feeds d false src fall = false ∧ s.feeds d true src fall = false

variable {c : Fin 24} {src : Fin 64} {fall stop : Bool} {codes : Vector (Fin 640) 48}

theorem OneFed.completes (h : OneFed s c stop src fall) {Q : State → Prop}
    (hat : Q (State.feedCh (fun k => (codes.toList.getD k 0).val) src fall s c))
    (hafter : ∀ t d, d < 24 → d ≠ c.val → Q t → Q (State.feedCh (fun k => (codes.toList.getD k 0).val) src fall t d)) :
    Completes (.tdcEdge src fall codes) s Q := by
  have hsel (u : State) : u.selEdge src fall = u := by
    unfold State.selEdge
    split
    next k hk => rw [if_pos (by cases fall <;> simp_all [h.cand])]
    · rfl
  refine ⟨s.srcEdge src fall fun k => (codes.toList.getD k 0).val, ?_, ?_⟩
  · show execTdcEdge src fall codes s = _
    rw [execTdcEdge, hsel]
  · have hgo : ¬ (s.flt.halt = true ∨ 49 ≤ src.val) := by
      rw [h.halt]
      have := h.source
      simp
      omega
    rw [State.srcEdge, if_neg hgo]
    refine (foldl_at (Q := fun t => Q t) (a := c.val) List.nodup_range (List.mem_range.2 c.isLt) (fun d hd hne => ?_) hat ?_)
    · obtain ⟨h0, h1⟩ := h.others ⟨d, List.mem_range.1 hd⟩ (fun e => hne (congrArg Fin.val e))
      exact State.feedCh_off _ h0 h1
    · exact fun t d hd => hafter t d (List.mem_range.1 hd)

theorem OneFed.source_start (h : OneFed s c false src fall) : s.fl .TDC_CFG 21 16 c = src := by
  have hfed := h.fed
  simp only [State.feeds, h.lbk, Bool.false_eq_true, if_false, Bool.and_eq_true, decide_eq_true_eq] at hfed
  exact hfed.2

/-- In STAMP mode the edge goes to the interpolator whose turn it is (R110). -/
theorem OneFed.feed_stamp (h : OneFed s c false src fall) (hm : s.on .TDC_CFG 30 c = false) (codes : Nat → Nat) :
    State.feedCh codes src fall s c = (((s.enterDelay (2 * c)).enterDelay (2 * c + 1)).stampEdge c (s.fl .TDC_DIV 23 0 c) 1 src
      (codes (2 * c + (s.tdcCh c).turnB.toNat))).2 := by
  have hother : s.feeds c true src fall = false := h.other
  simp only [State.feedCh, h.fed, hother, hm, Bool.false_eq_true, false_and, if_false, if_true, State.tdcEdgeOp, h.lbk, Bool.false_and, h.on,
    not_true_eq_false, h.source_start]

/-- In INTERVAL mode it goes to the interpolator of its input (R111). -/
theorem OneFed.feed_pair (h : OneFed s c stop src fall) (hm : s.on .TDC_CFG 30 c = true) (codes : Nat → Nat) :
    State.feedCh codes src fall s c = (s.enterDelay (2 * c + stop.toNat)).pairEdge c stop (codes (2 * c + stop.toNat)) := by
  have hfed := h.fed
  have hother := h.other
  cases stop with
  | false =>
    have hother : s.feeds c true src fall = false := hother
    simp only [State.feedCh, hfed, hother, hm, Bool.false_eq_true, if_false, if_true, State.tdcEdgeOp, h.lbk, h.on, not_false_eq_true,
      not_true_eq_false, and_self, Bool.not_false, Bool.and_self]
    rfl
  | true =>
    have hother : s.feeds c false src fall = false := hother
    simp only [State.feedCh, hfed, hother, hm, Bool.false_eq_true, if_false, if_true, State.tdcEdgeOp, h.lbk, h.on, not_false_eq_true,
      not_true_eq_false, and_self, Bool.not_false, Bool.and_self]
    rfl

/-- What is so at the channel after its edge, where the edge leaves the configuration and the visit. -/
theorem OneFed.completes_at (h : OneFed s c stop src fall) {u : State}
    (hu : State.feedCh (fun k => (codes.toList.getD k 0).val) src fall s c = u) (hf : u.force = s.force) (hv : u.tdc.visit = s.tdc.visit)
    (hvc : u.tdc.visitCh = s.tdc.visitCh) {Q : State → Prop} (hq : Q u) : Completes (.tdcEdge src fall codes) s Q := by
  have hall := h.completes (codes := codes) (Q := fun t => t = u) hu fun t d hd hne ht => by
    obtain ⟨h0, h1⟩ := h.others ⟨d, hd⟩ (fun e => hne (congrArg Fin.val e))
    rw [ht]
    exact State.feedCh_off _ ((feeds_congr hf hv hvc d false src fall).trans h0) ((feeds_congr hf hv hvc d true src fall).trans h1)
  exact hall.imp fun t ht => ht ▸ hq

theorem tdcEdge_counts (h : OneFed s c false src fall) (hm : s.on .TDC_CFG 30 c = false) (hn : (s.tdcCh c).nStart + 1 < s.fl .TDC_DIV 23 0 c) :
    Completes (.tdcEdge src fall codes) s (fun t => (t.tdcCh c).nStart = (s.tdcCh c).nStart + 1 ∧ t.sent = s.sent) := by
  refine h.completes_at (u := ((s.enterDelay (2 * c)).enterDelay (2 * c + 1)).setTdcCh c { s.tdcCh c with nStart := (s.tdcCh c).nStart + 1 })
    ?_ rfl rfl rfl ⟨?_, rfl⟩
  · rw [h.feed_stamp hm, State.stampEdge]
    exact congrArg Prod.snd (if_pos hn)
  · rw [State.setTdcCh_tdcCh]

theorem State.stampNow_enterDelay (s : State) (code : Nat) (b : Bool) (u v : Nat) :
    (s.enterDelay v).stampNow code b u = s.stampNow code b u := by
  have hgen : ((s.enterDelay v).calU u).gen = (s.calU u).gen := by
    by_cases hu : u = v
    · subst hu
      show ((s.setCalU u { s.calU u with live := some s.gau.l }).calU u).gen = _
      rw [State.setCalU_calU]
    · exact congrArg CalU.gen (Tab.get_set_ne _ _ _ hu)
  rw [State.stampNow, State.stampNow, hgen]
  rfl

/-- The sequencer of cluster 0 that takes the records of a channel (R114). -/
def State.tdcPort (s : State) (c : Nat) : Nat := s.fl .CLU_TDC_MAP (4 * (c % 8) + 3) (4 * (c % 8)) (c / 8)

/-- A record that finds its FIFO empty and room in the inbox of the port reaches it at once (R114). -/
theorem State.emit_delivers (v : State) (c type src : Nat) (a : StampV) (hf : (v.tdcCh c).fifo = [])
    (hd : (v.tdcCh c).drainAt ≤ v.gau.l) (hl : v.isLbk c = false) (hp : v.fl .TDC_CFG 27 26 c = 0) (hlis : v.listens (v.tdcPort c) = true)
    (hroom : v.room (v.tdcPort c) 2 ⟨0x20, c, recordWords type c src a none false (v.tdcCh c).lostP⟩ = true) :
    ∃ w : State, v.emit c type src a none false = w.deliver (v.tdcPort c) 2 ⟨0x20, c, recordWords type c src a none false (v.tdcCh c).lostP⟩ ∧
      w.seqs = v.seqs ∧ w.force = v.force ∧ w.tdc.visit = v.tdc.visit ∧ w.tdc.visitCh = v.tdc.visitCh ∧
      w.tdcCh c = { v.tdcCh c with fifo := [], drainAt := v.gau.l + 40, lostP := 0 } := by
  let r : TdcRec := ⟨type, src, a, none, false, true, false⟩
  let v1 := v.setTdcCh c { v.tdcCh c with fifo := [r] }
  let v2 := v1.setTdcCh c { v.tdcCh c with fifo := [], drainAt := v.gau.l + 40 }
  have h1 : v1.tdcCh c = { v.tdcCh c with fifo := [r] } := State.setTdcCh_tdcCh ..
  have h2 : v2.tdcCh c = { v.tdcCh c with fifo := [], drainAt := v.gau.l + 40 } := State.setTdcCh_tdcCh ..
  have hemit : v.emit c type src a none false = v1.drainRec c := by
    simp only [State.emit, hf, hl, hp, List.length_nil, List.nil_append]
    rfl
  have hdrain : v1.drainRec c = v2.storeRec c r := by
    unfold State.drainRec
    simp only [h1]
    exact if_pos hd
  have hstore : v2.storeRec c r = v2.emitPort c (recordWords type c src a none false) := rfl
  have hport : v2.emitPort c (recordWords type c src a none false) =
      (v2.setTdcCh c { v2.tdcCh c with lostP := 0 }).deliver (v.tdcPort c) 2
        ⟨0x20, c, recordWords type c src a none false (v.tdcCh c).lostP⟩ := by
    have hlost : (v2.tdcCh c).lostP = (v.tdcCh c).lostP := by rw [h2]
    unfold State.emitPort
    simp only [hlost]
    exact (if_neg (not_not_intro hlis)).trans (if_neg (not_not_intro hroom))
  refine ⟨v2.setTdcCh c { v2.tdcCh c with lostP := 0 }, ?_, rfl, rfl, rfl, rfl, ?_⟩
  · rw [hemit, hdrain, hstore, hport]
  · rw [State.setTdcCh_tdcCh, h2]

/-- An interpolator stamps: its channel becomes `x`. -/
def State.stamped (s : State) (c : Nat) (x : TdcCh) (u : Nat) : State := ((s.setTdcCh c x).markStamp u).pmcTime 0 c

theorem State.stamped_keeps (s : State) (c : Nat) (x : TdcCh) (u : Nat) : (s.stamped c x u).force = s.force ∧
    (s.stamped c x u).seqs = s.seqs ∧ (s.stamped c x u).gau = s.gau ∧ (s.stamped c x u).tdc.visit = s.tdc.visit ∧
    (s.stamped c x u).tdc.visitCh = s.tdc.visitCh ∧ (s.stamped c x u).tdcCh c = x := by
  unfold State.stamped
  refine ⟨?_, ?_, ?_, ?_, ?_, (tdcCh_of_chs (by rw [State.pmcTime_tdc]; rfl) c).trans (s.setTdcCh_tdcCh c x)⟩
  · rw [State.pmcTime_force]
    rfl
  · rw [State.pmcTime_seqs]
    rfl
  · rw [State.pmcTime_gau]
    rfl
  · rw [State.pmcTime_tdc]
    rfl
  · rw [State.pmcTime_tdc]
    rfl

theorem State.enterDelay_keeps (s : State) (u : Nat) : (s.enterDelay u).force = s.force ∧ (s.enterDelay u).seqs = s.seqs ∧
    (s.enterDelay u).gau = s.gau ∧ (s.enterDelay u).tdc.visit = s.tdc.visit ∧ (s.enterDelay u).tdc.visitCh = s.tdc.visitCh ∧
    (s.enterDelay u).tdc.chs = s.tdc.chs := ⟨rfl, rfl, rfl, rfl, rfl, rfl⟩

theorem tdcEdge_stamps (h : OneFed s c false src fall) (hm : s.on .TDC_CFG 30 c = false)
    (hn : s.fl .TDC_DIV 23 0 c ≤ (s.tdcCh c).nStart + 1)
    (hdead : inDead ((s.tdcCh c).seen (s.tdcCh c).turnB) s.gau.l (codes.toList.getD (2 * c + (s.tdcCh c).turnB.toNat) 0).val = false)
    (hp : s.fl .TDC_CFG 27 26 c = 0) (hf : (s.tdcCh c).fifo = []) (hd : (s.tdcCh c).drainAt ≤ s.gau.l) {a : StampV}
    (ha : s.stampNow (codes.toList.getD (2 * c + (s.tdcCh c).turnB.toNat) 0).val (s.tdcCh c).turnB (2 * c + (s.tdcCh c).turnB.toNat) = a)
    {m : Msg} (hmsg : m = ⟨0x20, c, recordWords 1 c src a none false (s.tdcCh c).lostP⟩)
    (hl : s.listens (s.tdcPort c) = true) (hr : s.room (s.tdcPort c) 2 m = true) :
    Completes (.tdcEdge src fall codes) s (fun t => (t.tdcCh c).nStart = 0 ∧ (t.tdcCh c).turnB = (!(s.tdcCh c).turnB) ∧ (t.tdcCh c).fifo = [] ∧
      (t.sq (s.tdcPort c)).inbox.get 2 [] = (s.sq (s.tdcPort c)).inbox.get 2 [] ++ [m]) := by
  let s0 := (s.enterDelay (2 * c)).enterDelay (2 * c + 1)
  let y : TdcCh := { (s.tdcCh c).mark (s.tdcCh c).turnB s.gau.l (codes.toList.getD (2 * c + (s.tdcCh c).turnB.toNat) 0).val with
    nStart := 0, turnB := !(s.tdcCh c).turnB }
  let v := s0.stamped c y (2 * c + (s.tdcCh c).turnB.toNat)
  obtain ⟨f1, q1, g1, v1, w1, -⟩ := s.enterDelay_keeps (2 * c)
  obtain ⟨f2, q2, g2, v2, w2, -⟩ := (s.enterDelay (2 * c)).enterDelay_keeps (2 * c + 1)
  obtain ⟨f3, q3, g3, v3, w3, hy⟩ := s0.stamped_keeps c y (2 * c + (s.tdcCh c).turnB.toNat)
  have hforce : v.force = s.force := f3.trans (f2.trans f1)
  have hseqs : v.seqs = s.seqs := q3.trans (q2.trans q1)
  have hgau : v.gau = s.gau := g3.trans (g2.trans g1)
  have hvisit : v.tdc.visit = s.tdc.visit := v3.trans (v2.trans v1)
  have hvisitCh : v.tdc.visitCh = s.tdc.visitCh := w3.trans (w2.trans w1)
  have hy : v.tdcCh c = y := hy
  have hkeep : y.fifo = (s.tdcCh c).fifo ∧ y.drainAt = (s.tdcCh c).drainAt ∧ y.lostP = (s.tdcCh c).lostP := by
    cases hb : (s.tdcCh c).turnB <;> simp [y, TdcCh.mark, hb]
  obtain ⟨hyf, hyd, hyl⟩ := hkeep
  have hfeed : State.feedCh (fun k => (codes.toList.getD k 0).val) src fall s c = v.emit c 1 src a none false := by
    rw [h.feed_stamp hm, State.stampEdge]
    dsimp only
    have hx : ((s.enterDelay (2 * c)).enterDelay (2 * c + 1)).tdcCh c = s.tdcCh c := rfl
    rw [hx, if_neg (Nat.not_lt.2 hn)]
    have hdead' : ¬ inDead ((s.tdcCh c).seen (s.tdcCh c).turnB) ((s.enterDelay (2 * c)).enterDelay (2 * c + 1)).gau.l
        (codes.toList.getD (2 * c + (s.tdcCh c).turnB.toNat) 0).val = true := by
      rw [show ((s.enterDelay (2 * c)).enterDelay (2 * c + 1)).gau = s.gau from rfl, hdead]
      exact Bool.false_ne_true
    rw [if_neg hdead', State.stampNow_enterDelay, State.stampNow_enterDelay, ha]
    rfl
  have hon (r : RegName) (b i : Nat) : v.on r b i = s.on r b i := by simp only [State.on, State.inForce, hforce]
  have hfl (r : RegName) (x l i : Nat) : v.fl r x l i = s.fl r x l i := by simp only [State.fl, State.inForce, hforce]
  have hport : v.tdcPort c = s.tdcPort c := hfl ..
  have hlbk : v.isLbk c = false := by
    rw [← h.lbk]
    simp only [State.isLbk, hon, hfl, hvisit, hvisitCh]
  have hsq : v.sq (s.tdcPort c) = s.sq (s.tdcPort c) := by rw [State.sq, hseqs]; rfl
  have hlost : (v.tdcCh c).lostP = (s.tdcCh c).lostP := by rw [hy, hyl]
  obtain ⟨w, hw, hws, hwf, hwv, hwc, hwch⟩ := v.emit_delivers c 1 src a (by rw [hy, hyf, hf]) (by rw [hy, hyd, hgau]; exact hd) hlbk
    ((hfl ..).trans hp) (by rw [hport, State.sq_listens hsq]; exact hl) (by rw [hlost, hport, State.sq_room _ _ hsq, ← hmsg]; exact hr)
  rw [hlost, hport, ← hmsg] at hw
  have hwsq : w.sq (s.tdcPort c) = s.sq (s.tdcPort c) := by rw [State.sq, hws, ← State.sq, hsq]
  have hch : (w.deliver (s.tdcPort c) 2 m).tdcCh c = { v.tdcCh c with fifo := [], drainAt := v.gau.l + 40, lostP := 0 } :=
    (tdcCh_of_chs (by rw [State.deliver_tdc]) c).trans hwch
  refine h.completes_at (hfeed.trans hw) ((State.deliver_force ..).trans (hwf.trans hforce)) ?_ ?_ ⟨?_, ?_, ?_, ?_⟩
  · rw [State.deliver_tdc, hwv, hvisit]
  · rw [State.deliver_tdc, hwc, hvisitCh]
  · rw [hch, hy]
  · rw [hch, hy]
  · rw [hch]
  · rw [State.deliver_inbox 2 m ((State.sq_listens hwsq).trans hl), hwsq]

/-- The channel once an input of its pair has stamped (R111). -/
def TdcCh.take (x : TdcCh) (stop : Bool) (a : StampV) (l code : Nat) : TdcCh :=
  if stop then { x.mark stop l code with stop := some a } else { x.mark stop l code with start := some a }

theorem TdcCh.take_pair (x : TdcCh) (stop : Bool) (a : StampV) (l code : Nat) : (x.take stop a l code).pair =
    if stop then (x.start, some a, x.rearm) else (some a, x.stop, x.rearm) := by
  cases stop <;> rfl

/-- The DIV-th edge of an input that has none stamped, out of its dead time (R111). -/
theorem State.pairEdge_takes (s : State) (c : Nat) (stop : Bool) (code : Nat) (hre : (s.tdcCh c).rearm = none)
    (hhave : (if stop then (s.tdcCh c).stop.isSome else (s.tdcCh c).start.isSome) = false)
    (hn : s.fl .TDC_DIV 23 0 c ≤ (if stop then (s.tdcCh c).nStop else (s.tdcCh c).nStart) + 1)
    (hdead : inDead ((s.tdcCh c).seen stop) s.gau.l code = false) : s.pairEdge c stop code =
      (s.stamped c ((s.tdcCh c).take stop (s.stampNow code stop (2 * c + stop.toNat)) s.gau.l code) (2 * c + stop.toNat)).closePair c := by
  unfold State.pairEdge
  dsimp only
  rw [if_neg (by simp [hre, hhave]), if_neg (Nat.not_lt.2 hn), if_neg (by simp [hdead])]
  rfl

section
variable (s : State) (c : Fin 24) (src : Fin 64) (fall stop : Bool) (codes : Vector (Fin 640) 48)

/-- The edge feeds one input of a channel in INTERVAL mode that may stamp it. -/
structure Pairs : Prop where
  one : OneFed s c stop src fall
  mode : s.on .TDC_CFG 30 c = true
  dead : inDead ((s.tdcCh c).seen stop) s.gau.l (codes.toList.getD (2 * c + stop.toNat) 0).val = false
  rearm : (s.tdcCh c).rearm = none

end

variable {s : State} {c : Fin 24} {src : Fin 64} {fall stop : Bool} {codes : Vector (Fin 640) 48}

theorem Pairs.feed (h : Pairs s c src fall stop codes)
    (hhave : (if stop then (s.tdcCh c).stop.isSome else (s.tdcCh c).start.isSome) = false)
    (hn : s.fl .TDC_DIV 23 0 c ≤ (if stop then (s.tdcCh c).nStop else (s.tdcCh c).nStart) + 1) :
    ∃ v : State, State.feedCh (fun k => (codes.toList.getD k 0).val) src fall s c = v.closePair c ∧ v.force = s.force ∧
      v.tdc.visit = s.tdc.visit ∧ v.tdc.visitCh = s.tdc.visitCh ∧
      (v.tdcCh c).pair = if stop then ((s.tdcCh c).start,
          some (s.stampNow (codes.toList.getD (2 * c + stop.toNat) 0).val stop (2 * c + stop.toNat)), none)
        else (some (s.stampNow (codes.toList.getD (2 * c + stop.toNat) 0).val stop (2 * c + stop.toNat)), (s.tdcCh c).stop, none) := by
  obtain ⟨f1, -, -, v1, w1, ch1⟩ := s.enterDelay_keeps (2 * c + stop.toNat)
  have hch := tdcCh_of_chs ch1 c
  have htake := (s.enterDelay (2 * c + stop.toNat)).pairEdge_takes c stop (codes.toList.getD (2 * c + stop.toNat) 0).val
    h.rearm hhave hn h.dead
  rw [State.stampNow_enterDelay, hch] at htake
  obtain ⟨f3, -, -, v3, w3, hy⟩ := (s.enterDelay (2 * c + stop.toNat)).stamped_keeps c
    ((s.tdcCh c).take stop (s.stampNow (codes.toList.getD (2 * c + stop.toNat) 0).val stop (2 * c + stop.toNat))
      (s.enterDelay (2 * c + stop.toNat)).gau.l (codes.toList.getD (2 * c + stop.toNat) 0).val) (2 * c + stop.toNat)
  refine ⟨_, (h.one.feed_pair h.mode _).trans htake, f3.trans f1, v3.trans v1, w3.trans w1, ?_⟩
  rw [hy, TdcCh.take_pair, h.rearm]

/-- The first edge of a pair is kept. -/
theorem Pairs.first (h : Pairs s c src fall stop codes) (hs : (s.tdcCh c).start = none) (hp : (s.tdcCh c).stop = none)
    (hn : s.fl .TDC_DIV 23 0 c ≤ (if stop then (s.tdcCh c).nStop else (s.tdcCh c).nStart) + 1) :
    Completes (.tdcEdge src fall codes) s (fun t => (t.tdcCh c).pair =
      if stop then (none, some (s.stampNow (codes.toList.getD (2 * c + stop.toNat) 0).val stop (2 * c + stop.toNat)), none)
      else (some (s.stampNow (codes.toList.getD (2 * c + stop.toNat) 0).val stop (2 * c + stop.toNat)), none, none)) := by
  obtain ⟨v, hfeed, hf, hv, hvc, hpair⟩ := h.feed (by cases stop <;> simp [hs, hp]) hn
  rw [hs, hp] at hpair
  have hclose : v.closePair c = v := by
    unfold State.closePair
    dsimp only
    cases stop <;> simp only [TdcCh.pair, Prod.mk.injEq, Bool.false_eq_true, if_false, if_true] at hpair <;>
      obtain ⟨h1, h2, -⟩ := hpair <;> rw [h1, h2]
  exact h.one.completes_at (hfeed.trans hclose) hf hv hvc hpair

/-- The start edge closes a pair that has its stop: the channel arms again behind both (R111). -/
theorem Pairs.close (h : Pairs s c src fall false codes) {b : StampV} (hs : (s.tdcCh c).start = none) (hp : (s.tdcCh c).stop = some b)
    (hn : s.fl .TDC_DIV 23 0 c ≤ (s.tdcCh c).nStart + 1) :
    Completes (.tdcEdge src fall codes) s (fun t => (t.tdcCh c).pair = (none, none, some (max s.gau.l b.l + 1))) := by
  obtain ⟨v, hfeed, hf, hv, hvc, hpair⟩ := h.feed (by simp [hs]) hn
  simp only [TdcCh.pair, hp, Bool.false_eq_true, if_false, Prod.mk.injEq] at hpair
  obtain ⟨h1, h2, -⟩ := hpair
  refine h.one.completes ?_ fun t d _ hne ht => ?_
  · rw [hfeed, State.closePair]
    simp only [h1, h2]
    rw [(Emits.emit ..).pair, State.rearm, State.setTdcCh_tdcCh]
    rfl
  · rw [(OthersStay.feedCh _ _ _ t d).keeps c (Ne.symm hne), ht]

/-! ### Timeouts and visits -/

theorem tdcTimeout_spec (s : State) (c : Fin 24) (h : s.tdcLate c = true) : Completes (.tdcTimeout c) s (fun t =>
    (t.tdcCh c).pair = (none, none, some s.gau.l)) := by
  refine .of_if rfl h ?_
  have hlone : (s.tdcCh c).lone ≠ none := by
    intro hl
    simp [State.tdcLate, hl] at h
  split
  next hl => exact absurd hl hlone
  · rw [(Emits.emit ..).pair, State.rearm, State.setTdcCh_tdcCh]
    rfl

theorem tensionVisitEnd_spec (s : State) (h : s.visitOver = true) (hh : s.flt.halt = false) : Completes .tensionVisitEnd s (fun t =>
    if s.on .TDC_CTL 1 then t.tdc.visit = (s.nextVisit s.visiting).map (fun b => (b, 0, s.gau.l)) else t.tdc.visit = none) := by
  refine .of_if rfl ⟨h, by simp [hh]⟩ ?_
  unfold State.endVisit
  split
  · rfl
  · rfl

/-- Settles O30: the edges that one channel takes, the timeout of a pair and the end of a visit. -/
theorem measurementEventsComplete : Obligations.MeasurementEventsComplete := by
  intro c src fall codes s x n code ip m div only pairs
  have hone {stop : Bool} (h : only stop) : OneFed s c stop src fall := by
    obtain ⟨h1, h2, h3, h4, h5, h6, h7, h8⟩ := h
    exact ⟨h1, h2, h3, h4, h5, h6, h7, h8⟩
  have hpairs {stop : Bool} (h : pairs stop) : Pairs s c src fall stop codes := by
    obtain ⟨h1, h2, h3, h4⟩ := h
    exact ⟨hone h1, h2, h3, h4⟩
  refine ⟨fun h hm hn => tdcEdge_counts (hone h) hm hn,
    fun h hm hn hd hp hf hdr hl hr => tdcEdge_stamps (hone h) hm hn hd hp hf hdr rfl rfl hl hr,
    fun h hs hp hn => ((hpairs h).first hs hp hn).imp fun t ht => ?_, fun h hs hp hn => ((hpairs h).first hs hp hn).imp fun t ht => ?_,
    fun b h hs hp hn => ((hpairs h).close hs hp hn).imp fun t ht => ?_, fun h => (tdcTimeout_spec s c h).imp fun t ht => ?_,
    tensionVisitEnd_spec s⟩
  all_goals
    simp only [TdcCh.pair, Bool.false_eq_true, if_false, if_true, Prod.mk.injEq] at ht
    obtain ⟨h1, h2, h3⟩ := ht
  · exact ⟨h1, h2⟩
  · exact ⟨h2, h1⟩
  · exact ⟨h1, h2, h3⟩
  · exact ⟨h1, h2, h3⟩

end Sys2Proof.Machine
end

section
/-! The background calibration: injections, passes and table swaps (R115 to R118, R121). -/

namespace Sys2Proof.Machine

set_option Elab.async false

variable {s : State}

/-- A counter of hardware after a count that it has room for, or at its limit. -/
theorem State.bump_hwOf (s : State) (r : RegName) (hi lo k i j l : Nat) :
    bits ((s.bump r hi lo k i j l).hwOf r i j l) hi lo = min (2 ^ (hi + 1 - lo) - 1) (bits (s.hwOf r i j l) hi lo + k) := by
  have hset : (s.bump r hi lo k i j l).hwOf r i j l =
      putBits (s.hwOf r i j l) hi lo (satAdd (2 ^ (hi + 1 - lo) - 1) (bits (s.hwOf r i j l) hi lo) k) := Tab.get_set_same ..
  have hpos : 0 < 2 ^ (hi + 1 - lo) := Nat.two_pow_pos _
  rw [hset, bits_putBits, satAdd]
  exact Nat.mod_eq_of_lt (lt_of_le_of_lt (Nat.min_le_left ..) (by omega))

/-! ### Injections -/

section
variable (u : CalUnit) (code : Fin 640) {at_ : Nat}

/-- The noise source of a unit may fire: the last injection is 40 ns old (R115). -/
def State.mayInject (s : State) (u : CalUnit) : Prop :=
  s.flt.halt = false ∧ (s.calU (calIdx u)).injAt.all (fun t => decide (t + 40 ≤ s.gau.l)) = true

theorem calInjection_exec (h : s.mayInject u) : exec (.calInjection u code ()) s = .next (
    if s.collides (calIdx u) then s.bump .TDC_CAL_CANCEL 31 0
    else (s.setCalU (calIdx u) { s.calU (calIdx u) with injAt := some s.gau.l }).inject u code) := by
  obtain ⟨hh, hi⟩ := h
  have hany : ¬ (s.flt.halt = true ∨ (s.calU (calIdx u)).injAt.any (fun t => decide (s.gau.l < t + 40)) = true) := by
    rw [hh]
    cases hx : (s.calU (calIdx u)).injAt with
    | none => simp
    | some t => simpa [hx] using hi
  show execCalInjection u code () s = _
  rw [execCalInjection]
  dsimp only
  rw [if_neg hany]

theorem calInjection_cancelled (h : s.mayInject u) (hc : s.collides (calIdx u) = true) : Completes (.calInjection u code ()) s (fun t =>
    bits (t.hwOf .TDC_CAL_CANCEL) 31 0 = min (2 ^ 32 - 1) (bits (s.hwOf .TDC_CAL_CANCEL) 31 0 + 1) ∧ t.tdc = s.tdc) := by
  refine ⟨s.bump .TDC_CAL_CANCEL 31 0, ?_, s.bump_hwOf .TDC_CAL_CANCEL 31 0 1 0 0 0, State.bump_tdc ..⟩
  rw [calInjection_exec u code h, hc, if_pos rfl]

theorem calInjection_early (hi : (s.calU (calIdx u)).injAt = some at_) (hl : s.gau.l < at_ + 40) :
    exec (.calInjection u code ()) s = .next s := by
  show execCalInjection u code () s = _
  rw [execCalInjection]
  rw [if_pos (by simp [hi, hl])]

theorem calInjection_hits (h : s.mayInject u) (hc : s.collides (calIdx u) = false) (hf : s.calFrozen u = false)
    (hr : (s.calU (calIdx u)).ready = none) (hn : (s.calU (calIdx u)).hits + 1 < 2 ^ 20) :
    Completes (.calInjection u code ()) s (fun t => (t.calU (calIdx u)).hits = (s.calU (calIdx u)).hits + 1 ∧
      (t.calU (calIdx u)).pass.get code 0 = (s.calU (calIdx u)).pass.get code 0 + 1 ∧ (t.calU (calIdx u)).injAt = some s.gau.l) := by
  let v := s.setCalU (calIdx u) { s.calU (calIdx u) with injAt := some s.gau.l }
  have hv : v.calU (calIdx u) = { s.calU (calIdx u) with injAt := some s.gau.l } := State.setCalU_calU ..
  have hfz : v.calFrozen u = false := hf
  refine ⟨v.inject u code, ?_, ?_⟩
  · rw [calInjection_exec u code h, hc, if_neg Bool.false_ne_true]
  · unfold State.inject
    dsimp only
    rw [hfz, hv, hr, if_neg (by simp), if_pos hn, State.setCalU_calU]
    exact ⟨rfl, Tab.get_set_same .., rfl⟩

end

/-! ### Passes and tables -/

theorem calPassExpiry_spec (s : State) (u : CalUnit) (hr : (s.calU (calIdx u)).ready = none)
    (hp : (s.calU (calIdx u)).passAt + s.fl .TDC_CAL 15 0 * 1000000000 ≤ s.gau.l) : Completes (.calPassExpiry u) s (fun t =>
      (t.calU (calIdx u)).pass = [] ∧ (t.calU (calIdx u)).hits = 0 ∧ (t.calU (calIdx u)).passAt = s.gau.l ∧
      (t.calU (calIdx u)).tab = (s.calU (calIdx u)).tab) := by
  refine .of_if rfl ⟨by rw [hr]; rfl, hp⟩ ?_
  have hcal : ((s.newPass (calIdx u)).bump .TDC_CAL_STAT 15 0).calU (calIdx u) = _ := State.setCalU_calU ..
  rw [hcal]
  exact ⟨rfl, rfl, rfl, rfl⟩

theorem tableSwap_spec (s : State) (u : CalUnit) (h : s.swapDue u = true) : Completes (.tableSwap u) s (fun t =>
    (t.calU (calIdx u)).gen = (if (s.calU (calIdx u)).gen = 65535 then 1 else (s.calU (calIdx u)).gen + 1) ∧
      (t.calU (calIdx u)).tab = (s.calU (calIdx u)).ready ∧
      (t.calU (calIdx u)).prev = some ((s.calU (calIdx u)).gen, (s.calU (calIdx u)).tab) ∧ (t.calU (calIdx u)).ready = none ∧
      (t.calU (calIdx u)).swapAt = some s.gau.l) := by
  refine .of_if rfl h ?_
  rw [State.swapTable, State.setCalU_calU]
  exact ⟨rfl, rfl, rfl, rfl, rfl⟩

/-- Settles O31: injections, the expiry of a pass and the swap of a table. -/
theorem calibrationEventsComplete : Obligations.CalibrationEventsComplete := by
  intro u code at_ s x may
  exact ⟨calInjection_cancelled u code, calInjection_early u code, calInjection_hits u code, calPassExpiry_spec s u, tableSwap_spec s u⟩

end Sys2Proof.Machine
end

section
/-! The tracking side of the satellite baseband (R125). -/

namespace Sys2Proof.Machine

set_option Elab.async false

/-- The bytes received go to the register's 64 bits; what its cell holds above them stays. -/
theorem spiDone_rx (s : State) (rx : DWord) (h : s.gnb.spiBusy = true ∧ s.gnb.spiEnd ≤ s.gau.l) :
    ∃ t w, exec (.spiDone rx) s = .next t ∧ t.hwOf .GNS_SPI_RX = putBits (s.hwOf .GNS_SPI_RX) 63 0 w := by
  refine ⟨({ (s.spiRx rx.toNat).2 with gnb := { (s.spiRx rx.toNat).2.gnb with spiBusy := false } } : State).setHw .GNS_SPI_RX 63 0
    (s.spiRx rx.toNat).1 |>.setHw .GNS_SPI_CTL 30 30 1, (s.spiRx rx.toNat).1, ?_, ?_⟩
  · show execSpiDone rx s = _
    rw [execSpiDone, if_pos h]
  · exact (Tab.get_set_ne _ _ _ (by decide)).trans (Tab.get_set_same ..)

/-- A transaction of the SPI that is over, while the cell of the register of the bytes received holds more than its 64 bits. -/
def State.spiWide : State :=
  { State.reset with gnb := { State.reset.gnb with spiBusy := true }, hw := [(RegName.GNS_SPI_RX.addr, 2 ^ 64)] }

/-- Refutes O32: SPI_DONE leaves what the register's cell holds above bit 63, and the statement divides the whole cell. -/
theorem not_basebandTrackingCompletes : ¬ Obligations.BasebandTrackingCompletes := by
  intro h
  obtain ⟨-, -, -, -, hspi, -⟩ := h 0 0 0 0 0 0 0 0 0 0 0 State.spiWide
  obtain ⟨t, w, ht, hw⟩ := spiDone_rx State.spiWide 0 ⟨rfl, by decide +kernel⟩
  obtain ⟨-, hrx, -⟩ := (hspi rfl (by decide +kernel) (by decide +kernel)).post ht
  have hlen : State.spiWide.fl .GNS_SPI_CTL 19 16 = 1 := by decide +kernel
  have hcell : State.spiWide.hwOf .GNS_SPI_RX = 2 ^ 64 := by decide +kernel
  rw [hlen, hw, hcell] at hrx
  have hbit : Nat.testBit (putBits (2 ^ 64) 63 0 w / 2 ^ (64 - 8 * 1)) 8 = Nat.testBit (BitVec.toNat (0 : DWord) / 2 ^ (64 - 8 * 1)) 8 :=
    congrArg (Nat.testBit · 8) hrx
  rw [Nat.testBit_div_two_pow, testBit_putBits, if_neg (by decide)] at hbit
  exact absurd hbit (by decide)

end Sys2Proof.Machine
end

section
/-! The captures of the satellite baseband: a job of the acquisition engine, the measurement latch and the swatch (R134 to R139, R372). -/

namespace Sys2Proof.Machine

set_option Elab.async false

variable {s t : State} {j : Nat} {q : List Nat}

/-! ### The measurement latch -/

/-- The number of the latch, its stamps and the instants that are taken. -/
def Gns.number (g : Gns) : Nat × Bool × List (Nat × Nat × Nat) × List (Int × Int × Nat) := (g.ln, g.first, g.latches, g.taken)

theorem Reacts.number {μ ρ : Prop} (h : Reacts μ ρ s t) : t.gnb.number = s.gnb.number := by
  obtain ⟨_, _, _, _, _, _, _, _, _, _, _, _, _, _, _, _, _, _, _, _, _, _, _, rfl⟩ := h.keeps
  rfl

theorem Reacts.indCheck {μ ρ : Prop} {s₀ : State} (h : Reacts μ ρ s₀ s) : Reacts μ ρ s₀ s.indCheck := h.external

theorem State.indSet_number (s : State) (b : Nat) : (s.indSet b).gnb.number = s.gnb.number :=
  (Reacts.refl (μ := False) (ρ := False)).indCheck.number

theorem State.latchChan_number (n : Nat) (s : State) (c : Nat) : (State.latchChan n s c).gnb.number = s.gnb.number := by
  unfold State.latchChan
  split
  · rfl
  · split
    · rfl
    · split <;> rfl

theorem State.latchPort_number (s : State) (f : Nat) : (s.latchPort f).gnb.number = s.gnb.number := by
  unfold State.latchPort
  split
  · rfl
  · split
    · rfl
    · split
      · rfl
      · split
        · rfl
        · exact List.foldlRecOn (motive := fun t : State => t.gnb.number = s.gnb.number) _ _ rfl
            fun t ht c _ => (State.latchChan_number _ t c).trans ht

theorem State.closeLatch_number (s : State) : s.closeLatch.gnb.number = s.gnb.number := by
  unfold State.closeLatch
  split
  · rfl
  · split
    · dsimp only
      split
      · rw [State.indSet_number, State.pmcEv_gnb, State.deliver_gnb]
        rfl
      · rw [State.pmcEv_gnb, State.deliver_gnb]
        rfl
    · rfl

theorem State.fillLatch_number (s : State) : s.fillLatch.gnb.number = s.gnb.number := by
  rw [State.fillLatch, State.closeLatch_number]
  exact List.foldlRecOn (motive := fun t : State => t.gnb.number = s.gnb.number) _ _ rfl fun t ht f _ => (t.latchPort_number f).trans ht

/-- The number of the next latch (R135). -/
def State.latchNum (s : State) : Nat := if s.gnb.first then 0 else (s.gnb.ln + 1) % 2 ^ 32

theorem State.latchOp_spec (s : State) : s.latchOp.gnb.ln = s.latchNum ∧ s.latchOp.gnb.first = false ∧
    s.latchOp.gnb.latches.head? = some (s.latchNum, s.g32, s.gau.l) ∧ s.latchOp.gnb.taken = s.taking := by
  unfold State.latchOp
  rw [show (if s.gnb.first then 0 else (s.gnb.ln + 1) % 2 ^ 32) = s.latchNum from rfl]
  generalize s.latchNum = ln
  generalize s.g32 = g
  generalize s.gau.l = l
  generalize s.taking = taken
  have hnum (u : State) (r : LatchRun) := State.fillLatch_number ({ u with gnb := { u.gnb with
    ln := ln, first := false, taken := taken, latches := ((ln, g, l) :: u.gnb.latches).take 16, latch := some r } } : State)
  simp only [Gns.number, Prod.mk.injEq] at hnum
  obtain ⟨h1, h2, h3, h4⟩ := hnum s.biasStep _
  exact ⟨h1, h2, congrArg List.head? h3, h4⟩

theorem measurementLatch_spec (s : State) (hd : s.latchDue = true) (hf : s.fresh 0x100 = true) : Completes (.measurementLatch ()) s (fun t =>
    t.gnb.ln = s.latchNum ∧ t.gnb.first = false ∧ t.gnb.latches.head? = some (s.latchNum, s.g32, s.gau.l) ∧ t.gnb.taken = s.taking) :=
  .of_if rfl ⟨hd, hf⟩ (s.fire 0x100).latchOp_spec

/-! ### The swatch -/

theorem State.memWrite_gnb (s : State) (r addr : Nat) (data : List Byte) : ∃ fes chs, (s.memWrite r addr data).gnb =
    { s.gnb with fes := fes, chs := chs } := by
  have h : Reacts True True s (s.memWrite r addr data) := Reacts.refl.memWrite
  obtain ⟨_, _, _, _, _, _, _, _, _, _, _, _, _, _, _, _, _, _, _, _, _, fes, chs, he⟩ := h.keeps
  exact ⟨fes, chs, by rw [he]⟩

/-- The end of a swatch stands behind the write of its header. -/
theorem State.swEnd_gnb (u : State) (st k r addr lo hi ev : Nat) (data : List Byte) :
    (((({ u with gnb := { u.gnb with swSt := st, swKib := k } } : State).memWrite r addr data).pmcEv lo hi ev k).gnb.swSt = st) ∧
      (((({ u with gnb := { u.gnb with swSt := st, swKib := k } } : State).memWrite r addr data).pmcEv lo hi ev k).gnb.swKib = k) := by
  obtain ⟨fes, chs, he⟩ := State.memWrite_gnb ({ u with gnb := { u.gnb with swSt := st, swKib := k } } : State) r addr data
  rw [State.pmcEv_gnb, he]
  exact ⟨rfl, rfl⟩

theorem State.endSwatch_spec (s : State) (st : Nat) : (s.endSwatch st).gnb.swSt = st ∧ (s.endSwatch st).gnb.swKib = s.swWritten :=
  ((swPorts s.gnb.sw.mask).foldl State.flushSw s).swEnd_gnb st s.swWritten 3 s.gnb.sw.base 64 127 5 _

/-! ### The acquisition engine -/

/-- The job at the head leaves its queue with a status, and its slot keeps it (R134). -/
theorem State.leaveAcq_head (s : State) (st : Nat) (hq : s.gnb.acqQ = j :: q) (hj : j ∉ q) :
    (s.leaveAcq j st).gnb.acqQ = q ∧ (s.leaveAcq j st).gnb.acq.get j 0 = st ∧ (s.leaveAcq j st).hw = s.hw := by
  have herase : (s.setAcq j st).gnb.acqQ.erase j = q := by
    show s.gnb.acqQ.erase j = q
    rw [hq, List.erase_cons_head]
  unfold State.leaveAcq
  dsimp only
  rw [herase]
  cases q with
  | nil => exact ⟨rfl, Tab.get_set_same .., rfl⟩
  | cons k r =>
    have hk : j ≠ k := fun e => hj (e ▸ List.mem_cons_self)
    have hhead : s.gnb.acqQ.head? = some j := by rw [hq]; rfl
    rw [if_pos hhead]
    exact ⟨rfl, (Tab.get_set_ne _ _ _ hk).trans (Tab.get_set_same ..), rfl⟩

/-- A job ends with this status, and its sequencer is told (R134). -/
def State.endJob (s : State) (j n st : Nat) : State := (s.leaveAcq j st).deliver n 3 ⟨0x3A, j, [w32 st]⟩

theorem State.endJob_gnb (s : State) (n st : Nat) (hq : s.gnb.acqQ = j :: q) (hj : j ∉ q) :
    (s.endJob j n st).gnb.acqQ = q ∧ (s.endJob j n st).gnb.acq.get j 0 = st := by
  obtain ⟨h1, h2, -⟩ := s.leaveAcq_head st hq hj
  rw [State.endJob, State.deliver_gnb]
  exact ⟨h1, h2⟩

/-- A message that is not taken is counted by its sequencer, and no other register of hardware moves. -/
theorem State.deliver_hwOf (s : State) (n p : Nat) (m : Msg) {r : RegName} {i : Nat} (h : r.addr i ≠ RegName.SEQ_ERR.addr n) :
    (s.deliver n p m).hwOf r i = s.hwOf r i := by
  unfold State.deliver
  split
  · rw [State.hwOf, State.pmcSeq_hw, State.wakeFor_hw]
    rfl
  · exact Tab.get_set_ne _ _ _ h

theorem Reacts.swadrScnt {s₀ : State} (h : Reacts True True s₀ s) {a : Nat} : Reacts True True s₀ (s.swadrScnt a).2 := by
  unfold State.swadrScnt
  dsimp only
  split
  · split
    · exact h
    · exact h.draw 64
  · exact h.draw 64

theorem Reacts.acqQ {μ ρ : Prop} (h : Reacts μ ρ s t) : t.gnb.acqQ = s.gnb.acqQ := by
  obtain ⟨_, _, _, _, _, _, _, _, _, _, _, _, _, _, _, _, _, _, _, _, _, _, _, rfl⟩ := h.keeps
  rfl

section
variable {a : AcqRun} {b : AcqCell} {second sum num : Nat}

/-- What the engine reads of external memory for job `j`: its samples, and whether they come back poisoned. -/
def State.jobRead (s : State) (j : Nat) : List Byte × Bool × State :=
  s.memRead 4 (if s.on .ACQ_CFG 28 j then s.inForce .ACQ_SWADDR j else s.inForce .ACQ_STAGE) (s.jobNeed j)

theorem acqJobDone_exec (s : State) (hr : ∃ t, s.acqReady = some t ∧ t ≤ s.gau.l) :
    exec (.acqJobDone ()) s = .next s.acqDone := by
  obtain ⟨t, ht, hl⟩ := hr
  show execAcqJobDone () s = _
  rw [execAcqJobDone, if_pos (by rw [ht]; simpa using hl)]

/-- A job whose samples come back poisoned ends in ERROR (R372). -/
theorem State.acqDone_poisoned (s : State) (hq : s.gnb.acqQ = j :: q) (ha : s.gnb.acqRun = some a) (hp : (s.jobRead j).2.1 = true) :
    ∃ u, Reacts True True s u ∧ s.acqDone = u.endJob j (s.fl .ACQ_TS 3 0 j) 5 := by
  have hread : Reacts True True s (s.jobRead j).2.2 := Reacts.refl.memRead
  unfold State.acqDone
  rw [hq, ha]
  dsimp only
  rw [← State.jobRead]
  generalize s.jobRead j = rd at hread hp ⊢
  obtain ⟨xs, bad, v⟩ := rd
  dsimp only at hread hp ⊢
  rw [if_pos hp]
  split
  · dsimp only
    exact ⟨_, hread, rfl⟩
  · dsimp only
    exact ⟨_, hread.swadrScnt, rfl⟩

/-- A job that finds its cells writes its results and ends DONE (R134). -/
theorem State.acqDone_reports (s : State) (hq : s.gnb.acqQ = j :: q) (ha : s.gnb.acqRun = some a) (hp : (s.jobRead j).2.1 = false)
    (hm : s.on .ACQ_CFG 29 j = false)
    (hrep : acqReport ((gnssSignal (s.jobSig j)).chips * 2 ^ 32) (s.acqCells j (s.jobRead j).1) none = some (b, second, sum, num)) :
    ∃ u scnt dop noise, Reacts True True s u ∧ s.acqDone = ((((((u.setHw .ACQ_RES_SCNT 63 0 scnt j).setHw .ACQ_RES_CODE 31 0 b.code j).setHw
      .ACQ_RES_DOP 31 0 dop j).setHw .ACQ_RES_PEAK 31 0 b.pw j).setHw .ACQ_RES_SECOND 31 0 second j).setHw
      .ACQ_RES_NOISE 31 0 noise j).endJob j (s.fl .ACQ_TS 3 0 j) 3 := by
  have hread : Reacts True True s (s.jobRead j).2.2 := Reacts.refl.memRead
  have hp' : ¬ (s.jobRead j).2.1 = true := by simp [hp]
  clear hp
  unfold State.acqDone
  rw [hq, ha]
  dsimp only
  rw [← State.jobRead]
  generalize s.jobRead j = rd at hread hp' hrep ⊢
  obtain ⟨xs, bad, v⟩ := rd
  dsimp only at hread hp' hrep ⊢
  rw [if_neg hp', hm, if_neg Bool.false_ne_true, hrep]
  dsimp only
  rw [if_neg (by simp)]
  split
  · dsimp only
    exact ⟨_, _, _, _, (hread.draw 1).draw 1, rfl⟩
  · dsimp only
    exact ⟨_, _, _, _, (hread.swadrScnt.draw 1).draw 1, rfl⟩

/-- The addresses of the registers of a job slot. -/
theorem acqRes_addr (j : Nat) : RegName.ACQ_RES_SCNT.addr j = 0x00402118 + j * 0x40 ∧ RegName.ACQ_RES_CODE.addr j = 0x00402120 + j * 0x40 ∧
    RegName.ACQ_RES_DOP.addr j = 0x00402124 + j * 0x40 ∧ RegName.ACQ_RES_PEAK.addr j = 0x00402128 + j * 0x40 ∧
    RegName.ACQ_RES_SECOND.addr j = 0x0040212C + j * 0x40 ∧ RegName.ACQ_RES_NOISE.addr j = 0x00402130 + j * 0x40 := by
  refine ⟨?_, ?_, ?_, ?_, ?_, ?_⟩ <;> rw [RegName.addr] <;> exact (Nat.add_zero _).trans (Nat.add_zero _)

/-- The registers of a job slot lie apart from the error counts of the sequencers. -/
theorem acqRes_ne_seqErr (j n : Nat) : RegName.ACQ_RES_CODE.addr j ≠ RegName.SEQ_ERR.addr n ∧
    RegName.ACQ_RES_PEAK.addr j ≠ RegName.SEQ_ERR.addr n := by
  obtain ⟨-, hc, -, hp, -, -⟩ := acqRes_addr j
  have hs : RegName.SEQ_ERR.addr n = 0x00800010 + n * 0x4000 := (Nat.add_zero _).trans (Nat.add_zero _)
  omega

theorem acqJobDone_done (s : State) (hq : s.gnb.acqQ = j :: q) (ha : s.gnb.acqRun = some a) (hj : j ∉ q)
    (hr : ∃ t, s.acqReady = some t ∧ t ≤ s.gau.l) (hp : (s.jobRead j).2.1 = false) (hm : s.on .ACQ_CFG 29 j = false)
    (hrep : acqReport ((gnssSignal (s.jobSig j)).chips * 2 ^ 32) (s.acqCells j (s.jobRead j).1) none = some (b, second, sum, num)) :
    Completes (.acqJobDone ()) s (fun t => t.gnb.acqQ = q ∧ t.gnb.acq.get j 0 = 3 ∧
      bits (t.hwOf .ACQ_RES_CODE j) 31 0 = b.code % 2 ^ 32 ∧ bits (t.hwOf .ACQ_RES_PEAK j) 31 0 = b.pw % 2 ^ 32) := by
  obtain ⟨u, scnt, dop, noise, hu, hdone⟩ := s.acqDone_reports hq ha hp hm hrep
  refine ⟨_, (acqJobDone_exec s hr).trans (congrArg _ hdone), ?_⟩
  obtain ⟨hcode, hpeak⟩ := acqRes_ne_seqErr j (s.fl .ACQ_TS 3 0 j)
  have hset (v : State) (hv : v.gnb.acqQ = j :: q) : (v.endJob j (s.fl .ACQ_TS 3 0 j) 3).gnb.acqQ = q ∧
      (v.endJob j (s.fl .ACQ_TS 3 0 j) 3).gnb.acq.get j 0 = 3 ∧
      (v.endJob j (s.fl .ACQ_TS 3 0 j) 3).hwOf .ACQ_RES_CODE j = v.hwOf .ACQ_RES_CODE j ∧
      (v.endJob j (s.fl .ACQ_TS 3 0 j) 3).hwOf .ACQ_RES_PEAK j = v.hwOf .ACQ_RES_PEAK j := by
    obtain ⟨h1, h2⟩ := v.endJob_gnb (s.fl .ACQ_TS 3 0 j) 3 hv hj
    obtain ⟨-, -, hhw⟩ := v.leaveAcq_head 3 hv hj
    refine ⟨h1, h2, (State.deliver_hwOf _ _ _ _ hcode).trans ?_, (State.deliver_hwOf _ _ _ _ hpeak).trans ?_⟩ <;>
      rw [State.hwOf, hhw] <;> rfl
  obtain ⟨h1, h2, h3, h4⟩ := hset ((((((u.setHw .ACQ_RES_SCNT 63 0 scnt j).setHw .ACQ_RES_CODE 31 0 b.code j).setHw
      .ACQ_RES_DOP 31 0 dop j).setHw .ACQ_RES_PEAK 31 0 b.pw j).setHw .ACQ_RES_SECOND 31 0 second j).setHw
      .ACQ_RES_NOISE 31 0 noise j) (hu.acqQ.trans hq)
  have hcells (v : State) (r : RegName) (x : Nat) : bits ((v.setHw r 31 0 x j).hwOf r j) 31 0 = x % 2 ^ 32 :=
    (congrArg (bits · 31 0) (Tab.get_set_same ..)).trans (bits_putBits ..)
  have hkeep (v : State) (r r' : RegName) (x : Nat) (h : r.addr j ≠ r'.addr j) : (v.setHw r' 31 0 x j).hwOf r j = v.hwOf r j :=
    Tab.get_set_ne _ _ _ h
  obtain ⟨as, ac, ad, ap, ae, an⟩ := acqRes_addr j
  refine ⟨h1, h2, ?_, ?_⟩
  · rw [h3, hkeep, hkeep, hkeep, hkeep, hcells] <;> omega
  · rw [h4, hkeep, hkeep, hcells] <;> omega

theorem acqJobDone_error (s : State) (hq : s.gnb.acqQ = j :: q) (ha : s.gnb.acqRun = some a) (hj : j ∉ q)
    (hr : ∃ t, s.acqReady = some t ∧ t ≤ s.gau.l) (hp : (s.jobRead j).2.1 = true) :
    Completes (.acqJobDone ()) s (fun t => t.gnb.acqQ = q ∧ t.gnb.acq.get j 0 = 5) := by
  obtain ⟨u, hu, hdone⟩ := s.acqDone_poisoned hq ha hp
  exact ⟨_, (acqJobDone_exec s hr).trans (congrArg _ hdone), u.endJob_gnb _ 5 (hu.acqQ.trans hq) hj⟩

end

/-- Settles O33: the end of a job, the measurement latch, and the begin and end of a swatch. -/
theorem basebandCapturesComplete : Obligations.BasebandCapturesComplete := by
  intro j q a b second sum num s ln rd len ready
  have hrd : s.jobRead j = rd := rfl
  clear_value rd
  subst hrd
  refine ⟨fun ⟨hq, ha, _, hj, hr⟩ hp hm hrep => acqJobDone_done s hq ha hj hr hp hm hrep,
    fun ⟨hq, ha, _, hj, hr⟩ hp => acqJobDone_error s hq ha hj hr hp, measurementLatch_spec s,
    fun hs hd => .of_if rfl ⟨hs, hd⟩ ⟨rfl, rfl, rfl⟩, fun hs hk => .of_if rfl ⟨hs, hk⟩ (s.endSwatch_spec 5), fun hs hk hf => ?_⟩
  refine ⟨s.endSwatch 3, ?_, s.endSwatch_spec 3⟩
  show execSwatchEnd () () s = _
  rw [execSwatchEnd, if_neg (by simp [hk]), if_pos ⟨hs, hf⟩]

end Sys2Proof.Machine
end

section
/-! The events of the sequencers: the end of a wait, starts, watchdogs, TIMER messages and image loads (R154, R155, R163, R164, R168). -/

namespace Sys2Proof.Machine

set_option Elab.async false

variable {s t : State} {n d : Nat}

theorem sq_of_seqs (h : t.seqs = s.seqs) (n : Nat) : t.sq n = s.sq n := by rw [State.sq, h]; rfl

/-! ### The watchdog (R164) -/

/-- The record of a fault leaves the sequencers alone. -/
theorem State.faultRecord_seqs (s : State) (src unit : Nat) (inj : Bool) : (s.faultRecord src unit inj).seqs = s.seqs := by
  unfold State.faultRecord
  dsimp only
  split
  · rw [State.ibi_seqs, State.irq_seqs, State.recEvent_seqs]
    rfl
  · rw [State.recEvent_seqs]
    rfl

/-- A fault whose severity is below the fence is recorded, and nothing else (R340). -/
theorem State.fault_recorded (s : State) {src unit : Nat} (h : s.fl .FLT_SRC_CFG 2 0 src < 2) :
    s.fault src unit = s.faultRecord src unit false := by
  have hsev : s.severity src false = s.fl .FLT_SRC_CFG 2 0 src := rfl
  have h1 : s.fault1 src unit false = (s.faultRecord src unit false, none) := by
    unfold State.fault1
    dsimp only
    rw [hsev, if_neg (by omega), State.faultDevice, if_neg (by omega), if_neg (by omega)]
  rw [State.fault, h1]

/-- A sequencer that takes no messages stays as it is whatever is delivered. -/
theorem State.deliver_sq_of_deaf (s : State) {n : Nat} (h : s.listens n = false) (d p : Nat) (m : Msg) : (s.deliver d p m).sq n = s.sq n := by
  by_cases hd : n = d
  · subst hd
    exact State.deliver_sq_deaf p m h n
  · exact s.deliver_sq_ne p m hd

theorem State.dropSched_sq_of_deaf (s : State) (h : s.listens n = false) (code : Nat) : (s.dropSched code).sq n = s.sq n := by
  unfold State.dropSched
  split
  · rfl
  · unfold State.status State.stepRes
    split
    · rfl
    · refine (State.deliver_sq_of_deaf _ ?_ _ _ _).trans rfl
      exact h

/-- The entry into HOLDOVER reaches no sequencer that takes no messages. -/
theorem State.enterHoldover_sq_of_deaf (s : State) (h : s.listens n = false) (cause : Nat) : (s.enterHoldover cause).sq n = s.sq n := by
  have hatom : s.latchAtom.seqs = s.seqs := by
    unfold State.latchAtom
    split
    · rfl
    · split <;> rfl
  have hage (u : State) : u.ageStart.seqs = u.seqs := by
    unfold State.ageStart
    split <;> rfl
  unfold State.enterHoldover
  extract_lets f s1 _ _ s2 s3
  have h2 : s2.sq n = s.sq n := sq_of_seqs hatom n
  have h3 : s3.sq n = s.sq n := by
    show (if cause = 2 ∨ cause = 3 then s2.dropSched 13 else s2).sq n = _
    split
    · exact (s2.dropSched_sq_of_deaf ((State.sq_listens h2).trans h) 13).trans h2
    · exact h2
  clear_value s3
  rw [State.stateEvent, sq_of_seqs (State.recEvent_seqs ..)]
  split
  · exact (sq_of_seqs (hage s3) n).trans h3
  · exact h3

/-- A fenced sequencer has no messages and takes none; of a time-service sequencer the channels coast (R163, R341). -/
theorem State.tsFenced_sq (s : State) (h : s.listens n = false) : (s.tsFenced n).sq n = s.sq n := by
  have hservo : (s.servoFenced n).sq n = s.sq n := by
    unfold State.servoFenced
    split
    · exact s.enterHoldover_sq_of_deaf h 3
    · rfl
  refine List.foldlRecOn (motive := fun t : State => t.sq n = s.sq n) _ _ hservo fun t ht c _ => ?_
  split
  · exact ht
  · exact ht

theorem State.fenceSeq_ts (s : State) (hn : n < 16) : ∃ u, s.fenceSeq n = (u, none) ∧ (u.sq n).st = .fenced ∧ (u.sq n).inbox = [] := by
  let s1 := (s.haltSeq n .fenced).setFl .SEQ_CTL 31 31 0 n
  have hst : (s1.sq n).st = .fenced := s.haltSeq_st n .fenced
  have h2 : (s1.setSq n { s1.sq n with inbox := [] }).sq n = { s1.sq n with inbox := [] } := State.setSq_sq ..
  have hdeaf : (s1.setSq n { s1.sq n with inbox := [] }).listens n = false := by
    have hst2 : ((s1.setSq n { s1.sq n with inbox := [] }).sq n).st = .fenced := (congrArg Seq.st h2).trans hst
    rw [State.listens, hst2]
  refine ⟨(s1.setSq n { s1.sq n with inbox := [] }).tsFenced n, ?_, ?_, ?_⟩
  · rw [State.fenceSeq, if_pos hn]
  · rw [State.tsFenced_sq _ hdeaf, h2]
    exact hst
  · rw [State.tsFenced_sq _ hdeaf, h2]

/-- The sequencer of a missed watchdog: its deadline passed once, or with the action of `WDA` 2 a new deadline. -/
def State.missedSeq (s : State) (n : Nat) : Seq :=
  if s.fl .SEQ_WD 31 30 n = 2 then { s.sq n with kick := s.gau.l } else { s.sq n with missed := true }

theorem State.missedSeq_st (s : State) (n : Nat) : (s.missedSeq n).st = (s.sq n).st := by
  unfold State.missedSeq
  split <;> rfl

theorem State.missedSeq_missed (s : State) (n : Nat) (h : s.fl .SEQ_WD 31 30 n = 1) : (s.missedSeq n).missed = true := by
  rw [State.missedSeq, if_neg (by omega)]

theorem State.missedSeq_kick (s : State) (n : Nat) (h : s.fl .SEQ_WD 31 30 n = 2) : (s.missedSeq n).kick = s.gau.l := by
  rw [State.missedSeq, if_pos h]

/-- A fault of severity 2 of a sequencer's source 12 fences the sequencer (R341). -/
theorem State.fault_fences (s : State) {n : Nat} (hn : n < 16) (hsev : s.fl .FLT_SRC_CFG 2 0 12 = 2) :
    ((s.fault 12 n).sq n).st = .fenced ∧ ((s.fault 12 n).sq n).inbox = [] := by
  obtain ⟨u, hu, hst, hin⟩ := (s.faultRecord 12 n false).fenceSeq_ts hn
  have h1 : s.fault1 12 n false = (u.recEvent 0x40 12, none) := by
    unfold State.fault1
    dsimp only
    rw [if_pos ⟨hsev, by decide⟩]
    show (((s.faultRecord 12 n false).fenceSeq n).1.recEvent 0x40 12, ((s.faultRecord 12 n false).fenceSeq n).2) = _
    rw [hu]
  rw [State.fault, h1]
  dsimp only
  rw [sq_of_seqs (State.recEvent_seqs ..)]
  exact ⟨hst, hin⟩

theorem watchdogExpiry_spec (s : State) (n : Fin 160) (h : s.wdMissed n = true) : Completes (.watchdogExpiry n) s (fun t =>
    (s.fl .FLT_SRC_CFG 2 0 12 < 2 → (t.sq n).st = (s.sq n).st ∧ (s.fl .SEQ_WD 31 30 n = 1 → (t.sq n).missed = true) ∧
      (s.fl .SEQ_WD 31 30 n = 2 → (t.sq n).kick = s.gau.l)) ∧
    (s.fl .FLT_SRC_CFG 2 0 12 = 2 → n.val < 16 → (t.sq n).st = .fenced ∧ (t.sq n).inbox = [])) := by
  refine .of_if (u := (s.setSq n (s.missedSeq n)).fault 12 n) rfl h ⟨fun hsev => ?_, fun hsev hn => ?_⟩
  · have hsq : (((s.setSq n (s.missedSeq n)).fault 12 n).sq n) = s.missedSeq n := by
      rw [State.fault_recorded (s.setSq n (s.missedSeq n)) hsev, sq_of_seqs (State.faultRecord_seqs ..), State.setSq_sq]
    rw [hsq]
    exact ⟨s.missedSeq_st n, s.missedSeq_missed n, s.missedSeq_kick n⟩
  · exact State.fault_fences _ hn hsev

/-! ### Waits, starts and TIMER messages (R154, R155, R163) -/

theorem timeWaitDue_spec (s : State) (n : Fin 160) {at_ mask : Nat} (hst : (s.sq n).st = .waiting) (hw : (s.sq n).wait = some (at_, mask))
    (hd : s.due40 at_ = true) : Completes (.timeWaitDue n) s (fun t =>
      (t.sq n).st = .running ∧ (t.sq n).t = true ∧ (t.sq n).wait = none ∧ (t.sq n).pc = ((s.sq n).pc + 4) % 2 ^ 14) := by
  refine ⟨s.onSeq n fun q => wakeSeq q true, ?_, ?_⟩
  · show execTimeWaitDue n s = _
    simp only [execTimeWaitDue, hst, hw, hd, if_true]
  · dsimp only
    rw [State.onSeq_sq]
    exact ⟨rfl, rfl, rfl, rfl⟩

theorem seqStart_spec (s : State) (n : Fin 160) (h : s.startDue n = true) : Completes (.seqStart n) s (fun t =>
    (t.sq n).st = .running ∧ (t.sq n).pc = s.fl .SEQ_CTL 15 0 n) := by
  refine .of_if rfl h ?_
  rw [State.beginSeq, State.setSq_sq]
  exact ⟨rfl, rfl⟩

theorem schedEventDue_spec (s : State) (k : Fin 10) {e : Ev} (hf : s.firstDue (s.clu k).evs = some e) (hp : e.port = 15)
    (hl : s.listens e.n = true) : Completes (.schedEventDue k) s (fun t => (t.clu k).evs = (s.clu k).evs.erase e ∧
      (t.sq e.n).inbox.get 15 [] = (s.sq e.n).inbox.get 15 [] ++ [⟨0x0F, e.code, wordsOf 2 e.t⟩]) := by
  refine ⟨(s.setClu k { s.clu k with evs := (s.clu k).evs.erase e }).deliver e.n 15 ⟨0x0F, e.code, wordsOf 2 e.t⟩, ?_, ?_, ?_⟩
  · show execSchedEventDue k s = _
    simp only [execSchedEventDue, State.eventDue, hf, hp, if_true]
  · rw [State.clu, State.deliver_clus]
    exact congrArg Clu.evs (s.setClu_clu k _)
  · exact State.deliver_inbox (s := s.setClu k _) 15 _ hl

/-! ### Image loads (R168) -/

/-- What an image leaves in a target. -/
def Seq.loaded (q : Seq) (img : List Byte) : Prop :=
  q.pMem = memPut [] 0 (sub img 256 (leNat (sub img 8 4))) ∧ q.img = sub img 32 32

theorem State.loadOne_sq (s : State) (n : Nat) (img : List Byte) : ((s.loadOne n img).sq n).loaded img := by
  have hsq : (s.loadOne n img).sq n = _ := State.setSq_sq s n _
  rw [hsq]
  exact ⟨rfl, rfl⟩

theorem State.loadOne_sq_ne (s : State) {n m : Nat} (img : List Byte) (h : m ≠ n) : (s.loadOne n img).sq m = s.sq m :=
  s.setSq_sq_ne _ h

/-- Every target of a load has its image. -/
theorem State.loadAll_sq (s : State) (k mask : Nat) (img : List Byte) {i : Nat} (hi : i < 16) (hm : bitOn mask i = true) :
    ((s.loadAll k mask img).sq (16 * k + i)).loaded img := by
  have hstep (l : List Nat) : ∀ t : State, (i ∈ l ∨ (t.sq (16 * k + i)).loaded img) →
      ((l.foldl (fun t i => if bitOn mask i then t.loadOne (16 * k + i) img else t) t).sq (16 * k + i)).loaded img := by
    induction l with
    | nil => exact fun t h => h.resolve_left (List.not_mem_nil)
    | cons x l ih =>
      intro t h
      refine ih _ ?_
      by_cases hx : x = i
      · subst hx
        dsimp only
        rw [if_pos hm]
        exact .inr (t.loadOne_sq _ img)
      · refine h.imp (fun h => (List.mem_cons.1 h).resolve_left (Ne.symm hx)) fun h => ?_
        dsimp only
        split
        · rw [t.loadOne_sq_ne img (by omega)]
          exact h
        · exact h
  exact hstep _ s (.inl (List.mem_range.2 hi))

/-- What the checks of R168 find of the image that Warden has read. -/
def State.loadCode (s : State) (k : Nat) : Nat :=
  (s.readImage (s.inForce .CLU_LOAD_ADDR k)).2.imageCheck k (s.clu k).mask (s.readImage (s.inForce .CLU_LOAD_ADDR k)).1
    (Config.sigOk (sub (s.readImage (s.inForce .CLU_LOAD_ADDR k)).1 64 64) (sub (s.readImage (s.inForce .CLU_LOAD_ADDR k)).1 32 32)
      (sub (s.readImage (s.inForce .CLU_LOAD_ADDR k)).1 128 64))
    (s.readImage (s.inForce .CLU_LOAD_ADDR k)).2.fuses.hash (s.readImage (s.inForce .CLU_LOAD_ADDR k)).2.fuses.ownerLock
    fun j => (s.readImage (s.inForce .CLU_LOAD_ADDR k)).2.fuses.rollback.get j 0

theorem State.finishLoad_room (s : State) (k : Nat) (hr : (s.readImage (s.inForce .CLU_LOAD_ADDR k)).2.logRoom 2 = true) :
    ∃ u : State, s.finishLoad k = if s.loadCode k = 0 then
        ((u.loadAll k (s.clu k).mask (s.readImage (s.inForce .CLU_LOAD_ADDR k)).1).keepCopy
          (s.readImage (s.inForce .CLU_LOAD_ADDR k)).1).endLoad k 2 0
      else u.endLoad k 3 (s.loadCode k) := by
  unfold State.finishLoad
  dsimp only
  rw [← State.loadCode]
  generalize s.loadCode k = code
  generalize s.readImage (s.inForce .CLU_LOAD_ADDR k) = r at hr ⊢
  rw [State.recordNormal_room (State.logRoom_mono _ hr)]
  exact ⟨_, rfl⟩

theorem imageLoadDone_up (s : State) (k : Fin 10) (i : Fin 16) (hc : (s.clu k).load = 1) (hw : s.warden.up = true) (hg : s.log.gate = [])
    (hh : s.log.held = false) (hr : (s.readImage (s.inForce .CLU_LOAD_ADDR k)).2.logRoom 2 = true) :
    Completes (.imageLoadDone k) s (fun t => (t.clu k).load = (if s.loadCode k = 0 then 2 else 3) ∧ (t.clu k).loadCode = s.loadCode k ∧
      (s.loadCode k = 0 → bitOn (s.clu k).mask i = true →
        (t.sq (16 * k.val + i.val)).loaded (s.readImage (s.inForce .CLU_LOAD_ADDR k)).1)) := by
  have hdo : exec (.imageLoadDone k) s = .next (s.finishLoad k) := by
    show execImageLoadDone k s = _
    rw [execImageLoadDone, if_neg (by simp [hc]), if_neg (by simp [hw]), if_pos ⟨hg, by simp [hh]⟩]
  refine ⟨_, hdo, ?_⟩
  obtain ⟨u, hu⟩ := s.finishLoad_room k hr
  rw [hu]
  generalize s.loadCode k = code
  generalize (s.readImage (s.inForce .CLU_LOAD_ADDR k)).1 = img
  by_cases h0 : code = 0
  · rw [if_pos h0, if_pos h0]
    refine ⟨congrArg Clu.load (State.setClu_clu ..), (congrArg Clu.loadCode (State.setClu_clu ..)).trans h0.symm, fun _ hm => ?_⟩
    exact u.loadAll_sq k _ img i.isLt hm
  · rw [if_neg h0, if_neg h0]
    exact ⟨congrArg Clu.load (State.setClu_clu ..), congrArg Clu.loadCode (State.setClu_clu ..), fun h => absurd h h0⟩

theorem imageLoadDone_down (s : State) (k : Fin 10) (hc : (s.clu k).load = 1) (hw : s.warden.up = false) :
    Completes (.imageLoadDone k) s (fun t => (t.clu k).load = 3 ∧ (t.clu k).loadCode = 7) := by
  refine ⟨s.endLoad k 3 7, ?_, congrArg Clu.load (State.setClu_clu ..), congrArg Clu.loadCode (State.setClu_clu ..)⟩
  show execImageLoadDone k s = _
  rw [execImageLoadDone, if_neg (by simp [hc]), if_pos (by simp [hw])]

/-- Settles O34: the events of the sequencers, one lemma each. -/
theorem sequencerEventsComplete : Obligations.SequencerEventsComplete := by
  intro n k i e at_ mask s c r img u code kind
  have hcode : s.loadCode k = code := rfl
  have hu : (s.readImage (s.inForce .CLU_LOAD_ADDR k)).2 = u := rfl
  have himg : (s.readImage (s.inForce .CLU_LOAD_ADDR k)).1 = img := rfl
  have hup := imageLoadDone_up s k i
  rw [hcode, hu, himg] at hup
  exact ⟨timeWaitDue_spec s n, seqStart_spec s n, watchdogExpiry_spec s n, fun hf hp _ hl => schedEventDue_spec s k hf hp hl,
    imageLoadDone_down s k, hup⟩

end Sys2Proof.Machine
end

section
/-! The receive side of an Ethernet port: the link, received frames and the pauses of both directions (R198 to R205, R213). -/

namespace Sys2Proof.Machine

set_option Elab.async false

variable {s t u : State} {p : Nat}

theorem State.setEp_ep (s : State) (p : Nat) (x : EthP) : (s.setEp p x).ep p = x := Tab.get_set_same ..

theorem ep_of_eth (h : t.eth = s.eth) (p : Nat) : t.ep p = s.ep p := by rw [State.ep, h, State.ep]

theorem inForce_of_force (h : t.force = s.force) (r : RegName) (i j l : Nat) : t.inForce r i j l = s.inForce r i j l := by
  rw [State.inForce, h, State.inForce]

theorem fl_of_force (h : t.force = s.force) (r : RegName) (hi lo i j l : Nat) : t.fl r hi lo i j l = s.fl r hi lo i j l := by
  rw [State.fl, inForce_of_force h, State.fl]

theorem on_of_force (h : t.force = s.force) (r : RegName) (b i j l : Nat) : t.on r b i j l = s.on r b i j l := by
  rw [State.on, inForce_of_force h, State.on]

/-! ### The link (R200) -/

theorem State.ethCheck_ep (s : State) (p n : Nat) : (s.ethCheck p).ep n = s.ep n := by
  obtain ⟨-, -, -, -, heth, -, -, -⟩ := (Reacts.refl (μ := False) (ρ := False) (s₀ := s)).ethCheck (p := p).calm
  exact ep_of_eth heth n

/-- The link of the port is up or down as it was told. -/
theorem State.setLinkUp_link (s : State) (p : Nat) (up : Bool) : ((s.setLinkUp p up).ep p).link = up := by
  have hset : (((s.setEp p { s.ep p with link := up, verify := s.verifyInit p, tries := 0 }).ethCheck p).ep p).link = up := by
    rw [State.ethCheck_ep, State.setEp_ep]
  unfold State.setLinkUp
  dsimp only
  split
  · assumption
  · split
    · exact hset
    · rw [ep_of_eth (State.bump_eth ..)]
      exact hset

/-! ### Frames received (R201 to R205) -/

/-- A boundary of a frame moves registers into force and nothing else. -/
theorem State.applyE_only (s : State) (b : Boundary) : ∃ F : Tab Nat, s.applyE b = { s with force := F } := by
  refine List.foldlRecOn (motive := fun t : State => ∃ F : Tab Nat, t = { s with force := F }) _ _ ⟨s.force, rfl⟩ fun t ht x _ => ?_
  obtain ⟨F, rfl⟩ := ht
  exact ⟨_, rfl⟩

/-- What the start of a frame's reception leaves of `u`: the counters of R354 and the stamp of the calibration move alone. -/
structure Received (u t : State) : Prop where
  regs : t.regs = u.regs
  force : t.force = u.force
  hw : t.hw = u.hw
  eth : t.eth = u.eth

/-- The state in which a received frame is looked at: behind the boundary of the frame, with its stamp and its counts. -/
def State.atFrame (s : State) (p : Nat) (bytes : List Byte) : State :=
  (((s.boundary (.frame ⟨p % 8, Nat.mod_lt _ (by decide)⟩)).markStamp (49 + 2 * p)).pmcEth p 0).pmcEth p 1 bytes.length

theorem State.atFrame_received (s : State) (p : Fin 8) (bytes : List Byte) : Received (s.boundary (.frame p)) (s.atFrame p bytes) := by
  have hp : (⟨p.val % 8, Nat.mod_lt _ (by decide)⟩ : Fin 8) = p := Fin.ext (Nat.mod_eq_of_lt p.isLt)
  unfold State.atFrame State.markStamp
  rw [hp]
  constructor <;> simp

theorem State.atFrame_eth (s : State) (p : Fin 8) (bytes : List Byte) : (s.atFrame p bytes).eth = s.eth := by
  obtain ⟨F, hF⟩ := s.applyE_only (.frame p)
  refine (s.atFrame_received p bytes).eth.trans ?_
  show (s.applyE (.frame p)).eth = s.eth
  rw [hF]

theorem State.atFrame_hw (s : State) (p : Fin 8) (bytes : List Byte) : (s.atFrame p bytes).hw = s.hw := by
  obtain ⟨F, hF⟩ := s.applyE_only (.frame p)
  refine (s.atFrame_received p bytes).hw.trans ?_
  show (s.applyE (.frame p)).hw = s.hw
  rw [hF]

theorem hwOf_of_hw (h : t.hw = s.hw) (r : RegName) (i j l : Nat) : t.hwOf r i j l = s.hwOf r i j l := by
  rw [State.hwOf, h, State.hwOf]

theorem Received.queueOf (h : Received u t) (p : Nat) (x : Parsed) (dport : Option Nat) : t.queueOf p x dport = u.queueOf p x dport := by
  have hf : t.filterHits p x dport = u.filterHits p x dport := by
    funext e
    rw [State.filterHits, inForce_of_force h.force, inForce_of_force h.force, fl_of_force h.force, State.filterHits]
  have he (e : Nat) := fl_of_force h.force .ETH_FLT_CTL 4 0 p e 0
  rw [State.queueOf, State.queueOf, hf, fl_of_force h.force]
  simp only [he]

theorem frameReceive_live (bytes : List Byte) (fcsOk : Bool) (code : Fin 640) (p : Fin 8) (h : (s.ep p).link = true ∧ s.portOn p = true) :
    exec (.frameReceive p bytes fcsOk code) s = .next (s.receiveFrame p bytes fcsOk code) := by
  show execFrameReceive p bytes fcsOk code s = _
  rw [execFrameReceive, if_pos h]

theorem frameReceive_fcs (bytes : List Byte) (code : Fin 640) (p : Fin 8) (h : (s.ep p).link = true ∧ s.portOn p = true) :
    Completes (.frameReceive p bytes false code) s (fun t => t.eth = s.eth ∧
      bits (t.hwOf .ETH_DROP p) 31 16 = min 65535 (bits (s.hwOf .ETH_DROP p) 31 16 + 1)) := by
  refine ⟨((s.atFrame p bytes).bump .ETH_DROP 31 16 1 p).pmcEth p 4, ?_, ?_, ?_⟩
  · rw [frameReceive_live bytes false code p h]
    rfl
  · rw [State.pmcEth_eth, State.bump_eth, State.atFrame_eth]
  · rw [hwOf_of_hw (State.pmcEth_hw ..), State.bump_hwOf, hwOf_of_hw (s.atFrame_hw p bytes)]
    rfl

/-! ### Pause frames that the port sends (R205) -/

/-- `t` is `s` with other pauses of the port: the frames of the queues and the link stay, and nothing else moves. -/
structure Paused (p : Nat) (s t : State) : Prop where
  rest : t = { s with eth := t.eth }
  rx : (t.ep p).rx = (s.ep p).rx
  link : (t.ep p).link = (s.ep p).link
  txq : (t.ep p).txq = (s.ep p).txq

theorem Paused.refl (p : Nat) (s : State) : Paused p s s := ⟨rfl, rfl, rfl, rfl⟩

theorem Paused.setEp (h : Paused p s t) {x : EthP} (hrx : x.rx = (t.ep p).rx) (hl : x.link = (t.ep p).link)
    (htx : x.txq = (t.ep p).txq) : Paused p s (t.setEp p x) := by
  refine ⟨?_, ?_, ?_, ?_⟩
  · rw [h.rest]
    rfl
  · rw [State.setEp_ep, hrx, h.rx]
  · rw [State.setEp_ep, hl, h.link]
  · rw [State.setEp_ep, htx, h.txq]

theorem Paused.queuePause (h : Paused p s t) (c quanta : Nat) (xoff : Bool) : Paused p s (t.queuePause p c quanta xoff) := h.setEp rfl rfl rfl

theorem Paused.ite {c : Prop} {_ : Decidable c} (ht : Paused p s t) (hu : Paused p s u) : Paused p s (if c then t else u) := by
  split
  · exact ht
  · exact hu

theorem Paused.pauseTest (h : Paused p s t) (c occ : Nat) : Paused p s (t.pauseTest p c occ) :=
  .ite (h.queuePause ..) (.ite (h.queuePause ..) h)

theorem Paused.pauseCheck (h : Paused p s t) : Paused p s (t.pauseCheck p) := by
  have hset : Paused p s (t.setEp p { t.ep p with xoff := (t.ep p).xoff.filter fun e => (t.pauseClasses p).contains e.1 }) := h.setEp rfl rfl rfl
  refine .ite (List.foldlRecOn (motive := Paused p s) _ _ hset fun u hu c _ => ?_) hset
  exact hu.pauseTest ..

theorem Paused.force (h : Paused p s t) : t.force = s.force := by
  rw [h.rest]

theorem Paused.gau (h : Paused p s t) : t.gau = s.gau := by
  rw [h.rest]

theorem Paused.portOn (h : Paused p s t) : t.portOn p = s.portOn p := by
  rw [h.rest]
  rfl

theorem Paused.bitsNs (h : Paused p s t) (n : Nat) : t.bitsNs p n = s.bitsNs p n := by
  rw [h.rest]
  rfl

theorem Paused.occ (h : Paused p s t) (sel : RxFrame → Bool) : (t.ep p).occ sel = (s.ep p).occ sel := by
  rw [EthP.occ, h.rx, EthP.occ]

theorem Paused.prioOcc (h : Paused p s t) (c : Nat) : t.prioOcc p c = s.prioOcc p c := by
  have hf (q : Nat) := fl_of_force h.force .ETH_RXQ_CFG 29 27 p q 0
  rw [State.prioOcc, State.prioOcc, h.occ]
  simp only [hf]

/-! ### A frame that is stored (R202) -/

theorem storeFrame_rx (s : State) (p : Nat) (f : RxFrame) (hsp : s.on .ETH_RXQ_CFG 26 p f.q = false)
    (hq : (s.ep p).occ (fun g => decide (g.q = f.q)) + units f.bytes.length ≤ s.fl .ETH_RXQ_CFG 13 0 p f.q)
    (ht : (s.ep p).occ (fun _ => true) + units f.bytes.length ≤ 8192) : ((s.storeFrame p f).ep p).rx = (s.ep p).rx ++ [f] := by
  unfold State.storeFrame
  simp only [hsp, hq, ht, Bool.false_and, decide_true, Bool.and_self, if_true, Bool.false_eq_true, if_false]
  rw [((Paused.refl p _).pauseCheck).rx, State.setEp_ep]

theorem frameReceive_stored (s : State) (p : Fin 8) (bytes : List Byte) (code : Fin 640) (h : (s.ep p).link = true ∧ s.portOn p = true)
    (hpause : pauseIn bytes = none) (hlen : bytes.length ≤ s.fl .ETH_CFG 13 0 p) {u : State} (hu : s.boundary (.frame p) = u) {q : Nat}
    (hq : u.queueOf p (parseFrame bytes) ((parseFrame bytes).dport bytes) = q) (h0 : u.fl .ETH_RXQ_CFG 31 30 p q ≠ 0)
    (h1 : u.fl .ETH_RXQ_CFG 31 30 p q = 1 → u.fl .DMA_CFG 30 28 (u.fl .ETH_RXQ_CFG 19 16 p q) = 2)
    (hsp : u.on .ETH_RXQ_CFG 26 p q = false)
    (hocc : (s.ep p).occ (fun g => decide (g.q = q)) + units bytes.length ≤ u.fl .ETH_RXQ_CFG 13 0 p q)
    (htot : (s.ep p).occ (fun _ => true) + units bytes.length ≤ 8192) :
    Completes (.frameReceive p bytes true code) s (fun t => ∃ f, (t.ep p).rx = (s.ep p).rx ++ [f] ∧ f.q = q ∧
      f.dest = u.fl .ETH_RXQ_CFG 31 30 p q ∧ f.bytes = bytes ∧ f.spilled = false) := by
  have hrec := s.atFrame_received p bytes
  rw [hu] at hrec
  have hep : (s.atFrame p bytes).ep p = s.ep p := ep_of_eth (s.atFrame_eth p bytes) p
  have hdo : s.receiveFrame p bytes true code = (s.atFrame p bytes).handFrame p q (parseFrame bytes) bytes
      ((s.atFrame p bytes).ethStamp p code true) := by
    rw [← hq, ← hrec.queueOf]
    unfold State.receiveFrame
    simp only [not_true_eq_false, if_false, Nat.not_lt.2 hlen, hpause]
    rfl
  refine ⟨_, (frameReceive_live bytes true code p h).trans (congrArg _ hdo), ?_⟩
  generalize s.atFrame p bytes = a at hrec hep
  have hd := fl_of_force hrec.force .ETH_RXQ_CFG 31 30 p q 0
  have hdma : ¬ (u.fl .ETH_RXQ_CFG 31 30 p q = 1 ∧ a.fl .DMA_CFG 30 28 (a.fl .ETH_RXQ_CFG 19 16 p q) ≠ 2) := fun ⟨h, hne⟩ => by
    rw [fl_of_force hrec.force, fl_of_force hrec.force] at hne
    exact hne (h1 h)
  unfold State.handFrame
  dsimp only
  rw [hd, if_neg h0, if_neg hdma, ← hep]
  refine ⟨_, storeFrame_rx a p _ ?_ ?_ ?_, rfl, rfl, rfl, rfl⟩
  · exact (on_of_force hrec.force ..).trans hsp
  · rw [hep, fl_of_force hrec.force]
    exact hocc
  · rw [hep]
    exact htot

/-! ### Pauses that the port sends (R205) -/

theorem Tab.get_filter_off {α : Type} (d : α) {P : Nat → Bool} {k : Nat} (hk : P k = false) : ∀ t : Tab α, Tab.get (t.filter fun e => P e.1) k d = d
  | [] => rfl
  | (j, v) :: t => by
    by_cases hj : P j = true
    · have hne : j ≠ k := fun e => by simp [e, hk] at hj
      rw [List.filter_cons, if_pos hj, Tab.get, if_neg hne, Tab.get_filter_off d hk t]
    · rw [List.filter_cons, if_neg hj, Tab.get_filter_off d hk t]

theorem Tab.get_filter_on {α : Type} (d : α) {P : Nat → Bool} {k : Nat} (hk : P k = true) : ∀ t : Tab α, Tab.get (t.filter fun e => P e.1) k d = Tab.get t k d
  | [] => rfl
  | (j, v) :: t => by
    by_cases hj : P j = true
    · rw [List.filter_cons, if_pos hj, Tab.get, Tab.get, Tab.get_filter_on d hk t]
    · have hne : j ≠ k := fun e => hj (e ▸ hk)
      rw [List.filter_cons, if_neg hj, Tab.get_filter_on d hk t, Tab.get, if_neg hne]

/-- The pause of class `k` that the port keeps. -/
def State.xoffAt (s : State) (p k : Nat) : Nat := (s.ep p).xoff.get k 0

theorem State.queuePause_xoffAt_ne (s : State) (p : Nat) {c k : Nat} (h : k ≠ c) (quanta : Nat) (xoff : Bool) :
    (s.queuePause p c quanta xoff).xoffAt p k = s.xoffAt p k := by
  unfold State.queuePause State.xoffAt
  rw [State.setEp_ep]
  exact Tab.get_set_ne _ _ _ h

theorem State.pauseTest_xoffAt_ne (s : State) (p : Nat) {c k : Nat} (h : k ≠ c) (occ : Nat) :
    (s.pauseTest p c occ).xoffAt p k = s.xoffAt p k := by
  unfold State.pauseTest
  split
  · exact s.queuePause_xoffAt_ne p h ..
  · split
    · exact s.queuePause_xoffAt_ne p h ..
    · rfl

/-- A class whose pause is on and whose occupancy is above the low mark keeps its pause. -/
theorem State.pauseTest_high (s : State) (p c occ : Nat) (hx : s.xoffAt p c ≠ 0) (ho : s.inForce .ETH_LOWM p < occ) : s.pauseTest p c occ = s := by
  have hon : (s.ep p).xoffOn c = true := decide_eq_true hx
  rw [State.pauseTest, if_neg (by simp [hon]), if_neg (by simp [ho])]

theorem State.pauseClasses_nodup (s : State) (p : Nat) : (s.pauseClasses p).Nodup := by
  unfold State.pauseClasses
  split
  · exact List.nodup_singleton _
  · exact List.nodup_range.filter _
  · exact List.nodup_nil

/-- The occupancy that the pause of class `c` goes by (R205). -/
def State.pauseOcc (s : State) (p c : Nat) : Nat :=
  if c = 8 then (s.ep p).occ fun _ => true else max (s.prioOcc p c) ((s.ep p).occ fun _ => true)

theorem Paused.pauseOcc (h : Paused p s t) (c : Nat) : t.pauseOcc p c = s.pauseOcc p c := by
  rw [State.pauseOcc, State.pauseOcc, h.prioOcc, h.occ]

theorem pauseCheck_eq (s : State) (p : Nat) : ∃ v : State, Paused p s v ∧
    (∀ k, k ∉ s.pauseClasses p → v.xoffAt p k = 0) ∧ (∀ k ∈ s.pauseClasses p, v.xoffAt p k = s.xoffAt p k) ∧
    s.pauseCheck p = if (s.ep p).link then (s.pauseClasses p).foldl (fun t c => t.pauseTest p c
      (if c = 8 then (s.ep p).occ fun _ => true else max (t.prioOcc p c) ((s.ep p).occ fun _ => true))) v else v := by
  refine ⟨s.setEp p { s.ep p with xoff := (s.ep p).xoff.filter fun e => (s.pauseClasses p).contains e.1 }, (Paused.refl p s).setEp rfl rfl rfl,
    fun k hk => ?_, fun k hk => ?_, rfl⟩
  · rw [State.xoffAt, State.setEp_ep]
    exact Tab.get_filter_off 0 (P := fun k => (s.pauseClasses p).contains k) (by simpa using hk) _
  · rw [State.xoffAt, State.setEp_ep]
    exact Tab.get_filter_on 0 (P := fun k => (s.pauseClasses p).contains k) (by simpa using hk) _

/-- A class that the port does not pause has no pause. -/
theorem pauseCheck_off (s : State) (p : Nat) {k : Nat} (hk : k ∉ s.pauseClasses p) : (s.pauseCheck p).xoffAt p k = 0 := by
  obtain ⟨v, -, hv, -, heq⟩ := pauseCheck_eq s p
  rw [heq]
  split
  · refine List.foldlRecOn (motive := fun t : State => t.xoffAt p k = 0) _ _ (hv k hk) fun t ht c hc => ?_
    exact (t.pauseTest_xoffAt_ne p (ne_of_mem_of_not_mem hc hk).symm _).trans ht
  · exact hv k hk

/-- A class whose occupancy is above the low mark keeps its pause. -/
theorem pauseCheck_high (s : State) (p : Nat) {k : Nat} (hk : k ∈ s.pauseClasses p) (hx : s.xoffAt p k ≠ 0)
    (ho : s.inForce .ETH_LOWM p < s.pauseOcc p k) : (s.pauseCheck p).xoffAt p k = s.xoffAt p k := by
  obtain ⟨v, hp, -, hv, heq⟩ := pauseCheck_eq s p
  rw [heq]
  split
  · refine (List.foldlRecOn (motive := fun t : State => Paused p s t ∧ t.xoffAt p k = s.xoffAt p k) _ _ ⟨hp, hv k hk⟩
      fun t ⟨ht, hxt⟩ c _ => ⟨ht.pauseTest .., ?_⟩).2
    by_cases hc : k = c
    · subst hc
      rw [t.pauseTest_high p k _ (hxt ▸ hx) ?_]
      · exact hxt
      · rw [inForce_of_force ht.force, ht.prioOcc]
        exact ho
    · exact (t.pauseTest_xoffAt_ne p hc _).trans hxt
  · exact hv k hk

/-- The pause of a class that is due goes out again. -/
def State.pauseAgain (p : Nat) (t : State) (c : Nat) : State :=
  if (t.ep p).link ∧ t.portOn p ∧ 2 ≤ t.xoffAt p c ∧ t.xoffAt p c - 2 + t.bitsNs p (t.fl .ETH_PAUSE 15 0 p * 256) ≤ t.gau.l then
    t.queuePause p c (t.fl .ETH_PAUSE 15 0 p) true else t

theorem pauseRepeat_exec (s : State) (p : Fin 8) :
    exec (.pauseRepeat p) s = .next ((s.pauseClasses p).foldl (State.pauseAgain p) (s.pauseCheck p)) := rfl

theorem Paused.pauseAgain (h : Paused p s t) (c : Nat) : Paused p s (t.pauseAgain p c) := .ite (h.queuePause ..) h

theorem State.pauseAgain_xoffAt_ne (t : State) (p : Nat) {c k : Nat} (h : k ≠ c) : (t.pauseAgain p c).xoffAt p k = t.xoffAt p k := by
  unfold State.pauseAgain
  split
  · exact t.queuePause_xoffAt_ne p h ..
  · rfl

theorem State.pauseAgain_ctl (t : State) (p c : Nat) {f : TxFrame} (h : f ∈ (t.ep p).ctl) : f ∈ ((t.pauseAgain p c).ep p).ctl := by
  unfold State.pauseAgain
  split
  · unfold State.queuePause
    rw [State.setEp_ep]
    exact List.mem_append_left _ h
  · exact h

theorem pauseRepeat_off (s : State) (p : Fin 8) {k : Nat} (hk : k ∉ s.pauseClasses p) :
    Completes (.pauseRepeat p) s (fun t => (t.ep p).xoff.get k 0 = 0) := by
  refine .of_next (pauseRepeat_exec s p) ?_
  refine List.foldlRecOn (motive := fun t : State => t.xoffAt p k = 0) _ _ (pauseCheck_off s p hk) fun t ht c hc => ?_
  exact (t.pauseAgain_xoffAt_ne p (ne_of_mem_of_not_mem hc hk).symm).trans ht

theorem pauseRepeat_high (s : State) (p : Fin 8) {k : Nat} (hlive : (s.ep p).link = true ∧ s.portOn p = true) (hk : k ∈ s.pauseClasses p)
    (hx : 2 ≤ s.xoffAt p k) (ho : s.inForce .ETH_LOWM p < s.pauseOcc p k) : Completes (.pauseRepeat p) s (fun t =>
      (s.xoffAt p k - 2 + s.bitsNs p (s.fl .ETH_PAUSE 15 0 p * 256) ≤ s.gau.l →
        t.xoffAt p k = 1 ∧ tsvFrame 7 (.pause k (s.fl .ETH_PAUSE 15 0 p) true) 60 ∈ (t.ep p).ctl) ∧
      (¬ s.xoffAt p k - 2 + s.bitsNs p (s.fl .ETH_PAUSE 15 0 p * 256) ≤ s.gau.l → t.xoffAt p k = s.xoffAt p k)) := by
  refine .of_next (pauseRepeat_exec s p) ?_
  have h0 : Paused p s (s.pauseCheck p) := (Paused.refl p s).pauseCheck
  have hx0 := pauseCheck_high s p hk (by omega) ho
  generalize s.pauseCheck p = t0 at h0 hx0
  refine ⟨fun hd => ?_, fun hd => ?_⟩
  · have hagain (t : State) (ht : Paused p s t) (hxt : t.xoffAt p k = s.xoffAt p k) :
        t.pauseAgain p k = t.queuePause p k (s.fl .ETH_PAUSE 15 0 p) true := by
      rw [State.pauseAgain, hxt, ht.link, ht.portOn, ht.bitsNs, ht.gau, fl_of_force ht.force, if_pos ⟨hlive.1, hlive.2, hx, hd⟩]
    obtain ⟨l1, l2, hl⟩ := List.append_of_mem hk
    have hnd := s.pauseClasses_nodup p
    rw [hl] at hnd ⊢
    obtain ⟨-, hn2, hdis⟩ := List.nodup_append.1 hnd
    rw [List.foldl_append, List.foldl_cons]
    have h1 := List.foldlRecOn (motive := fun t : State => Paused p s t ∧ t.xoffAt p k = s.xoffAt p k) l1 (State.pauseAgain p) ⟨h0, hx0⟩
      fun t ⟨ht, hxt⟩ c hc => ⟨ht.pauseAgain c, (t.pauseAgain_xoffAt_ne p (Ne.symm (hdis c hc k List.mem_cons_self))).trans hxt⟩
    rw [hagain _ h1.1 h1.2]
    refine List.foldlRecOn (motive := fun t : State => t.xoffAt p k = 1 ∧ tsvFrame 7 (.pause k (s.fl .ETH_PAUSE 15 0 p) true) 60 ∈ (t.ep p).ctl)
      l2 (State.pauseAgain p) ⟨?_, ?_⟩ fun t ⟨hxt, hct⟩ c hc => ⟨?_, t.pauseAgain_ctl p c hct⟩
    · unfold State.queuePause State.xoffAt
      rw [State.setEp_ep]
      exact Tab.get_set_same ..
    · unfold State.queuePause
      rw [State.setEp_ep]
      exact List.mem_append_right _ List.mem_cons_self
    · exact (t.pauseAgain_xoffAt_ne p (ne_of_mem_of_not_mem hc (List.nodup_cons.1 hn2).1).symm).trans hxt
  · have hsame (t : State) (ht : Paused p s t) (hxt : t.xoffAt p k = s.xoffAt p k) : t.pauseAgain p k = t := by
      rw [State.pauseAgain, hxt, ht.bitsNs, ht.gau, fl_of_force ht.force, if_neg (fun h => hd h.2.2.2)]
    refine (List.foldlRecOn (motive := fun t : State => Paused p s t ∧ t.xoffAt p k = s.xoffAt p k) (s.pauseClasses p) (State.pauseAgain p) ⟨h0, hx0⟩
      fun t ⟨ht, hxt⟩ c _ => ⟨ht.pauseAgain c, ?_⟩).2
    by_cases hc : k = c
    · rw [← hc, hsame t ht hxt]
      exact hxt
    · exact (t.pauseAgain_xoffAt_ne p hc).trans hxt

/-! ### Pauses received (R203, R204) -/

/-- Class `c` of the port may not send before this instant. -/
def State.pauseAt (s : State) (p c : Nat) : Nat := (s.ep p).pause.get c 0

theorem State.loadPause_pauseAt_ne (s : State) (p : Nat) {c k : Nat} (h : c ≠ k) (quanta d : Nat) : (s.loadPause p k quanta d).pauseAt p c = s.pauseAt p c := by
  unfold State.loadPause State.pauseAt
  rw [State.setEp_ep]
  exact Tab.get_set_ne _ _ _ h

theorem State.loadPause_pauseAt (s : State) (p k quanta : Nat) : (s.loadPause p k quanta 0).pauseAt p k = s.gau.l + s.bitsNs p (quanta * 512) := by
  unfold State.loadPause State.pauseAt
  rw [State.setEp_ep]
  refine (Tab.get_set_same ..).trans ?_
  by_cases hq : quanta = 0
  · have h0 : s.bitsNs p 0 = 0 := by
      show (0 + s.portRate p - 1) / s.portRate p = 0
      rw [Nat.div_eq_zero_iff]
      omega
    rw [if_pos hq, hq, Nat.zero_mul, h0]
  · rw [if_neg hq, Nat.zero_add]

/-- One class of a pause frame. -/
def State.pauseClass (s : State) (p : Nat) (k : PauseFrame) (t : State) (c : Nat) : State :=
  match pauseQuanta k c with
  | some q => if s.pauseActs p k c then t.loadPause p c q 0 else t
  | none => t

/-- What a received pause of other classes leaves for class `c`: its own pause, and how long a pause is. -/
structure PauseKept (p c : Nat) (s t : State) : Prop where
  at_ : t.pauseAt p c = s.pauseAt p c
  gau : t.gau = s.gau
  force : t.force = s.force

theorem State.pauseClass_kept (s : State) (p : Nat) (k : PauseFrame) (t : State) {c j : Nat} (h : c ≠ j) : PauseKept p c t (s.pauseClass p k t j) := by
  unfold State.pauseClass
  split
  · split
    · exact ⟨t.loadPause_pauseAt_ne p h .., rfl, rfl⟩
    · exact ⟨rfl, rfl, rfl⟩
  · exact ⟨rfl, rfl, rfl⟩

theorem pauseOp_pauseAt (s : State) (p : Nat) (k : PauseFrame) {c : Nat} (hon : s.on .ETH_PAUSE 31 p = true) :
    (s.pauseOp p k 0).pauseAt p c = ((List.range 8).foldl (s.pauseClass p k) s).pauseAt p c := by
  unfold State.pauseOp
  rw [if_neg (by simp [hon])]
  dsimp only
  rw [State.pauseAt, ep_of_eth (State.pmcEth_eth ..), ep_of_eth (State.bump_eth ..)]
  rfl

theorem PauseKept.trans {v : State} {c : Nat} (h : PauseKept p c s t) (h' : PauseKept p c t v) : PauseKept p c s v :=
  ⟨h'.at_.trans h.at_, h'.gau.trans h.gau, h'.force.trans h.force⟩

/-- Of a pause frame, the pause of a class comes from that class of the frame alone. -/
theorem pauseClasses_at (s : State) (p : Nat) (k : PauseFrame) {c : Nat} (hc : c < 8) :
    ∃ t, PauseKept p c s t ∧ ((List.range 8).foldl (s.pauseClass p k) s).pauseAt p c = (s.pauseClass p k t c).pauseAt p c := by
  obtain ⟨l1, l2, hl⟩ := List.append_of_mem (List.mem_range.2 hc)
  have hnd : (List.range 8).Nodup := List.nodup_range
  rw [hl] at hnd ⊢
  obtain ⟨-, hn2, hdis⟩ := List.nodup_append.1 hnd
  refine ⟨l1.foldl (s.pauseClass p k) s, ?_, ?_⟩
  · exact List.foldlRecOn (motive := PauseKept p c s) l1 _ ⟨rfl, rfl, rfl⟩ fun t ht j hj =>
      ht.trans (s.pauseClass_kept p k t (Ne.symm (hdis j hj c List.mem_cons_self)))
  · rw [List.foldl_append, List.foldl_cons]
    exact List.foldlRecOn (motive := fun t : State => t.pauseAt p c = _) l2 (s.pauseClass p k) rfl fun t ht j hj =>
      (s.pauseClass_kept p k t (ne_of_mem_of_not_mem hj (List.nodup_cons.1 hn2).1).symm).at_.trans ht

theorem pauseReceive_exec (pfc : Bool) (vec : Byte) (qs : Vector Half 8) (p : Fin 8) (hlive : (s.ep p).link = true ∧ s.portOn p = true) :
    exec (.pauseReceive p pfc vec qs true) s = .next (s.pauseOp p (if pfc then .pfc vec qs else .pause qs[0]) 0) := by
  show execPauseReceive p pfc vec qs true s = _
  rw [execPauseReceive, if_neg (not_not_intro hlive), if_pos rfl]

/-- A class that the frame pauses does not send for its quanta. -/
theorem pauseReceive_taken (s : State) (p c : Fin 8) (pfc : Bool) (vec : Byte) (qs : Vector Half 8) {q : Nat}
    (hlive : (s.ep p).link = true ∧ s.portOn p = true) (hon : s.on .ETH_PAUSE 31 p = true)
    (hq : pauseQuanta (if pfc then .pfc vec qs else .pause qs[0]) c = some q)
    (ha : s.pauseActs p (if pfc then .pfc vec qs else .pause qs[0]) c = true) :
    Completes (.pauseReceive p pfc vec qs true) s (fun t => (t.ep p).pause.get c 0 = s.gau.l + s.bitsNs p (q * 512)) := by
  refine .of_next (pauseReceive_exec pfc vec qs p hlive) ?_
  generalize (if pfc then PauseFrame.pfc vec qs else .pause qs[0]) = k at hq ha
  obtain ⟨t, ht, heq⟩ := pauseClasses_at s p k c.isLt
  refine (pauseOp_pauseAt s p k hon).trans (heq.trans ?_)
  have hd : s.pauseClass p k t c = t.loadPause p c q 0 := by
    simp only [State.pauseClass, hq, ha, if_true]
  have hb : t.bitsNs p (q * 512) = s.bitsNs p (q * 512) := by
    rw [State.bitsNs, State.portRate, fl_of_force ht.force, State.bitsNs, State.portRate]
  rw [hd, State.loadPause_pauseAt, ht.gau, hb]

/-- A class that the frame does not name, or that does not obey pauses, keeps its pause. -/
theorem pauseReceive_other (s : State) (p c : Fin 8) (vec : Byte) (qs : Vector Half 8) (hlive : (s.ep p).link = true ∧ s.portOn p = true)
    (hon : s.on .ETH_PAUSE 31 p = true) (ha : (bitOn vec.toNat c && s.on .ETH_PAUSE (16 + c.val) p) = false) :
    Completes (.pauseReceive p true vec qs true) s (fun t => (t.ep p).pause.get c 0 = (s.ep p).pause.get c 0) := by
  refine .of_next (pauseReceive_exec true vec qs p hlive) ?_
  obtain ⟨t, ht, heq⟩ := pauseClasses_at s p (.pfc vec qs) c.isLt
  refine (pauseOp_pauseAt s p (.pfc vec qs) hon).trans (heq.trans ?_)
  have hd : s.pauseClass p (.pfc vec qs) t c = t := by
    cases hv : bitOn vec.toNat c with
    | false => simp only [State.pauseClass, pauseQuanta, hv, Bool.false_eq_true, if_false]
    | true =>
      have hcl : s.on .ETH_PAUSE (16 + c.val) p = false := by simpa [hv] using ha
      simp only [State.pauseClass, pauseQuanta, hv, if_true, State.pauseActs, hcl, Bool.false_eq_true, if_false]
  rw [hd]
  exact ht.at_

/-- A frame that is not valid, and any where the port obeys no pauses, is counted. -/
theorem pauseReceive_counted (s : State) (p : Fin 8) (vec : Byte) (qs : Vector Half 8) (fcsOk : Bool)
    (hlive : (s.ep p).link = true ∧ s.portOn p = true) (h : fcsOk = false ∨ s.on .ETH_PAUSE 31 p = false) :
    Completes (.pauseReceive p false vec qs fcsOk) s (fun t => t.eth = s.eth) := by
  refine .of_next rfl ?_
  rw [if_neg (not_not_intro hlive)]
  cases fcsOk with
  | false => exact (State.pmcEth_eth ..).trans (State.bump_eth ..)
  | true =>
    have hoff : s.on .ETH_PAUSE 31 p = false := h.resolve_left (by decide)
    rw [if_pos rfl, State.pauseOp, if_pos (by simp [hoff])]
    exact State.bump_eth ..

theorem pauseExpiry_spec (s : State) (p c : Fin 8) (h : s.paused p c = false) :
    Completes (.pauseExpiry p c) s (fun t => (t.ep p).pause.get c 0 = 0) := by
  refine .of_next (u := s.setEp p { s.ep p with pause := (s.ep p).pause.set c 0 }) ?_ ?_
  · show execPauseExpiry p c s = _
    rw [execPauseExpiry, if_neg (by simp [h])]
  · rw [State.setEp_ep]
    exact Tab.get_set_same ..

/-- Settles O35: the receive side of a port, one lemma each. -/
theorem ethernetReceiveCompletes : Obligations.EthernetReceiveCompletes := by
  intro p c bytes code fcsOk vec quanta qs k s x u q live size total high due
  refine ⟨⟨_, rfl, s.setLinkUp_link p false⟩, fun hp => .of_if rfl hp (s.setLinkUp_link p true), frameReceive_fcs bytes code p, ?_,
    pauseRepeat_off s p, ?_, ?_, pauseReceive_other s p c vec qs, ?_, pauseReceive_counted s p vec _ fcsOk, pauseExpiry_spec s p c⟩
  · intro hlive hpause hlen h0 h1 hsp hocc htot
    exact frameReceive_stored s p bytes code hlive hpause hlen rfl rfl h0 h1 hsp hocc htot
  · intro hlive hk hx hh
    exact pauseRepeat_high s p hlive hk hx hh
  · intro hlive hon hv hcl
    have hq : pauseQuanta (.pfc vec qs) c = some qs[c].toNat := by
      have hget : qs.toList.getD c 0 = qs[c] := by simp
      rw [pauseQuanta, if_pos hv, hget]
    exact pauseReceive_taken s p c true vec qs hlive hon hq hcl
  · intro hlive hon
    exact pauseReceive_taken s p c false vec (qs.set 0 quanta) hlive hon (by simp [pauseQuanta]) rfl

end Sys2Proof.Machine
end

section
/-! The transmit side of an Ethernet port: launches, stamps, the Row table, preemption and the marker (R198, R199, R202 to R207, R211, R215). -/

namespace Sys2Proof.Machine

set_option Elab.async false

variable {s t : State} {p : Nat}

/-! ### Launches (R198, R199) -/

/-- A port that sends nothing is at no end of a frame. -/
theorem State.txDone_idle (h : (s.ep p).cur = none) : s.txDone p = s := by
  have hst : s.stampCur p = s := by simp only [State.stampCur, h]
  simp only [State.txDone, hst, h]

theorem launchDecision_idle (p : Fin 8) (hlive : (s.ep p).link = true ∧ s.portOn p = true) (hcur : (s.ep p).cur = none) :
    exec (.launchDecision p) s = .next (s.choose p) := by
  show execLaunchDecision p s = _
  unfold execLaunchDecision State.decide_
  simp only [State.txDone_idle hcur, hcur, hlive, and_self, if_true]

theorem launchDecision_raw (p : Fin 8) {f : TxFrame} {rest : List TxFrame} {l : List Byte} (hlive : (s.ep p).link = true ∧ s.portOn p = true)
    (hctl : (s.ep p).ctl = []) (hcur : (s.ep p).cur = none) (hheld : (s.ep p).held = none) (hr : s.ready p = f :: rest) (hf : f.pay = .raw l)
    (hone : f.oneStep = false) : Completes (.launchDecision p) s (fun t => t.sent = .frame p f 0 :: s.sent ∧ (t.ep p).txq = (s.ep p).txq.erase f ∧
      (t.ep p).cur = some ⟨f, s.lineNs, 0, s.lineNs + s.bitsNs p ((8 + f.len) * 8), !s.express p f.tc, false, none, none⟩ ∧
      (t.ep p).stamps = (s.ep p).stamps) := by
  let s0 := s.setEp p { s.ep p with txq := (s.ep p).txq.erase f }
  have h0 : s0.ep p = { s.ep p with txq := (s.ep p).txq.erase f } := s.setEp_ep p _
  have hx : s0.express p f.tc = s.express p f.tc := by
    unfold State.express State.preempting
    rw [h0]
    rfl
  have hch : s.choose p = s.launch p f := by simp only [State.choose, hctl, hheld, hr]
  have hdo : s.launch p f = s0.beginFrame p f none := by
    unfold State.launch
    simp only [hone, hf, Bool.false_eq_true, false_and, if_false]
    rfl
  refine .of_next ((launchDecision_idle p hlive hcur).trans (congrArg _ (hch.trans hdo))) ?_
  unfold State.beginFrame
  rw [hx]
  refine ⟨rfl, ?_, ?_, ?_⟩
  · refine (congrArg EthP.txq (s0.setEp_ep p _)).trans ?_
    rw [h0]
  · exact congrArg EthP.cur (s0.setEp_ep p _)
  · refine (congrArg EthP.stamps (s0.setEp_ep p _)).trans ?_
    rw [h0]

/-- The port after a pause frame of its own began. -/
def State.pauseSent (s : State) (p : Nat) (f : TxFrame) (r : List TxFrame) (c : Nat) : EthP :=
  { s.ep p with
    ctl := r, xoff := if (s.ep p).xoffOn c then (s.ep p).xoff.set c (s.gau.l + 2) else (s.ep p).xoff
    cur := some ⟨f, s.lineNs, 0, s.lineNs + s.bitsNs p ((8 + f.len) * 8), false, false, none, none⟩ }

theorem launchCtl_pause (s : State) (p : Nat) {f : TxFrame} (r : List TxFrame) {c quanta : Nat} (hf : f.pay = .pause c quanta true)
    (hc : c ∈ s.pauseClasses p) : (s.launchCtl p f r).sent = .pause p [(c, quanta)] :: s.sent ∧ (s.launchCtl p f r).ep p = s.pauseSent p f r c := by
  have hcon : (s.pauseClasses p).contains c = true := by simpa using hc
  unfold State.launchCtl
  simp only [hf, hcon, if_true, true_and]
  refine ⟨(State.pmcEth_sent ..).trans rfl, ?_⟩
  rw [ep_of_eth (State.pmcEth_eth ..), ep_of_eth (State.send_eth ..), State.setEp_ep, State.setEp_ep, State.pauseSent]

theorem launchDecision_pause (p : Fin 8) {f : TxFrame} {rest : List TxFrame} {c quanta : Nat} (hlive : (s.ep p).link = true ∧ s.portOn p = true)
    (hctl : (s.ep p).ctl = f :: rest) (hcur : (s.ep p).cur = none) (hf : f.pay = .pause c quanta true) (hc : c ∈ s.pauseClasses p) :
    Completes (.launchDecision p) s (fun t => t.sent = .pause p [(c, quanta)] :: s.sent ∧ (t.ep p).ctl = rest ∧
      ((s.ep p).xoffOn c = true → (t.ep p).xoff.get c 0 = s.gau.l + 2)) := by
  have hdo : s.choose p = s.launchCtl p f rest := by simp only [State.choose, hctl]
  obtain ⟨hsent, hep⟩ := launchCtl_pause s p rest hf hc
  refine .of_next ((launchDecision_idle p hlive hcur).trans (congrArg _ hdo)) ⟨hsent, congrArg EthP.ctl hep, fun hx => ?_⟩
  rw [hep, State.pauseSent, if_pos hx]
  exact Tab.get_set_same ..

/-! ### The end of a frame and its stamp (R215, R225) -/

theorem State.frameResult_eth (s : State) (f : TxFrame) (r : Nat) : (s.frameResult f r).eth = s.eth := by
  unfold State.frameResult
  split <;> rfl

theorem State.frameResult_sent (s : State) (f : TxFrame) (r : Nat) : (s.frameResult f r).sent = s.sent := by
  unfold State.frameResult
  split <;> rfl

/-- A port with nothing to send stays as it is. -/
theorem State.choose_nothing (hctl : (s.ep p).ctl = []) (htxq : (s.ep p).txq = []) (hheld : (s.ep p).held = none) : s.choose p = s := by
  have hhead (c : Nat) : (s.ep p).head c = none := by rw [EthP.head, htxq]; rfl
  have hr : s.ready p = [] := by
    unfold State.ready
    simp only [hhead]
    rfl
  simp only [State.choose, hctl, hr, hheld]

/-- The stamps that the end of a frame leaves to be stored. -/
def TxCur.stamps (c : TxCur) (v : StampV) : List (TxFrame × StampV) := if c.f.tsReq ∧ ¬ c.f.oneStep then [(c.f, v)] else []

theorem State.txDone_ends {cur : TxCur} {v : StampV} (hcur : (s.ep p).cur = some cur) (hv : cur.stamp = some v) (hstop : cur.stop ≤ s.lineNs) :
    (s.txDone p).ep p = { s.ep p with cur := none, stamps := (s.ep p).stamps ++ cur.stamps v, fup := (s.ep p).fup ++ cur.fup.toList } ∧
    (s.txDone p).sent = s.sent := by
  have hst : s.stampCur p = s := by simp [State.stampCur, hcur, hv]
  unfold State.txDone
  simp only [hst, hcur, hv, Nat.not_lt.2 hstop, if_false]
  refine ⟨?_, ?_⟩
  · rw [ep_of_eth (State.frameResult_eth ..), ep_of_eth (State.pmcEth_eth ..), ep_of_eth (State.pmcEth_eth ..), State.setEp_ep]
    rfl
  · rw [State.frameResult_sent, State.pmcEth_sent, State.pmcEth_sent]
    rfl

theorem launchDecision_ends (p : Fin 8) {cur : TxCur} {v : StampV} (hctl : (s.ep p).ctl = []) (htxq : (s.ep p).txq = [])
    (hheld : (s.ep p).held = none) (hcur : (s.ep p).cur = some cur) (hv : cur.stamp = some v) (hstop : cur.stop ≤ s.lineNs) :
    Completes (.launchDecision p) s (fun t => (t.ep p).cur = none ∧ t.sent = s.sent ∧ (t.ep p).fup = (s.ep p).fup ++ cur.fup.toList ∧
      (t.ep p).stamps = if cur.f.tsReq = true ∧ cur.f.oneStep = false then (s.ep p).stamps ++ [(cur.f, v)] else (s.ep p).stamps) := by
  obtain ⟨hep, hsent⟩ := State.txDone_ends hcur hv hstop
  have hdo : s.decide_ p = s.txDone p := by
    unfold State.decide_
    generalize s.txDone p = t at hep
    have hcur : (t.ep p).cur = none := congrArg EthP.cur hep
    simp only [hcur]
    rw [State.choose_nothing ((congrArg EthP.ctl hep).trans hctl) ((congrArg EthP.txq hep).trans htxq) ((congrArg EthP.held hep).trans hheld)]
    exact ite_self _
  refine .of_next (u := s.txDone p) (congrArg Host.Outcome.next hdo) ?_
  rw [hep]
  refine ⟨rfl, hsent, rfl, ?_⟩
  by_cases hts : cur.f.tsReq = true ∧ cur.f.oneStep = false
  · rw [if_pos hts]
    refine congrArg _ (if_pos ⟨hts.1, ?_⟩)
    simp [hts.2]
  · rw [if_neg hts]
    refine (congrArg _ (if_neg fun h => hts ⟨h.1, ?_⟩)).trans (List.append_nil _)
    simpa using h.2

theorem txStampStore_stored (p : Fin 8) {f : TxFrame} {v : StampV} {more : List (TxFrame × StampV)} {l : List Byte}
    (hs : (s.ep p).stamps = (f, v) :: more) (hf : f.pay = .raw l) (hlen : (s.ep p).txts.length < 1024) :
    Completes (.txStampStore p ()) s (fun t => (t.ep p).stamps = more ∧ (t.ep p).lost = 0 ∧ (t.ep p).txts = (s.ep p).txts ++
      [stampWords 1 p (decide ((s.ep p).lost ≠ 0)) f.tc 0 (s.ep p).lost (f.tag * 2 ^ 16 + f.len) v]) := by
  refine ⟨_, rfl, ?_⟩
  unfold State.storeStamp
  simp only [hs, hf, hlen, if_true]
  rw [ep_of_eth (State.sample_eth ..), ep_of_eth (State.pmcEth_eth ..), State.setEp_ep]
  exact ⟨rfl, rfl, rfl⟩

theorem txStampStore_lost (p : Fin 8) {f : TxFrame} {v : StampV} {more : List (TxFrame × StampV)} {l : List Byte}
    (hs : (s.ep p).stamps = (f, v) :: more) (hf : f.pay = .raw l) (hlen : 1024 ≤ (s.ep p).txts.length) :
    Completes (.txStampStore p ()) s (fun t => (t.ep p).stamps = more ∧ (t.ep p).txts = (s.ep p).txts ∧ (t.ep p).lost = (s.ep p).lost + 1) := by
  refine ⟨_, rfl, ?_⟩
  unfold State.storeStamp
  simp only [hs, hf, Nat.not_lt.2 hlen, if_false]
  rw [ep_of_eth (State.pmcEth_eth ..), ep_of_eth (State.bump_eth ..), State.setEp_ep]
  exact ⟨rfl, rfl, rfl⟩

/-! ### The Row table (R203 to R207) -/

/-- A late frame is counted; of the port, only the frame in transmission changes. -/
theorem State.overrunCheck_ep (s : State) (p : Nat) : ∃ c, (s.overrunCheck p).ep p = { s.ep p with cur := c } := by
  have hlate (c : TxCur) : ∃ c', (s.countLate p c).ep p = { s.ep p with cur := c' } := by
    unfold State.countLate
    extract_lets gated
    split
    · refine ⟨some { c with late := true }, ?_⟩
      rw [ep_of_eth (State.pmcEth_eth ..), ep_of_eth (State.bump_eth ..), State.setEp_ep]
    · exact ⟨_, rfl⟩
  unfold State.overrunCheck
  split
  · exact ⟨_, rfl⟩
  · split
    · exact ⟨_, rfl⟩
    · exact hlate _

/-- What the start of a slot leaves of the port, apart from the slot and its gates. -/
structure SlotStarted (x y : EthP) : Prop where
  rowRun : y.rowRun = x.rowRun
  bank : y.bank = x.bank
  act : y.act = x.act

theorem State.landWrites_ep (s : State) (p : Nat) : SlotStarted (s.ep p) ((s.landWrites p).ep p) := by
  unfold State.landWrites
  split
  · dsimp only
    have heth : ((s.liveWaits p).foldl (fun t i =>
        (t.setReg .ROWA_OFS (t.lastOf .ROWA_OFS p i) p i).setReg .ROWA_GATE (t.lastOf .ROWA_GATE p i) p i) s).eth = s.eth :=
      List.foldlRecOn (motive := fun t : State => t.eth = s.eth) _ _ rfl fun _ ht _ _ => ht
    rw [State.setEp_ep, ep_of_eth heth]
    exact ⟨rfl, rfl, rfl⟩
  · exact ⟨rfl, rfl, rfl⟩

theorem State.startSlot_ep (s : State) (p i : Nat) : SlotStarted (s.ep p) ((s.startSlot p i).ep p) ∧ ((s.startSlot p i).ep p).slot = i := by
  unfold State.startSlot
  have hl := s.landWrites_ep p
  generalize s.landWrites p = s1 at hl
  dsimp only
  obtain ⟨c, hc⟩ := (s1.setEp p { s1.ep p with
    slot := i, gate := bits (s1.inForce .ROWA_GATE p i) 7 0, hold := bitOn (s1.inForce .ROWA_GATE p i) 8 }).overrunCheck_ep p
  rw [hc, State.setEp_ep]
  exact ⟨⟨hl.rowRun, hl.bank, hl.act⟩, rfl⟩

theorem slotStart_spec (p : Fin 8) (hon : s.on .ETH_ROW_CTL 31 p = true) (hrun : (s.ep p).rowRun = true) (hne : s.slotAt p ≠ (s.ep p).slot) :
    Completes (.slotStart p) s (fun t => (t.ep p).slot = s.slotAt p) :=
  .of_if rfl ⟨hon, hrun, hne⟩ (s.startSlot_ep p _).2

theorem State.cycleStart_starts (hon : s.on .ETH_ROW_CTL 31 p = true) (hc : s.cycleAt p (s.ep p).act.1 (s.ep p).act.2.1 = true) :
    ((s.cycleStart p).ep p).rowRun = true ∧ ((s.cycleStart p).ep p).slot = s.slotAt p ∧ ((s.cycleStart p).ep p).bank = (s.ep p).bank := by
  unfold State.cycleStart
  dsimp only
  rw [if_pos ⟨hon, hc⟩]
  obtain ⟨hst, hslot⟩ := (s.setEp p { s.ep p with rowRun := true }).startSlot_ep p (s.slotAt p)
  refine ⟨hst.rowRun.trans (by rw [State.setEp_ep]), hslot, hst.bank.trans (by rw [State.setEp_ep])⟩

theorem State.cycleStart_keeps (s : State) (p : Nat) : ((s.cycleStart p).ep p).bank = (s.ep p).bank ∧ ((s.cycleStart p).ep p).act = (s.ep p).act := by
  unfold State.cycleStart
  dsimp only
  split
  · obtain ⟨hst, -⟩ := (s.setEp p { s.ep p with rowRun := true }).startSlot_ep p (s.slotAt p)
    exact ⟨hst.bank.trans (by rw [State.setEp_ep]), hst.act.trans (by rw [State.setEp_ep])⟩
  · exact ⟨rfl, rfl⟩

theorem rowCycleStart_starts (p : Fin 8) (hf : s.fresh (0x400 + p.val) = true) (hoff : s.on .ETH_ROW_CTL 29 p = false)
    (hon : s.on .ETH_ROW_CTL 31 p = true) (hc : s.cycleAt p (s.ep p).act.1 (s.ep p).act.2.1 = true) : Completes (.rowCycleStart p) s (fun t =>
      (t.ep p).rowRun = true ∧ (t.ep p).slot = s.slotAt p ∧ (t.ep p).bank = (s.ep p).bank) := by
  have hno : (s.fire (0x400 + p.val)).trySwap p = s.fire (0x400 + p.val) := by
    have hd : (s.fire (0x400 + p.val)).swapDueRow p = false := by
      rw [State.swapDueRow, show (s.fire (0x400 + p.val)).on .ETH_ROW_CTL 29 p = false from hoff, Bool.false_and]
    rw [State.trySwap, hd, if_neg (by decide)]
  refine .of_if rfl hf ?_
  rw [hno]
  exact State.cycleStart_starts (s := s.fire (0x400 + p.val)) hon hc

theorem rowCycleStart_swaps (p : Fin 8) (hf : s.fresh (0x400 + p.val) = true) (hd : s.swapDueRow p = true) (hv : s.shadowValid p = true) :
    Completes (.rowCycleStart p) s (fun t => (t.ep p).bank = !(s.ep p).bank ∧
      (t.ep p).act = (s.inForce .ROWT_CYCLE p, s.inForce .ROWT_BASE p, s.inForce .ROWT_NSLOT p)) := by
  have hyes : (s.fire (0x400 + p.val)).trySwap p = (s.fire (0x400 + p.val)).swapTables p := by
    have hd' : (s.fire (0x400 + p.val)).swapDueRow p = true := hd
    have hv' : (s.fire (0x400 + p.val)).shadowValid p = true := hv
    rw [State.trySwap, if_pos hd', if_pos hv']
  have hep : (((s.fire (0x400 + p.val)).swapTables p).ep p).bank = !(s.ep p).bank ∧ (((s.fire (0x400 + p.val)).swapTables p).ep p).act =
      (s.inForce .ROWT_CYCLE p, s.inForce .ROWT_BASE p, s.inForce .ROWT_NSLOT p) := by
    unfold State.swapTables
    dsimp only
    rw [ep_of_eth (State.setFl_eth ..), State.setEp_ep]
    exact ⟨rfl, rfl⟩
  refine .of_if rfl hf ?_
  rw [hyes]
  obtain ⟨hb, ha⟩ := ((s.fire (0x400 + p.val)).swapTables p).cycleStart_keeps p
  exact ⟨hb.trans hep.1, ha.trans hep.2⟩

/-! ### Preemption and the marker (R202, R211) -/

theorem preemptVerify_spec (p : Fin 8) (responded : Bool) (hlive : (s.ep p).link = true ∧ s.portOn p = true) :
    Completes (.preemptVerify p responded) s (fun t =>
      ((s.ep p).verify = 1 → responded = false → (t.ep p).verify = 2 ∧ (t.ep p).tries = 1 ∧ t.sent = .verify p :: s.sent) ∧
      ((s.ep p).verify = 2 → responded = true → (t.ep p).verify = 3) ∧
      ((s.ep p).verify = 2 → responded = false → ¬ (s.ep p).verifyAt + s.fl .ETH_PREEMPT 7 0 p * 1000000 ≤ s.gau.l →
        (t.ep p).verify = 2 ∧ (t.ep p).tries = (s.ep p).tries ∧ t.sent = s.sent) ∧
      ((s.ep p).verify = 2 → responded = false → (s.ep p).verifyAt + s.fl .ETH_PREEMPT 7 0 p * 1000000 ≤ s.gau.l → (s.ep p).tries < 3 →
        (t.ep p).verify = 2 ∧ (t.ep p).tries = (s.ep p).tries + 1) ∧
      ((s.ep p).verify = 2 → responded = false → (s.ep p).verifyAt + s.fl .ETH_PREEMPT 7 0 p * 1000000 ≤ s.gau.l → 3 ≤ (s.ep p).tries →
        (t.ep p).verify = 4)) := by
  have hsend (n : Nat) : (s.sendVerify p n).ep p = { s.ep p with verify := 2, tries := n, verifyAt := s.gau.l } := s.setEp_ep p _
  refine .of_if rfl hlive ⟨?_, ?_, ?_, ?_, ?_⟩
  · intro hx hr
    simp only [State.verifyStep, hx, hr, Bool.false_eq_true, if_false]
    rw [hsend]
    exact ⟨rfl, rfl, rfl⟩
  · intro hx hr
    simp only [State.verifyStep, hx, hr, if_true]
    rw [State.setEp_ep]
  · intro hx hr hw
    simp only [State.verifyStep, hx, hr, Nat.lt_of_not_le hw, Bool.false_eq_true, if_false, if_true]
    exact ⟨trivial, trivial, trivial⟩
  · intro hx hr hw ht
    simp only [State.verifyStep, hx, hr, Nat.not_lt.2 hw, ht, Bool.false_eq_true, if_false, if_true]
    rw [hsend]
    exact ⟨rfl, rfl⟩
  · intro hx hr hw ht
    simp only [State.verifyStep, hx, hr, Nat.not_lt.2 hw, Nat.not_lt.2 ht, Bool.false_eq_true, if_false]
    rw [State.setEp_ep]

theorem ethMarker_spec (p : Fin 8) {m : Nat} (hp : s.portOn p = true) (hcur : (s.ep p).cur = none)
    (hdue : (s.ep p).markAt = none ∨ (s.ep p).markAt = some m ∧ m + s.fl .ETH_TEN 31 16 p * 1000000 ≤ s.gau.l) :
    Completes (.ethMarker p () ()) s (fun t => (t.ep p).markAt = some s.gau.l) := by
  refine .of_if rfl ⟨hp, ?_, by rw [hcur]; rfl⟩ ?_
  · rcases hdue with h | ⟨h, hm⟩
    · simp only [h]
    · simp only [h, decide_eq_true hm]
  · rw [ep_of_eth (State.pmcEth_eth ..), State.markStamp, ep_of_eth (State.setCalU_eth ..), State.setEp_ep]

/-- Settles O36: the transmit side of a port, one lemma each. -/
theorem ethernetTransmitCompletes : Obligations.EthernetTransmitCompletes := by
  intro p responded f v rest more cur c quanta m l s x live cycle waited
  exact ⟨launchDecision_raw p, launchDecision_pause p, launchDecision_ends p, txStampStore_stored p, txStampStore_lost p,
    fun hf hoff ⟨hon, hc⟩ => rowCycleStart_starts p hf hoff hon hc, rowCycleStart_swaps p, slotStart_spec p, preemptVerify_spec p responded,
    ethMarker_spec p⟩

end Sys2Proof.Machine
end

section
/-! What the PTP of a port sends, and its instants (R51, R217 to R219, R223 to R225, R230). -/

namespace Sys2Proof.Machine

set_option Elab.async false

variable {s t u : State} {p : Nat}

/-! ### Sending (R224) -/

/-- The port sends, and the device has not relinquished. -/
def State.Open (s : State) (p : Nat) : Prop := (s.ep p).link = true ∧ s.portOn p = true ∧ s.flt.relinq = false

/-- Of port p and its PTP, `t` is what message `k` to the destination `to_` with the number `d` leaves: the frame at the end of the
queue with the next sequence number of its type. -/
def State.Sends (s : State) (p : Nat) (k : PtpKind) (to_ : Option (Bool × Nat)) (d : Nat) (t : State) : Prop :=
  (∃ h m, (t.ep p).txq = (s.ep p).txq ++ [h] ∧ h.pay = .ptp m ∧ m.kind = k ∧ m.to_ = to_ ∧
    m.seqId = (s.inst p).seqs.get (seqKey k d) 0) ∧
  (t.inst p).seqs.get (seqKey k d) 0 = ((s.inst p).seqs.get (seqKey k d) 0 + 1) % 65536

theorem State.setInst_inst (s : State) (p : Nat) (x : PtpI) : (s.setInst p x).inst p = x := Tab.get_set_same ..

theorem inst_of_tsv (h : t.tsv = s.tsv) (p : Nat) : t.inst p = s.inst p := by rw [State.inst, h, State.inst]

theorem State.sendPtp_open (h : s.Open p) {m : PtpOut} (hst : s.standby = false ∨ m.kind = .pdelayResp) :
    s.sendPtp p m = s.setEp p { s.ep p with txq := (s.ep p).txq ++ [s.ptpFrame p m] } := by
  have hm : s.mayLaunch (s.ptpFrame p m).pay = true := by
    show (!s.flt.relinq && (!s.standby || decide (m.kind = .pdelayResp ∨ m.kind = .pdelayRespFollowUp))) = true
    rcases hst with hst | hk
    · simp [h.2.2, hst]
    · simp [h.2.2, hk]
  rw [State.sendPtp, State.tsvSubmit, if_pos hm, State.submitFrame, if_pos ⟨h.1, h.2.1⟩]

theorem State.twinSay_only (s : State) (x : Sent) : ∃ l, s.twinSay x = { s with sent := l } := by
  unfold State.twinSay
  split
  · exact ⟨_, rfl⟩
  · exact ⟨s.sent, rfl⟩

/-- The PTP of a port with a sequence number of a type and destination used. -/
def PtpI.used (x : PtpI) (k : PtpKind) (d : Nat) : PtpI :=
  { x with seqs := x.seqs.set (seqKey k d) ((x.seqs.get (seqKey k d) 0 + 1) % 65536) }

theorem State.nextSeq_only (s : State) (p : Nat) (k : PtpKind) (d : Nat) :
    ∃ l, (s.nextSeq p k d).2 = { s.setInst p ((s.inst p).used k d) with sent := l } := State.twinSay_only ..

/-- A message with the next number of its type goes out. -/
theorem State.sends_next (h : s.Open p) {k : PtpKind} (hst : s.standby = false ∨ k = .pdelayResp) {to_ : Option (Bool × Nat)} {d : Nat}
    {m : PtpOut} {r : Nat × State} (hr : s.nextSeq p k d = r) (hk : m.kind = k) (hto : m.to_ = to_) (hid : m.seqId = r.1) :
    s.Sends p k to_ d (r.2.sendPtp p m) := by
  subst hr
  obtain ⟨l, hl⟩ := s.nextSeq_only p k d
  rw [hl]
  have hopen : State.Open ({ s.setInst p ((s.inst p).used k d) with sent := l } : State) p := h
  have hst' : ({ s.setInst p ((s.inst p).used k d) with sent := l } : State).standby = false ∨ m.kind = .pdelayResp :=
    hst.imp id fun h => hk.trans h
  rw [State.sendPtp_open hopen hst']
  refine ⟨⟨State.ptpFrame ({ s.setInst p ((s.inst p).used k d) with sent := l } : State) p m, m, ?_, rfl, hk, hto, hid⟩, ?_⟩
  · rw [State.setEp_ep]
    rfl
  · refine (congrArg (fun x : PtpI => x.seqs.get (seqKey k d) 0) (s.setInst_inst p _)).trans ?_
    exact Tab.get_set_same ..

theorem State.Sends.of_same {k : PtpKind} {to_ : Option (Bool × Nat)} {d : Nat} (h : s.Sends p k to_ d t) (he : u.eth = t.eth) (ht : u.tsv = t.tsv) :
    s.Sends p k to_ d u := by
  unfold State.Sends
  rw [ep_of_eth he, inst_of_tsv ht]
  exact h

theorem State.Sends.pmcTsv {k : PtpKind} {to_ : Option (Bool × Nat)} {d ev n : Nat} (h : s.Sends p k to_ d t) : s.Sends p k to_ d (t.pmcTsv ev n) :=
  h.of_same (State.pmcEv_eth ..) (State.pmcEv_tsv ..)

theorem State.masterOn_standby (h : s.masterOn p = true) : s.standby = false := by
  unfold State.masterOn at h
  simp only [Bool.and_eq_true, Bool.not_eq_true'] at h
  exact h.2

/-! ### Multicast instants (R223) -/

theorem mcastOp_sends (h : s.Open p) {k : Nat} {kind : PtpKind} {send : State → Nat → Nat → State} (hm : s.masterOn p = true)
    (hon : s.on .PTP_CFG 24 p = true) (hat : s.atPhase (logNs (s.logOf p k)) (s.syncOfs p % logNs (s.logOf p k)) = true)
    (hf : s.fresh (0x1000 + 16 * p + k) = true)
    (hsend : ∀ u : State, u.Open p → u.standby = false → ∀ log, u.Sends p kind none 0 (send (u.nextSeq p kind 0).2 (u.nextSeq p kind 0).1 log)) :
    s.Sends p kind none 0 (s.mcastOp p k kind send) := by
  unfold State.mcastOp
  dsimp only
  rw [if_pos ⟨hm, hon, hat, hf⟩]
  exact hsend (s.fire (0x1000 + 16 * p + k)) h (State.masterOn_standby hm) _

/-- A Sync with its number goes out. -/
theorem State.sendSync_sends (h : s.Open p) (hst : s.standby = false) (to_ : Option (Bool × Nat)) (d log : Nat) :
    s.Sends p .sync to_ d ((s.nextSeq p .sync d).2.sendSync p to_ (s.nextSeq p .sync d).1 log) := by
  generalize hr : s.nextSeq p .sync d = r
  unfold State.sendSync
  exact State.Sends.pmcTsv (State.sends_next h (.inl hst) hr rfl rfl rfl)

/-- An Announce with its number goes out. -/
theorem State.sendAnn_sends (h : s.Open p) (hst : s.standby = false) (to_ : Option (Bool × Nat)) (d log : Nat) :
    s.Sends p .announce to_ d ((s.nextSeq p .announce d).2.sendAnn p to_ (s.nextSeq p .announce d).1 log) := by
  generalize hr : s.nextSeq p .announce d = r
  unfold State.sendAnn
  exact State.Sends.pmcTsv (State.sends_next h (.inl hst) hr rfl rfl rfl)

theorem syncInstant_group (p : Fin 8) (h : s.Open p) (hm : s.masterOn p = true) (hon : s.on .PTP_CFG 24 p = true)
    (hat : s.atPhase (logNs (s.logOf p 0)) (s.syncOfs p % logNs (s.logOf p 0)) = true) (hf : s.fresh (0x1000 + 16 * p.val + 0) = true) :
    Completes (.syncInstant p none) s (s.Sends p .sync none 0) :=
  .of_next (u := s.mcastOp p 0 .sync fun t q l => t.sendSync p none q l) rfl
    (mcastOp_sends h hm hon hat hf fun _ hu hst log => State.sendSync_sends hu hst none 0 log)

theorem announceInstant_group (p : Fin 8) (h : s.Open p) (hm : s.masterOn p = true) (hon : s.on .PTP_CFG 24 p = true)
    (hat : s.atPhase (logNs (s.logOf p 1)) (s.syncOfs p % logNs (s.logOf p 1)) = true) (hf : s.fresh (0x1000 + 16 * p.val + 1) = true) :
    Completes (.announceInstant p none) s (s.Sends p .announce none 0) :=
  .of_next (u := s.mcastOp p 1 .announce fun t q l => t.sendAnn p none q l) rfl
    (mcastOp_sends h hm hon hat hf fun _ hu hst log => State.sendAnn_sends hu hst none 0 log)

/-! ### Instants of a session (R230) -/

theorem Tab.find?_set {α : Type} (n : Nat) (x : α) : ∀ t : Tab α, (t.set n x).find? (fun e => e.1 == n) = some (n, x)
  | [] => by simp [Tab.set]
  | (j, w) :: t => by
    by_cases hj : j = n
    · simp [Tab.set, hj]
    · rw [Tab.set, if_neg hj]
      by_cases hlt : n < j
      · rw [if_pos hlt]
        simp
      · rw [if_neg hlt, List.find?_cons_of_neg (by simpa using hj), Tab.find?_set n x t]

/-- A session with a grant that is put into an entry stands there. -/
theorem State.putSess_sess (s : State) (n : Nat) {x : Session} (hx : (x.ann.isNone && x.sync.isNone && x.dresp.isNone) = false) :
    (s.putSess n x).sess n = some x := by
  have hput : (s.putSess n x).tsv.sess = s.tsv.sess.set n x := by
    unfold State.putSess
    dsimp only
    rw [hx]
    obtain ⟨l, hl⟩ := ({ s with tsv := { s.tsv with sess := s.tsv.sess.set n x } } : State).twinSay_only (.twinSession n (some x))
    exact (congrArg (fun t : State => t.tsv.sess) hl).trans rfl
  rw [State.sess, hput, Tab.find?_set]
  rfl

/-- What a session that is put leaves of the instances and the ports. -/
structure SessPut (s t : State) : Prop where
  eth : t.eth = s.eth
  inst : t.tsv.inst = s.tsv.inst
  rest : ∃ l, t = { s with tsv := t.tsv, sent := l }

theorem State.putSess_put (s : State) (n : Nat) (x : Session) : SessPut s (s.putSess n x) := by
  unfold State.putSess
  dsimp only
  generalize (if (x.ann.isNone && x.sync.isNone && x.dresp.isNone) = true then s.tsv.sess.filter (fun e => e.1 ≠ n) else s.tsv.sess.set n x) = l
  obtain ⟨m, hm⟩ := ({ s with tsv := { s.tsv with sess := l } } : State).twinSay_only
    (.twinSession n (if (x.ann.isNone && x.sync.isNone && x.dresp.isNone) = true then none else some x))
  rw [hm]
  exact ⟨rfl, rfl, m, rfl⟩

theorem SessPut.ports (h : SessPut s t) (ho : s.Open p) (hst : s.standby = false) : t.Open p ∧ t.standby = false := by
  obtain ⟨l, hl⟩ := h.rest
  rw [hl]
  exact ⟨ho, hst⟩

theorem SessPut.sends (h : SessPut s t) {k : PtpKind} {to_ : Option (Bool × Nat)} {d : Nat} (hs : t.Sends p k to_ d u) : s.Sends p k to_ d u := by
  have hi : t.inst p = s.inst p := by rw [State.inst, h.inst, State.inst]
  unfold State.Sends at hs ⊢
  rw [ep_of_eth h.eth, hi] at hs
  exact hs

/-- The grant from its next period on. -/
def Grant.taken (g : Grant) : Grant := { g with log := g.next.getD g.log, next := none }

theorem ucastOp_sends (h : s.Open p) {n : Nat} {gk : GrantKind} {kind : PtpKind} {key : Nat} {x : Session} {g : Grant}
    {send : State → Option (Bool × Nat) → Nat → Nat → State} (hm : s.masterOn p = true) (hx : s.sess n = some x) (hp : x.port = p)
    (hg : x.grant gk = some g) (hl : s.gau.l < g.until_) (hat : s.atPhase (logNs g.log) (s.sessOfs p n g.log) = true) (hf : s.fresh key = true)
    (hsome : ∀ y : Session, y = x.setGrant gk (some g.taken) → (y.ann.isNone && y.sync.isNone && y.dresp.isNone) = false)
    (hsend : ∀ u : State, u.Open p → u.standby = false → ∀ log,
      u.Sends p kind (some (x.v6, x.addr)) x.key (send (u.nextSeq p kind x.key).2 (some (x.v6, x.addr)) (u.nextSeq p kind x.key).1 log) ∧
      (send (u.nextSeq p kind x.key).2 (some (x.v6, x.addr)) (u.nextSeq p kind x.key).1 log).tsv.sess = u.tsv.sess) :
    s.Sends p kind (some (x.v6, x.addr)) x.key (s.ucastOp p n gk kind key send) ∧
      (s.ucastOp p n gk kind key send).sess n = some (x.setGrant gk (some g.taken)) := by
  have hput := (s.fire key).putSess_put n (x.setGrant gk (some g.taken))
  obtain ⟨ho, hst⟩ := hput.ports h (State.masterOn_standby hm)
  obtain ⟨hs, hsess⟩ := hsend _ ho hst (g.next.getD g.log)
  have hdo : s.ucastOp p n gk kind key send = send (((s.fire key).putSess n (x.setGrant gk (some g.taken))).nextSeq p kind x.key).2
      (some (x.v6, x.addr)) (((s.fire key).putSess n (x.setGrant gk (some g.taken))).nextSeq p kind x.key).1 (g.next.getD g.log) := by
    unfold State.ucastOp
    simp only [hx, hg, hp, hm, hl, hat, hf, and_self, if_true]
    rfl
  rw [hdo]
  refine ⟨hput.sends hs, ?_⟩
  rw [State.sess, hsess]
  exact (s.fire key).putSess_sess n (hsome _ rfl)

theorem State.sendPtp_tsv (s : State) (p : Nat) (m : PtpOut) : (s.sendPtp p m).tsv = s.tsv := by
  have hres (v : State) (f : TxFrame) : (v.frameResult f 3).tsv = v.tsv := by
    unfold State.frameResult
    split <;> rfl
  unfold State.sendPtp State.tsvSubmit State.submitFrame
  dsimp only
  split
  · split
    · rfl
    · exact (hres _ _).trans rfl
  · rfl

/-- A message with its number changes no session. -/
theorem State.sendPtp_sess (s : State) (p : Nat) (k : PtpKind) (d : Nat) (m : PtpOut) : ((s.nextSeq p k d).2.sendPtp p m).tsv.sess = s.tsv.sess := by
  obtain ⟨l, hl⟩ := s.nextSeq_only p k d
  rw [State.sendPtp_tsv, hl]
  rfl

theorem State.sendSync_sess (s : State) (p : Nat) (to_ : Option (Bool × Nat)) (d log : Nat) :
    ((s.nextSeq p .sync d).2.sendSync p to_ (s.nextSeq p .sync d).1 log).tsv.sess = s.tsv.sess := by
  unfold State.sendSync State.pmcTsv
  rw [State.pmcEv_tsv]
  exact s.sendPtp_sess ..

theorem State.sendAnn_sess (s : State) (p : Nat) (to_ : Option (Bool × Nat)) (d log : Nat) :
    ((s.nextSeq p .announce d).2.sendAnn p to_ (s.nextSeq p .announce d).1 log).tsv.sess = s.tsv.sess := by
  unfold State.sendAnn State.pmcTsv
  rw [State.pmcEv_tsv]
  exact s.sendPtp_sess ..

theorem syncInstant_single (p : Fin 8) (e : Fin 4096) {x : Session} {g : Grant} (h : s.Open p) (hm : s.masterOn p = true)
    (hx : s.sess e = some x) (hp : x.port = p.val) (hl : s.gau.l < g.until_) (hat : s.atPhase (logNs g.log) (s.sessOfs p e g.log) = true)
    (hf : s.fresh (0x10000 + e.val) = true) (hg : x.sync = some g) : Completes (.syncInstant p (some e)) s (fun t =>
      s.Sends p .sync (some (x.v6, x.addr)) x.key t ∧ t.sess e = some { x with sync := some g.taken }) :=
  .of_next (u := s.ucastOp p e .sync .sync (0x10000 + e) fun t a q l => t.sendSync p a q l) rfl
    (ucastOp_sends (gk := .sync) h hm hx hp hg hl hat hf (by rintro _ rfl; simp [Session.setGrant]) fun u hu hst log =>
      ⟨State.sendSync_sends hu hst _ _ log, u.sendSync_sess p _ _ log⟩)

theorem announceInstant_single (p : Fin 8) (e : Fin 4096) {x : Session} {g : Grant} (h : s.Open p) (hm : s.masterOn p = true)
    (hx : s.sess e = some x) (hp : x.port = p.val) (hl : s.gau.l < g.until_) (hat : s.atPhase (logNs g.log) (s.sessOfs p e g.log) = true)
    (hf : s.fresh (0x20000 + e.val) = true) (hg : x.ann = some g) : Completes (.announceInstant p (some e)) s (fun t =>
      s.Sends p .announce (some (x.v6, x.addr)) x.key t ∧ t.sess e = some { x with ann := some g.taken }) :=
  .of_next (u := s.ucastOp p e .announce .announce (0x20000 + e) fun t a q l => t.sendAnn p a q l) rfl
    (ucastOp_sends (gk := .announce) h hm hx hp hg hl hat hf (by rintro _ rfl; simp [Session.setGrant]) fun u hu hst log =>
      ⟨State.sendAnn_sends hu hst _ _ log, u.sendAnn_sess p _ _ log⟩)

/-! ### Requests and Follow_Ups (R223, R225) -/

/-- The address and the destination number of the Delay_Req to Erbest. -/
theorem delayReqInstant_sends (p : Fin 8) (h : s.Open p) (hon : s.ptpOn p = true) (hsb : s.standby = false) (hst : (s.inst p).st = 3)
    (hpr : s.profile p ≠ 3) (hat : s.atPhase (logNs (s.logOf p 2)) ((s.syncOfs p + logNs (s.logOf p 2) / 2) % logNs (s.logOf p 2)) = true)
    (hf : s.fresh (0x1002 + 16 * p.val) = true) {o : Option Foreign} (ho : ((s.erbest p).bind fun f => if f.uc then some f else none) = o)
    {d : Nat} (hd : (o.map fun f => destKey f.id f.port f.addr.1 f.addr.2).getD 0 = d) :
    Completes (.delayReqInstant p) s (s.Sends p .delayReq (o.map Foreign.addr) d) := by
  refine .of_if rfl ⟨hon, by simp [hsb], hst, hpr, hat, hf⟩ ?_
  rw [ho]
  dsimp only
  rw [hd]
  generalize hr : (s.fire (0x1002 + 16 * p.val)).nextSeq p .delayReq d = r
  exact State.sends_next (s := s.fire (0x1002 + 16 * p.val)) h (.inl hsb) hr rfl rfl rfl

theorem pdelayReqInstant_sends (p : Fin 8) (h : s.Open p) (hon : s.ptpOn p = true) (hsb : s.standby = false) (hpr : s.profile p = 3)
    (hat : s.atPhase (logNs (s.logOf p 3)) (s.syncOfs p % logNs (s.logOf p 3)) = true) (hf : s.fresh (0x1003 + 16 * p.val) = true) :
    Completes (.pdelayReqInstant p) s (s.Sends p .pdelayReq none 0) := by
  refine .of_if rfl ⟨hon, by simp [hsb], hpr, hat, hf⟩ ?_
  dsimp only
  generalize hr : (s.fire (0x1003 + 16 * p.val)).nextSeq p .pdelayReq 0 = r
  exact State.sends_next (s := s.fire (0x1003 + 16 * p.val)) h (.inl hsb) hr rfl rfl rfl

theorem followUpLaunch_spec (p : Fin 8) {f : TxFrame} {rest : List TxFrame} (hcur : (s.ep p).cur = none) (hfup : (s.ep p).fup = f :: rest)
    (hm : s.mayLaunch f.pay = true) : Completes (.followUpLaunch p) s (fun t => (t.ep p).fup = rest ∧ (t.ep p).txq = f :: (s.ep p).txq) := by
  refine .of_next (u := s.setEp p { s.ep p with fup := rest, txq := f :: (s.ep p).txq }) ?_ ?_
  · show execFollowUpLaunch p s = _
    unfold execFollowUpLaunch
    dsimp only
    rw [State.txDone_idle hcur, hfup]
    dsimp only
    rw [if_pos hm]
  · rw [State.setEp_ep]
    exact ⟨rfl, rfl⟩

/-- Settles O37: the instants of PTP, one lemma each. -/
theorem ptpInstantsComplete : Obligations.PtpInstantsComplete := by
  intro p e x g up f rest s open_ next sends group single taken dreq pdreq asks
  have hopen (h : open_) : s.Open p := ⟨h.1, h.2.1, h.2.2.2⟩
  refine ⟨?_, ?_, ?_, ?_, ?_, ?_, ?_, followUpLaunch_spec p⟩
  · exact fun h ⟨hm, hon, hat, hf⟩ => syncInstant_group p (hopen h) hm hon hat hf
  · exact fun h ⟨hm, hx, hp, hl, hat, hf⟩ hg => syncInstant_single p e (hopen h) hm hx hp hl hat hf hg
  · exact fun h ⟨hm, hon, hat, hf⟩ => announceInstant_group p (hopen h) hm hon hat hf
  · exact fun h ⟨hm, hx, hp, hl, hat, hf⟩ hg => announceInstant_single p e (hopen h) hm hx hp hl hat hf hg
  · intro h ⟨hon, hsb, hst, hpr, hat, hf⟩ hmc
    refine delayReqInstant_sends p (hopen h) hon hsb hst hpr hat hf (o := none) ?_ rfl
    cases hb : s.erbest p with
    | none => rfl
    | some y =>
      show (if y.uc = true then some y else none) = none
      rw [hmc y hb, if_neg (by decide)]
  · intro h ⟨hon, hsb, hst, hpr, hat, hf⟩ hb huc
    refine delayReqInstant_sends p (hopen h) hon hsb hst hpr hat hf (o := some up) ?_ (by rw [Option.map_some, Option.getD_some])
    rw [hb]
    exact if_pos huc
  · exact fun h hon hsb hpr hat hf => pdelayReqInstant_sends p (hopen h) hon hsb hpr hat hf

end Sys2Proof.Machine
end

section
/-! PTP messages received, the second of the instances and the loss of a foreign master (R222, R226 to R228). -/

namespace Sys2Proof.Machine

set_option Elab.async false

variable {s t u : State} {p : Nat}

theorem State.pmcTsv_eth (s : State) (ev k : Nat) : (s.pmcTsv ev k).eth = s.eth := State.pmcEv_eth ..

/-! ### A frame that TSV takes (R197, R227) -/

/-- A received frame that leaves its queue changes the port alone: its queue loses the frame, and what it has to send stays. -/
theorem State.rxLeave_only (s : State) (p : Nat) (g : RxFrame) : ∃ E, s.rxLeave p g = { s with eth := E } ∧
    ((s.rxLeave p g).ep p).rx = (s.ep p).rx.erase g ∧ ((s.rxLeave p g).ep p).txq = (s.ep p).txq ∧ ((s.rxLeave p g).ep p).link = (s.ep p).link := by
  have h : Paused p (s.setEp p { s.ep p with rx := (s.ep p).rx.erase g }) (s.rxLeave p g) := (Paused.refl p _).pauseCheck
  refine ⟨(s.rxLeave p g).eth, h.rest.trans rfl, ?_, ?_, ?_⟩
  · rw [h.rx, State.setEp_ep]
  · rw [h.txq, State.setEp_ep]
  · rw [h.link, State.setEp_ep]

theorem tsvTake_waits {p : Fin 8} {k : TsvKind} {g : RxFrame} (hw : Waits s p k g) (hon : s.tsvOn = true) (f : RxFrame → State → State) :
    s.tsvTake p k f = f g (s.rxLeave p g) := by
  obtain ⟨hfirst, hsp⟩ := hw
  have htake : s.rxTake p g = (true, s.rxLeave p g) := by rw [State.rxTake, if_neg (by simp [hsp])]
  unfold State.tsvTake
  rw [hfirst]
  dsimp only
  rw [htake, if_pos ⟨rfl, hon⟩]

theorem State.ptpOn_tsvOn (h : s.ptpOn p = true) : s.tsvOn = true := by
  unfold State.ptpOn at h
  exact (Bool.and_eq_true_iff.1 h).1

theorem ptpTake_waits {p : Fin 8} {k : TsvKind} {g : RxFrame} {m : PtpIn} (hw : Waits s p k g) (hm : ptpIn g = some m) (hon : s.ptpOn p = true) :
    s.ptpTake p k = (s.rxLeave p g).ptpReceive p m := by
  unfold State.ptpTake
  rw [tsvTake_waits hw (State.ptpOn_tsvOn hon), hm]

/-- An accepted message is handled by its kind. -/
theorem ptpTake_accepted {p : Fin 8} {k : TsvKind} {g : RxFrame} {m : PtpIn} (h : Accepted s p k g m) :
    s.ptpTake p k = (s.rxLeave p g).ptpHandle p m := by
  obtain ⟨hw, hm, hon, hid, hmatch, hauth⟩ := h
  rw [ptpTake_waits hw hm hon]
  obtain ⟨E, hE, -, -, -⟩ := s.rxLeave_only p g
  rw [hE]
  have h1 : ({ s with eth := E } : State).ptpOn p = true := hon
  have h2 : m.srcId ≠ ({ s with eth := E } : State).inForce .TSV_CLOCKID := hid
  have h3 : ({ s with eth := E } : State).ptpMatches p m = true := hmatch
  have h4 : ({ s with eth := E } : State).authCheck p m = (true, { s with eth := E }) := by
    rw [State.authCheck, if_pos]
    show ¬ s.on .PTP_AUTH 31 p = true
    simp [hauth]
  unfold State.ptpReceive
  rw [if_neg (not_not_intro h1), if_neg h2, if_neg (not_not_intro h3)]
  dsimp only
  rw [h4, if_pos rfl]

theorem ptpMessageReceive_rejected (p : Fin 8) {g : RxFrame} {m : PtpIn} (hw : Waits s p .ptp g) (hm : ptpIn g = some m) (hon : s.ptpOn p = true)
    (hid : m.srcId ≠ s.inForce .TSV_CLOCKID) (hmatch : s.ptpMatches p m = false) : Completes (.ptpMessageReceive p ()) s (fun t =>
      t.tsv = s.tsv ∧ (t.ep p).rx = (s.ep p).rx.erase g ∧
        bits (t.hwOf .PTP_DISC p) 31 16 = min 65535 (bits (s.hwOf .PTP_DISC p) 31 16 + 1)) := by
  obtain ⟨E, hE, hrx, -, -⟩ := s.rxLeave_only p g
  have hdo : s.ptpTake p .ptp = (s.rxLeave p g).bump .PTP_DISC 31 16 1 p := by
    rw [ptpTake_waits hw hm hon, hE]
    have h1 : ({ s with eth := E } : State).ptpOn p = true := hon
    have h2 : m.srcId ≠ ({ s with eth := E } : State).inForce .TSV_CLOCKID := hid
    have h3 : ({ s with eth := E } : State).ptpMatches p m = false := hmatch
    rw [State.ptpReceive, if_neg (not_not_intro h1), if_neg h2, if_pos (by simp [h3])]
  refine .of_next (u := (s.rxLeave p g).bump .PTP_DISC 31 16 1 p) (congrArg Host.Outcome.next hdo) ⟨?_, ?_, ?_⟩
  · rw [State.bump_tsv, hE]
  · rw [ep_of_eth (State.bump_eth ..), hrx]
  · rw [State.bump_hwOf, hE]
    rfl

/-! ### Announce (R222) -/

/-- What a decision of state keeps of TSV: the foreign masters of the instances and the lock of the Gauge. -/
structure Decided (s t : State) : Prop where
  foreign : ∀ q, (t.inst q).foreign = (s.inst q).foreign
  lock : t.tsv.lock = s.tsv.lock

theorem Decided.refl (s : State) : Decided s s := ⟨fun _ => rfl, rfl⟩

theorem Decided.of_tsv (h : Decided s t) (hu : u.tsv = t.tsv) : Decided s u :=
  ⟨fun q => (congrArg PtpI.foreign (inst_of_tsv hu q)).trans (h.foreign q), (congrArg Tsv.lock hu).trans h.lock⟩

theorem Decided.setInst (h : Decided s t) {x : PtpI} (hx : x.foreign = (t.inst p).foreign) : Decided s (t.setInst p x) := by
  refine ⟨fun q => ?_, h.lock⟩
  by_cases hq : q = p
  · subst hq
    rw [State.setInst_inst, hx, h.foreign]
  · exact (congrArg PtpI.foreign (Tab.get_set_ne _ _ _ hq)).trans (h.foreign q)

theorem Decided.ite {c : Prop} {_ : Decidable c} (ht : Decided s t) (hu : Decided s u) : Decided s (if c then t else u) := by
  split
  · exact ht
  · exact hu

theorem Decided.foldl {α : Type} {f : State → α → State} {l : List α} (h : Decided s t) (hf : ∀ v a, Decided s v → Decided s (f v a)) :
    Decided s (l.foldl f t) :=
  List.foldlRecOn (motive := Decided s) l f h fun v hv a _ => hf v a hv

theorem Decided.sendUc (h : Decided s t) {id port : Nat} {to_ : Bool × Nat} {tlv : List Byte} : Decided s (t.sendUc p id port to_ tlv) := by
  unfold State.sendUc
  dsimp only
  obtain ⟨l, hl⟩ := t.nextSeq_only p .signaling (destKey id port to_.1 to_.2)
  refine Decided.of_tsv ?_ (State.sendPtp_tsv ..)
  rw [hl]
  exact (h.setInst (p := p) (x := (t.inst p).used .signaling (destKey id port to_.1 to_.2)) rfl).of_tsv rfl

theorem Decided.cancelAll (h : Decided s t) : Decided s (t.cancelAll p) := by
  unfold State.cancelAll
  have h1 := Decided.foldl (l := t.tsv.sess.filter fun e => e.2.port = p) (f := fun t e =>
    e.2.kinds.foldl (fun u k => u.sendUc p e.2.id e.2.idPort (e.2.v6, e.2.addr) (cancelTlv (grantType k * 16))) t) h
    fun v a hv => hv.foldl fun w k hw => hw.sendUc
  exact ⟨h1.foreign, h1.lock⟩

theorem State.tsvSay_tsv (s : State) (type p : Nat) (pay : List Word) : (s.tsvSay type p pay).tsv = s.tsv := by
  unfold State.tsvSay
  dsimp only
  split
  · exact State.bump_tsv ..
  · exact State.deliver_tsv ..

theorem Reacts.tsv_eq {μ ρ : Prop} (h : Reacts μ ρ s t) : t.tsv = s.tsv := by
  obtain ⟨_, _, _, _, _, _, _, _, _, _, _, _, _, _, _, _, _, _, _, _, _, _, _, rfl⟩ := h.keeps
  rfl

theorem State.parentChange_tsv (s : State) (p st : Nat) (f : Option Foreign) : (s.parentChange p st f).tsv = s.tsv := by
  have hr := (Reacts.refl (μ := False) (ρ := False) (s₀ := (s.recEvent 0x20 p).tsvSay 0x43 p (parentWords st f))).external
    (k := 10 + p) (link := true) (on := true)
  exact (hr.ethCheck (p := p)).tsv_eq.trans ((State.tsvSay_tsv ..).trans (State.recEvent_tsv ..))

theorem Decided.decideInst (h : Decided s t) (p : Nat) : Decided s (t.decideInst p) := by
  unfold State.decideInst
  extract_lets st x f parent gm s1 s2
  have h1 : Decided s s1 := h.setInst rfl
  have h2 : Decided s s2 := .ite h1.cancelAll h1
  exact .ite h2 (h2.of_tsv (State.parentChange_tsv ..))

theorem ptpMessageReceive_announce (p : Fin 8) {g : RxFrame} {m : PtpIn} (h : Accepted s p .ptp g m) (hk : m.kind = some .announce) :
    Completes (.ptpMessageReceive p ()) s (fun t =>
      ∃ f ∈ (t.inst p).foreign, f.id = m.srcId ∧ f.port = m.srcPort ∧ f.ds = m.dataset ∧ f.seen.head? = some s.gau.l) := by
  have hdo : s.ptpTake p .ptp = (s.rxLeave p g).takeAnn p m := by
    rw [ptpTake_accepted h, State.ptpHandle, hk]
  refine .of_next (u := (s.rxLeave p g).takeAnn p m) (congrArg Host.Outcome.next hdo) ?_
  obtain ⟨E, hE, -, -, -⟩ := s.rxLeave_only p g
  rw [hE]
  unfold State.takeAnn
  dsimp only
  rw [((Decided.refl _).decideInst p).foreign, State.setInst_inst]
  exact ⟨_, List.mem_append_right _ List.mem_cons_self, rfl, rfl, rfl, rfl⟩

/-! ### Sync (R228) -/

theorem ptpMessageReceive_sync (p : Fin 8) {g : RxFrame} {m : PtpIn} (h : Accepted s p .ptp g m) (hk : m.kind = some .sync)
    (hst : (s.inst p).st = 3) (hpar : (s.inst p).parent = some (m.srcId, m.srcPort)) :
    s.ptpTake p .ptp = if m.twoStep then
        (s.rxLeave p g).setInst p { s.inst p with wait := some ⟨m.srcId, m.srcPort, m.seqId, m.corr, m.f.ev, m.f.stamp⟩ }
      else (((s.rxLeave p g).setInst p { s.inst p with wait := none }).syncObs p m.f.ev m.sec m.ns m.corr).tsvSay 0x40 p
        (syncWords m.seqId m.sec m.ns m.corr 0 m.f.stamp) := by
  rw [ptpTake_accepted h, State.ptpHandle, hk]
  obtain ⟨E, hE, -, -, -⟩ := s.rxLeave_only p g
  rw [hE]
  have h1 : (({ s with eth := E } : State).inst p).st = 3 ∧ (({ s with eth := E } : State).inst p).parent = some (m.srcId, m.srcPort) :=
    ⟨hst, hpar⟩
  exact if_pos h1

theorem ptpIn_f {g : RxFrame} {m : PtpIn} (h : ptpIn g = some m) : m.f = g := by
  unfold ptpIn at h
  dsimp only at h
  split at h
  · exact Option.some.inj h ▸ rfl
  · split at h
    · split at h
      · exact Option.some.inj h ▸ rfl
      · exact absurd h (by simp)
    · exact absurd h (by simp)

theorem ptpMessageReceive_oneStep (p : Fin 8) {g : RxFrame} {m : PtpIn} (h : Accepted s p .ptp g m) (hk : m.kind = some .sync)
    (hst : (s.inst p).st = 3) (hpar : (s.inst p).parent = some (m.srcId, m.srcPort)) (h2 : m.twoStep = false) {n : Nat}
    {u : State} (hu : ((s.rxLeave p g).setInst p { s.inst p with wait := none }).syncObs p g.ev m.sec m.ns m.corr = u)
    {one : Msg} (hone : (⟨0x40, p, syncWords m.seqId m.sec m.ns m.corr 0 g.stamp⟩ : Msg) = one) (hn : u.fl .TSV_CTL 27 24 = n)
    (hl : u.listens n = true) (hr : u.room n 4 one = true) : Completes (.ptpMessageReceive p ()) s (fun t =>
      (t.sq n).inbox.get 4 [] = (u.sq n).inbox.get 4 [] ++ [one]) := by
  have hf := ptpIn_f h.2.1
  have hdo : s.ptpTake p .ptp = u.deliver n 4 one := by
    rw [ptpMessageReceive_sync p h hk hst hpar, h2, if_neg (by decide), hf, hu, State.tsvSay, hn, hone, if_neg (by simp [hr])]
  exact .of_next (u := u.deliver n 4 one) (congrArg Host.Outcome.next hdo) (State.deliver_inbox 4 one hl)

theorem ptpMessageReceive_twoStep (p : Fin 8) {g : RxFrame} {m : PtpIn} (h : Accepted s p .ptp g m) (hk : m.kind = some .sync)
    (hst : (s.inst p).st = 3) (hpar : (s.inst p).parent = some (m.srcId, m.srcPort)) (h2 : m.twoStep = true) :
    Completes (.ptpMessageReceive p ()) s (fun t =>
      (t.inst p).wait = some ⟨m.srcId, m.srcPort, m.seqId, m.corr, g.ev, g.stamp⟩) := by
  refine .of_next (u := (s.rxLeave p g).setInst p { s.inst p with wait := some ⟨m.srcId, m.srcPort, m.seqId, m.corr, g.ev, g.stamp⟩ }) ?_ ?_
  · refine congrArg Host.Outcome.next ?_
    rw [ptpMessageReceive_sync p h hk hst hpar, if_pos h2, ptpIn_f h.2.1]
  · rw [State.setInst_inst]

/-! ### Answers (R226) -/

/-- Of port p, `t` is what the answer `k` to message `m` leaves. -/
def State.Answers (s : State) (p : Nat) (m : PtpIn) (k : PtpKind) (t : State) : Prop :=
  ∃ h q, (t.ep p).txq = (s.ep p).txq ++ [h] ∧ h.pay = .ptp q ∧ q.kind = k ∧ q.seqId = m.seqId ∧ q.forId = m.srcId ∧ q.forPort = m.srcPort

/-- A taken frame, and one more answer counted: the port sends as before. -/
theorem State.rxLeave_open (h : s.Open p) (g : RxFrame) (x : PtpI) : ((s.rxLeave p g).setInst p x).Open p := by
  obtain ⟨E, hE, -, -, hlink⟩ := s.rxLeave_only p g
  obtain ⟨h1, h2, h3⟩ := h
  refine ⟨hlink.trans h1, ?_, ?_⟩
  · rw [hE]
    exact h2
  · rw [hE]
    exact h3

theorem State.answers_sendPtp (h : s.Open p) (g : RxFrame) (x : PtpI) {m : PtpIn} {q : PtpOut}
    (hst : s.standby = false ∨ q.kind = .pdelayResp) (hid : q.seqId = m.seqId) (hfor : q.forId = m.srcId) (hport : q.forPort = m.srcPort) :
    s.Answers p m q.kind (((s.rxLeave p g).setInst p x).sendPtp p q) := by
  obtain ⟨E, hE, -, htx, -⟩ := s.rxLeave_only p g
  have hst' : ((s.rxLeave p g).setInst p x).standby = false ∨ q.kind = .pdelayResp := by
    rw [hE]
    exact hst
  rw [State.sendPtp_open (State.rxLeave_open h g x) hst']
  refine ⟨((s.rxLeave p g).setInst p x).ptpFrame p q, q, ?_, rfl, rfl, hid, hfor, hport⟩
  rw [State.setEp_ep]
  exact congrArg (· ++ [_]) htx

theorem State.rxLeave_answer (g : RxFrame) (ha : (s.inst p).answered < 16384) :
    (s.rxLeave p g).answer p = some ((s.rxLeave p g).setInst p { s.inst p with answered := (s.inst p).answered + 1 }) := by
  obtain ⟨E, hE, -, -, -⟩ := s.rxLeave_only p g
  rw [hE]
  exact if_pos ha

theorem ptpMessageReceive_delayReq (p : Fin 8) {g : RxFrame} {m : PtpIn} (h : Accepted s p .ptp g m) (ho : s.Open p)
    (ha : (s.inst p).answered < 16384) (hk : m.kind = some .delayReq) (hm : s.masterOn p = true) (hpr : s.profile p ≠ 3) (huc : m.uc = false)
    (hon : s.on .PTP_CFG 24 p = true) : Completes (.ptpMessageReceive p ()) s (s.Answers p m .delayResp) := by
  have hdo : s.ptpTake p .ptp = (s.rxLeave p g).sendDresp p m none ((s.rxLeave p g).logOf p 2) := by
    rw [ptpTake_accepted h, State.ptpHandle, hk]
    obtain ⟨E, hE, -, -, -⟩ := s.rxLeave_only p g
    rw [hE]
    have h1 : ({ s with eth := E } : State).masterOn p = true ∧ ({ s with eth := E } : State).profile p ≠ 3 := ⟨hm, hpr⟩
    have h2 : ({ s with eth := E } : State).on .PTP_CFG 24 p = true := hon
    dsimp only
    rw [State.takeDreq, if_pos h1, huc, if_neg (by decide), if_pos h2]
  refine .of_next (u := (s.rxLeave p g).sendDresp p m none ((s.rxLeave p g).logOf p 2)) (congrArg Host.Outcome.next hdo) ?_
  unfold State.sendDresp
  rw [State.rxLeave_answer g ha]
  dsimp only
  unfold State.Answers
  rw [ep_of_eth (State.pmcTsv_eth ..)]
  exact State.answers_sendPtp ho g _ (.inl (State.masterOn_standby hm)) rfl rfl rfl

theorem ptpMessageReceive_pdelayReq (p : Fin 8) {g : RxFrame} {m : PtpIn} (h : Accepted s p .ptp g m) (ho : s.Open p)
    (ha : (s.inst p).answered < 16384) (hk : m.kind = some .pdelayReq) (hpr : s.profile p = 3) :
    Completes (.ptpMessageReceive p ()) s (s.Answers p m .pdelayResp) := by
  have hdo : s.ptpTake p .ptp = (s.rxLeave p g).takePdreq p m := by
    rw [ptpTake_accepted h, State.ptpHandle, hk]
  refine .of_next (u := (s.rxLeave p g).takePdreq p m) (congrArg Host.Outcome.next hdo) ?_
  have hpr' : (s.rxLeave p g).profile p = 3 := by
    obtain ⟨E, hE, -, -, -⟩ := s.rxLeave_only p g
    rw [hE]
    exact hpr
  unfold State.takePdreq
  rw [if_pos hpr', State.rxLeave_answer g ha]
  dsimp only
  exact State.answers_sendPtp ho g _ (.inr rfl) rfl rfl rfl

/-! ### The second and the loss of a foreign master (R222, R236) -/

theorem ptpSecond_spec (p : Fin 8) (hat : s.atSec = true) (hf : s.fresh 0x25 = true) (hon : s.tsvOn = true) : Completes .ptpSecond s (fun t =>
    (t.inst p).answered = 0 ∧ (s.gau.st = .locked → t.tsv.lock = s.gns)) := by
  refine .of_if rfl ⟨hat, hf⟩ ?_
  dsimp only
  rw [if_pos hon]
  generalize hs1 : ({ s.fire 0x25 with
    tsv := { (s.fire 0x25).tsv with lock := if s.gau.st = .locked then s.gns else (s.fire 0x25).tsv.lock } } : State) = s1
  have hlock : s.gau.st = .locked → s1.tsv.lock = s.gns := fun hl => by
    rw [← hs1]
    exact if_pos hl
  have hdec : Decided s1 s1.decideAll := (Decided.refl s1).foldl fun v a hv => hv.decideInst a
  refine ⟨?_, fun hl => ?_⟩
  · generalize s1.decideAll = v
    obtain ⟨l1, l2, hl⟩ := List.append_of_mem (List.mem_range.2 p.isLt)
    have hnd : (List.range 8).Nodup := List.nodup_range
    rw [hl] at hnd ⊢
    have hp2 : p.val ∉ l2 := (List.nodup_cons.1 (List.nodup_append.1 hnd).2.1).1
    rw [List.foldl_append, List.foldl_cons]
    refine List.foldlRecOn (motive := fun t : State => (t.inst p).answered = 0) l2 _ ?_ fun t ht q hq => ?_
    · rw [State.setInst_inst]
    · exact (congrArg PtpI.answered (Tab.get_set_ne _ _ _ (ne_of_mem_of_not_mem hq hp2).symm)).trans ht
  · exact List.foldlRecOn (motive := fun t : State => t.tsv.lock = s.gns) (List.range 8) _ (hdec.lock.trans (hlock hl)) fun _ ht _ _ => ht

theorem foreignMasterTimeout_spec (s : State) (p : Fin 8) (clockId : DWord) (portNo : Half) : Completes (.foreignMasterTimeout p clockId portNo) s
    (fun t => ∀ f, f ∈ (t.inst p).foreign ↔
      f ∈ (s.inst p).foreign ∧ ¬ (f.id = clockId.toNat ∧ f.port = portNo.toNat ∧ f.seen.headD 0 + 3 * f.per ≤ s.gau.l)) := by
  refine ⟨_, rfl, fun f => ?_⟩
  rw [State.setInst_inst]
  rw [List.mem_filter, decide_eq_true_eq]

/-- Settles O38: a received message by its kind, the second and a timeout, one lemma each. -/
theorem ptpReceiveCompletes : Obligations.PtpReceiveCompletes := by
  intro p g m clockId portNo s x n taken u one open_ answers
  have hopen (h : open_) : s.Open p := ⟨h.1, h.2.1, h.2.2.1⟩
  exact ⟨ptpMessageReceive_rejected p, ptpMessageReceive_announce p,
    fun h hk hst hpar h2 hn hl hr => ptpMessageReceive_oneStep p h hk hst hpar h2 rfl rfl hn hl hr,
    ptpMessageReceive_twoStep p,
    fun h ho hk hm hpr huc hon => ptpMessageReceive_delayReq p h (hopen ho) ho.2.2.2 hk hm hpr huc hon,
    fun h ho hk hpr => ptpMessageReceive_pdelayReq p h (hopen ho) ho.2.2.2 hk hpr, ptpSecond_spec p,
    foreignMasterTimeout_spec s p clockId portNo⟩

end Sys2Proof.Machine
end

section
/-! Unicast negotiation, NTP and NTS, minting and the rotation of the master keys (R229 to R231, R235 to R240). -/

namespace Sys2Proof.Machine

set_option Elab.async false

variable {s t u v : State} {p : Nat}

/-! ### Unicast negotiation: the sessions (R229, R230) -/

theorem State.sendUc_sess (s : State) (p id port : Nat) (to_ : Bool × Nat) (tlv : List Byte) : (s.sendUc p id port to_ tlv).tsv.sess = s.tsv.sess :=
  State.sendPtp_sess ..

theorem sess_of_sess (h : t.tsv.sess = s.tsv.sess) (n : Nat) : t.sess n = s.sess n := by rw [State.sess, h, State.sess]

theorem Session.grant_setGrant (x : Session) (k : GrantKind) (g : Option Grant) : (x.setGrant k g).grant k = g := by
  cases k <;> rfl

theorem Session.setGrant_some (x : Session) (k : GrantKind) (g : Grant) :
    ((x.setGrant k (some g)).ann.isNone && (x.setGrant k (some g)).sync.isNone && (x.setGrant k (some g)).dresp.isNone) = false := by
  cases k <;> simp [Session.setGrant]

/-- An entry whose last grant has ended is freed. -/
theorem State.putSess_freed (s : State) (n : Nat) {x : Session} (hx : (x.ann.isNone && x.sync.isNone && x.dresp.isNone) = true) :
    (s.putSess n x).sess n = none := by
  have hput : (s.putSess n x).tsv.sess = s.tsv.sess.filter (fun e => e.1 ≠ n) := by
    unfold State.putSess
    dsimp only
    rw [hx]
    obtain ⟨l, hl⟩ := ({ s with tsv := { s.tsv with sess := s.tsv.sess.filter (fun e => e.1 ≠ n) } } : State).twinSay_only (.twinSession n none)
    exact (congrArg (fun t : State => t.tsv.sess) hl).trans rfl
  have hfind : (s.tsv.sess.filter (fun e => e.1 ≠ n)).find? (fun e => e.1 == n) = none :=
    List.find?_eq_none.2 fun e he => by simpa using (List.mem_filter.1 he).2
  rw [State.sess, hput, hfind]
  rfl

/-- A grant that ends is in its entry no more. -/
theorem State.putSess_ended (s : State) (n : Nat) (x : Session) (k : GrantKind) {y : Session} (hy : (s.putSess n (x.setGrant k none)).sess n = some y) :
    y.grant k = none := by
  by_cases hx : ((x.setGrant k none).ann.isNone && (x.setGrant k none).sync.isNone && (x.setGrant k none).dresp.isNone) = true
  · rw [State.putSess_freed s n hx] at hy
    exact absurd hy (by simp)
  · rw [State.putSess_sess s n (Bool.eq_false_of_not_eq_true hx)] at hy
    rw [← Option.some.inj hy, Session.grant_setGrant]

theorem grantExpiry_spec (e : Fin 4096) {k : GrantKind} {x : Session} {g : Grant} (hx : s.sess e = some x) (hg : x.grant k = some g)
    (hd : g.until_ ≤ s.gau.l) : Completes (.grantExpiry e k) s (fun v => ∀ y, v.sess e = some y → y.grant k = none) := by
  refine .of_next (u := s.putSess e (x.setGrant k none)) ?_ fun y hy => s.putSess_ended e x k hy
  show execGrantExpiry e k s = _
  simp only [execGrantExpiry, hx, hg, hd, if_true]

/-- An accepted Signaling message with one TLV is that TLV's operation. -/
theorem ptpTake_tlv {p : Fin 8} {k : TsvKind} {f : RxFrame} {m : PtpIn} (h : Accepted s p k f m) (hk : m.kind = some .signaling)
    {x : Nat × List Byte} (ht : m.tlvs = [x]) : s.ptpTake p k = State.ucOp p m (s.rxLeave p f) x := by
  rw [ptpTake_accepted h, State.ptpHandle, hk]
  dsimp only
  rw [ht, List.foldl_cons, List.foldl_nil]

/-- A master with unicast negotiation handles its TLVs. -/
theorem rxLeave_negotiates {p : Fin 8} (f : RxFrame) (hon : s.on .PTP_CFG 23 p = true) (hm : s.masterOn p = true) :
    ¬ (¬ (s.rxLeave p f).on .PTP_CFG 23 p = true ∨ (s.rxLeave p f).standby = true) := by
  have hsb := State.masterOn_standby hm
  obtain ⟨E, hE, -, -, -⟩ := s.rxLeave_only p f
  rw [hE]
  show ¬ (¬ s.on .PTP_CFG 23 p = true ∨ s.standby = true)
  simp [hon, hsb]

theorem ucOp_request {m : PtpIn} {t : List Byte} (h : ¬ (¬ v.on .PTP_CFG 23 p = true ∨ v.standby = true)) :
    State.ucOp p m v (4, t) = v.ucRequestOp p m t := if_neg h

theorem ucOp_cancel {m : PtpIn} {t : List Byte} (h : ¬ (¬ v.on .PTP_CFG 23 p = true ∨ v.standby = true)) :
    State.ucOp p m v (6, t) = v.ucCancelOp p m t := if_neg h

/-- A request of a master for a type it gives takes the lowest free entry. -/
theorem ucRequestOp_given {k : GrantKind} {m : PtpIn} {t : List Byte} {e : Nat} (hg : grantOf (fb t 0) = some k) (hm : v.masterOn p = true)
    (hlog : v.minLog k ≤ sext 8 (fb t 1)) (hent : v.findSess p m.srcId m.srcPort m.v6 m.addr = none) (hfree : v.freeSess = some e) :
    v.ucRequestOp p m t = v.giveGrant p e ⟨p, m.srcId, m.srcPort, m.v6, m.addr, none, none, none⟩ k t := by
  have h1 : ¬ (¬ v.masterOn p = true ∨ sext 8 (fb t 1) < v.minLog k) := by simp [hm, hlog]
  simp only [State.ucRequestOp, hg, h1, hent, hfree, if_false]

/-- A CANCEL of a grant ends it and is acknowledged. -/
theorem ucCancelOp_known {k : GrantKind} {m : PtpIn} {t : List Byte} {e : Nat} {x : Session} (hg : grantOf (fb t 0) = some k)
    (hm : v.masterOn p = true) (hent : v.findSess p m.srcId m.srcPort m.v6 m.addr = some e) (hx : v.sess e = some x) :
    v.ucCancelOp p m t = (v.putSess e (x.setGrant k none)).sendUc p m.srcId m.srcPort (m.v6, m.addr) (ackTlv (fb t 0)) := by
  simp only [State.ucCancelOp, hg, hm, hent, hx, if_true]

theorem unicastRequest_spec (p : Fin 8) (e : Fin 4096) {k : GrantKind} {f : RxFrame} {m : PtpIn} {t : List Byte} (h : Accepted s p .request f m)
    (hon : s.on .PTP_CFG 23 p = true) (hm : s.masterOn p = true) (hk : m.kind = some .signaling) (hg : grantOf (fb t 0) = some k)
    (ht : m.tlvs = [(4, t)]) (hlog : s.minLog k ≤ sext 8 (fb t 1)) (hent : s.findSess p m.srcId m.srcPort m.v6 m.addr = none)
    (hfree : s.freeSess = some e.val) : Completes (.unicastRequest p ()) s (fun v => ∃ y, v.sess e = some y ∧ y.port = p.val ∧
      y.id = m.srcId ∧ y.grant k = some ⟨fb t 1, none, s.gau.l + min (fn t 2 4) (s.fl .TSV_UC_DUR 15 0) * 10 ^ 9⟩) := by
  have hdo : s.ptpTake p .request = (s.rxLeave p f).giveGrant p e ⟨p, m.srcId, m.srcPort, m.v6, m.addr, none, none, none⟩ k t := by
    rw [ptpTake_tlv h hk ht, ucOp_request (rxLeave_negotiates f hon hm)]
    obtain ⟨E, hE, -, -, -⟩ := s.rxLeave_only p f
    refine ucRequestOp_given hg ?_ ?_ ?_ ?_
    · rw [hE]
      exact hm
    · rw [hE]
      exact hlog
    · rw [hE]
      exact hent
    · rw [hE]
      exact hfree
  refine .of_next (u := (s.rxLeave p f).giveGrant p e ⟨p, m.srcId, m.srcPort, m.v6, m.addr, none, none, none⟩ k t)
    (congrArg Host.Outcome.next hdo) ?_
  obtain ⟨E, hE, -, -, -⟩ := s.rxLeave_only p f
  rw [hE]
  let x : Session := ⟨p, m.srcId, m.srcPort, m.v6, m.addr, none, none, none⟩
  let g : Grant := ⟨fb t 1, none, s.gau.l + min (fn t 2 4) (s.fl .TSV_UC_DUR 15 0) * 10 ^ 9⟩
  have hnone : x.grant k = none := by cases k <;> rfl
  refine ⟨x.setGrant k (some g), ?_, by cases k <;> rfl, by cases k <;> rfl, x.grant_setGrant k _⟩
  unfold State.giveGrant
  rw [sess_of_sess (State.sendUc_sess ..), show (⟨p, m.srcId, m.srcPort, m.v6, m.addr, none, none, none⟩ : Session).grant k = none from hnone]
  exact State.putSess_sess _ e (x.setGrant_some k g)

theorem unicastCancel_spec (p : Fin 8) (e : Fin 4096) {k : GrantKind} {f : RxFrame} {m : PtpIn} {t : List Byte} {x : Session}
    (h : Accepted s p .cancel f m) (hon : s.on .PTP_CFG 23 p = true) (hm : s.masterOn p = true) (hk : m.kind = some .signaling)
    (hg : grantOf (fb t 0) = some k) (ht : m.tlvs = [(6, t)]) (hx : s.sess e = some x)
    (hent : s.findSess p m.srcId m.srcPort m.v6 m.addr = some e.val) :
    Completes (.unicastCancel p ()) s (fun v => ∀ y, v.sess e = some y → y.grant k = none) := by
  have hdo : s.ptpTake p .cancel = ((s.rxLeave p f).putSess e (x.setGrant k none)).sendUc p m.srcId m.srcPort (m.v6, m.addr) (ackTlv (fb t 0)) := by
    rw [ptpTake_tlv h hk ht, ucOp_cancel (rxLeave_negotiates f hon hm)]
    obtain ⟨E, hE, -, -, -⟩ := s.rxLeave_only p f
    refine ucCancelOp_known hg ?_ ?_ ?_
    · rw [hE]
      exact hm
    · rw [hE]
      exact hent
    · rw [hE]
      exact hx
  refine .of_next (u := ((s.rxLeave p f).putSess e (x.setGrant k none)).sendUc p m.srcId m.srcPort (m.v6, m.addr) (ackTlv (fb t 0)))
    (congrArg Host.Outcome.next hdo) fun y hy => ?_
  rw [sess_of_sess (State.sendUc_sess ..)] at hy
  exact (s.rxLeave p f).putSess_ended e x k hy

/-! ### As client (R231) -/

theorem State.sendUc_clients (s : State) (p id port : Nat) (to_ : Bool × Nat) (tlv : List Byte) :
    ((s.sendUc p id port to_ tlv).inst p).clients = (s.inst p).clients := by
  unfold State.sendUc
  dsimp only
  obtain ⟨l, hl⟩ := s.nextSeq_only p .signaling (destKey id port to_.1 to_.2)
  rw [inst_of_tsv (State.sendPtp_tsv ..), hl]
  show ((s.setInst p ((s.inst p).used .signaling (destKey id port to_.1 to_.2))).inst p).clients = _
  rw [State.setInst_inst]
  rfl

theorem State.ask_clientOf (s : State) (p w : Nat) (k : GrantKind) (held : Bool) :
    (s.ask p w k held).clientOf p w k = some ⟨w, k, held, false, s.gau.l, s.fl .TSV_UC_DUR 15 0⟩ := by
  unfold State.ask State.clientOf
  rw [State.sendUc_clients]
  unfold State.setClient
  rw [State.setInst_inst]
  dsimp only
  rw [List.find?_append]
  have hnone : ((s.inst p).clients.filter fun c => ¬ (c.u = w ∧ c.kind = k)).find? (fun c => decide (c.u = w ∧ c.kind = k)) = none :=
    List.find?_eq_none.2 fun c hc => by
      rw [decide_eq_true_eq]
      exact of_decide_eq_true (List.mem_filter.1 hc).2
  rw [hnone]
  simp

theorem unicastRenew_first (p : Fin 8) (w : Fin 4) {k : GrantKind} (hm : s.mayAsk p w k = true) (hc : s.clientOf p w k = none) :
    Completes (.unicastRenew p w k) s
      (fun t => t.clientOf p w k = some ⟨w, k, false, false, s.gau.l, s.fl .TSV_UC_DUR 15 0⟩) := by
  refine .of_next (u := s.ask p w k false) ?_ (s.ask_clientOf p w k false)
  show execUnicastRenew p w k s = _
  simp only [execUnicastRenew, hc, hm, if_true]

theorem unicastRenew_again (p : Fin 8) (w : Fin 4) {k : GrantKind} {cg : ClientGrant} (hm : s.mayAsk p w k = true)
    (hc : s.clientOf p w k = some cg) (hh : cg.held = true) (hd : cg.at_ + cg.dur * 500000000 ≤ s.gau.l) : Completes (.unicastRenew p w k) s
      (fun t => t.clientOf p w k = some ⟨w, k, true, false, s.gau.l, s.fl .TSV_UC_DUR 15 0⟩) := by
  refine .of_next (u := s.ask p w k true) ?_ (s.ask_clientOf p w k true)
  show execUnicastRenew p w k s = _
  simp only [execUnicastRenew, hc, hm, hh, hd, not_true_eq_false, if_false, and_self, if_true]

theorem unicastRetry_spec (p : Fin 8) (w : Fin 4) {k : GrantKind} {cg : ClientGrant} (hm : s.mayAsk p w k = true)
    (hc : s.clientOf p w k = some cg) (hh : cg.denied = true) (hd : cg.at_ + logNs (s.logOf p 1) ≤ s.gau.l) : Completes (.unicastRetry p w k) s
      (fun t => t.clientOf p w k = some ⟨w, k, false, false, s.gau.l, s.fl .TSV_UC_DUR 15 0⟩) := by
  refine .of_if rfl ⟨hm, ?_⟩ (s.ask_clientOf p w k false)
  rw [hc]
  simp [hh, hd]

/-! ### NTP (R235, R236) -/

theorem State.pmcTsv_hw (s : State) (ev k : Nat) : (s.pmcTsv ev k).hw = s.hw := State.pmcEv_hw ..

/-- `v` comes from `s` by the work of TSV on a frame it took: of port p only the receive queue and the port's own pauses move, and else the
time service, the free values and the counters of R354. -/
structure Served (p : Nat) (s v : State) : Prop where
  rest : ∃ T fr pm, v = { s with eth := v.eth, tsv := T, free := fr, pmc := pm }
  txq : (v.ep p).txq = (s.ep p).txq
  link : (v.ep p).link = (s.ep p).link

theorem Served.rxLeave (s : State) (p : Nat) (g : RxFrame) : Served p s (s.rxLeave p g) := by
  obtain ⟨E, hE, -, htx, hlink⟩ := s.rxLeave_only p g
  refine ⟨⟨s.tsv, s.free, s.pmc, ?_⟩, htx, hlink⟩
  rw [hE]

theorem Served.step (h : Served p s v) {T : Tsv} {fr : Nat} {pm : Pmc} : Served p s { v with tsv := T, free := fr, pmc := pm } := by
  obtain ⟨_, _, _, hv⟩ := h.rest
  refine ⟨⟨T, fr, pm, ?_⟩, h.txq, h.link⟩
  rw [hv]

theorem Served.pmcTsv (h : Served p s v) {ev k : Nat} : Served p s (v.pmcTsv ev k) := by
  obtain ⟨pm, hpm⟩ : ∃ pm, v.pmcTsv ev k = { v with pmc := pm } := State.pmcEv_only ..
  rw [hpm]
  exact h.step (T := v.tsv) (fr := v.free)

theorem Served.open_ (h : Served p s v) (ho : s.Open p) : v.Open p := by
  obtain ⟨T, fr, pm, hv⟩ := h.rest
  obtain ⟨h1, h2, h3⟩ := ho
  refine ⟨h.link.trans h1, ?_, ?_⟩
  · rw [hv]
    exact h2
  · rw [hv]
    exact h3

theorem Served.force (h : Served p s v) : v.force = s.force := by
  obtain ⟨T, fr, pm, hv⟩ := h.rest
  rw [hv]

theorem Served.hw (h : Served p s v) : v.hw = s.hw := by
  obtain ⟨T, fr, pm, hv⟩ := h.rest
  rw [hv]

theorem Served.ntpOn (h : Served p s v) : v.ntpOn = s.ntpOn := by
  obtain ⟨T, fr, pm, hv⟩ := h.rest
  rw [hv]
  rfl

theorem Served.relinq (h : Served p s v) : v.flt.relinq = s.flt.relinq := by
  obtain ⟨T, fr, pm, hv⟩ := h.rest
  rw [hv]

theorem Served.ntpTakes (h : Served p s v) (m : List Byte) : v.ntpTakes m = s.ntpTakes m := by
  obtain ⟨T, fr, pm, hv⟩ := h.rest
  rw [hv]
  rfl

/-- One more in counter `n`. -/
def State.Counts (s : State) (n : RegName) (t : State) : Prop := bits (t.hwOf n) 31 0 = min (2 ^ 32 - 1) (bits (s.hwOf n) 31 0 + 1)

/-- Of port p, `t` is what an NTP response to message `r` leaves. -/
def State.NtpAnswers (s : State) (p : Nat) (r uid : List Byte) (t : State) : Prop :=
  ∃ h o, (t.ep p).txq = (s.ep p).txq ++ [h] ∧ h.pay = .ntp o ∧ o.uid = uid ∧ o.version = fb r 0 / 8 % 8 ∧ o.origin = fn r 40 8

theorem ntpTakes_mayLaunch {r : List Byte} (h : s.ntpTakes r = true) (hr : s.flt.relinq = false) (o : NtpOut) : s.mayLaunch (.ntp o) = true := by
  show (!s.flt.relinq && (!s.standby || s.on .TSV_CTL 30)) = true
  rw [hr]
  exact (Bool.and_eq_true_iff.1 h).2

/-- A response that may leave goes to the end of the queue of its port. -/
theorem State.sendNtp_open (h : s.Open p) {o : NtpOut} (hm : s.mayLaunch (.ntp o) = true) :
    ∃ f, s.sendNtp p o = s.setEp p { s.ep p with txq := (s.ep p).txq ++ [f] } ∧ f.pay = .ntp o := by
  refine ⟨tsvFrame (s.fl .TSV_CTL 14 12) (.ntp o) (s.ntpLine o 0).length, ?_, rfl⟩
  rw [State.sendNtp, State.tsvSubmit]
  exact (if_pos hm).trans (if_pos ⟨h.1, h.2.1⟩)

/-- A response is counted and goes to the end of the queue of its port. -/
theorem Served.sendNtp (h : Served p s v) (ho : s.Open p) {r : List Byte} (ht : s.ntpTakes r = true) (n : RegName) (ev : Nat) {o : NtpOut}
    {uid : List Byte} (hu : o.uid = uid) (hver : o.version = fb r 0 / 8 % 8) (horg : o.origin = fn r 40 8) :
    s.Counts n (((v.bump n 31 0).pmcTsv ev).sendNtp p o) ∧ s.NtpAnswers p r uid (((v.bump n 31 0).pmcTsv ev).sendNtp p o) := by
  obtain ⟨pm, hpm⟩ : ∃ pm, (v.bump n 31 0).pmcTsv ev = { v.bump n 31 0 with pmc := pm } := State.pmcEv_only ..
  rw [hpm]
  have hm : ({ v.bump n 31 0 with pmc := pm } : State).mayLaunch (.ntp o) = true :=
    ntpTakes_mayLaunch (s := v) ((h.ntpTakes r).trans ht) (h.open_ ho).2.2 o
  have hopen : State.Open ({ v.bump n 31 0 with pmc := pm } : State) p := h.open_ ho
  obtain ⟨f, hsend, hpay⟩ := State.sendNtp_open hopen hm
  rw [hsend]
  refine ⟨?_, f, o, ?_, hpay, hu, hver, horg⟩
  · have hb : bits ((v.bump n 31 0).hwOf n) 31 0 = min (2 ^ 32 - 1) (bits (v.hwOf n) 31 0 + 1) := v.bump_hwOf n 31 0 1 0 0 0
    rw [hwOf_of_hw h.hw] at hb
    exact hb
  · rw [State.setEp_ep]
    exact congrArg (· ++ [f]) h.txq

theorem State.ntpOn_tsvOn (h : s.ntpOn = true) : s.tsvOn = true := (Bool.and_eq_true_iff.1 h).1

/-- A plain request that TSV takes. -/
def State.ntpTaken (s : State) (p : Nat) (f : RxFrame) : State :=
  { s.rxLeave p f with tsv := { (s.rxLeave p f).tsv with
    ntpAt := (if (s.rxLeave p f).tsv.ntpAt + 6 ≤ 6 * (s.rxLeave p f).gau.l then 6 * (s.rxLeave p f).gau.l else (s.rxLeave p f).tsv.ntpAt) + 250 } }

theorem ntpRequest_exec (p : Fin 8) {f : RxFrame} {r : List Byte} (hw : Waits s p .ntp f) (hr : ntpIn f = some r) (hon : s.ntpOn = true)
    (hat : s.tsv.ntpAt ≤ 6 * s.gau.l) : exec (.ntpRequest p ()) s = .next ((s.ntpTaken p f).ntpOp p f r) := by
  show execNtpRequest p () s = _
  rw [execNtpRequest, if_pos hat, tsvTake_waits hw (State.ntpOn_tsvOn hon), hr]
  rfl

theorem State.ntpTaken_served (s : State) (p : Nat) (f : RxFrame) : Served p s (s.ntpTaken p f) :=
  (Served.rxLeave s p f).step (fr := (s.rxLeave p f).free) (pm := (s.rxLeave p f).pmc)

theorem ntpOp_answers (h : Served p s v) (ho : s.Open p) {f : RxFrame} {r : List Byte} (hon : s.ntpOn = true) (ht : s.ntpTakes r = true)
    (h29 : s.on .TSV_NTP_CTL 29 = true) : s.Counts .TSV_NTP_RESP (v.ntpOp p f r) ∧ s.NtpAnswers p r [] (v.ntpOp p f r) := by
  have h1 : ¬ (¬ v.ntpOn = true ∨ v.flt.relinq = true) := by simp [h.ntpOn, hon, h.relinq, ho.2.2]
  have h2 : v.ntpTakes r = true ∧ v.on .TSV_NTP_CTL 29 = true := ⟨(h.ntpTakes r).trans ht, (on_of_force h.force ..).trans h29⟩
  rw [State.ntpOp, if_neg h1, if_pos h2]
  exact h.sendNtp ho ht .TSV_NTP_RESP 3 rfl rfl rfl

theorem ntpOp_dropped (h : Served p s v) {f : RxFrame} {r : List Byte} (hon : s.ntpOn = true) (hrel : s.flt.relinq = false)
    (ht : s.ntpTakes r = false) : s.Counts .TSV_NTP_DISC (v.ntpOp p f r) ∧ ((v.ntpOp p f r).ep p).txq = (s.ep p).txq := by
  have h1 : ¬ (¬ v.ntpOn = true ∨ v.flt.relinq = true) := by simp [h.ntpOn, hon, h.relinq, hrel]
  have h2 : ¬ (v.ntpTakes r = true ∧ v.on .TSV_NTP_CTL 29 = true) := fun ⟨hv, _⟩ => by simp [h.ntpTakes, ht] at hv
  rw [State.ntpOp, if_neg h1, if_neg h2, State.ntpDrop]
  refine ⟨?_, ?_⟩
  · have hb : bits ((v.bump .TSV_NTP_DISC 31 0).hwOf .TSV_NTP_DISC) 31 0 = _ := v.bump_hwOf .TSV_NTP_DISC 31 0 1 0 0 0
    rw [hwOf_of_hw h.hw] at hb
    rw [State.Counts, hwOf_of_hw (State.pmcTsv_hw ..)]
    exact hb
  · rw [ep_of_eth (State.pmcTsv_eth ..), ep_of_eth (State.bump_eth ..), h.txq]

/-! ### NTS (R237, R238) -/

theorem ntsRequest_exec (p : Fin 8) {f : RxFrame} {r : List Byte} (hw : Waits s p .nts f) (hr : ntpIn f = some r) (hon : s.ntpOn = true)
    (hrel : s.flt.relinq = false) (hat : s.tsv.ntsAt ≤ 6 * s.gau.l) (hl : 0 < s.ntsLanes) :
    exec (.ntsRequest p ()) s = .next ((s.rxLeave p f).ntsOp p f r) := by
  have hs := Served.rxLeave s p f
  show execNtsRequest p () s = _
  rw [execNtsRequest, if_pos ⟨hat, .inl hl⟩, tsvTake_waits hw (State.ntpOn_tsvOn hon), hr, if_neg (by simp [hs.ntpOn, hon, hs.relinq, hrel])]
  rfl

theorem Served.ntsBusy (h : Served p s v) (n : Nat) : Served p s (v.ntsBusy n) := h.step (fr := v.free) (pm := v.pmc)

theorem Served.makeCookies (h : Served p s v) (slot : Nat) (master keys : List Byte) (n : Nat) : Served p s (v.makeCookies slot master keys n).2 := by
  induction n generalizing v with
  | zero => exact h
  | succ n ih => exact ih (h.step (pm := v.pmc)).pmcTsv

/-- A key that a lane holds is taken from it. -/
theorem State.laneOp_held {lane slot use typ : Nat} (h : (s.key.lanes.any fun l => l.1 == lane && l.2 == (slot, (s.kslot slot).gen)) = true) :
    s.laneOp lane slot use typ = (some (s.kslot slot).cur.key, s) := by
  have hk : s.laneKey lane slot use typ = (some (s.kslot slot).cur.key, s) := by
    unfold State.laneKey
    exact if_pos h
  rw [State.laneOp, hk]
  dsimp only
  rw [if_pos rfl]

theorem ntsOp_nak (h : Served p s v) (ho : s.Open p) {f : RxFrame} {r : List Byte} {q : NtsIn} (ht : s.ntpTakes r = true)
    (h30 : s.on .TSV_NTP_CTL 30 = true) (hq : ntsIn r = some q) (hlen : q.cookie.length ≠ 104) :
    s.Counts .TSV_NTP_NAK (v.ntsOp p f r) ∧ s.NtpAnswers p r q.uid (v.ntsOp p f r) := by
  have hb := h.ntsBusy 1
  have h1 : ¬ (¬ (v.ntsBusy 1).ntpTakes r = true ∨ ¬ (v.ntsBusy 1).on .TSV_NTP_CTL 30 = true) := by
    simp [hb.ntpTakes, ht, on_of_force hb.force, h30]
  have hc : (v.ntsBusy 1).openCookie q.cookie = (none, v.ntsBusy 1) := if_neg fun h => hlen h.1
  unfold State.ntsOp
  rw [if_neg h1, hq]
  dsimp only
  rw [hc]
  exact hb.sendNtp ho ht .TSV_NTP_NAK 5 rfl rfl rfl

/-- The cookie opens under the master key in force, and its authenticator is right. -/
structure Opens (s : State) (slot : Nat) (r : List Byte) (q : NtsIn) (plain tail : List Byte) : Prop where
  length : q.cookie.length = 104
  cur : s.tsv.cur = some slot
  named : fb q.cookie 0 = slot
  gen : beNat (sub q.cookie 1 3) = (s.kslot slot).gen
  held : (s.key.lanes.any fun l => l.1 == s.ntsLane && l.2 == (slot, (s.kslot slot).gen)) = true
  opened : Config.sivOpen (s.kslot slot).cur.key (sub q.cookie 4 16) (q.cookie.take 4) (q.cookie.drop 20) = some plain
  aead : beNat (plain.take 2) = 15
  auth : Config.sivOpen (sub plain 4 32) (sub q.auth 4 (fh q.auth 0)) (r.take q.at_)
    (sub q.auth (4 + ceilDiv (fh q.auth 0) 4 * 4) (fh q.auth 2)) = some tail

theorem Served.openCookie (h : Served p s v) (hcur : v.tsv.cur = s.tsv.cur) {slot : Nat} {r plain tail : List Byte} {q : NtsIn}
    (ho : Opens s slot r q plain tail) : v.openCookie q.cookie = (some plain, v) := by
  obtain ⟨T, fr, pm, hv⟩ := h.rest
  have hk : v.kslot slot = s.kslot slot := by rw [hv]; rfl
  have hl : v.laneOp v.ntsLane slot 1 4 = (some (s.kslot slot).cur.key, v) := by
    rw [← hk]
    refine State.laneOp_held ?_
    rw [hk, show v.ntsLane = s.ntsLane by rw [hv]; rfl, show v.key = s.key by rw [hv]]
    exact ho.held
  unfold State.openCookie
  rw [ho.named]
  dsimp only
  rw [if_pos ⟨ho.length, .inl (hcur.trans ho.cur), ho.gen.trans (congrArg KeySlot.gen hk.symm)⟩, hl]
  dsimp only
  rw [ho.opened]
  dsimp only
  rw [if_pos ho.aead]

theorem Served.ntsReply (h : Served p s v) (ho : s.Open p) {f : RxFrame} {r uid plain : List Byte} (ht : s.ntpTakes r = true) {slot : Nat}
    (hcur : v.tsv.cur = some slot) (hheld : (s.key.lanes.any fun l => l.1 == s.ntsLane && l.2 == (slot, (s.kslot slot).gen)) = true) (n : Nat) :
    s.Counts .TSV_NTP_RESP (v.ntsReply p f r uid plain n) ∧ s.NtpAnswers p r uid (v.ntsReply p f r uid plain n) := by
  have hd : Served p s (v.draw 128).2 := h.step (T := v.tsv) (pm := v.pmc)
  have hl : (v.draw 128).2.laneOp v.ntsLane slot 1 4 = (some (s.kslot slot).cur.key, (v.draw 128).2) := by
    obtain ⟨T, fr, pm, hv⟩ := h.rest
    have hk : (v.draw 128).2.kslot slot = s.kslot slot := by rw [hv]; rfl
    rw [← hk]
    refine State.laneOp_held ?_
    rw [hk, show v.ntsLane = s.ntsLane by rw [hv]; rfl, show (v.draw 128).2.key = s.key by rw [hv]; rfl]
    exact hheld
  have hc : (v.draw 128).2.laneOp v.ntsLane (v.tsv.cur.getD 0) 1 4 = (some (s.kslot slot).cur.key, (v.draw 128).2) := by
    rw [hcur]
    exact hl
  unfold State.ntsReply
  dsimp only
  rw [hc, hcur]
  dsimp only
  exact (hd.makeCookies ..).sendNtp ho ht .TSV_NTP_RESP 4 rfl rfl rfl

theorem ntsOp_answers (h : Served p s v) (hcur : v.tsv.cur = s.tsv.cur) (ho : s.Open p) {f : RxFrame} {r plain tail : List Byte} {q : NtsIn}
    {slot : Nat} (ht : s.ntpTakes r = true) (h30 : s.on .TSV_NTP_CTL 30 = true) (hq : ntsIn r = some q) (hopen : Opens s slot r q plain tail) :
    s.Counts .TSV_NTP_RESP (v.ntsOp p f r) ∧ s.NtpAnswers p r q.uid (v.ntsOp p f r) := by
  have hb := h.ntsBusy 1
  have h1 : ¬ (¬ (v.ntsBusy 1).ntpTakes r = true ∨ ¬ (v.ntsBusy 1).on .TSV_NTP_CTL 30 = true) := by
    simp [hb.ntpTakes, ht, on_of_force hb.force, h30]
  have hc : (v.ntsBusy 1).openCookie q.cookie = (some plain, v.ntsBusy 1) := hb.openCookie hcur hopen
  unfold State.ntsOp
  rw [if_neg h1, hq]
  dsimp only
  rw [hc]
  dsimp only
  rw [hopen.auth]
  dsimp only
  generalize hT : ({ (v.ntsBusy 1).tsv with ntsAt := (v.ntsBusy ((v.ntsBusy 1).ntsCookies r q.uid q.holders)).tsv.ntsAt } : Tsv) = T
  have hTcur : T.cur = some slot := by
    rw [← hT]
    exact hcur.trans hopen.cur
  have hw : Served p s ({ v.ntsBusy 1 with tsv := T } : State) := hb.step (fr := (v.ntsBusy 1).free) (pm := (v.ntsBusy 1).pmc)
  exact hw.ntsReply ho ht hTcur hopen.held _

/-! ### Minting (R239) -/

/-- How far the rings of minting have come. -/
structure SameRings (s t : State) : Prop where
  req : t.tsv.reqCons = s.tsv.reqCons
  res : t.tsv.resProd = s.tsv.resProd

theorem SameRings.of_tsv (h : SameRings s t) (hu : u.tsv = t.tsv) : SameRings s u :=
  ⟨(congrArg Tsv.reqCons hu).trans h.req, (congrArg Tsv.resProd hu).trans h.res⟩

theorem SameRings.laneOp (h : SameRings s t) {lane slot use typ : Nat} : SameRings s (t.laneOp lane slot use typ).2 := by
  have hcheck : (t.checkSlot slot).tsv = t.tsv := by
    unfold State.checkSlot
    dsimp only
    split
    · exact ((Reacts.refl (μ := False) (s₀ := t.setKslot slot { t.kslot slot with bad := true })).fault).tsv_eq
    · rfl
  have hkey : SameRings s (t.laneKey lane slot use typ).2 := by
    unfold State.laneKey
    dsimp only
    split
    · exact h
    · split
      · exact h.of_tsv hcheck
      · exact h.of_tsv hcheck
  unfold State.laneOp
  dsimp only
  split
  · exact hkey
  · exact hkey.of_tsv (State.pmcEv_tsv ..)

theorem SameRings.makeCookies (h : SameRings s t) (slot : Nat) (master keys : List Byte) (n : Nat) :
    SameRings s (t.makeCookies slot master keys n).2 := by
  induction n generalizing t with
  | zero => exact h
  | succ n ih =>
    refine ih (SameRings.of_tsv (t := { t with tsv := { t.tsv with mint := (t.tsv.mint + 1) % 2 ^ 64 } }) ⟨h.req, h.res⟩ ?_)
    exact State.pmcEv_tsv ..

/-- Both rings of minting advance by one. -/
def State.RingsAdvance (s t : State) : Prop := t.tsv.reqCons = (s.tsv.reqCons + 1) % 65536 ∧ t.tsv.resProd = (s.tsv.resProd + 1) % 65536

theorem SameRings.mintDone (h : SameRings s t) (tag : List Byte) (status : Nat) (cookies : List (List Byte)) :
    s.RingsAdvance (t.mintDone tag status cookies) := by
  unfold State.mintDone
  dsimp only
  rw [State.RingsAdvance, (Reacts.refl.memWrite).tsv_eq]
  dsimp only
  rw [h.req, h.res]
  exact ⟨rfl, rfl⟩

theorem SameRings.mintEntry (h : SameRings s t) (e : List Byte) : s.RingsAdvance (t.mintEntry e) := by
  unfold State.mintEntry
  dsimp only
  split
  · exact h.mintDone ..
  · split
    · exact h.mintDone ..
    · split
      · exact h.mintDone ..
      next slot _ =>
        split
        · exact h.laneOp.mintDone ..
        next key _ =>
          have hc := (h.laneOp (lane := t.ntsLane) (slot := slot) (use := 1) (typ := 4)).makeCookies slot key (sub e 8 64) (fb e 6)
          refine SameRings.mintDone ?_ ..
          exact ⟨hc.req, hc.res⟩

/-- The read of a request to mint. -/
def State.mintRead (s : State) : List Byte × Bool × State :=
  s.memRead 5 (s.inForce .TSV_MINT_REQ_BASE + 128 * (s.tsv.reqCons % s.mintLen)) 128

theorem State.mintRead_rings (s : State) : SameRings s s.mintRead.2.2 :=
  SameRings.of_tsv ⟨rfl, rfl⟩ (Reacts.refl.memRead).tsv_eq

theorem State.mintOp_rings (s : State) : s.mintOp.tsv.reqCons = (s.tsv.reqCons + 1) % 65536 ∧
    s.mintOp.tsv.resProd = if s.mintRead.2.1 = true then s.tsv.resProd else (s.tsv.resProd + 1) % 65536 := by
  have hr := s.mintRead_rings
  have hdo : s.mintOp = if s.mintRead.2.1 then { s.mintRead.2.2 with tsv := { s.tsv with reqCons := (s.tsv.reqCons + 1) % 65536 } }
      else s.mintRead.2.2.mintEntry s.mintRead.1 := rfl
  rw [hdo]
  generalize s.mintRead = rd at hr
  obtain ⟨l, poisoned, w⟩ := rd
  dsimp only at hr ⊢
  cases poisoned with
  | true => exact ⟨rfl, rfl⟩
  | false => exact hr.mintEntry l

theorem mintRequest_spec (h : s.mintReady = true) : Completes .mintRequest s (fun v => v.tsv.reqCons = (s.tsv.reqCons + 1) % 65536 ∧
    v.tsv.resProd = if s.mintRead.2.1 = true then s.tsv.resProd else (s.tsv.resProd + 1) % 65536) :=
  .of_if rfl h s.mintOp_rings

theorem ntsRotation_spec {at_ : Nat} (hr : s.tsv.rot = some at_) (hon : s.tsvOn = true) (hrun : s.gau.running = true) (hat : at_ ≤ s.gns) :
    Completes .ntsRotation s (fun v => v.tsv.rot = none ∧ v.tsv.prev = s.tsv.cur ∧ v.tsv.cur = some (s.fl .TSV_NTS_NEXT 5 0)) := by
  refine .of_next (u := { s with tsv := { s.tsv with rot := none, prev := s.tsv.cur, cur := some (s.fl .TSV_NTS_NEXT 5 0) } }) ?_ ⟨rfl, rfl, rfl⟩
  show execNtsRotation s = _
  simp only [execNtsRotation, hr, hon, hrun, hat, and_self, if_true]

/-- Settles O39: the requests of the time service, one lemma each. -/
theorem timeServiceRequestsComplete : Obligations.TimeServiceRequestsComplete := by
  intro p e w k g f m t tail r x q plain slot at_ cg s live asks uc entry answers count ntp nts poisoned
  have hp : s.mintRead.2.1 = poisoned := rfl
  have hmint := mintRequest_spec (s := s)
  rw [hp] at hmint
  clear_value poisoned
  refine ⟨?_, ?_, grantExpiry_spec e, unicastRenew_first p w, unicastRenew_again p w, unicastRetry_spec p w, ?_, ?_, ?_, ?_, hmint, ntsRotation_spec⟩
  · exact fun h ⟨hon, hm, hk, hg⟩ ht hlog hent hfree => unicastRequest_spec p e h hon hm hk hg ht hlog hent hfree
  · exact fun h ⟨hon, hm, hk, hg⟩ ht hx hent => unicastCancel_spec p e h hon hm hk hg ht hx hent
  · exact fun ⟨hw, hr, hon, hat⟩ hl ht h29 => .of_next (ntpRequest_exec p hw hr hon hat) (ntpOp_answers (s.ntpTaken_served p f) hl hon ht h29)
  · exact fun ⟨hw, hr, hon, hat⟩ hrel ht => .of_next (ntpRequest_exec p hw hr hon hat) (ntpOp_dropped (s.ntpTaken_served p f) hon hrel ht)
  · exact fun ⟨hw, hr, hon, hat, hlane, ht, h30, hq⟩ hl hlen => .of_next (ntsRequest_exec p hw hr hon hl.2.2 hat hlane)
      (ntsOp_nak (Served.rxLeave s p f) hl ht h30 hq hlen)
  · intro ⟨hw, hr, hon, hat, hlane, ht, h30, hq⟩ hl hlen hcur hnamed hgen hheld hop haead hauth
    have hsame : (s.rxLeave p f).tsv.cur = s.tsv.cur := by
      obtain ⟨E, hE, -, -, -⟩ := s.rxLeave_only p f
      rw [hE]
    exact .of_next (ntsRequest_exec p hw hr hon hl.2.2 hat hlane)
      (ntsOp_answers (Served.rxLeave s p f) hsame hl ht h30 hq ⟨hlen, hcur, hnamed, hgen, hheld, hop, haead, hauth⟩)

end Sys2Proof.Machine
end

section
/-! The release of a write into program memory (R165, R303). -/

namespace Sys2Proof.Machine

set_option Elab.async false

/-- A recorded write of 7 by the host into the first word of the P memory of sequencer 1. -/
def pMemEntry : GateEntry :=
  { ch := .seqmem 0x02020000 7, org := .host, recorded := some 0, apply := none, at_ := 0, ownerOk := true, gauge := 0, cand30 := false }

/-- The device at work with that write in its gate. -/
def State.pMemWaits : State := { State.awake with log := { State.awake.log with gate := [pMemEntry] } }

/-- Refutes O40: the release of a word of sequencer memory puts no word into P memory, since `putSeqMem` writes with `Seq.setMem`, which keeps
P memory as a program finds it (R142), while R165 lets a host write it in a STOPPED sequencer. In the state above nothing refuses the recorded
write of 7, its release takes it out of the gate, and the word reads 0 behind it. -/
theorem not_gateEventsComplete : ¬ Obligations.GateEventsComplete := by
  intro h
  obtain ⟨-, -, -, hmem, -⟩ := h .row ⟨.GAU_SNAP, 0, 0, 0, 0⟩ 0x02020000 7 pMemEntry (State.reset.mkRec 0 0 0 0 .host .none) true State.pMemWaits
  have hread := ((hmem ⟨rfl, rfl⟩ rfl rfl rfl rfl rfl rfl (by decide) (by decide) (by decide +kernel) (by decide +kernel)).post rfl).2
  revert hread
  decide +kernel

end Sys2Proof.Machine
end

section
/-! The rows of streams and AES3 ports (R250 to R265): packets, frames, zero crossings, stops and the trigger. -/

namespace Sys2Proof.Machine

set_option Elab.async false

variable {s t u v : State} {p : Fin 16} {i : Fin 512}

theorem State.pmcAud_only (s : State) (ev k : Nat) : ∃ pm, s.pmcAud ev k = { s with pmc := pm } := State.pmcEv_only ..

/-! ### Packets received (R250 to R252) -/

theorem streamPacketReceive_arrives {e : Fin 8} {g : RxFrame} (hon : s.audOn = true) (hf : s.rxFirst e 3 (fun _ => true) = some g)
    (hsp : g.spilled = false) : exec (.streamPacketReceive e) s = .next ((s.rxLeave e g).rtpIn e g) := by
  have htake : s.rxTake e g = (true, s.rxLeave e g) := by rw [State.rxTake, if_neg (by simp [hsp])]
  have hon' : (s.rxLeave e g).audOn = true := by
    obtain ⟨E, hE, -, -, -⟩ := s.rxLeave_only e g
    rw [hE]
    exact hon
  show execStreamPacketReceive e s = _
  unfold execStreamPacketReceive State.audTake
  rw [hf]
  dsimp only
  rw [htake, if_pos ⟨rfl, hon'⟩]

theorem streamPacketReceive_nobody {e : Fin 8} {g : RxFrame} (hon : s.audOn = true) (hf : s.rxFirst e 3 (fun _ => true) = some g)
    (hsp : g.spilled = false) (hno : ∀ k, rtpAt g.bytes = some k → s.legHits e g.bytes k = []) : Completes (.streamPacketReceive e) s (fun t =>
      t.aud = s.aud ∧ (t.ep e).rx = (s.ep e).rx.erase g ∧
      bits (t.hwOf .AUD_RXNM) 31 0 = min (2 ^ 32 - 1) (bits (s.hwOf .AUD_RXNM) 31 0 + 1)) := by
  obtain ⟨E, hE, hrx, -, -⟩ := s.rxLeave_only e g
  have hdo : (s.rxLeave e g).rtpIn e g = (s.rxLeave e g).bump .AUD_RXNM 31 0 := by
    unfold State.rtpIn
    dsimp only
    split
    · rfl
    next k hk =>
      have hh : (s.rxLeave e g).legHits e g.bytes k = [] := by
        rw [hE]
        exact hno k hk
      rw [if_pos hh]
  refine .of_next ((streamPacketReceive_arrives hon hf hsp).trans (congrArg _ hdo)) ⟨?_, ?_, ?_⟩
  · rw [State.bump_aud, hE]
  · rw [ep_of_eth (State.bump_eth ..), hrx]
  · have hb : bits (((s.rxLeave e g).bump .AUD_RXNM 31 0).hwOf .AUD_RXNM) 31 0 = _ := (s.rxLeave e g).bump_hwOf .AUD_RXNM 31 0 1 0 0 0
    rw [hE] at hb ⊢
    exact hb

/-- `t` comes from `v` by counting, and by what the streams take: time, rates and configuration stay. -/
structure Streamed (v t : State) : Prop where
  rest : ∃ A H pm, t = { v with aud := A, hw := H, pmc := pm }

theorem Streamed.refl (v : State) : Streamed v v := ⟨v.aud, v.hw, v.pmc, rfl⟩

theorem Streamed.setRxs (h : Streamed v t) (i : Nat) (x : Rxs) : Streamed v (t.setRxs i x) := by
  obtain ⟨A, H, pm, rfl⟩ := h.rest
  exact ⟨_, H, pm, rfl⟩

theorem Streamed.bump (h : Streamed v t) (r : RegName) (hi lo k i : Nat) : Streamed v (t.bump r hi lo k i) := by
  obtain ⟨A, H, pm, rfl⟩ := h.rest
  exact ⟨A, _, pm, rfl⟩

theorem Streamed.pmcAud (h : Streamed v t) (ev k : Nat) : Streamed v (t.pmcAud ev k) := by
  obtain ⟨A, H, pm, rfl⟩ := h.rest
  obtain ⟨pm', hpm⟩ := State.pmcAud_only ({ v with aud := A, hw := H, pmc := pm } : State) ev k
  rw [hpm]
  exact ⟨A, H, pm', rfl⟩

theorem State.pmcAud_rxs (s : State) (ev k i : Nat) : (s.pmcAud ev k).rxs i = s.rxs i := by
  obtain ⟨pm, hpm⟩ := s.pmcAud_only ev k
  rw [hpm]
  rfl

/-- A leg that takes a sequence number keeps it. -/
theorem State.legSeq_takes (h : Streamed v t) (i k seq : Nat) : Streamed v (t.legSeq i k seq) ∧
    (t.legSeq i k seq).rxs i = { t.rxs i with seqs := (t.rxs i).seqs.set k (seq + 1) } := by
  have hset := t.setRxs_rxs i { t.rxs i with seqs := (t.rxs i).seqs.set k (seq + 1) }
  unfold State.legSeq
  dsimp only
  split
  · exact ⟨h.setRxs i _, hset⟩
  · split
    · exact ⟨(h.setRxs i _).bump .., hset⟩
    · exact ⟨h.setRxs i _, hset⟩

/-- The samples of a packet put into a buffer from index `n` on, where the buffer has none. -/
def fillBuf (old : Tab (List Int)) (n : Int) (nch : Nat) (vals : List Int) (len : Nat) : Tab (List Int) :=
  ((List.range len).map fun j : Nat => (j, (n + (j : Int)).toNat)).foldl
    (fun b a => if old.get a.2 [] ≠ [] then b else b.set a.2 ((vals.drop (a.1 * nch)).take nch)) old

/-- The first index of a packet takes its first samples. -/
theorem fillBuf_first (old : Tab (List Int)) {n : Int} (nch : Nat) (vals : List Int) {len : Nat} (hn : 0 ≤ n) (hl : 0 < len)
    (ho : old.get n.toNat [] = []) : (fillBuf old n nch vals len).get n.toNat [] = vals.take nch := by
  obtain ⟨l, rfl⟩ : ∃ l, len = l + 1 := ⟨len - 1, by omega⟩
  have h0 : (n + ((0 : Nat) : Int)).toNat = n.toNat := by rw [Int.natCast_zero, Int.add_zero]
  unfold fillBuf
  rw [List.range_succ_eq_map, List.map_cons, List.foldl_cons, h0, if_neg (not_not_intro ho)]
  refine List.foldlRecOn (motive := fun b : Tab (List Int) => b.get n.toNat [] = vals.take nch) _ _ ?_ fun b hb a ha => ?_
  · rw [Tab.get_set_same, Nat.zero_mul, List.drop_zero]
  · obtain ⟨j, hj, rfl⟩ := List.mem_map.1 ha
    obtain ⟨q, -, rfl⟩ := List.mem_map.1 hj
    split
    · exact hb
    · rw [Tab.get_set_ne _ _ _ (by omega)]
      exact hb

theorem State.placeRtp_rxs (s : State) (i : Nat) (n : Int) (r : List Byte) : (s.placeRtp i n r).rxs i = { s.rxs i with
    buf := fillBuf (s.rxs i).buf n (s.fl .RXS_CFG 22 16 i) (rtpSamples (s.on .RXS_CFG 28 i) (rtpPay r))
      (packetLen (s.domFs (s.fl .RXS_CFG 30 29 i)) (s.on .RXS_CFG 27 i)) } := by
  unfold State.placeRtp
  dsimp only
  rw [State.pmcAud_rxs, State.setRxs_rxs]
  rfl

/-- A packet that comes in time for its row is placed. -/
theorem classify_placed (h : Streamed v t) (i k : Nat) (at_ : Int) (r : List Byte)
    (hlate : at_ ≤ ((rowOfIdx (v.domFs (v.fl .RXS_CFG 30 29 i)) (v.packetIdx i r) + v.fl .RXS_CFG 12 8 i + 1) * 125000 - 5000) * 2 ^ 40)
    (hearly : rowOfIdx (v.domFs (v.fl .RXS_CFG 30 29 i)) (v.packetIdx i r) + v.fl .RXS_CFG 12 8 i + 1 ≤ v.rowNum + v.fl .RXS_CFG 12 8 i + 1) :
    t.classify i k at_ r = t.placeRtp i (v.packetIdx i r) r := by
  obtain ⟨A, H, pm, rfl⟩ := h.rest
  unfold State.classify
  exact (if_neg (Int.not_lt.2 hlate)).trans (if_neg (Int.not_lt.2 hearly))

/-- What an accepted packet of a running stream leaves of the stream. -/
theorem legPacket_placed (v : State) (i : Fin 512) (at_ : Int) (r : List Byte) (hok : v.packetOk i r = true) (hst : (v.rxs i).st = 2)
    (hidx : 0 ≤ v.packetIdx i r) (hlen : 0 < packetLen (v.domFs (v.fl .RXS_CFG 30 29 i)) (v.on .RXS_CFG 27 i))
    (hlate : at_ ≤ ((rowOfIdx (v.domFs (v.fl .RXS_CFG 30 29 i)) (v.packetIdx i r) + v.fl .RXS_CFG 12 8 i + 1) * 125000 - 5000) * 2 ^ 40)
    (hearly : rowOfIdx (v.domFs (v.fl .RXS_CFG 30 29 i)) (v.packetIdx i r) + v.fl .RXS_CFG 12 8 i + 1 ≤ v.rowNum + v.fl .RXS_CFG 12 8 i + 1)
    (hempty : (v.rxs i).buf.get (v.packetIdx i r).toNat [] = []) :
    ((v.legPacket i 0 at_ r).rxs i).ssrc = some (fn r 8 4) ∧ ((v.legPacket i 0 at_ r).rxs i).seqs.get 0 0 = fh r 2 + 1 ∧
      ((v.legPacket i 0 at_ r).rxs i).buf.get (v.packetIdx i r).toNat [] =
        (rtpSamples (v.on .RXS_CFG 28 i) (rtpPay r)).take (v.fl .RXS_CFG 22 16 i) := by
  let a := (v.setRxs i { v.rxs i with ssrc := some (fn r 8 4) }).pmcAud 0
  have ha : Streamed v a := ((Streamed.refl v).setRxs i _).pmcAud 0 1
  have hax : a.rxs i = { v.rxs i with ssrc := some (fn r 8 4) } := by rw [State.pmcAud_rxs, State.setRxs_rxs]
  obtain ⟨hb, hbx⟩ := State.legSeq_takes ha i 0 (fh r 2)
  rw [hax] at hbx
  have hdo : v.legPacket i 0 at_ r = (a.legSeq i 0 (fh r 2)).placeRtp i (v.packetIdx i r) r := by
    unfold State.legPacket
    rw [if_pos hok]
    dsimp only
    have hbegin : (a.legSeq i 0 (fh r 2)).beginRxs i r = a.legSeq i 0 (fh r 2) := by
      rw [State.beginRxs, if_neg]
      rw [hbx]
      show ¬ (v.rxs i).st = 1
      omega
    exact (congrArg (fun t : State => t.classify i 0 at_ r) hbegin).trans (classify_placed hb i 0 at_ r hlate hearly)
  rw [hdo, State.placeRtp_rxs, hbx]
  refine ⟨rfl, Tab.get_set_same .., ?_⟩
  obtain ⟨A, H, pm, hrest⟩ := hb.rest
  rw [hrest]
  exact fillBuf_first _ _ _ hidx hlen hempty

theorem streamPacketReceive_placed {e : Fin 8} {g : RxFrame} {h : Nat} (hon : s.audOn = true) (hf : s.rxFirst e 3 (fun _ => true) = some g)
    (hsp : g.spilled = false) (hh : rtpAt g.bytes = some h) (hits : s.legHits e g.bytes h = [(i.val, 0)]) (hsum : udpSumOk g.bytes = true) :
    ∃ E, exec (.streamPacketReceive e) s = .next (({ s with eth := E } : State).legPacket i 0
      (g.tc + (s.bitsNs e (8 * g.bytes.length) : Int) * 2 ^ 40) (udpPay g.bytes (h - 8))) := by
  obtain ⟨E, hE, -, -, -⟩ := s.rxLeave_only e g
  refine ⟨E, (streamPacketReceive_arrives hon hf hsp).trans (congrArg Host.Outcome.next ?_)⟩
  have hi : (⟨i.val % 512, Nat.mod_lt _ (by decide)⟩ : Fin 512) = i := Fin.ext (Nat.mod_eq_of_lt i.isLt)
  have hhits : ({ s with eth := E } : State).legHits e g.bytes h = [(i.val, 0)] := hits
  rw [hE]
  unfold State.rtpIn
  dsimp only
  rw [hh]
  dsimp only
  rw [hhits, if_neg (by simp), if_pos hsum, List.foldl_cons, List.foldl_nil, hi]
  rfl

/-! ### Packets sent (R254, R255) -/

theorem State.frameResult_aud (s : State) (f : TxFrame) (r : Nat) : (s.frameResult f r).aud = s.aud := by
  unfold State.frameResult
  split <;> rfl

theorem State.submitFrame_aud (s : State) (q : Nat) (f : TxFrame) : (s.submitFrame q f).aud = s.aud := by
  unfold State.submitFrame
  dsimp only
  split
  · rfl
  · rw [State.frameResult_aud]
    rfl

theorem State.outValue_only (s : State) (o : AudObj) (ch n : Nat) : ∃ fr, (s.outValue o ch n).2 = { s with free := fr } := by
  unfold State.outValue
  split
  · split
    · exact ⟨s.free, rfl⟩
    · split
      · exact ⟨_, rfl⟩
      · exact ⟨s.free, rfl⟩
  · exact ⟨s.free, rfl⟩

theorem State.outValues_aud (s : State) (o : AudObj) (l : List (Nat × Nat)) : (s.outValues o l).2.aud = s.aud := by
  induction l generalizing s with
  | nil => rfl
  | cons x l ih =>
    obtain ⟨fr, hfr⟩ := s.outValue_only o x.1 x.2
    refine (ih (s.outValue o x.1 x.2).2).trans ?_
    rw [hfr]

theorem State.sendRtp_aud (s : State) (i : Fin 512) (m : Nat) : (s.sendRtp i m).aud = s.aud := by
  unfold State.sendRtp
  refine List.foldlRecOn (motive := fun t : State => t.aud = s.aud) _ _ (State.outValues_aud ..) fun t ht k _ => ?_
  split
  · exact (State.submitFrame_aud ..).trans ht
  · exact ht

theorem streamPacketLaunch_spec {m : Nat} (hon : s.audOn = true) (hn : (s.txs i).next = some m) (hd : s.txDue i m = true) :
    Completes (.streamPacketLaunch i) s (fun t =>
      t.txs i = { s.txs i with seq := ((s.txs i).seq + 1) % 65536, next := some (m + s.txRows i) } ∧
      (s.withheld i m = true → t.eth = s.eth ∧ t.sent = s.sent)) := by
  refine .of_next (u := s.launchRtp i m) ?_ ?_
  · show execStreamPacketLaunch i s = _
    simp only [execStreamPacketLaunch, hn, hon, hd, and_self, if_true]
  · unfold State.launchRtp
    dsimp only
    by_cases hw : s.withheld i m = true
    · rw [if_pos hw]
      obtain ⟨pm, hpm⟩ := (s.bump .TXS_STAT 15 0 1 i).pmcAud_only 5 1
      rw [hpm, State.setTxs_txs]
      exact ⟨rfl, fun _ => ⟨rfl, rfl⟩⟩
    · rw [if_neg hw]
      have hsame : ((s.sendRtp i m).pmcAud 4).txs i = s.txs i := by
        obtain ⟨pm, hpm⟩ := (s.sendRtp i m).pmcAud_only 4 1
        rw [hpm]
        show (s.sendRtp i m).aud.txs.get i Txs.reset = _
        rw [State.sendRtp_aud]
        rfl
      rw [State.setTxs_txs, hsame]
      exact ⟨rfl, fun h => absurd h hw⟩

/-! ### AES3 inputs (R256 to R258) -/

/-- What the bits and the rate of a frame leave of the input and of the rates. -/
structure AesKept (p : Fin 16) (s t : State) : Prop where
  st : (t.aesi p).st = (s.aesi p).st
  run : (t.aesi p).run = (s.aesi p).run
  seen : (t.aesi p).seen = (s.aesi p).seen
  gau : t.gau = s.gau
  out : t.out = s.out
  force : t.force = s.force

theorem AesKept.refl (p : Fin 16) (s : State) : AesKept p s s := ⟨rfl, rfl, rfl, rfl, rfl, rfl⟩

theorem aesi_of_aud (h : t.aud = s.aud) (p : Nat) : t.aesi p = s.aesi p := by rw [State.aesi, h, State.aesi]

theorem AesKept.same (h : AesKept p s t) (ha : u.aud = t.aud) (hg : u.gau = t.gau) (ho : u.out = t.out) (hf : u.force = t.force) : AesKept p s u := by
  have hx := aesi_of_aud ha p
  exact ⟨by rw [hx, h.st], by rw [hx, h.run], by rw [hx, h.seen], hg.trans h.gau, ho.trans h.out, hf.trans h.force⟩

theorem AesKept.setAesi (h : AesKept p s t) {x : AesIn} (h1 : x.st = (t.aesi p).st) (h2 : x.run = (t.aesi p).run)
    (h3 : x.seen = (t.aesi p).seen) : AesKept p s (t.setAesi p x) := by
  refine ⟨?_, ?_, ?_, h.gau, h.out, h.force⟩
  · rw [State.setAesi_aesi, h1, h.st]
  · rw [State.setAesi_aesi, h2, h.run]
  · rw [State.setAesi_aesi, h3, h.seen]

theorem AesKept.bump (h : AesKept p s t) (r : RegName) (hi lo k i : Nat) : AesKept p s (t.bump r hi lo k i) := h.same rfl rfl rfl rfl

theorem AesKept.latchBits (h : AesKept p s t) (r : RegName) (q x : Nat) : AesKept p s (t.latchBits r q x) :=
  List.foldlRecOn (motive := AesKept p s) _ _ h fun _ ht _ _ => ht.same rfl rfl rfl rfl

theorem AesKept.endBlock (h : AesKept p s t) : AesKept p s (t.endBlock p) := by
  have h1 : AesKept p s (t.setAesi p { t.aesi p with frames := none }) := h.setAesi rfl rfl rfl
  unfold State.endBlock
  extract_lets x s1 s2
  have h2 : AesKept p s s2 := (((h1.latchBits ..).latchBits ..).latchBits ..).latchBits ..
  clear_value s2
  split
  · exact h1.bump ..
  · exact h2.same (State.setHw_aud ..) (State.setHw_gau ..) (State.setHw_out ..) (State.setHw_force ..)

theorem AesKept.blockFrame (h : AesKept p s t) (f : Aes3Frame) : AesKept p s (t.blockFrame p f) := by
  unfold State.blockFrame
  extract_lets x0 x
  have hx : x.st = (t.aesi p).st ∧ x.run = (t.aesi p).run ∧ x.seen = (t.aesi p).seen := by
    simp only [x]
    split <;> exact ⟨rfl, rfl, rfl⟩
  clear_value x
  obtain ⟨h1, h2, h3⟩ := hx
  split
  · exact h
  · dsimp only
    split
    · refine (h.setAesi ?_ ?_ ?_).endBlock
      · exact h1
      · exact h2
      · exact h3
    · refine h.setAesi ?_ ?_ ?_
      · exact h1
      · exact h2
      · exact h3

theorem AesKept.aesRate (h : AesKept p s t) : AesKept p s (t.aesRate p) := by
  unfold State.aesRate
  extract_lets x rate old s1 keep steady good
  have h1 : AesKept p s s1 := by
    show AesKept p s (if rateMoved rate old ∧ old ≠ 0 then t.recEvent 0x28 p else t)
    split
    · exact h.same (State.recEvent_aud ..) (State.recEvent_gau ..) (State.recEvent_out ..) (State.recEvent_force ..)
    · exact h
  have hx : s1.aesi p = t.aesi p := by
    show (if rateMoved rate old ∧ old ≠ 0 then t.recEvent 0x28 p else t).aesi p = _
    split
    · exact aesi_of_aud (State.recEvent_aud ..) p
    · rfl
  have h2 : AesKept p s (s1.setHw .AESI_RATE 17 0 rate p) := h1.same rfl rfl rfl rfl
  have hy : (s1.setHw .AESI_RATE 17 0 rate p).aesi p = x := hx
  exact h2.setAesi (by rw [hy]) (by rw [hy]) (by rw [hy])

/-- The samples of a frame: the input has been seen now, and it stays as it was. -/
theorem State.aesSamples_aesi (s : State) (p : Fin 16) (f : Aes3Frame) : ((s.aesSamples p f).aesi p).st = (s.aesi p).st ∧
    ((s.aesSamples p f).aesi p).run = (s.aesi p).run ∧ ((s.aesSamples p f).aesi p).seen = s.gau.l := by
  unfold State.aesSamples
  dsimp only
  rw [aesi_of_aud (State.bump_aud ..), State.setAesi_aesi]
  exact ⟨rfl, rfl, rfl⟩

/-- A frame's samples, bits and rate, before its path is looked at. -/
def State.aesTaken (s : State) (p : Fin 16) (f : Aes3Frame) : State := ((s.aesSamples p f).blockFrame p f).aesRate p

theorem State.aesTaken_spec (s : State) (p : Fin 16) (f : Aes3Frame) : ((s.aesTaken p f).aesi p).st = (s.aesi p).st ∧
    ((s.aesTaken p f).aesi p).run = (s.aesi p).run ∧ ((s.aesTaken p f).aesi p).seen = s.gau.l ∧
    (s.aesTaken p f).gau = s.gau ∧ (s.aesTaken p f).out = s.out ∧ (s.aesTaken p f).force = s.force := by
  obtain ⟨h1, h2, h3⟩ := s.aesSamples_aesi p f
  obtain ⟨k1, k2, k3, k4, k5, k6⟩ := ((AesKept.refl p (s.aesSamples p f)).blockFrame f).aesRate
  exact ⟨k1.trans h1, k2.trans h2, k3.trans h3, k4, k5, k6⟩

/-- An input that waits for a signal has found one. -/
def State.aesFound (s : State) (p : Fin 16) : State := if (s.aesi p).st = 1 then s.setAesi p { s.aesi p with st := 2 } else s

theorem aesFrame_eq (s : State) (p : Fin 16) (f : Aes3Frame) : s.aesFrame p f =
    if s.on .AESI_CFG 28 p then ((s.aesFound p).aesTaken p f).aesTrack p else ((s.aesFound p).aesTaken p f).aesLock p := rfl

theorem aes3FrameReceive_found (f : Aes3Frame) (hon : s.audOn = true) (ha : s.on .AESI_CFG 28 p = true) (hst : (s.aesi p).st = 1) :
    Completes (.aes3FrameReceive p f) s (fun t => (t.aesi p).st = 2 ∧ (t.aesi p).seen = s.gau.l) := by
  refine .of_if rfl ⟨hon, by simp [hst]⟩ ?_
  rw [aesFrame_eq, if_pos ha, State.aesFound, if_pos hst]
  obtain ⟨h1, -, h3, -⟩ := (s.setAesi p { s.aesi p with st := 2 }).aesTaken_spec p f
  rw [State.setAesi_aesi] at h1
  have hne : ¬ ((((s.setAesi p { s.aesi p with st := 2 }).aesTaken p f).aesi p).st = 3) := by
    rw [h1]
    show ¬ 2 = 3
    decide
  rw [State.aesTrack, if_neg fun h => hne h.1]
  exact ⟨h1, h3⟩

theorem State.waitAll_only (s : State) (o : AudObj) (on : Bool) (k : Nat) : ∃ w, s.waitAll o on k = { s with aud := { s.aud with waits := w } } := by
  refine List.foldlRecOn (motive := fun t : State => ∃ w, t = { s with aud := { s.aud with waits := w } }) _ _ ⟨s.aud.waits, rfl⟩
    fun t ht ch _ => ?_
  obtain ⟨w, rfl⟩ := ht
  exact ⟨_, rfl⟩

theorem State.waitAll_aesi (s : State) (o : AudObj) (on : Bool) (k q : Nat) : (s.waitAll o on k).aesi q = s.aesi q := by
  obtain ⟨w, hw⟩ := s.waitAll_only o on k
  rw [hw]
  rfl

theorem State.aesRun_aesi (s : State) (p : Fin 16) : (s.aesRun p).aesi p = { s.aesi p with st := 3 } := by
  rw [State.aesRun, State.waitAll_aesi, State.setAesi_aesi]

theorem State.aesLost_aesi (s : State) (p : Fin 16) (st : Nat) : (s.aesLost p st).aesi p = { s.aesi p with st := st, run := 0 } := by
  unfold State.aesLost
  dsimp only
  rw [State.waitAll_aesi, aesi_of_aud (State.bump_aud ..), State.setAesi_aesi]

theorem aes3FrameReceive_locks (f : Aes3Frame) (hon : s.audOn = true) (ha : s.on .AESI_CFG 28 p = false) (hst : (s.aesi p).st = 2)
    (hn : (s.nearest (s.objFs (.aesi p))).2 = true) : Completes (.aes3FrameReceive p f) s (fun t =>
      (t.aesi p).run = (s.aesi p).run + 1 ∧ (t.aesi p).st = if 48 ≤ (s.aesi p).run + 1 then 3 else 2) := by
  refine .of_if rfl ⟨hon, by simp [hst]⟩ ?_
  have hfound : s.aesFound p = s := by rw [State.aesFound, if_neg (by omega)]
  rw [aesFrame_eq, if_neg (by simp [ha]), hfound]
  obtain ⟨h1, h2, -, hg, ho, hf⟩ := s.aesTaken_spec p f
  generalize s.aesTaken p f = t at h1 h2 hg ho hf
  have hnear : (t.nearest (t.objFs (.aesi p))).2 = true := by
    have htc : t.tc = s.tc := by rw [State.tc, hg, ho, State.tc]
    have hfs : t.objFs (.aesi p) = s.objFs (.aesi p) := by
      unfold State.objFs State.domFs State.mixFs State.objCfg State.fl State.inForce
      rw [hf]
    rw [hfs, State.nearest, htc]
    exact hn
  rw [State.aesLock]
  dsimp only
  rw [if_pos hnear, h1, h2]
  by_cases h48 : 48 ≤ (s.aesi p).run + 1
  · rw [if_pos ⟨hst, h48⟩, if_pos h48, State.aesRun_aesi, State.setAesi_aesi]
    exact ⟨rfl, rfl⟩
  · rw [if_neg (fun h => h48 h.2), if_neg h48, State.setAesi_aesi]
    exact ⟨rfl, hst⟩

/-- The input that loses its signal waits for another. -/
theorem State.aesGone_aesi (h : (s.aesi p).st = 3) : ((s.aesGone p).aesi p).st = 1 ∧ ((s.aesGone p).aesi p).run = 0 := by
  have hg : s.aesGone p = s.aesLost p 1 := by simp only [State.aesGone, h]
  rw [hg, State.aesLost_aesi]
  exact ⟨rfl, rfl⟩

theorem aes3UnlockTimeout_spec (hon : s.audOn = true) (ha : s.on .AESI_CFG 28 p = false) (hst : (s.aesi p).st = 3)
    (hd : 4 * 10 ^ 9 ≤ (s.gau.l - (s.aesi p).seen) * s.objFs (.aesi p)) :
    Completes (.aes3UnlockTimeout p) s (fun t => (t.aesi p).st = 1 ∧ (t.aesi p).run = 0) :=
  .of_if rfl ⟨hon, by simp [ha], hd⟩ (State.aesGone_aesi hst)

theorem aes3AsrcLoss_spec (hon : s.audOn = true) (ha : s.on .AESI_CFG 28 p = true) (hst : (s.aesi p).st = 3)
    (hd : (s.aesi p).seen + 100000 ≤ s.gau.l) : Completes (.aes3AsrcLoss p) s (fun t => (t.aesi p).st = 1 ∧ (t.aesi p).run = 0) :=
  .of_if rfl ⟨hon, ha, hd⟩ (State.aesGone_aesi hst)

theorem aes3AsrcRun_spec {m : Nat} (hon : s.audOn = true) (ha : s.on .AESI_CFG 28 p = true) (hst : (s.aesi p).st = 2)
    (hs : (s.aesi p).settle = some m) (hd : m + 50000000 ≤ s.gau.l) : Completes (.aes3AsrcRun p) s (fun t => (t.aesi p).st = 3) := by
  refine .of_if rfl ⟨hon, ha, hst, ?_⟩ ?_
  · simp only [hs, decide_eq_true hd]
  · rw [State.aesRun_aesi]

/-! ### AES3 outputs (R259) -/

theorem State.sendAes_sent (s : State) (p : Fin 16) (m : Nat) {k : Nat} (hk : k ≠ 0) :
    (∃ a b v ca cb ua ub pa pb, (s.sendAes p m k).sent = .aes3 p false a b v ca cb ua ub pa pb :: s.sent) ∧ (s.sendAes p m k).aud = s.aud := by
  obtain ⟨fr, hfr⟩ := s.outValue_only (.aeso p) 0 m
  obtain ⟨fr', hfr'⟩ := (s.outValue (.aeso p) 0 m).2.outValue_only (.aeso p) 1 m
  have hk' : decide (k = 0) = false := decide_eq_false hk
  unfold State.sendAes
  dsimp only
  rw [hk', hfr', hfr]
  exact ⟨⟨_, _, _, _, _, _, _, _, _, rfl⟩, rfl⟩

theorem State.sendAes_aud (s : State) (p : Fin 16) (m k : Nat) : (s.sendAes p m k).aud = s.aud := by
  obtain ⟨fr, hfr⟩ := s.outValue_only (.aeso p) 0 m
  obtain ⟨fr', hfr'⟩ := (s.outValue (.aeso p) 0 m).2.outValue_only (.aeso p) 1 m
  unfold State.sendAes
  dsimp only
  rw [hfr', hfr]
  rfl

theorem aeso_of_aud (h : t.aud = s.aud) (p : Nat) : t.aeso p = s.aeso p := by rw [State.aeso, h, State.aeso]

theorem aes3FrameSend_spec {n0 m : Nat} (hon : s.audOn = true) (hst : (s.aeso p).st = 3) (hs : (s.aeso p).start = some n0)
    (hm : (s.mediaNow (s.objFs (.aeso p))).toNat = m) (hle : n0 ≤ m) (hl : (s.aeso p).last ≠ some m) :
    Completes (.aes3FrameSend p) s (fun t => (t.aeso p).last = some m ∧
      (s.aesHeld p = false → (s.aeso p).low = false → (m - n0) % 192 ≠ 0 →
        ∃ a b v ca cb ua ub pa pb, t.sent = .aes3 p false a b v ca cb ua ub pa pb :: s.sent)) := by
  refine .of_next (u := s.aesInstant p m n0) ?_ ⟨?_, fun hheld hlow hk => ?_⟩
  · show execAes3FrameSend p s = _
    simp [execAes3FrameSend, hs, hm, hon, hst, hle, hl]
  · unfold State.aesInstant
    extract_lets k s1 low _ s2
    have hset : (s2.aeso p).last = some m := congrArg AesOut.last (s1.setAeso_aeso p _)
    clear_value s2
    split
    · exact hset
    · rw [aeso_of_aud (State.sendAes_aud ..)]
      exact hset
  · unfold State.aesInstant
    dsimp only
    rw [if_neg hk, hheld, hlow, Bool.false_and, Bool.or_false, if_neg (by decide)]
    exact (State.sendAes_sent _ p m hk).1

/-! ### Zero crossings, stops and starts (R263, R264) -/

theorem State.waitOf_obj {o : AudObj} {ch : Nat} {w : ZcWait} (h : s.waitOf o ch = some w) : w.obj = o ∧ w.ch = ch := by
  have hw := List.find?_some h
  simpa using hw

theorem State.setGate_objGate (s : State) (o : AudObj) (g : ChGate) : (s.setGate o g).objGate o = g := by
  cases o with
  | rxs i => exact congrArg Rxs.gate (s.setRxs_rxs ..)
  | txs i => exact congrArg Txs.gate (s.setTxs_txs ..)
  | aesi i => exact congrArg AesIn.gate (s.setAesi_aesi ..)
  | aeso i => exact congrArg AesOut.gate (s.setAeso_aeso ..)

theorem State.setGate_waits (s : State) (o : AudObj) (g : ChGate) : (s.setGate o g).aud.waits = s.aud.waits := by
  cases o <;> rfl

theorem State.objGate_of (s : State) (o : AudObj) (l : List ZcWait) : ({ s with aud := { s.aud with waits := l } } : State).objGate o = s.objGate o := by
  cases o <;> rfl

theorem State.applyWait_at (s : State) (w : ZcWait) (n : Nat) :
    ((s.applyWait w n).objGate w.obj).get w.ch (false, 0) = (w.on_, n) ∧ (s.applyWait w n).aud.waits = s.aud.waits.erase w := by
  unfold State.applyWait
  dsimp only
  rw [State.objGate_of, State.setGate_objGate, State.setGate_waits]
  exact ⟨Tab.get_set_same .., rfl⟩

theorem zeroCrossingApply_spec {o : AudObj} {ch n : Nat} {w : ZcWait} (hw : s.waitOf o ch = some w)
    (hn : s.firstCross w (min (s.zcLimit w) (s.knownTo o)) = some n) : Completes (.zeroCrossingApply o ch) s (fun t =>
      (t.objGate o).get ch (false, 0) = (w.on_, n) ∧ t.aud.waits = s.aud.waits.erase w) := by
  obtain ⟨rfl, rfl⟩ := State.waitOf_obj hw
  refine .of_next (u := s.applyWait w n) ?_ (s.applyWait_at w n)
  show execZeroCrossingApply w.obj w.ch s = _
  simp only [execZeroCrossingApply, hw, hn]

theorem zcTimeout_spec {o : AudObj} {ch : Nat} {w : ZcWait} (hw : s.waitOf o ch = some w) (hl : s.zcLimit w < s.knownTo o)
    (hn : s.firstCross w (s.zcLimit w) = none) : Completes (.zcTimeout o ch) s (fun t =>
      (t.objGate o).get ch (false, 0) = (w.on_, s.zcLimit w) ∧ t.aud.waits = s.aud.waits.erase w) := by
  obtain ⟨rfl, rfl⟩ := State.waitOf_obj hw
  refine .of_next (u := ((s.applyWait w (s.zcLimit w)).bump .AUD_ZC 31 16).pmcAud 6) ?_ ?_
  · show execZcTimeout w.obj w.ch s = _
    simp only [execZcTimeout, hw, hl, hn, and_self, if_true]
  · obtain ⟨pm, hpm⟩ := ((s.applyWait w (s.zcLimit w)).bump .AUD_ZC 31 16).pmcAud_only 6 1
    have hg : (({ (s.applyWait w (s.zcLimit w)).bump .AUD_ZC 31 16 with pmc := pm } : State).objGate w.obj) =
        (s.applyWait w (s.zcLimit w)).objGate w.obj := by
      cases w.obj <;> rfl
    rw [hpm, hg]
    exact s.applyWait_at w (s.zcLimit w)

theorem objSt_of_aud (h : t.aud = s.aud) (o : AudObj) : t.objSt o = s.objSt o := by
  cases o <;> simp only [State.objSt, State.rxs, State.txs, State.aesi, State.aeso, h]

theorem State.offObj_objSt (s : State) (o : AudObj) : (s.offObj o).objSt o = 0 := by
  cases o with
  | rxs i => exact congrArg Rxs.st (State.setRxs_rxs ..)
  | txs i => exact congrArg Txs.st (State.setTxs_txs ..)
  | aesi i => exact congrArg AesIn.st (State.setAesi_aesi ..)
  | aeso i => exact congrArg AesOut.st (State.setAeso_aeso ..)

theorem stopComplete_stopped {o : AudObj} (hw : s.waiting o = false) (hst : s.objSt o = stopping o) :
    Completes (.stopComplete o) s (fun t => t.objSt o = 0) := by
  refine .of_next (u := (s.offObj o).recEvent 0x29 (objArg o)) ?_ ?_
  · show execStopComplete o s = _
    rw [execStopComplete, State.completeObj, if_neg (by simp [hw]), if_pos hst]
  · rw [objSt_of_aud (State.recEvent_aud ..)]
    exact s.offObj_objSt o

theorem stopComplete_started {o : AudObj} (hw : s.waiting o = false) (hst : s.objSt o ≠ stopping o) (hm : o ∈ s.aud.starts)
    (he : s.entered o = true) : Completes (.stopComplete o) s (fun t => t.aud.starts = s.aud.starts.erase o ∧ t.objSt o = s.objSt o) := by
  refine .of_next (u := ({ s with aud := { s.aud with starts := s.aud.starts.erase o } } : State).recEvent 0x29 (objArg o + 2 ^ 31)) ?_ ⟨?_, ?_⟩
  · show execStopComplete o s = _
    rw [execStopComplete, State.completeObj, if_neg (by simp [hw]), if_neg hst, if_pos ⟨by simpa using hm, he⟩]
  · rw [State.recEvent_aud]
  · rw [objSt_of_aud (State.recEvent_aud ..)]
    cases o <;> rfl

/-! ### The trigger (R265) -/

/-- What the content of an object leaves of the states of the streams and ports. -/
structure SameRun (s t : State) : Prop where
  txs : ∀ i, (t.txs i).st = (s.txs i).st ∧ (t.txs i).next = (s.txs i).next
  aeso : ∀ q, (t.aeso q).st = (s.aeso q).st
  hw : t.hw = s.hw

theorem SameRun.refl (s : State) : SameRun s s := ⟨fun _ => ⟨rfl, rfl⟩, fun _ => rfl, rfl⟩

theorem SameRun.trans (h : SameRun s t) (h' : SameRun t u) : SameRun s u :=
  ⟨fun i => ⟨(h'.txs i).1.trans (h.txs i).1, (h'.txs i).2.trans (h.txs i).2⟩, fun q => (h'.aeso q).trans (h.aeso q), h'.hw.trans h.hw⟩

theorem State.setTxs_run (s : State) (i : Nat) {x : Txs} (h1 : x.st = (s.txs i).st) (h2 : x.next = (s.txs i).next) : SameRun s (s.setTxs i x) := by
  refine ⟨fun j => ?_, fun _ => rfl, rfl⟩
  by_cases hj : j = i
  · subst hj
    rw [State.setTxs_txs]
    exact ⟨h1, h2⟩
  · have hne : (s.setTxs i x).txs j = s.txs j := Tab.get_set_ne _ _ _ hj
    rw [hne]
    exact ⟨rfl, rfl⟩

theorem State.setAeso_run (s : State) (q : Nat) {x : AesOut} (h1 : x.st = (s.aeso q).st) : SameRun s (s.setAeso q x) := by
  refine ⟨fun _ => ⟨rfl, rfl⟩, fun r => ?_, rfl⟩
  by_cases hr : r = q
  · subst hr
    rw [State.setAeso_aeso, h1]
  · exact congrArg AesOut.st (Tab.get_set_ne _ _ _ hr)

theorem State.setGate_run (s : State) (o : AudObj) (g : ChGate) : SameRun s (s.setGate o g) := by
  cases o with
  | rxs i => exact ⟨fun _ => ⟨rfl, rfl⟩, fun _ => rfl, rfl⟩
  | txs i => exact s.setTxs_run i rfl rfl
  | aesi i => exact ⟨fun _ => ⟨rfl, rfl⟩, fun _ => rfl, rfl⟩
  | aeso i => exact s.setAeso_run i rfl

theorem State.openAll_run (s : State) (o : AudObj) (n : Nat) : SameRun s (s.openAll o n) :=
  List.foldlRecOn (motive := SameRun s) _ _ (.refl s) fun t ht _ _ => ht.trans (t.setGate_run ..)

theorem State.waitAll_run (s : State) (o : AudObj) (on : Bool) (n : Nat) : SameRun s (s.waitAll o on n) := by
  obtain ⟨w, hw⟩ := s.waitAll_only o on n
  rw [hw]
  exact ⟨fun _ => ⟨rfl, rfl⟩, fun _ => rfl, rfl⟩

/-- What has its run set by a start: one object, as its kind says. -/
def State.outSet (s : State) (o : AudObj) (r : Int) : State :=
  match o with
  | .txs i => s.setTxs i { s.txs i with st := 2, next := some r.toNat }
  | .aeso q => s.setAeso q { s.aeso q with st := 3, start := some (rowFirst (s.objFs o) r), last := none }
  | _ => s

theorem State.startOut_run (s : State) (o : AudObj) (r : Int) (zc : Bool) : SameRun (s.outSet o r) (s.startOut o r zc) := by
  have hpend (t : State) : SameRun t (t.startPending o) := ⟨fun _ => ⟨rfl, rfl⟩, fun _ => rfl, rfl⟩
  have hrun : SameRun (s.outSet o r) (if zc then (s.outSet o r).waitAll o true (rowFirst (s.objFs o) r)
      else (s.outSet o r).openAll o (rowFirst (s.objFs o) r)) := by
    split
    · exact State.waitAll_run ..
    · exact State.openAll_run ..
  refine hrun.trans ?_
  have heq : s.startOut o r zc = (if zc then (s.outSet o r).waitAll o true (rowFirst (s.objFs o) r)
      else (s.outSet o r).openAll o (rowFirst (s.objFs o) r)).startPending o := by
    cases o <;> rfl
  rw [heq]
  exact hpend _

/-- A stream that a start has set runs from row `r` on. -/
def State.txRuns (s : State) (i : Fin 512) (r : Int) : Prop := (s.txs i).st = 2 ∧ (s.txs i).next = some r.toNat

theorem State.startOut_txRuns (s : State) (i : Fin 512) (r : Int) (zc : Bool) : (s.startOut (.txs i) r zc).txRuns i r := by
  obtain ⟨h1, h2⟩ := (s.startOut_run (.txs i) r zc).txs i
  have hset : ((s.outSet (.txs i) r).txs i) = { s.txs i with st := 2, next := some r.toNat } := s.setTxs_txs ..
  rw [State.txRuns, h1, h2, hset]
  exact ⟨rfl, rfl⟩

theorem State.startOut_txRuns_keeps (s : State) (o : AudObj) (r : Int) (zc : Bool) {i : Fin 512} (h : s.txRuns i r) : (s.startOut o r zc).txRuns i r := by
  by_cases ho : o = .txs i
  · subst ho
    exact s.startOut_txRuns i r zc
  · obtain ⟨h1, h2⟩ := (s.startOut_run o r zc).txs i
    have hset : (s.outSet o r).txs i = s.txs i := by
      cases o with
      | txs j => exact Tab.get_set_ne _ _ _ fun e => ho (congrArg AudObj.txs (Fin.ext e.symm))
      | rxs j => rfl
      | aesi j => rfl
      | aeso j => rfl
    rw [State.txRuns, h1, h2, hset]
    exact h

theorem State.startOut_aesRuns (s : State) (p : Fin 16) (r : Int) (zc : Bool) : ((s.startOut (.aeso p) r zc).aeso p).st = 3 := by
  rw [(s.startOut_run (.aeso p) r zc).aeso p]
  exact congrArg AesOut.st (s.setAeso_aeso ..)

theorem State.startOut_aesRuns_keeps (s : State) (o : AudObj) (r : Int) (zc : Bool) (h : (s.aeso p).st = 3) : ((s.startOut o r zc).aeso p).st = 3 := by
  by_cases ho : o = .aeso p
  · subst ho
    exact s.startOut_aesRuns p r zc
  · rw [(s.startOut_run o r zc).aeso p]
    have hset : (s.outSet o r).aeso p = s.aeso p := by
      cases o with
      | aeso j => exact Tab.get_set_ne _ _ _ fun e => ho (congrArg AudObj.aeso (Fin.ext e.symm))
      | rxs j => rfl
      | txs j => rfl
      | aesi j => rfl
    rw [hset]
    exact h

theorem State.startOut_hw (s : State) (o : AudObj) (r : Int) (zc : Bool) : (s.startOut o r zc).hw = s.hw := by
  refine (s.startOut_run o r zc).hw.trans ?_
  cases o <;> rfl

/-- After a fold that goes through `a`, what its own step gives and the other steps keep. -/
theorem foldl_reaches {σ α : Type} {f : σ → α → σ} {Q : σ → Prop} {a : α} {l : List α} (s : σ) (ha : a ∈ l) (hat : ∀ t, Q (f t a))
    (hkeep : ∀ t b, Q t → Q (f t b)) : Q (l.foldl f s) := by
  obtain ⟨l1, l2, rfl⟩ := List.append_of_mem ha
  rw [List.foldl_append, List.foldl_cons]
  exact List.foldlRecOn (motive := Q) l2 f (hat _) fun t ht b _ => hkeep t b ht

theorem triggerFire_spec (hon : s.audOn = true) (harm : bits (s.hwOf .AUD_TRIG_CTL) 1 0 = 1) (hd : (s.aud.trigAt : Int) * 2 ^ 40 ≤ s.tc) :
    Completes .triggerFire s (fun t => bits (t.hwOf .AUD_TRIG_CTL) 1 0 = 2 ∧
      (s.trigHits (.txs i) = true → (t.txs i).st = 2 ∧ (t.txs i).next = some (s.aud.trigAt / 125000)) ∧
      (s.trigHits (.aeso p) = true → (t.aeso p).st = 3)) := by
  refine .of_if rfl ⟨hon, harm, hd⟩ ⟨?_, fun hi => ?_, fun hp => ?_⟩
  · have hhw : s.fireTrig.hw = (s.setHw .AUD_TRIG_CTL 1 0 2).hw :=
      List.foldlRecOn (motive := fun t : State => t.hw = (s.setHw .AUD_TRIG_CTL 1 0 2).hw) _ _ rfl fun t ht o _ => (t.startOut_hw o _ _).trans ht
    have hset : (s.setHw .AUD_TRIG_CTL 1 0 2).hwOf .AUD_TRIG_CTL = putBits (s.hwOf .AUD_TRIG_CTL) 1 0 2 := Tab.get_set_same ..
    rw [hwOf_of_hw hhw, hset, bits_putBits]
    rfl
  · have hmem : AudObj.txs i ∈ audObjs.filter s.trigHits :=
      List.mem_filter.2 ⟨by simp [audObjs], hi⟩
    exact foldl_reaches (Q := fun t : State => t.txRuns i (s.aud.trigAt / 125000 : Nat)) _ hmem (fun t => t.startOut_txRuns i _ _)
      fun t o ht => t.startOut_txRuns_keeps o _ _ ht
  · have hmem : AudObj.aeso p ∈ audObjs.filter s.trigHits :=
      List.mem_filter.2 ⟨by simp [audObjs, aesPorts], hp⟩
    exact foldl_reaches (Q := fun t : State => (t.aeso p).st = 3) _ hmem (fun t => t.startOut_aesRuns p _ _)
      fun t o ht => t.startOut_aesRuns_keeps o _ _ ht

/-- Settles O41: the rows of streams and ports, one lemma each. -/
theorem audioStreamsComplete : Obligations.AudioStreamsComplete := by
  intro i e p g h f o ch m n0 w n s x y r idx arrives passed fs row media asrc gone at_
  refine ⟨?_, ?_, streamPacketLaunch_spec, aes3FrameReceive_found f, aes3FrameReceive_locks f, aes3UnlockTimeout_spec, aes3AsrcLoss_spec,
    aes3AsrcRun_spec, fun hon hst hs => aes3FrameSend_spec hon hst hs rfl, zeroCrossingApply_spec, zcTimeout_spec, stopComplete_stopped,
    stopComplete_started, triggerFire_spec⟩
  · exact fun ⟨hon, hf, hsp⟩ hno => streamPacketReceive_nobody hon hf hsp hno
  · intro ⟨hon, hf, hsp⟩ hh hits hsum hok hst hidx hlen hlate hearly hempty
    obtain ⟨E, hE⟩ := streamPacketReceive_placed hon hf hsp hh hits hsum
    exact .of_next hE (legPacket_placed { s with eth := E } i passed r hok hst hidx hlen hlate hearly hempty)

end Sys2Proof.Machine
end

section
/-! The release of a mirrored write into program memory (R165, R329). -/

namespace Sys2Proof.Machine

set_option Elab.async false

/-- A recorded write of 7, mirrored by the twin with instant 0, into the first word of the P memory of sequencer 1. -/
def pMemMirrored : GateEntry :=
  { ch := .seqmem 0x02020000 7, org := .twin, recorded := some 0, apply := some 0, at_ := 0, ownerOk := true, gauge := 0, cand30 := false }

/-- The device at work with that write in its gate. -/
def State.pMemMirrors : State := { State.awake with log := { State.awake.log with gate := [pMemMirrored] } }

/-- Refutes O46: a mirrored write whose instant has come puts no word into P memory, since `putSeqMem` writes with `Seq.setMem`, which keeps
P memory as a program finds it (R142), while R165 and R329 let the write reach it in a STOPPED sequencer. In the state above nothing refuses
the recorded write of 7, it leaves the gate at its instant, and the word reads 0 behind it. -/
theorem not_twinEventsComplete : ¬ Obligations.TwinEventsComplete := by
  intro h
  obtain ⟨-, -, -, -, -, -, -, -, hmem, -⟩ := h 0 ⟨0, 0⟩ ⟨.GAU_SNAP, 0, 0, 0, 0⟩ 0 0 0 0 pMemMirrored 0 0 .sync [] 0 0x02020000 7 State.pMemMirrors
  have hread := ((hmem ⟨rfl, rfl⟩ rfl rfl rfl rfl rfl rfl (by decide) (by decide) (by decide +kernel) (by decide) (by decide +kernel)).post rfl).2
  revert hread
  decide +kernel

end Sys2Proof.Machine
end

section
/-! The rows of the row and of the mix (R22, R260 to R262, R271 to R284, R323): settles O42. -/

namespace Sys2Proof.Machine

set_option Elab.async false

variable {s t u : State}

/-! ### What the steps of a row leave of the mix and of the audio objects -/

/-- The planned changes, the biquads that wait and the rows of the meter block stay, and so do the events that have fired. -/
structure MixKept (s t : State) : Prop where
  fired : t.fired = s.fired
  plan : t.mix.plan = s.mix.plan
  bqs : t.mix.bqs = s.mix.bqs
  rows : t.mix.metRows = s.mix.metRows

theorem MixKept.refl (s : State) : MixKept s s := ⟨rfl, rfl, rfl, rfl⟩

theorem MixKept.trans (h : MixKept s t) (h' : MixKept t u) : MixKept s u :=
  ⟨h'.fired.trans h.fired, h'.plan.trans h.plan, h'.bqs.trans h.bqs, h'.rows.trans h.rows⟩

theorem MixKept.of_eq (hf : t.fired = s.fired) (hm : t.mix = s.mix) : MixKept s t := ⟨hf, by rw [hm], by rw [hm], by rw [hm]⟩

theorem MixKept.foldl {α : Type} {f : State → α → State} {l : List α} (hf : ∀ t a, MixKept t (f t a)) (s : State) : MixKept s (l.foldl f s) :=
  List.foldlRecOn (motive := MixKept s) l f (.refl s) fun t ht a _ => ht.trans (hf t a)

theorem State.pmcMix_only (s : State) (ev k : Nat) : ∃ pm, s.pmcMix ev k = { s with pmc := pm } := State.pmcEv_only ..

theorem State.setStrip_kept (s : State) (k : Nat) (x : StripSt) : MixKept s (s.setStrip k x) := ⟨rfl, rfl, rfl, rfl⟩

theorem State.stripFlags_only (s : State) (r : RegName) (k : Nat) (p : Pass) : ∃ H pm, s.stripFlags r k p = { s with hw := H, pmc := pm } := by
  unfold State.stripFlags
  extract_lets s1 s2
  obtain ⟨H1, h1⟩ : ∃ H, s1 = { s with hw := H } := by
    by_cases hc : p.clip = true
    · exact ⟨_, if_pos hc⟩
    · exact ⟨s.hw, if_neg hc⟩
  obtain ⟨H2, h2⟩ : ∃ H, s2 = { s with hw := H } := by
    by_cases hc : p.wrap = true
    · exact ⟨_, (if_pos hc).trans (by rw [h1]; rfl)⟩
    · exact ⟨H1, (if_neg hc).trans h1⟩
  rw [h2]
  by_cases hc : p.sat = true
  · obtain ⟨pm, hpm⟩ := (({ s with hw := H2 } : State).setHw r 29 29 1 k).pmcMix_only 4 1
    exact ⟨_, pm, (if_pos hc).trans (hpm.trans rfl)⟩
  · exact ⟨H2, s.pmc, if_neg hc⟩

theorem State.runInput_kept (s : State) (i : Nat) (xs : List Int) : MixKept s (s.runInput i xs).2 := by
  unfold State.runInput
  extract_lets _ _ _ _ _ p3
  obtain ⟨H, pm, h⟩ := (s.setStrip i (p3.st.meter p3.xs)).stripFlags_only .MIX_ISTAT i p3
  dsimp only
  rw [h]
  exact ⟨rfl, rfl, rfl, rfl⟩

theorem State.runOutput_aud (s : State) (o : Nat) (xs : List Int) : (s.runOutput o xs).2.aud = s.aud := by
  unfold State.runOutput
  extract_lets _ _ _ p2
  obtain ⟨H, pm, h⟩ := (s.setStrip (1024 + o) p2.st).stripFlags_only .MIX_OSTAT o p2
  dsimp only
  rw [h]
  rfl

theorem State.inValue_only (s : State) (o : AudObj) (ch n : Nat) : ∃ fr, (s.inValue o ch n).2 = { s with free := fr } := by
  unfold State.inValue
  dsimp only
  split
  · exact ⟨s.free, rfl⟩
  · split
    · exact ⟨_, rfl⟩
    · exact ⟨s.free, rfl⟩

theorem State.inValues_kept (o : AudObj) (ch : Nat) : ∀ (k : Nat) (s : State) (n : Nat), MixKept s (s.inValues o ch n k).2
  | 0, s, _ => .refl s
  | k + 1, s, n => by
    obtain ⟨fr, hfr⟩ := s.inValue_only o ch n
    have h1 : MixKept s (s.inValue o ch n).2 := by rw [hfr]; exact ⟨rfl, rfl, rfl, rfl⟩
    exact h1.trans (State.inValues_kept o ch k _ (n + 1))

theorem State.inputRow_kept (s : State) (p : Int) (i : Nat) : MixKept s (s.inputRow p i).2 := by
  unfold State.inputRow
  dsimp only
  split
  · exact .refl s
  · split
    · split
      · exact .refl s
      · exact State.inValues_kept ..
    · split
      · exact .refl s
      · exact State.inValues_kept ..
    · exact .refl s

theorem skeinInputs_kept (p : Int) (l : List Nat) (s : State) : MixKept s (l.foldl (skeinInput p) ([], s)).2 :=
  List.foldlRecOn (motive := fun a : List (List Int) × State => MixKept s a.2) l _ (.refl s)
    fun a ha i _ => (ha.trans (a.2.inputRow_kept p i)).trans (State.runInput_kept ..)

/-- The row of inputs that went through their strips is frozen. -/
def State.frozenRow (r : List (List Int) × State) : State := { r.2 with aud := { r.2.aud with frozen := some (r.1, 0) } }

theorem State.frozenRow_kept {r : List (List Int) × State} (h : MixKept s r.2) : MixKept s (State.frozenRow r) := ⟨h.fired, h.plan, h.bqs, h.rows⟩

theorem State.freeze_kept (s : State) (p : Int) : MixKept s (s.freeze p) :=
  State.frozenRow_kept (skeinInputs_kept p (List.range 1024) s)

theorem State.missingRow_kept (s : State) (p : Int) (i : Nat) : MixKept s (s.missingRow p i) := by
  unfold State.missingRow
  dsimp only
  split
  · exact .refl s
  · split
    · exact ⟨rfl, rfl, rfl, rfl⟩
    · exact ⟨rfl, rfl, rfl, rfl⟩

theorem State.aesPrune_kept (s : State) (p : Int) (i : Nat) : MixKept s (s.aesPrune p i) := ⟨rfl, rfl, rfl, rfl⟩

theorem State.sampleRx_kept (s : State) : MixKept s s.sampleRx := .foldl (fun _ _ => .of_eq (State.sample_fired ..) (State.sample_mix ..)) s

theorem State.planNew_spec (s : State) (row : Int) : ∃ r w ups pm, s.planNew row =
    { s with mix := { s.mix with ramps := r, waits := w, plan := some (row, ups) }, pmc := pm } := by
  unfold State.planNew
  dsimp only
  generalize s.mix.waits.foldl s.planChange (s.mix.ramps.foldl s.planRamp ⟨[], [], [], 0, 0⟩) = p
  obtain ⟨_, h1⟩ := State.pmcMix_only { s with mix := { s.mix with ramps := p.ramps, waits := p.waits, plan := some (row, p.ups) } } 0 p.ramped
  rw [h1]
  obtain ⟨_, h2⟩ := State.pmcMix_only { s with mix := { s.mix with ramps := p.ramps, waits := p.waits, plan := some (row, p.ups) }, pmc := _ } 1 p.cut
  rw [h2]
  obtain ⟨_, h3⟩ := State.pmcMix_only { s with mix := { s.mix with ramps := p.ramps, waits := p.waits, plan := some (row, p.ups) }, pmc := _ } 2 p.waits.length
  exact ⟨p.ramps, p.waits, p.ups, _, h3⟩

/-! ### The start of a row (R22, R260) -/

/-- Every biquad has its coefficients in force, and the planned changes are in force too: no plan is left. -/
structure MixStarted (s t : State) : Prop where
  fired : t.fired = s.fired
  plan : t.mix.plan = none
  bqs : t.mix.bqs = []
  rows : t.mix.metRows = s.mix.metRows + 1

theorem MixStarted.keep (h : MixStarted s t) (h' : MixKept t u) : MixStarted s u :=
  ⟨h'.fired.trans h.fired, h'.plan.trans h.plan, h'.bqs.trans h.bqs, h'.rows.trans h.rows⟩

theorem MixStarted.foldl {α : Type} {f : State → α → State} {l : List α} (h : MixStarted s t) (hf : ∀ t a, MixKept t (f t a)) :
    MixStarted s (l.foldl f t) := h.keep (.foldl hf t)

theorem State.planRow_kept (s : State) (row : Int) : (s.planRow row).fired = s.fired ∧ (s.planRow row).mix.bqs = s.mix.bqs ∧
    (s.planRow row).mix.metRows = s.mix.metRows := by
  obtain ⟨r, w, ups, pm, h⟩ := s.planNew_spec row
  unfold State.planRow
  split
  · split
    · exact ⟨rfl, rfl, rfl⟩
    · rw [h]; exact ⟨rfl, rfl, rfl⟩
  · rw [h]; exact ⟨rfl, rfl, rfl⟩

theorem State.meterOuts_spec (s : State) (p : Int) : (s.meterOuts p).fired = s.fired ∧ (s.meterOuts p).mix.plan = s.mix.plan ∧
    (s.meterOuts p).mix.bqs = s.mix.bqs ∧ (s.meterOuts p).mix.metRows = s.mix.metRows + 1 := by
  have h := MixKept.foldl (f := fun (t : State) (o : Nat × List Int) => t.setStrip (1024 + o.1) ((t.strip (1024 + o.1)).meter o.2))
    (l := (s.aud.media.get p.toNat ⟨[], []⟩).outs) (fun t _ => t.setStrip_kept ..) s
  exact ⟨h.fired, h.plan, h.bqs, congrArg (· + 1) h.rows⟩

theorem State.meterOuts_started (s : State) (p : Int) :
    MixStarted s ((((s.boundary .row).commitBqs.applyPlan).sampleRx).meterOuts p) := by
  obtain ⟨F, hF⟩ := s.applyE_only .row
  have hb : s.boundary .row = { s with force := F } := hF
  rw [hb]
  generalize hc : ({ s with force := F } : State).commitBqs = c
  have hc1 : c.fired = s.fired ∧ c.mix.bqs = [] ∧ c.mix.metRows = s.mix.metRows := by rw [← hc]; exact ⟨rfl, rfl, rfl⟩
  obtain ⟨f1, b1, r1⟩ := hc1
  obtain ⟨f2, b2, r2⟩ := c.planRow_kept c.rowNum
  have h3 := c.applyPlan.sampleRx_kept
  obtain ⟨f4, p4, b4, r4⟩ := c.applyPlan.sampleRx.meterOuts_spec p
  exact ⟨f4.trans (h3.fired.trans (f2.trans f1)), p4.trans h3.plan, b4.trans (h3.bqs.trans (b2.trans b1)),
    r4.trans (congrArg (· + 1) (h3.rows.trans (r2.trans r1)))⟩

/-- The streams and the AES3 inputs of a row, where AUD runs (R252). -/
def State.rowOfStreams (s : State) (p : Int) : State :=
  if s.audOn then (s.aud.rxs.map Prod.fst).foldl (fun t i => t.missingRow p i) s else s

/-- The AES3 inputs drop what lies behind the row, where AUD runs. -/
def State.rowOfInputs (s : State) (p : Int) : State :=
  if s.audOn then (s.aud.aesi.map Prod.fst).foldl (fun t i => t.aesPrune p i) s else s

theorem State.rowOfStreams_kept (s : State) (p : Int) : MixKept s (s.rowOfStreams p) := by
  unfold State.rowOfStreams
  split
  · exact .foldl (fun t i => t.missingRow_kept p i) s
  · exact .refl s

theorem State.rowOfInputs_kept (s : State) (p : Int) : MixKept s (s.rowOfInputs p) := by
  unfold State.rowOfInputs
  split
  · exact .foldl (fun t i => t.aesPrune_kept p i) s
  · exact .refl s

theorem MixStarted.noRowMsgs (h : MixStarted s t) : MixStarted s { t with aud := { t.aud with rowMsgs := [] } } :=
  ⟨h.fired, h.plan, h.bqs, h.rows⟩

theorem State.startRow_started (s : State) : MixStarted s s.startRow := by
  have h1 := s.meterOuts_started s.rowNum
  unfold State.startRow
  extract_lets p s1 s2 s3 s4
  replace h1 : MixStarted s s1 := h1
  clear_value s1
  have h2 : MixStarted s s2 := h1.keep (s1.rowOfStreams_kept p)
  clear_value s2
  have h3 : MixStarted s s3 := h2.keep (s2.freeze_kept p)
  clear_value s3
  have h4 : MixStarted s s4 := h3.keep (s3.rowOfInputs_kept p)
  clear_value s4
  exact h4.noRowMsgs

theorem State.startRow_rowMsgs (s : State) : s.startRow.aud.rowMsgs = [] := by
  unfold State.startRow
  extract_lets p s1 s2 s3 s4
  clear_value s4
  rfl

theorem rowStart_starts (hc : s.coreOn = true) (he : s.rowEdge = true) (hf : s.fresh 0x300 = true) : Completes .rowStart s (fun t =>
    0x300 ∈ t.fired ∧ t.aud.rowMsgs = [] ∧ t.mix.plan = none ∧ t.mix.bqs = [] ∧ t.mix.metRows = s.mix.metRows + 1) := by
  obtain ⟨h1, h2, h3, h4⟩ := (s.fire 0x300).startRow_started
  refine Completes.of_if (u := (s.fire 0x300).startRow) (w := s) rfl ⟨hc, he, hf⟩ ⟨?_, State.startRow_rowMsgs _, h2, h3, h4⟩
  rw [h1]
  exact List.mem_cons_self

end Sys2Proof.Machine
end

section
/-! The OUTROW messages, the STRIP deadline and the delay lines (R261, R262, R283). -/

namespace Sys2Proof.Machine

set_option Elab.async false

variable {s t : State}

/-! ### OUTROW -/

theorem outrow_runs {n : Fin 160} (o : Fin 1024) (tag : Half) {samples : List Word} (hr : s.runs n = true) (hn : 16 ≤ n.val)
    (hl : samples.length = s.rowLen) : exec (.outrow n o tag samples) s = .next (s.outrowOp o tag.toNat (samples.map BitVec.toInt)) := by
  show execOutrow n o tag samples s = _
  rw [execOutrow, if_neg (not_not_intro hr), if_neg (by omega), if_neg (not_not_intro hl)]

theorem outrow_kept {n : Fin 160} {o : Fin 1024} {tag : Half} {samples : List Word} (hr : s.runs n = true) (hn : 16 ≤ n.val)
    (hl : samples.length = s.rowLen) (hon : s.audOn = true) (ht : tag.toNat = (s.rowNum % 65536).toNat) (hs : s.aud.stripRow ≠ some s.rowNum)
    (hns : s.rowNs < 110000) : Completes (.outrow n o tag samples) s (fun t =>
      t.aud = { s.aud with rowMsgs := s.aud.rowMsgs.set o (samples.map BitVec.toInt) }) := by
  refine .of_next (outrow_runs o tag hr hn hl) ?_
  rw [State.outrowOp, if_neg (not_not_intro hon), if_neg (by rintro (h | h | h); exacts [h ht, hs h, by omega]), State.sample_aud]
  obtain ⟨pm, h⟩ := State.pmcAud_only ({ s with aud := { s.aud with rowMsgs := s.aud.rowMsgs.set o (samples.map BitVec.toInt) } }) 7 1
  rw [h]

theorem outrow_late {n : Fin 160} {o : Fin 1024} {tag : Half} {samples : List Word} (hr : s.runs n = true) (hn : 16 ≤ n.val)
    (hl : samples.length = s.rowLen) (hon : s.audOn = true) (hns : 110000 ≤ s.rowNs) : Completes (.outrow n o tag samples) s (fun t =>
      t.aud = s.aud ∧ bits (t.hwOf .AUD_STRIP) 15 0 = min 65535 (bits (s.hwOf .AUD_STRIP) 15 0 + 1)) := by
  refine .of_next (outrow_runs o tag hr hn hl) ?_
  rw [State.outrowOp, if_neg (not_not_intro hon), if_pos (.inr (.inr hns))]
  exact ⟨State.bump_aud .., s.bump_hwOf .AUD_STRIP 15 0 1 0 0 0⟩

/-! ### The STRIP deadline -/

theorem Reacts.aud_eq {μ ρ : Prop} (h : Reacts μ ρ s t) : t.aud = s.aud := by
  obtain ⟨_, _, _, _, _, _, _, _, _, _, _, _, _, _, _, _, _, _, _, _, _, _, _, rfl⟩ := h.keeps
  rfl

theorem foldl_aud {α β : Type} {f : α × State → β → α × State} (hf : ∀ a p, ∃ x u, f a p = (x, u) ∧ Reacts True True a.2 u) (l : List β)
    (a : α × State) : (l.foldl f a).2.aud = a.2.aud :=
  List.foldlRecOn (motive := fun b : α × State => b.2.aud = a.2.aud) l f rfl fun b hb p _ => by
    obtain ⟨x, u, he, hu⟩ := hf b p
    rw [he]
    exact hu.aud_eq.trans hb

theorem State.readLine_aud (s : State) (o n len : Nat) : (s.readLine o n len).2.aud = s.aud :=
  foldl_aud (fun _ _ => ⟨_, _, rfl, Reacts.refl.memRead⟩) (lineParts n len) ([], s)

theorem State.writeLine_aud (s : State) (o n : Nat) (xs : List Int) : (s.writeLine o n xs).aud = s.aud :=
  foldl_aud (fun _ _ => ⟨_, _, rfl, Reacts.refl.memWrite⟩) (lineParts n xs.length) (xs, s)

theorem State.delayOutput_aud (s : State) (o n : Nat) (xs : List Int) : (s.delayOutput o n xs).2.aud = s.aud := by
  unfold State.delayOutput
  dsimp only
  rw [State.writeLine_aud, State.readLine_aud]

/-- Output `o` of the row has no OUTROW message. -/
def State.rowMissing (s : State) (o : Nat) : Bool := (s.aud.rowMsgs.get o []).isEmpty

theorem stripOut_spec (a : OutAcc) (o : Nat) : (stripOut a o).s.aud = a.s.aud ∧
    (stripOut a o).miss = if a.s.rowMissing o then a.miss ++ [o] else a.miss := by
  refine ⟨?_, rfl⟩
  unfold stripOut
  dsimp only
  rw [State.delayOutput_aud, State.runOutput_aud]
  split
  · obtain ⟨_, h⟩ := (a.s.bump .AUD_STRIP 31 16).pmcAud_only 8 1
    rw [h]
    rfl
  · rfl

theorem stripOuts_spec (l : List Nat) : ∀ a : OutAcc, (l.foldl stripOut a).s.aud = a.s.aud ∧
    (l.foldl stripOut a).miss = a.miss ++ l.filter a.s.rowMissing := by
  induction l with
  | nil => intro a; exact ⟨rfl, by simp⟩
  | cons o l ih =>
    intro a
    obtain ⟨h1, h2⟩ := stripOut_spec a o
    obtain ⟨i1, i2⟩ := ih (stripOut a o)
    have hm : (stripOut a o).s.rowMissing = a.s.rowMissing := by
      funext x
      rw [State.rowMissing, h1, State.rowMissing]
    refine ⟨i1.trans h1, i2.trans ?_⟩
    rw [hm, h2, List.filter_cons]
    split
    · rw [List.append_assoc]; rfl
    · rfl

theorem State.sendDigest_aud (s : State) (rows : List (List Int)) : (s.sendDigest rows).aud = s.aud := by
  unfold State.sendDigest
  split
  · rfl
  · rfl

/-- The media row of the outputs that went through the strips, and the row whose deadline this is. -/
def OutAcc.stripped (a : OutAcc) (p : Int) : State :=
  let s1 := a.s.sendDigest a.rows
  let media := (s1.aud.media.filter fun m => decide (p ≤ m.1 + 16))
  { s1 with aud := { s1.aud with stripRow := some p, media := Tab.set media (p + 1).toNat ⟨a.outs, a.miss⟩ } }

theorem OutAcc.stripped_spec (a : OutAcc) (p : Int) : (a.stripped p).aud.stripRow = some p ∧
    ((a.stripped p).aud.media.get (p + 1).toNat ⟨[], []⟩).miss = a.miss := by
  refine ⟨rfl, ?_⟩
  show ((Tab.set _ (p + 1).toNat (⟨a.outs, a.miss⟩ : MediaRow)).get (p + 1).toNat ⟨[], []⟩).miss = _
  rw [Tab.get_set_same]

theorem stripDeadline_spec (o : Fin 1024) (hon : s.audOn = true) (hns : 110000 ≤ s.rowNs) (hs : s.aud.stripRow ≠ some s.rowNum) :
    Completes .stripDeadline s (fun t => t.aud.stripRow = some s.rowNum ∧
      (o.val ∈ (t.aud.media.get (s.rowNum + 1).toNat ⟨[], []⟩).miss ↔ (s.aud.rowMsgs.get o []).isEmpty = true)) := by
  obtain ⟨-, h2⟩ := stripOuts_spec (List.range 1024) ⟨[], [], [], s⟩
  refine Completes.of_if (u := OutAcc.stripped ((List.range 1024).foldl stripOut ⟨[], [], [], s⟩) s.rowNum) (w := s) rfl ⟨hon, hns, hs⟩ ?_
  obtain ⟨h3, h4⟩ := OutAcc.stripped_spec ((List.range 1024).foldl stripOut ⟨[], [], [], s⟩) s.rowNum
  refine ⟨h3, ?_⟩
  rw [h4, h2, List.nil_append, List.mem_filter]
  exact ⟨fun h => h.2, fun h => ⟨List.mem_range.2 o.isLt, h⟩⟩

/-! ### Delay lines and meters -/

/-- The content of output `o` in media row `m` is 0. -/
def State.zeroRow (s : State) (m : Nat) (o : Nat) : State :=
  { s with aud := { s.aud with
    media := s.aud.media.set m { s.aud.media.get m ⟨[], []⟩ with outs := (s.aud.media.get m ⟨[], []⟩).outs.set o (List.replicate s.rowLen (0 : Int)) } } }

theorem delayLineDeadline_spec {o : Fin 1024} (hon : s.audOn = true) (hns : 122000 ≤ s.rowNs) (hs : s.aud.stripRow = some s.rowNum)
    (hf : s.fresh (0x30000 + o.val) = true) : Completes (.delayLineDeadline o) s (fun t =>
      (t.aud.media.get (s.rowNum + 1).toNat ⟨[], []⟩).outs.get o [] = List.replicate s.rowLen 0 ∧
      bits (t.hwOf .MIX_DLYLATE) 31 0 = min (2 ^ 32 - 1) (bits (s.hwOf .MIX_DLYLATE) 31 0 + 1)) := by
  refine Completes.of_if (u := ((s.fire (0x30000 + o.val)).zeroRow (s.rowNum + 1).toNat o).bump .MIX_DLYLATE 31 0) (w := s) rfl
    ⟨hon, hns, hs, hf⟩ ⟨?_, State.bump_hwOf _ .MIX_DLYLATE 31 0 1 0 0 0⟩
  rw [State.bump_aud]
  show ((Tab.set _ _ (_ : MediaRow)).get (s.rowNum + 1).toNat ⟨[], []⟩).outs.get o [] = _
  rw [Tab.get_set_same]
  exact Tab.get_set_same ..

theorem Tab.get_map_snd {α β : Type} (f : α → β) (d : α) (k : Nat) : ∀ t : Tab α, Tab.get (t.map fun p => (p.1, f p.2)) k (f d) = f (Tab.get t k d)
  | [] => rfl
  | (a, v) :: t => by
    rw [List.map_cons, Tab.get, Tab.get, Tab.get_map_snd f d k t, apply_ite f]

theorem meterBlockEnd_spec (hc : s.coreOn = true) (hm : s.fl .MIX_MET 12 0 ≤ s.mix.metRows) : Completes .meterBlockEnd s (fun t =>
    t.mix.metRows = 0 ∧ ∀ k, t.strip k = (s.strip k).endBlock) := by
  refine Completes.of_if (u := s.endMeters) (w := s) rfl ⟨hc, hm⟩ ?_
  obtain ⟨pm, h⟩ := State.pmcMix_only { s with mix := { s.mix with metRows := 0, strips := s.mix.strips.map fun p => (p.1, p.2.endBlock) } } 5 1
  rw [show s.endMeters = _ from h]
  exact ⟨rfl, fun k => Tab.get_map_snd StripSt.endBlock StripSt.reset k s.mix.strips⟩

/-! ### FETCH and the changes of a row (R272 to R275) -/

theorem State.runs_listens {n : Nat} (h : s.runs n = true) : s.listens n = true := by
  have hst : (s.sq n).st = .running := of_decide_eq_true (Bool.and_eq_true _ _ ▸ h).1
  rw [State.listens, hst]

theorem State.listens_iff (s : State) (n : Nat) : s.listens n = true ↔ (s.sq n).st ≠ .stopped ∧ (s.sq n).st ≠ .fenced := by
  unfold State.listens
  cases (s.sq n).st <;> simp

theorem State.wakeFor_listens {n : Nat} (p : Nat) (h : s.listens n = true) : (s.wakeFor n p).listens n = true := by
  unfold State.wakeFor
  split
  · exact h
  · split
    · rw [State.listens_iff, State.setSq_sq]
      exact ⟨nofun, nofun⟩
    · exact h

/-- A sequencer that listens goes on listening behind a delivery. -/
theorem State.deliver_listens {n : Nat} (p : Nat) (x : Msg) (h : s.listens n = true) : (s.deliver n p x).listens n = true := by
  rw [State.deliver, if_pos h, State.sq_listens (State.pmcSeq_sq ..)]
  refine State.wakeFor_listens p ?_
  rw [State.listens_iff, State.setSq_sq]
  exact (s.listens_iff n).1 h

/-- The two messages that answer a FETCH of a sequencer whose role computes no output. -/
theorem State.fetchOp_unmapped {n : Nat} (h : 136 ≤ s.fl .SEQ_ROLE 7 0 n) : s.fetchOp n =
    (s.deliver n 1 ⟨0x64, 0, List.replicate 8 0⟩).deliver n 1 ⟨0x67, (s.rowNum % 65536).toNat, [w32 (2 ^ 31)]⟩ := by
  unfold State.fetchOp
  dsimp only
  rw [if_neg (by omega)]
  rfl

theorem fetch_unmapped {n : Fin 160} (hr : s.runs n = true) (hn : 16 ≤ n.val) (hrole : 136 ≤ s.fl .SEQ_ROLE 7 0 n) :
    Completes (.fetch n) s (fun t => (t.sq n).inbox.get 1 [] = (s.sq n).inbox.get 1 [] ++
      [⟨0x64, 0, List.replicate 8 0⟩, ⟨0x67, (s.rowNum % 65536).toNat, [w32 (2 ^ 31)]⟩]) := by
  have hex : exec (.fetch n) s = .next (s.fetchOp n) := by
    show execFetch n s = _
    rw [execFetch, if_neg (not_not_intro hr), if_neg (by omega)]
  refine .of_next hex ?_
  have hl := State.runs_listens hr
  rw [State.fetchOp_unmapped hrole, State.deliver_inbox _ _ (State.deliver_listens _ _ hl), State.deliver_inbox _ _ hl, List.append_assoc]
  rfl

theorem State.sendUpds_mix (s : State) (row : Nat) (ups : List (Nat × Nat)) (n : Nat) : (s.sendUpds row ups n).mix = s.mix := by
  unfold State.sendUpds
  dsimp only
  split
  · obtain ⟨_, h⟩ := State.pmcMix_only (((chunks 31 ((ups.filter fun u => s.nodeRole u.1 = s.fl .SEQ_ROLE 7 0 n).map s.updWord).length
      ((ups.filter fun u => s.nodeRole u.1 = s.fl .SEQ_ROLE 7 0 n).map s.updWord)).foldl (fun t w => t.deliver n 1 ⟨0x66, row, w⟩) s).deliver n 1
        ⟨0x67, row, [w32 ((ups.filter fun u => s.nodeRole u.1 = s.fl .SEQ_ROLE 7 0 n).map s.updWord).length]⟩) 3
          ((ups.filter fun u => s.nodeRole u.1 = s.fl .SEQ_ROLE 7 0 n).map s.updWord).length
    rw [h]
    exact (State.deliver_mix ..).trans (List.foldlRecOn (motive := fun t : State => t.mix = s.mix) _ _ rfl
      fun t ht w _ => (State.deliver_mix ..).trans ht)
  · rfl

/-- The changes of the row go to every mix sequencer. -/
def State.sendRow (s : State) (row : Int) : State :=
  ((List.range 144).map (· + 16)).foldl (fun t n => t.sendUpds (row % 65536).toNat ((s.mix.plan.map Prod.snd).getD []) n) s

theorem State.sendRow_mix (s : State) (row : Int) : (s.sendRow row).mix = s.mix :=
  List.foldlRecOn (motive := fun t : State => t.mix = s.mix) _ _ rfl fun _ ht _ _ => (State.sendUpds_mix ..).trans ht

theorem State.planNew_waits (s : State) (row : Int) (h : s.mix.waits = []) : (s.planNew row).mix.waits = [] := by
  have hp (l : List Ramp) (p : Plan) (hw : p.waits = []) : (l.foldl s.planRamp p).waits = [] :=
    List.foldlRecOn (motive := fun p : Plan => p.waits = []) l _ hw fun p hp r _ => by
      unfold State.planRamp
      split <;> exact hp
  unfold State.planNew
  dsimp only
  rw [h, State.pmcMix, State.pmcMix, State.pmcMix, State.pmcEv_mix, State.pmcEv_mix, State.pmcEv_mix]
  exact hp _ _ rfl

theorem mixRowUpdate_plans (hc : s.coreOn = true) (hg : s.gau.running = true) (h1 : 110000 ≤ s.rowNs) (h2 : s.rowNs < 123000)
    (hp : s.mix.plan = none) : Completes .mixRowUpdate s (fun t =>
      t.mix.plan.map Prod.fst = some (s.rowNum + 1) ∧ (s.mix.waits = [] → t.mix.waits = [])) := by
  have hplan : s.planRow (s.rowNum + 1) = s.planNew (s.rowNum + 1) := by rw [State.planRow, hp]
  have hex : exec .mixRowUpdate s = .next ((s.planRow (s.rowNum + 1)).sendRow (s.rowNum + 1)) := by
    show execMixRowUpdate s = _
    rw [execMixRowUpdate, hp]
    exact congrArg _ (if_pos ⟨hc, hg, h1, h2, rfl⟩)
  refine .of_next hex ?_
  rw [State.sendRow_mix, hplan]
  refine ⟨?_, s.planNew_waits _⟩
  obtain ⟨r, w, ups, pm, h⟩ := s.planNew_spec (s.rowNum + 1)
  rw [h]
  rfl

/-! ### Partial sums (R323) -/

section
variable {n m : Fin 160} {q : Partial}

theorem State.setLink_link (s : State) (l : Nat) (x : Link) : (s.setLink l x).link l = x := Tab.get_set_same ..

theorem State.setLink_link_ne (s : State) {l k : Nat} (x : Link) (h : k ≠ l) : (s.setLink l x).link k = s.link k := Tab.get_set_ne _ _ _ h

theorem link_of_links (h : t.links = s.links) (k : Nat) : t.link k = s.link k := by rw [State.link, h, State.link]

theorem State.pmcStl_only (s : State) (l ev k : Nat) : ∃ pm, s.pmcStl l ev k = { s with pmc := pm } := State.pmcEv_only ..

theorem psend_runs (hr : s.runs n = true) (hn : 16 ≤ n.val) (hl : q.words.length = s.psLen) :
    exec (.psend n q) s = .next (s.psendOp q.link q.output q.tag.toNat q.words) := by
  show execPsend n q s = _
  rw [execPsend, if_neg (not_not_intro hr), if_neg (by omega), if_neg (not_not_intro hl)]

theorem psend_queued (hr : s.runs n = true) (hn : 16 ≤ n.val) (hl : q.words.length = s.psLen) (hup : (s.link q.link).st = .up)
    (hon : s.on .STL_LCFG 30 q.link = true) (hlate : s.psLate q.tag.toNat = false) (hrow : (s.link q.link).psRow = s.rowNum.toNat)
    (hN : (s.link q.link).psN < 1024) : Completes (.psend n q) s (fun t => t.link q.link = { s.link q.link with
      psN := (s.link q.link).psN + 1
      ps := (s.link q.link).ps ++ [(s.rowNum.toNat * 2 ^ 26 + q.output.val * 2 ^ 16 + q.tag.toNat, q.words)] }) := by
  refine .of_next (psend_runs hr hn hl) ?_
  unfold State.psendOp
  dsimp only
  rw [if_pos hrow, if_neg (by rw [hup, hon, hlate]; simp; omega), State.setLink_link, ← hrow]

theorem psend_refused (hr : s.runs n = true) (hn : 16 ≤ n.val) (hl : q.words.length = s.psLen)
    (hno : ¬ ((s.link q.link).st = .up ∧ s.on .STL_LCFG 30 q.link = true) ∨ s.psLate q.tag.toNat = true) :
    Completes (.psend n q) s (fun t => t.link q.link = s.link q.link) := by
  refine .of_next (psend_runs hr hn hl) ?_
  unfold State.psendOp
  dsimp only
  rw [if_pos (by tauto)]
  obtain ⟨pm, h⟩ := (s.bump .STL_PS 31 16 1 q.link).pmcStl_only q.link 5 1
  rw [h]
  rfl

/-- What the slots of the partial sums change where no sum waits: counters alone. -/
structure Crossed (s t : State) : Prop where
  only : ∃ L H pm, t = { s with links := L, hw := H, pmc := pm }
  link : ∀ k : Nat, t.link k = s.link k

theorem Crossed.refl (s : State) : Crossed s s := ⟨⟨s.links, s.hw, s.pmc, rfl⟩, fun _ => rfl⟩

theorem Crossed.bump (h : Crossed s t) (r : RegName) (hi lo k i : Nat) : Crossed s (t.bump r hi lo k i) := by
  refine ⟨?_, h.link⟩
  obtain ⟨L, H, pm, rfl⟩ := h.only
  exact ⟨L, _, pm, rfl⟩

theorem Crossed.pmcStl (h : Crossed s t) (l ev k : Nat) : Crossed s (t.pmcStl l ev k) := by
  obtain ⟨pm', h'⟩ := t.pmcStl_only l ev k
  rw [h']
  refine ⟨?_, h.link⟩
  obtain ⟨L, H, pm, rfl⟩ := h.only
  exact ⟨L, H, pm', rfl⟩

theorem Crossed.crossLink (h : Crossed s t) {l : Nat} (hps : (s.link l).ps = []) : Crossed s (t.crossLink l) := by
  have hx : (t.link l).ps = [] := (congrArg Link.ps (h.link l)).trans hps
  unfold State.crossLink
  dsimp only
  rw [hx]
  have hset : Crossed s (t.setLink l { t.link l with ps := [] }) := by
    obtain ⟨L, H, pm, rfl⟩ := h.only
    refine ⟨⟨_, H, pm, rfl⟩, fun k => ?_⟩
    by_cases hk : k = l
    · subst hk
      rw [State.setLink_link, ← hx]
      exact h.link k
    · rw [State.setLink_link_ne _ _ hk]
      exact h.link k
  split
  · exact hset
  · exact (hset.bump .STL_PS 31 16 0 l).pmcStl l 5 0

theorem crossLinks_spec (hps : ∀ k : Fin 4, (s.link k).ps = []) : Crossed s ((List.range 4).foldl State.crossLink s) :=
  List.foldlRecOn (motive := Crossed s) _ _ (.refl s) fun _ ht l hl => ht.crossLink (hps ⟨l, List.mem_range.1 hl⟩)

theorem partialSumSlot_delivers (hup : (s.link q.link).st = .up) (hon : s.on .STL_LCFG 30 q.link = true)
    (hps : ∀ k : Fin 4, (s.link k).ps = []) (hr : s.roleSeq q.output = some m.val) (hl : s.listens m = true) :
    Completes (.partialSumSlot [q]) s (fun t => (t.sq m).inbox.get 3 [] = (s.sq m).inbox.get 3 [] ++
      [⟨0x71, q.link.val * 2 ^ 10 + q.output.val, w32 q.tag.toNat :: q.words⟩]) := by
  obtain ⟨u, hu, hc⟩ : ∃ u, exec (.partialSumSlot [q]) s = .next (u.precv q) ∧ Crossed s u := by
    by_cases hslot : s.psSlot = true
    · exact ⟨_, congrArg (fun x : State => Host.Outcome.next (x.precv q)) (if_pos hslot), crossLinks_spec hps⟩
    · exact ⟨s, congrArg (fun x : State => Host.Outcome.next (x.precv q)) (if_neg hslot), .refl s⟩
  refine .of_next hu ?_
  obtain ⟨L, H, pm, rfl⟩ := hc.only
  have hst := (congrArg Link.st (hc.link q.link)).trans hup
  have hst' : (State.link { s with links := L, hw := H, pmc := pm } q.link).st = .up := hst
  rw [State.precv, if_neg (by simp only [hst']; exact fun h => h.elim (fun h => h rfl) fun h => h hon),
    show State.roleSeq { s with links := L, hw := H, pmc := pm } q.output = some m.val from hr]
  exact State.deliver_inbox _ _ hl

end

/-- Settles O42, by the rules of the row and of the mix above: what the start of a row, the STRIP deadline and the slots of the partial sums
keep while they go through the strips and the links, and the equations of the other events. -/
theorem mixRowsComplete : Obligations.MixRowsComplete := by
  intro n o tag samples q m s row mix role l up
  refine ⟨rowStart_starts, fun hm hl hon ht hs hns => outrow_kept hm.1 hm.2 hl hon ht hs hns,
    fun hm hl hon hns => outrow_late hm.1 hm.2 hl hon hns, stripDeadline_spec o, delayLineDeadline_spec, fun hm hr => fetch_unmapped hm.1 hm.2 hr,
    mixRowUpdate_plans, meterBlockEnd_spec, fun hm hl hup hlate hrow hN => psend_queued hm.1 hm.2 hl hup.1 hup.2 hlate hrow hN,
    fun hm hl hno => psend_refused hm.1 hm.2 hl hno, fun hup hps hr hl => partialSumSlot_delivers hup.1 hup.2 hps hr hl⟩

end Sys2Proof.Machine
end

section
/-! The events of the KEY block, of the fuses, of the reports and of the AON supply (R290, R291, R297 to R302, R306, R343): settles O43. -/

namespace Sys2Proof.Machine

set_option Elab.async false

variable {s t : State}

theorem Reacts.key_eq {μ ρ : Prop} (h : Reacts μ ρ s t) : t.key = s.key := by
  obtain ⟨_, _, _, _, _, _, _, _, _, _, _, _, _, _, _, _, _, _, _, _, _, _, _, rfl⟩ := h.keeps
  rfl

/-! ### The sweep (R290) -/

theorem State.setKslot_kslot_ne (s : State) {m n : Nat} (k : KeySlot) (h : n ≠ m) : (s.setKslot m k).kslot n = s.kslot n :=
  Tab.get_set_ne _ _ _ h

/-- The check of a tag leaves a slot, or marks it. -/
theorem State.checkSlot_kslot (s : State) (m n : Nat) : (s.checkSlot m).kslot n = s.kslot n ∨
    (s.kslot n).commit ≠ 0 ∧ (s.checkSlot m).kslot n = { s.kslot n with bad := true } := by
  unfold State.checkSlot
  dsimp only
  split
  next h =>
    have hk := kslot_of_key ((s.setKslot m { s.kslot m with bad := true }).fault_key 25 m) n
    rw [hk]
    by_cases hn : n = m
    · subst hn
      exact .inr ⟨h.1, State.setKslot_kslot ..⟩
    · exact .inl (State.setKslot_kslot_ne _ _ hn)
  · exact .inl rfl

/-- The slot is corrupt and marked, or not corrupt. -/
def State.marked (s : State) (n : Nat) : Prop := (s.kslot n).commit ≠ 0 → (s.kslot n).corrupt = true → (s.kslot n).bad = true

theorem State.checkSlot_marks (s : State) (n : Nat) : (s.checkSlot n).marked n := by
  by_cases h : (s.kslot n).commit ≠ 0 ∧ (s.kslot n).corrupt = true
  · have he : s.checkSlot n = (s.setKslot n { s.kslot n with bad := true }).fault 25 n := if_pos ⟨h.1, .inl h.2⟩
    have hk := kslot_of_key ((s.setKslot n { s.kslot n with bad := true }).fault_key 25 n) n
    intro _ _
    rw [he, hk, State.setKslot_kslot]
  · obtain hk | ⟨-, hk⟩ := s.checkSlot_kslot n n
    · intro h1 h2
      rw [hk] at h1 h2
      exact absurd ⟨h1, h2⟩ h
    · intro _ _
      rw [hk]

theorem State.marked_checkSlot {n : Nat} (m : Nat) (h : s.marked n) : (s.checkSlot m).marked n := by
  obtain hk | ⟨-, hk⟩ := s.checkSlot_kslot m n
  · unfold State.marked
    rw [hk]
    exact h
  · intro _ _
    rw [hk]

/-- A slot keeps its commit word and its key, and one that is EMPTY its mark too. -/
def State.slotKept (s t : State) (n : Nat) : Prop :=
  (t.kslot n).commit = (s.kslot n).commit ∧ (t.kslot n).cur = (s.kslot n).cur ∧ ((s.kslot n).commit = 0 → (t.kslot n).bad = (s.kslot n).bad)

theorem State.slotKept_checkSlot {n : Nat} (m : Nat) (h : s.slotKept t n) : s.slotKept (t.checkSlot m) n := by
  obtain ⟨h1, h2, h3⟩ := h
  obtain hk | ⟨hc, hk⟩ := t.checkSlot_kslot m n
  · unfold State.slotKept
    rw [hk]
    exact ⟨h1, h2, h3⟩
  · unfold State.slotKept
    rw [hk]
    exact ⟨h1, h2, fun h0 => absurd (h1.trans h0) hc⟩

theorem keySweep_spec (n : Fin 64) (h1 : s.atSec = true) (h2 : s.fresh 0x24 = true) (h3 : s.coreOn = true) : Completes .keySweep s (fun t =>
      (t.kslot n).commit = (s.kslot n).commit ∧ (t.kslot n).cur = (s.kslot n).cur ∧
      ((s.kslot n).commit ≠ 0 → (s.kslot n).corrupt = true → (t.kslot n).bad = true) ∧
      ((s.kslot n).commit = 0 → (t.kslot n).bad = (s.kslot n).bad)) := by
  have hkept : s.slotKept ((List.range 64).foldl State.checkSlot (s.fire 0x24)) n :=
    List.foldlRecOn (motive := fun t : State => s.slotKept t n) _ _ ⟨rfl, rfl, fun _ => rfl⟩ fun _ ht m _ => State.slotKept_checkSlot m ht
  have hmark : ((List.range 64).foldl State.checkSlot (s.fire 0x24)).marked n :=
    foldl_reaches (Q := fun t : State => t.marked n) _ (List.mem_range.2 n.isLt) (fun t => t.checkSlot_marks n) fun _ m ht => State.marked_checkSlot m ht
  refine Completes.of_if (u := (List.range 64).foldl State.checkSlot (s.fire 0x24)) (w := s) rfl ⟨h1, h2, h3⟩ ?_
  generalize (List.range 64).foldl State.checkSlot (s.fire 0x24) = u at hkept hmark
  obtain ⟨k1, k2, k3⟩ := hkept
  refine ⟨k1, k2, fun hc hx => hmark (by rw [k1]; exact hc) ?_, k3⟩
  unfold KeySlot.corrupt at hx ⊢
  rw [k1]
  exact hx

/-! ### Tamper (R297, R298, R306) -/

/-- The KEY block behind a trigger: the condition is noted, and the slots and lanes are empty. -/
def State.tampered (s : State) (src : Nat) : State :=
  ({ s with key := { s.key with conds := src :: s.key.conds.filter (· ≠ src) } } : State).zeroize src

theorem tamperTrigger_eq {src : Fin 4} (h : s.tamperOn src = true) : exec (.tamperTrigger src) s = .next ((s.tampered src).recordDeferred
    ((s.tampered src).mkRec 10 (bits ((s.tampered src).hwOf .KEY_TAMPER) 20 16) (s.tampered src).key.count 0 .hardware .none true)) :=
  congrArg Host.Outcome.next (if_pos h)

theorem State.tampered_key (s : State) (src : Nat) : (s.tampered src).key = { s.key with
    conds := src :: s.key.conds.filter (· ≠ src), slots := [], data := [], lanes := [], count := satAdd 255 s.key.count 1, zeroed := true } :=
  State.zeroize_key ..

theorem State.recordDeferred_key (s : State) (r : LogRec) : (s.recordDeferred r).key = s.key :=
  (Reacts.refl.recordDeferred : Reacts False False s _).key_eq

theorem tamperTrigger_zeroizes {src : Fin 4} (h : s.tamperOn src = true) : Completes (.tamperTrigger src) s (fun t =>
    t.key.slots = [] ∧ t.key.data = [] ∧ t.key.lanes = [] ∧ t.key.zeroed = true ∧ t.key.count = min 255 (s.key.count + 1) ∧
      src.val ∈ t.key.conds) := by
  refine .of_next (tamperTrigger_eq h) ?_
  rw [State.recordDeferred_key, State.tampered_key]
  exact ⟨rfl, rfl, rfl, rfl, rfl, List.mem_cons_self⟩

theorem State.setHw_hwOf (s : State) (r : RegName) (hi lo w i j l : Nat) :
    (s.setHw r hi lo w i j l).hwOf r i j l = putBits (s.hwOf r i j l) hi lo w := by
  show (s.hw.set _ _).get _ _ = _
  rw [Tab.get_set_same]

theorem State.irq_off (h : s.coreOn = false) (v : Nat) : s.irq v = s := if_neg (by rw [h]; decide)

theorem State.place_hw_off (h : s.coreOn = false) (r : LogRec) : (s.place r).hw = s.hw := by
  unfold State.place
  dsimp only
  split
  · rw [State.ibi_hw]
    have hoff := congrArg State.hw (State.irq_off (s := { s with log := { s.log with
      ring := s.log.ring ++ [s.numbered r], seq := (s.numbered r).seq, link := (s.numbered r).link } }) h 18)
    exact hoff
  · rfl

theorem State.placeGap_hw_off (h : s.coreOn = false) : s.placeGap.hw = s.hw := by
  unfold State.placeGap
  split
  · exact State.place_hw_off h _
  · rfl

/-- A deferred record that finds room, while the core is off: it stands in the ring, and no register shows anything of it. -/
theorem State.recordDeferred_off (hc : s.coreOn = false) (hw : s.warden.up = true) (r : LogRec) (hroom : s.logRoom r.slots = true) :
    (s.recordDeferred r).hw = s.hw ∧ ∃ d ∈ (s.recordDeferred r).log.ring, d = { r with gns := s.gns, seq := d.seq, link := d.link } := by
  have hrec : s.recordDeferred r = s.placeGap.place { r with gns := s.gns } := by
    rw [State.recordDeferred, if_pos hw, State.recordNormal_room (show s.logRoom (LogRec.slots { r with gns := s.gns }) = true from hroom)]
  rw [hrec]
  refine ⟨(State.place_hw_off (by simpa using hc) _).trans (State.placeGap_hw_off hc), s.placeGap.numbered { r with gns := s.gns }, ?_, rfl⟩
  rw [State.place_log]
  exact List.mem_append_right _ List.mem_cons_self

theorem tamperTrigger_recorded {src : Fin 4} (h : s.tamperOn src = true) (hc : s.coreOn = false) (hw : s.warden.up = true)
    (hroom : s.logRoom 1 = true) : Completes (.tamperTrigger src) s (fun t => bitOn (t.hwOf .KEY_TAMPER) (16 + src.val) = true ∧
      ∃ d ∈ t.log.ring, d.kind = 10 ∧ d.applied = true ∧ d.deferred = true ∧ d.old = min 255 (s.key.count + 1) % 2 ^ 32) := by
  refine .of_next (tamperTrigger_eq h) ?_
  have hzero : s.tampered src = ({ s with key := (s.tampered src).key } : State).setHw .KEY_TAMPER (16 + src) (16 + src) 1 := by
    rw [State.tampered_key]
    exact if_neg (by rw [hc]; decide)
  have hcount : (s.tampered src).key.count = min 255 (s.key.count + 1) := by rw [State.tampered_key]; rfl
  rw [hcount]
  generalize bits ((s.tampered src).hwOf .KEY_TAMPER) 20 16 = a
  obtain ⟨h1, d, hd, he⟩ := State.recordDeferred_off (s := s.tampered src) (by rw [hzero]; exact hc) (by rw [hzero]; exact hw)
    ((s.tampered src).mkRec 10 a (min 255 (s.key.count + 1)) 0 .hardware .none true) (by rw [hzero]; exact hroom)
  refine ⟨?_, d, hd, ?_, ?_, ?_, ?_⟩
  · rw [hwOf_of_hw h1, hzero, State.setHw_hwOf, bitOn_putBits, if_pos ⟨le_refl _, le_refl _⟩, Nat.sub_self]
    rfl
  all_goals rw [he]; rfl

/-! ### VBAT, the AON supply, the fuses and the reports -/

theorem vbatLoss_spec : Completes .vbatLoss s (fun t =>
    t.key.slots = [] ∧ t.key.lanes = [] ∧ t.fl .KEY_TAMPER 3 1 = 0 ∧ t.fuses = s.fuses) := by
  refine .of_next (u := ({ s with key := { s.key with slots := [], lanes := [] } } : State).setFl .KEY_TAMPER 3 1 0) rfl ⟨rfl, rfl, ?_, rfl⟩
  exact State.setFl_fl ..

theorem State.coreReset_keeps (s : State) : s.coreReset.coreOn = false ∧ s.coreReset.log.ring = s.log.ring ∧
    s.coreReset.log.link = s.log.link ∧ s.coreReset.key.slots = s.key.slots ∧
    s.coreReset.dram = s.dram := by
  unfold State.coreReset
  split
  · exact ⟨rfl, rfl, rfl, rfl, rfl⟩
  · exact ⟨rfl, rfl, rfl, rfl, rfl⟩

theorem aonSupplyRemoval_spec : Completes .aonSupplyRemoval s (fun t => t.cast_.aon = false ∧ t.flt.haltLatch = false ∧
    t.warden = ⟨false, none, none⟩ ∧ t.coreOn = false ∧ t.log.ring = s.log.ring ∧ t.log.link = s.log.link ∧ t.key.slots = s.key.slots ∧
    t.dram = s.dram) := by
  obtain ⟨h1, h2, h3, h4, h5⟩ := s.coreReset_keeps
  exact .of_next rfl ⟨rfl, rfl, rfl, h1, h2, h3, h4, h5⟩

theorem fuseBlowDone_spec {f v : Nat} (h : s.fuses.blow = some (f, v)) : Completes .fuseBlowDone s (fun t =>
    t.fuses.blow = none ∧ bits (t.hwOf .ATT_FUSE_STAT) 31 30 = 2 ∧
    (t.fuses.debugClose = true ↔ f = 0 ∨ s.fuses.debugClose = true) ∧
    (t.fuses.ownerLock = true ↔ f = 1 ∨ s.fuses.ownerLock = true) ∧
    (t.fuses.hashv = true ↔ f = 2 ∨ s.fuses.hashv = true) ∧
    (f = 2 → t.fuses.hash = s.stagedHash) ∧ (4 ≤ f → t.fuses.rollback.get (f - 4) 0 = v)) := by
  have hex : exec .fuseBlowDone s = .next (s.blown f v) := by
    show execFuseBlowDone s = _
    rw [execFuseBlowDone, h]
  refine .of_next hex ?_
  have hstat : bits ((s.blown f v).hwOf .ATT_FUSE_STAT) 31 30 = 2 :=
    (congrArg (bits · 31 30) (State.setHw_hwOf _ .ATT_FUSE_STAT 31 30 2 0 0 0)).trans (bits_putBits ..)
  match f with
  | 0 | 1 | 2 => exact ⟨rfl, hstat, by simp [State.blown], by simp [State.blown], by simp [State.blown], by simp [State.blown], by simp⟩
  | f + 3 =>
    refine ⟨rfl, hstat, by simp [State.blown], by simp [State.blown], by simp [State.blown], by simp, fun _ => ?_⟩
    exact Tab.get_set_same ..

theorem jtagSession_noted (h : s.fuses.debugClose = false) : Completes .jtagSession s (fun t => t.att.jtag = true) := by
  have hex : exec .jtagSession s = .next (({ s with att := { s.att with jtag := true } } : State).recordDeferred
      (({ s with att := { s.att with jtag := true } } : State).mkRec 13 0 0 0 .hardware .none true)) :=
    congrArg Host.Outcome.next (if_neg (by rw [h]; decide))
  refine .of_next hex ?_
  obtain ⟨_, _, _, _, _, _, _, _, _, _, _, _, _, _, _, _, _, _, _, _, _, _, _, h⟩ :=
    (Reacts.refl.recordDeferred : Reacts False False { s with att := { s.att with jtag := true } } _).keeps
  rw [h]

theorem reportSigned_spec {q : Fin 16} (hst : (s.attSlot q).st = 1) (hw : s.warden.up = true) : Completes (.reportSigned q) s (fun t =>
    (t.attSlot q).st = 2 ∧ (t.attSlot q).rep = (s.attSlot q).cap ++ Config.sign (s.attSlot q).cap) := by
  refine Completes.of_if (u := s.setAttSlot q { s.attSlot q with st := 2, rep := (s.attSlot q).cap ++ Config.sign (s.attSlot q).cap }) (w := s) rfl
    ⟨hst, hw⟩ ?_
  rw [show (s.setAttSlot q _).attSlot q = _ from Tab.get_set_same ..]
  exact ⟨rfl, rfl⟩

/-- Settles O43, by what each event of the KEY block, the fuses, the reports and the AON supply leaves: the sweep keeps commit words and keys,
and marks a corrupt slot where it comes to it. -/
theorem keyEventsComplete : Obligations.KeyEventsComplete := by
  intro src n q f v s x k
  exact ⟨keySweep_spec n, tamperTrigger_zeroizes, tamperTrigger_recorded, fun h => congrArg Host.Outcome.next (if_neg (by rw [h]; decide)),
    .of_next rfl ⟨rfl, rfl⟩, vbatLoss_spec, aonSupplyRemoval_spec, fuseBlowDone_spec, jtagSession_noted,
    fun h => congrArg Host.Outcome.next (if_pos h), reportSigned_spec⟩

end Sys2Proof.Machine
end

section
/-! A sample of an instruction while external memory has failed (R356, R382). -/

namespace Sys2Proof.Machine

set_option Elab.async false

/-- Sequencer 1 runs and is sampled, with the ring at address 0, while external memory has failed. -/
def State.samples : State :=
  (({ State.awake with mem := { State.awake.mem with failed := true } }.setSq 1 { Seq.reset with st := .running }).setFl .PMC_SAMP 31 31 1).setFl
    .PMC_SAMP 1 1 1

/-- Refutes O44: a sample reaches the ring by `memWrite`, which writes nothing while external memory has failed (R382), and the statement asks
for the record at PMC_SAMP_RING in every state whose memories are in canonical form. In the state above the ring is not full, and byte 3 of the record, which holds the number of the sequencer, is 0 in DRAM behind the sample, not 1. -/
theorem not_supervisionEventsComplete : ¬ Obligations.SupervisionEventsComplete := by
  intro h
  obtain ⟨-, -, -, -, -, -, -, -, -, -, -, -, -, -, hsample⟩ := h 0 0 1 3 false false 0 0 0 ⟨0, 0, 0, 0, 0, 0, 0, 0, 0, 0, [], false⟩ [] ⟨0, 0, 0, 0⟩ State.samples
  have hread := ((hsample ⟨by decide +kernel, by decide +kernel, by decide +kernel⟩ (by decide +kernel) (by decide +kernel) (by decide)).post rfl).2.2
  revert hread
  decide +kernel

end Sys2Proof.Machine
end

section
/-! The rows of a Stitch link (R313, R314, R316, R318, R319): settles O45. What the messages, the faults and the roles that a link brings
leave of the links is stated once: of each link no more than the last word of LINKEV changes. -/

namespace Sys2Proof.Machine

set_option Elab.async false

variable {s t u : State} {l : Fin 4}

/-! ### What follows a change of a link -/

/-- Of the links only what each has last said by LINKEV may differ. -/
def Said (s t : State) : Prop := ∀ k, ∃ w, t.link k = { s.link k with said := w }

theorem Said.refl (s : State) : Said s s := fun k => ⟨(s.link k).said, rfl⟩

theorem Said.trans (h : Said s t) (h' : Said t u) : Said s u := fun k => by
  obtain ⟨w, hw⟩ := h k
  obtain ⟨w', hw'⟩ := h' k
  exact ⟨w', hw'.trans (by rw [hw])⟩

theorem Said.of_links (h : t.links = s.links) : Said s t := fun k => ⟨(s.link k).said, link_of_links h k⟩

theorem Said.ite {c : Prop} {_ : Decidable c} (ht : Said s t) (hu : Said s u) : Said s (if c then t else u) := by
  split
  · exact ht
  · exact hu

theorem Said.foldl {α : Type} {f : State → α → State} {l : List α} (hf : ∀ t a, Said t (f t a)) (s : State) : Said s (l.foldl f s) :=
  List.foldlRecOn (motive := Said s) l f (.refl s) fun t ht a _ => ht.trans (hf t a)

theorem Reacts.links_eq {μ ρ : Prop} (h : Reacts μ ρ s t) : t.links = s.links := by
  obtain ⟨_, _, _, _, _, _, _, _, _, _, _, _, _, _, _, _, _, _, _, _, _, _, _, rfl⟩ := h.keeps
  rfl

theorem Reacts.said {μ ρ : Prop} (h : Reacts μ ρ s t) : Said s t := .of_links h.links_eq

theorem State.stlMsg_links (s : State) (l : Nat) (m : Msg) : (s.stlMsg l m).links = s.links := by
  unfold State.stlMsg
  dsimp only
  split
  · exact (Reacts.refl.bump.pmcEv : Reacts False False s _).links_eq
  · exact State.deliver_links ..

theorem State.linkSay_said (s : State) (l : Nat) : Said s (s.linkSay l) := by
  unfold State.linkSay
  dsimp only
  refine .ite (.refl s) fun k => ?_
  rw [link_of_links (State.stlMsg_links ..)]
  by_cases hk : k = l
  · subst hk
    exact ⟨_, State.setLink_link ..⟩
  · exact ⟨_, State.setLink_link_ne _ _ hk⟩

theorem State.stlCheck_said (s : State) (l : Nat) : Said s (s.stlCheck l) := (Reacts.refl.external : Reacts False False s _).said

theorem State.setRole_said (s : State) (r : Role) : Said s (s.setRole r) := (Reacts.refl.setRole : Reacts False True s _).said

theorem State.twinDecide1_said (s : State) : Said s s.twinDecide1 := by
  unfold State.twinDecide1
  split
  · exact .ite (s.setRole_said _) (.refl s)
  · exact .ite (s.setRole_said _) (.refl s)
  · exact .ite (.refl s) (s.setRole_said _)
  · exact .ite (s.setRole_said _) (.refl s)
  · exact s.setRole_said _
  · exact .refl s

theorem State.twinDecide_said (s : State) : Said s s.twinDecide := by
  unfold State.twinDecide
  dsimp only
  have h0 : Said s (if s.twinFirst.isSome then { s with twin := { s.twin with noneUp := s.gau.l } } else s) :=
    .ite (.of_links rfl) (.refl s)
  have h1 := h0.trans (State.twinDecide1_said _)
  refine .ite (.ite ?_ h1) (.refl s)
  exact h1.trans (.foldl (fun t k => t.stlCheck_said k) _)

theorem State.takeover_said (s : State) (how : Nat) : Said s (s.takeover how) := by
  have h1 : Reacts False True s (if s.twin.hoPend.isSome then
      ({ s with twin := { s.twin with hoPend := none } } : State).recEvent 0x32 0 else s) :=
    .ite (Reacts.recEvent (Reacts.refl.frame)) .refl
  unfold State.takeover
  exact .ite (.refl s) (.ite (h1.setRole.bump.recEvent.frame).said h1.setRole.bump.recEvent.said)

theorem State.takeoverT2_said (s : State) (b : Bool) : Said s (s.takeoverT2 b) := by
  unfold State.takeoverT2
  split
  · exact .ite (s.takeover_said 2) (.refl s)
  · exact .ite (s.takeover_said 2) (.refl s)
  · exact .refl s

theorem State.cancelHandover_said (s : State) : Said s s.cancelHandover :=
  .ite (Reacts.recEvent (Reacts.refl.frame) : Reacts False True s _).said (.refl s)

theorem State.takePeerReady_said (s : State) (l : Nat) : Said s (s.takePeerReady l) := by
  unfold State.takePeerReady
  dsimp only
  have h1 : Said s { s with twin := { s.twin with peerReady := (s.link l).ready } } := .of_links rfl
  exact .ite (.ite h1 (h1.trans (State.cancelHandover_said _))) (.refl s)

theorem Reacts.firstObs {μ ρ : Prop} {s₀ : State} (h : Reacts μ ρ s₀ s) {k : Nat} {e x : Int} {seen : Nat} :
    Reacts μ ρ s₀ (s.firstObs k e x seen) := Reacts.determine h.frame

/-- An observation touches what the qualification of a candidate touches (R71). -/
theorem State.observe_reacts (s : State) (k e : Nat) (τ : Option Int) : Reacts False False s (s.observe k e τ) := by
  unfold State.observe
  dsimp only
  have h0 : Reacts False False s (s.pmcTime 3 k) := Reacts.refl.pmcTime
  have hbad {u : State} (h : Reacts False False s u) (cause : Nat) (o : List (Int × Int)) (v : Nat) :
      Reacts False False s ((u.disqualify k cause .wait o).setCand k { (u.disqualify k cause .wait o).cand k with seen := some v }).determine :=
    Reacts.determine (Reacts.frame h.disqualify)
  have hkeep {u : State} (h : Reacts False False s u) (x : Cand) : Reacts False False s (u.setCand k x) := h.frame
  split
  · exact .refl
  · exact h0.firstObs
  · split
    · refine .ite h0.disqualify.firstObs (.ite (hbad h0 ..) ?_)
      split
      · exact hbad h0 ..
      · split
        · exact hkeep h0.bump _
        · exact .ite (hkeep h0.bump _) (.ite (hbad h0.bump.sample ..) (hkeep h0.bump.sample _))
    · exact h0.firstObs

theorem State.observe_links (s : State) (k e : Nat) (τ : Option Int) : (s.observe k e τ).links = s.links := (s.observe_reacts k e τ).links_eq

theorem State.observeNow_said (s : State) (k : Nat) (τ : Option Int) : Said s (s.observeNow k τ) :=
  .ite (.of_links (State.observe_links ..)) (.refl s)

/-- A link whose UP ends goes back to TRAINING without a frame (R316). -/
def State.downLink (s : State) (l : Nat) : State := s.setLink l { s.link l with st := .training, frame := none }

theorem State.linkEnd_said (s : State) (l : Nat) : Said (s.downLink l) (s.linkEnd l) := by
  unfold State.linkEnd
  dsimp only
  have h1 : Said (s.downLink l) (((s.setLink l { s.link l with st := .training, frame := none }).bump .STL_CNT 31 16 1 l).fault 27 l) :=
    (Reacts.refl.bump.fault : Reacts False True (s.downLink l) _).said
  have h2 := (h1.trans (State.stlCheck_said _ l)).trans (State.linkSay_said _ l)
  exact (Said.ite (h2.trans (State.takeoverT2_said _ _)) h2).trans (State.twinDecide_said _)

theorem State.linkEnd_link (s : State) (l : Nat) : ((s.linkEnd l).link l).st = .training ∧ ((s.linkEnd l).link l).frame = none := by
  obtain ⟨w, h⟩ := s.linkEnd_said l l
  rw [h, State.downLink, State.setLink_link]
  exact ⟨rfl, rfl⟩

/-! ### Markers (R314, R316, R319) -/

/-- The check of the round trip fixes it and the jump that it shows, and leaves the registers. -/
theorem State.checkTrip_link (s : State) (l echo : Nat) : (∃ r j, (s.checkTrip l echo).link l = { s.link l with rt := r, jumpAt := j }) ∧
    (s.checkTrip l echo).force = s.force := by
  unfold State.checkTrip
  dsimp only
  split
  · exact ⟨⟨(s.link l).rt, (s.link l).jumpAt, rfl⟩, rfl⟩
  next r _ =>
    generalize hv : (s.setLink l { s.link l with rt := some r }).sample 10 l r = v
    have hl : v.link l = { s.link l with rt := some r } := by
      rw [← hv, link_of_links (State.sample_links ..), State.setLink_link]
    have hf : v.force = s.force := by rw [← hv, State.sample_force]; rfl
    have hkeep : (∃ r j, v.link l = { s.link l with rt := r, jumpAt := j }) ∧ v.force = s.force := ⟨⟨some r, (s.link l).jumpAt, hl⟩, hf⟩
    split
    · exact hkeep
    · split
      · obtain ⟨pm, hpm⟩ := ((v.setLink l { v.link l with jumpAt := some s.gau.l }).bump .STL_CNT 15 8 1 l).pmcStl_only l 6 1
        rw [hpm]
        refine ⟨⟨some r, some s.gau.l, ?_⟩, hf⟩
        show (v.setLink l _).link l = _
        rw [State.setLink_link, hl]
      · exact hkeep

/-- The state in which a marker is looked at. -/
def State.atMarker (s : State) (l : Nat) : State := (s.pmcStl l 0).markStamp (64 + 2 * l + 1)

theorem State.atMarker_only (s : State) (l : Nat) : ∃ pm td, s.atMarker l = { s with pmc := pm, tdc := td } := by
  obtain ⟨pm, h⟩ := s.pmcStl_only l 0 1
  rw [State.atMarker, h]
  exact ⟨pm, _, rfl⟩

/-- What follows the marker's own fields: the peer's READY, the candidate's condition, LINKEV and the role. -/
def State.markerDone (s : State) (l : Nat) : State := (((s.takePeerReady l).stlCheck l).linkSay l).twinDecide

theorem State.markerDone_said (s : State) (l : Nat) : Said s (s.markerDone l) :=
  (((s.takePeerReady_said l).trans (State.stlCheck_said _ l)).trans (State.linkSay_said _ l)).trans (State.twinDecide_said _)

/-- The fields that a marker gives a link, with the round trip, the jump and the LINKEV word that follow. -/
def Link.marked (x : Link) (m : Marker) (at_ code : Nat) (r j : Option Nat) (w : Nat) : Link :=
  { x with frame := some m.frame.toNat, role := m.role.toNat, ready := m.ready, advise := m.advise, sev := m.sev.toNat
           gst := m.state.toNat, rx := some (at_, code), rt := r, jumpAt := j, said := w }

theorem State.takeMarker_link (s : State) (l : Nat) (m : Marker) (code : Nat) :
    ∃ r j, ((s.takeMarker l m code).checkTrip l m.echo.toNat).link l = (s.link l).marked m s.gau.l code r j (s.link l).said ∧
      ((s.takeMarker l m code).checkTrip l m.echo.toNat).force = s.force := by
  obtain ⟨⟨r, j, h⟩, hf⟩ := (s.takeMarker l m code).checkTrip_link l m.echo.toNat
  refine ⟨r, j, h.trans ?_, hf⟩
  rw [State.takeMarker, State.setLink_link]
  rfl

/-- A marker without an identity block. -/
theorem State.markedLink (s : State) (l : Nat) (m : Marker) (code : Nat) :
    ∃ r j w, ((((s.takeMarker l m code).checkTrip l m.echo.toNat).markerDone l).link l) = (s.link l).marked m s.gau.l code r j w := by
  obtain ⟨r, j, h, -⟩ := s.takeMarker_link l m code
  obtain ⟨w, hw⟩ := ((s.takeMarker l m code).checkTrip l m.echo.toNat).markerDone_said l l
  exact ⟨r, j, w, hw.trans (by rw [h]; rfl)⟩

section
variable {m : Marker} {i : Identity} {code : Fin 640}

theorem markerReceive_eq (hon : s.linkOn l = true) : exec (.markerReceive l m i code) s =
    .next (s.markerOp l m (if m.frame.toNat % 625 = 0 then some i else none) code) :=
  congrArg Host.Outcome.next (if_pos hon)

theorem markerReceive_follows (hon : s.linkOn l = true) (hf : m.frame.toNat % 625 ≠ 0) (hst : (s.link l).st = .up)
    (hm : markerFollows (s.link l) m = true) : Completes (.markerReceive l m i code) s (fun t =>
      (t.link l).st = .up ∧ (t.link l).frame = some m.frame.toNat ∧ (t.link l).role = m.role.toNat ∧ (t.link l).ready = m.ready ∧
      (t.link l).advise = m.advise ∧ (t.link l).sev = m.sev.toNat ∧ (t.link l).gst = m.state.toNat ∧
      (t.link l).rx = some (s.gau.l, code.val)) := by
  refine .of_next (markerReceive_eq hon) ?_
  obtain ⟨pm, td, h0⟩ := s.atMarker_only l
  have hop : s.markerOp l m none code = (((s.atMarker l).takeMarker l m code).checkTrip l m.echo.toNat).markerDone l := by
    unfold State.markerOp
    dsimp only
    rw [if_neg (fun h => h.2 hm)]
    rfl
  obtain ⟨r, j, w, h⟩ := (s.atMarker l).markedLink l m code
  have hl : (s.atMarker l).link l = s.link l := link_of_links (by rw [h0]) l
  have hg : (s.atMarker l).gau = s.gau := by rw [h0]
  rw [if_neg hf, hop, h, hl, hg]
  exact ⟨hst, rfl, rfl, rfl, rfl, rfl, rfl, rfl⟩

theorem markerReceive_breaks (hon : s.linkOn l = true) (hf : m.frame.toNat % 625 ≠ 0) (hst : (s.link l).st = .up)
    (hm : markerFollows (s.link l) m = false) : Completes (.markerReceive l m i code) s (fun t =>
      (t.link l).st = .training ∧ (t.link l).frame = some m.frame.toNat) := by
  refine .of_next (markerReceive_eq hon) ?_
  have hop : s.markerOp l m none code = ((((s.atMarker l).linkEnd l).takeMarker l m code).checkTrip l m.echo.toNat).markerDone l := by
    unfold State.markerOp
    dsimp only
    rw [if_pos ⟨hst, by rw [hm]; decide⟩]
    rfl
  obtain ⟨r, j, w, h⟩ := ((s.atMarker l).linkEnd l).markedLink l m code
  rw [if_neg hf, hop, h]
  exact ⟨((s.atMarker l).linkEnd_link l).1, rfl⟩

/-- The fields that an identity block gives a link that was not UP. -/
theorem State.takeIdent_link (s : State) (l : Nat) (m : Marker) (i : Identity) (code : Nat) (hst : (s.link l).st ≠ .up) :
    ∃ w, (s.takeIdent l m i code).link l = { s.link l with
      st := s.identState i, dom := i.domain.toNat, devnum := i.devnum.toNat, hops := i.hops.toNat, upv := i.upv
      upstream := i.upstream.toNat, bound := i.bound.toNat, pairid := i.pairid.toNat, unit := i.unit, said := w } := by
  unfold State.takeIdent
  dsimp only
  rw [if_neg (fun h => hst h.1)]
  obtain ⟨w, hw⟩ := State.observeNow_said (State.stlMsg (s.setLink l { s.link l with
    st := s.identState i, dom := i.domain.toNat, devnum := i.devnum.toNat, hops := i.hops.toNat, upv := i.upv
    upstream := i.upstream.toNat, bound := i.bound.toNat, pairid := i.pairid.toNat, unit := i.unit }) l _) (26 + l) _ l
  refine ⟨w, hw.trans ?_⟩
  rw [link_of_links (State.stlMsg_links ..), State.setLink_link]

theorem identState_of_force (h : t.force = s.force) (i : Identity) : t.identState i = s.identState i := by
  rw [State.identState, State.devnum, fl_of_force h, fl_of_force h, State.identState, State.devnum]

theorem markerReceive_identifies (hon : s.linkOn l = true) (hf : m.frame.toNat % 625 = 0) (hst : (s.link l).st = .training) :
    Completes (.markerReceive l m i code) s (fun t =>
      (t.link l).dom = i.domain.toNat ∧ (t.link l).devnum = i.devnum.toNat ∧ (t.link l).hops = i.hops.toNat ∧
      (t.link l).upv = i.upv ∧ (t.link l).upstream = i.upstream.toNat ∧ (t.link l).bound = i.bound.toNat ∧
      (t.link l).st = if i.domain.toNat ≠ s.fl .STL_CFG 31 16 then .domain
        else if i.devnum.toNat = s.devnum then .duplicate else .up) := by
  refine .of_next (markerReceive_eq hon) ?_
  obtain ⟨pm, td, h0⟩ := s.atMarker_only l
  have hl : (s.atMarker l).link l = s.link l := link_of_links (by rw [h0]) l
  obtain ⟨r, j, h, hforce⟩ := (s.atMarker l).takeMarker_link l m code
  generalize hu : ((s.atMarker l).takeMarker l m code).checkTrip l m.echo.toNat = u at h hforce
  have hop : s.markerOp l m (some i) code = (u.takeIdent l m i code).markerDone l := by
    unfold State.markerOp
    dsimp only
    rw [if_neg (fun h => by rw [hst] at h; exact absurd h.1 (by decide))]
    rw [← hu]
    rfl
  have hdown : (u.link l).st ≠ .up := by
    rw [h, hl, Link.marked, hst]
    decide
  obtain ⟨w, hw⟩ := u.takeIdent_link l m i code hdown
  obtain ⟨w', hw'⟩ := (u.takeIdent l m i code).markerDone_said l l
  rw [if_pos hf, hop, hw', hw]
  exact ⟨rfl, rfl, rfl, rfl, rfl, rfl, identState_of_force (hforce.trans (by rw [h0])) i⟩

end

/-! ### Frames, losses and words for the peer (R313, R316, R318, R319) -/

theorem stlFrameStart_spec (hon : s.linkOn l = true) (hq : s.quiet = false) (hp : s.atPeriod 1600 = true) (ha : s.afterNotice = true)
    (hf : s.fresh (0x200 + l.val) = true) : Completes (.stlFrameStart l) s (fun t =>
      0x200 + l.val ∈ t.fired ∧ .marker l s.frameNow (s.markerWord l) ∈ t.sent ∧ (t.link l).txs = (s.gau.l :: (s.link l).txs).take 4) := by
  refine Completes.of_if (u := (s.fire (0x200 + l.val)).frameStart l) (w := s) rfl ⟨hon, by rw [hq]; decide, hp, ha, hf⟩ ?_
  unfold State.frameStart
  dsimp only
  split
  · refine ⟨List.mem_cons_self, List.mem_cons_of_mem _ List.mem_cons_self, ?_⟩
    show ((State.setLink _ l _).link l).txs = _
    rw [State.setLink_link]
    show ((State.setLink _ l _).link l).txs = _
    rw [State.setLink_link]
    rfl
  · refine ⟨List.mem_cons_self, List.mem_cons_self, ?_⟩
    show ((State.setLink _ l _).link l).txs = _
    rw [State.setLink_link]
    rfl

theorem stlLockLoss_down (hon : s.linkOn l = true) (hst : (s.link l).st = .domain ∨ (s.link l).st = .duplicate ∨ (s.link l).st = .training) :
    Completes (.stlLockLoss l) s (fun t => (t.link l).st = .training ∧ (t.link l).frame = none) := by
  have hex : exec (.stlLockLoss l) s = .next ((s.downLink l).linkSay l) := by
    refine congrArg Host.Outcome.next ?_
    rw [State.lockLoss, if_pos hon]
    rcases hst with h | h | h <;> rw [h] <;> rfl
  refine .of_next hex ?_
  obtain ⟨w, hw⟩ := (s.downLink l).linkSay_said l l
  rw [hw, State.downLink, State.setLink_link]
  exact ⟨rfl, rfl⟩

theorem stlLockLoss_up (hon : s.linkOn l = true) (hst : (s.link l).st = .up) :
    Completes (.stlLockLoss l) s (fun t => (t.link l).st = .training ∧ (t.link l).frame = none) := by
  have hex : exec (.stlLockLoss l) s = .next (s.linkEnd l) := by
    refine congrArg Host.Outcome.next ?_
    rw [State.lockLoss, if_pos hon, hst]
  exact .of_next hex (s.linkEnd_link l)

theorem stlBadSyncHeaders_up (hon : s.linkOn l = true) (hst : (s.link l).st = .up) :
    Completes (.stlBadSyncHeaders l) s (fun t => (t.link l).st = .training ∧ (t.link l).frame = none) :=
  Completes.of_if (u := (s.pmcStl l 1 64).linkEnd l) (w := s) rfl ⟨hon, hst⟩ (State.linkEnd_link ..)

theorem rtjumpClear_due {k : Nat} (hj : (s.link l).jumpAt = some k) (hk : k + 1000000000 ≤ s.gau.l) :
    Completes (.rtjumpClear l) s (fun t => (t.link l).jumpAt = none) := by
  have hex : exec (.rtjumpClear l) s = .next (((s.setLink l { s.link l with jumpAt := none }).stlCheck l).linkSay l) := by
    refine congrArg Host.Outcome.next ?_
    rw [hj]
    exact if_pos hk
  refine .of_next hex ?_
  obtain ⟨w, hw⟩ := ((State.stlCheck_said (s.setLink l { s.link l with jumpAt := none }) l).trans (State.linkSay_said _ l)) l
  rw [hw, State.setLink_link]

theorem rtjumpClear_early {k : Nat} (hj : (s.link l).jumpAt = some k) (hk : s.gau.l < k + 1000000000) :
    exec (.rtjumpClear l) s = .next s := by
  refine congrArg Host.Outcome.next ?_
  rw [hj]
  exact if_neg (by omega)

section
variable {n : Fin 16} {words : List Word}

theorem peersend_runs (h1 : 1 ≤ words.length) (h2 : words.length ≤ 31) (hr : s.runs n = true) :
    exec (.peersend n l words) s = .next (s.peersendOp l words) := by
  show execPeersend n l words s = _
  rw [execPeersend, if_neg (not_not_intro hr), if_neg]
  rintro (h | h)
  · rw [h] at h1
    exact absurd h1 (by decide)
  · omega

theorem peersend_leaves (h1 : 1 ≤ words.length) (h2 : words.length ≤ 31) (hr : s.runs n = true) (hst : (s.link l).st = .up)
    (hq : s.quiet = false) : Completes (.peersend n l words) s (fun t => t.sent = .peerWords l words :: s.sent) := by
  refine .of_next (peersend_runs h1 h2 hr) ?_
  rw [State.peersendOp, if_pos ⟨hst, by rw [hq]; decide⟩]
  obtain ⟨pm, h⟩ := (s.send (.peerWords l words)).pmcStl_only l 2 1
  rw [h]
  rfl

theorem peersend_discards (h1 : 1 ≤ words.length) (h2 : words.length ≤ 31) (hr : s.runs n = true) (hno : (s.link l).st ≠ .up ∨ s.quiet = true) :
    Completes (.peersend n l words) s (fun t => t.sent = s.sent ∧
      bits (t.hwOf .STL_CNT l) 7 0 = min 255 (bits (s.hwOf .STL_CNT l) 7 0 + 1)) := by
  refine .of_next (peersend_runs h1 h2 hr) ?_
  rw [State.peersendOp, if_neg (by tauto)]
  obtain ⟨pm, h⟩ := (s.bump .STL_CNT 7 0 1 l).pmcStl_only l 3 1
  rw [h]
  exact ⟨rfl, s.bump_hwOf .STL_CNT 7 0 1 l 0 0⟩

theorem peersend_traps (hr : s.runs n = true) (hl : words = [] ∨ 31 < words.length) : exec (.peersend n l words) s = .next (s.trap n .badmsg) := by
  show execPeersend n l words s = _
  rw [execPeersend, if_neg (not_not_intro hr), if_pos hl]

end

/-- Settles O45, by what each row leaves of its link: nothing that a change of a link brings touches more of a link than its LINKEV word. -/
theorem stitchLinksComplete : Obligations.StitchLinksComplete := by
  intro l n m i code words k s x runs key frame
  exact ⟨stlFrameStart_spec, markerReceive_follows, markerReceive_breaks, markerReceive_identifies,
    fun h => congrArg Host.Outcome.next (if_neg (by rw [h]; decide)), stlLockLoss_down, stlLockLoss_up, stlBadSyncHeaders_up, rtjumpClear_due,
    rtjumpClear_early, peersend_leaves, peersend_discards, peersend_traps⟩

end Sys2Proof.Machine
end

section
/-! The events of power and cast-on (R343, R381 to R389): settles O49. -/

namespace Sys2Proof.Machine

set_option Elab.async false

variable {s t : State}

/-! ### Resets and the records that are owed -/

theorem State.coreReset_cast (s : State) : s.coreReset.cast_ = s.cast_ ∧ s.coreReset.gau = Gau.reset ∧ s.coreReset.seqs = [] ∧
    s.coreReset.flt.haltLatch = s.flt.haltLatch ∧ s.coreReset.warden = s.warden ∧ s.coreReset.log.owed = s.log.owed := by
  unfold State.coreReset
  split
  · exact ⟨rfl, rfl, rfl, rfl, rfl, rfl⟩
  · exact ⟨rfl, rfl, rfl, rfl, rfl, rfl⟩

theorem resetAssert_spec : Completes .resetAssert s (fun t => t.cast_.rstn = false ∧ t.coreOn = false ∧ t.log.ring = s.log.ring ∧
    t.cast_.slots = s.cast_.slots ∧ t.key.slots = s.key.slots ∧ t.flt.haltLatch = s.flt.haltLatch) := by
  obtain ⟨h1, h2, -, h4, -⟩ := s.coreReset_keeps
  obtain ⟨hc, -, -, hl, -, -⟩ := s.coreReset_cast
  have hslots : s.coreReset.cast_.slots = s.cast_.slots := by rw [hc]
  exact .of_next rfl ⟨rfl, h1, h2, hslots, h4, hl⟩

theorem aonSupplyRemoval_off : Completes .aonSupplyRemoval s (fun t =>
    t.cast_.aon = false ∧ t.flt.haltLatch = false ∧ t.coreOn = false ∧ t.warden.up = false) :=
  .of_next rfl ⟨rfl, rfl, s.coreReset_keeps.1, rfl⟩

theorem resetRelease_spec (hr : s.cast_.rstn = false) (v : Bool) : Completes (.resetRelease v) s (fun t =>
    t.aonRuns = true ∧ if v then t.key.slots = [] else t.key = s.key) := by
  refine .of_next (congrArg Host.Outcome.next (if_neg (by rw [hr]; decide))) ?_
  cases v
  · exact ⟨rfl, rfl⟩
  · exact ⟨rfl, rfl⟩

/-- What Warden owes is written, and a record touches nothing of cast-on. -/
theorem State.recordOwed_owed (hw : s.warden.up = true) : Reacts False False s s.recordOwed ∧ s.recordOwed.log.owed = [] := by
  have hplace {t : State} (r : LogRec) (ho : t.log.owed = []) : (t.place r).log.owed = [] := by
    rw [State.place_log]
    exact ho
  have hgap {t : State} (ho : t.log.owed = []) : t.placeGap.log.owed = [] := by
    unfold State.placeGap
    split
    · exact hplace _ ho
    · exact ho
  have h1 : Reacts False False s (if s.gapDue ∧ s.logUsed < ringSlots then s.placeGap else s) := .ite Reacts.refl.placeGap .refl
  unfold State.recordOwed
  dsimp only
  generalize (if s.gapDue ∧ s.logUsed < ringSlots then s.placeGap else s) = s1 at h1 ⊢
  refine List.foldlRecOn (motive := fun t : State => Reacts False False s t ∧ t.log.owed = []) _ _ ⟨h1.frame, rfl⟩ fun t ht r _ => ?_
  obtain ⟨hre, ho⟩ := ht
  refine ⟨hre.recordDeferred, ?_⟩
  have hup : t.warden.up = true := by
    obtain ⟨_, _, _, _, _, _, _, _, _, _, _, _, _, _, _, _, _, _, _, _, _, _, _, rfl⟩ := hre.keeps
    exact hw
  unfold State.recordDeferred State.recordNormal
  rw [if_pos hup]
  by_cases hroom : t.logRoom (LogRec.slots { r with gns := t.gns }) = true
  · rw [if_pos hroom]
    exact hplace _ (hgap ho)
  · rw [if_neg hroom]
    exact ho

/-! ### The start of a core cast-on (R382, R384) -/

theorem State.castStart_cast (s : State) : s.castStart.cast_ = { s.cast_ with
    st := if s.cast_.xo then 0 else 5
    code := if s.cast_.xo then s.cast_.coldCode else 4
    warm := decide (s.cast_.coldCode = 0), part := false, img := s.cast_.sel.getD 0, lock := false, go := false, bind := 0 } := by
  unfold State.castStart
  dsimp only
  rw [s.coreReset_cast.1]

theorem Cast.coldCode_of {c d : Cast} (h1 : d.sel = c.sel) (h2 : d.slots = c.slots) (h3 : d.haltMark = c.haltMark) : d.coldCode = c.coldCode := by
  unfold Cast.coldCode
  rw [h1, h2, h3]

theorem huacheraRun_verified (ha : s.aonRuns = true) (hu : s.warden.up = false) (hd : s.warden.downAt = none) :
    Completes (.huacheraRun true) s (fun t => t.warden.up = true ∧ (s.cast_.pwrgood = true → s.cast_.xo = true → t.cast_.st = 0) ∧
      (s.cast_.pwrgood = false → t.log.owed = [])) := by
  let v : State := { s with warden := { s.warden with up := true } }
  obtain ⟨hre, ho⟩ := State.recordOwed_owed (s := v) rfl
  have hex : exec (.huacheraRun true) s = .next (if v.recordOwed.cast_.pwrgood then v.recordOwed.castStart else v.recordOwed) := by
    refine congrArg Host.Outcome.next (if_pos ⟨ha, by rw [hu]; decide, by rw [hd]; rfl, rfl⟩)
  have hcast : v.recordOwed.cast_ = s.cast_ := hre.calm.2.2.2.2.2.1
  have hwarden : v.recordOwed.warden.up = true := by
    obtain ⟨_, _, _, _, _, _, _, _, _, _, _, _, _, _, _, _, _, _, _, _, _, _, _, h⟩ := hre.keeps
    rw [h]
  generalize v.recordOwed = w at hex hcast hwarden ho
  refine .of_next hex ?_
  rw [hcast]
  by_cases hp : s.cast_.pwrgood = true
  · rw [if_pos hp]
    refine ⟨(congrArg Warden.up w.coreReset_cast.2.2.2.2.1).trans hwarden, fun _ hx => ?_, fun h => by rw [hp] at h; cases h⟩
    rw [State.castStart_cast, hcast, if_pos hx]
  · rw [if_neg hp]
    exact ⟨hwarden, fun h => absurd h hp, fun _ => ho⟩

theorem pwrgoodFall_spec : Completes .pwrgoodFall s (fun t =>
    t.cast_.pwrgood = false ∧ t.cast_.st = 0 ∧ t.coreOn = false ∧ t.gau = Gau.reset ∧ t.seqs = []) := by
  refine .of_next rfl ?_
  generalize (if s.coreOn ∧ s.aonRuns then s.fault 7 0 else s) = s1
  obtain ⟨-, hg, hs, -⟩ := s1.coreReset_cast
  exact ⟨rfl, rfl, s1.coreReset_keeps.1, hg, hs⟩

theorem pwrgoodRise_spec (hp : s.cast_.pwrgood = false) (ha : s.aonRuns = true) (hw : s.warden.up = true) (xo : Bool) :
    Completes (.pwrgoodRise xo) s (fun t => t.cast_.pwrgood = true ∧ t.cast_.st = (if xo then 0 else 5) ∧
      t.cast_.code = (if xo then s.cast_.coldCode else 4) ∧ (t.cast_.warm = true ↔ s.cast_.coldCode = 0)) := by
  let v : State := { s with cast_ := { s.cast_ with pwrgood := true, xo := xo } }
  have hex : exec (.pwrgoodRise xo) s = .next v.castStart :=
    congrArg Host.Outcome.next ((if_neg (by rw [hp]; decide)).trans (if_pos (c := v.aonRuns = true ∧ v.warden.up = true) ⟨ha, hw⟩))
  refine .of_next hex ?_
  have hcold : v.cast_.coldCode = s.cast_.coldCode := Cast.coldCode_of rfl rfl rfl
  rw [State.castStart_cast, hcold]
  exact ⟨rfl, rfl, rfl, decide_eq_true_iff⟩

theorem xoPresent_spec (hst : s.cast_.st = 5) (hcode : s.cast_.code = 4) (hp : s.cast_.pwrgood = true) (hw : s.warden.up = true) :
    Completes .xoPresent s (fun t => t.cast_.xo = true ∧ t.cast_.st = 0 ∧ t.cast_.code = s.cast_.coldCode ∧
      (t.cast_.warm = true ↔ s.cast_.coldCode = 0)) := by
  let v : State := { s with cast_ := { s.cast_ with xo := true } }
  have hex : exec .xoPresent s = .next v.castStart := congrArg Host.Outcome.next
    (if_pos (c := v.cast_.st = 5 ∧ v.cast_.code = 4 ∧ v.cast_.pwrgood = true ∧ v.warden.up = true) ⟨hst, hcode, hp, hw⟩)
  refine .of_next hex ?_
  have hcold : v.cast_.coldCode = s.cast_.coldCode := Cast.coldCode_of rfl rfl rfl
  rw [State.castStart_cast, hcold]
  exact ⟨rfl, rfl, rfl, decide_eq_true_iff⟩

/-! ### The release of the core's reset and t_go (R382, R385) -/

theorem State.castRecord_only (s : State) (r : LogRec) : ∃ l h m, s.castRecord r = { s with log := l, hw := h, sent := m } := by
  unfold State.castRecord
  split
  next t h =>
    unfold State.recordNormal at h
    split at h
    · obtain ⟨a, b, c, hp, -, -⟩ := s.recordNormal_only r
      exact ⟨a, b, c, (Option.some.inj h).symm.trans hp⟩
    · exact absurd h (by simp)
  · exact ⟨_, s.hw, s.sent, rfl⟩

theorem State.applyS_only (s : State) (p : Nat × Nat) : ∃ R F, s.applyS p = { s with regs := R, force := F } := by
  unfold State.applyS
  split
  · exact ⟨s.regs, s.force, rfl⟩
  · exact ⟨_, _, rfl⟩

theorem State.castWarm_spec (s : State) : s.castWarm.coreOn = s.coreOn ∧ s.castWarm.cast_ = { s.cast_ with st := 2, go := true } := by
  have hfold (l : List (Nat × Nat)) (v : State) : ∃ R F, l.foldl State.applyS v = { v with regs := R, force := F } :=
    List.foldlRecOn (motive := fun t : State => ∃ R F, t = { v with regs := R, force := F }) l _ ⟨v.regs, v.force, rfl⟩ fun t ht p _ => by
      obtain ⟨R, F, rfl⟩ := ht
      obtain ⟨R', F', h⟩ := State.applyS_only { v with regs := R, force := F } p
      exact ⟨R', F', h⟩
  unfold State.castWarm
  dsimp only
  obtain ⟨l, h, m, hr⟩ := s.castRecord_only (s.mkRec 2 0 s.castImg.len 0 .warden .none false (some s.castImg.digest))
  rw [hr]
  obtain ⟨R, F, hf⟩ := hfold s.castImg.words { s with log := l, hw := h, sent := m }
  rw [hf]
  exact ⟨rfl, rfl⟩

theorem coreResetRelease_locked (h : s.casting = true) : exec (.coreResetRelease true) s = .next s.coreUp :=
  congrArg Host.Outcome.next (if_pos h)

/-- The core answers: HALTED while the latch is set, else a warm or a cold cast-on. -/
theorem State.coreUp_spec (s : State) : s.coreUp.coreOn = true ∧
    (s.flt.haltLatch = true → s.coreUp.cast_.st = 5 ∧ s.coreUp.cast_.code = 3 ∧ s.coreUp.cast_.lock = true) ∧
    (s.flt.haltLatch = false → s.cast_.warm = true → s.coreUp.cast_.st = 2 ∧ s.coreUp.cast_.go = true) ∧
    (s.flt.haltLatch = false → s.cast_.warm = false → s.coreUp.cast_.st = 1) := by
  unfold State.coreUp
  dsimp only
  obtain ⟨l, hh, m, hr⟩ := State.castRecord_only { s with coreOn := true } (State.mkRec { s with coreOn := true } 12 0 (bit1 s.cast_.warm 0)
    Config.huachera.toNat .warden .none)
  rw [hr]
  by_cases hl : s.flt.haltLatch = true
  · rw [if_pos hl, hl]
    exact ⟨rfl, fun _ => ⟨rfl, rfl, rfl⟩, nofun, nofun⟩
  · rw [if_neg hl]
    rw [Bool.not_eq_true] at hl
    rw [hl]
    by_cases hw : s.cast_.warm = true
    · rw [if_pos hw, hw]
      obtain ⟨h1, h2⟩ := State.castWarm_spec { s with coreOn := true, log := l, hw := hh, sent := m }
      exact ⟨h1, nofun, fun _ _ => by rw [h2]; exact ⟨rfl, rfl⟩, nofun⟩
    · rw [if_neg hw]
      exact ⟨rfl, nofun, fun _ h => absurd h hw, fun _ _ => rfl⟩

theorem coreResetRelease_unlocked (h : s.casting = true) : Completes (.coreResetRelease false) s (fun t =>
    t.cast_.st = 5 ∧ t.cast_.code = 5 ∧ t.coreOn = false) := by
  have hoff : s.coreOn = false := by
    unfold State.casting at h
    simp only [Bool.and_eq_true, Bool.not_eq_true'] at h
    exact h.1.1.2
  exact .of_next (congrArg Host.Outcome.next (if_pos h)) ⟨rfl, rfl, hoff⟩

/-! ### Training, self-test, saves and bind-off (R382, R386 to R389) -/

/-- Channel h has a size. -/
abbrev State.hasMem (s : State) (h : Fin 2) : Prop := (if h.val = 0 then s.fl .MEM_CFG 3 0 else s.fl .MEM_CFG 7 4) ≠ 0

/-- What MEM_TRAIN_DONE leaves in `trained`: bit 2, and a bit for each channel that trained. -/
def trainedWord (a b : Bool) : Nat := 4 + bit1 a 0 + bit1 b 1

theorem trainedWord_bits (a b : Bool) :
    bitOn (trainedWord a b) 2 = true ∧ bitOn (trainedWord a b) 0 = a ∧ bitOn (trainedWord a b) 1 = b := by
  cases a <;> cases b <;> decide

theorem memTrainDone_eq (ok0 ok1 : Bool) (hst : s.cast_.st = 3) (hg : s.gau.running = true) (ht : bitOn s.mem.trained 2 = false) :
    exec (.memTrainDone ok0 ok1) s = .next
      (let t : State := { s with mem := { s.mem with
        trained := trainedWord (decide (s.hasMem 0) && ok0) (decide (s.hasMem 1) && ok1) } }
      if (decide (s.hasMem 0) && !ok0 || decide (s.hasMem 1) && !ok1) = true then t.memFails 6 else t) :=
  congrArg Host.Outcome.next (if_pos ⟨hst, hg, by rw [ht]; decide⟩)

theorem memTrainDone_good {ok0 ok1 : Bool} (hst : s.cast_.st = 3) (hg : s.gau.running = true) (ht : bitOn s.mem.trained 2 = false)
    (h0 : s.hasMem 0 → ok0 = true) (h1 : s.hasMem 1 → ok1 = true) : Completes (.memTrainDone ok0 ok1) s (fun t =>
      t.cast_ = s.cast_ ∧ t.mem.failed = s.mem.failed ∧ bitOn t.mem.trained 2 = true ∧
        (bitOn t.mem.trained 0 = true ↔ s.hasMem 0) ∧ (bitOn t.mem.trained 1 = true ↔ s.hasMem 1)) := by
  have hok : ¬ (decide (s.hasMem 0) && !ok0 || decide (s.hasMem 1) && !ok1) = true := by
    simpa using ⟨h0, h1⟩
  refine .of_next ((memTrainDone_eq ok0 ok1 hst hg ht).trans (congrArg Host.Outcome.next (if_neg hok))) ?_
  obtain ⟨hb2, hb0, hb1⟩ := trainedWord_bits (decide (s.hasMem 0) && ok0) (decide (s.hasMem 1) && ok1)
  refine ⟨rfl, rfl, hb2, ?_, ?_⟩
  · rw [hb0, Bool.and_eq_true, decide_eq_true_iff]
    exact ⟨And.left, fun h => ⟨h, h0 h⟩⟩
  · rw [hb1, Bool.and_eq_true, decide_eq_true_iff]
    exact ⟨And.left, fun h => ⟨h, h1 h⟩⟩

theorem memTrainDone_bad {ok0 ok1 : Bool} (hst : s.cast_.st = 3) (hg : s.gau.running = true) (ht : bitOn s.mem.trained 2 = false)
    (h : (s.hasMem 0 ∧ ok0 = false) ∨ (s.hasMem 1 ∧ ok1 = false)) : Completes (.memTrainDone ok0 ok1) s (fun t =>
      t.mem.failed = true ∧ t.cast_.st = 5 ∧ t.cast_.code = 6) := by
  have hbad : (decide (s.hasMem 0) && !ok0 || decide (s.hasMem 1) && !ok1) = true := by simpa using h
  exact .of_next ((memTrainDone_eq ok0 ok1 hst hg ht).trans (congrArg Host.Outcome.next (if_pos hbad))) ⟨rfl, rfl, rfl⟩

theorem memSelftestDone_eq (hst : s.cast_.st = 3) (ht : bitOn s.mem.trained 2 = true) (hr : s.mem.ready = false) (ok : Bool) :
    exec (.memSelftestDone ok) s = .next (if ok then
      if s.cast_.warm then ({ s with mem := { s.mem with ready := true } } : State).castRest
      else ({ s with mem := { s.mem with ready := true } } : State).castCold
    else s.memFails 7) :=
  congrArg Host.Outcome.next (if_pos ⟨hst, ht, by rw [hr]; decide⟩)

theorem State.castRest_cast (s : State) : s.castRest.cast_.st = 4 ∧ s.castRest.cast_.code ∈ [0, 8] ∧
    (s.castRest.cast_.code = 8 ↔ s.castRest.cast_.part = true) := by
  unfold State.castRest
  dsimp only
  generalize ((s.castImg.seqs.all _ && _ : Bool)) = all
  refine ⟨rfl, ?_, ?_⟩
  · cases all <;> decide
  · cases all <;> decide

theorem memSelftestDone_warm (hst : s.cast_.st = 3) (ht : bitOn s.mem.trained 2 = true) (hr : s.mem.ready = false) (hw : s.cast_.warm = true) :
    Completes (.memSelftestDone true) s (fun t => t.cast_.st = 4 ∧ t.cast_.code ∈ [0, 8] ∧ (t.cast_.code = 8 ↔ t.cast_.part = true)) :=
  .of_next ((memSelftestDone_eq hst ht hr true).trans (congrArg Host.Outcome.next ((if_pos rfl).trans (if_pos hw)))) (State.castRest_cast _)

theorem memSelftestDone_cold (hst : s.cast_.st = 3) (ht : bitOn s.mem.trained 2 = true) (hr : s.mem.ready = false) (hw : s.cast_.warm = false) :
    Completes (.memSelftestDone true) s (fun t => t.mem.ready = true ∧ t.cast_.st = 4 ∧ t.cast_.haltMark = false) :=
  .of_next ((memSelftestDone_eq hst ht hr true).trans (congrArg Host.Outcome.next ((if_pos rfl).trans (if_neg (by rw [hw]; decide)))))
    ⟨rfl, rfl, rfl⟩

theorem memSelftestDone_bad (hst : s.cast_.st = 3) (ht : bitOn s.mem.trained 2 = true) (hr : s.mem.ready = false) :
    Completes (.memSelftestDone false) s (fun t => t.mem.ready = false ∧ t.mem.failed = true ∧ t.cast_.st = 5 ∧ t.cast_.code = 7) :=
  .of_next ((memSelftestDone_eq hst ht hr false).trans (congrArg Host.Outcome.next (if_neg (by decide)))) ⟨hr, rfl, rfl, rfl⟩

theorem gaugeStart_spec (hon : s.coreOn = true) (hgo : s.cast_.go = true) (hg : s.gau.running = false) : Completes .gaugeStart s (fun t =>
    t.gau.running = true ∧ t.gau.g = 0 ∧ t.gau.st = .freeRun ∧ t.cast_.st = 3 ∧ t.cast_.go = false) :=
  .of_next (congrArg Host.Outcome.next (if_pos ⟨hon, hgo, by rw [hg]; decide⟩)) ⟨rfl, rfl, rfl, rfl, rfl⟩

/-- An answer to the host or over the sideband lets nothing wait. -/
theorem State.sbdEnds_waits (s : State) (org : Origin) (cmd status : Nat) (pay : List Byte) :
    (s.sbdEnds org cmd status pay).hst.reads = s.hst.reads ∧ (s.sbdEnds org cmd status pay).sbd.wr = s.sbd.wr := by
  unfold State.sbdEnds
  split
  · split
    next q c _ =>
      split
      · obtain ⟨m, h⟩ := ({ s with sbd := { s.sbd with owes := none } } : State).sbdSend_only q status pay
        rw [h]
        exact ⟨rfl, rfl⟩
      · exact ⟨rfl, rfl⟩
    · exact ⟨rfl, rfl⟩
  · split
    · unfold State.mbxAnswer
      split
      · exact ⟨rfl, rfl⟩
      next c r _ =>
        obtain ⟨a, m, h⟩ := ({ s with hst := { s.hst with
          mbx := r, began := false, rsp := some (sbdResponse (leNat (c.take 1)) status pay) } } : State).irq_only 16
        rw [h]
        exact ⟨rfl, rfl⟩
    · exact ⟨rfl, rfl⟩
  · exact ⟨rfl, rfl⟩

/-- A capture that has been written to its slot. -/
def State.saved (s : State) (slot : Nat) (i : Img) : State :=
  { s with cast_ := { s.cast_ with
      slots := s.cast_.slots.set slot (some i), save := none, csSt := 2, csCode := 0
      store := i.distinct.filterMap fun d => s.cast_.copies.find? fun c => sub c 32 32 = d } }

theorem State.saveDone_eq {slot : Nat} {i : Img} (h : s.cast_.save = some (slot, i)) :
    s.saveDone = (s.saved slot i).sbdEnds s.cast_.saveOrg 0x10 0 (saveAnswer slot i) := by
  unfold State.saveDone
  rw [h]
  exact Eq.refl ((s.saved slot i).sbdEnds s.cast_.saveOrg 0x10 0 (saveAnswer slot i))

theorem configSaveDone_spec {slot : Nat} {i : Img} (hs : s.cast_.save = some (slot, i)) (hr : s.hst.reads = []) (hw : s.sbd.wr = none) :
    Completes .configSaveDone s (fun t => t.cast_.slots.get slot none = some i ∧ t.cast_.save = none ∧ t.log.held = false) := by
  let v : State := { s with log := { s.log with held := false } }
  have hdone : v.saveDone = (v.saved slot i).sbdEnds s.cast_.saveOrg 0x10 0 (saveAnswer slot i) := State.saveDone_eq (s := v) hs
  obtain ⟨hreads, hwr⟩ := (v.saved slot i).sbdEnds_waits s.cast_.saveOrg 0x10 0 (saveAnswer slot i)
  obtain ⟨_, _, _, _, hends⟩ := (v.saved slot i).sbdEnds_only s.cast_.saveOrg 0x10 0 (saveAnswer slot i)
  have hstay : v.saveDone.afterGate = v.saveDone := by
    rw [hdone]
    exact State.afterGate_of_none_waits (hreads.trans hr) (hwr.trans hw)
  refine .of_next (congrArg Host.Outcome.next hstay) ?_
  rw [hdone, hends]
  exact ⟨Tab.get_set_same _ _ _ _, rfl, rfl⟩

/-- The core in reset once bind-off has ended. -/
def State.boundOff (s : State) : State := { s with cast_ := { s.cast_ with st := 0, bind := 2, go := false, lock := false } }

theorem State.bindDone_eq (h : s.cast_.bind = 1) :
    ∃ u : State, ∃ org pay, s.bindDone = u.coreReset.boundOff.sbdEnds org 0x12 0 pay :=
  ⟨_, _, _, if_pos h⟩

theorem bindoffDone_spec (h : s.cast_.bind = 1) : Completes .bindoffDone s (fun t => t.coreOn = false ∧ t.cast_.st = 0 ∧ t.cast_.bind = 2) := by
  obtain ⟨u, org, pay, hu⟩ := State.bindDone_eq h
  obtain ⟨_, _, _, _, hends⟩ := u.coreReset.boundOff.sbdEnds_only org 0x12 0 pay
  exact .of_next (congrArg Host.Outcome.next (hu.trans hends)) ⟨u.coreReset_keeps.1, rfl, rfl⟩

/-- Settles O49, one lemma per event. -/
theorem castEventsComplete : Obligations.CastEventsComplete := by
  intro locked ok ok0 ok1 slot i s
  refine ⟨resetAssert_spec, aonSupplyRemoval_off, fun hr => (resetRelease_spec hr false).imp fun t h => h,
    fun hr => (resetRelease_spec hr true).imp fun t h => h, huacheraRun_verified, congrArg Host.Outcome.next (if_neg fun h => nomatch h.2.2.2),
    pwrgoodFall_spec, fun hp ha hw => (pwrgoodRise_spec hp ha hw true).imp fun t h => h, fun hp ha hw => (pwrgoodRise_spec hp ha hw false).imp ?_,
    xoPresent_spec, fun hc hl hw => .of_next (coreResetRelease_locked hc) ⟨s.coreUp_spec.1, s.coreUp_spec.2.2.2 hl hw⟩,
    fun hc hl hw => .of_next (coreResetRelease_locked hc) ⟨s.coreUp_spec.1, s.coreUp_spec.2.2.1 hl hw⟩,
    fun hc hl => .of_next (coreResetRelease_locked hc) ⟨s.coreUp_spec.1, s.coreUp_spec.2.1 hl⟩,
    coreResetRelease_unlocked, fun hc => congrArg Host.Outcome.next (if_neg (by rw [hc]; decide)), gaugeStart_spec, ?_, ?_, ?_, ?_, ?_, ?_,
    fun hs hr hw _ => configSaveDone_spec hs hr hw, bindoffDone_spec, fun h => congrArg Host.Outcome.next (if_neg h)⟩
  · rintro t ⟨hp, hst, hcode, -⟩
    exact ⟨hp, hst, hcode⟩
  · rintro ⟨hst, hg, ht⟩
    exact memTrainDone_good hst hg ht
  · rintro ⟨hst, hg, ht⟩
    exact memTrainDone_bad hst hg ht
  · rintro ⟨hst, ht, hr⟩
    exact memSelftestDone_cold hst ht hr
  · rintro ⟨hst, ht, hr⟩
    exact memSelftestDone_warm hst ht hr
  · rintro ⟨hst, ht, hr⟩
    exact memSelftestDone_bad hst ht hr
  · intro hst
    exact ⟨congrArg Host.Outcome.next (if_neg fun h => hst h.1), congrArg Host.Outcome.next (if_neg fun h => hst h.1)⟩

end Sys2Proof.Machine
end

section
/-! The descriptors of a queue, the mailbox and the PCIe link (R360, R363 to R365): settles O47. -/

namespace Sys2Proof.Machine

set_option Elab.async false

variable {s t : State} {q : Nat}

/-! ### A descriptor that a queue takes (R363) -/

/-- Queue q of `t` has in flight what it had in `s`, and then the next descriptor with its result. -/
def Flights (q : Nat) (irq : Bool) (o : Option (Nat × Nat × Nat)) (s t : State) : Prop :=
  (t.dq q).flight = (s.dq q).flight ++ [⟨(s.dq q).next, irq, o⟩] ∧ (t.dq q).next = ((s.dq q).next + 1) % s.dmaLen q

theorem State.setDq_dq (s : State) (q : Nat) (x : Dma) : (s.setDq q x).dq q = x := Tab.get_set_same ..

theorem dq_of_hst (h : t.hst = s.hst) (q : Nat) : t.dq q = s.dq q := congrArg (fun x : Hst => x.dma.get q Dma.reset) h

theorem State.dmaTake_only (s : State) (q : Nat) (irq : Bool) : ∃ P, s.dmaTake q irq = { s with
    hst := (s.setDq q { s.dq q with
      flight := (s.dq q).flight ++ [⟨(s.dq q).next, irq, none⟩], next := ((s.dq q).next + 1) % s.dmaLen q }).hst
    pmc := P } := by
  obtain ⟨P, h⟩ := (s.setDq q { s.dq q with
    flight := (s.dq q).flight ++ [⟨(s.dq q).next, irq, none⟩], next := ((s.dq q).next + 1) % s.dmaLen q }).pmcEv_only 1016 1023 3 1
  exact ⟨P, h⟩

theorem State.dmaTake_flights (s : State) (q : Nat) (irq : Bool) : Flights q irq none s (s.dmaTake q irq) := by
  obtain ⟨P, h⟩ := s.dmaTake_only q irq
  have hd : (s.dmaTake q irq).dq q = { s.dq q with
      flight := (s.dq q).flight ++ [⟨(s.dq q).next, irq, none⟩], next := ((s.dq q).next + 1) % s.dmaLen q } := by
    rw [h]
    exact State.setDq_dq s q _
  exact ⟨congrArg Dma.flight hd, congrArg Dma.next hd⟩

theorem Flights.of_hst {irq : Bool} {o : Option (Nat × Nat × Nat)} {u : State} (h : Flights q irq o s t) (hu : u.hst = t.hst) :
    Flights q irq o s u := by
  unfold Flights
  rw [dq_of_hst hu]
  exact h

/-- The descriptor just taken is the only one of its number, and takes the result. -/
theorem Flights.dmaResult {irq : Bool} (h : Flights q irq none s t) (hne : ∀ f ∈ (s.dq q).flight, f.id ≠ (s.dq q).next)
    (r : Nat × Nat × Nat) : Flights q irq (some r) s (t.dmaResult q (s.dq q).next r) := by
  obtain ⟨hf, hn⟩ := h
  have hd : (t.dmaResult q (s.dq q).next r).dq q = { t.dq q with flight := (t.dq q).flight.map fun f =>
      if f.id = (s.dq q).next ∧ f.result.isNone then { f with result := some r } else f } := State.setDq_dq t q _
  have hold : (s.dq q).flight.map (fun f => if f.id = (s.dq q).next ∧ f.result.isNone then { f with result := some r } else f) =
      (s.dq q).flight := by
    refine (List.map_congr_left fun f hm => ?_).trans (List.map_id _)
    exact if_neg fun hc => hne f hm hc.1
  refine ⟨?_, (congrArg Dma.next hd).trans hn⟩
  rw [hd, hf, List.map_append, hold, List.map_singleton, if_pos ⟨rfl, rfl⟩]

theorem State.dmaBytes_only (s : State) (n : Nat) : ∃ P, s.dmaBytes n = { s with pmc := P } := s.pmcEv_only ..

theorem State.dmaBytes_hst (s : State) (n : Nat) : (s.dmaBytes n).hst = s.hst := by
  obtain ⟨_, h⟩ := s.dmaBytes_only n
  rw [h]

section

variable {d : Desc} {op kind : Nat} {f : Nat → State → State}

theorem State.dmaOp_taken (hr : s.dmaReady q = true) (ha : s.dramAnswers op = true) (ho : d.op.toNat = op)
    (hk : dmaAdmits (s.dmaKind q) op = true) : s.dmaOp q d op f = f (s.dq q).next (s.dmaTake q d.irq) :=
  (if_pos ⟨hr, ha⟩).trans (if_pos ⟨ho, hk⟩)

theorem State.dmaOp_refused (hr : s.dmaReady q = true) (ha : s.dramAnswers op = true) (ho : d.op.toNat ≠ op) :
    s.dmaOp q d op f = (s.dmaTake q d.irq).dmaResult q (s.dq q).next (1, Code.range.num, 0) :=
  (if_pos ⟨hr, ha⟩).trans (if_neg fun h => ho h.1)

/-- A descriptor of a KIND and an OP, which its queue takes next. -/
structure Takes (s : State) (q : Nat) (d : Desc) (kind op : Nat) : Prop where
  ready : s.dmaReady q = true
  kind : s.dmaKind q = kind
  op : d.op.toNat = op
  fresh : ∀ f ∈ (s.dq q).flight, f.id ≠ (s.dq q).next

theorem Takes.run (h : Takes s q d kind op) (ha : s.dramAnswers op = true) (hk : dmaAdmits kind op = true) :
    s.dmaOp q d op f = f (s.dq q).next (s.dmaTake q d.irq) :=
  State.dmaOp_taken h.ready ha h.op (by rw [h.kind]; exact hk)

theorem Takes.result (h : Takes s q d kind op) (ht : t.hst = (s.dmaTake q d.irq).hst) (r : Nat × Nat × Nat) :
    Flights q d.irq (some r) s (t.dmaResult q (s.dq q).next r) :=
  ((s.dmaTake_flights q d.irq).of_hst ht).dmaResult h.fresh r

end

/-! ### TX and RX (R364) -/

theorem State.dmaTxOp_submits {d : Desc} {id : Nat} {frame : List Byte} (h60 : 60 ≤ d.len.toNat)
    (hmax : d.len.toNat + 4 ≤ s.fl .ETH_CFG 13 0 d.port) (hl : (s.ep d.port).link = true) (hon : s.portOn d.port = true) :
    ∃ x, (s.dmaTxOp q id d frame).hst = s.hst ∧ ((s.dmaTxOp q id d frame).ep d.port).txq = (s.ep d.port).txq ++ [x] ∧ x.pay = .raw frame := by
  obtain ⟨P, hP⟩ := s.dmaBytes_only frame.length
  unfold State.dmaTxOp
  dsimp only
  rw [if_neg (show ¬ (d.len.toNat < 60 ∨ s.fl .ETH_CFG 13 0 d.port < d.len.toNat + 4) by omega), hP, State.submitFrame]
  rw [if_pos (c := (({ s with pmc := P } : State).ep d.port).link = true ∧ ({ s with pmc := P } : State).portOn d.port = true) ⟨hl, hon⟩]
  exact ⟨_, rfl, congrArg EthP.txq (State.setEp_ep _ _ _), rfl⟩

theorem dmaTx_submits {q : Fin 16} {d : Desc} {frame : List Byte} (h : Takes s q d 1 1) (h60 : 60 ≤ d.len.toNat)
    (hmax : d.len.toNat + 4 ≤ s.fl .ETH_CFG 13 0 d.port) (hl : (s.ep d.port).link = true) (hon : s.portOn d.port = true) :
    Completes (.dmaTx q d frame) s (fun t => Flights q d.irq none s t ∧
      ∃ h, (t.ep d.port).txq = (s.ep d.port).txq ++ [h] ∧ h.pay = .raw (hostBytes d frame)) := by
  refine .of_next (congrArg Host.Outcome.next (h.run rfl rfl)) ?_
  have hfl := s.dmaTake_flights q d.irq
  obtain ⟨P, hP⟩ := s.dmaTake_only q d.irq
  have hep : (s.dmaTake q d.irq).ep d.port = s.ep d.port := by rw [hP]; rfl
  obtain ⟨x, hx, htxq, hpay⟩ := State.dmaTxOp_submits (s := s.dmaTake q d.irq) (q := q) (id := (s.dq q).next) (frame := hostBytes d frame) h60
    (by rw [hP]; exact hmax) (by rw [hep]; exact hl) (by rw [hP]; exact hon)
  exact ⟨hfl.of_hst hx, x, by rw [htxq, hep], hpay⟩

theorem dmaTx_runt {q : Fin 16} {d : Desc} {frame : List Byte} (h : Takes s q d 1 1) (h60 : d.len.toNat < 60) :
    Completes (.dmaTx q d frame) s (Flights q d.irq (some (2, 0, 0)) s) :=
  .of_next (congrArg Host.Outcome.next ((h.run rfl rfl).trans (if_pos (.inl h60)))) (h.result rfl _)

theorem dmaTx_other {q : Fin 16} {d : Desc} {frame : List Byte} (h : Takes s q d 1 2) :
    Completes (.dmaTx q d frame) s (Flights q d.irq (some (1, Code.range.num, 0)) s) :=
  .of_next (congrArg Host.Outcome.next (State.dmaOp_refused h.ready rfl (by rw [h.op]; decide))) (h.result rfl _)

theorem dmaRx_delivers {q : Fin 16} {d : Desc} {p : Fin 8} {f : RxFrame} (h : Takes s q d 2 2) (hn : s.rxNext q = some (p.val, f))
    (hs : f.spilled = false) (hlen : 32 + f.bytes.length ≤ d.len.toNat) : Completes (.dmaRx q d) s (fun t =>
      Flights q d.irq (some (0, 0, 32 + f.bytes.length)) s t ∧ (t.ep p).rx = (s.ep p).rx.erase f ∧
      .hostData q d.haddr.toNat (bytesOfWords f.stamp ++ f.bytes) ∈ t.sent) := by
  have hex : s.dmaRxOp q d = ((((s.dmaTake q d.irq).rxLeave p f).send (.hostData q d.haddr.toNat (bytesOfWords f.stamp ++ f.bytes))).dmaBytes
      (32 + f.bytes.length)).dmaResult q (s.dq q).next (0, 0, 32 + f.bytes.length) := by
    unfold State.dmaRxOp
    rw [hn]
    dsimp only
    rw [if_neg fun hc => absurd hc.2.2 (by omega), if_neg (c := f.spilled = true ∧ s.dmaReady q = true) (by rw [hs]; exact fun hc => nomatch hc.1)]
    dsimp only
    rw [if_neg (by decide)]
    exact h.run rfl rfl
  refine .of_next (congrArg Host.Outcome.next hex) ?_
  have hep : (s.dmaTake q d.irq).ep p = s.ep p := by
    obtain ⟨P, hP⟩ := s.dmaTake_only q d.irq
    rw [hP]
    rfl
  obtain ⟨E, hE, hrx, -, -⟩ := (s.dmaTake q d.irq).rxLeave_only p f
  rw [hep] at hrx
  rw [hE] at hrx ⊢
  obtain ⟨P', hP'⟩ := (({ s.dmaTake q d.irq with eth := E } : State).send (.hostData q d.haddr.toNat (bytesOfWords f.stamp ++ f.bytes))).dmaBytes_only
    (32 + f.bytes.length)
  rw [hP']
  exact ⟨h.result rfl _, hrx, List.mem_cons_self⟩

/-! ### Copies (R364, R372) -/

/-- External memory answers, and holds no error. -/
def State.cleanMem (s : State) : Prop := s.mem.ready = true ∧ s.mem.failed = false ∧ s.mem.errs = []

theorem State.readCws_clean (he : s.mem.errs = []) (r : Nat) (wb : Bool) (l : List Nat) : s.readCws r wb l = (false, s) := by
  have hone (cw : Nat) : s.readCw r wb cw = (false, s) := by
    have hnone : s.cwErrs cw = [] := by
      unfold State.cwErrs
      rw [he]
      rfl
    unfold State.readCw
    rw [hnone]
  refine List.foldlRecOn (motive := fun a : Bool × State => a = (false, s)) l _ rfl fun a ha cw _ => ?_
  rw [ha]
  dsimp only
  rw [hone]
  rfl

theorem State.memPost_only (s : State) (r addr len : Nat) : ∃ T, s.memPost r addr len = { s with mem := { s.mem with txs := T } } := by
  unfold State.memPost
  split
  · exact ⟨s.mem.txs, rfl⟩
  · exact ⟨_, rfl⟩

theorem State.memPutBy_clean {r addr : Nat} {data : List Byte} (hd : data ≠ []) (hb : s.memBars r addr data.length = false)
    (hf : s.mem.failed = false) (he : s.mem.errs = []) : ∃ M, s.memPutBy r addr data =
      (false, { s with dram := memPut s.dram addr data, mem := M }) := by
  obtain ⟨T, hT⟩ := s.memPost_only r addr data.length
  unfold State.memPutBy
  rw [if_neg hd, if_neg (by rw [hb]; decide), if_neg (by rw [hf]; decide), hT,
    State.readCws_clean (s := { s with mem := { s.mem with txs := T } }) he]
  exact ⟨_, rfl⟩

theorem State.memRead_clean {r addr len : Nat} (hb : s.memBars r addr len = false) (hf : s.mem.failed = false) (he : s.mem.errs = []) :
    ∃ M, s.memRead r addr len = (memTake s.dram addr len, false, { s with mem := M }) := by
  obtain ⟨T, hT⟩ := s.memPost_only r addr len
  unfold State.memRead
  rw [if_neg (by rw [hb]; decide), if_neg (by rw [hf]; decide), hT, if_pos he,
    State.readCws_clean (s := { s with mem := { s.mem with txs := T } }) he]
  exact ⟨_, rfl⟩

theorem hostBytes_length (d : Desc) (frame : List Byte) : (hostBytes d frame).length = d.len.toNat := by
  rw [hostBytes, List.length_map, List.length_range]

theorem dramAnswers_of_ready (h : s.mem.ready = true) (op : Nat) : s.dramAnswers op = true := by
  unfold State.dramAnswers
  rw [h, Bool.or_true, Bool.true_or]

theorem memBars_of_dmaRange {d : Desc} (h : s.dmaRange d = true) (r : Nat) : s.memBars r d.daddr.toNat d.len.toNat = false := by
  unfold State.dmaRange at h
  rw [Bool.and_eq_true, Bool.not_eq_true'] at h
  rw [State.memBars, h.2, Bool.and_false]

theorem dmaCopyIn_writes {q : Fin 16} {d : Desc} {frame : List Byte} {m : Nat} (h : Takes s q d 3 3) (hr : s.dmaRange d = true)
    (hc : s.cleanMem) (hm : memWf s.dram = true) (hlt : m < d.len.toNat) : Completes (.dmaCopyIn q d frame) s (fun t =>
      Flights q d.irq (some (0, 0, 0)) s t ∧ memGet t.dram (d.daddr.toNat + m) = frame.getD m 0) := by
  obtain ⟨hready, hfail, herrs⟩ := hc
  refine .of_next (congrArg Host.Outcome.next (h.run (dramAnswers_of_ready hready 3) rfl)) ?_
  have hres := h.result (t := s.dmaTake q d.irq) rfl
  obtain ⟨P, hP⟩ := s.dmaTake_only q d.irq
  have hhst : (s.dmaTake q d.irq).hst = (s.setDq q { s.dq q with flight := (s.dq q).flight ++ [⟨(s.dq q).next, d.irq, none⟩], next := ((s.dq q).next + 1) % s.dmaLen q }).hst := by
    rw [hP]
  generalize (s.setDq q _).hst = H at hhst hP
  rw [hP]
  have hne : hostBytes d frame ≠ [] := by
    intro h0
    have := hostBytes_length d frame
    rw [h0] at this
    exact absurd this (by rw [List.length_nil]; omega)
  obtain ⟨M, hM⟩ := State.memPutBy_clean (s := { s with hst := H, pmc := P }) (r := dmaReq q) hne
    (by rw [hostBytes_length]; exact memBars_of_dmaRange hr _) hfail herrs
  unfold State.copyIn
  rw [if_pos (c := ({ s with hst := H, pmc := P } : State).dmaRange d = true) hr, hM]
  dsimp only
  obtain ⟨P', hP'⟩ := State.dmaBytes_only { s with hst := H, pmc := P, dram := memPut s.dram d.daddr.toNat (hostBytes d frame), mem := M }
    (hostBytes d frame).length
  rw [hP']
  refine ⟨h.result hhst.symm _, ?_⟩
  have hin := memGet_put_in s.dram d.daddr.toNat (hostBytes d frame) m (by rw [hostBytes_length]; exact hlt) hm
  refine hin.trans ?_
  unfold hostBytes
  rw [List.getElem_map, List.getElem_range]

theorem dmaCopyIn_badRange {q : Fin 16} {d : Desc} {frame : List Byte} (h : Takes s q d 3 3) (hr : s.dmaRange d = false)
    (hready : s.mem.ready = true) : Completes (.dmaCopyIn q d frame) s (fun t =>
      Flights q d.irq (some (1, Code.range.num, 0)) s t ∧ t.dram = s.dram) := by
  refine .of_next (congrArg Host.Outcome.next (h.run (dramAnswers_of_ready hready 3) rfl)) ?_
  obtain ⟨P, hP⟩ := s.dmaTake_only q d.irq
  have hr' : ¬ (s.dmaTake q d.irq).dmaRange d = true := by
    rw [hP]
    exact fun hc => absurd (hr.symm.trans hc) (by decide)
  have hdram : (s.dmaTake q d.irq).dram = s.dram := by rw [hP]
  unfold State.copyIn
  rw [if_neg hr']
  unfold State.dmaBadRange
  have hpart : ∃ w : State, w = (if (s.dmaTake q d.irq).staged_ d.daddr.toNat d.len.toNat then (s.dmaTake q d.irq).bump .MEM_PROT 31 0
      else s.dmaTake q d.irq) ∧ w.hst = (s.dmaTake q d.irq).hst ∧ w.dram = (s.dmaTake q d.irq).dram := by
    refine ⟨_, rfl, ?_⟩
    split
    · exact ⟨State.bump_hst .., State.bump_dram ..⟩
    · exact ⟨rfl, rfl⟩
  obtain ⟨w, hw, hwh, hwd⟩ := hpart
  dsimp only
  rw [← hw]
  exact ⟨h.result hwh _, hwd.trans hdram⟩

theorem dmaCopyOut_sends {q : Fin 16} {d : Desc} (h : Takes s q d 3 4) (hr : s.dmaRange d = true) (hc : s.cleanMem) :
    Completes (.dmaCopyOut q d) s (fun t => Flights q d.irq (some (0, 0, 0)) s t ∧
      t.sent = .hostData q d.haddr.toNat (memTake s.dram d.daddr.toNat d.len.toNat) :: s.sent) := by
  obtain ⟨hready, hfail, herrs⟩ := hc
  refine .of_next (congrArg Host.Outcome.next (h.run (dramAnswers_of_ready hready 4) rfl)) ?_
  obtain ⟨P, hP⟩ := s.dmaTake_only q d.irq
  have hhst : (s.dmaTake q d.irq).hst = (s.setDq q { s.dq q with flight := (s.dq q).flight ++ [⟨(s.dq q).next, d.irq, none⟩], next := ((s.dq q).next + 1) % s.dmaLen q }).hst := by
    rw [hP]
  generalize (s.setDq q _).hst = H at hhst hP
  rw [hP]
  obtain ⟨M, hM⟩ := State.memRead_clean (s := { s with hst := H, pmc := P }) (r := dmaReq q) (memBars_of_dmaRange hr _) hfail herrs
  unfold State.copyOut
  rw [if_pos (c := ({ s with hst := H, pmc := P } : State).dmaRange d = true) hr, hM]
  dsimp only
  generalize memTake s.dram d.daddr.toNat d.len.toNat = bytes
  obtain ⟨P', hP'⟩ := (({ s with hst := H, pmc := P, mem := M } : State).send (.hostData q d.haddr.toNat bytes)).dmaBytes_only d.len.toNat
  rw [hP']
  exact ⟨h.result hhst.symm _, rfl⟩

/-! ### Bulk descriptors (R304, R364) -/

theorem State.submitChange_waits {ch : Change} {org : Origin} (hw : s.warden.up = true) (hg : s.log.gate ≠ []) :
    s.submitChange ch org = { s with log := { s.log with gate := s.log.gate ++ [s.entry ch org (s.ownerMay org ch.addr)] } } := by
  have hdown : ¬ s.warden.down = true := by rw [Warden.down, hw]; exact Bool.false_ne_true
  unfold State.submitChange
  dsimp only
  rw [if_neg fun hc => hdown hc.1, if_neg hg]

theorem dmaBulkWr_waits {q : Fin 16} {d : Desc} {data : List Word} (h : Takes s q d 3 5) (ha : aligned4 d = true) (hw : s.warden.up = true)
    (hg : s.log.gate ≠ []) : Completes (.dmaBulkWr q d data) s (fun t => Flights q d.irq none s t ∧ t.log.gate = s.log.gate ++
      [s.entry (.bulk d.daddr.toNat ((List.range (d.len.toNat / 4)).map fun i => data.getD i 0) q) .host (s.ownerMay .host d.daddr.toNat)]) := by
  refine .of_next (congrArg Host.Outcome.next ((h.run rfl rfl).trans (if_pos ha))) ?_
  have hfl := s.dmaTake_flights q d.irq
  obtain ⟨P, hP⟩ := s.dmaTake_only q d.irq
  rw [hP] at hfl ⊢
  generalize (s.setDq q _).hst = H at hfl ⊢
  obtain ⟨P', hP'⟩ := State.dmaBytes_only { s with hst := H, pmc := P } d.len.toNat
  rw [hP', State.submitChange_waits (s := { ({ s with hst := H, pmc := P } : State) with pmc := P' }) hw hg]
  exact ⟨hfl.of_hst rfl, rfl⟩

theorem dmaBulkWr_unaligned {q : Fin 16} {d : Desc} {data : List Word} (h : Takes s q d 3 5) (ha : aligned4 d = false) :
    Completes (.dmaBulkWr q d data) s (Flights q d.irq (some (1, Code.range.num, 0)) s) :=
  .of_next (congrArg Host.Outcome.next ((h.run rfl rfl).trans (if_neg (by rw [ha]; decide)))) (h.result rfl _)

/-- A read of a word may move latches, what it clears, and the stamps of a port. -/
theorem State.readFirst_only (s : State) (r : Requester) (x : RegAt) : ∃ H L E, (s.readFirst r x).2 = { s with hw := H, latches := L, eth := E } := by
  have hclear : ∃ H, (if s.readReg (reqId r) x = 0 then s else s.clearRc x) = { s with hw := H } := by
    unfold State.clearRc
    split
    · exact ⟨s.hw, rfl⟩
    · split
      · exact ⟨_, rfl⟩
      · exact ⟨s.hw, rfl⟩
  have hpop : ∃ L E, s.popStamp r x.i = { s with latches := L, eth := E } := by
    unfold State.popStamp
    dsimp only
    split
    · exact ⟨_, s.eth, rfl⟩
    · exact ⟨_, _, rfl⟩
  unfold State.readFirst
  split
  · obtain ⟨L, E, h⟩ := hpop
    exact ⟨s.hw, L, E, h⟩
  · exact ⟨s.hw, _, s.eth, rfl⟩
  · exact ⟨s.hw, _, s.eth, rfl⟩
  · obtain ⟨H, h⟩ := hclear
    dsimp only
    rw [h]
    split
    · exact ⟨H, _, s.eth, rfl⟩
    · exact ⟨H, s.latches, s.eth, rfl⟩

theorem State.readWord_only (s : State) (r : Requester) (a : Nat) : ∃ H L E, (s.readWord r a).2 = { s with hw := H, latches := L, eth := E } := by
  unfold State.readWord
  split
  · exact ⟨s.hw, s.latches, s.eth, rfl⟩
  · split
    · exact ⟨s.hw, s.latches, s.eth, rfl⟩
    · split
      · exact ⟨s.hw, s.latches, s.eth, rfl⟩
      · split
        · exact s.readFirst_only r _
        · exact ⟨s.hw, s.latches, s.eth, rfl⟩

theorem State.bulkRead_spec (k : Nat) (s : State) (a : Nat) : (s.bulkRead a k).1.length = 4 * k ∧ (s.bulkRead a k).2.hst = s.hst := by
  induction k generalizing s a with
  | zero => exact ⟨rfl, rfl⟩
  | succ k ih =>
    obtain ⟨hl, hh⟩ := ih (s.readWord .host a).2 (a + 4)
    obtain ⟨H, L, E, hr⟩ := s.readWord_only .host a
    refine ⟨?_, hh.trans (by rw [hr])⟩
    rw [State.bulkRead, List.length_append, hl, bytesLE_length]
    omega

theorem aligned4_len {d : Desc} (h : aligned4 d = true) : d.len.toNat % 4 = 0 := (of_decide_eq_true h).1

theorem dmaBulkRd_sends {q : Fin 16} {d : Desc} (h : Takes s q d 3 6) (ha : aligned4 d = true) (hl : d.len.toNat ≤ 1048576)
    (hg : (groupOf d.daddr.toNat).isSome = true) : Completes (.dmaBulkRd q d) s (fun t => Flights q d.irq (some (0, 0, 0)) s t ∧
      ∃ bytes, .hostData q d.haddr.toNat bytes ∈ t.sent ∧ bytes.length = d.len.toNat) := by
  refine .of_next (congrArg Host.Outcome.next ((h.run rfl rfl).trans (if_pos ⟨ha, hl, hg⟩))) ?_
  obtain ⟨hlen, hh⟩ := (s.dmaTake q d.irq).bulkRead_spec (d.len.toNat / 4) d.daddr.toNat
  generalize (s.dmaTake q d.irq).bulkRead d.daddr.toNat (d.len.toNat / 4) = r at hlen hh ⊢
  obtain ⟨P, hP⟩ := (r.2.send (.hostData q d.haddr.toNat r.1)).dmaBytes_only d.len.toNat
  dsimp only
  rw [hP]
  refine ⟨h.result hh _, r.1, List.mem_cons_self, ?_⟩
  have := aligned4_len ha
  omega

theorem dmaBulkRd_long {q : Fin 16} {d : Desc} (h : Takes s q d 3 6) (hl : 1048576 < d.len.toNat) :
    Completes (.dmaBulkRd q d) s (Flights q d.irq (some (1, Code.range.num, 0)) s) :=
  .of_next (congrArg Host.Outcome.next ((h.run rfl rfl).trans (if_neg fun hc => absurd hc.2.1 (by omega)))) (h.result rfl _)

/-! ### Completion, the mailbox and the link (R360, R363, R365) -/

theorem State.irq_sends (s : State) (v : Nat) {m : Sent} (h : m ∈ s.sent) : m ∈ (s.irq v).sent := by
  unfold State.irq
  split
  · dsimp only
    split
    · exact h
    · exact List.mem_cons_of_mem _ h
  · exact h

theorem dmaComplete_spec {q : Fin 16} {x : DmaFl} {r : List DmaFl} {res code rxlen : Nat} (hon : s.coreOn = true)
    (hp : s.hst.pcie.isSome = true) (hf : (s.dq q).flight = x :: r) (hx : x.result = some (res, code, rxlen)) :
    Completes (.dmaComplete q) s (fun t => (t.dq q).flight = r ∧ (t.dq q).cons = (x.id + 1) % s.dmaLen q ∧
      .dma q res code rxlen ∈ t.sent) := by
  let s1 : State := (s.setDq q { s.dq q with flight := r, cons := (x.id + 1) % s.dmaLen q }).send (.dma q res code rxlen)
  have hex : s.dmaFinish q = (if x.irq then (if res = 0 then s1 else s1.bump .DMA_STAT 15 0 1 q).irq q
      else (if res = 0 then s1 else s1.bump .DMA_STAT 15 0 1 q)) := by
    unfold State.dmaFinish
    dsimp only
    rw [hf]
    dsimp only
    rw [hx]
  have h1 : (if res = 0 then s1 else s1.bump .DMA_STAT 15 0 1 q).hst = s1.hst ∧
      (if res = 0 then s1 else s1.bump .DMA_STAT 15 0 1 q).sent = s1.sent := by
    split
    · exact ⟨rfl, rfl⟩
    · exact ⟨State.bump_hst .., State.bump_sent ..⟩
  generalize (if res = 0 then s1 else s1.bump .DMA_STAT 15 0 1 q) = s2 at hex h1
  obtain ⟨hh, hm⟩ := h1
  have h2 : (if x.irq then s2.irq q else s2).hst = s2.hst ∧ ∀ m ∈ s2.sent, m ∈ (if x.irq then s2.irq q else s2).sent := by
    split
    · exact ⟨State.irq_hst .., fun m => s2.irq_sends q⟩
    · exact ⟨rfl, fun m h => h⟩
  refine .of_next (congrArg Host.Outcome.next ((if_pos ⟨hon, hp⟩).trans hex)) ?_
  have hdq : (if x.irq then s2.irq q else s2).dq q = { s.dq q with flight := r, cons := (x.id + 1) % s.dmaLen q } :=
    (dq_of_hst (s := s1) (h2.1.trans hh) q).trans (State.setDq_dq s q _)
  refine ⟨congrArg Dma.flight hdq, congrArg Dma.cons hdq, h2.2 _ ?_⟩
  rw [hm]
  exact List.mem_cons_self

theorem mbxResponse_info {req : List Byte} {reqs : List (List Byte)} (hm : s.hst.mbx = req :: reqs) (hw : s.warden.up = true)
    (ha : s.auditIdle = true) (hrsp : s.hst.rsp = none) (hb : s.hst.began = false) (hreq : ∃ seq : Byte, req = sbdRequest seq.toNat 3 []) :
    Completes .mbxResponse s (fun t => t.hst.mbx = reqs ∧ t.hst.rsp = some (sbdResponse (leNat (req.take 1)) 0 s.infoWords)) := by
  have hserve : s.mbxServe req = s.mbxAnswer 0 s.infoWords := by
    obtain ⟨seq, rfl⟩ := hreq
    rfl
  have hex : exec .mbxResponse s = .next (s.mbxServe req) := by
    refine congrArg Host.Outcome.next ?_
    rw [hm]
    exact if_pos ⟨hw, ha, by rw [hrsp]; rfl, by rw [hb]; decide⟩
  refine .of_next (hex.trans (congrArg Host.Outcome.next hserve)) ?_
  generalize s.infoWords = pay
  unfold State.mbxAnswer
  rw [hm]
  obtain ⟨_, _, hi⟩ := ({ s with hst := { s.hst with
      mbx := reqs, began := false, rsp := some (sbdResponse (leNat (req.take 1)) 0 pay) } } : State).irq_only 16
  dsimp only
  rw [hi]
  exact ⟨rfl, rfl⟩

theorem takes_of {kind op : Nat} {d : Desc} (h : s.dmaReady q = true ∧ s.dmaKind q = kind ∧ d.op.toNat = op ∧
    ∀ f ∈ (s.dq q).flight, f.id ≠ (s.dq q).next) : Takes s q d kind op := by
  obtain ⟨hr, hk, ho, hf⟩ := h
  exact ⟨hr, hk, ho, hf⟩

theorem dramAnswers_down (h : s.mem.ready = false) (hf : s.mem.failed = false) {op : Nat} (ho : op = 3 ∨ op = 4) : s.dramAnswers op = false := by
  unfold State.dramAnswers
  rw [h, hf, decide_eq_true ho]
  rfl

/-- Settles O47, one lemma per event. -/
theorem hostEventsComplete : Obligations.HostEventsComplete := by
  intro q d frame data m p f x r req reqs res code rxlen gen width s
  refine ⟨fun h h60 hmax hl hon => dmaTx_submits (takes_of h) h60 hmax hl hon, fun h h60 => dmaTx_runt (takes_of h) h60,
    fun h => dmaTx_other (takes_of h), fun h => congrArg Host.Outcome.next (if_neg fun hc => by rw [h] at hc; exact nomatch hc.1),
    fun h hf => ⟨?_, ?_⟩, fun h hn hs hl => dmaRx_delivers (takes_of h) hn hs hl, fun hn => ?_,
    fun h hr hc hm hlt => dmaCopyIn_writes (takes_of h) hr hc (Bool.and_eq_true_iff.mp hm).1 hlt,
    fun h hr hready => dmaCopyIn_badRange (takes_of h) hr hready, fun h hr hc => dmaCopyOut_sends (takes_of h) hr hc,
    fun h ha hw hg => dmaBulkWr_waits (takes_of h) ha hw hg, fun h ha => dmaBulkWr_unaligned (takes_of h) ha,
    fun h ha hl hg => dmaBulkRd_sends (takes_of h) ha hl hg, fun h hl => dmaBulkRd_long (takes_of h) hl,
    dmaComplete_spec, mbxResponse_info, .of_next rfl ⟨rfl, rfl⟩, fun hon => .of_next (congrArg Host.Outcome.next (if_pos hon)) ⟨rfl, rfl⟩⟩
  · exact congrArg Host.Outcome.next (if_neg fun hc => by rw [dramAnswers_down h hf (.inl rfl)] at hc; exact nomatch hc.2)
  · exact congrArg Host.Outcome.next (if_neg fun hc => by rw [dramAnswers_down h hf (.inr rfl)] at hc; exact nomatch hc.2)
  · refine congrArg Host.Outcome.next ?_
    unfold State.dmaRxOp
    rw [hn]

end Sys2Proof.Machine
end

section
/-! The frames and commands of the sideband and the CCCs of I3C (R34, R366 to R369, R390). -/

namespace Sys2Proof.Machine

set_option Elab.async false

variable {s t : State}

/-! ### Frames (R366 to R368) -/

theorem State.ibi_sends (s : State) (c : Nat) {m : Sent} (h : m ∈ s.sent) : m ∈ (s.ibi c).sent := by
  unfold State.ibi
  split
  · exact h
  · exact List.mem_cons_of_mem _ h

theorem State.sbdSend_sends (s : State) (seq status : Nat) (pay : List Byte) :
    .sbd (sbdResponse seq status pay) ∈ (s.sbdSend seq status pay).sent := State.ibi_sends _ 1 List.mem_cons_self

/-- A frame that does not come from the UART is looked at behind the boundary of the sideband. -/
theorem sidebandFrame_eq {path : SbdPath} (hw : s.warden.up = true) (hp : s.sbdPath path = true) (hu : path ≠ .uart) (bytes : List Byte) :
    ∃ F, exec (.sidebandFrame path bytes) s = .next (if frameOk bytes then ({ s with force := F } : State).sbdTake bytes
      else ({ s with force := F } : State).bump .SBD_STAT 15 8) := by
  obtain ⟨F, hF⟩ := s.applyE_only .sideband
  refine ⟨F, congrArg Host.Outcome.next ((if_pos ⟨hw, hp⟩).trans ?_)⟩
  have hb : s.boundary .sideband = { s with force := F } := hF
  unfold State.sbdFrame
  rw [hb]
  cases path with
  | uart => exact absurd rfl hu
  | i2c => exact if_neg fun h => nomatch h.1
  | i3c => exact if_neg fun h => nomatch h.1

theorem sidebandFrame_queued {path : SbdPath} {bytes : List Byte} (hw : s.warden.up = true) (hp : s.sbdPath path = true) (hu : path ≠ .uart)
    (hok : frameOk bytes = true) (hq : s.sbd.queue.length < 8)
    (hl : sbdLen (leNat (((bytes.take (bytes.length - 2)).drop 1).take 1)) ((bytes.take (bytes.length - 2)).drop 4) = some true) :
    Completes (.sidebandFrame path bytes) s (fun t => t.sbd.queue = s.sbd.queue ++ [bytes.take (bytes.length - 2)]) := by
  obtain ⟨F, hF⟩ := sidebandFrame_eq hw hp hu bytes
  rw [if_pos hok] at hF
  refine .of_next hF ?_
  unfold State.sbdTake
  dsimp only
  rw [if_neg (by omega), hl]

theorem sidebandFrame_busy {path : SbdPath} {bytes : List Byte} (hw : s.warden.up = true) (hp : s.sbdPath path = true) (hu : path ≠ .uart)
    (hok : frameOk bytes = true) (hq : 8 ≤ s.sbd.queue.length) : Completes (.sidebandFrame path bytes) s (fun t =>
      t.sbd.queue = s.sbd.queue ∧ .sbd (sbdResponse (leNat ((bytes.take (bytes.length - 2)).take 1)) 3 []) ∈ t.sent) := by
  obtain ⟨F, hF⟩ := sidebandFrame_eq hw hp hu bytes
  rw [if_pos hok] at hF
  have htake : ({ s with force := F } : State).sbdTake bytes =
      (({ s with force := F } : State).bump .SBD_STAT 7 0).sbdSend (leNat ((bytes.take (bytes.length - 2)).take 1)) 3 [] := if_pos hq
  refine .of_next (hF.trans (congrArg Host.Outcome.next htake)) ⟨?_, State.sbdSend_sends ..⟩
  rw [State.sbdSend_sbd, State.bump_sbd]

theorem sidebandFrame_bad {path : SbdPath} {bytes : List Byte} (hw : s.warden.up = true) (hp : s.sbdPath path = true) (hu : path ≠ .uart)
    (hok : frameOk bytes = false) : Completes (.sidebandFrame path bytes) s (fun t => t.sbd.queue = s.sbd.queue ∧
      bits (t.hwOf .SBD_STAT) 15 8 = min 255 (bits (s.hwOf .SBD_STAT) 15 8 + 1)) := by
  obtain ⟨F, hF⟩ := sidebandFrame_eq hw hp hu bytes
  rw [if_neg (by rw [hok]; decide)] at hF
  refine .of_next hF ⟨?_, State.bump_hwOf ({ s with force := F }) .SBD_STAT 15 8 1 0 0 0⟩
  rw [State.bump_sbd]

/-! ### Commands that Warden serves (R366, R369, R390) -/

/-- Warden is idle and `f` is at the head of its queue. -/
structure Serves (s : State) (f : List Byte) (rest : List (List Byte)) : Prop where
  up : s.warden.up = true
  idle : s.auditIdle = true
  wr : s.sbd.wr = none
  owes : s.sbd.owes = none
  queue : s.sbd.queue = f :: rest

section

variable {f : List Byte} {rest : List (List Byte)} {p : List Byte → Bool}

theorem Serves.serves (h : Serves s f rest) (hp : p f = true) : s.sbdServes p = true := by
  obtain ⟨hu, hi, hw, ho, hq⟩ := h
  unfold State.sbdServes
  rw [hu, hi, hw, ho, hq]
  exact hp

theorem Serves.pop (h : Serves s f rest) : s.sbdPop = { s with sbd := { s.sbd with queue := rest } } := by
  unfold State.sbdPop
  rw [h.queue]
  rfl

/-- A frame that is not at the head is not served. -/
theorem sbdServes_other {n cmd : Nat} (h : ∀ pay, s.sbd.queue.head? ≠ some (sbdRequest n cmd pay)) (pay : List Byte) :
    ¬ s.sbdServes (fun f => decide (f = sbdRequest n cmd pay)) = true := by
  intro hs
  unfold State.sbdServes at hs
  rw [Bool.and_eq_true] at hs
  obtain ⟨-, hs⟩ := hs
  split at hs
  next f r hq => exact h pay (by rw [hq, of_decide_eq_true hs]; rfl)
  · cases hs

end

theorem State.sbdRead_spec (k : Nat) (s : State) (a : Nat) : (s.sbdRead a k).1.length = 4 * k ∧ (s.sbdRead a k).2.sbd = s.sbd := by
  induction k generalizing s a with
  | zero => exact ⟨rfl, rfl⟩
  | succ k ih =>
    obtain ⟨hl, hh⟩ := ih (s.readWord .sideband (a % 2 ^ 32)).2 (a + 4)
    obtain ⟨H, L, E, hr⟩ := s.readWord_only .sideband (a % 2 ^ 32)
    refine ⟨?_, hh.trans (by rw [hr])⟩
    rw [State.sbdRead, List.length_append, hl, bytesLE_length]
    omega

theorem read_answers {seq : Byte} {addr : Word} {cnt : Nat} {rest : List (List Byte)}
    (h : Serves s (sbdRequest seq.toNat 1 (bytesLE 4 addr.toNat ++ bytesLE 2 cnt)) rest) : Completes (.read seq addr cnt) s (fun t =>
      t.sbd.queue = rest ∧ ∃ pay, .sbd (sbdResponse seq.toNat 0 pay) ∈ t.sent ∧ pay.length = 4 * cnt) := by
  obtain ⟨hlen, hsbd⟩ := s.sbdPop.sbdRead_spec cnt addr.toNat
  have hex : exec (.read seq addr cnt) s = .next ((s.sbdPop.sbdRead addr.toNat cnt).2.sbdSend seq.toNat 0 (s.sbdPop.sbdRead addr.toNat cnt).1) :=
    congrArg Host.Outcome.next (if_pos (h.serves (decide_eq_true rfl)))
  refine .of_next hex ⟨?_, _, State.sbdSend_sends .., hlen⟩
  rw [State.sbdSend_sbd, hsbd, h.pop]

theorem info_answers {seq : Byte} {rest : List (List Byte)} (h : Serves s (sbdRequest seq.toNat 3 []) rest) : Completes (.info seq) s (fun t =>
    t.sbd.queue = rest ∧ .sbd (sbdResponse seq.toNat 0 s.infoWords) ∈ t.sent) := by
  have hex : exec (.info seq) s = .next (s.sbdPop.sbdSend seq.toNat 0 s.infoWords) :=
    congrArg Host.Outcome.next (if_pos (h.serves (decide_eq_true rfl)))
  refine .of_next hex ⟨?_, State.sbdSend_sends ..⟩
  rw [State.sbdSend_sbd, h.pop]

/-- A command that answers when its operation ends: the change joins the gate behind what waits there. -/
def Begins (n cmd : Nat) (rest : List (List Byte)) (c : Change) (s t : State) : Prop := t.sbd.queue = rest ∧ t.sbd.owes = some (n, cmd) ∧
  t.log.gate = s.log.gate ++ [s.entry c .sideband (s.ownerMay .sideband c.addr)]

theorem Serves.begins {f : List Byte} {rest : List (List Byte)} (h : Serves s f rest) (hg : s.log.gate ≠ []) (n cmd : Nat) (c : Change) :
    Begins n cmd rest c s (s.sbdBegin n cmd c) := by
  unfold State.sbdBegin
  dsimp only
  rw [h.pop, State.submitChange_waits (s := { s with sbd := { s.sbd with queue := rest, owes := some (n, cmd) } }) h.up hg]
  exact ⟨rfl, rfl, rfl⟩

theorem configSave_begins {seq img : Byte} {rest : List (List Byte)} (h : Serves s (sbdRequest seq.toNat 0x10 [img]) rest) (hg : s.log.gate ≠ []) :
    Completes (.configSave seq img) s (Begins seq.toNat 0x10 rest (.cfgSave img.toNat) s) :=
  .of_next (congrArg Host.Outcome.next (if_pos (h.serves (decide_eq_true rfl)))) (h.begins hg ..)

theorem configSelect_begins {seq img : Byte} {rest : List (List Byte)} (h : Serves s (sbdRequest seq.toNat 0x11 [img]) rest) (hi : img ≠ 0xFF)
    (hg : s.log.gate ≠ []) : Completes (.configSelect seq img) s (Begins seq.toNat 0x11 rest (.cfgSelect (some img.toNat)) s) := by
  have hslot : imgSlot img.toNat = some img.toNat := if_neg fun h => hi (BitVec.eq_of_toNat_eq h)
  have hb := h.begins hg seq.toNat 0x11 (.cfgSelect (imgSlot img.toNat))
  rw [hslot] at hb
  refine .of_next (congrArg Host.Outcome.next (if_pos (h.serves (decide_eq_true rfl)))) ?_
  rw [hslot]
  exact hb

theorem bindoff_begins {seq : Byte} {zeroize : Bool} {rest : List (List Byte)}
    (h : Serves s (sbdRequest seq.toNat 0x12 [if zeroize then 1 else 0]) rest) (hg : s.log.gate ≠ []) :
    Completes (.bindoff seq zeroize) s (Begins seq.toNat 0x12 rest (.bindoff zeroize) s) := by
  have hseq : BitVec.ofNat 8 seq.toNat = seq := ofNat_of rfl
  refine .of_next (congrArg Host.Outcome.next (if_pos (h.serves ?_))) (h.begins hg ..)
  have h2 : (sbdRequest seq.toNat 0x12 [if zeroize then 1 else 0]).take 2 = [seq, 0x12] := congrArg (fun b => [b, 0x12]) hseq
  have h4 : (sbdRequest seq.toNat 0x12 [if zeroize then 1 else 0]).drop 4 = [if zeroize then 1 else 0] := rfl
  rw [h2, h4]
  refine Bool.and_eq_true_iff.mpr ⟨beq_self_eq_true _, ?_⟩
  cases zeroize
  · decide
  · decide

theorem State.assemble_low {x : RegAt} (hx : x.word = 0) (id v : Nat) : s.assemble id x v = v := by
  rw [State.assemble, hx]
  exact (Nat.zero_add _).trans (Nat.mul_one v)

/-- The write of a register of one word joins the gate behind what waits there. -/
theorem State.writeWord_waits {a v : Nat} {x : RegAt} (hg21 : groupOf a ≠ some 21) (hl : lookupReg a = some x) (hwords : x.reg.geo.words = 1)
    (hx0 : x.word = 0) (hro : x.readOnly = false) (hun : x.unaudited = false) (hw : s.warden.up = true) (hg : s.log.gate ≠ []) :
    (s.writeWord .sideband a v).sbd = s.sbd ∧ (s.writeWord .sideband a v).log.gate = s.log.gate ++
      [s.entry (.reg x.first v) .sideband (s.ownerMay .sideband x.first)] := by
  have hsub : s.writeWord .sideband a v = (s.unstage (reqId .sideband) x).submitChange (.reg x.first v) .sideband := by
    unfold State.writeWord
    have htakes : s.hostTakes .sideband = true := rfl
    rw [htakes, if_neg (by decide)]
    split
    next h => exact absurd h hg21
    · rw [hl]
      dsimp only
      rw [if_neg (by rw [hx0, hwords]; exact fun h => absurd h.1 (by decide)), hro, if_neg (by decide), State.assemble_low hx0, State.submitReg, hro,
        if_neg (by decide), hun, if_neg (by decide)]
      rfl
  rw [hsub, State.submitChange_waits (s := s.unstage (reqId .sideband) x) hw hg]
  exact ⟨rfl, rfl⟩

theorem write_waits {seq : Byte} {addr v : Word} {rest : List (List Byte)} {x : RegAt}
    (h : Serves s (sbdRequest seq.toNat 2 (bytesLE 4 addr.toNat ++ bytesLE 2 1 ++ bytesOfWords [v])) rest) (h4 : addr.toNat % 4 = 0)
    (hg21 : groupOf addr.toNat ≠ some 21) (hl : lookupReg addr.toNat = some x) (hwords : x.reg.geo.words = 1) (hx0 : x.word = 0)
    (hro : x.readOnly = false) (hun : x.unaudited = false) (hg : s.log.gate ≠ []) : Completes (.write seq addr [v]) s (fun t =>
      t.sbd.queue = rest ∧ t.sbd.wr = some ⟨seq.toNat, addr.toNat, 1, 0, [], true⟩ ∧
        t.log.gate = s.log.gate ++ [s.entry (.reg x.first v.toNat) .sideband (s.ownerMay .sideband x.first)]) := by
  let u : State := { s with sbd := { s.sbd with queue := rest, wr := some ⟨seq.toNat, addr.toNat, 1, 0, [], true⟩ } }
  obtain ⟨hsbd, hgate⟩ := State.writeWord_waits (s := u) (v := v.toNat) hg21 hl hwords hx0 hro hun h.up hg
  have haddr : (w32 (addr.toNat + 4 * 0)).toNat = addr.toNat := by
    rw [Nat.mul_zero, Nat.add_zero, w32, BitVec.ofNat_toNat, BitVec.setWidth_eq]
  have hacc : u.writeAccess .sideband ⟨4, w32 (addr.toNat + 4 * 0)⟩ v.toNat = u.writeWord .sideband addr.toNat v.toNat := by
    unfold State.writeAccess
    rw [haddr, if_pos ⟨rfl, h4⟩]
    rfl
  have hstill : (u.writeWord .sideband addr.toNat v.toNat).sbdIssue = u.writeWord .sideband addr.toNat v.toNat := by
    unfold State.sbdIssue
    rw [hsbd]
    rfl
  have hdrive : ({ s.sbdPop with sbd := { s.sbdPop.sbd with wr := some ⟨seq.toNat, addr.toNat, 1, 0, [v.toNat], false⟩ } } : State).sbdDrive =
      u.writeWord .sideband addr.toNat v.toNat := by
    rw [h.pop]
    exact (congrArg State.sbdIssue hacc).trans hstill
  refine .of_next (congrArg Host.Outcome.next ((if_pos (h.serves (decide_eq_true rfl))).trans hdrive)) ⟨?_, ?_, hgate⟩
  · rw [hsbd]
  · rw [hsbd]

/-! ### CCCs of I3C (R367) -/

/-- A CCC completes with what it makes of the target. -/
theorem Completes.i3c {i : Instr} {f : Sbd → Sbd} {P : State → Prop} (h : s.cast_.rstn = true ∧ s.cast_.aon = true)
    (hi : exec i s = .next (s.i3c f)) (hP : P { s with sbd := f s.sbd }) : Completes i s P :=
  .of_next (hi.trans (congrArg Host.Outcome.next (if_pos h))) hP

/-- The target takes a dynamic address where it has none. -/
def Sbd.assigned (da : BitVec 7) (x : Sbd) : Sbd := if x.daddr.isNone then { x with daddr := some da.toNat } else x

theorem Sbd.assigned_none {x : Sbd} (da : BitVec 7) (h : x.daddr = none) : (x.assigned da).daddr = some da.toNat := by
  rw [Sbd.assigned, h]
  rfl

theorem Sbd.assigned_some {x : Sbd} (da : BitVec 7) (h : x.daddr ≠ none) : x.assigned da = x :=
  if_neg fun hc => h (Option.isNone_iff_eq_none.mp hc)

end Sys2Proof.Machine
end

section
/-! The report of an uncorrectable codeword in MEM_UE_INFO and MEM_UE_ADDR (R372) outlasts the fault that it raises. A fault counts and
records elsewhere: the operations that source 24 can lead to are gone through in the order of the model. -/

namespace Sys2Proof.Machine

set_option Elab.async false

variable {s₀ s t : State}

/-- A register of hardware that is neither MEM_UE_INFO nor MEM_UE_ADDR. -/
def BesideUe (a : Nat) : Prop := a ≠ RegName.MEM_UE_INFO.addr ∧ a ≠ RegName.MEM_UE_ADDR.addr

/-- `t` holds the report that `s` holds. -/
def SameUe (s t : State) : Prop := t.hwOf .MEM_UE_INFO = s.hwOf .MEM_UE_INFO ∧ t.hwOf .MEM_UE_ADDR = s.hwOf .MEM_UE_ADDR

theorem SameUe.refl : SameUe s s := ⟨rfl, rfl⟩

theorem SameUe.of_hw (h : SameUe s₀ s) (hw : t.hw = s.hw) : SameUe s₀ t := by
  obtain ⟨h1, h2⟩ := h
  exact ⟨(hwOf_of_hw hw ..).trans h1, (hwOf_of_hw hw ..).trans h2⟩

/-- The other fields are variables, so that it unifies with a record update as the model writes it. -/
theorem SameUe.frame (h : SameUe s₀ s) {pending sent free wt fired regs force staged latches hostErr sbdErr warden log gau sel hld out seqs clus
    flt rcd pmc links twin tdc gnb key fuses att eth tsv aud mix hst sbd mem cast_ dram coreOn} :
    SameUe s₀ (State.mk pending sent free wt fired regs force s.hw staged latches hostErr sbdErr warden log gau sel hld out seqs clus flt rcd pmc
      links twin tdc gnb key fuses att eth tsv aud mix hst sbd mem cast_ dram coreOn) := h

theorem SameUe.ite {c : Prop} {_ : Decidable c} {u : State} (ht : SameUe s t) (hu : SameUe s u) : SameUe s (if c then t else u) := by
  split
  · exact ht
  · exact hu

theorem SameUe.set (h : SameUe s₀ s) {a v : Nat} (ha : BesideUe a) (ht : t.hw = s.hw.set a v) : SameUe s₀ t := by
  obtain ⟨h1, h2⟩ := h
  refine ⟨Eq.trans ?_ h1, Eq.trans ?_ h2⟩
  · rw [State.hwOf, ht]
    exact Tab.get_set_ne _ _ _ ha.1.symm
  · rw [State.hwOf, ht]
    exact Tab.get_set_ne _ _ _ ha.2.symm

theorem SameUe.setHw (h : SameUe s₀ s) {r : RegName} {hi lo w i j l : Nat} (ha : BesideUe (r.addr i j l)) :
    SameUe s₀ (s.setHw r hi lo w i j l) := h.set ha rfl

theorem SameUe.bump (h : SameUe s₀ s) {r : RegName} {hi lo k i j l : Nat} (ha : BesideUe (r.addr i j l)) :
    SameUe s₀ (s.bump r hi lo k i j l) := h.setHw ha

theorem besideUe_irqStat : BesideUe RegName.HST_IRQ_STAT.addr := ⟨by decide +kernel, by decide +kernel⟩

/-! ### Records, interrupts and messages -/

theorem SameUe.irq (h : SameUe s₀ s) {v : Nat} : SameUe s₀ (s.irq v) :=
  .ite (.ite (h.setHw besideUe_irqStat) ((h.setHw besideUe_irqStat).frame)) h

theorem SameUe.ibi (h : SameUe s₀ s) {c : Nat} : SameUe s₀ (s.ibi c) := h.of_hw (State.ibi_hw ..)

theorem SameUe.recEvent (h : SameUe s₀ s) {code arg : Nat} (hc : BesideUe (RegName.REC_CODE_SUPP.addr code)) : SameUe s₀ (s.recEvent code arg) := by
  have hs : BesideUe RegName.REC_STAT.addr := ⟨by decide +kernel, by decide +kernel⟩
  refine .ite (.ite (h.set hc rfl) ?_) ?_
  · exact SameUe.bump (SameUe.bump h.frame hc) hs
  · exact SameUe.bump h.frame hc

theorem SameUe.place (h : SameUe s₀ s) {r : LogRec} : SameUe s₀ (s.place r) := .ite (SameUe.irq h.frame).ibi h.frame

theorem SameUe.placeGap (h : SameUe s₀ s) : SameUe s₀ s.placeGap := .ite (h.place.frame) h

theorem SameUe.recordDeferred (h : SameUe s₀ s) {r : LogRec} : SameUe s₀ (s.recordDeferred r) := by
  unfold State.recordDeferred State.recordNormal
  split
  · split
    next u hu =>
      split at hu
      · exact Option.some.inj hu ▸ h.placeGap.place
      · cases hu
    · exact h.frame
  · exact h.frame

/-- A message to a sequencer of cluster 0. -/
theorem SameUe.deliver (h : SameUe s₀ s) {n port : Nat} {m : Msg} (hn : n < 16) : SameUe s₀ (s.deliver n port m) := by
  have hall : ∀ k : Fin 16, RegName.SEQ_ERR.addr k ≠ RegName.MEM_UE_INFO.addr ∧ RegName.SEQ_ERR.addr k ≠ RegName.MEM_UE_ADDR.addr := by decide +kernel
  refine .ite (h.of_hw ?_) (h.bump (hall ⟨n, hn⟩))
  dsimp only
  rw [State.pmcSeq_hw, State.wakeFor_hw]
  rfl

/-! ### The selection anew (R76 to R79) -/

theorem SameUe.ageCheck (h : SameUe s₀ s) : SameUe s₀ s.ageCheck := by
  have hs : BesideUe RegName.HLD_STAT.addr := ⟨by decide +kernel, by decide +kernel⟩
  have hstart : SameUe s₀ s.ageStart := .ite h h.frame
  have hfold : SameUe s₀ s.ageFold := .ite (.ite h.frame (SameUe.setHw h.frame hs)) h
  exact .ite (.ite hstart hfold) h

theorem State.latchAtom_hw (s : State) : s.latchAtom.hw = s.hw := by
  unfold State.latchAtom
  split
  · rfl
  · split
    · rfl
    · rfl

/-- Without a reference the Gauge goes to HOLDOVER and no step is dropped. -/
theorem SameUe.noRef (h : SameUe s₀ s) : SameUe s₀ s.noRef := by
  have hc : BesideUe (RegName.REC_CODE_SUPP.addr 1) := ⟨by decide +kernel, by decide +kernel⟩
  have hhold : SameUe s₀ (s.enterHoldover 1) := by
    unfold State.enterHoldover
    have h1 : SameUe s₀ s.latchAtom := h.of_hw s.latchAtom_hw
    generalize s.latchAtom = u at h1
    dsimp only
    rw [if_neg (c := (1 = 2 ∨ 1 = 3)) (by decide)]
    exact SameUe.recEvent (.ite (.ite h1.frame h1.frame) h1.frame) hc
  exact .ite hhold h

theorem SameUe.deselect (h : SameUe s₀ s) : SameUe s₀ s.deselect := by
  unfold State.deselect
  split
  · exact h
  · exact .ite h (SameUe.recordDeferred h.frame).noRef

theorem SameUe.deselectF (h : SameUe s₀ s) : SameUe s₀ s.deselectF := by
  unfold State.deselectF
  split
  · exact h
  next k _ =>
    refine .ite h ?_
    dsimp only
    generalize hu : State.recordDeferred _ _ = u
    have h1 : SameUe s₀ u := hu ▸ SameUe.recordDeferred h.frame
    exact (SameUe.ite h1 (.ite h1.frame h1)).ageCheck

theorem SameUe.requestF (h : SameUe s₀ s) : SameUe s₀ s.requestF := by
  unfold State.requestF
  split
  · exact h
  · exact .ite h (.ite h.frame h.frame)

theorem SameUe.abandon (h : SameUe s₀ s) : SameUe s₀ s.abandon := by
  have hc : BesideUe (RegName.REC_CODE_SUPP.addr 10) := ⟨by decide +kernel, by decide +kernel⟩
  unfold State.abandon
  split
  · exact h
  · exact SameUe.recEvent h.frame hc

theorem SameUe.prepare (h : SameUe s₀ s) {w : Nat} : SameUe s₀ (s.prepare w) := SameUe.deliver h.frame (bits_lt _ 27 24)

theorem SameUe.determine (h : SameUe s₀ s) : SameUe s₀ s.determine := by
  have h1 : SameUe s₀ s.deselect.deselectF.requestF := h.deselect.deselectF.requestF
  unfold State.determine State.requestT
  split
  · exact h1.abandon
  · exact .ite h1 h1.abandon.prepare

/-! ### RELINQUISH and HALT (R342, R343) -/

theorem State.launchEdge_hw (s : State) (src : Nat) (fall : Bool) (d : Int) : (s.launchEdge src fall d).hw = s.hw := by
  unfold State.launchEdge
  split
  · rfl
  · rfl

theorem State.loopEdge_hw (s : State) (i : Nat) (level : Bool) (d : Int) : (s.loopEdge i level d).hw = s.hw := by
  unfold State.loopEdge
  split
  · exact State.launchEdge_hw ..
  · rfl

theorem State.setPin_hw (s : State) (i : Nat) (o : OutU) (active : Bool) (at_ : Int) : (s.setPin i o active at_).hw = s.hw := by
  unfold State.setPin
  split
  · rfl
  · exact State.loopEdge_hw ..

theorem State.squelch_hw (s : State) : s.squelch.hw = s.hw := by
  refine List.foldlRecOn (motive := fun t : State => t.hw = s.hw) _ _ rfl fun t ht i _ => ?_
  unfold State.squelchOne
  split
  · exact (State.setPin_hw ..).trans ht
  · split
    · exact ht
    · exact ht

theorem State.sendRelinq_hw (s : State) : s.sendRelinq.hw = s.hw := by
  refine List.foldlRecOn (motive := fun t : State => t.hw = s.hw) _ _ rfl fun t ht l _ => ?_
  split
  · exact ht
  · exact ht

theorem State.stopSeqs_hw (s : State) : s.stopSeqs.hw = s.hw := by
  unfold State.stopSeqs
  refine List.foldlRecOn (motive := fun t : State => t.hw = s.hw) _ _ rfl fun t ht n _ => ?_
  split
  · exact ht
  · exact ht
  · exact ht

theorem SameUe.enterRelinq (h : SameUe s₀ s) : SameUe s₀ s.enterRelinq := by
  unfold State.enterRelinq
  refine .ite h ?_
  generalize hu : State.sendRelinq _ = u
  have h1 : SameUe s₀ u := SameUe.of_hw h.frame (hu ▸ State.sendRelinq_hw _)
  have hrole : SameUe s₀ (u.setRole .relinquished) := by
    refine .ite h1 ?_
    dsimp only
    rw [if_neg (by decide)]
    refine SameUe.determine (SameUe.of_hw ?_ (State.squelch_hw _))
    exact h1.frame
  exact SameUe.of_hw (.ite h1.frame hrole) (State.squelch_hw _)

theorem SameUe.enterHalt (h : SameUe s₀ s) : SameUe s₀ s.enterHalt := by
  unfold State.enterHalt
  exact ((h.enterRelinq.frame).of_hw (State.stopSeqs_hw _)).of_hw (State.squelch_hw _)

/-! ### Source 24 (R340, R372) -/

theorem SameUe.faultRecord (h : SameUe s₀ s) {unit : Nat} {inj : Bool} : SameUe s₀ (s.faultRecord 24 unit inj) := by
  have h1 : BesideUe (RegName.FLT_SRC_CNT.addr 24) := ⟨by decide +kernel, by decide +kernel⟩
  have h2 : BesideUe (RegName.FLT_SRC_STAT.addr 24) := ⟨by decide +kernel, by decide +kernel⟩
  have h3 : BesideUe (RegName.REC_CODE_SUPP.addr (0x80 + 24)) := ⟨by decide +kernel, by decide +kernel⟩
  unfold State.faultRecord
  dsimp only
  generalize hu : State.recEvent _ _ _ = u
  have h4 : SameUe s₀ u := hu ▸ SameUe.recEvent (((h.bump h1).setHw h2).frame) h3
  exact .ite h4.irq.ibi h4

theorem SameUe.faultDevice (h : SameUe s₀ s) {src sev : Nat} : SameUe s₀ (s.faultDevice src sev) :=
  .ite (.ite h h.enterRelinq.recordDeferred) (.ite (SameUe.ite h h.recordDeferred).enterHalt h)

/-- Source 24 has no fence action. -/
theorem SameUe.fault (h : SameUe s₀ s) {unit : Nat} {inj : Bool} : SameUe s₀ (s.fault 24 unit inj) := by
  have h1 : s.fault1 24 unit inj = ((s.faultRecord 24 unit inj).faultDevice 24 (s.severity 24 inj), none) := if_neg fun hc => nomatch hc.2
  unfold State.fault
  rw [h1]
  exact h.faultRecord.faultDevice

end Sys2Proof.Machine
end

section
/-! Scrub passes, the copy to the spare and the starvation of a requester (R371 to R373, R376): with the sideband, settles O48. -/

namespace Sys2Proof.Machine

set_option Elab.async false

variable {s t : State}

theorem Reacts.mem_eq {ρ : Prop} {s₀ : State} (h : Reacts False ρ s₀ t) : t.mem = s₀.mem := by
  induction h with
  | refl => rfl
  | frame _ _ _ ih => exact ih
  | setSq _ _ ih => exact ih
  | setFe _ ih => exact ih
  | setChan _ ih => exact ih
  | memory hm _ _ => exact hm.elim

/-! ### Symbols in error (R371) -/

/-- The codeword of a symbol. -/
def symCw (f : SymErr) : Nat := f.addr.toNat / 16 * 16

/-- A symbol as external memory holds it. -/
def symErr (f : SymErr) : CwErr := ⟨symCw f, f.xfer, f.dev, f.flip.toNat⟩

/-- A read of codeword `cw` meets the symbol. -/
def State.meets (s : State) (cw : Nat) (f : SymErr) : Prop := f.flip ≠ 0 ∧ ∃ d < 9, s.devAt (s.memChan cw) d = f.dev

/-- External memory holds the symbols `l` in error. -/
def State.withErrs (s : State) (l : List CwErr) : State := { s with mem := { s.mem with errs := l } }

/-- A symbol that is not in error yet joins those that are. -/
theorem State.addErr_new {f : SymErr} (hnew : ∀ e ∈ s.mem.errs, ¬ (e.cw = symCw f ∧ e.b = f.xfer ∧ e.d = f.dev)) (hf : f.flip ≠ 0) :
    s.addErr f = s.withErrs (s.mem.errs ++ [symErr f]) := by
  have hflip : (0 ^^^ f.flip.toNat) = f.flip.toNat := Nat.zero_xor _
  have hne : f.flip.toNat ≠ 0 := fun hc => hf (BitVec.eq_of_toNat_eq hc)
  have hfind : s.mem.errs.find? (fun x : CwErr => decide (x.cw = symCw f ∧ x.b = f.xfer ∧ x.d = f.dev)) = none :=
    List.find?_eq_none.mpr fun e he => by rw [decide_eq_true_iff]; exact hnew e he
  have hrest : s.mem.errs.filter (fun x : CwErr => !decide (x.cw = symCw f ∧ x.b = f.xfer ∧ x.d = f.dev)) = s.mem.errs :=
    List.filter_eq_self.mpr fun e he => by rw [decide_eq_false (hnew e he)]; rfl
  unfold State.addErr
  dsimp only
  rw [show f.addr.toNat / 16 * 16 = symCw f from rfl, hfind, hrest]
  dsimp only
  rw [hflip, if_neg hne]
  rfl

theorem State.cwErrs_all {cw : Nat} (hall : ∀ e ∈ s.mem.errs, e.cw = cw ∧ ∃ d < 9, s.devAt (s.memChan cw) d = e.d) : s.cwErrs cw = s.mem.errs := by
  unfold State.cwErrs
  refine List.filter_eq_self.mpr fun e he => ?_
  obtain ⟨hc, d, hd, hdev⟩ := hall e he
  rw [Bool.and_eq_true, decide_eq_true_iff, List.any_eq_true]
  exact ⟨hc, d, List.mem_range.mpr hd, decide_eq_true hdev⟩

/-- The next pass begins. -/
def State.passEnds (s : State) : State := { s with mem := { s.mem with passCorr := [] } }

/-- A pass over errors of one codeword reads that codeword. -/
theorem State.scrub_one {cw n : Nat} (hcw : cw < s.memSize) (hmap : s.mem.errs.map CwErr.cw = List.replicate (n + 1) cw) :
    ∃ T, s.scrub = (({ s with mem := { s.mem with txs := T } } : State).readCw 14 true cw).2.passEnds := by
  have hbad : s.badCws 0 s.memSize = [cw] := by
    unfold State.badCws
    rw [hmap, List.filter_eq_self.mpr, List.replicate_dedup (Nat.succ_ne_zero n)]
    intro a ha
    rw [List.eq_of_mem_replicate ha]
    exact decide_eq_true ⟨by omega, by omega⟩
  obtain ⟨T, hT⟩ := s.memPost_only 14 cw 16
  refine ⟨T, ?_⟩
  unfold State.scrub
  rw [hbad, ← hT]
  rfl

/-! ### A symbol that is corrected (R372, R373) -/

theorem State.corrected_spec (s : State) (r c d : Nat) : (s.corrected r c d).mem.errs = s.mem.errs ∧
    bits ((s.corrected r c d).hwOf .MEM_CORR c d) 31 0 = min (2 ^ 32 - 1) (bits (s.hwOf .MEM_CORR c d) 31 0 + 1) ∧
    (s.on .MEM_SPARE 30 c = true → s.fl .MEM_SPARE 15 0 c ≤ s.mem.passCorr.get (16 * c + d) 0 + 1 → d ≤ 8 → s.spareSt c = 0 →
      (s.corrected r c d).spareSt c = 1) := by
  let v : State := { s with mem := { s.mem with passCorr := s.mem.passCorr.set (16 * c + d) (s.mem.passCorr.get (16 * c + d) 0 + 1) } }
  have hcount := State.bump_hwOf v .MEM_CORR 31 0 1 c d 0
  obtain ⟨P, hP⟩ := (v.bump .MEM_CORR 31 0 1 c d).pmcEv_only 1000 1015 (r % 16 * 16 + 4) 1
  have hs1 : (v.bump .MEM_CORR 31 0 1 c d).pmcMem r 4 = { v.bump .MEM_CORR 31 0 1 c d with pmc := P } := hP
  unfold State.corrected
  dsimp only
  rw [hs1]
  split
  · exact ⟨rfl, hcount, fun _ _ _ _ => Tab.get_set_same ..⟩
  next hno => exact ⟨rfl, hcount, fun hon hth hd hsp => absurd ⟨hon, hth, hd, hsp⟩ hno⟩

theorem scrubPass_corrects {f : SymErr} (hon : s.coreOn = true) (hr : s.mem.ready = true) (he : s.mem.errs = []) (hcw : symCw f < s.memSize)
    (hf : s.meets (symCw f) f) : Completes (.scrubPass [f] ()) s (fun t => t.mem.errs = [] ∧ t.mem.passCorr = [] ∧
      bits (t.hwOf .MEM_CORR (s.memChan (symCw f)) f.dev) 31 0 =
        min (2 ^ 32 - 1) (bits (s.hwOf .MEM_CORR (s.memChan (symCw f)) f.dev) 31 0 + 1) ∧
      (s.on .MEM_SPARE 30 (s.memChan (symCw f)) = true →
        s.fl .MEM_SPARE 15 0 (s.memChan (symCw f)) ≤ s.mem.passCorr.get (16 * s.memChan (symCw f) + f.dev) 0 + 1 → f.dev.val ≤ 8 →
        s.spareSt (s.memChan (symCw f)) = 0 → t.spareSt (s.memChan (symCw f)) = 1)) := by
  obtain ⟨hflip, hdev⟩ := hf
  have hadd : s.addErr f = s.withErrs [symErr f] := by
    rw [State.addErr_new (by rw [he]; exact fun e h => absurd h List.not_mem_nil) hflip, he]
    rfl
  obtain ⟨T, hT⟩ := State.scrub_one (s := s.withErrs [symErr f]) (cw := symCw f) (n := 0) hcw rfl
  have hex : exec (.scrubPass [f] ()) s = .next (s.withErrs [symErr f]).scrub :=
    congrArg Host.Outcome.next ((if_pos ⟨hon, hr⟩).trans (congrArg State.scrub hadd))
  let v : State := { s with mem := { s.mem with errs := [symErr f], txs := T } }
  have hcws : v.cwErrs (symCw f) = [symErr f] := State.cwErrs_all (s := v) fun e h => by
    rw [List.mem_singleton.mp h]
    exact ⟨rfl, hdev⟩
  obtain ⟨herrs, hcount, hspare⟩ := v.corrected_spec 14 (s.memChan (symCw f)) f.dev
  have hread : (v.readCw 14 true (symCw f)).2 = (v.corrected 14 (s.memChan (symCw f)) f.dev).withErrs
      ((v.corrected 14 (s.memChan (symCw f)) f.dev).mem.errs.filter fun x => x ≠ symErr f) := by
    unfold State.readCw
    rw [hcws]
    rfl
  generalize v.corrected 14 (s.memChan (symCw f)) f.dev = u at herrs hcount hspare hread
  refine .of_next (hex.trans (congrArg Host.Outcome.next (hT.trans (congrArg State.passEnds hread)))) ⟨?_, rfl, hcount, hspare⟩
  show u.mem.errs.filter (fun x => x ≠ symErr f) = []
  rw [herrs]
  exact List.filter_eq_nil_iff.mpr fun e h => by rw [List.mem_singleton.mp h]; simp

/-! ### A codeword that is not (R372) -/

/-- A field above the bits that change stays. -/
theorem bits_putBits_below (v : Nat) {hi lo h l : Nat} (hlt : hi < l) (w : Nat) : bits (putBits v hi lo w) h l = bits v h l := by
  refine Nat.eq_of_testBit_eq fun i => ?_
  rw [testBit_bits, testBit_bits, testBit_putBits, if_neg (by omega)]

theorem State.setHw_hwOf_ne (s : State) {r r' : RegName} (hi lo w : Nat) {i j l i' j' l' : Nat} (h : r'.addr i' j' l' ≠ r.addr i j l) :
    (s.setHw r hi lo w i j l).hwOf r' i' j' l' = s.hwOf r' i' j' l' := Tab.get_set_ne _ _ _ h

theorem State.irq_hwOf (s : State) (v : Nat) {r : RegName} {i j l : Nat} (h : r.addr i j l ≠ RegName.HST_IRQ_STAT.addr) :
    (s.irq v).hwOf r i j l = s.hwOf r i j l := by
  unfold State.irq
  split
  · dsimp only
    split
    · exact State.setHw_hwOf_ne s v v 1 h
    · exact State.setHw_hwOf_ne s v v 1 h
  · rfl

/-- The first uncorrectable codeword is reported and counted. -/
def State.ueReport (s : State) (r addr : Nat) : State :=
  (((s.setHw .MEM_UE_ADDR 63 0 addr).setHw .MEM_UE_INFO 31 31 1).setHw .MEM_UE_INFO 19 16 r).bump .MEM_UE_INFO 15 0

theorem State.ueReport_info (s : State) (r addr : Nat) : bitOn ((s.ueReport r addr).hwOf .MEM_UE_INFO) 31 = true ∧
    bits ((s.ueReport r addr).hwOf .MEM_UE_INFO) 19 16 = r % 16 := by
  have hset (u : State) (k : Nat) : ∃ w, (u.bump .MEM_UE_INFO 15 0 k).hwOf .MEM_UE_INFO = putBits (u.hwOf .MEM_UE_INFO) 15 0 w :=
    ⟨_, State.setHw_hwOf ..⟩
  unfold State.ueReport
  obtain ⟨w, hw⟩ := hset (((s.setHw .MEM_UE_ADDR 63 0 addr).setHw .MEM_UE_INFO 31 31 1).setHw .MEM_UE_INFO 19 16 r) 1
  rw [hw, State.setHw_hwOf, State.setHw_hwOf]
  refine ⟨?_, ?_⟩
  · rw [bitOn_putBits, if_neg (by decide), bitOn_putBits, if_neg (by decide), bitOn_putBits, if_pos (by decide)]
    rfl
  · rw [bits_putBits_below _ (by decide), bits_putBits]
    exact congrArg (r % ·) (rfl : 2 ^ (19 + 1 - 16) = 16)

theorem State.ueReport_addr (s : State) (r addr : Nat) : bits ((s.ueReport r addr).hwOf .MEM_UE_ADDR) 63 0 = addr % 2 ^ 64 := by
  have hne : RegName.MEM_UE_ADDR.addr ≠ RegName.MEM_UE_INFO.addr := by decide +kernel
  have h1 : (s.ueReport r addr).hwOf .MEM_UE_ADDR = (s.setHw .MEM_UE_ADDR 63 0 addr).hwOf .MEM_UE_ADDR :=
    (State.setHw_hwOf_ne _ _ _ _ hne).trans ((State.setHw_hwOf_ne _ _ _ _ hne).trans (State.setHw_hwOf_ne _ _ _ _ hne))
  rw [h1, State.setHw_hwOf, bits_putBits]

/-- What an uncorrectable codeword raises leaves its report and external memory as they are. -/
theorem State.raised_spec (u : State) (r : Nat) (inj : Bool) : SameUe u (((u.reported 24 r).fault 24 r inj).irq 19) ∧
    (((u.reported 24 r).fault 24 r inj).irq 19).mem = u.mem := by
  have hrep : SameUe u (u.reported 24 r) := .ite SameUe.refl.frame .refl
  have hre : Reacts False True u (u.reported 24 r) := Reacts.refl.reported
  exact ⟨hrep.fault.irq, hre.fault.irq.mem_eq⟩

theorem State.memUe_spec {r addr : Nat} (h31 : bitOn (s.hwOf .MEM_UE_INFO) 31 = false) (hr : r < 16) (ha : addr < 2 ^ 64) :
    (s.memUe r addr).mem = s.mem ∧ bitOn ((s.memUe r addr).hwOf .MEM_UE_INFO) 31 = true ∧
      bits ((s.memUe r addr).hwOf .MEM_UE_INFO) 19 16 = r ∧ bits ((s.memUe r addr).hwOf .MEM_UE_ADDR) 63 0 = addr := by
  obtain ⟨P, hP⟩ := (s.ueReport r addr).pmcEv_only 1000 1015 (r % 16 * 16 + 5) 1
  let u : State := { s.ueReport r addr with pmc := P }
  have hue : s.memUe r addr = ((u.reported 24 r).fault 24 r (u.injected 24 r)).irq 19 := by
    unfold State.memUe
    dsimp only
    rw [if_neg (by rw [h31]; decide)]
    exact congrArg (fun w : State => ((w.reported 24 r).fault 24 r (w.injected 24 r)).irq 19) hP
  obtain ⟨⟨hinfo, haddr⟩, hmem⟩ := u.raised_spec r (u.injected 24 r)
  rw [hue, hinfo, haddr]
  obtain ⟨hbit, hreq⟩ := s.ueReport_info r addr
  exact ⟨hmem, hbit, hreq.trans (Nat.mod_eq_of_lt hr), (s.ueReport_addr r addr).trans (Nat.mod_eq_of_lt ha)⟩

/-- Two symbols of a codeword in error are detected (R371). -/
theorem State.readCw_two {cw r : Nat} {wb : Bool} {a b : CwErr} (h : s.cwErrs cw = [a, b]) : (s.readCw r wb cw).2 = s.memUe r cw := by
  have hd : s.cwDetects cw = (true, s) := by
    unfold State.cwDetects
    rw [h]
    rfl
  unfold State.readCw
  rw [h]
  dsimp only
  rw [hd]
  rfl

theorem scrubPass_poisons {f g : SymErr} (hon : s.coreOn = true) (hr : s.mem.ready = true) (he : s.mem.errs = []) (hcw : symCw f < s.memSize)
    (hf : s.meets (symCw f) f) (hg : s.meets (symCw f) g) (hsame : symCw g = symCw f) (hne : (f.xfer, f.dev) ≠ (g.xfer, g.dev))
    (h31 : bitOn (s.hwOf .MEM_UE_INFO) 31 = false) : Completes (.scrubPass [f, g] ()) s (fun t => t.mem.errs.length = 2 ∧
      bitOn (t.hwOf .MEM_UE_INFO) 31 = true ∧ bits (t.hwOf .MEM_UE_INFO) 19 16 = 14 ∧ bits (t.hwOf .MEM_UE_ADDR) 63 0 = symCw f) := by
  obtain ⟨hflip, hdev⟩ := hf
  obtain ⟨hflip', hdev'⟩ := hg
  have hadd : s.addErr f = s.withErrs [symErr f] := by
    rw [State.addErr_new (by rw [he]; exact fun e h => absurd h List.not_mem_nil) hflip, he]
    rfl
  have hadd' : (s.withErrs [symErr f]).addErr g = s.withErrs [symErr f, symErr g] := by
    refine State.addErr_new (s := s.withErrs [symErr f]) (fun e h => ?_) hflip'
    rw [List.mem_singleton.mp h]
    rintro ⟨-, hx, hd⟩
    exact hne (by rw [Fin.ext hx, Fin.ext hd])
  obtain ⟨T, hT⟩ := State.scrub_one (s := s.withErrs [symErr f, symErr g]) (cw := symCw f) (n := 1) hcw
    (congrArg (fun c => [symCw f, c]) hsame)
  have hex : exec (.scrubPass [f, g] ()) s = .next (s.withErrs [symErr f, symErr g]).scrub :=
    congrArg Host.Outcome.next ((if_pos ⟨hon, hr⟩).trans (congrArg State.scrub ((congrArg (State.addErr · g) hadd).trans hadd')))
  let v : State := { s with mem := { s.mem with errs := [symErr f, symErr g], txs := T } }
  have hcws : v.cwErrs (symCw f) = [symErr f, symErr g] := State.cwErrs_all (s := v) fun e h => by
    rcases List.mem_cons.mp h with rfl | h
    · exact ⟨rfl, hdev⟩
    · rw [List.mem_singleton.mp h]
      exact ⟨hsame, hdev'⟩
  have hread : (v.readCw 14 true (symCw f)).2 = v.memUe 14 (symCw f) := State.readCw_two hcws
  have hlt : symCw f < 2 ^ 64 := lt_of_le_of_lt (Nat.div_mul_le_self ..) f.addr.isLt
  obtain ⟨hmem, hbit, hreq, haddr⟩ := State.memUe_spec (s := v) (r := 14) h31 (by decide) hlt
  generalize v.memUe 14 (symCw f) = u at hread hmem hbit hreq haddr
  refine .of_next (hex.trans (congrArg Host.Outcome.next (hT.trans (congrArg State.passEnds hread)))) ⟨?_, hbit, hreq, haddr⟩
  exact congrArg (fun m : MemS => m.errs.length) hmem

/-! ### The copy to the spare and starvation (R373, R376) -/

theorem spareCopyDone_spec {ch : Fin 2} (h : s.spareSt ch = 1) : Completes (.spareCopyDone ch) s (fun t => t.spareSt ch = 2) := by
  refine .of_next (congrArg Host.Outcome.next (if_pos h)) ?_
  unfold State.spareSt
  rw [State.irq_mem]
  exact Tab.get_set_same ..

theorem starveLimit_spec {q : Fin 16} (hw : s.memWaits q = true) (hage : s.fl .MEM_STARVE 15 0 q * 1000 < s.memAge q) :
    Completes (.starveLimit q ()) s (fun t => bitOn (t.hwOf .MEM_REQ_STAT q) 31 = true) := by
  have hall : ∀ k : Fin 16, RegName.MEM_REQ_STAT.addr k ≠ RegName.HST_IRQ_STAT.addr := by decide +kernel
  by_cases hset : bitOn (s.hwOf .MEM_REQ_STAT q) 31 = true
  · exact .of_next (congrArg Host.Outcome.next (if_neg fun hc => hc.2.2 hset)) hset
  · refine .of_next (congrArg Host.Outcome.next (if_pos ⟨hw, hage, hset⟩)) ?_
    rw [State.irq_hwOf _ _ (hall q), State.setHw_hwOf, bitOn_putBits, if_pos (by decide)]
    rfl

/-- Settles O48, one lemma per command and event. -/
theorem sidebandEventsComplete : Obligations.SidebandEventsComplete := by
  intro path bytes seq img events addr v cnt words zeroize rest x da h f g ch q s
  have hserves {f : List Byte} (h : (s.warden.up = true ∧ s.auditIdle = true ∧ s.sbd.wr = none ∧ s.sbd.owes = none) ∧ s.sbd.queue = f :: rest) :
      Serves s f rest := by
    obtain ⟨⟨hu, hi, hw, ho⟩, hq⟩ := h
    exact ⟨hu, hi, hw, ho, hq⟩
  refine ⟨?_, ?_, ?_, ?_, .of_next rfl ⟨rfl, rfl⟩, fun _ _ h => read_answers (hserves h), fun h => congrArg Host.Outcome.next (if_neg (sbdServes_other h _)),
    fun h h4 hg21 hl hwords hx0 hro hun hg => write_waits (hserves h) h4 hg21 hl hwords hx0 hro hun hg, fun h => ?_,
    fun h => info_answers (hserves h), fun h hg => configSave_begins (hserves h) hg, fun h hi hg => configSelect_begins (hserves h) hi hg,
    fun h hg => bindoff_begins (hserves h) hg, fun ha hn => .i3c ha rfl (Sbd.assigned_none da hn), fun ha hn => .i3c ha rfl (Sbd.assigned_none da hn),
    fun ha hn => .i3c ha rfl (Sbd.assigned_some da hn), fun ha => .i3c ha rfl rfl, fun ha => .i3c ha rfl ⟨rfl, rfl⟩,
    fun ha => .i3c ha rfl ⟨rfl, rfl⟩, fun ha => .of_next (congrArg Host.Outcome.next (if_pos ha)) rfl, fun ha he => .i3c ha rfl ?_,
    fun ha he => .i3c ha rfl ?_, ?_, ?_, spareCopyDone_spec, fun hs => congrArg Host.Outcome.next (if_neg hs), starveLimit_spec, ?_⟩
  · rintro ⟨hw, hp, hu⟩ hok hq hl
    exact sidebandFrame_queued hw hp hu hok hq hl
  · rintro ⟨hw, hp, hu⟩ hok hq
    exact sidebandFrame_busy hw hp hu hok hq
  · rintro ⟨hw, hp, hu⟩ hok
    exact sidebandFrame_bad hw hp hu hok
  · intro hw
    exact congrArg Host.Outcome.next (if_neg fun hc => by rw [hw] at hc; exact nomatch hc.1)
  · exact congrArg Host.Outcome.next (if_neg (sbdServes_other h _))
  · rw [he, Bool.or_true]
  · rw [he, Bool.not_true, Bool.and_false]
  · rintro ⟨hon, hr, he, hcw⟩ hf
    exact scrubPass_corrects hon hr he hcw hf
  · rintro ⟨hon, hr, he, hcw⟩ hf ⟨hflip, hdev⟩ hsame hne h31
    exact scrubPass_poisons hon hr he hcw hf ⟨hflip, hdev⟩ hsame hne h31
  · rintro (hw | ha)
    · exact congrArg Host.Outcome.next (if_neg fun hc => by rw [hw] at hc; exact nomatch hc.1)
    · exact congrArg Host.Outcome.next (if_neg fun hc => absurd hc.2.1 (by omega))

end Sys2Proof.Machine
end
